-- ==== Sys2Proof/Word.lean ====
section
/-!
DEFINITION. Word widths and index types of the SF2128 (R5, R8, and the counts of the "Headline figures" of the scope file).
-/

namespace Sys2Proof

/-- A CLK_FAB tick count (R8): one tick is 1.5625 ns. -/
abbrev Tick := Nat

/-- A 40-bit word (R5). -/
abbrev W40 := BitVec 40
abbrev W64 := BitVec 64
abbrev Byte := BitVec 8

abbrev PortId := Fin 128
abbrev GroupId := Fin 16
abbrev SliceId := Fin 144
abbrev CtxId := Fin 4096
abbrev ListId := Fin 1024
abbrev ChanId := Fin 1024
abbrev RingId := Fin 32
abbrev RegionId := Fin 64
abbrev PinId := Fin 16
abbrev CounterId := Fin 64
abbrev DelayId := Fin 16
abbrev TimerId := Fin 16
abbrev RailId := Fin 16
abbrev SessionId := Fin 4
/-- PF0 is 0 and VF`n` is `n` (R396). -/
abbrev FnId := Fin 17
abbrev KeyId := Fin 4
/-- A principal code of R236: 0 P_SUP, 1 PF0, 2-17 VF1-VF16, 18-21 NET_0-NET_3, 22 LEG. -/
abbrev Principal := Fin 23
/-- An input of the monitor converter (R272). -/
abbrev McInput := Fin 1024

/-- Ticks of one microsecond and one millisecond (R8). -/
def us : Nat := 640
def ms : Nat := 640000
def sec : Nat := 640000000

/-- Group, local index, home slice and relief slice of R25. -/
def groupOf (p : Nat) : Nat := p / 8
def localOf (p : Nat) : Nat := p % 8
def homeSlice (p : Nat) : Nat := 9 * (p / 8) + p % 8
def reliefSlice (g : Nat) : Nat := 9 * g + 8

end Sys2Proof
end

