-- ==== Sys2Proof/Machine/Crypto.lean ====
section
/-!
DEFINITION. SHA-256 and HMAC-SHA-256, which authenticate COP messages (R364), from FIPS 180-4 and RFC 2104. A chaining value, a block and the
constants are bit strings, whose 32-bit words are numbered from the right.
-/

namespace Sys2Proof.Machine
namespace Sha

/-- Word `i` of a bit string. -/
def word {n : Nat} (x : BitVec n) (i : Nat) : BitVec 32 := x.extractLsb' (32 * i) 32

/-- The XOR of a word rotated right by each of three amounts. -/
def turn (x : BitVec 32) (l m n : Nat) : BitVec 32 := x.rotateRight l ^^^ x.rotateRight m ^^^ x.rotateRight n

/-- The same with the last amount a shift. -/
def turnOut (x : BitVec 32) (l m n : Nat) : BitVec 32 := x.rotateRight l ^^^ x.rotateRight m ^^^ x >>> n

/-- The chaining value that a message starts from. -/
def start : BitVec 256 := 0x6a09e667bb67ae853c6ef372a54ff53a510e527f9b05688c1f83d9ab5be0cd19

/-- The constants of the 64 rounds, sixteen to a string, the earliest leftmost. -/
def rounds : List (BitVec 512) := [
  0x428a2f9871374491b5c0fbcfe9b5dba53956c25b59f111f1923f82a4ab1c5ed5d807aa9812835b01243185be550c7dc372be5d7480deb1fe9bdc06a7c19bf174,
  0xe49b69c1efbe47860fc19dc6240ca1cc2de92c6f4a7484aa5cb0a9dc76f988da983e5152a831c66db00327c8bf597fc7c6e00bf3d5a7914706ca635114292967,
  0x27b70a852e1b21384d2c6dfc53380d13650a7354766a0abb81c2c92e92722c85a2bfe8a1a81a664bc24b8b70c76c51a3d192e819d6990624f40e3585106aa070,
  0x19a4c1161e376c082748774c34b0bcb5391c0cb34ed8aa4a5b9cca4f682e6ff3748f82ee78a5636f84c878148cc7020890befffaa4506cebbef9a3f7c67178f2]

/-- A round: the words a to h move one place to the right, h drops out, and `k` is its constant plus its schedule word. -/
def stir (x : BitVec 256) (k : BitVec 32) : BitVec 256 :=
  let choose := word x 1 ^^^ (word x 3 &&& (word x 2 ^^^ word x 1))
  let most := (word x 7 &&& word x 6) ||| (word x 5 &&& (word x 7 ||| word x 6))
  let new := word x 0 + turn (word x 3) 6 11 25 + choose + k
  let moved := x >>> 32
  (new + turn (word x 7) 2 13 22 + most) ++ moved.extractLsb' 128 96 ++ (word x 4 + new) ++ moved.extractLsb' 0 96

/-- The window over the message schedule moves by one word. -/
def slide (m : BitVec 512) : BitVec 512 :=
  m.extractLsb' 0 480 ++ (word m 15 + turnOut (word m 14) 7 18 3 + word m 6 + turnOut (word m 1) 17 19 10)

/-- Sixteen rounds with the constants of one string. -/
def quarter (q : BitVec 256 × BitVec 512) (ks : BitVec 512) : BitVec 256 × BitVec 512 :=
  (List.range 16).foldl (fun q i => (stir q.1 (word ks (15 - i) + word q.2 15), slide q.2)) q

/-- The chaining value after a block: the eight words of the rounds' result are added to it. -/
def absorb (x : BitVec 256) (m : BitVec 512) : BitVec 256 :=
  let y := (rounds.foldl quarter (x, m)).1
  (List.range 8).foldl (fun z i => z ||| (word x i + word y i).setWidth 256 <<< (32 * i)) 0

/-- Sixty-four bytes as a block. -/
def pack (b : List Byte) : BitVec 512 := b.foldl (fun m c => m <<< 8 ||| c.setWidth 512) 0

/-- A whole number of blocks. -/
def absorbAll (x : BitVec 256) (m : List Byte) : Nat → BitVec 256
  | 0 => x
  | n + 1 => absorbAll (absorb x (pack (m.take 64))) (m.drop 64) n

/-- What follows a message of `n` bytes up to the end of its last block: a 1 bit, zeros and the 64-bit count of its bits. -/
def tail (n : Nat) : List Byte :=
  0x80#8 :: List.replicate ((119 - n % 64) % 64) 0#8 ++ (List.range 8).map fun i => BitVec.ofNat 8 (8 * n / 256 ^ (7 - i))

/-- The digest of a message. -/
def digest (m : List Byte) : List Byte :=
  let x := absorbAll start (m ++ tail m.length) (m.length / 64 + 1 + (decide (55 < m.length % 64)).toNat)
  (List.range 32).map fun i => x.extractLsb' (8 * (31 - i)) 8

end Sha

/-- HMAC-SHA-256: the key, padded to a block, is mixed into the inner and the outer message. -/
def hmac (key msg : List Byte) : List Byte :=
  let short := if 64 < key.length then Sha.digest key else key
  let mixed := fun (c : Byte) => (short ++ List.replicate (64 - short.length) 0#8).map fun b => b ^^^ c
  Sha.digest (mixed 0x5c#8 ++ Sha.digest (mixed 0x36#8 ++ msg))

end Sys2Proof.Machine
end

