-- ==== Sys2Proof/Syntax.lean ====
section
/-!
DEFINITION. The commands of the block: one constructor per row of spec/opcode_table.json. Every command carries the tick
`t` at which it occurs (R8). The operands after it say which object it concerns and, for what comes from outside the die
(analog decisions, converted codes, readings, messages, results of a drive or a bus), what that was.
-/

namespace Sys2Proof

/-- The two quantities of a port. -/
inductive Qty where
  | v | i
deriving DecidableEq, Repr

/-- What the readings of one step of a slice run gave (R298): errors in 0.001 ppm (offsets: 0.001 ppm FS, or of span width),
standard uncertainties in the same unit, comparator leakage in 0.001 pA. A step uses the fields that it measures. -/
structure CalData where
  discarded : Nat := 0             -- readings with a base word marked OVR, to be taken again (R299)
  offV : Int := 0
  offI : Int := 0
  gainV : Int := 0
  gainI : Int := 0
  ratio : Int := 0                 -- REF_0/REF_1 against the ratio of the assigned values
  segMap : List Byte := []         -- step 4: the coarse segments selected, 132 bytes
  dacOff : List Int := []          -- per span
  dacGain : List Int := []
  umOffV : Nat := 0                -- standard uncertainties of the verified residuals (R297)
  umOffI : Nat := 0
  umGainV : Nat := 0
  umGainI : Nat := 0
  inl : List Byte := []            -- step 7: the INL table, 8,192 bytes
  leak : Nat := 0                  -- step 2: comparator leakage, normalised to 70 degrees C
deriving DecidableEq, Repr

/-- What the readings of one step of a reference transfer gave (R291-R293). -/
structure XferData where
  still : List Int := []           -- step 2: the 1 s readings, departure from the standard in 0.001 ppm
  cycles : List (Int × Int × Int × Int) := []  -- step 3: X, REF_0, REF_1, X of each cycle, in 0.1 nV
deriving DecidableEq, Repr

/-- The store header as read from the drive (R399): chunk positions of the namespaces, and its counts. -/
structure StoreHdr where
  n0 : Nat
  n1 : Nat
  oldest : Nat
  next : Nat
  offloaded : Nat
deriving DecidableEq, Repr

/-- What identification of the drives found (R397-R399): chunk positions of the namespace with NSID NS0_NSID and of that with NS1_NSID
(0: absent, or with another LBA format), and the valid store header. -/
structure DriveInfo where
  n0 : Nat := 0
  n1 : Nat := 0
  header : Option StoreHdr := none
deriving DecidableEq, Repr

/-- A chunk as the replay engine reads it from the store (R401): CHUNK_NO, BASE_TICK, EPOCH, and the words of DATA in use. -/
structure RpChunk where
  no : Nat
  base : Tick
  epoch : Nat
  data : List W40
deriving DecidableEq, Repr

/-- Operations of a scratchpad bank (R242, R250). -/
inductive FabOp where
  | read | write | addWrap | addSat | swap
deriving DecidableEq, Repr

/-- What disturbed cells hold instead of a word as it was written (R251): one wrong bit, or an uncorrectable error, with the data bits as they
stand. -/
inductive Upset where
  | one
  | two (data : W40)
deriving DecidableEq, Repr

/-- A request of a fabric master that is ready (R245, R246). `who`: the principal for which M19-M27 act. `gang`: one of the eight writes
of a latest-reading cell. -/
structure FabReq where
  master : Nat
  addr : Nat
  op : FabOp
  x : W40 := 0
  who : Nat := 0
  gang : Bool := false
deriving DecidableEq, Repr

/-- The fabric accesses that become ready at one tick. `hits`: words whose stored bits have been disturbed since the last access. -/
structure FabLoad where
  reqs : List FabReq
  hits : List (Nat × Upset) := []
deriving DecidableEq, Repr

/-- How a PTP message reaches the client: the Ethernet port and the transport, as PTP_PORT and PTP_TRANSPORT number them (R212). -/
structure PtpPath where
  port : Fin 2
  via : Fin 3
deriving DecidableEq, Repr

/-- A firmware payload (R425, R450): core versions, compatibility number, and what its signature block claims. `signed`: its public key
hashes to the claimed root slot, and the signature is correct. -/
structure FwImage where
  vers : List Nat := []
  compat : Nat := 0
  svn : Nat := 0
  root1 : Bool := false
  revoke0 : Bool := false
  signed : Bool := true
deriving DecidableEq, Repr, Inhabited

/-- Source of a COP message (R361, R365). -/
inductive Peer where
  | udp6 (addr port : Nat)
  | udp4 (addr port : Nat)
  | can
deriving DecidableEq, Repr

/-- What an Ethernet frame carries (R356); the formats are those of the published standards. -/
inductive EthLoad where
  | udp (v6 : Bool) (src dst : Nat) (sport dport : Nat) (sumOk fragment : Bool) (data : List Byte)
  | echo (v6 : Bool) (src dst : Nat)
  | resolve (v6 : Bool) (target : Nat)   -- ARP request or Neighbour Solicitation
  | ptp (residence : Nat)                -- a PTP event message and the residence time added so far
  | other
deriving DecidableEq, Repr

structure EthFrame where
  dst : Nat
  src : Nat
  len : Nat
  fcsOk : Bool := true
  load : EthLoad
deriving DecidableEq, Repr

/-- A descriptor as the channel fetches it (R387). -/
structure Desc where
  addr : Nat
  cap : Nat
  irq : Bool := false
deriving DecidableEq, Repr

/-- Byte enables of a direct write (R379): LO dword, whole slot, or neither. -/
inductive WrKind where
  | lo | whole | part
deriving DecidableEq, Repr

/-- A 4-byte LO read, a 4-byte HI read, or an 8-byte read (R266). -/
inductive RdKind where
  | lo | hi | whole
deriving DecidableEq, Repr

/-- A tamper source, in TAMP_ACTION order (R454, R461). -/
abbrev TamperSrc := Fin 5
inductive Instr where
  /-- POWER_ON (R420): The supplies rise from OFF; the device records cause POWER_ON and begins the boot sequence. -/
  | powerOn (t : Tick)
  /-- RESET_N_LOW (R420): A low level of 1 µs or more on RESET_N resets the whole device; a low pulse in STANDBY wakes it. -/
  | resetNLow (t : Tick) (width : Nat)
  /-- BROWN_OUT (R436): A hardware detector sees VDD_CORE, VDD_SRAM or VDD_IO fall below its threshold and resets the device with cause BROWN_OUT. -/
  | brownOut (t : Tick)
  /-- ANALOG_SUPPLY_LOSS (R63): VAP, VAN or VDDA falls below its power-on threshold; the output stages turn off and both legs go to high impedance. -/
  | analogSupplyLoss (t : Tick)
  /-- ANALOG_SUPPLY_VALID (R63): The last of VAP, VAN and VDDA becomes valid; the core is loaded with the hardware clear code of S_1. -/
  | analogSupplyValid (t : Tick)
  /-- OUTPUT_STAGE_ON (R63): The 10–20 µs start-up wait ends and the output stage turns on at 0 V differential, with PG_GATE low. -/
  | outputStageOn (t : Tick)
  /-- BOOT_STEP_COMPLETE (R421): A timed or completing step of the boot sequence ends (device record, firmware, records, Garnet, rails, self-test) and the next step begins. -/
  | bootStepComplete (t : Tick) (bad : List SliceId)
  /-- PLL_LOCK (R421): PLL_0 and PLL_1 lock during boot; the time counter starts at 0 in a new epoch. -/
  | pllLock (t : Tick)
  /-- SCRATCHPAD_CLEAR_END (R258): The 65,536-tick start-up clear of all 68 banks completes; CLEARING clears and accesses may proceed. -/
  | scratchpadClearEnd (t : Tick)
  /-- POWER_REQ_RUN (R417): A RUN request wakes the device from IDLE, or sets WAKE_PENDING in TO_IDLE. -/
  | powerReqRun (t : Tick) (who : Principal)
  /-- POWER_REQ_IDLE (R418): An IDLE request quiesces every group in RUN and gates the clocks once all groups are in CONFIG or GATED. -/
  | powerReqIdle (t : Tick) (who : Principal)
  /-- POWER_REQ_STANDBY (R419): A STANDBY request quiesces the groups, saves the image, closes the recorder and sessions, turns the rails off and drops PSU_EN. -/
  | powerReqStandby (t : Tick) (who : Principal)
  /-- POWER_REQ_RESET (R417): A RESET request resets the device with cause SW. -/
  | powerReqReset (t : Tick) (who : Principal)
  /-- WAKE (R419): A rising edge or high level on WAKE wakes the device from IDLE or STANDBY. -/
  | wake (t : Tick)
  /-- PFW_N_FALL (R440): A power-fail warning: the recorder flushes, no new flash commit starts, and PFW_ACTION is applied to the ports. -/
  | pfwNFall (t : Tick)
  /-- PFW_N_RISE (R440): PFW_N returns high and J_2 recording resumes. -/
  | pfwNRise (t : Tick)
  /-- QUIESCE (R22): A quiesce request moves a group from RUN to QUIESCING, records PORTS_RESUME and starts the disable sequences of its ports. -/
  | quiesce (t : Tick) (who : Principal) (g : GroupId)
  /-- RELEASE (R347): A release request runs the CONFIG checks and returns the group to RUN, or sets RELEASE_PENDING during QUIESCING. -/
  | release (t : Tick) (who : Principal) (g : GroupId)
  /-- GATE (R433): A GATE request starts the gating sequence of a group in CONFIG. -/
  | gate (t : Tick) (who : Principal) (g : GroupId)
  /-- UNGATE (R433): An UNGATE request starts the ungating sequence, or sets UNGATE_PENDING while gating runs. -/
  | ungate (t : Tick) (who : Principal) (g : GroupId)
  /-- GATE_STEP_END (R433): A timed step of the gating or ungating sequence ends and the next step begins. -/
  | gateStepEnd (t : Tick) (g : GroupId) (bad : Bool)
  /-- ENABLE (R430): An enable request puts a port in ENABLING, powers its comparators and starts the force path of R64, or sets ENABLE_PENDING in DISABLING. -/
  | enable (t : Tick) (who : Principal) (p : PortId)
  /-- ENABLE_SPAN_HOLD_END (R64): The 2 µs span switch of enable step 1 ends; the core is set to SAFE_VALUE at the next CLK_FAST edge. -/
  | enableSpanHoldEnd (t : Tick) (p : PortId)
  /-- GATE_PERMIT (R64): The 39-tick wait of enable step 3 ends; the gate permission takes effect and the ramp to the first output begins. -/
  | gatePermit (t : Tick) (p : PortId)
  /-- DISABLE (R431): A disable request starts the disable sequence of a port, stops an enable, or clears ENABLE_PENDING. -/
  | disable (t : Tick) (who : Principal) (p : PortId)
  /-- DISCHARGE_END (R431): DISCHARGE_TIME expires after gate-off; the range chain to the OFF state starts, or the port reaches OFF. -/
  | dischargeEnd (t : Tick) (p : PortId)
  /-- RAMP_DONE (R58): A ramp of the ramp generator reaches its target code and the step that it served continues (enable, disable, span change, clear release). -/
  | rampDone (t : Tick) (p : PortId)
  /-- SPAN (R60): A SPAN write starts a span change, is stored, or sets SPAN_PENDING. -/
  | span (t : Tick) (who : Principal) (p : PortId) (v : Nat)
  /-- SPAN_HOLD_END (R60): The 2 µs track-and-hold of span-change step 2 ends; SPAN_ACTIVE changes and the output is released. -/
  | spanHoldEnd (t : Tick) (p : PortId)
  /-- CLR_N_FALL (R65): CLR_N falls and every port whose output stage is on is forced to its clear code. -/
  | clrNFall (t : Tick)
  /-- CLR_N_RISE (R66): CLR_N returns high; ports stay CLEARED, and OFF ports go to SAFE_VALUE if no clear cause remains. -/
  | clrNRise (t : Tick)
  /-- FLT_IN_RISE (R45): An accepted FLT_IN fault removes PG_GATE, sets the trip latch with cause FLT and forces the clear code. -/
  | fltInRise (t : Tick) (p : PortId)
  /-- FLT_IN_FALL (R45): FLT_IN falls; nothing is re-armed and the port stays CLEARED. -/
  | fltInFall (t : Tick) (p : PortId)
  /-- CLEAR_RELEASE (R66): A CLEAR_RELEASE write is checked and accepted for the port's next tick boundary. -/
  | clearRelease (t : Tick) (who : Principal) (p : PortId)
  /-- READBACK_NOW (R75): A write requests an urgent read-back of the slice in DRIVE. -/
  | readbackNow (t : Tick) (who : Principal) (p : PortId)
  /-- READBACK_DUE (R69): READBACK_INTERVAL expires for a supervised slice and its read-back is requested from the monitor converter. -/
  | readbackDue (t : Tick) (p : PortId)
  /-- TIMER_STRIKE (R55): A CLK_FAST edge matches UPD_PERIOD and UPD_PHASE; the pending code is copied to the active register. -/
  | timerStrike (t : Tick) (p : PortId)
  /-- DAC_STRIKE (R55): A delivery on UPD_EVENT, or a Gong with GONG_ACTION 5, strikes the DAC at the next suitable CLK_FAST edge. -/
  | dacStrike (t : Tick) (p : PortId)
  /-- LOOP_TICK (R107): A port's tick boundary: accepted configuration takes effect, the range pattern is driven, the update is computed, outputs are written and applied at the setpoint-apply instant. -/
  | loopTick (t : Tick) (p : PortId)
  /-- LOOP_FLUSH_EXPIRY (R123): PREC_FLUSH elapses since the first record entered a LOOP block; the block closes and is handed to its ring. -/
  | loopFlushExpiry (t : Tick) (p : PortId)
  /-- LM_VISIT (R106): At the start of each frame the pipeline's estimator visits the next LM_EN port and updates its load model if a qualifying tick completed. -/
  | lmVisit (t : Tick) (pipe : Fin 4)
  /-- FAST_CONVERSION (R83): A fast V and I conversion completes; the samples are flagged, decimated, fed to the loop and packed into fast blocks. -/
  | fastConversion (t : Tick) (p : PortId) (cv ci : BitVec 18)
  /-- PREC_WINDOW_CLOSE (R79): A precision window reaches its count of base words; the record is formed, written to the cell and the PREC block, and the next free-running window opens. -/
  | precWindowClose (t : Tick) (p : PortId) (xv xi : List W40)
  /-- PREC_FLUSH_EXPIRY (R97): PREC_FLUSH elapses since the first record entered a PREC block; the block closes and is handed to its ring. -/
  | precFlushExpiry (t : Tick) (p : PortId)
  /-- OVR_ASSERT (R90): A sense-input over-range detector asserts; OVR marking of the port and NBR_DISTURB marking of its group begin. -/
  | ovrAssert (t : Tick) (p : PortId) (q : Qty) (neg : Bool) (common : Bool)
  /-- OVR_RELEASE (R90): An over-range detector releases and the marking intervals of R90 and R91 are set to end. -/
  | ovrRelease (t : Tick) (p : PortId) (q : Qty) (common : Bool)
  /-- RANGE_MAKE_END (R132): The first tick boundary at or after t0 + OVL(b) is reached and PARALLEL begins, with the thresholds re-scaled to the overlap. -/
  | rangeMakeEnd (t : Tick) (p : PortId)
  /-- RANGE_PARALLEL_END (R134): At t2 the steady pattern of b is driven, b becomes the range in force and the loop state is re-scaled. -/
  | rangeParallelEnd (t : Tick) (p : PortId)
  /-- RANGE_BREAK_END (R132): At t3 RANGING ends and samples are in scale b; a disable chain may reach OFF here. -/
  | rangeBreakEnd (t : Tick) (p : PortId)
  /-- RANGE_GUARD_END (R132): GUARD ends and a pending step of the chain, a held divisor change or a disable range step may start. -/
  | rangeGuardEnd (t : Tick) (p : PortId)
  /-- CMP_TRANSITION (R147): A powered comparator's live output changes between INSIDE, ABOVE and BELOW; events are produced and an enabled cause sets the trip latch. -/
  | cmpTransition (t : Tick) (p : PortId) (q : Qty) (v : Int)
  /-- CMP_FIRST_DECISION (R154): t_EN of a starting comparator expires; it makes its first decision against the bare thresholds and a pending mode change follows. -/
  | cmpFirstDecision (t : Tick) (p : PortId) (q : Qty) (v : Int)
  /-- SM_STROBE_START (R157): An SM tick arrives and the sampled comparator is powered for a 1.2 µs strobe. -/
  | smStrobeStart (t : Tick) (p : PortId) (q : Qty)
  /-- SM_STROBE_DECISION (R157): At s + 384 the strobe makes its first decision and its valid interval begins. -/
  | smStrobeDecision (t : Tick) (p : PortId) (q : Qty) (v : Int)
  /-- SM_STROBE_END (R157): At s + 768 the valid interval ends, the output reads INSIDE and an ENTER is produced if the decision was outside. -/
  | smStrobeEnd (t : Tick) (p : PortId) (q : Qty)
  /-- PGEN_CTRL_START (R172): A START written to PGEN_CTRL is checked and applied at the next tick boundary as the train start instant. -/
  | pgenCtrlStart (t : Tick) (who : Principal) (p : PortId)
  /-- PGEN_CTRL_STOP (R172): A STOP written to PGEN_CTRL stops the train at the next tick boundary according to STOP_MODE. -/
  | pgenCtrlStop (t : Tick) (who : Principal) (p : PortId)
  /-- PGEN_CTRL_REARM (R162): A REARM written to PGEN_CTRL is checked and applied at the next tick boundary, or dropped with REARM_REFUSED. -/
  | pgenCtrlRearm (t : Tick) (who : Principal) (p : PortId)
  /-- PGEN_CTRL_TRIP (R159): A TRIP written to PGEN_CTRL sets the trip latch with cause SW at the next tick boundary. -/
  | pgenCtrlTrip (t : Tick) (who : Principal) (p : PortId)
  /-- PGEN_RISE_EDGE (R164): A scheduled rise of the pulse train: the level becomes 1 and PGEN_RISE is produced. -/
  | pgenRiseEdge (t : Tick) (p : PortId)
  /-- PGEN_FALL_EDGE (R164): A scheduled fall of the pulse train: the level returns to base and PGEN_FALL is produced. -/
  | pgenFallEdge (t : Tick) (p : PortId)
  /-- PGEN_GATE_EDGE (R166): In GATED mode PG_GATE rises or falls GATE_DELAY edges after a pulse rise or fall. -/
  | pgenGateEdge (t : Tick) (p : PortId)
  /-- PGEN_START (R167): A delivery on START_EVENT, or a Gong with GONG_ACTION 3, starts a train while START_SRC is 1. -/
  | pgenStart (t : Tick) (p : PortId)
  /-- PGEN_STOP (R167): A delivery on STOP_EVENT, or a Gong with GONG_ACTION 1, stops the train according to STOP_MODE. -/
  | pgenStop (t : Tick) (p : PortId)
  /-- PGEN_REARM (R162): A delivery on REARM_EVENT, or a Gong with GONG_ACTION 4, re-arms the latch or sets REARM_REFUSED. -/
  | pgenRearm (t : Tick) (p : PortId)
  /-- PGEN_TRIP_IN (R159): A delivery on TRIP_EVENT, or a Gong with GONG_ACTION 2, sets the trip latch with cause EVENT. -/
  | pgenTripIn (t : Tick) (p : PortId)
  /-- RUN_STATE_START (R181): A START command is checked by CP_2 and places the context on its port's run queue. -/
  | runStateStart (t : Tick) (who : Principal) (c : CtxId)
  /-- RUN_STATE_STOP (R180): A STOP command removes a queued context or lets the running point complete and then stops it. -/
  | runStateStop (t : Tick) (who : Principal) (c : CtxId)
  /-- RUN_STATE_ABORT (R191): An ABORT command removes the context at its port's next tick boundary, discarding any open window and stopping its train. -/
  | runStateAbort (t : Tick) (who : Principal) (c : CtxId)
  /-- QUEUE_SELECTION (R188): A queued context becomes eligible or a pass ends, and the sequencer selects the highest-priority eligible context for the port. -/
  | queueSelection (t : Tick) (p : PortId)
  /-- SEQ_HOLD (R198): A SEQ_HOLD write stops or resumes further selection on the port. -/
  | seqHold (t : Tick) (who : Principal) (p : PortId) (v : Nat)
  /-- SEQ_ARM (R185): A delivery on ARM_EVENT, or a Gong with GONG_ACTION 6, is accepted as the point's arm or discarded. -/
  | seqArm (t : Tick) (p : PortId)
  /-- POINT_INSTANT (R186): The first base-word timestamp after settle and arm is reached; SEQ_INSTANT is produced, a PULSE train may start and the measure windows open. -/
  | pointInstant (t : Tick) (p : PortId)
  /-- POINT_DONE (R186): t_done is reached: POINTS_DONE increments, ENG_LAST is formed, SEQ_DONE is produced and the next point or pass end follows. -/
  | pointDone (t : Tick) (p : PortId)
  /-- STALL_AGE_UPDATE (R193): On each millisecond boundary STALL_AGE of a running point is updated. -/
  | stallAgeUpdate (t : Tick)
  /-- SCAN_FRAME_START (R195): The scanner bus becomes free and the oldest requested frame drives its select low. -/
  | scanFrameStart (t : Tick)
  /-- SCAN_FRAME_END (R194): A scanner frame ends at the select rise; a QUERY verifies the route or a failure schedules a retry. -/
  | scanFrameEnd (t : Tick) (miso : BitVec 64)
  /-- SCN_RETRY_EXPIRY (R194): SCN_RETRY elapses after a failed QUERY and the ROUTE frame is requested again. -/
  | scnRetryExpiry (t : Tick) (p : PortId)
  /-- SCAN_SETTLE_END (R194): SCAN_SETTLE elapses after the verified ROUTE frame and the SCAN step ends. -/
  | scanSettleEnd (t : Tick) (p : PortId)
  /-- COMMIT (R182): A COMMIT checks, expands and validates a sweep list and sets it VALID, or refuses it. -/
  | commit (t : Tick) (who : Principal) (l : ListId)
  /-- PLL_LOCK_LOSS (R203): PLL_0 loses lock and the clock tree switches to PLL_1, or the device resets with cause CLK_LOSS. -/
  | pllLockLoss (t : Tick)
  /-- REFCLK_LOST (R204): REFCLK_IN is lost or leaves tolerance and the PLL enters holdover. -/
  | refclkLost (t : Tick)
  /-- REFCLK_RETURN (R204): REFCLK_IN returns and the PLL relocks without a phase step. -/
  | refclkReturn (t : Tick)
  /-- TAI_SET (R210): A TAI_SET write schedules a step of the mapping at the next PPS edge or millisecond boundary. -/
  | taiSet (t : Tick) (who : Principal) (v : Nat)
  /-- SEGMENT_BEGIN (R206): A millisecond boundary begins a new mapping segment with the step or rate computed from the last measurement. -/
  | segmentBegin (t : Tick)
  /-- PPS_IN (R211): A PPS_IN rising edge is accepted as a discipline measurement or rejected. -/
  | ppsIn (t : Tick)
  /-- PPS_OUT_RISE (R211): The first tick at or after a whole TAI second raises PPS_OUT and produces the PPS event. -/
  | ppsOutRise (t : Tick)
  /-- PPS_OUT_FALL (R211): PPS_OUT_WIDTH elapses and PPS_OUT falls. -/
  | ppsOutFall (t : Tick)
  /-- PTP_SYNC (R212): A one-step PTP Sync is received and timestamped; a two-step Sync is discarded. -/
  | ptpSync (t : Tick) (port : PtpPath) (twoStep : Bool) (domain origin : Nat) (corr : Int)
  /-- PTP_DELAY_RESP (R212): A PTP Delay_Resp completes a discipline measurement. -/
  | ptpDelayResp (t : Tick) (port : PtpPath) (domain recv : Nat) (corr : Int)
  /-- DISCIPLINE_TIMEOUT (R209): No measurement arrives for 2 s; RATE is frozen and HOLDOVER is set. -/
  | disciplineTimeout (t : Tick)
  /-- SYNC_FRAME_TX (R213): A leader sends a SYNC frame with T and its segment at each T mod 2^20 = 0. -/
  | syncFrameTx (t : Tick)
  /-- SYNC_FRAME_RX (R213): A follower receives a SYNC frame, loads its counter at acquisition and takes the leader's segment. -/
  | syncFrameRx (t : Tick) (T t0 n0 rate : Nat) (tai crcOk : Bool)
  /-- SYNC_STREAM_LOSS (R214): A follower loses the SYNC stream and enters holdover. -/
  | syncStreamLoss (t : Tick)
  /-- SYNC_REACQUIRE (R214): A follower reacquires the stream and sets SYNC_LOCK or SLIP. -/
  | syncReacquire (t : Tick) (T : Nat)
  /-- RESYNC (R214): A RESYNC write reloads the follower counter while every group is in CONFIG or GATED. -/
  | resync (t : Tick) (who : Principal) (v : Nat)
  /-- TRIG_RISE (R228): A rising edge on an input trigger pin, after INV, produces TRIG_RISE. -/
  | trigRise (t : Tick) (n : PinId)
  /-- TRIG_FALL (R228): A falling edge on an input trigger pin, after INV, produces TRIG_FALL. -/
  | trigFall (t : Tick) (n : PinId)
  /-- FIRE (R233): A FIRE write produces an SW event on an enabled channel, or is refused. -/
  | fire (t : Tick) (who : Principal) (e : ChanId)
  /-- TMR (R230): A timer's CLK_FAST edge matches its period and phase and it produces TMR. -/
  | tmr (t : Tick) (k : TimerId)
  /-- DLY_OUT (R230): DELAY ticks after an accepted fire, a delay unit produces DLY_OUT. -/
  | dlyOut (t : Tick) (k : DelayId)
  /-- DLY_FIRE (R230): A delivery to a delay unit fires it, or is dropped as overrun while it is busy. -/
  | dlyFire (t : Tick) (k : DelayId)
  /-- EC_INC (R229): Deliveries to a counter's INC inputs add to its count and produce EC_MATCH when the compare value is reached. -/
  | ecInc (t : Tick) (k : CounterId)
  /-- EC_CLR (R229): A delivery to a counter's CLR input sets its count to 0. -/
  | ecClr (t : Tick) (k : CounterId)
  /-- TRIG_OUT (R228): A delivery to an output trigger pin drives it active for PULSE_LEN or toggles it. -/
  | trigOut (t : Tick) (n : PinId)
  /-- TRIG_PULSE_END (R228): 32 × PULSE_LEN ticks after a PULSE-mode trigger, the output pin returns inactive. -/
  | trigPulseEnd (t : Tick) (n : PinId)
  /-- GONG_DELIVERY (R227): An event of the Gong source is delivered to all 128 ports, each acting by its GONG_ACTION. -/
  | gongDelivery (t : Tick)
  /-- CH_EN (R226): A CH_EN write enables a channel after the zero-latency cycle check, or disables it. -/
  | chEn (t : Tick) (who : Principal) (e : ChanId) (v : Nat)
  /-- FABRIC_ACCESS (R246): A master's request to a bank is granted in a bank cycle and performed as a read, write or atomic, with ECC and collision handling. -/
  | fabricAccess (t : Tick) (rs : FabLoad)
  /-- ECC_WRITEBACK (R251): A corrected word is written back in the bank's next free slot. -/
  | eccWriteback (t : Tick) (a : Nat)
  /-- REGION_EN (R252): A REGION_EN write enables a region after its geometry check and starts the zero fill, or disables it. -/
  | regionEn (t : Tick) (who : Principal) (r : RegionId) (v : Nat)
  /-- REGION_ZERO_DONE (R253): The zero fill of a region completes and REGION_STATE reads ON. -/
  | regionZeroDone (t : Tick) (r : RegionId)
  /-- RING_EN (R262): A RING_EN write enables a stream ring after its checks and resets its counts, or disables it. -/
  | ringEn (t : Tick) (who : Principal) (r : RingId) (v : Nat)
  /-- RING_BLOCK_COMMIT (R263): All 64 words of a ring block are written and it is committed, with full-ring handling by RING_MODE. -/
  | ringBlockCommit (t : Tick) (r : RingId)
  /-- CONS_HOST (R265): The ring owner writes CONS_HOST to free ring slots. -/
  | consHost (t : Tick) (who : Principal) (r : RingId) (v : Nat)
  /-- SAPPHIRE_WIPE_END (R257): The 4,096-tick Sapphire wipe completes and SAPPHIRE_WIPES increments. -/
  | sapphireWipeEnd (t : Tick)
  /-- BT_BORROW_START (R259): BT_INTERVAL elapses with a spare bank free and the borrow of the next logical bank begins its COPY step. -/
  | btBorrowStart (t : Tick)
  /-- BT_COPY_END (R259): The copy into the spare bank ends; BANK_MAP redirects the bank and its march test begins. -/
  | btCopyEnd (t : Tick)
  /-- BT_TEST_END (R260): The march test ends; a pass starts the write-back and a failure substitutes the spare permanently. -/
  | btTestEnd (t : Tick) (pass : Bool)
  /-- BT_WRITEBACK_END (R259): The write-back ends and BANK_MAP returns the logical bank to its own physical bank. -/
  | btWritebackEnd (t : Tick)
  /-- BT_REQUEST (R259): A BT_REQUEST write names the next logical bank to borrow. -/
  | btRequest (t : Tick) (who : Principal) (v : Nat)
  /-- WIN_LO_READ (R266): A 4-byte LO read returns bits 31:0, latches the whole word and increments SNAP_SEQ. -/
  | winLoRead (t : Tick) (f : FnId) (spad : Bool) (off : Nat) (k : RdKind)
  /-- WIN_LO_WRITE (R267): A 4-byte LO write is staged in the function's write latch. -/
  | winLoWrite (t : Tick) (f : FnId) (spad : Bool) (off : Nat) (v : BitVec 32)
  /-- WIN_HI_WRITE (R267): A 4-byte HI write commits the staged word whole, or is discarded with WIN_ERR. -/
  | winHiWrite (t : Tick) (f : FnId) (spad : Bool) (off : Nat) (v : BitVec 32)
  /-- WIN_SPAD_WRITE (R254): An 8-byte write through WIN_SPAD writes one word after the ownership check, or is discarded. -/
  | winSpadWrite (t : Tick) (f : FnId) (a : Nat) (v : W64)
  /-- DIRECT_WRITE (R381): A direct WIN_REGS write is checked by the window decoder and group controller and applied, or refused with DIRECT_ABORT. -/
  | directWrite (t : Tick) (f : FnId) (off : Nat) (k : WrKind) (v : W64)
  /-- FETCHADD (R382): A 64-bit FetchAdd AtomicOp performs ADD_WRAP or ADD_SAT on a scratchpad word and returns the old value. -/
  | fetchadd (t : Tick) (f : FnId) (spad : Bool) (off : Nat) (x : W64)
  /-- SWAP (R382): A 64-bit Swap AtomicOp performs SWAP on a scratchpad word and returns the old value. -/
  | swap (t : Tick) (f : FnId) (spad : Bool) (off : Nat) (x : W64)
  /-- SUPERVISION_DUE (R279): A supervision class interval expires for an input and a scheduled conversion request is queued. -/
  | supervisionDue (t : Tick) (i : McInput) (alt : Bool)
  /-- MC_REQ (R284): A software conversion request is queued as urgent or scheduled, or refused. -/
  | mcReq (t : Tick) (who : Principal) (v : Nat)
  /-- MC_SAMPLING_INSTANT (R274): The 1.5 µs start-up ends and the selected input is sampled. -/
  | mcSamplingInstant (t : Tick)
  /-- MC_CONVERSION_DONE (R279): A monitor conversion completes; the result is queued, compared with its class and faults or repeats are raised. -/
  | mcConversionDone (t : Tick) (code : BitVec 16) (ovf : Bool)
  /-- MC_PAUSE_END (R274): The 4 µs over-range pause ends and the next start-up may begin. -/
  | mcPauseEnd (t : Tick)
  /-- MC_QUEUE_SPACE (R278): A reader frees a result queue entry and a stalled converter resumes. -/
  | mcQueueSpace (t : Tick) (r : Fin 3)
  /-- REF_XFER_REQ (R290): A REF_XFER_REQ write requests a reference transfer. -/
  | refXferReq (t : Tick) (who : Principal) (v : Nat)
  /-- REF_XFER_INTERVAL_EXPIRY (R290): REF_XFER_INTERVAL elapses and a reference transfer is started. -/
  | refXferIntervalExpiry (t : Tick)
  /-- CAL_RETRY_EXPIRY (R313): CAL_RETRY_INTERVAL elapses and deferred or aborted transfer work is retried. -/
  | calRetryExpiry (t : Tick)
  /-- XFER_STEP_END (R292): A timed step of a reference transfer (connect, stability, sequence) ends and the next step or an abort follows. -/
  | xferStepEnd (t : Tick) (d : XferData)
  /-- CAL_RUN_STEP_END (R298): A step of a slice calibration run ends and the next step, an abort or the commit follows. -/
  | calRunStepEnd (t : Tick) (g : GroupId) (d : CalData)
  /-- RECORD_COMMIT_DONE (R310): A flash record or image commit completes with SEQ programmed last, or fails. -/
  | recordCommitDone (t : Tick) (ok : Bool)
  /-- ROT_TRIGGER (R308): A rotation trigger (temperature move, ROT_INTERVAL) starts a rotation or sets ROT_PENDING. -/
  | rotTrigger (t : Tick) (g : GroupId)
  /-- ROT_REQUEST (R308): A ROT_REQUEST write requests a rotation of the group. -/
  | rotRequest (t : Tick) (who : Principal) (g : GroupId) (v : Nat)
  /-- ROT_MIN_GAP_END (R309): ROT_MIN_GAP elapses after ROT_LAST_START and a pending rotation starts. -/
  | rotMinGapEnd (t : Tick) (g : GroupId)
  /-- ROT_SHADOW_END (R302): The shadow step of a rotation ends and the agreement test begins. -/
  | rotShadowEnd (t : Tick) (g : GroupId)
  /-- AGREE_TEST_END (R303): The agreement span of AGREE_WORDS ends and the test passes, repeats or fails. `dV`, `dI`: the
differences of the means. `trip`: the comparators of the incoming slice saw an excursion, on their own sense path, that no transition reported. -/
  | agreeTestEnd (t : Tick) (g : GroupId) (dV dI : Int) (trip : Bool)
  /-- TRANSFER_SWAP (R304): At t_x + 640 the force-sense line passes to the incoming slice. -/
  | transferSwap (t : Tick) (g : GroupId)
  /-- TRANSFER_RELEASE (R304): At t_x + 1,280 the outgoing slice disconnects and enters CAL. -/
  | transferRelease (t : Tick) (g : GroupId)
  /-- TRANSFER_END (R304): At t_x + 1,344 the transfer overlap ends. -/
  | transferEnd (t : Tick) (g : GroupId)
  /-- STRESS_ACCRUE (R319): Each second STRESS_H of every slice grows by its stress rate. -/
  | stressAccrue (t : Tick)
  /-- HEALTH_EVAL (R324): EVAL_INTERVAL elapses and each slice's measures are evaluated and its margin plan re-applied. -/
  | healthEval (t : Tick) (ro : List Nat)
  /-- HEALTH_COMMIT_DUE (R321): 24 h pass without another commit and the health record is committed. -/
  | healthCommitDue (t : Tick) (i : SliceId)
  /-- WORN_REQ (R325): A WORN_REQ write marks a slice WORN with cause REQUEST. -/
  | wornReq (t : Tick) (who : Principal) (i : SliceId) (v : Nat)
  /-- WIN_NOTICE_END (R327): WIN_NOTICE of an announced calibration window elapses and the window waits or aligns. -/
  | winNoticeEnd (t : Tick) (g : GroupId)
  /-- GO (R327): A GO write ends the WAIT step of a window under WIN_POLICY OWNER. -/
  | go (t : Tick) (who : Principal) (p : PortId)
  /-- WIN_ABORT (R328): An ABORT write to WIN_CTRL skips or preempts the port's calibration window. -/
  | winAbort (t : Tick) (who : Principal) (p : PortId)
  /-- VOTE_WARMUP_END (R330): The 600 s warm-up of a spare cell ends and the reference vote is taken. -/
  | voteWarmupEnd (t : Tick) (d0 d1 : Int)
  /-- HEARTBEAT_MISS (R331): A core misses three heartbeats and is treated as failed. -/
  | heartbeatMiss (t : Tick) (c : Fin 6)
  /-- CORE_FAULT (R331): A core reports an uncorrectable fault; CP_5 takes its role or the device resets with CORE_LOSS. -/
  | coreFault (t : Tick) (c : Fin 6)
  /-- CORE_TAKEOVER_DONE (R331): CP_5 finishes loading a failed core's role and takes it over. -/
  | coreTakeoverDone (t : Tick)
  /-- HELD_COMMAND_ENQUEUE (R13): Room frees in a full group controller queue and a held command enters it, so its OD access can complete. -/
  | heldCommandEnqueue (t : Tick) (g : GroupId)
  /-- OD_WRITE (R345): A write of an entry that has no row of its own is checked in order and applied, or refused with an abort. -/
  | odWrite (t : Tick) (who : Principal) (key : Nat) (data : List Byte)
  /-- CFG_SAVE (R352): A CFG_SAVE write commits the configuration image, or sets SAVE_PENDING. -/
  | cfgSave (t : Tick) (who : Principal) (v : Nat)
  /-- ETH_FRAME_RX (R357): A frame arrives on a 10BASE-T1L port and is taken, forwarded cut-through, or both. -/
  | ethFrameRx (t : Tick) (port : Fin 2) (f : EthFrame)
  /-- BRIDGE_BUFFERED_SEND (R358): The egress port frees and a stored forwarded frame is sent. -/
  | bridgeBufferedSend (t : Tick) (port : Fin 2)
  /-- T1L_LINK_CHANGE (R358): A 10BASE-T1L link comes up after auto-negotiation or goes down. -/
  | t1lLinkChange (t : Tick) (port : Fin 2) (up : Bool)
  /-- CAN_SEGMENT_RX (R360): A CAN FD frame carrying a COP segment is received and assembled. -/
  | canSegmentRx (t : Tick) (id : Nat) (data : List Byte)
  /-- CAN_SEGMENT_TIMEOUT (R360): 100 ms pass without a segment and the message is abandoned. -/
  | canSegmentTimeout (t : Tick)
  /-- CAN_BUSOFF (R359): The CAN controller enters bus-off and later recovers by the standard sequence. -/
  | canBusoff (t : Tick) (recovered : Bool)
  /-- SESSION_OPEN (R364): A SESSION_OPEN request is authenticated and opens session k with a fresh session key. -/
  | sessionOpen (t : Tick) (peer : Peer) (msg : List Byte)
  /-- COP_READ (R362): A COP READ request reads one entry and returns its value. -/
  | copRead (t : Tick) (peer : Peer) (msg : List Byte)
  /-- COP_WRITE (R362): A COP WRITE request writes one entry. -/
  | copWrite (t : Tick) (peer : Peer) (msg : List Byte)
  /-- COP_READ_BLOCK (R363): A COP READ_BLOCK request serves a segment of a DOMAIN from a snapshot. -/
  | copReadBlock (t : Tick) (peer : Peer) (msg : List Byte)
  /-- COP_WRITE_BLOCK (R363): A COP WRITE_BLOCK request accepts a segment and writes the DOMAIN at its last segment. -/
  | copWriteBlock (t : Tick) (peer : Peer) (msg : List Byte)
  /-- SUBSCRIBE (R368): A SUBSCRIBE request creates, replaces or cancels a subscription. -/
  | subscribe (t : Tick) (peer : Peer) (msg : List Byte)
  /-- COP_ABORT (R362): A COP ABORT cancels a block transfer or closes the session. -/
  | copAbort (t : Tick) (peer : Peer) (msg : List Byte)
  /-- BLOCK_TRANSFER_TIMEOUT (R363): 10 s pass without a segment and the block transfer is abandoned. -/
  | blockTransferTimeout (t : Tick) (mb : Bool) (n : FnId)
  /-- SESSION_TIMEOUT (R367): No authenticated message arrives for SESSION_TIMEOUT and the session closes. -/
  | sessionTimeout (t : Tick) (k : SessionId)
  /-- CLOSE (R367): A CLOSE write by the device owner closes a session. -/
  | close (t : Tick) (who : Principal) (k : SessionId) (v : Nat)
  /-- SUBSCRIPTION_READ (R368): A subscription's PERIOD elapses and the entry is read and queued as a NOTIFY item. -/
  | subscriptionRead (t : Tick) (k : SessionId) (num : Nat)
  /-- NOTIFY (R369): NOTIFY_HOLDOFF elapses, or the message fills, and the gathered items are sent. -/
  | notify (t : Tick) (k : SessionId)
  /-- LEG_READ (R372): A legacy READ frame reads up to 16 registers of ports P0–P31 and answers. -/
  | legRead (t : Tick) (frame : List Byte)
  /-- LEG_WRITE (R372): A legacy WRITE frame writes up to 16 registers in order and answers unless broadcast. -/
  | legWrite (t : Tick) (frame : List Byte)
  /-- PCIE_RESET (R376): PCIE_PERST_N low, a hot reset or link down resets the endpoint state of every function. -/
  | pcieReset (t : Tick)
  /-- FLR (R376): A function-level reset of PF0 or a VF, or VF Enable cleared, resets those functions' endpoint state. -/
  | flr (t : Tick) (f : FnId)
  /-- D3HOT (R376): A function enters D3hot; its windows answer Unsupported Request and its DMA channels stop. -/
  | d3hot (t : Tick) (f : FnId)
  /-- MB_READ (R384): A mailbox READ request reads one entry. -/
  | mbRead (t : Tick) (f : FnId) (id : Nat) (body : List Byte)
  /-- MB_WRITE (R384): A mailbox WRITE request writes one entry. -/
  | mbWrite (t : Tick) (f : FnId) (id : Nat) (body : List Byte)
  /-- MB_READ_BLOCK (R384): A mailbox READ_BLOCK request serves a segment of a DOMAIN. -/
  | mbReadBlock (t : Tick) (f : FnId) (id : Nat) (body : List Byte)
  /-- MB_WRITE_BLOCK (R384): A mailbox WRITE_BLOCK request accepts a segment of a DOMAIN. -/
  | mbWriteBlock (t : Tick) (f : FnId) (id : Nat) (body : List Byte)
  /-- MB_ABORT (R384): A mailbox ABORT cancels a block transfer. -/
  | mbAbort (t : Tick) (f : FnId) (id : Nat) (body : List Byte)
  /-- SPAD_COPY (R384): A SPAD_COPY request moves a word range between host memory and the scratchpad. -/
  | spadCopy (t : Tick) (f : FnId) (id : Nat) (body : List Byte) (host : Option (List Byte))
  /-- MB_RESPONSE (R384): A mailbox access completes; the response is placed, MB_STATE becomes DONE and MB_VECTOR is raised. -/
  | mbResponse (t : Tick) (f : FnId)
  /-- DMA_EN (R386): A DMA_EN write starts a channel after its checks, or stops it. -/
  | dmaEn (t : Tick) (who : Principal) (r : RingId) (v : Nat)
  /-- DESC_TAIL (R387): A DESC_TAIL write posts descriptors to a DMA channel. -/
  | descTail (t : Tick) (who : Principal) (r : RingId) (v : Nat)
  /-- DMA_BLOCK_TRANSFER (R389): A committed ring block and a posted descriptor are available and the block is written to host memory. -/
  | dmaBlockTransfer (t : Tick) (r : RingId) (d : Desc)
  /-- DMA_BLOCK_ACKED (R389): Every TLP of a block is acknowledged; CONS_HOST advances and a full descriptor is written back. -/
  | dmaBlockAcked (t : Tick) (r : RingId)
  /-- DMA_FLUSH_EXPIRY (R389): DMA_FLUSH elapses since a descriptor's first block and it is written back SHORT. -/
  | dmaFlushExpiry (t : Tick) (r : RingId)
  /-- DESC_FETCH_ERROR (R389): A descriptor fetch ends in Completion Timeout, UR or CA; the channel stops with DMA_ERR. -/
  | descFetchError (t : Tick) (r : RingId)
  /-- NQ_ENTRY_WRITE (R391): An event of a NOTIFY channel owned by the function is written to its notification queue, or counted as lost. -/
  | nqEntryWrite (t : Tick) (f : FnId)
  /-- IRQ_HOLDOFF_END (R392): IRQ_HOLDOFF ends and a vector raised meanwhile sends its message. -/
  | irqHoldoffEnd (t : Tick) (f : FnId) (vec : Nat)
  /-- J_EN (R399): A J_EN write starts the recorder, laying out a store if needed, or stops it and flushes. -/
  | jEn (t : Tick) (who : Principal) (v : Nat) (d : DriveInfo)
  /-- STORE_INIT (R399): A STORE_INIT write discards the journal and lays out the store afresh. -/
  | storeInit (t : Tick) (who : Principal) (v : Nat) (d : DriveInfo)
  /-- J_FLUSH_EXPIRY (R401): J_FLUSH elapses since a chunk's first record and the chunk closes for writing. -/
  | jFlushExpiry (t : Tick)
  /-- NVME_CMD_COMPLETE (R406): An NVMe command completes, succeeds or fails, with a retry after a first failure. -/
  | nvmeCmdComplete (t : Tick) (ok : Bool)
  /-- NVME_CMD_TIMEOUT (R406): An NVMe command exceeds 1 s and is retried or the recorder faults. -/
  | nvmeCmdTimeout (t : Tick)
  /-- HEADER_COMMIT_DUE (R399): 1,024 chunks or 10 s pass and the store header is committed with FUA. -/
  | headerCommitDue (t : Tick)
  /-- JOURNAL_SCAN_DONE (R400): The boot scan of the journal finds the end and sets CHUNK_NEXT. -/
  | journalScanDone (t : Tick) (d : DriveInfo) (next : Nat)
  /-- CHECKPOINT_DUE (R404): CKPT_INTERVAL elapses and a checkpoint is journalled between CKPT_MARK records. -/
  | checkpointDue (t : Tick)
  /-- J2_SNAP_DUE (R404): J2_SNAP_INTERVAL elapses and a SNAP record is written for each J_2 port. -/
  | j2SnapDue (t : Tick)
  /-- OFFLOADED (R407): An OFFLOADED write marks chunks as offloaded and may free space under PROTECT. -/
  | offloaded (t : Tick) (who : Principal) (v : Nat)
  /-- RP_CTRL_START (R408): A replay START is checked and the session begins its SEEK. -/
  | rpCtrlStart (t : Tick) (who : Principal)
  /-- RP_CTRL_STOP (R411): A replay STOP ends the session with STOPPED. -/
  | rpCtrlStop (t : Tick) (who : Principal)
  /-- REPLAY_SEEK_DONE (R408): The checkpoint is loaded and the session enters RUNNING, or ends with NO_START. -/
  | replaySeekDone (t : Tick) (found : Bool)
  /-- REPLAY_CHUNK_AVAILABLE (R411): A chunk the session waits for becomes available and replay continues, comparing and reporting divergence. -/
  | replayChunkAvailable (t : Tick) (c : RpChunk)
  /-- PMB_POLL (R438): PMB_POLL elapses and every enabled rail is read. -/
  | pmbPoll (t : Tick)
  /-- PMB_ALERT (R438): PMB_ALERT_N falls and STATUS_WORD of every enabled rail is read. -/
  | pmbAlert (t : Tick)
  /-- PMB_TRANSACTION_DONE (R438): A PMBus transaction completes, is retried, or makes the rail NO_RESPONSE. -/
  | pmbTransactionDone (t : Tick) (ok : Bool) (data : Nat)
  /-- RAIL_ON (R439): A RAIL_ON write turns a USER rail on or off. -/
  | railOn (t : Tick) (who : Principal) (n : RailId) (v : Nat)
  /-- RAIL_PG_TIMEOUT (R439): A rail is not power-good within 100 ms and reads FAULT. -/
  | railPgTimeout (t : Tick) (n : RailId)
  /-- RAIL_DELAY_END (R439): RAIL_DELAY after power-good ends and the next rail in order is commanded. -/
  | railDelayEnd (t : Tick) (n : RailId)
  /-- FW_IMAGE (R427): The last segment of a FW_IMAGE write is accepted and the image is stored to the older slot. -/
  | fwImage (t : Tick) (who : Principal) (img : FwImage)
  /-- FW_STORE_DONE (R427): The image is verified and committed (READY) or rejected. -/
  | fwStoreDone (t : Tick) (ok : Bool)
  /-- ACTIVATE (R427): FW_CTRL ACTIVATE restarts the cores into the new image one at a time. -/
  | activate (t : Tick) (who : Principal)
  /-- RESET_ACTIVATE (R427): FW_CTRL RESET_ACTIVATE resets the device with cause FW_ACTIVATE. -/
  | resetActivate (t : Tick) (who : Principal)
  /-- CORE_RESTART_DONE (R427): A core finishes restarting into the new image and the next core restarts. -/
  | coreRestartDone (t : Tick)
  /-- SEC_HOLDERS (R446): A SEC_HOLDERS write changes which principals hold the secure attribute. -/
  | secHolders (t : Tick) (who : Principal) (v : Nat)
  /-- OWN_ASSIGN (R447): An OWN_ASSIGN write changes the owner and attribute of one scope. -/
  | ownAssign (t : Tick) (who : Principal) (v : Nat)
  /-- DEVICE_CLAIM (R449): A DEVICE_CLAIM write makes PF0 or NET_k the device owner. -/
  | deviceClaim (t : Tick) (who : Principal) (v : Nat)
  /-- SVN_LOCK (R451): An SVN_LOCK write raises SVN_MIN to the running image's SVN. -/
  | svnLock (t : Tick) (who : Principal) (v : Nat)
  /-- KEY (R452): A KEY write programs the next row of a key slot and invalidates the previous one. -/
  | key (t : Tick) (who : Principal) (k : KeyId) (key : List Byte)
  /-- KEY_REVOKE (R452): A KEY_REVOKE write invalidates the current row of a key slot. -/
  | keyRevoke (t : Tick) (who : Principal) (k : KeyId) (v : Nat)
  /-- RNG_HEALTH_FAIL (R453): The entropy source fails a health test; RNG_FAIL is set and SESSION_OPEN is refused. -/
  | rngHealthFail (t : Tick)
  /-- TAMPER (R455): An accepted tamper (TAMP pin, voltage, clock or temperature detector) wipes the Sapphire region and applies TAMP_ACTION. -/
  | tamper (t : Tick) (src : TamperSrc)
  /-- LC_REQ (R459): An LC_REQ write requests a life-cycle transition and sets LC_PENDING. -/
  | lcReq (t : Tick) (who : Principal) (v : Nat)
  /-- LC_CONFIRM (R459): An LC_CONFIRM write starts the transition: sessions close, the Sapphire region is wiped and the fuse advances. -/
  | lcConfirm (t : Tick) (who : Principal) (v : Nat)
  /-- LC_REQ_TIMEOUT (R459): 10 s pass without a confirm and the pending transition is cancelled. -/
  | lcReqTimeout (t : Tick)
  /-- LC_STEP_END (R460): A timed step of a life-cycle transition ends and the next runs, ending with the erasures of the transition. -/
  | lcStepEnd (t : Tick)
  /-- RESET_N_RISE (R421): The rise of RESET_N is time 0 of the boot sequence: the straps are sampled and RESET_CAUSE is latched. -/
  | resetNRise (t : Tick) (refclkSel : Bool)
  /-- INTERNAL_RESET_RELEASE (R419): After a wake from STANDBY the always-on domain releases the internal reset once VDD_CORE, VDD_SRAM and VDDA have been valid for 1 ms, and the boot begins with cause WAKE. -/
  | internalResetRelease (t : Tick)
  /-- PCIE_LINK_UP (R394): Link training of the PCIe endpoint completes, LINK_SPEED and LINK_WIDTH take their values, and TARGET_SPEED applies. -/
  | pcieLinkUp (t : Tick) (speed : Fin 4) (width : Nat)
  /-- VF_ENABLE (R377): The host sets VF Enable, NUM_VF changes and the VFs begin to issue accesses as principals. -/
  | vfEnable (t : Tick) (n : Fin 17)
  /-- D0_ENTRY (R376): A function returns from D3hot to D0 and its windows serve requests again. -/
  | d0Entry (t : Tick) (f : FnId)
  /-- NVME_RETRY (R406): 1 ms after a failed or overdue NVMe command, the command is issued again once. -/
  | nvmeRetry (t : Tick)
  /-- DEFERRED_READBACK (R69): A read-back that fell due while its slice was blanked (span-change hold, 4 µs after a clear or clear release) is made at the end of that interval. -/
  | deferredReadback (t : Tick) (p : PortId)
  /-- VECTOR_UNMASK (R392): The host unmasks an MSI-X vector whose pending bit is set, and its message is sent. -/
  | vectorUnmask (t : Tick) (f : FnId) (vec : Nat)
deriving DecidableEq, Repr

end Sys2Proof
end

