-- ==== Sys2Proof/Config.lean ====
section
/-!
DEFINITION. Free values: what the manual leaves open and the machine nevertheless produces. Each is a constant with no
body, so nothing can be proved of its value. A value that may differ each time is applied to the counter `State.fresh`.
-/

namespace Sys2Proof.Config

/-- The error of a comparator threshold at the pins in nV (R151 states its bounds only): from the slice, the threshold (0 I_LO, 1 I_HI, 2 V_LO,
3 V_HI) and the tick. The caller limits it to ±1.0 mV. -/
opaque thError : Nat → Nat → Nat → Int

/-- The height of one hysteresis step of a comparator in nV (R151 states its bounds only): from the slice, whether it is the VS comparator, and the
tick. The caller limits it to 1.8-2.2 mV. -/
opaque hystStep : Nat → Bool → Nat → Int

/-- The new RATE of a slew (R209: "a second-order servo with time constant TB_TAU computes a new RATE"; the law of the
servo is not given): from the old RATE, the offset, TB_TAU and the fresh counter. It is limited by the caller. -/
opaque servoRate : Nat → Int → Nat → Nat → Nat

/-- Whether the binary64 arithmetic of a LOG point ends at the upper of two integers, where the exact value lies so near their middle that the
rounding inside the power decides (R182; that rounding is not given): from A, B, N and k. -/
opaque logUp : Int → Int → Nat → Nat → Bool

/-- The tick of an epoch from which its service was full (R410 reproduces PROVISIONAL; no record of R403 tells when full service began). -/
opaque fullFrom : Nat → Tick

/-- The port after the one that a pipeline's estimator had visited last at a tick (R106); no record of R403 tells it. -/
opaque visitAt : Nat → Tick → Nat

/-- What the march test leaves in a row of a physical bank (R259): the spec gives the test, not its data backgrounds (log entry 117). -/
opaque testLeft : Nat → Nat → BitVec 40

/-- The uncertainty stored with the values assigned at MANUFACTURE (R294), as a REAL32 image in ppm. -/
opaque mfgRefU : Nat

/-- u(D_pred) of R303, in 0.001 ppm (how the residual uncertainties and the temperature changes combine is not given): from the
two slices, their CAL_TEMP, SLICE_TEMP and TC_DAC. -/
opaque predU : List Nat → Nat

/-- TIME_NS of MANUFACTURE, from which the years of R330 count. -/
opaque mfgTime : Nat

/-- A fresh random number of the entropy source (R364, R453): byte `i` of draw `n`. -/
opaque random : Nat → Nat → Byte

/-- Whether the drive holds a chunk of an epoch between two chunk numbers (R408): the drive is outside the block. From the epoch, CHUNK_OLDEST and
CHUNK_NEXT. -/
opaque chunkHeld : Nat → Nat → Nat → Bool

/-- The bytes of a chunk as the drive returns it (R407): the drive is outside the block. From the chunk number and the byte's place in the chunk. -/
opaque chunkByte : Nat → Nat → Byte

/-- The image that a FW_IMAGE written as bytes carries: the layout of a firmware payload and its signature block are not given (R425, R450). -/
opaque fwImageOf : List Byte → FwImage

/-- The residence time that the bridge measures for a forwarded PTP event message (R212, R358: it is measured, and only its limits are
given), in the unit of correctionField: from the fresh counter. -/
opaque residence : Nat → Nat

/-- Whether the code of a ramp at an edge whose exact step falls between two codes is the upper of the two (R58: the steps are equal; how a
step that is no whole code is rounded is not given): from the codes at the start and the end, the edge's number and the number of edges. -/
opaque rampUpper : Nat → Nat → Nat → Nat → Bool

/-- The loop's input of a quantity from a window in which no conversion was made, as at the first enable, when the slice was parked until
then (R108 divides by the number of samples; R121): from the port, the tick and whether the quantity is V. -/
opaque noInput : Nat → Tick → Bool → Int

end Sys2Proof.Config
end

