-- ==== Sys2Proof/Machine/Arith.lean ====
section
/-!
DEFINITION. Integer, fixed-point and REAL32 arithmetic: saturation and mul() of R112, rounding, IEEE 754 binary32 and
binary64 values (R341), CRC-32C and the CRC-16 of R404, and little-endian byte strings (R341).
-/

namespace Sys2Proof.Machine

/-! ### Bits of numbers -/

def bitOf (n i : Nat) : Bool := n.testBit i

/-- Bits `lo + w - 1` down to `lo`. -/
def field (n lo w : Nat) : Nat := (n >>> lo) % 2 ^ w

/-- Replace bits `lo + w - 1` down to `lo` by `v`. -/
def putField (n lo w v : Nat) : Nat :=
  n - (field n lo w) * 2 ^ lo + (v % 2 ^ w) * 2 ^ lo

def putBit (n i : Nat) (b : Bool) : Nat := putField n i 1 b.toNat

/-! ### Signed 40-bit arithmetic (R5, R112) -/

def max40 : Int := 2 ^ 39 - 1
def min40 : Int := -(2 ^ 39)

/-- sat(v, lo, hi) of R112. -/
def satTo (v lo hi : Int) : Int := if v < lo then lo else if hi < v then hi else v

/-- sat(v) of R112: the INTEGER40 range. -/
def sat40 (v : Int) : Int := satTo v min40 max40

/-- mul(a, k) of R112 before saturation: the product in Q7.32, rounded to nearest with ties toward plus infinity. -/
def mulQ (a k : Int) : Int := (a * k + 2 ^ 31) / 2 ^ 32

/-- mul(a, k), saturated before it is stored or used (R112). -/
def mul40 (a k : Int) : Int := sat40 (mulQ a k)

/-- The 40-bit word of an integer, and the integer of a 40-bit word. -/
def toW40 (i : Int) : W40 := BitVec.ofInt 40 i
def ofW40 (w : W40) : Int := w.toInt

/-- Two's complement of a number of `n` bits. -/
def toSigned (n v : Nat) : Int := if v % 2 ^ n < 2 ^ (n - 1) then (v % 2 ^ n : Nat) else (v % 2 ^ n : Nat) - (2 ^ n : Nat)

/-- The `n`-bit image of an integer. -/
def ofSigned (n : Nat) (i : Int) : Nat := (i % (2 ^ n : Nat)).toNat

/-- +1.20 FS, the clamp of R108, R114 and R129. -/
def fs120 : Int := 0x2666666666

def absI (i : Int) : Int := if i < 0 then -i else i

/-- Saturating and wrapping counters. -/
def satAdd (bits n k : Nat) : Nat := min (n + k) (2 ^ bits - 1)
def wrapAdd (bits n k : Nat) : Nat := (n + k) % 2 ^ bits

/-! ### Rationals -/

/-- 2 to an integer power. -/
def pow2 (e : Int) : Rat := if 0 ≤ e then (2 ^ e.toNat : Nat) else mkRat 1 (2 ^ (-e).toNat)

/-- Round to nearest with ties toward plus infinity (R112, R119). -/
def roundUp (q : Rat) : Int := (q + mkRat 1 2).floor

/-- Round to nearest, ties to even. -/
def roundEven (q : Rat) : Int :=
  let f := q.floor
  let d := q - f
  if d < mkRat 1 2 then f else if mkRat 1 2 < d then f + 1 else if f % 2 = 0 then f else f + 1

/-- The least integer not below `q`. -/
def ceilR (q : Rat) : Int := -((-q).floor)

def absR (q : Rat) : Rat := if q < 0 then -q else q

/-- The exponent `e` with 2^e ≤ q < 2^(e+1), for q > 0. -/
def expOf (q : Rat) : Int :=
  let e : Int := (Nat.log2 q.num.natAbs : Int) - (Nat.log2 q.den : Int)
  if q < pow2 e then e - 1 else if pow2 (e + 1) ≤ q then e + 1 else e

/-- A floating value: NaN, an infinity, or a finite number. -/
inductive Fl where
  | nan
  | inf (neg : Bool)
  | fin (q : Rat)
deriving DecidableEq, Repr

/-- Round a rational to a binary format of `p` significant bits and least exponent `emin` (ties to even); values above
the greatest finite number become infinities. -/
def roundFl (p : Nat) (emin emax : Int) (q : Rat) : Fl :=
  if q = 0 then .fin 0
  else
    let a := absR q
    let e := max (expOf a) emin
    let ulp := pow2 (e - p + 1)
    let r := (roundEven (a / ulp) : Rat) * ulp
    if pow2 (emax + 1) ≤ r then .inf (decide (q < 0)) else .fin (if q < 0 then -r else r)

def round32 : Rat → Fl := roundFl 24 (-126) 127
def round64 : Rat → Fl := roundFl 53 (-1022) 1023

/-- The value of a binary32 pattern. -/
def ofF32 (b : Nat) : Fl :=
  let neg := b.testBit 31
  let e := field b 23 8
  let m := field b 0 23
  if e = 255 then (if m = 0 then .inf neg else .nan)
  else
    let q : Rat := if e = 0 then (m : Rat) * pow2 (-149) else ((2 ^ 23 + m : Nat) : Rat) * pow2 ((e : Int) - 150)
    .fin (if neg then -q else q)

/-- The binary32 pattern of a value (rounded if needed). Zero is given as plus zero. -/
def toF32 : Fl → Nat
  | .nan => 0x7FC00000
  | .inf neg => if neg then 0xFF800000 else 0x7F800000
  | .fin q =>
    match round32 q with
    | .nan => 0x7FC00000
    | .inf neg => if neg then 0xFF800000 else 0x7F800000
    | .fin r =>
      if r = 0 then 0
      else
        let a := absR r
        let e := max (expOf a) (-126)
        let mant := ((a / pow2 (e - 23)).floor).toNat
        let bits := (e + 126).toNat * 2 ^ 23 + mant
        if r < 0 then 2 ^ 31 + bits else bits

/-- The rational of a binary32 pattern; NaN and infinities give 0 (only used where the entry's limits exclude them). -/
def ratF32 (b : Nat) : Rat := match ofF32 b with | .fin q => q | _ => 0

def finiteF32 (b : Nat) : Bool := match ofF32 b with | .fin _ => true | _ => false

/-- The REAL32 pattern nearest a rational. -/
def f32 (q : Rat) : Nat := toF32 (.fin q)

/-- IEEE operations rounded to a format given by `rnd`. An invalid operation gives NaN. -/
def flMul (rnd : Rat → Fl) : Fl → Fl → Fl
  | .fin a, .fin b => rnd (a * b)
  | .nan, _ => .nan
  | _, .nan => .nan
  | .inf s, .inf t => .inf (s != t)
  | .inf s, .fin b => if b = 0 then .nan else .inf (s != decide (b < 0))
  | .fin a, .inf t => if a = 0 then .nan else .inf (t != decide (a < 0))

def flAdd (rnd : Rat → Fl) : Fl → Fl → Fl
  | .fin a, .fin b => rnd (a + b)
  | .nan, _ => .nan
  | _, .nan => .nan
  | .inf s, .inf t => if s = t then .inf s else .nan
  | .inf s, .fin _ => .inf s
  | .fin _, .inf t => .inf t

def flDiv (rnd : Rat → Fl) : Fl → Fl → Fl
  | .fin a, .fin b => if b = 0 then (if a = 0 then .nan else .inf (decide (a < 0))) else rnd (a / b)
  | .nan, _ => .nan
  | _, .nan => .nan
  | .inf _, .inf _ => .nan
  | .inf s, .fin b => .inf (s != decide (b < 0))
  | .fin _, .inf _ => .fin 0

/-- The integer square root rounded to a format: the value of √q rounded to nearest by comparing squares. -/
def sqrtFl (p : Nat) (q : Rat) : Fl :=
  if q ≤ 0 then .fin 0
  else
    let e := expOf q
    let h := e / 2
    -- scale q so that its root has p + 2 integer bits, take the integer root and round to nearest
    let sc := pow2 (2 * ((p : Int) + 2 - h))
    let n := ((q * sc).floor).toNat
    let r := Nat.sqrt n
    let exact := decide ((r * r : Nat) = n) && decide ((q * sc).floor = q * sc)
    let v : Rat := ((r : Nat) : Rat) + (if exact then 0 else mkRat 1 2)
    roundFl p (-1022) 1023 (v / pow2 ((p : Int) + 2 - h))

/-! ### Bytes and words -/

/-- The number of a little-endian byte string. -/
def leNat : List Byte → Nat
  | [] => 0
  | b :: t => b.toNat + 256 * leNat t

/-- The `n` low bytes of a number, least significant first. -/
def leBytes : Nat → Nat → List Byte
  | 0, _ => []
  | n + 1, v => BitVec.ofNat 8 (v % 256) :: leBytes n (v / 256)

/-- The number of a list of bytes, least significant first. -/
def ofLe : List Byte → Nat
  | [] => 0
  | b :: r => b.toNat + 256 * ofLe r

/-! ### Check words -/

/-- One byte of a reflected CRC-32C (polynomial 0x1EDC6F41). -/
def crc32cBits : Nat → Nat → Nat
  | 0, c => c
  | n + 1, c => crc32cBits n (if c % 2 = 1 then (c / 2) ^^^ 0x82F63B78 else c / 2)

def crc32cStep (c : Nat) (b : Byte) : Nat := crc32cBits 8 (c ^^^ b.toNat)

/-- CRC-32C of a byte string: initial value and final inversion all ones. -/
def crc32c (bs : List Byte) : Nat := (bs.foldl crc32cStep 0xFFFFFFFF) ^^^ 0xFFFFFFFF

/-- CRC-16, polynomial 0x1021, most significant bit first. -/
def crc16Bits : Nat → Nat → Nat
  | 0, c => c
  | n + 1, c => crc16Bits n (if 0x8000 ≤ c then ((c * 2) % 0x10000) ^^^ 0x1021 else (c * 2) % 0x10000)

def crc16 (init : Nat) (bs : List Byte) : Nat :=
  bs.foldl (fun c b => crc16Bits 8 (c ^^^ (b.toNat * 256))) init

/-! ### CLK_FAST edges -/

/-- The first CLK_FAST edge at or after `t` (edges at multiples of 32 ticks). -/
def edgeAt (t : Tick) : Tick := ((t + 31) / 32) * 32

/-- The first CLK_FAST edge after `t`. -/
def edgeAfter (t : Tick) : Tick := (t / 32 + 1) * 32

/-- The first CLK_FAST edge at least two ticks after `t` (R55, R164, R167). -/
def strikeEdge (t : Tick) : Tick := edgeAt (t + 2)

/-- floor(log2 n) with the value 0 for 0. -/
def log2 (n : Nat) : Nat := Nat.log2 n

/-- The number whose little-endian bytes are given. -/
def leNum : List Byte → Nat
  | [] => 0
  | b :: r => b.toNat + 256 * leNum r

end Sys2Proof.Machine
end

