-- ==== Sys2Proof/Machine/OdTable.lean ====
section
/-!
DEFINITION. The object dictionary: the index map of R340, and one row per entry with its subindex, type, access,
reset value (R351) and stated limits, written from the entry tables of the rules named at each list.
A key is `index * 256 + subindex`; an entry's key is named after the entry.
-/

namespace Sys2Proof.Machine

/-- Data types of R341. -/
inductive Ty where
  | bool | u8 | u16 | u32 | u64 | i32 | i40 | i64 | fsq | real | time | str | oct | domain
deriving DecidableEq, Repr

/-- Access rights of R342. -/
inductive Acc where
  | ro | rw | wo | const | rwc
deriving DecidableEq, Repr

/-- The limit an entry's own text states for a written value. `w1c m`: a status word whose W1C bits are `m`.
`mask m`: bits outside `m` are reserved, write 0. -/
inductive Lim where
  | any | finite | intSpec | chan | ring | portOrNone | ctxOrNone | trigCfg | t1l | pageAligned | tampAction
  | le (n : Nat) | rng (lo hi : Nat) | zeroOr (lo hi : Nat) | srng (lo hi : Int) | oneOf (l : List Nat)
  | mask (m : Nat) | w1c (m : Nat) | real (lo hi : Rat) | realZeroOr (lo hi : Rat)
deriving DecidableEq, Repr

/-- One entry of a record. -/
structure Row where
  sub : Nat
  ty : Ty
  acc : Acc
  dflt : Nat
  lim : Lim
deriving DecidableEq, Repr

/-- The kinds of record of R340. -/
inductive Rec where
  | id  -- identity
  | pe  -- PCIe endpoint
  | dm  -- DMA channel
  | fn  -- PCIe function
  | ne  -- 10BASE-T1L ports
  | br  -- bridge
  | cn  -- CAN FD port
  | ss  -- COP session
  | lg  -- RS-485 legacy port
  | dv  -- device control
  | pw  -- power control
  | fw  -- images
  | rl  -- PMBus rail
  | tb  -- timebase
  | ev  -- event-fabric globals
  | ec  -- counter
  | dl  -- delay unit
  | tm  -- timer
  | fb  -- fabric and scratchpad
  | rg  -- region
  | rn  -- stream ring
  | sq  -- sequencer globals
  | mc  -- monitor converter
  | ca  -- calibration globals
  | se  -- security
  | ky  -- key slot
  | gr  -- group
  | pt  -- port
  | sl  -- slice
  | ch  -- event channel
  | cx  -- context
  | ls  -- sweep-list header
  | rc  -- recorder
  | rp  -- replay
  | ag  -- ageing globals
deriving DecidableEq, Repr

/-! ### identity, OD 0x1000 -/
abbrev Id.VENDOR : Nat := 0x100001
abbrev Id.PRODUCT : Nat := 0x100002
abbrev Id.PART_NUMBER : Nat := 0x100003
abbrev Id.GRADE : Nat := 0x100004
abbrev Id.STEPPING : Nat := 0x100005
abbrev Id.SERIAL : Nat := 0x100006
abbrev Id.OD_ISSUE : Nat := 0x100007
abbrev Id.FW_VERSION_0 : Nat := 0x100008
abbrev Id.FW_VERSION_1 : Nat := 0x100009
abbrev Id.FW_VERSION_2 : Nat := 0x10000A
abbrev Id.FW_VERSION_3 : Nat := 0x10000B
abbrev Id.FW_VERSION_4 : Nat := 0x10000C
abbrev Id.FW_VERSION_5 : Nat := 0x10000D
abbrev Id.LIFE_CYCLE : Nat := 0x10000E
abbrev Id.PORTS : Nat := 0x10000F
abbrev Id.CONTEXTS : Nat := 0x100010
abbrev Id.LISTS : Nat := 0x100011
abbrev Id.CHANNELS : Nat := 0x100012

/-! ### PCIe endpoint, OD 0x1100 -/
abbrev Pe.VENDOR_ID : Nat := 0x110001
abbrev Pe.SUBSYS : Nat := 0x110002
abbrev Pe.LINK_SPEED : Nat := 0x110003
abbrev Pe.LINK_WIDTH : Nat := 0x110004
abbrev Pe.TARGET_SPEED : Nat := 0x110005
abbrev Pe.NUM_VF : Nat := 0x110006
abbrev Pe.UR_COUNT : Nat := 0x110007
abbrev Pe.POISON_TX : Nat := 0x110008
abbrev Pe.POISON_RX : Nat := 0x110009
abbrev Pe.CORR_COUNT : Nat := 0x11000A

/-! ### DMA channel, OD 0x1110+n -/
abbrev Dm.DMA_EN (n : Nat) : Nat := (0x1110 + n) * 256 + 0x01
abbrev Dm.DESC_BASE (n : Nat) : Nat := (0x1110 + n) * 256 + 0x02
abbrev Dm.DESC_LOG2 (n : Nat) : Nat := (0x1110 + n) * 256 + 0x03
abbrev Dm.FORMAT (n : Nat) : Nat := (0x1110 + n) * 256 + 0x04
abbrev Dm.DMA_FLUSH (n : Nat) : Nat := (0x1110 + n) * 256 + 0x05
abbrev Dm.VECTOR (n : Nat) : Nat := (0x1110 + n) * 256 + 0x06
abbrev Dm.DESC_TAIL (n : Nat) : Nat := (0x1110 + n) * 256 + 0x07
abbrev Dm.DESC_HEAD (n : Nat) : Nat := (0x1110 + n) * 256 + 0x08
abbrev Dm.BLOCKS_SENT (n : Nat) : Nat := (0x1110 + n) * 256 + 0x09
abbrev Dm.DMA_STATUS (n : Nat) : Nat := (0x1110 + n) * 256 + 0x0A

/-! ### PCIe function, OD 0x1140+n -/
abbrev Fn.MB_VECTOR (n : Nat) : Nat := (0x1140 + n) * 256 + 0x01
abbrev Fn.ERR_VECTOR (n : Nat) : Nat := (0x1140 + n) * 256 + 0x02
abbrev Fn.IRQ_HOLDOFF (n : Nat) : Nat := (0x1140 + n) * 256 + 0x03
abbrev Fn.NQ_EN (n : Nat) : Nat := (0x1140 + n) * 256 + 0x04
abbrev Fn.NQ_BASE (n : Nat) : Nat := (0x1140 + n) * 256 + 0x05
abbrev Fn.NQ_LOG2 (n : Nat) : Nat := (0x1140 + n) * 256 + 0x06
abbrev Fn.NQ_HEAD (n : Nat) : Nat := (0x1140 + n) * 256 + 0x07
abbrev Fn.NQ_TAIL (n : Nat) : Nat := (0x1140 + n) * 256 + 0x08
abbrev Fn.NQ_VECTOR (n : Nat) : Nat := (0x1140 + n) * 256 + 0x09
abbrev Fn.NQ_LOST (n : Nat) : Nat := (0x1140 + n) * 256 + 0x0A
abbrev Fn.DIRECT_ABORT (n : Nat) : Nat := (0x1140 + n) * 256 + 0x0B
abbrev Fn.DIRECT_ERR (n : Nat) : Nat := (0x1140 + n) * 256 + 0x0C

/-! ### 10BASE-T1L ports, OD 0x1200 -/
abbrev Ne.MAC_ADDR : Nat := 0x120001
abbrev Ne.IP6_ADDR : Nat := 0x120002
abbrev Ne.IP4_ADDR : Nat := 0x120003
abbrev Ne.IP4_MASK : Nat := 0x120004
abbrev Ne.IP4_GW : Nat := 0x120005
abbrev Ne.T1L_LEVEL : Nat := 0x120006
abbrev Ne.LINK : Nat := 0x120007
abbrev Ne.RX_DROP : Nat := 0x120008

/-! ### bridge, OD 0x1201 -/
abbrev Br.BRIDGE_EN : Nat := 0x120101
abbrev Br.FWD_DROP : Nat := 0x120102
abbrev Br.FCS_ERR : Nat := 0x120103

/-! ### CAN FD port, OD 0x1210 -/
abbrev Cn.CAN_EN : Nat := 0x121001
abbrev Cn.CAN_NODE : Nat := 0x121002
abbrev Cn.CAN_NOM_RATE : Nat := 0x121003
abbrev Cn.CAN_DATA_RATE : Nat := 0x121004
abbrev Cn.CAN_STATE : Nat := 0x121005
abbrev Cn.CAN_BUSOFF : Nat := 0x121006
abbrev Cn.CAN_SEG_ERR : Nat := 0x121007

/-! ### COP session, OD 0x1220+n -/
abbrev Ss.SESSION_STATE (n : Nat) : Nat := (0x1220 + n) * 256 + 0x01
abbrev Ss.SESSION_TIMEOUT (n : Nat) : Nat := (0x1220 + n) * 256 + 0x02
abbrev Ss.NOTIFY_HOLDOFF (n : Nat) : Nat := (0x1220 + n) * 256 + 0x03
abbrev Ss.SUB_COUNT (n : Nat) : Nat := (0x1220 + n) * 256 + 0x04
abbrev Ss.AUTH_FAIL (n : Nat) : Nat := (0x1220 + n) * 256 + 0x05
abbrev Ss.REPLAY_DROP (n : Nat) : Nat := (0x1220 + n) * 256 + 0x06
abbrev Ss.NOTIFY_LOST (n : Nat) : Nat := (0x1220 + n) * 256 + 0x07
abbrev Ss.CLOSE (n : Nat) : Nat := (0x1220 + n) * 256 + 0x08

/-! ### RS-485 legacy port, OD 0x1300 -/
abbrev Lg.LEG_EN : Nat := 0x130001
abbrev Lg.LEG_ADDR : Nat := 0x130002
abbrev Lg.LEG_BAUD : Nat := 0x130003
abbrev Lg.LEG_ERR : Nat := 0x130004

/-! ### device control, OD 0x2000 -/
abbrev Dv.OWNER : Nat := 0x200001
abbrev Dv.SEC : Nat := 0x200002
abbrev Dv.DEVICE_CONFIG : Nat := 0x200003
abbrev Dv.CFG_SAVE : Nat := 0x200004
abbrev Dv.CFG_STATE : Nat := 0x200005
abbrev Dv.CFG_SEQ : Nat := 0x200006
abbrev Dv.OD_STATUS : Nat := 0x200007
abbrev Dv.LAST_ABORT : Nat := 0x200008
abbrev Dv.LAST_ABORT_ENTRY : Nat := 0x200009
abbrev Dv.OD_HELD : Nat := 0x20000A
abbrev Dv.OD_ACCESSES : Nat := 0x20000B

/-! ### power control, OD 0x2001 -/
abbrev Pw.POWER_STATE : Nat := 0x200101
abbrev Pw.POWER_REQ : Nat := 0x200102
abbrev Pw.RESET_CAUSE : Nat := 0x200103
abbrev Pw.T_PROV : Nat := 0x200104
abbrev Pw.T_FULL : Nat := 0x200105
abbrev Pw.GATE_MASK : Nat := 0x200106
abbrev Pw.PFW_ACTION : Nat := 0x200107
abbrev Pw.STANDBY_SAVE : Nat := 0x200108
abbrev Pw.PMB_SPEED : Nat := 0x200109
abbrev Pw.PMB_POLL : Nat := 0x20010A
abbrev Pw.PWR_STATUS : Nat := 0x20010B
abbrev Pw.BOOT_COUNT : Nat := 0x20010C

/-! ### images, OD 0x2002 -/
abbrev Fw.FW_SLOT : Nat := 0x200201
abbrev Fw.FW_SEQ_A : Nat := 0x200202
abbrev Fw.FW_SEQ_B : Nat := 0x200203
abbrev Fw.FW_IMAGE : Nat := 0x200204
abbrev Fw.FW_CTRL : Nat := 0x200205
abbrev Fw.FW_STATE : Nat := 0x200206
abbrev Fw.FW_STATUS : Nat := 0x200207
abbrev Fw.BOOT_FAILS : Nat := 0x200208
abbrev Fw.CFG_SLOT : Nat := 0x200209

/-! ### PMBus rail, OD 0x2010+n -/
abbrev Rl.RAIL_EN (n : Nat) : Nat := (0x2010 + n) * 256 + 0x01
abbrev Rl.RAIL_ADDR (n : Nat) : Nat := (0x2010 + n) * 256 + 0x02
abbrev Rl.RAIL_PAGE (n : Nat) : Nat := (0x2010 + n) * 256 + 0x03
abbrev Rl.RAIL_ROLE (n : Nat) : Nat := (0x2010 + n) * 256 + 0x04
abbrev Rl.RAIL_GROUP (n : Nat) : Nat := (0x2010 + n) * 256 + 0x05
abbrev Rl.RAIL_ORDER (n : Nat) : Nat := (0x2010 + n) * 256 + 0x06
abbrev Rl.RAIL_DELAY (n : Nat) : Nat := (0x2010 + n) * 256 + 0x07
abbrev Rl.RAIL_VOUT (n : Nat) : Nat := (0x2010 + n) * 256 + 0x08
abbrev Rl.RAIL_TOL (n : Nat) : Nat := (0x2010 + n) * 256 + 0x09
abbrev Rl.RAIL_ON (n : Nat) : Nat := (0x2010 + n) * 256 + 0x0A
abbrev Rl.RAIL_STATE (n : Nat) : Nat := (0x2010 + n) * 256 + 0x0B
abbrev Rl.RAIL_V (n : Nat) : Nat := (0x2010 + n) * 256 + 0x0C
abbrev Rl.RAIL_I (n : Nat) : Nat := (0x2010 + n) * 256 + 0x0D
abbrev Rl.RAIL_T (n : Nat) : Nat := (0x2010 + n) * 256 + 0x0E
abbrev Rl.RAIL_STATUS (n : Nat) : Nat := (0x2010 + n) * 256 + 0x0F

/-! ### timebase, OD 0x2100 -/
abbrev Tb.TIME_SRC : Nat := 0x210001
abbrev Tb.TICKS_NOW : Nat := 0x210002
abbrev Tb.TIME_NOW : Nat := 0x210003
abbrev Tb.EPOCH : Nat := 0x210004
abbrev Tb.TAI_SET : Nat := 0x210005
abbrev Tb.STEP_NS : Nat := 0x210006
abbrev Tb.TB_TAU : Nat := 0x210007
abbrev Tb.RATE_LIM : Nat := 0x210008
abbrev Tb.SEGMENT : Nat := 0x210009
abbrev Tb.OFFSET_LAST : Nat := 0x21000A
abbrev Tb.TB_STATUS : Nat := 0x21000B
abbrev Tb.PPS_WINDOW : Nat := 0x21000C
abbrev Tb.PPS_OUT_WIDTH : Nat := 0x21000D
abbrev Tb.PTP_PORT : Nat := 0x21000E
abbrev Tb.PTP_DOMAIN : Nat := 0x21000F
abbrev Tb.PTP_TRANSPORT : Nat := 0x210010
abbrev Tb.SYNC_ROLE : Nat := 0x210011
abbrev Tb.SYNC_DELAY : Nat := 0x210012
abbrev Tb.RESYNC : Nat := 0x210013
abbrev Tb.PLL_ACTIVE : Nat := 0x210014
abbrev Tb.STEP_COUNT : Nat := 0x210015
abbrev Tb.PPS_REJECT : Nat := 0x210016
abbrev Tb.PTP_TWOSTEP_DROP : Nat := 0x210017

/-! ### event-fabric globals, OD 0x2200 -/
abbrev Ev.GONG_SRC : Nat := 0x220001
abbrev Ev.GONG_COUNT : Nat := 0x220002
abbrev Ev.TRIG_OVR : Nat := 0x220003
abbrev Ev.TRIG_LEVEL : Nat := 0x220004
abbrev Ev.CH_ACTIVE : Nat := 0x220005
abbrev Ev.TRIG_CFG_0 : Nat := 0x220010
abbrev Ev.TRIG_CFG_1 : Nat := 0x220011
abbrev Ev.TRIG_CFG_2 : Nat := 0x220012
abbrev Ev.TRIG_CFG_3 : Nat := 0x220013
abbrev Ev.TRIG_CFG_4 : Nat := 0x220014
abbrev Ev.TRIG_CFG_5 : Nat := 0x220015
abbrev Ev.TRIG_CFG_6 : Nat := 0x220016
abbrev Ev.TRIG_CFG_7 : Nat := 0x220017
abbrev Ev.TRIG_CFG_8 : Nat := 0x220018
abbrev Ev.TRIG_CFG_9 : Nat := 0x220019
abbrev Ev.TRIG_CFG_10 : Nat := 0x22001A
abbrev Ev.TRIG_CFG_11 : Nat := 0x22001B
abbrev Ev.TRIG_CFG_12 : Nat := 0x22001C
abbrev Ev.TRIG_CFG_13 : Nat := 0x22001D
abbrev Ev.TRIG_CFG_14 : Nat := 0x22001E
abbrev Ev.TRIG_CFG_15 : Nat := 0x22001F
abbrev Ev.TRIG_OWNER_0 : Nat := 0x220020
abbrev Ev.TRIG_OWNER_1 : Nat := 0x220021
abbrev Ev.TRIG_OWNER_2 : Nat := 0x220022
abbrev Ev.TRIG_OWNER_3 : Nat := 0x220023
abbrev Ev.TRIG_OWNER_4 : Nat := 0x220024
abbrev Ev.TRIG_OWNER_5 : Nat := 0x220025
abbrev Ev.TRIG_OWNER_6 : Nat := 0x220026
abbrev Ev.TRIG_OWNER_7 : Nat := 0x220027
abbrev Ev.TRIG_OWNER_8 : Nat := 0x220028
abbrev Ev.TRIG_OWNER_9 : Nat := 0x220029
abbrev Ev.TRIG_OWNER_10 : Nat := 0x22002A
abbrev Ev.TRIG_OWNER_11 : Nat := 0x22002B
abbrev Ev.TRIG_OWNER_12 : Nat := 0x22002C
abbrev Ev.TRIG_OWNER_13 : Nat := 0x22002D
abbrev Ev.TRIG_OWNER_14 : Nat := 0x22002E
abbrev Ev.TRIG_OWNER_15 : Nat := 0x22002F

/-! ### counter, OD 0x2240+n -/
abbrev Ec.OWNER (n : Nat) : Nat := (0x2240 + n) * 256 + 0x01
abbrev Ec.INC_EVENT_0 (n : Nat) : Nat := (0x2240 + n) * 256 + 0x02
abbrev Ec.INC_EVENT_1 (n : Nat) : Nat := (0x2240 + n) * 256 + 0x03
abbrev Ec.INC_EVENT_2 (n : Nat) : Nat := (0x2240 + n) * 256 + 0x04
abbrev Ec.INC_EVENT_3 (n : Nat) : Nat := (0x2240 + n) * 256 + 0x05
abbrev Ec.CLR_EVENT (n : Nat) : Nat := (0x2240 + n) * 256 + 0x06
abbrev Ec.EC_MODE (n : Nat) : Nat := (0x2240 + n) * 256 + 0x07
abbrev Ec.EC_COMPARE (n : Nat) : Nat := (0x2240 + n) * 256 + 0x08
abbrev Ec.EC_RELOAD (n : Nat) : Nat := (0x2240 + n) * 256 + 0x09
abbrev Ec.EC_COUNT (n : Nat) : Nat := (0x2240 + n) * 256 + 0x0A
abbrev Ec.EC_COINCIDE (n : Nat) : Nat := (0x2240 + n) * 256 + 0x0B

/-! ### delay unit, OD 0x2280+n -/
abbrev Dl.OWNER (n : Nat) : Nat := (0x2280 + n) * 256 + 0x01
abbrev Dl.FIRE_EVENT (n : Nat) : Nat := (0x2280 + n) * 256 + 0x02
abbrev Dl.DELAY (n : Nat) : Nat := (0x2280 + n) * 256 + 0x03
abbrev Dl.DLY_STATUS (n : Nat) : Nat := (0x2280 + n) * 256 + 0x04

/-! ### timer, OD 0x2290+n -/
abbrev Tm.OWNER (n : Nat) : Nat := (0x2290 + n) * 256 + 0x01
abbrev Tm.TMR_PERIOD (n : Nat) : Nat := (0x2290 + n) * 256 + 0x02
abbrev Tm.TMR_PHASE (n : Nat) : Nat := (0x2290 + n) * 256 + 0x03

/-! ### fabric and scratchpad, OD 0x2300 -/
abbrev Fb.FAB_STATUS : Nat := 0x230001
abbrev Fb.WCOLL_ADDR : Nat := 0x230002
abbrev Fb.WCOLL_MASTERS : Nat := 0x230003
abbrev Fb.CE_COUNT : Nat := 0x230004
abbrev Fb.UE_COUNT : Nat := 0x230005
abbrev Fb.UE_ADDR : Nat := 0x230006
abbrev Fb.BT_EN : Nat := 0x230007
abbrev Fb.BT_INTERVAL : Nat := 0x230008
abbrev Fb.BT_STATE : Nat := 0x230009
abbrev Fb.BT_BANK : Nat := 0x23000A
abbrev Fb.BT_SPARE : Nat := 0x23000B
abbrev Fb.BT_PASSES : Nat := 0x23000C
abbrev Fb.BANK_MAP : Nat := 0x23000D
abbrev Fb.SPARE_FREE : Nat := 0x23000E
abbrev Fb.SAPPHIRE_WIPES : Nat := 0x23000F
abbrev Fb.SAPPHIRE_VIOL : Nat := 0x230010
abbrev Fb.BT_REQUEST : Nat := 0x230011
abbrev Fb.CONFLICT_0 : Nat := 0x230020
abbrev Fb.CONFLICT_1 : Nat := 0x230021
abbrev Fb.CONFLICT_2 : Nat := 0x230022
abbrev Fb.CONFLICT_3 : Nat := 0x230023
abbrev Fb.CONFLICT_4 : Nat := 0x230024
abbrev Fb.CONFLICT_5 : Nat := 0x230025
abbrev Fb.CONFLICT_6 : Nat := 0x230026
abbrev Fb.CONFLICT_7 : Nat := 0x230027
abbrev Fb.CONFLICT_8 : Nat := 0x230028
abbrev Fb.CONFLICT_9 : Nat := 0x230029
abbrev Fb.CONFLICT_10 : Nat := 0x23002A
abbrev Fb.CONFLICT_11 : Nat := 0x23002B
abbrev Fb.CONFLICT_12 : Nat := 0x23002C
abbrev Fb.CONFLICT_13 : Nat := 0x23002D
abbrev Fb.CONFLICT_14 : Nat := 0x23002E
abbrev Fb.CONFLICT_15 : Nat := 0x23002F
abbrev Fb.CONFLICT_16 : Nat := 0x230030
abbrev Fb.CONFLICT_17 : Nat := 0x230031
abbrev Fb.CONFLICT_18 : Nat := 0x230032
abbrev Fb.CONFLICT_19 : Nat := 0x230033
abbrev Fb.CONFLICT_20 : Nat := 0x230034
abbrev Fb.CONFLICT_21 : Nat := 0x230035
abbrev Fb.CONFLICT_22 : Nat := 0x230036
abbrev Fb.CONFLICT_23 : Nat := 0x230037
abbrev Fb.CONFLICT_24 : Nat := 0x230038
abbrev Fb.CONFLICT_25 : Nat := 0x230039
abbrev Fb.CONFLICT_26 : Nat := 0x23003A
abbrev Fb.CONFLICT_27 : Nat := 0x23003B
abbrev Fb.CONFLICT_28 : Nat := 0x23003C
abbrev Fb.CONFLICT_29 : Nat := 0x23003D
abbrev Fb.CONFLICT_30 : Nat := 0x23003E
abbrev Fb.CONFLICT_31 : Nat := 0x23003F
abbrev Fb.CONFLICT_CLR : Nat := 0x230040

/-! ### region, OD 0x2340+n -/
abbrev Rg.OWNER (n : Nat) : Nat := (0x2340 + n) * 256 + 0x01
abbrev Rg.SEC (n : Nat) : Nat := (0x2340 + n) * 256 + 0x02
abbrev Rg.FIRST_PAGE (n : Nat) : Nat := (0x2340 + n) * 256 + 0x03
abbrev Rg.PAGE_COUNT (n : Nat) : Nat := (0x2340 + n) * 256 + 0x04
abbrev Rg.REGION_EN (n : Nat) : Nat := (0x2340 + n) * 256 + 0x05
abbrev Rg.REGION_STATE (n : Nat) : Nat := (0x2340 + n) * 256 + 0x06

/-! ### stream ring, OD 0x2380+n -/
abbrev Rn.OWNER (n : Nat) : Nat := (0x2380 + n) * 256 + 0x01
abbrev Rn.SEC (n : Nat) : Nat := (0x2380 + n) * 256 + 0x02
abbrev Rn.BASE_PAGE (n : Nat) : Nat := (0x2380 + n) * 256 + 0x03
abbrev Rn.SIZE_LOG2 (n : Nat) : Nat := (0x2380 + n) * 256 + 0x04
abbrev Rn.RING_MODE (n : Nat) : Nat := (0x2380 + n) * 256 + 0x05
abbrev Rn.CONSUMERS (n : Nat) : Nat := (0x2380 + n) * 256 + 0x06
abbrev Rn.RING_EN (n : Nat) : Nat := (0x2380 + n) * 256 + 0x07
abbrev Rn.WR_COUNT (n : Nat) : Nat := (0x2380 + n) * 256 + 0x08
abbrev Rn.CONS_HOST (n : Nat) : Nat := (0x2380 + n) * 256 + 0x09
abbrev Rn.CONS_REC (n : Nat) : Nat := (0x2380 + n) * 256 + 0x0A
abbrev Rn.DROP_COUNT (n : Nat) : Nat := (0x2380 + n) * 256 + 0x0B
abbrev Rn.RING_STATUS (n : Nat) : Nat := (0x2380 + n) * 256 + 0x0C

/-! ### sequencer globals, OD 0x2400 -/
abbrev Sq.SCN_CLK_DIV : Nat := 0x240001
abbrev Sq.SCN_SEL_EN : Nat := 0x240002
abbrev Sq.SCN_VERIFY : Nat := 0x240003
abbrev Sq.SCN_RETRY : Nat := 0x240004
abbrev Sq.SCN_ERR_COUNT : Nat := 0x240005
abbrev Sq.SCN_FRAMES : Nat := 0x240006
abbrev Sq.QUEUED_TOTAL : Nat := 0x240007
abbrev Sq.AUTOSTART_REFUSED : Nat := 0x240008

/-! ### monitor converter, OD 0x2500 -/
abbrev Mc.MC_ACTIVE : Nat := 0x250001
abbrev Mc.MC_STATUS : Nat := 0x250002
abbrev Mc.MC_REQ : Nat := 0x250003
abbrev Mc.MC_RESULT : Nat := 0x250004
abbrev Mc.MC_RESULT_TIME : Nat := 0x250005
abbrev Mc.MC_CONV_COUNT : Nat := 0x250006
abbrev Mc.MC_STALL : Nat := 0x250007
abbrev Mc.MC_LATE : Nat := 0x250008
abbrev Mc.MC_OVR_COUNT : Nat := 0x250009
abbrev Mc.TH_INTERVAL : Nat := 0x25000A
abbrev Mc.TH_TOL : Nat := 0x25000B
abbrev Mc.GND_INTERVAL : Nat := 0x25000C
abbrev Mc.TEMP_INTERVAL : Nat := 0x25000D
abbrev Mc.SUP_INTERVAL : Nat := 0x25000E
abbrev Mc.REF_INTERVAL : Nat := 0x25000F
abbrev Mc.MC_CHECK_INTERVAL : Nat := 0x250010
abbrev Mc.TJ_WARN : Nat := 0x250011
abbrev Mc.SUP_FAULT : Nat := 0x250012
abbrev Mc.MON_1008 : Nat := 0x250020
abbrev Mc.MON_1009 : Nat := 0x250021
abbrev Mc.MON_1010 : Nat := 0x250022
abbrev Mc.MON_1011 : Nat := 0x250023
abbrev Mc.MON_1012 : Nat := 0x250024
abbrev Mc.MON_1013 : Nat := 0x250025
abbrev Mc.MON_1014 : Nat := 0x250026
abbrev Mc.MON_1015 : Nat := 0x250027
abbrev Mc.MON_1016 : Nat := 0x250028
abbrev Mc.MON_1017 : Nat := 0x250029
abbrev Mc.MON_1018 : Nat := 0x25002A
abbrev Mc.MON_1019 : Nat := 0x25002B
abbrev Mc.MON_1020 : Nat := 0x25002C
abbrev Mc.MON_1021 : Nat := 0x25002D

/-! ### calibration globals, OD 0x2600 -/
abbrev Ca.REFX_VALUE : Nat := 0x260001
abbrev Ca.REFX_UNC : Nat := 0x260002
abbrev Ca.CAL_LINE : Nat := 0x260003
abbrev Ca.XFER_NPLC : Nat := 0x260004
abbrev Ca.XFER_CYCLES : Nat := 0x260005
abbrev Ca.REF_XFER_INTERVAL : Nat := 0x260006
abbrev Ca.REF_XFER_REQ : Nat := 0x260007
abbrev Ca.REF_XFER_GROUP : Nat := 0x260008
abbrev Ca.REF_XFER_STATE : Nat := 0x260009
abbrev Ca.REF_XFER_RESULT : Nat := 0x26000A
abbrev Ca.REF_0_DEV : Nat := 0x26000B
abbrev Ca.REF_1_DEV : Nat := 0x26000C
abbrev Ca.REF_U : Nat := 0x26000D
abbrev Ca.REF_TRANSFER_COUNT : Nat := 0x26000E
abbrev Ca.REF_TRANSFER_LAST : Nat := 0x26000F
abbrev Ca.REF_AGREE_TOL : Nat := 0x260010
abbrev Ca.REF_AGE_COEF : Nat := 0x260011
abbrev Ca.REF_CELLS : Nat := 0x260012
abbrev Ca.CAL_RETRY_INTERVAL : Nat := 0x260013
abbrev Ca.CAL_NPLC : Nat := 0x260014
abbrev Ca.CAL_DT_RUN : Nat := 0x260015
abbrev Ca.AGREE_WORDS : Nat := 0x260016
abbrev Ca.AGREE_TOL : Nat := 0x260017
abbrev Ca.XFER_TOL : Nat := 0x260018
abbrev Ca.ROT_MIN_GAP : Nat := 0x260019
abbrev Ca.CAL_STORE_ERR : Nat := 0x26001A

/-! ### security, OD 0x2700 -/
abbrev Se.SEC_HOLDERS : Nat := 0x270001
abbrev Se.OWN_ASSIGN : Nat := 0x270002
abbrev Se.DEVICE_CLAIM : Nat := 0x270003
abbrev Se.LC_REQ : Nat := 0x270004
abbrev Se.LC_CONFIRM : Nat := 0x270005
abbrev Se.LC_LEFT : Nat := 0x270006
abbrev Se.SVN_MIN : Nat := 0x270007
abbrev Se.SVN_LOCK : Nat := 0x270008
abbrev Se.SEC_STATUS : Nat := 0x270009
abbrev Se.TAMP_EN : Nat := 0x27000A
abbrev Se.TAMP_ACTION : Nat := 0x27000B
abbrev Se.TAMP_STATUS : Nat := 0x27000C
abbrev Se.TAMPER_COUNT : Nat := 0x27000D
abbrev Se.TAMPER_TIME : Nat := 0x27000E

/-! ### key slot, OD 0x2710+n -/
abbrev Ky.KEY (n : Nat) : Nat := (0x2710 + n) * 256 + 0x01
abbrev Ky.KEY_STATE (n : Nat) : Nat := (0x2710 + n) * 256 + 0x02
abbrev Ky.KEY_ROWS_LEFT (n : Nat) : Nat := (0x2710 + n) * 256 + 0x03
abbrev Ky.KEY_REVOKE (n : Nat) : Nat := (0x2710 + n) * 256 + 0x04

/-! ### group, OD 0x3000+n -/
abbrev Gr.PRIV_PORT (n : Nat) : Nat := (0x3000 + n) * 256 + 0x20
abbrev Gr.RELIEF_MODE (n : Nat) : Nat := (0x3000 + n) * 256 + 0x21
abbrev Gr.RELIEF_PORT (n : Nat) : Nat := (0x3000 + n) * 256 + 0x22
abbrev Gr.XBAR_STATE (n : Nat) : Nat := (0x3000 + n) * 256 + 0x23
abbrev Gr.DT_CAL (n : Nat) : Nat := (0x3000 + n) * 256 + 0x40
abbrev Gr.DT_CAL_EFF (n : Nat) : Nat := (0x3000 + n) * 256 + 0x41
abbrev Gr.ROT_INTERVAL (n : Nat) : Nat := (0x3000 + n) * 256 + 0x42
abbrev Gr.ROT_REQUEST (n : Nat) : Nat := (0x3000 + n) * 256 + 0x43
abbrev Gr.ROT_STATE (n : Nat) : Nat := (0x3000 + n) * 256 + 0x44
abbrev Gr.ROT_PORT (n : Nat) : Nat := (0x3000 + n) * 256 + 0x45
abbrev Gr.ROT_STEP (n : Nat) : Nat := (0x3000 + n) * 256 + 0x46
abbrev Gr.ROT_STATUS (n : Nat) : Nat := (0x3000 + n) * 256 + 0x47
abbrev Gr.CAL_COUNT (n : Nat) : Nat := (0x3000 + n) * 256 + 0x48
abbrev Gr.CAL_LAST_TIME (n : Nat) : Nat := (0x3000 + n) * 256 + 0x49
abbrev Gr.CAL_LAST_TEMP (n : Nat) : Nat := (0x3000 + n) * 256 + 0x4A
abbrev Gr.GROUP_TEMP (n : Nat) : Nat := (0x3000 + n) * 256 + 0x4B
abbrev Gr.ROT_SKIP (n : Nat) : Nat := (0x3000 + n) * 256 + 0x4C
abbrev Gr.ROT_LAST_START (n : Nat) : Nat := (0x3000 + n) * 256 + 0x4D
abbrev Gr.WIN_NOTICE (n : Nat) : Nat := (0x3000 + n) * 256 + 0x50
abbrev Gr.WIN_NPLC (n : Nat) : Nat := (0x3000 + n) * 256 + 0x51
abbrev Gr.WIN_STATE (n : Nat) : Nat := (0x3000 + n) * 256 + 0x52
abbrev Gr.WIN_PORT (n : Nat) : Nat := (0x3000 + n) * 256 + 0x53
abbrev Gr.WIN_NEXT (n : Nat) : Nat := (0x3000 + n) * 256 + 0x54
abbrev Gr.OWNER (n : Nat) : Nat := (0x3000 + n) * 256 + 0x01
abbrev Gr.SEC (n : Nat) : Nat := (0x3000 + n) * 256 + 0x02
abbrev Gr.GROUP_STATE (n : Nat) : Nat := (0x3000 + n) * 256 + 0x03
abbrev Gr.GROUP_CTRL (n : Nat) : Nat := (0x3000 + n) * 256 + 0x04
abbrev Gr.GROUP_STATUS (n : Nat) : Nat := (0x3000 + n) * 256 + 0x05
abbrev Gr.GBUF_DROP (n : Nat) : Nat := (0x3000 + n) * 256 + 0x06
abbrev Gr.PORTS_RESUME (n : Nat) : Nat := (0x3000 + n) * 256 + 0x07

/-! ### port, OD 0x4000+n -/
abbrev Pt.SPAN (n : Nat) : Nat := (0x4000 + n) * 256 + 0x30
abbrev Pt.SPAN_ACTIVE (n : Nat) : Nat := (0x4000 + n) * 256 + 0x31
abbrev Pt.SAFE_VALUE (n : Nat) : Nat := (0x4000 + n) * 256 + 0x32
abbrev Pt.SLEW_RATE (n : Nat) : Nat := (0x4000 + n) * 256 + 0x33
abbrev Pt.CLEAR_CODE_0 (n : Nat) : Nat := (0x4000 + n) * 256 + 0x34
abbrev Pt.CLEAR_CODE_1 (n : Nat) : Nat := (0x4000 + n) * 256 + 0x35
abbrev Pt.CLEAR_CODE_2 (n : Nat) : Nat := (0x4000 + n) * 256 + 0x36
abbrev Pt.CLEAR_CODE_3 (n : Nat) : Nat := (0x4000 + n) * 256 + 0x37
abbrev Pt.UPD_PERIOD (n : Nat) : Nat := (0x4000 + n) * 256 + 0x38
abbrev Pt.UPD_SRC (n : Nat) : Nat := (0x4000 + n) * 256 + 0x39
abbrev Pt.UPD_EVENT (n : Nat) : Nat := (0x4000 + n) * 256 + 0x3A
abbrev Pt.UPD_PHASE (n : Nat) : Nat := (0x4000 + n) * 256 + 0x3B
abbrev Pt.DAC_CODE (n : Nat) : Nat := (0x4000 + n) * 256 + 0x3C
abbrev Pt.READBACK_TOL (n : Nat) : Nat := (0x4000 + n) * 256 + 0x3D
abbrev Pt.READBACK_INTERVAL (n : Nat) : Nat := (0x4000 + n) * 256 + 0x3E
abbrev Pt.READBACK_ACTION (n : Nat) : Nat := (0x4000 + n) * 256 + 0x3F
abbrev Pt.READBACK_LAST (n : Nat) : Nat := (0x4000 + n) * 256 + 0x40
abbrev Pt.FORCE_STATUS (n : Nat) : Nat := (0x4000 + n) * 256 + 0x41
abbrev Pt.FORCE_CTRL (n : Nat) : Nat := (0x4000 + n) * 256 + 0x42
abbrev Pt.SETPOINT_SKIP (n : Nat) : Nat := (0x4000 + n) * 256 + 0x43
abbrev Pt.MISMATCH_COUNT (n : Nat) : Nat := (0x4000 + n) * 256 + 0x44
abbrev Pt.PREC_INT (n : Nat) : Nat := (0x4000 + n) * 256 + 0x50
abbrev Pt.PREC_FREE (n : Nat) : Nat := (0x4000 + n) * 256 + 0x51
abbrev Pt.PREC_SEL (n : Nat) : Nat := (0x4000 + n) * 256 + 0x52
abbrev Pt.PREC_RING (n : Nat) : Nat := (0x4000 + n) * 256 + 0x53
abbrev Pt.PREC_FLUSH (n : Nat) : Nat := (0x4000 + n) * 256 + 0x54
abbrev Pt.IDLE_CTX (n : Nat) : Nat := (0x4000 + n) * 256 + 0x55
abbrev Pt.FAST_EN (n : Nat) : Nat := (0x4000 + n) * 256 + 0x56
abbrev Pt.FAST_PACK (n : Nat) : Nat := (0x4000 + n) * 256 + 0x57
abbrev Pt.FAST_DECIM_LOG2 (n : Nat) : Nat := (0x4000 + n) * 256 + 0x58
abbrev Pt.FAST_RING (n : Nat) : Nat := (0x4000 + n) * 256 + 0x59
abbrev Pt.MEAS_STATUS (n : Nat) : Nat := (0x4000 + n) * 256 + 0x5A
abbrev Pt.OVR_COUNT_V (n : Nat) : Nat := (0x4000 + n) * 256 + 0x5B
abbrev Pt.OVR_COUNT_I (n : Nat) : Nat := (0x4000 + n) * 256 + 0x5C
abbrev Pt.NBR_COUNT (n : Nat) : Nat := (0x4000 + n) * 256 + 0x5D
abbrev Pt.LAST_V (n : Nat) : Nat := (0x4000 + n) * 256 + 0x5E
abbrev Pt.LAST_V_TAG (n : Nat) : Nat := (0x4000 + n) * 256 + 0x5F
abbrev Pt.LAST_V_UNC (n : Nat) : Nat := (0x4000 + n) * 256 + 0x60
abbrev Pt.LAST_V_REAL (n : Nat) : Nat := (0x4000 + n) * 256 + 0x61
abbrev Pt.LAST_I (n : Nat) : Nat := (0x4000 + n) * 256 + 0x62
abbrev Pt.LAST_I_TAG (n : Nat) : Nat := (0x4000 + n) * 256 + 0x63
abbrev Pt.LAST_I_UNC (n : Nat) : Nat := (0x4000 + n) * 256 + 0x64
abbrev Pt.LAST_I_REAL (n : Nat) : Nat := (0x4000 + n) * 256 + 0x65
abbrev Pt.LAST_TIME (n : Nat) : Nat := (0x4000 + n) * 256 + 0x66
abbrev Pt.UNC_A_V (n : Nat) : Nat := (0x4000 + n) * 256 + 0x67
abbrev Pt.UNC_B_V (n : Nat) : Nat := (0x4000 + n) * 256 + 0x68
abbrev Pt.UNC_A_I (n : Nat) : Nat := (0x4000 + n) * 256 + 0x69
abbrev Pt.UNC_B_I (n : Nat) : Nat := (0x4000 + n) * 256 + 0x6A
abbrev Pt.INT_ACTIVE (n : Nat) : Nat := (0x4000 + n) * 256 + 0x6B
abbrev Pt.FORCE_MODE (n : Nat) : Nat := (0x4000 + n) * 256 + 0x10
abbrev Pt.FORCE_SETPOINT (n : Nat) : Nat := (0x4000 + n) * 256 + 0x12
abbrev Pt.PULSE_SETPOINT (n : Nat) : Nat := (0x4000 + n) * 256 + 0x13
abbrev Pt.COMPL_HI (n : Nat) : Nat := (0x4000 + n) * 256 + 0x14
abbrev Pt.COMPL_LO (n : Nat) : Nat := (0x4000 + n) * 256 + 0x15
abbrev Pt.LOOP_DIV (n : Nat) : Nat := (0x4000 + n) * 256 + 0x16
abbrev Pt.LOOP_DIV_ACTIVE (n : Nat) : Nat := (0x4000 + n) * 256 + 0x17
abbrev Pt.SP_STEP (n : Nat) : Nat := (0x4000 + n) * 256 + 0x18
abbrev Pt.AMP_GAIN (n : Nat) : Nat := (0x4000 + n) * 256 + 0x19
abbrev Pt.KSTAGE (n : Nat) : Nat := (0x4000 + n) * 256 + 0x1A
abbrev Pt.KP_V (n : Nat) : Nat := (0x4000 + n) * 256 + 0x1B
abbrev Pt.KI_V (n : Nat) : Nat := (0x4000 + n) * 256 + 0x1C
abbrev Pt.KP_I (n : Nat) : Nat := (0x4000 + n) * 256 + 0x1D
abbrev Pt.KI_I (n : Nat) : Nat := (0x4000 + n) * 256 + 0x1E
abbrev Pt.WLIM (n : Nat) : Nat := (0x4000 + n) * 256 + 0x1F
abbrev Pt.LM_EN (n : Nat) : Nat := (0x4000 + n) * 256 + 0x20
abbrev Pt.LM_SHIFT (n : Nat) : Nat := (0x4000 + n) * 256 + 0x21
abbrev Pt.LM_EXC (n : Nat) : Nat := (0x4000 + n) * 256 + 0x22
abbrev Pt.LM_R_INIT (n : Nat) : Nat := (0x4000 + n) * 256 + 0x23
abbrev Pt.LM_R_MIN (n : Nat) : Nat := (0x4000 + n) * 256 + 0x24
abbrev Pt.LM_R_MAX (n : Nat) : Nat := (0x4000 + n) * 256 + 0x25
abbrev Pt.LM_R (n : Nat) : Nat := (0x4000 + n) * 256 + 0x26
abbrev Pt.LM_V0 (n : Nat) : Nat := (0x4000 + n) * 256 + 0x27
abbrev Pt.LINK_PORT (n : Nat) : Nat := (0x4000 + n) * 256 + 0x28
abbrev Pt.LINK_KP (n : Nat) : Nat := (0x4000 + n) * 256 + 0x29
abbrev Pt.LINK_KI (n : Nat) : Nat := (0x4000 + n) * 256 + 0x2A
abbrev Pt.LINK_OFFSET (n : Nat) : Nat := (0x4000 + n) * 256 + 0x2B
abbrev Pt.LOOP_STATUS (n : Nat) : Nat := (0x4000 + n) * 256 + 0x2C
abbrev Pt.COMPL_COUNT (n : Nat) : Nat := (0x4000 + n) * 256 + 0x2D
abbrev Pt.LOOP_RING (n : Nat) : Nat := (0x4000 + n) * 256 + 0x2E
abbrev Pt.LOOP_REC_DIV (n : Nat) : Nat := (0x4000 + n) * 256 + 0x2F
abbrev Pt.LOOP_SNAPSHOT (n : Nat) : Nat := (0x4000 + n) * 256 + 0x70
abbrev Pt.DIV_FLOOR (n : Nat) : Nat := (0x4000 + n) * 256 + 0x71
abbrev Pt.SP_STEP_CAP (n : Nat) : Nat := (0x4000 + n) * 256 + 0x72
abbrev Pt.MODE_ACTIVE (n : Nat) : Nat := (0x4000 + n) * 256 + 0x73
abbrev Pt.TARGET_ACTIVE (n : Nat) : Nat := (0x4000 + n) * 256 + 0x74
abbrev Pt.R_ACTIVE (n : Nat) : Nat := (0x4000 + n) * 256 + 0x75
abbrev Pt.IRNG_COUNT (n : Nat) : Nat := (0x4000 + n) * 256 + 0x80
abbrev Pt.VRNG_COUNT (n : Nat) : Nat := (0x4000 + n) * 256 + 0x81
abbrev Pt.IRNG_FS_0 (n : Nat) : Nat := (0x4000 + n) * 256 + 0x82
abbrev Pt.IRNG_FS_1 (n : Nat) : Nat := (0x4000 + n) * 256 + 0x83
abbrev Pt.IRNG_FS_2 (n : Nat) : Nat := (0x4000 + n) * 256 + 0x84
abbrev Pt.IRNG_FS_3 (n : Nat) : Nat := (0x4000 + n) * 256 + 0x85
abbrev Pt.IRNG_FS_4 (n : Nat) : Nat := (0x4000 + n) * 256 + 0x86
abbrev Pt.IRNG_FS_5 (n : Nat) : Nat := (0x4000 + n) * 256 + 0x87
abbrev Pt.IRNG_FS_6 (n : Nat) : Nat := (0x4000 + n) * 256 + 0x88
abbrev Pt.IRNG_FS_7 (n : Nat) : Nat := (0x4000 + n) * 256 + 0x89
abbrev Pt.VRNG_FS_0 (n : Nat) : Nat := (0x4000 + n) * 256 + 0x8A
abbrev Pt.VRNG_FS_1 (n : Nat) : Nat := (0x4000 + n) * 256 + 0x8B
abbrev Pt.IOVL_FS_0 (n : Nat) : Nat := (0x4000 + n) * 256 + 0x8C
abbrev Pt.IOVL_FS_1 (n : Nat) : Nat := (0x4000 + n) * 256 + 0x8D
abbrev Pt.IOVL_FS_2 (n : Nat) : Nat := (0x4000 + n) * 256 + 0x8E
abbrev Pt.IOVL_FS_3 (n : Nat) : Nat := (0x4000 + n) * 256 + 0x8F
abbrev Pt.IOVL_FS_4 (n : Nat) : Nat := (0x4000 + n) * 256 + 0x90
abbrev Pt.IOVL_FS_5 (n : Nat) : Nat := (0x4000 + n) * 256 + 0x91
abbrev Pt.IOVL_FS_6 (n : Nat) : Nat := (0x4000 + n) * 256 + 0x92
abbrev Pt.VOVL_FS (n : Nat) : Nat := (0x4000 + n) * 256 + 0x93
abbrev Pt.IOVL_TIME_0 (n : Nat) : Nat := (0x4000 + n) * 256 + 0x94
abbrev Pt.IOVL_TIME_1 (n : Nat) : Nat := (0x4000 + n) * 256 + 0x95
abbrev Pt.IOVL_TIME_2 (n : Nat) : Nat := (0x4000 + n) * 256 + 0x96
abbrev Pt.IOVL_TIME_3 (n : Nat) : Nat := (0x4000 + n) * 256 + 0x97
abbrev Pt.IOVL_TIME_4 (n : Nat) : Nat := (0x4000 + n) * 256 + 0x98
abbrev Pt.IOVL_TIME_5 (n : Nat) : Nat := (0x4000 + n) * 256 + 0x99
abbrev Pt.IOVL_TIME_6 (n : Nat) : Nat := (0x4000 + n) * 256 + 0x9A
abbrev Pt.IOVL_TIME_7 (n : Nat) : Nat := (0x4000 + n) * 256 + 0x9B
abbrev Pt.VOVL_TIME_0 (n : Nat) : Nat := (0x4000 + n) * 256 + 0x9C
abbrev Pt.VOVL_TIME_1 (n : Nat) : Nat := (0x4000 + n) * 256 + 0x9D
abbrev Pt.RANGE_MAP (n : Nat) : Nat := (0x4000 + n) * 256 + 0x9E
abbrev Pt.IRNG_POLICY (n : Nat) : Nat := (0x4000 + n) * 256 + 0xA0
abbrev Pt.VRNG_POLICY (n : Nat) : Nat := (0x4000 + n) * 256 + 0xA1
abbrev Pt.IRNG_SEL (n : Nat) : Nat := (0x4000 + n) * 256 + 0xA2
abbrev Pt.VRNG_SEL (n : Nat) : Nat := (0x4000 + n) * 256 + 0xA3
abbrev Pt.IRNG_ACTIVE (n : Nat) : Nat := (0x4000 + n) * 256 + 0xA4
abbrev Pt.VRNG_ACTIVE (n : Nat) : Nat := (0x4000 + n) * 256 + 0xA5
abbrev Pt.IRNG_MIN (n : Nat) : Nat := (0x4000 + n) * 256 + 0xA6
abbrev Pt.IRNG_MAX (n : Nat) : Nat := (0x4000 + n) * 256 + 0xA7
abbrev Pt.UP_TH (n : Nat) : Nat := (0x4000 + n) * 256 + 0xA8
abbrev Pt.DOWN_TH (n : Nat) : Nat := (0x4000 + n) * 256 + 0xA9
abbrev Pt.UP_COUNT (n : Nat) : Nat := (0x4000 + n) * 256 + 0xAA
abbrev Pt.DOWN_TICKS (n : Nat) : Nat := (0x4000 + n) * 256 + 0xAB
abbrev Pt.RNG_STATUS (n : Nat) : Nat := (0x4000 + n) * 256 + 0xAC
abbrev Pt.RNG_STEPS (n : Nat) : Nat := (0x4000 + n) * 256 + 0xAD
abbrev Pt.COMPL_HI_EFF (n : Nat) : Nat := (0x4000 + n) * 256 + 0xAE
abbrev Pt.COMPL_LO_EFF (n : Nat) : Nat := (0x4000 + n) * 256 + 0xAF
abbrev Pt.SP_RANGE (n : Nat) : Nat := (0x4000 + n) * 256 + 0xB0
abbrev Pt.COMPL_RANGE (n : Nat) : Nat := (0x4000 + n) * 256 + 0xB1
abbrev Pt.CMP_V_MODE (n : Nat) : Nat := (0x4000 + n) * 256 + 0xC0
abbrev Pt.CMP_I_MODE (n : Nat) : Nat := (0x4000 + n) * 256 + 0xC1
abbrev Pt.CMP_V_MODE_ACTIVE (n : Nat) : Nat := (0x4000 + n) * 256 + 0xC2
abbrev Pt.CMP_I_MODE_ACTIVE (n : Nat) : Nat := (0x4000 + n) * 256 + 0xC3
abbrev Pt.TH_V_HI (n : Nat) : Nat := (0x4000 + n) * 256 + 0xC4
abbrev Pt.TH_V_LO (n : Nat) : Nat := (0x4000 + n) * 256 + 0xC5
abbrev Pt.TH_I_HI (n : Nat) : Nat := (0x4000 + n) * 256 + 0xC6
abbrev Pt.TH_I_LO (n : Nat) : Nat := (0x4000 + n) * 256 + 0xC7
abbrev Pt.CMP_HYST (n : Nat) : Nat := (0x4000 + n) * 256 + 0xC8
abbrev Pt.TH_REF (n : Nat) : Nat := (0x4000 + n) * 256 + 0xC9
abbrev Pt.TH_CODES (n : Nat) : Nat := (0x4000 + n) * 256 + 0xCA
abbrev Pt.TRIP_EN (n : Nat) : Nat := (0x4000 + n) * 256 + 0xCB
abbrev Pt.SM_TICK (n : Nat) : Nat := (0x4000 + n) * 256 + 0xCC
abbrev Pt.SM_PHASE (n : Nat) : Nat := (0x4000 + n) * 256 + 0xCD
abbrev Pt.CMP_STATUS (n : Nat) : Nat := (0x4000 + n) * 256 + 0xCE
abbrev Pt.PGEN_CFG (n : Nat) : Nat := (0x4000 + n) * 256 + 0xD0
abbrev Pt.PULSE_WIDTH (n : Nat) : Nat := (0x4000 + n) * 256 + 0xD1
abbrev Pt.PULSE_PERIOD (n : Nat) : Nat := (0x4000 + n) * 256 + 0xD2
abbrev Pt.PULSE_COUNT (n : Nat) : Nat := (0x4000 + n) * 256 + 0xD3
abbrev Pt.PULSE_DELAY (n : Nat) : Nat := (0x4000 + n) * 256 + 0xD4
abbrev Pt.START_EVENT (n : Nat) : Nat := (0x4000 + n) * 256 + 0xD5
abbrev Pt.STOP_EVENT (n : Nat) : Nat := (0x4000 + n) * 256 + 0xD6
abbrev Pt.REARM_EVENT (n : Nat) : Nat := (0x4000 + n) * 256 + 0xD7
abbrev Pt.TRIP_EVENT (n : Nat) : Nat := (0x4000 + n) * 256 + 0xD8
abbrev Pt.PGEN_CTRL (n : Nat) : Nat := (0x4000 + n) * 256 + 0xD9
abbrev Pt.PGEN_STATUS (n : Nat) : Nat := (0x4000 + n) * 256 + 0xDA
abbrev Pt.TRIP_CAUSE (n : Nat) : Nat := (0x4000 + n) * 256 + 0xDB
abbrev Pt.TRIP_TIME (n : Nat) : Nat := (0x4000 + n) * 256 + 0xDC
abbrev Pt.TRIP_COUNT (n : Nat) : Nat := (0x4000 + n) * 256 + 0xDD
abbrev Pt.PULSES_DONE (n : Nat) : Nat := (0x4000 + n) * 256 + 0xDE
abbrev Pt.RUN_CTX (n : Nat) : Nat := (0x4000 + n) * 256 + 0xE0
abbrev Pt.QUEUE_LEN (n : Nat) : Nat := (0x4000 + n) * 256 + 0xE1
abbrev Pt.ROUTE_NOW (n : Nat) : Nat := (0x4000 + n) * 256 + 0xE2
abbrev Pt.PT_LOADS (n : Nat) : Nat := (0x4000 + n) * 256 + 0xE3
abbrev Pt.SEQ_HOLD (n : Nat) : Nat := (0x4000 + n) * 256 + 0xE4
abbrev Pt.GONG_ACTION (n : Nat) : Nat := (0x4000 + n) * 256 + 0xE5
abbrev Pt.EVT_COINCIDE (n : Nat) : Nat := (0x4000 + n) * 256 + 0xE6
abbrev Pt.EVT_COINCIDE_TASK (n : Nat) : Nat := (0x4000 + n) * 256 + 0xE7
abbrev Pt.WIN_POLICY (n : Nat) : Nat := (0x4000 + n) * 256 + 0xF0
abbrev Pt.WIN_CTRL (n : Nat) : Nat := (0x4000 + n) * 256 + 0xF1
abbrev Pt.WIN_COUNT (n : Nat) : Nat := (0x4000 + n) * 256 + 0xF2
abbrev Pt.OWNER (n : Nat) : Nat := (0x4000 + n) * 256 + 0x01
abbrev Pt.SEC (n : Nat) : Nat := (0x4000 + n) * 256 + 0x02
abbrev Pt.PORT_STATE (n : Nat) : Nat := (0x4000 + n) * 256 + 0x03
abbrev Pt.PORT_CTRL (n : Nat) : Nat := (0x4000 + n) * 256 + 0x04
abbrev Pt.PORT_STATUS (n : Nat) : Nat := (0x4000 + n) * 256 + 0x05
abbrev Pt.DISCHARGE_TIME (n : Nat) : Nat := (0x4000 + n) * 256 + 0x06
abbrev Pt.HOME_SLICE (n : Nat) : Nat := (0x4000 + n) * 256 + 0x07
abbrev Pt.DRIVE_SLICE (n : Nat) : Nat := (0x4000 + n) * 256 + 0x08
abbrev Pt.PRIVILEGED (n : Nat) : Nat := (0x4000 + n) * 256 + 0x09
abbrev Pt.ENABLE_COUNT (n : Nat) : Nat := (0x4000 + n) * 256 + 0x0A
abbrev Pt.AUTO_ENABLE (n : Nat) : Nat := (0x4000 + n) * 256 + 0x0B

/-! ### slice, OD 0x4100+n -/
abbrev Sl.SLICE_TEMP (n : Nat) : Nat := (0x4100 + n) * 256 + 0x30
abbrev Sl.FREF_F_V (n : Nat) : Nat := (0x4100 + n) * 256 + 0x31
abbrev Sl.FREF_M_V (n : Nat) : Nat := (0x4100 + n) * 256 + 0x32
abbrev Sl.GSNS_F_V (n : Nat) : Nat := (0x4100 + n) * 256 + 0x33
abbrev Sl.GSNS_M_V (n : Nat) : Nat := (0x4100 + n) * 256 + 0x34
abbrev Sl.SUPV_STATUS (n : Nat) : Nat := (0x4100 + n) * 256 + 0x35
abbrev Sl.CAL_COUNT (n : Nat) : Nat := (0x4100 + n) * 256 + 0x40
abbrev Sl.CAL_LAST_TIME (n : Nat) : Nat := (0x4100 + n) * 256 + 0x41
abbrev Sl.CAL_TEMP (n : Nat) : Nat := (0x4100 + n) * 256 + 0x42
abbrev Sl.CAL_RESULT (n : Nat) : Nat := (0x4100 + n) * 256 + 0x43
abbrev Sl.CAL_STEP (n : Nat) : Nat := (0x4100 + n) * 256 + 0x44
abbrev Sl.GAIN_SEL (n : Nat) : Nat := (0x4100 + n) * 256 + 0x45
abbrev Sl.OFFSET_SEL (n : Nat) : Nat := (0x4100 + n) * 256 + 0x46
abbrev Sl.SEG_MAP (n : Nat) : Nat := (0x4100 + n) * 256 + 0x47
abbrev Sl.U_OFF_RES_V (n : Nat) : Nat := (0x4100 + n) * 256 + 0x48
abbrev Sl.U_GAIN_RES_V (n : Nat) : Nat := (0x4100 + n) * 256 + 0x49
abbrev Sl.U_OFF_RES_I (n : Nat) : Nat := (0x4100 + n) * 256 + 0x4A
abbrev Sl.U_GAIN_RES_I (n : Nat) : Nat := (0x4100 + n) * 256 + 0x4B
abbrev Sl.DAC_INL (n : Nat) : Nat := (0x4100 + n) * 256 + 0x4C
abbrev Sl.CAL_FAIL_COUNT (n : Nat) : Nat := (0x4100 + n) * 256 + 0x4D
abbrev Sl.HEALTH_STATE (n : Nat) : Nat := (0x4100 + n) * 256 + 0x50
abbrev Sl.STRESS_H (n : Nat) : Nat := (0x4100 + n) * 256 + 0x51
abbrev Sl.STRESS_RATE (n : Nat) : Nat := (0x4100 + n) * 256 + 0x52
abbrev Sl.ELEM_MOVED (n : Nat) : Nat := (0x4100 + n) * 256 + 0x53
abbrev Sl.DRIFT_GAIN_V (n : Nat) : Nat := (0x4100 + n) * 256 + 0x54
abbrev Sl.DRIFT_GAIN_I (n : Nat) : Nat := (0x4100 + n) * 256 + 0x55
abbrev Sl.DRIFT_OFF_V (n : Nat) : Nat := (0x4100 + n) * 256 + 0x56
abbrev Sl.DRIFT_OFF_I (n : Nat) : Nat := (0x4100 + n) * 256 + 0x57
abbrev Sl.DRIFT_DAC (n : Nat) : Nat := (0x4100 + n) * 256 + 0x58
abbrev Sl.RO_DRIFT (n : Nat) : Nat := (0x4100 + n) * 256 + 0x59
abbrev Sl.CMP_LEAK (n : Nat) : Nat := (0x4100 + n) * 256 + 0x5A
abbrev Sl.RHO (n : Nat) : Nat := (0x4100 + n) * 256 + 0x5B
abbrev Sl.MARGIN_W (n : Nat) : Nat := (0x4100 + n) * 256 + 0x5C
abbrev Sl.DIV_PLAN (n : Nat) : Nat := (0x4100 + n) * 256 + 0x5D
abbrev Sl.DT_CAL_FACTOR (n : Nat) : Nat := (0x4100 + n) * 256 + 0x5E
abbrev Sl.WORN_CAUSE (n : Nat) : Nat := (0x4100 + n) * 256 + 0x5F
abbrev Sl.WORN_TIME (n : Nat) : Nat := (0x4100 + n) * 256 + 0x60
abbrev Sl.WORN_REQ (n : Nat) : Nat := (0x4100 + n) * 256 + 0x61
abbrev Sl.TC_OFF_V (n : Nat) : Nat := (0x4100 + n) * 256 + 0x62
abbrev Sl.TC_GAIN_V (n : Nat) : Nat := (0x4100 + n) * 256 + 0x63
abbrev Sl.TC_OFF_I (n : Nat) : Nat := (0x4100 + n) * 256 + 0x64
abbrev Sl.TC_GAIN_I (n : Nat) : Nat := (0x4100 + n) * 256 + 0x65
abbrev Sl.TC_DAC (n : Nat) : Nat := (0x4100 + n) * 256 + 0x66
abbrev Sl.OWNER (n : Nat) : Nat := (0x4100 + n) * 256 + 0x01
abbrev Sl.SEC (n : Nat) : Nat := (0x4100 + n) * 256 + 0x02
abbrev Sl.SLICE_GROUP (n : Nat) : Nat := (0x4100 + n) * 256 + 0x03
abbrev Sl.SLICE_LOCAL (n : Nat) : Nat := (0x4100 + n) * 256 + 0x04
abbrev Sl.SLICE_ROLE (n : Nat) : Nat := (0x4100 + n) * 256 + 0x10
abbrev Sl.SLICE_PORT (n : Nat) : Nat := (0x4100 + n) * 256 + 0x11

/-! ### event channel, OD 0x5000+n -/
abbrev Ch.OWNER (n : Nat) : Nat := (0x5000 + n) * 256 + 0x01
abbrev Ch.SEC (n : Nat) : Nat := (0x5000 + n) * 256 + 0x02
abbrev Ch.PRODUCER (n : Nat) : Nat := (0x5000 + n) * 256 + 0x03
abbrev Ch.GEN_LIMIT (n : Nat) : Nat := (0x5000 + n) * 256 + 0x04
abbrev Ch.CH_EN (n : Nat) : Nat := (0x5000 + n) * 256 + 0x05
abbrev Ch.FIRE (n : Nat) : Nat := (0x5000 + n) * 256 + 0x06
abbrev Ch.CH_STATUS (n : Nat) : Nat := (0x5000 + n) * 256 + 0x07
abbrev Ch.FIRE_COUNT (n : Nat) : Nat := (0x5000 + n) * 256 + 0x08
abbrev Ch.LAST_TICK (n : Nat) : Nat := (0x5000 + n) * 256 + 0x09
abbrev Ch.LAST_TIME (n : Nat) : Nat := (0x5000 + n) * 256 + 0x0A
abbrev Ch.LAST_GEN (n : Nat) : Nat := (0x5000 + n) * 256 + 0x0B
abbrev Ch.TARGET_COUNT (n : Nat) : Nat := (0x5000 + n) * 256 + 0x0C
abbrev Ch.TARGET_0 (n : Nat) : Nat := (0x5000 + n) * 256 + 0x0D
abbrev Ch.TARGET_1 (n : Nat) : Nat := (0x5000 + n) * 256 + 0x0E
abbrev Ch.TARGET_2 (n : Nat) : Nat := (0x5000 + n) * 256 + 0x0F
abbrev Ch.TARGET_3 (n : Nat) : Nat := (0x5000 + n) * 256 + 0x10
abbrev Ch.TARGET_4 (n : Nat) : Nat := (0x5000 + n) * 256 + 0x11
abbrev Ch.TARGET_5 (n : Nat) : Nat := (0x5000 + n) * 256 + 0x12
abbrev Ch.TARGET_6 (n : Nat) : Nat := (0x5000 + n) * 256 + 0x13
abbrev Ch.TARGET_7 (n : Nat) : Nat := (0x5000 + n) * 256 + 0x14
abbrev Ch.LOOP_COUNT (n : Nat) : Nat := (0x5000 + n) * 256 + 0x15
abbrev Ch.NOTIFY (n : Nat) : Nat := (0x5000 + n) * 256 + 0x16

/-! ### context, OD 0x6000+n -/
abbrev Cx.BIND (n : Nat) : Nat := (0x6000 + n) * 256 + 0x01
abbrev Cx.RUN_STATE (n : Nat) : Nat := (0x6000 + n) * 256 + 0x02
abbrev Cx.MODE (n : Nat) : Nat := (0x6000 + n) * 256 + 0x03
abbrev Cx.SETPOINT (n : Nat) : Nat := (0x6000 + n) * 256 + 0x04
abbrev Cx.PULSE_SETPOINT (n : Nat) : Nat := (0x6000 + n) * 256 + 0x05
abbrev Cx.COMPL_HI (n : Nat) : Nat := (0x6000 + n) * 256 + 0x06
abbrev Cx.COMPL_LO (n : Nat) : Nat := (0x6000 + n) * 256 + 0x07
abbrev Cx.SP_STEP (n : Nat) : Nat := (0x6000 + n) * 256 + 0x08
abbrev Cx.INT_SPEC (n : Nat) : Nat := (0x6000 + n) * 256 + 0x09
abbrev Cx.SWEEP (n : Nat) : Nat := (0x6000 + n) * 256 + 0x0A
abbrev Cx.REPEAT (n : Nat) : Nat := (0x6000 + n) * 256 + 0x0B
abbrev Cx.CYCLE_PERIOD (n : Nat) : Nat := (0x6000 + n) * 256 + 0x0C
abbrev Cx.SCAN_ROUTE (n : Nat) : Nat := (0x6000 + n) * 256 + 0x0D
abbrev Cx.SCAN_SETTLE (n : Nat) : Nat := (0x6000 + n) * 256 + 0x0E
abbrev Cx.SETTLE_CFG (n : Nat) : Nat := (0x6000 + n) * 256 + 0x0F
abbrev Cx.SETTLE_TOL (n : Nat) : Nat := (0x6000 + n) * 256 + 0x10
abbrev Cx.SETTLE_MIN (n : Nat) : Nat := (0x6000 + n) * 256 + 0x11
abbrev Cx.ARM_EVENT (n : Nat) : Nat := (0x6000 + n) * 256 + 0x12
abbrev Cx.ENG_CFG (n : Nat) : Nat := (0x6000 + n) * 256 + 0x13
abbrev Cx.ENG_GAIN (n : Nat) : Nat := (0x6000 + n) * 256 + 0x14
abbrev Cx.ENG_OFFSET (n : Nat) : Nat := (0x6000 + n) * 256 + 0x15
abbrev Cx.ENG_LAST (n : Nat) : Nat := (0x6000 + n) * 256 + 0x16
abbrev Cx.ENG_UNC (n : Nat) : Nat := (0x6000 + n) * 256 + 0x17
abbrev Cx.POINT_NOW (n : Nat) : Nat := (0x6000 + n) * 256 + 0x18
abbrev Cx.PASS_COUNT (n : Nat) : Nat := (0x6000 + n) * 256 + 0x19
abbrev Cx.STALL_AGE (n : Nat) : Nat := (0x6000 + n) * 256 + 0x1A
abbrev Cx.STALL_NOTIFY (n : Nat) : Nat := (0x6000 + n) * 256 + 0x1B
abbrev Cx.WAIT_CAUSE (n : Nat) : Nat := (0x6000 + n) * 256 + 0x1C
abbrev Cx.POINTS_DONE (n : Nat) : Nat := (0x6000 + n) * 256 + 0x1D
abbrev Cx.SEQ_STATUS (n : Nat) : Nat := (0x6000 + n) * 256 + 0x1E
abbrev Cx.NEXT_CTX (n : Nat) : Nat := (0x6000 + n) * 256 + 0x1F
abbrev Cx.USER_TAG (n : Nat) : Nat := (0x6000 + n) * 256 + 0x20
abbrev Cx.OWNER (n : Nat) : Nat := (0x6000 + n) * 256 + 0x21
abbrev Cx.SEC (n : Nat) : Nat := (0x6000 + n) * 256 + 0x22

/-! ### sweep-list header, OD 0x7000+n -/
abbrev Ls.KIND (n : Nat) : Nat := (0x7000 + n) * 256 + 0x01
abbrev Ls.FIRST_SLOT (n : Nat) : Nat := (0x7000 + n) * 256 + 0x02
abbrev Ls.COUNT (n : Nat) : Nat := (0x7000 + n) * 256 + 0x03
abbrev Ls.GEN_WORD (n : Nat) : Nat := (0x7000 + n) * 256 + 0x04
abbrev Ls.GEN_START (n : Nat) : Nat := (0x7000 + n) * 256 + 0x05
abbrev Ls.GEN_STOP (n : Nat) : Nat := (0x7000 + n) * 256 + 0x06
abbrev Ls.COMMIT (n : Nat) : Nat := (0x7000 + n) * 256 + 0x07
abbrev Ls.LIST_STATE (n : Nat) : Nat := (0x7000 + n) * 256 + 0x08
abbrev Ls.LIST_CRC (n : Nat) : Nat := (0x7000 + n) * 256 + 0x09
abbrev Ls.REF_COUNT (n : Nat) : Nat := (0x7000 + n) * 256 + 0x0A
abbrev Ls.POINTS (n : Nat) : Nat := (0x7000 + n) * 256 + 0x0B
abbrev Ls.OWNER (n : Nat) : Nat := (0x7000 + n) * 256 + 0x0C
abbrev Ls.SEC (n : Nat) : Nat := (0x7000 + n) * 256 + 0x0D

/-! ### recorder, OD 0x8000 -/
abbrev Rc.J_EN : Nat := 0x800001
abbrev Rc.J_LEVEL : Nat := 0x800002
abbrev Rc.J2_PORTS_LO : Nat := 0x800003
abbrev Rc.J2_PORTS_HI : Nat := 0x800004
abbrev Rc.J2_SNAP_INTERVAL : Nat := 0x800005
abbrev Rc.CKPT_INTERVAL : Nat := 0x800006
abbrev Rc.J_FLUSH : Nat := 0x800007
abbrev Rc.MON_ALL : Nat := 0x800008
abbrev Rc.J_FULL_MODE : Nat := 0x800009
abbrev Rc.NVME_LINKS : Nat := 0x80000A
abbrev Rc.NS0_NSID : Nat := 0x80000B
abbrev Rc.NS1_NSID : Nat := 0x80000C
abbrev Rc.NS1_LINK : Nat := 0x80000D
abbrev Rc.STORE_INIT : Nat := 0x80000E
abbrev Rc.STORE_CHUNKS : Nat := 0x80000F
abbrev Rc.CHUNK_OLDEST : Nat := 0x800010
abbrev Rc.CHUNK_NEXT : Nat := 0x800011
abbrev Rc.OFFLOADED : Nat := 0x800012
abbrev Rc.JR_START : Nat := 0x800013
abbrev Rc.JR_COUNT : Nat := 0x800014
abbrev Rc.JOURNAL_DATA : Nat := 0x800015
abbrev Rc.J_STATUS : Nat := 0x800016
abbrev Rc.GAP_COUNT : Nat := 0x800017
abbrev Rc.J_RATE : Nat := 0x800018

/-! ### replay, OD 0x8001 -/
abbrev Rp.RP_PORTS_LO : Nat := 0x800101
abbrev Rp.RP_PORTS_HI : Nat := 0x800102
abbrev Rp.RP_EPOCH : Nat := 0x800103
abbrev Rp.RP_START : Nat := 0x800104
abbrev Rp.RP_END : Nat := 0x800105
abbrev Rp.RP_CTRL : Nat := 0x800106
abbrev Rp.RP_STATE : Nat := 0x800107
abbrev Rp.RP_RESULT : Nat := 0x800108
abbrev Rp.RP_TICK : Nat := 0x800109
abbrev Rp.RP_REPORT : Nat := 0x80010A

/-! ### ageing globals, OD 0x9000 -/
abbrev Ag.GARNET_FREE : Nat := 0x900001
abbrev Ag.GARNET_LOG : Nat := 0x900002
abbrev Ag.CORE_MAP : Nat := 0x900003
abbrev Ag.LIFE_USED : Nat := 0x900004
abbrev Ag.EVAL_INTERVAL : Nat := 0x900005
abbrev Ag.AGE_STATUS : Nat := 0x900006

/-- Entries of the identity record (R342). -/
def rowsId : List Row := [
  ⟨0x01, .str, .const, 0, .any⟩,
  ⟨0x02, .str, .const, 0, .any⟩,
  ⟨0x03, .str, .const, 0, .any⟩,
  ⟨0x04, .u8, .const, 0, .any⟩,
  ⟨0x05, .str, .const, 0, .any⟩,
  ⟨0x06, .oct, .const, 0, .any⟩,
  ⟨0x07, .u16, .const, 0x100, .any⟩,
  ⟨0x08, .u32, .ro, 0, .any⟩,
  ⟨0x09, .u32, .ro, 0, .any⟩,
  ⟨0x0A, .u32, .ro, 0, .any⟩,
  ⟨0x0B, .u32, .ro, 0, .any⟩,
  ⟨0x0C, .u32, .ro, 0, .any⟩,
  ⟨0x0D, .u32, .ro, 0, .any⟩,
  ⟨0x0E, .u8, .ro, 1, .any⟩,
  ⟨0x0F, .u8, .const, 0x80, .any⟩,
  ⟨0x10, .u16, .const, 0x1000, .any⟩,
  ⟨0x11, .u16, .const, 0x400, .any⟩,
  ⟨0x12, .u16, .const, 0x400, .any⟩]

/-- Entries of the PCIe endpoint record (R394). -/
def rowsPe : List Row := [
  ⟨0x01, .u16, .const, 0, .any⟩,
  ⟨0x02, .u32, .const, 0, .any⟩,
  ⟨0x03, .u8, .ro, 0, .any⟩,
  ⟨0x04, .u8, .ro, 0, .any⟩,
  ⟨0x05, .u8, .rw, 4, .rng 1 4⟩,
  ⟨0x06, .u8, .ro, 0, .any⟩,
  ⟨0x07, .u32, .ro, 0, .any⟩,
  ⟨0x08, .u32, .ro, 0, .any⟩,
  ⟨0x09, .u32, .ro, 0, .any⟩,
  ⟨0x0A, .u32, .ro, 0, .any⟩]

/-- Entries of the DMA channel record (R395). -/
def rowsDm : List Row := [
  ⟨0x01, .bool, .rw, 0, .any⟩,
  ⟨0x02, .u64, .rw, 0, .pageAligned⟩,
  ⟨0x03, .u8, .rw, 4, .rng 2 12⟩,
  ⟨0x04, .u8, .rw, 0, .le 1⟩,
  ⟨0x05, .u32, .rw, 0x3e8, .rng 10 1000000⟩,
  ⟨0x06, .u16, .rw, 0xffff, .any⟩,
  ⟨0x07, .u32, .rw, 0, .any⟩,
  ⟨0x08, .u32, .ro, 0, .any⟩,
  ⟨0x09, .u64, .ro, 0, .any⟩,
  ⟨0x0A, .u32, .rw, 0, .w1c 0x3C⟩]

/-- Entries of the PCIe function record (R396). -/
def rowsFn : List Row := [
  ⟨0x01, .u16, .rw, 0xffff, .any⟩,
  ⟨0x02, .u16, .rw, 0xffff, .any⟩,
  ⟨0x03, .u32, .rw, 0, .le 100000⟩,
  ⟨0x04, .bool, .rw, 0, .any⟩,
  ⟨0x05, .u64, .rw, 0, .any⟩,
  ⟨0x06, .u8, .rw, 8, .rng 6 14⟩,
  ⟨0x07, .u32, .rw, 0, .any⟩,
  ⟨0x08, .u32, .ro, 0, .any⟩,
  ⟨0x09, .u16, .rw, 0xffff, .any⟩,
  ⟨0x0A, .u32, .ro, 0, .any⟩,
  ⟨0x0B, .u64, .ro, 0, .any⟩,
  ⟨0x0C, .u32, .ro, 0, .any⟩]

/-- Entries of the 10BASE-T1L ports record (R373). -/
def rowsNe : List Row := [
  ⟨0x01, .oct, .const, 0, .any⟩,
  ⟨0x02, .oct, .rw, 0, .any⟩,
  ⟨0x03, .u32, .rw, 0, .any⟩,
  ⟨0x04, .u32, .rw, 0xffffff00, .any⟩,
  ⟨0x05, .u32, .rw, 0, .any⟩,
  ⟨0x06, .u8, .rw, 0, .t1l⟩,
  ⟨0x07, .u8, .ro, 0, .any⟩,
  ⟨0x08, .u32, .ro, 0, .any⟩]

/-- Entries of the bridge record (R373). -/
def rowsBr : List Row := [
  ⟨0x01, .bool, .rw, 1, .any⟩,
  ⟨0x02, .u32, .ro, 0, .any⟩,
  ⟨0x03, .u32, .ro, 0, .any⟩]

/-- Entries of the CAN FD port record (R373). -/
def rowsCn : List Row := [
  ⟨0x01, .bool, .rw, 0, .any⟩,
  ⟨0x02, .u8, .rw, 1, .rng 1 127⟩,
  ⟨0x03, .u32, .rw, 0x7a120, .rng 125000 1000000⟩,
  ⟨0x04, .u32, .rw, 0x1e8480, .rng 0 8000000⟩,
  ⟨0x05, .u8, .ro, 0, .any⟩,
  ⟨0x06, .u32, .ro, 0, .any⟩,
  ⟨0x07, .u32, .ro, 0, .any⟩]

/-- Entries of the COP session record (R373). -/
def rowsSs : List Row := [
  ⟨0x01, .u8, .ro, 0, .any⟩,
  ⟨0x02, .u32, .rw, 0x3c, .rng 5 86400⟩,
  ⟨0x03, .u16, .rw, 0xa, .rng 1 10000⟩,
  ⟨0x04, .u8, .ro, 0, .any⟩,
  ⟨0x05, .u32, .ro, 0, .any⟩,
  ⟨0x06, .u32, .ro, 0, .any⟩,
  ⟨0x07, .u32, .ro, 0, .any⟩,
  ⟨0x08, .u8, .wo, 0, .oneOf [1]⟩]

/-- Entries of the RS-485 legacy port record (R373). -/
def rowsLg : List Row := [
  ⟨0x01, .bool, .rw, 0, .any⟩,
  ⟨0x02, .u8, .rw, 1, .rng 1 247⟩,
  ⟨0x03, .u32, .rw, 0x1c200, .any⟩,
  ⟨0x04, .u32, .ro, 0, .any⟩]

/-- Entries of the device control record (R343). -/
def rowsDv : List Row := [
  ⟨0x01, .u8, .ro, 0, .any⟩,
  ⟨0x02, .u8, .ro, 0, .any⟩,
  ⟨0x03, .bool, .ro, 0, .any⟩,
  ⟨0x04, .u8, .wo, 0, .oneOf [1]⟩,
  ⟨0x05, .u8, .ro, 0, .any⟩,
  ⟨0x06, .u32, .ro, 0, .any⟩,
  ⟨0x07, .u32, .rw, 0, .w1c 0xE⟩,
  ⟨0x08, .u32, .ro, 0, .any⟩,
  ⟨0x09, .u32, .ro, 0, .any⟩,
  ⟨0x0A, .u16, .ro, 0, .any⟩,
  ⟨0x0B, .u32, .ro, 0, .any⟩]

/-- Entries of the power control record (R441). -/
def rowsPw : List Row := [
  ⟨0x01, .u8, .ro, 1, .any⟩,
  ⟨0x02, .u8, .wo, 0, .rng 1 4⟩,
  ⟨0x03, .u8, .ro, 0, .any⟩,
  ⟨0x04, .u32, .ro, 0, .any⟩,
  ⟨0x05, .u32, .ro, 0, .any⟩,
  ⟨0x06, .u16, .rw, 0, .any⟩,
  ⟨0x07, .u8, .rw, 0, .le 2⟩,
  ⟨0x08, .bool, .rw, 1, .any⟩,
  ⟨0x09, .u8, .rw, 0, .le 1⟩,
  ⟨0x0A, .u32, .rw, 0x64, .rng 10 10000⟩,
  ⟨0x0B, .u32, .rw, 2, .w1c 0xC8⟩,
  ⟨0x0C, .u32, .ro, 0, .any⟩]

/-- Entries of the images record (R443). -/
def rowsFw : List Row := [
  ⟨0x01, .u8, .ro, 0, .any⟩,
  ⟨0x02, .u32, .ro, 0xffffffff, .any⟩,
  ⟨0x03, .u32, .ro, 0xffffffff, .any⟩,
  ⟨0x04, .domain, .wo, 0, .any⟩,
  ⟨0x05, .u8, .wo, 0, .rng 1 2⟩,
  ⟨0x06, .u8, .ro, 0, .any⟩,
  ⟨0x07, .u32, .rw, 0, .w1c 0x1C⟩,
  ⟨0x08, .u8, .ro, 0, .any⟩,
  ⟨0x09, .u8, .ro, 0xff, .any⟩]

/-- Entries of the PMBus rail record (R445). -/
def rowsRl : List Row := [
  ⟨0x01, .bool, .rw, 0, .any⟩,
  ⟨0x02, .u8, .rw, 0, .rng 0x08 0x77⟩,
  ⟨0x03, .u8, .rw, 0xff, .any⟩,
  ⟨0x04, .u8, .rw, 0, .le 2⟩,
  ⟨0x05, .u8, .rw, 0xff, .oneOf [0,1,2,3,4,5,6,7,8,9,10,11,12,13,14,15,0xFF]⟩,
  ⟨0x06, .u8, .rw, 0, .le 15⟩,
  ⟨0x07, .u16, .rw, 1, .le 10000⟩,
  ⟨0x08, .real, .rw, 0, .finite⟩,
  ⟨0x09, .real, .rw, 0x40a00000, .real (1/2) 20⟩,
  ⟨0x0A, .u8, .wo, 0, .rng 1 2⟩,
  ⟨0x0B, .u8, .ro, 0, .any⟩,
  ⟨0x0C, .real, .ro, 0, .any⟩,
  ⟨0x0D, .real, .ro, 0, .any⟩,
  ⟨0x0E, .real, .ro, 0, .any⟩,
  ⟨0x0F, .u16, .ro, 0, .any⟩]

/-- Entries of the timebase record (R216). -/
def rowsTb : List Row := [
  ⟨0x01, .u8, .rw, 0, .le 4⟩,
  ⟨0x02, .u64, .ro, 0, .any⟩,
  ⟨0x03, .time, .ro, 0, .any⟩,
  ⟨0x04, .u32, .ro, 0, .any⟩,
  ⟨0x05, .time, .wo, 0, .any⟩,
  ⟨0x06, .u32, .rw, 0xf4240, .rng 1000 1000000000⟩,
  ⟨0x07, .u16, .rw, 0x10, .rng 1 1024⟩,
  ⟨0x08, .u16, .rw, 0x64, .rng 1 500⟩,
  ⟨0x09, .domain, .ro, 0, .any⟩,
  ⟨0x0A, .i64, .ro, 0, .any⟩,
  ⟨0x0B, .u32, .rw, 0, .w1c 0x3C0⟩,
  ⟨0x0C, .u32, .rw, 0x3e8, .rng 1 500000⟩,
  ⟨0x0D, .u32, .rw, 0x186a0, .rng 1 999000⟩,
  ⟨0x0E, .u8, .rw, 0, .le 1⟩,
  ⟨0x0F, .u8, .rw, 0, .le 127⟩,
  ⟨0x10, .u8, .rw, 0, .le 2⟩,
  ⟨0x11, .u8, .rw, 0, .le 2⟩,
  ⟨0x12, .u16, .rw, 0, .le 1023⟩,
  ⟨0x13, .u8, .wo, 0, .oneOf [1]⟩,
  ⟨0x14, .u8, .ro, 0, .any⟩,
  ⟨0x15, .u32, .ro, 0, .any⟩,
  ⟨0x16, .u32, .ro, 0, .any⟩,
  ⟨0x17, .u32, .ro, 0, .any⟩]

/-- Entries of the event-fabric globals record (R238). -/
def rowsEv : List Row := [
  ⟨0x01, .u16, .rw, 0xffff, .chan⟩,
  ⟨0x02, .u32, .ro, 0, .any⟩,
  ⟨0x03, .u16, .rw, 0, .w1c 0xFFFF⟩,
  ⟨0x04, .u16, .ro, 0, .any⟩,
  ⟨0x05, .u16, .ro, 0, .any⟩,
  ⟨0x10, .u32, .rw, 0xffff0100, .trigCfg⟩,
  ⟨0x11, .u32, .rw, 0xffff0100, .trigCfg⟩,
  ⟨0x12, .u32, .rw, 0xffff0100, .trigCfg⟩,
  ⟨0x13, .u32, .rw, 0xffff0100, .trigCfg⟩,
  ⟨0x14, .u32, .rw, 0xffff0100, .trigCfg⟩,
  ⟨0x15, .u32, .rw, 0xffff0100, .trigCfg⟩,
  ⟨0x16, .u32, .rw, 0xffff0100, .trigCfg⟩,
  ⟨0x17, .u32, .rw, 0xffff0100, .trigCfg⟩,
  ⟨0x18, .u32, .rw, 0xffff0100, .trigCfg⟩,
  ⟨0x19, .u32, .rw, 0xffff0100, .trigCfg⟩,
  ⟨0x1A, .u32, .rw, 0xffff0100, .trigCfg⟩,
  ⟨0x1B, .u32, .rw, 0xffff0100, .trigCfg⟩,
  ⟨0x1C, .u32, .rw, 0xffff0100, .trigCfg⟩,
  ⟨0x1D, .u32, .rw, 0xffff0100, .trigCfg⟩,
  ⟨0x1E, .u32, .rw, 0xffff0100, .trigCfg⟩,
  ⟨0x1F, .u32, .rw, 0xffff0100, .trigCfg⟩,
  ⟨0x20, .u8, .ro, 0, .any⟩,
  ⟨0x21, .u8, .ro, 0, .any⟩,
  ⟨0x22, .u8, .ro, 0, .any⟩,
  ⟨0x23, .u8, .ro, 0, .any⟩,
  ⟨0x24, .u8, .ro, 0, .any⟩,
  ⟨0x25, .u8, .ro, 0, .any⟩,
  ⟨0x26, .u8, .ro, 0, .any⟩,
  ⟨0x27, .u8, .ro, 0, .any⟩,
  ⟨0x28, .u8, .ro, 0, .any⟩,
  ⟨0x29, .u8, .ro, 0, .any⟩,
  ⟨0x2A, .u8, .ro, 0, .any⟩,
  ⟨0x2B, .u8, .ro, 0, .any⟩,
  ⟨0x2C, .u8, .ro, 0, .any⟩,
  ⟨0x2D, .u8, .ro, 0, .any⟩,
  ⟨0x2E, .u8, .ro, 0, .any⟩,
  ⟨0x2F, .u8, .ro, 0, .any⟩]

/-- Entries of the counter record (R239). -/
def rowsEc : List Row := [
  ⟨0x01, .u8, .ro, 0, .any⟩,
  ⟨0x02, .u16, .rw, 0xffff, .chan⟩,
  ⟨0x03, .u16, .rw, 0xffff, .chan⟩,
  ⟨0x04, .u16, .rw, 0xffff, .chan⟩,
  ⟨0x05, .u16, .rw, 0xffff, .chan⟩,
  ⟨0x06, .u16, .rw, 0xffff, .chan⟩,
  ⟨0x07, .u8, .rw, 0, .le 1⟩,
  ⟨0x08, .u32, .rw, 0xffffffff, .rng 1 0xFFFFFFFF⟩,
  ⟨0x09, .u8, .rw, 1, .le 1⟩,
  ⟨0x0A, .u32, .ro, 0, .any⟩,
  ⟨0x0B, .u32, .ro, 0, .any⟩]

/-- Entries of the delay unit record (R239). -/
def rowsDl : List Row := [
  ⟨0x01, .u8, .ro, 0, .any⟩,
  ⟨0x02, .u16, .rw, 0xffff, .chan⟩,
  ⟨0x03, .u32, .rw, 1, .any⟩,
  ⟨0x04, .u32, .rw, 0, .w1c 2⟩]

/-- Entries of the timer record (R239). -/
def rowsTm : List Row := [
  ⟨0x01, .u8, .ro, 0, .any⟩,
  ⟨0x02, .u32, .rw, 0, .le 4000000000⟩,
  ⟨0x03, .u32, .rw, 0, .any⟩]

/-- Entries of the fabric and scratchpad record (R268). -/
def rowsFb0 : List Row := [
  ⟨0x01, .u32, .rw, 0, .w1c 0x2F8⟩,
  ⟨0x02, .u32, .ro, 0, .any⟩,
  ⟨0x03, .u16, .ro, 0, .any⟩,
  ⟨0x04, .u32, .ro, 0, .any⟩,
  ⟨0x05, .u32, .ro, 0, .any⟩,
  ⟨0x06, .u32, .ro, 0, .any⟩,
  ⟨0x07, .bool, .rw, 1, .any⟩,
  ⟨0x08, .u32, .rw, 0x3e8, .rng 10 86400000⟩,
  ⟨0x09, .u8, .ro, 0, .any⟩,
  ⟨0x0A, .u8, .ro, 0xff, .any⟩,
  ⟨0x0B, .u8, .ro, 0xff, .any⟩,
  ⟨0x0C, .u32, .ro, 0, .any⟩,
  ⟨0x0D, .domain, .ro, 0, .any⟩,
  ⟨0x0E, .u8, .ro, 0xf, .any⟩,
  ⟨0x0F, .u32, .ro, 0, .any⟩,
  ⟨0x10, .u32, .ro, 0, .any⟩,
  ⟨0x11, .u8, .wo, 0xff, .le 63⟩,
  ⟨0x20, .u32, .ro, 0, .any⟩,
  ⟨0x21, .u32, .ro, 0, .any⟩,
  ⟨0x22, .u32, .ro, 0, .any⟩,
  ⟨0x23, .u32, .ro, 0, .any⟩,
  ⟨0x24, .u32, .ro, 0, .any⟩,
  ⟨0x25, .u32, .ro, 0, .any⟩,
  ⟨0x26, .u32, .ro, 0, .any⟩,
  ⟨0x27, .u32, .ro, 0, .any⟩,
  ⟨0x28, .u32, .ro, 0, .any⟩,
  ⟨0x29, .u32, .ro, 0, .any⟩,
  ⟨0x2A, .u32, .ro, 0, .any⟩,
  ⟨0x2B, .u32, .ro, 0, .any⟩,
  ⟨0x2C, .u32, .ro, 0, .any⟩,
  ⟨0x2D, .u32, .ro, 0, .any⟩,
  ⟨0x2E, .u32, .ro, 0, .any⟩,
  ⟨0x2F, .u32, .ro, 0, .any⟩,
  ⟨0x30, .u32, .ro, 0, .any⟩,
  ⟨0x31, .u32, .ro, 0, .any⟩,
  ⟨0x32, .u32, .ro, 0, .any⟩,
  ⟨0x33, .u32, .ro, 0, .any⟩,
  ⟨0x34, .u32, .ro, 0, .any⟩,
  ⟨0x35, .u32, .ro, 0, .any⟩,
  ⟨0x36, .u32, .ro, 0, .any⟩]

/-- Entries of the fabric and scratchpad record (R268). -/
def rowsFb1 : List Row := [
  ⟨0x37, .u32, .ro, 0, .any⟩,
  ⟨0x38, .u32, .ro, 0, .any⟩,
  ⟨0x39, .u32, .ro, 0, .any⟩,
  ⟨0x3A, .u32, .ro, 0, .any⟩,
  ⟨0x3B, .u32, .ro, 0, .any⟩,
  ⟨0x3C, .u32, .ro, 0, .any⟩,
  ⟨0x3D, .u32, .ro, 0, .any⟩,
  ⟨0x3E, .u32, .ro, 0, .any⟩,
  ⟨0x3F, .u32, .ro, 0, .any⟩,
  ⟨0x40, .u32, .wo, 0, .any⟩]

def rowsFb : List Row := rowsFb0 ++ rowsFb1

/-- Entries of the region record (R270). -/
def rowsRg : List Row := [
  ⟨0x01, .u8, .ro, 0, .any⟩,
  ⟨0x02, .u8, .ro, 0, .any⟩,
  ⟨0x03, .u16, .rwc, 0, .rng 1 703⟩,
  ⟨0x04, .u16, .rwc, 0, .rng 1 703⟩,
  ⟨0x05, .bool, .rw, 0, .any⟩,
  ⟨0x06, .u8, .ro, 0, .any⟩]

/-- Entries of the stream ring record (R270). -/
def rowsRn : List Row := [
  ⟨0x01, .u8, .ro, 0, .any⟩,
  ⟨0x02, .u8, .ro, 0, .any⟩,
  ⟨0x03, .u16, .rwc, 0, .any⟩,
  ⟨0x04, .u8, .rwc, 6, .rng 6 15⟩,
  ⟨0x05, .u8, .rwc, 0, .le 1⟩,
  ⟨0x06, .u8, .rwc, 1, .rng 1 3⟩,
  ⟨0x07, .bool, .rw, 0, .any⟩,
  ⟨0x08, .u64, .ro, 0, .any⟩,
  ⟨0x09, .u64, .rw, 0, .le 0xFFFFFFFFFF⟩,
  ⟨0x0A, .u64, .ro, 0, .any⟩,
  ⟨0x0B, .u32, .ro, 0, .any⟩,
  ⟨0x0C, .u32, .rw, 0, .w1c 0xC⟩]

/-- Entries of the sequencer globals record (R197). -/
def rowsSq : List Row := [
  ⟨0x01, .u8, .rw, 4, .oneOf [4,8,16,32,64]⟩,
  ⟨0x02, .u8, .rw, 0, .mask 0xF⟩,
  ⟨0x03, .bool, .rw, 1, .any⟩,
  ⟨0x04, .u32, .rw, 0x3e8, .rng 10 1000000⟩,
  ⟨0x05, .u32, .ro, 0, .any⟩,
  ⟨0x06, .u32, .ro, 0, .any⟩,
  ⟨0x07, .u16, .ro, 0, .any⟩,
  ⟨0x08, .u16, .ro, 0, .any⟩]

/-- Entries of the monitor converter record (R284). -/
def rowsMc : List Row := [
  ⟨0x01, .u8, .ro, 0, .any⟩,
  ⟨0x02, .u32, .rw, 1, .w1c 0x7F0⟩,
  ⟨0x03, .u16, .wo, 0, .any⟩,
  ⟨0x04, .u64, .ro, 0, .any⟩,
  ⟨0x05, .time, .ro, 0, .any⟩,
  ⟨0x06, .u32, .ro, 0, .any⟩,
  ⟨0x07, .u32, .ro, 0, .any⟩,
  ⟨0x08, .u32, .ro, 0, .any⟩,
  ⟨0x09, .u32, .ro, 0, .any⟩,
  ⟨0x0A, .u32, .rw, 0x64, .rng 1 60000⟩,
  ⟨0x0B, .real, .rw, 0x3b03126f, .real (15/10000) (1/2)⟩,
  ⟨0x0C, .u32, .rw, 0xa, .rng 1 1000⟩,
  ⟨0x0D, .u32, .rw, 0x64, .rng 10 60000⟩,
  ⟨0x0E, .u32, .rw, 0xa, .rng 1 1000⟩,
  ⟨0x0F, .u32, .rw, 0x64, .rng 10 60000⟩,
  ⟨0x10, .u32, .rw, 0x3e8, .rng 100 3600000⟩,
  ⟨0x11, .real, .rw, 0x42d20000, .real 0 150⟩,
  ⟨0x12, .u8, .rw, 0, .w1c 0xFF⟩,
  ⟨0x20, .real, .ro, 0, .any⟩,
  ⟨0x21, .real, .ro, 0, .any⟩,
  ⟨0x22, .real, .ro, 0, .any⟩,
  ⟨0x23, .real, .ro, 0, .any⟩,
  ⟨0x24, .real, .ro, 0, .any⟩,
  ⟨0x25, .real, .ro, 0, .any⟩,
  ⟨0x26, .real, .ro, 0, .any⟩,
  ⟨0x27, .real, .ro, 0, .any⟩,
  ⟨0x28, .real, .ro, 0, .any⟩,
  ⟨0x29, .real, .ro, 0, .any⟩,
  ⟨0x2A, .real, .ro, 0, .any⟩,
  ⟨0x2B, .real, .ro, 0, .any⟩,
  ⟨0x2C, .real, .ro, 0, .any⟩,
  ⟨0x2D, .real, .ro, 0, .any⟩]

/-- Entries of the calibration globals record (R314). -/
def rowsCa : List Row := [
  ⟨0x01, .real, .rw, 0, .realZeroOr 1 (22/10)⟩,
  ⟨0x02, .real, .rw, 0, .real 0 1000⟩,
  ⟨0x03, .u8, .rw, 0, .le 1⟩,
  ⟨0x04, .u16, .rw, 0x32, .rng 1 500⟩,
  ⟨0x05, .u8, .rw, 4, .rng 2 16⟩,
  ⟨0x06, .u32, .rw, 0, .zeroOr 86400 31622400⟩,
  ⟨0x07, .u8, .wo, 0, .oneOf [1]⟩,
  ⟨0x08, .u8, .rw, 0, .le 15⟩,
  ⟨0x09, .u8, .ro, 0, .any⟩,
  ⟨0x0A, .u8, .ro, 0xff, .any⟩,
  ⟨0x0B, .i32, .ro, 0, .any⟩,
  ⟨0x0C, .i32, .ro, 0, .any⟩,
  ⟨0x0D, .real, .ro, 0, .any⟩,
  ⟨0x0E, .u32, .ro, 0, .any⟩,
  ⟨0x0F, .time, .ro, 0, .any⟩,
  ⟨0x10, .real, .rw, 0x40000000, .real (1/2) 50⟩,
  ⟨0x11, .real, .rw, 0x3f000000, .real 0 100⟩,
  ⟨0x12, .u8, .ro, 3, .any⟩,
  ⟨0x13, .u32, .rw, 0x258, .rng 60 86400⟩,
  ⟨0x14, .u16, .rw, 0xa, .rng 1 100⟩,
  ⟨0x15, .real, .rw, 0x3dcccccd, .real (2/100) 1⟩,
  ⟨0x16, .u32, .rw, 0x5000, .rng 1024 1024000⟩,
  ⟨0x17, .real, .rw, 0x40a00000, .real (1/2) 100⟩,
  ⟨0x18, .real, .rw, 0x40000000, .real (1/2) 100⟩,
  ⟨0x19, .u32, .rw, 0x1c20, .rng 7200 604800⟩,
  ⟨0x1A, .u32, .ro, 0, .any⟩]

/-- Entries of the security record (R461). -/
def rowsSe : List Row := [
  ⟨0x01, .u32, .rw, 1, .mask 0x7FFFFF⟩,
  ⟨0x02, .u32, .wo, 0, .any⟩,
  ⟨0x03, .u8, .wo, 0, .oneOf [1]⟩,
  ⟨0x04, .u8, .wo, 0, .le 4⟩,
  ⟨0x05, .u8, .wo, 0, .le 4⟩,
  ⟨0x06, .u8, .ro, 0x40, .any⟩,
  ⟨0x07, .u8, .ro, 0, .any⟩,
  ⟨0x08, .u8, .wo, 0, .oneOf [1]⟩,
  ⟨0x09, .u32, .rw, 0, .w1c 0x16⟩,
  ⟨0x0A, .u8, .rw, 0, .mask 3⟩,
  ⟨0x0B, .u16, .rw, 0x155, .tampAction⟩,
  ⟨0x0C, .u8, .rw, 0, .w1c 0x1F⟩,
  ⟨0x0D, .u32, .ro, 0, .any⟩,
  ⟨0x0E, .time, .ro, 0, .any⟩]

/-- Entries of the key slot record (R463). -/
def rowsKy : List Row := [
  ⟨0x01, .oct, .wo, 0, .any⟩,
  ⟨0x02, .u8, .ro, 0, .any⟩,
  ⟨0x03, .u8, .ro, 8, .any⟩,
  ⟨0x04, .u8, .wo, 0, .oneOf [1]⟩]

/-- Entries of the group record (R35, R315, R336, R347). -/
def rowsGr : List Row := [
  ⟨0x20, .u8, .rwc, 0xff, .oneOf [0,1,2,3,4,5,6,7,0xFF]⟩,
  ⟨0x21, .u8, .ro, 0, .any⟩,
  ⟨0x22, .u8, .ro, 0xff, .any⟩,
  ⟨0x23, .u64, .ro, 0x233333333, .any⟩,
  ⟨0x40, .real, .rw, 0x40000000, .real (1/10) 20⟩,
  ⟨0x41, .real, .ro, 0x40000000, .any⟩,
  ⟨0x42, .u32, .rw, 0x15180, .zeroOr 7200 31622400⟩,
  ⟨0x43, .u8, .wo, 0, .oneOf [1]⟩,
  ⟨0x44, .u8, .ro, 0, .any⟩,
  ⟨0x45, .u8, .ro, 0xff, .any⟩,
  ⟨0x46, .u8, .ro, 0, .any⟩,
  ⟨0x47, .u32, .rw, 0, .w1c 0xF0⟩,
  ⟨0x48, .u32, .ro, 0, .any⟩,
  ⟨0x49, .time, .ro, 0, .any⟩,
  ⟨0x4A, .real, .ro, 0, .any⟩,
  ⟨0x4B, .real, .ro, 0, .any⟩,
  ⟨0x4C, .u32, .ro, 0, .any⟩,
  ⟨0x4D, .time, .ro, 0, .any⟩,
  ⟨0x50, .u32, .rw, 0x3c, .rng 0 86400⟩,
  ⟨0x51, .u16, .rw, 1, .rng 1 100⟩,
  ⟨0x52, .u8, .ro, 0, .any⟩,
  ⟨0x53, .u8, .ro, 0xff, .any⟩,
  ⟨0x54, .time, .ro, 0, .any⟩,
  ⟨0x01, .u8, .ro, 0, .any⟩,
  ⟨0x02, .u8, .ro, 0, .any⟩,
  ⟨0x03, .u8, .ro, 0, .any⟩,
  ⟨0x04, .u8, .wo, 0, .any⟩,
  ⟨0x05, .u32, .rw, 0, .w1c 0xC⟩,
  ⟨0x06, .u32, .ro, 0, .any⟩,
  ⟨0x07, .u8, .ro, 0, .any⟩]

/-- Entries of the port record (R73, R102). -/
def rowsPt0 : List Row := [
  ⟨0x30, .u8, .rw, 1, .le 3⟩,
  ⟨0x31, .u8, .ro, 1, .any⟩,
  ⟨0x32, .real, .rw, 0, .finite⟩,
  ⟨0x33, .real, .rw, 0x447a0000, .real (1/1000) 50000000⟩,
  ⟨0x34, .u32, .rw, 0x80000, .le 0xFFFFF⟩,
  ⟨0x35, .u32, .rw, 0x80000, .le 0xFFFFF⟩,
  ⟨0x36, .u32, .rw, 0, .le 0xFFFFF⟩,
  ⟨0x37, .u32, .rw, 0, .le 0xFFFFF⟩,
  ⟨0x38, .u32, .rw, 0, .le 200000000⟩,
  ⟨0x39, .u8, .rw, 0, .le 2⟩,
  ⟨0x3A, .u16, .rw, 0xffff, .chan⟩,
  ⟨0x3B, .u32, .rw, 0, .any⟩,
  ⟨0x3C, .u32, .ro, 0x800000, .any⟩,
  ⟨0x3D, .real, .rw, 0x3ba3d70a, .real (15/10000) 1⟩,
  ⟨0x3E, .u32, .rw, 0x2710, .zeroOr 1000 60000000⟩,
  ⟨0x3F, .u8, .rw, 0, .le 2⟩,
  ⟨0x40, .real, .ro, 0, .any⟩,
  ⟨0x41, .u32, .rw, 1, .w1c 0x1E00⟩,
  ⟨0x42, .u32, .wo, 0, .mask 3⟩,
  ⟨0x43, .u32, .ro, 0, .any⟩,
  ⟨0x44, .u32, .ro, 0, .any⟩,
  ⟨0x50, .u32, .rw, 0x40000001, .intSpec⟩,
  ⟨0x51, .bool, .rw, 1, .any⟩,
  ⟨0x52, .u8, .rw, 3, .le 3⟩,
  ⟨0x53, .u8, .rw, 0xff, .ring⟩,
  ⟨0x54, .u32, .rw, 0x186a0, .le 250000⟩,
  ⟨0x55, .u16, .rw, 0xfff, .le 4095⟩,
  ⟨0x56, .bool, .rw, 0, .any⟩,
  ⟨0x57, .u8, .rw, 0, .le 2⟩,
  ⟨0x58, .u8, .rw, 0, .le 10⟩,
  ⟨0x59, .u8, .rw, 0xff, .ring⟩,
  ⟨0x5A, .u32, .rw, 0, .w1c 0xF0⟩,
  ⟨0x5B, .u32, .ro, 0, .any⟩,
  ⟨0x5C, .u32, .ro, 0, .any⟩,
  ⟨0x5D, .u32, .ro, 0, .any⟩,
  ⟨0x5E, .fsq, .ro, 0, .any⟩,
  ⟨0x5F, .u64, .ro, 0, .any⟩,
  ⟨0x60, .fsq, .ro, 0, .any⟩,
  ⟨0x61, .real, .ro, 0, .any⟩,
  ⟨0x62, .fsq, .ro, 0, .any⟩]

/-- Entries of the port record (R102, R124). -/
def rowsPt1 : List Row := [
  ⟨0x63, .u64, .ro, 0, .any⟩,
  ⟨0x64, .fsq, .ro, 0, .any⟩,
  ⟨0x65, .real, .ro, 0, .any⟩,
  ⟨0x66, .time, .ro, 0, .any⟩,
  ⟨0x67, .real, .ro, 0, .any⟩,
  ⟨0x68, .real, .ro, 0, .any⟩,
  ⟨0x69, .real, .ro, 0, .any⟩,
  ⟨0x6A, .real, .ro, 0, .any⟩,
  ⟨0x6B, .u32, .ro, 0x40000001, .any⟩,
  ⟨0x10, .u8, .rw, 0, .le 4⟩,
  ⟨0x12, .fsq, .rw, 0, .any⟩,
  ⟨0x13, .fsq, .rw, 0, .any⟩,
  ⟨0x14, .fsq, .rw, 0x333333333, .any⟩,
  ⟨0x15, .fsq, .rw, 0xfccccccccd, .any⟩,
  ⟨0x16, .u32, .rw, 0x14, .rng 1 2000000⟩,
  ⟨0x17, .u32, .ro, 0x14, .any⟩,
  ⟨0x18, .fsq, .rw, 0, .srng 0 (2^39-1)⟩,
  ⟨0x19, .real, .rw, 0x3f800000, .real (1/10) 1000⟩,
  ⟨0x1A, .i40, .ro, 0x66666666, .any⟩,
  ⟨0x1B, .i40, .rw, 0, .any⟩,
  ⟨0x1C, .i40, .rw, 0x40000000, .any⟩,
  ⟨0x1D, .i40, .rw, 0, .any⟩,
  ⟨0x1E, .i40, .rw, 0x40000000, .any⟩,
  ⟨0x1F, .fsq, .rw, 0x2666666666, .srng (2^30) 0x2666666666⟩,
  ⟨0x20, .bool, .rw, 0, .any⟩,
  ⟨0x21, .u8, .rw, 0xc, .rng 4 24⟩,
  ⟨0x22, .fsq, .rw, 0x83126e9, .any⟩,
  ⟨0x23, .i40, .rw, 0x100000000, .any⟩,
  ⟨0x24, .i40, .rw, 0x1000000, .srng 1 (2^39-1)⟩,
  ⟨0x25, .i40, .rw, 0x4000000000, .any⟩,
  ⟨0x26, .i40, .ro, 0x100000000, .any⟩,
  ⟨0x27, .fsq, .ro, 0, .any⟩,
  ⟨0x28, .u8, .rw, 0xff, .portOrNone⟩,
  ⟨0x29, .i40, .rw, 0, .any⟩,
  ⟨0x2A, .i40, .rw, 0, .any⟩,
  ⟨0x2B, .fsq, .rw, 0, .any⟩,
  ⟨0x2C, .u32, .rw, 0, .w1c 0x7C00⟩,
  ⟨0x2D, .u32, .ro, 0, .any⟩,
  ⟨0x2E, .u8, .rw, 0xff, .ring⟩,
  ⟨0x2F, .u32, .rw, 0, .any⟩]

/-- Entries of the port record (R124, R145). -/
def rowsPt2 : List Row := [
  ⟨0x70, .domain, .ro, 0, .any⟩,
  ⟨0x71, .u32, .ro, 1, .any⟩,
  ⟨0x72, .fsq, .ro, 0, .any⟩,
  ⟨0x73, .u8, .ro, 0, .any⟩,
  ⟨0x74, .fsq, .ro, 0, .any⟩,
  ⟨0x75, .fsq, .ro, 0, .any⟩,
  ⟨0x80, .u8, .rwc, 1, .rng 1 8⟩,
  ⟨0x81, .u8, .rwc, 1, .rng 1 2⟩,
  ⟨0x82, .real, .rwc, 0x358637bd, .any⟩,
  ⟨0x83, .real, .rwc, 0x3727c5ac, .any⟩,
  ⟨0x84, .real, .rwc, 0x38d1b717, .any⟩,
  ⟨0x85, .real, .rwc, 0x3a83126f, .any⟩,
  ⟨0x86, .real, .rwc, 0x3c23d70a, .any⟩,
  ⟨0x87, .real, .rwc, 0x3dcccccd, .any⟩,
  ⟨0x88, .real, .rwc, 0x3f800000, .any⟩,
  ⟨0x89, .real, .rwc, 0x41200000, .any⟩,
  ⟨0x8A, .real, .rwc, 0x40000000, .any⟩,
  ⟨0x8B, .real, .rwc, 0x41a00000, .any⟩,
  ⟨0x8C, .real, .rwc, 0x37388ca4, .any⟩,
  ⟨0x8D, .real, .rwc, 0x38e6afcd, .any⟩,
  ⟨0x8E, .real, .rwc, 0x3a902de0, .any⟩,
  ⟨0x8F, .real, .rwc, 0x3c343958, .any⟩,
  ⟨0x90, .real, .rwc, 0x3de147ae, .any⟩,
  ⟨0x91, .real, .rwc, 0x3f8ccccd, .any⟩,
  ⟨0x92, .real, .rwc, 0x41300000, .any⟩,
  ⟨0x93, .real, .rwc, 0x41a00000, .any⟩,
  ⟨0x94, .u32, .rwc, 0x3e8, .rng 1 100000⟩,
  ⟨0x95, .u32, .rwc, 0x3e8, .rng 1 100000⟩,
  ⟨0x96, .u32, .rwc, 0x3e8, .rng 1 100000⟩,
  ⟨0x97, .u32, .rwc, 0x3e8, .rng 1 100000⟩,
  ⟨0x98, .u32, .rwc, 0x3e8, .rng 1 100000⟩,
  ⟨0x99, .u32, .rwc, 0x3e8, .rng 1 100000⟩,
  ⟨0x9A, .u32, .rwc, 0x3e8, .rng 1 100000⟩,
  ⟨0x9B, .u32, .rwc, 0x3e8, .rng 1 100000⟩,
  ⟨0x9C, .u32, .rwc, 0x3e8, .rng 1 100000⟩,
  ⟨0x9D, .u32, .rwc, 0x3e8, .rng 1 100000⟩,
  ⟨0x9E, .oct, .rwc, 0, .any⟩,
  ⟨0xA0, .u8, .rw, 0, .le 2⟩,
  ⟨0xA1, .u8, .rw, 0, .le 2⟩,
  ⟨0xA2, .u8, .rw, 0, .le 7⟩]

/-- Entries of the port record (R145, R169). -/
def rowsPt3 : List Row := [
  ⟨0xA3, .u8, .rw, 0, .le 1⟩,
  ⟨0xA4, .u8, .ro, 0, .any⟩,
  ⟨0xA5, .u8, .ro, 0, .any⟩,
  ⟨0xA6, .u8, .rw, 0, .le 7⟩,
  ⟨0xA7, .u8, .rw, 7, .le 7⟩,
  ⟨0xA8, .fsq, .rw, 0x219999999a, .any⟩,
  ⟨0xA9, .fsq, .rw, 0x199999999a, .any⟩,
  ⟨0xAA, .u16, .rw, 2, .rng 1 1000⟩,
  ⟨0xAB, .u32, .rw, 0x3e8, .rng 1 2000000⟩,
  ⟨0xAC, .u32, .rw, 0, .w1c 0xF00⟩,
  ⟨0xAD, .u32, .ro, 0, .any⟩,
  ⟨0xAE, .fsq, .ro, 0x333333333, .any⟩,
  ⟨0xAF, .fsq, .ro, 0xfccccccccd, .any⟩,
  ⟨0xB0, .u8, .ro, 0x88, .any⟩,
  ⟨0xB1, .u8, .ro, 0, .any⟩,
  ⟨0xC0, .u8, .rw, 1, .le 6⟩,
  ⟨0xC1, .u8, .rw, 1, .le 6⟩,
  ⟨0xC2, .u8, .ro, 6, .any⟩,
  ⟨0xC3, .u8, .ro, 6, .any⟩,
  ⟨0xC4, .fsq, .rw, 0x24cccccccd, .any⟩,
  ⟨0xC5, .fsq, .rw, 0xdb33333333, .any⟩,
  ⟨0xC6, .fsq, .rw, 0x24cccccccd, .any⟩,
  ⟨0xC7, .fsq, .rw, 0xdb33333333, .any⟩,
  ⟨0xC8, .u8, .rw, 0x22, .any⟩,
  ⟨0xC9, .u16, .ro, 0x8800, .any⟩,
  ⟨0xCA, .u64, .ro, 0x3d71028f3d71028f, .any⟩,
  ⟨0xCB, .u8, .rw, 0xf, .mask 0xF⟩,
  ⟨0xCC, .u32, .rw, 0x3e8, .rng 1 1000000⟩,
  ⟨0xCD, .u32, .rw, 0, .any⟩,
  ⟨0xCE, .u32, .rw, 0x3c, .w1c 0x300⟩,
  ⟨0xD0, .u32, .rw, 0x40, .mask 0x7FC⟩,
  ⟨0xD1, .u32, .rw, 0x14, .any⟩,
  ⟨0xD2, .u32, .rw, 0xc8, .any⟩,
  ⟨0xD3, .u32, .rw, 1, .any⟩,
  ⟨0xD4, .u32, .rw, 0, .le 200000000⟩,
  ⟨0xD5, .u16, .rw, 0xffff, .chan⟩,
  ⟨0xD6, .u16, .rw, 0xffff, .chan⟩,
  ⟨0xD7, .u16, .rw, 0xffff, .chan⟩,
  ⟨0xD8, .u16, .rw, 0xffff, .chan⟩,
  ⟨0xD9, .u32, .wo, 0, .mask 0xF⟩]

/-- Entries of the port record (R169, R198, R240, R336, R348). -/
def rowsPt4 : List Row := [
  ⟨0xDA, .u32, .rw, 0, .w1c 0xF000⟩,
  ⟨0xDB, .u32, .ro, 0, .any⟩,
  ⟨0xDC, .time, .ro, 0, .any⟩,
  ⟨0xDD, .u32, .ro, 0, .any⟩,
  ⟨0xDE, .u32, .ro, 0, .any⟩,
  ⟨0xE0, .u16, .ro, 0xffff, .any⟩,
  ⟨0xE1, .u16, .ro, 0, .any⟩,
  ⟨0xE2, .u64, .ro, 0, .any⟩,
  ⟨0xE3, .u32, .ro, 0, .any⟩,
  ⟨0xE4, .bool, .rw, 0, .any⟩,
  ⟨0xE5, .u8, .rw, 0, .le 6⟩,
  ⟨0xE6, .u32, .ro, 0, .any⟩,
  ⟨0xE7, .u8, .ro, 0, .any⟩,
  ⟨0xF0, .u8, .rw, 0, .le 1⟩,
  ⟨0xF1, .u8, .wo, 0, .mask 3⟩,
  ⟨0xF2, .u32, .ro, 0, .any⟩,
  ⟨0x01, .u8, .ro, 0, .any⟩,
  ⟨0x02, .u8, .ro, 0, .any⟩,
  ⟨0x03, .u8, .ro, 0, .any⟩,
  ⟨0x04, .u8, .wo, 0, .mask 3⟩,
  ⟨0x05, .u32, .rw, 0, .w1c 0x200⟩,
  ⟨0x06, .u32, .rw, 0x3e8, .le 10000000⟩,
  ⟨0x07, .u8, .const, 0, .any⟩,
  ⟨0x08, .u8, .ro, 0xff, .any⟩,
  ⟨0x09, .bool, .ro, 0, .any⟩,
  ⟨0x0A, .u32, .ro, 0, .any⟩,
  ⟨0x0B, .bool, .rw, 0, .any⟩]

def rowsPt : List Row := rowsPt0 ++ rowsPt1 ++ rowsPt2 ++ rowsPt3 ++ rowsPt4

/-- Entries of the slice record (R286, R317, R334). -/
def rowsSl0 : List Row := [
  ⟨0x30, .real, .ro, 0, .any⟩,
  ⟨0x31, .real, .ro, 0, .any⟩,
  ⟨0x32, .real, .ro, 0, .any⟩,
  ⟨0x33, .real, .ro, 0, .any⟩,
  ⟨0x34, .real, .ro, 0, .any⟩,
  ⟨0x35, .u32, .rw, 0, .w1c 0x3F⟩,
  ⟨0x40, .u32, .ro, 0, .any⟩,
  ⟨0x41, .time, .ro, 0, .any⟩,
  ⟨0x42, .real, .ro, 0, .any⟩,
  ⟨0x43, .u8, .ro, 0xff, .any⟩,
  ⟨0x44, .u8, .ro, 0, .any⟩,
  ⟨0x45, .u64, .ro, 0, .any⟩,
  ⟨0x46, .u64, .ro, 0, .any⟩,
  ⟨0x47, .oct, .ro, 0, .any⟩,
  ⟨0x48, .real, .ro, 0x414ccccd, .any⟩,
  ⟨0x49, .real, .ro, 0x41cccccd, .any⟩,
  ⟨0x4A, .real, .ro, 0x414ccccd, .any⟩,
  ⟨0x4B, .real, .ro, 0x41cccccd, .any⟩,
  ⟨0x4C, .domain, .ro, 0, .any⟩,
  ⟨0x4D, .u32, .ro, 0, .any⟩,
  ⟨0x50, .u8, .ro, 0, .any⟩,
  ⟨0x51, .u32, .ro, 0, .any⟩,
  ⟨0x52, .real, .ro, 0, .any⟩,
  ⟨0x53, .u32, .ro, 0, .any⟩,
  ⟨0x54, .real, .ro, 0, .any⟩,
  ⟨0x55, .real, .ro, 0, .any⟩,
  ⟨0x56, .real, .ro, 0, .any⟩,
  ⟨0x57, .real, .ro, 0, .any⟩,
  ⟨0x58, .real, .ro, 0, .any⟩,
  ⟨0x59, .real, .ro, 0, .any⟩,
  ⟨0x5A, .real, .ro, 0, .any⟩,
  ⟨0x5B, .real, .ro, 0, .any⟩,
  ⟨0x5C, .real, .ro, 0x3f800000, .any⟩,
  ⟨0x5D, .u32, .ro, 1, .any⟩,
  ⟨0x5E, .real, .ro, 0x3f800000, .any⟩,
  ⟨0x5F, .u32, .ro, 0, .any⟩,
  ⟨0x60, .time, .ro, 0, .any⟩,
  ⟨0x61, .u8, .wo, 0, .oneOf [1]⟩,
  ⟨0x62, .real, .ro, 0, .any⟩,
  ⟨0x63, .real, .ro, 0, .any⟩]

/-- Entries of the slice record (R334, R349). -/
def rowsSl1 : List Row := [
  ⟨0x64, .real, .ro, 0, .any⟩,
  ⟨0x65, .real, .ro, 0, .any⟩,
  ⟨0x66, .real, .ro, 0, .any⟩,
  ⟨0x01, .u8, .ro, 0, .any⟩,
  ⟨0x02, .u8, .ro, 0, .any⟩,
  ⟨0x03, .u8, .const, 0, .any⟩,
  ⟨0x04, .u8, .const, 0, .any⟩,
  ⟨0x10, .u8, .ro, 0, .any⟩,
  ⟨0x11, .u8, .ro, 0xff, .any⟩]

def rowsSl : List Row := rowsSl0 ++ rowsSl1

/-- Entries of the event channel record (R236). -/
def rowsCh : List Row := [
  ⟨0x01, .u8, .ro, 0, .any⟩,
  ⟨0x02, .u8, .ro, 0, .any⟩,
  ⟨0x03, .u32, .rwc, 0, .any⟩,
  ⟨0x04, .u8, .rwc, 8, .rng 1 15⟩,
  ⟨0x05, .bool, .rw, 0, .any⟩,
  ⟨0x06, .u8, .wo, 0, .oneOf [1]⟩,
  ⟨0x07, .u32, .rw, 0, .w1c 0xF8⟩,
  ⟨0x08, .u32, .ro, 0, .any⟩,
  ⟨0x09, .u64, .ro, 0, .any⟩,
  ⟨0x0A, .time, .ro, 0, .any⟩,
  ⟨0x0B, .u8, .ro, 0, .any⟩,
  ⟨0x0C, .u8, .ro, 0, .any⟩,
  ⟨0x0D, .u32, .ro, 0, .any⟩,
  ⟨0x0E, .u32, .ro, 0, .any⟩,
  ⟨0x0F, .u32, .ro, 0, .any⟩,
  ⟨0x10, .u32, .ro, 0, .any⟩,
  ⟨0x11, .u32, .ro, 0, .any⟩,
  ⟨0x12, .u32, .ro, 0, .any⟩,
  ⟨0x13, .u32, .ro, 0, .any⟩,
  ⟨0x14, .u32, .ro, 0, .any⟩,
  ⟨0x15, .u32, .ro, 0, .any⟩,
  ⟨0x16, .bool, .rw, 0, .any⟩]

/-- Entries of the context record (R176, R350). -/
def rowsCx : List Row := [
  ⟨0x01, .u32, .rwc, 0x100, .any⟩,
  ⟨0x02, .u8, .rw, 0, .any⟩,
  ⟨0x03, .u32, .rwc, 0x380, .any⟩,
  ⟨0x04, .fsq, .rw, 0, .any⟩,
  ⟨0x05, .fsq, .rw, 0, .any⟩,
  ⟨0x06, .fsq, .rw, 0x333333333, .any⟩,
  ⟨0x07, .fsq, .rw, 0xfccccccccd, .any⟩,
  ⟨0x08, .fsq, .rwc, 0, .srng 0 (2^39-1)⟩,
  ⟨0x09, .u32, .rwc, 0x40000001, .intSpec⟩,
  ⟨0x0A, .u32, .rwc, 0x7ff0000, .any⟩,
  ⟨0x0B, .u32, .rwc, 1, .any⟩,
  ⟨0x0C, .u32, .rw, 0, .any⟩,
  ⟨0x0D, .u64, .rwc, 0, .any⟩,
  ⟨0x0E, .u32, .rwc, 0, .le 10000000⟩,
  ⟨0x0F, .u32, .rwc, 0xc01000a, .any⟩,
  ⟨0x10, .fsq, .rwc, 0x83126e9, .srng 1 (2^39-1)⟩,
  ⟨0x11, .u32, .rwc, 0, .le 100000000⟩,
  ⟨0x12, .u16, .rwc, 0xffff, .chan⟩,
  ⟨0x13, .u8, .rw, 0, .le 4⟩,
  ⟨0x14, .real, .rw, 0x3f800000, .any⟩,
  ⟨0x15, .real, .rw, 0, .any⟩,
  ⟨0x16, .real, .ro, 0, .any⟩,
  ⟨0x17, .real, .ro, 0, .any⟩,
  ⟨0x18, .u32, .ro, 0, .any⟩,
  ⟨0x19, .u32, .ro, 0, .any⟩,
  ⟨0x1A, .u64, .ro, 0, .any⟩,
  ⟨0x1B, .u32, .rw, 0, .any⟩,
  ⟨0x1C, .u32, .ro, 0, .any⟩,
  ⟨0x1D, .u64, .ro, 0, .any⟩,
  ⟨0x1E, .u32, .rw, 0, .w1c 0x1FE⟩,
  ⟨0x1F, .u16, .rwc, 0xffff, .ctxOrNone⟩,
  ⟨0x20, .i40, .rw, 0, .any⟩,
  ⟨0x21, .u8, .ro, 0, .any⟩,
  ⟨0x22, .u8, .ro, 0, .any⟩]

/-- Entries of the sweep-list header record (R182, R350). -/
def rowsLs : List Row := [
  ⟨0x01, .u8, .rwc, 0, .le 2⟩,
  ⟨0x02, .u16, .rwc, 0, .any⟩,
  ⟨0x03, .u32, .rwc, 0, .rng 1 65536⟩,
  ⟨0x04, .u8, .rwc, 1, .rng 1 2⟩,
  ⟨0x05, .fsq, .rwc, 0, .any⟩,
  ⟨0x06, .fsq, .rwc, 0, .any⟩,
  ⟨0x07, .u8, .wo, 0, .any⟩,
  ⟨0x08, .u8, .ro, 0, .any⟩,
  ⟨0x09, .u32, .ro, 0, .any⟩,
  ⟨0x0A, .u16, .ro, 0, .any⟩,
  ⟨0x0B, .domain, .rw, 0, .any⟩,
  ⟨0x0C, .u8, .ro, 0, .any⟩,
  ⟨0x0D, .u8, .ro, 0, .any⟩]

/-- Entries of the recorder record (R413). -/
def rowsRc : List Row := [
  ⟨0x01, .bool, .rw, 0, .any⟩,
  ⟨0x02, .u8, .rw, 0, .le 2⟩,
  ⟨0x03, .u64, .rw, 0, .any⟩,
  ⟨0x04, .u64, .rw, 0, .any⟩,
  ⟨0x05, .u32, .rw, 0x3e8, .rng 10 60000⟩,
  ⟨0x06, .u32, .rw, 0xe10, .rng 60 86400⟩,
  ⟨0x07, .u32, .rw, 0x3e8, .rng 1 10000⟩,
  ⟨0x08, .bool, .rw, 0, .any⟩,
  ⟨0x09, .u8, .rw, 0, .le 1⟩,
  ⟨0x0A, .u8, .rw, 0, .le 1⟩,
  ⟨0x0B, .u32, .rw, 1, .any⟩,
  ⟨0x0C, .u32, .rw, 0, .any⟩,
  ⟨0x0D, .u8, .rw, 0, .le 1⟩,
  ⟨0x0E, .u8, .wo, 0, .oneOf [1]⟩,
  ⟨0x0F, .u64, .ro, 0, .any⟩,
  ⟨0x10, .u64, .ro, 0, .any⟩,
  ⟨0x11, .u64, .ro, 0, .any⟩,
  ⟨0x12, .u64, .rw, 0, .any⟩,
  ⟨0x13, .u64, .rw, 0, .any⟩,
  ⟨0x14, .u16, .rw, 1, .rng 1 4096⟩,
  ⟨0x15, .domain, .ro, 0, .any⟩,
  ⟨0x16, .u32, .rw, 0, .w1c 0x7C⟩,
  ⟨0x17, .u32, .ro, 0, .any⟩,
  ⟨0x18, .real, .ro, 0, .any⟩]

/-- Entries of the replay record (R415). -/
def rowsRp : List Row := [
  ⟨0x01, .u64, .rwc, 0, .any⟩,
  ⟨0x02, .u64, .rwc, 0, .any⟩,
  ⟨0x03, .u32, .rwc, 0, .any⟩,
  ⟨0x04, .u64, .rwc, 0, .any⟩,
  ⟨0x05, .u64, .rwc, 0, .any⟩,
  ⟨0x06, .u8, .wo, 0, .rng 1 2⟩,
  ⟨0x07, .u8, .ro, 0, .any⟩,
  ⟨0x08, .u8, .ro, 0xff, .any⟩,
  ⟨0x09, .u64, .ro, 0, .any⟩,
  ⟨0x0A, .domain, .ro, 0, .any⟩]

/-- Entries of the ageing globals record (R337). -/
def rowsAg : List Row := [
  ⟨0x01, .u32, .ro, 0xffff01ff, .any⟩,
  ⟨0x02, .domain, .ro, 0, .any⟩,
  ⟨0x03, .u32, .ro, 0x43210, .any⟩,
  ⟨0x04, .real, .ro, 0, .any⟩,
  ⟨0x05, .u32, .rw, 0xe10, .rng 60 86400⟩,
  ⟨0x06, .u32, .rw, 0, .w1c 7⟩]

/-- The rows of a record kind. -/
def rowsOf : Rec → List Row
  | .id => rowsId
  | .pe => rowsPe
  | .dm => rowsDm
  | .fn => rowsFn
  | .ne => rowsNe
  | .br => rowsBr
  | .cn => rowsCn
  | .ss => rowsSs
  | .lg => rowsLg
  | .dv => rowsDv
  | .pw => rowsPw
  | .fw => rowsFw
  | .rl => rowsRl
  | .tb => rowsTb
  | .ev => rowsEv
  | .ec => rowsEc
  | .dl => rowsDl
  | .tm => rowsTm
  | .fb => rowsFb
  | .rg => rowsRg
  | .rn => rowsRn
  | .sq => rowsSq
  | .mc => rowsMc
  | .ca => rowsCa
  | .se => rowsSe
  | .ky => rowsKy
  | .gr => rowsGr
  | .pt => rowsPt
  | .sl => rowsSl
  | .ch => rowsCh
  | .cx => rowsCx
  | .ls => rowsLs
  | .rc => rowsRc
  | .rp => rowsRp
  | .ag => rowsAg

/-- The record that an index names and its instance number (R340); none: NO_INDEX. -/
def recOf (i : Nat) : Option (Rec × Nat) :=
  if i = 0x1000 then some (.id, 0)
  else if i = 0x1100 then some (.pe, 0)
  else if 0x1110 ≤ i ∧ i < 0x1130 then some (.dm, i - 0x1110)
  else if 0x1140 ≤ i ∧ i < 0x1151 then some (.fn, i - 0x1140)
  else if i = 0x1200 then some (.ne, 0)
  else if i = 0x1201 then some (.br, 0)
  else if i = 0x1210 then some (.cn, 0)
  else if 0x1220 ≤ i ∧ i < 0x1224 then some (.ss, i - 0x1220)
  else if i = 0x1300 then some (.lg, 0)
  else if i = 0x2000 then some (.dv, 0)
  else if i = 0x2001 then some (.pw, 0)
  else if i = 0x2002 then some (.fw, 0)
  else if 0x2010 ≤ i ∧ i < 0x2020 then some (.rl, i - 0x2010)
  else if i = 0x2100 then some (.tb, 0)
  else if i = 0x2200 then some (.ev, 0)
  else if 0x2240 ≤ i ∧ i < 0x2280 then some (.ec, i - 0x2240)
  else if 0x2280 ≤ i ∧ i < 0x2290 then some (.dl, i - 0x2280)
  else if 0x2290 ≤ i ∧ i < 0x22A0 then some (.tm, i - 0x2290)
  else if i = 0x2300 then some (.fb, 0)
  else if 0x2340 ≤ i ∧ i < 0x2380 then some (.rg, i - 0x2340)
  else if 0x2380 ≤ i ∧ i < 0x23A0 then some (.rn, i - 0x2380)
  else if i = 0x2400 then some (.sq, 0)
  else if i = 0x2500 then some (.mc, 0)
  else if i = 0x2600 then some (.ca, 0)
  else if i = 0x2700 then some (.se, 0)
  else if 0x2710 ≤ i ∧ i < 0x2714 then some (.ky, i - 0x2710)
  else if 0x3000 ≤ i ∧ i < 0x3010 then some (.gr, i - 0x3000)
  else if 0x4000 ≤ i ∧ i < 0x4080 then some (.pt, i - 0x4000)
  else if 0x4100 ≤ i ∧ i < 0x4190 then some (.sl, i - 0x4100)
  else if 0x5000 ≤ i ∧ i < 0x5400 then some (.ch, i - 0x5000)
  else if 0x6000 ≤ i ∧ i < 0x7000 then some (.cx, i - 0x6000)
  else if 0x7000 ≤ i ∧ i < 0x7400 then some (.ls, i - 0x7000)
  else if i = 0x8000 then some (.rc, 0)
  else if i = 0x8001 then some (.rp, 0)
  else if i = 0x9000 then some (.ag, 0)
  else none

/-- The row of a key, if the entry exists (R339). -/
def odRow (key : Nat) : Option Row :=
  match recOf (key / 256) with
  | none => none
  | some (r, _) => (rowsOf r).find? (fun w => w.sub == key % 256)

/-- The reset value of an entry (R351, R363 of the entry tables): the row's number, or the few entries whose default
depends on the instance (HOME_SLICE, SLICE_GROUP, SLICE_LOCAL, SLICE_ROLE). -/
def odDefault (key : Nat) : Nat :=
  match recOf (key / 256) with
  | none => 0
  | some (r, n) =>
    if r = .pt ∧ key % 256 = 0x07 then 9 * (n / 8) + n % 8
    else if r = .sl ∧ key % 256 = 0x03 then n / 9
    else if r = .sl ∧ key % 256 = 0x04 then n % 9
    else if r = .sl ∧ key % 256 = 0x10 then (if n % 9 = 8 then 2 else 3)
    else match (rowsOf r).find? (fun w => w.sub == key % 256) with
      | some w => w.dflt
      | none => 0

/-! ### Bit numbers of the status and control words (low bit of a field) -/
abbrev ForceStatus.RELEASE_DROP : Nat := 12
abbrev ForceStatus.MISMATCH : Nat := 11
abbrev ForceStatus.FCLIP : Nat := 10
abbrev ForceStatus.SKIP : Nat := 9
abbrev ForceStatus.TH : Nat := 8
abbrev ForceStatus.SPAN_STEP : Nat := 6
abbrev ForceStatus.SPAN_PENDING : Nat := 5
abbrev ForceStatus.CLR_PIN : Nat := 4
abbrev ForceStatus.FLT_CLR : Nat := 3
abbrev ForceStatus.CLEARED : Nat := 2
abbrev ForceStatus.RAMP : Nat := 1
abbrev ForceStatus.OE : Nat := 0
abbrev ForceCtrl.READBACK_NOW : Nat := 1
abbrev ForceCtrl.CLEAR_RELEASE : Nat := 0
abbrev MeasStatus.GAP : Nat := 7
abbrev MeasStatus.NBR : Nat := 6
abbrev MeasStatus.OVR_I : Nat := 5
abbrev MeasStatus.OVR_V : Nat := 4
abbrev MeasStatus.OVR_I_NOW : Nat := 3
abbrev MeasStatus.OVR_V_NOW : Nat := 2
abbrev MeasStatus.FAST_RUN : Nat := 1
abbrev MeasStatus.PREC_RUN : Nat := 0
abbrev LoopStatus.LINK_BAD : Nat := 14
abbrev LoopStatus.LM_LIMIT : Nat := 13
abbrev LoopStatus.WSAT : Nat := 12
abbrev LoopStatus.LOVR : Nat := 11
abbrev LoopStatus.COMPL_SEEN : Nat := 10
abbrev LoopStatus.SEL : Nat := 8
abbrev LoopStatus.BANK : Nat := 7
abbrev LoopStatus.LM_HOLD : Nat := 6
abbrev LoopStatus.TRIP_HOLD : Nat := 5
abbrev LoopStatus.HOLD : Nat := 4
abbrev LoopStatus.PROV : Nat := 3
abbrev LoopStatus.FLOOR : Nat := 2
abbrev LoopStatus.SLEWING : Nat := 1
abbrev LoopStatus.CLOSED : Nat := 0
abbrev RngStatus.RNG_LIMIT : Nat := 11
abbrev RngStatus.LIM_CLAMP : Nat := 10
abbrev RngStatus.TGT_CLAMP : Nat := 9
abbrev RngStatus.WIN_CLAMP : Nat := 8
abbrev RngStatus.RNG_PENDING : Nat := 7
abbrev RngStatus.GUARD : Nat := 6
abbrev RngStatus.PHASE : Nat := 4
abbrev RngStatus.QTY : Nat := 3
abbrev RngStatus.DIR : Nat := 2
abbrev RngStatus.RNG_CHAIN : Nat := 1
abbrev RngStatus.RNG_BUSY : Nat := 0
abbrev CmpStatus.MODE_PENDING_I : Nat := 13
abbrev CmpStatus.MODE_PENDING_V : Nat := 12
abbrev CmpStatus.HYS_OFF_I : Nat := 11
abbrev CmpStatus.HYS_OFF_V : Nat := 10
abbrev CmpStatus.EXIT_I : Nat := 9
abbrev CmpStatus.EXIT_V : Nat := 8
abbrev CmpStatus.STARTING_I : Nat := 7
abbrev CmpStatus.STARTING_V : Nat := 6
abbrev CmpStatus.STATE_I : Nat := 4
abbrev CmpStatus.STATE_V : Nat := 2
abbrev PgenCfg.ARM_WAIT : Nat := 10
abbrev PgenCfg.GATE_DELAY : Nat := 6
abbrev PgenCfg.START_SRC : Nat := 4
abbrev PgenCfg.GATE_MODE : Nat := 3
abbrev PgenCfg.STOP_MODE : Nat := 2
abbrev PgenStatus.OVERRUN : Nat := 15
abbrev PgenStatus.REARM_REFUSED : Nat := 14
abbrev PgenStatus.TRIP_SEEN : Nat := 13
abbrev PgenStatus.START_REFUSED : Nat := 12
abbrev PgenStatus.TRIP_IN_PULSE : Nat := 7
abbrev PgenStatus.BLIND : Nat := 6
abbrev PgenStatus.LEVEL : Nat := 5
abbrev PgenStatus.GATE : Nat := 4
abbrev PgenStatus.STOPPING : Nat := 3
abbrev PgenStatus.DELAY : Nat := 2
abbrev PgenStatus.RUN : Nat := 1
abbrev PgenStatus.TRIPPED : Nat := 0
abbrev TripCause.LATER : Nat := 16
abbrev TripCause.FIRST : Nat := 0
abbrev Bind.PRIORITY : Nat := 11
abbrev Bind.AUTOSTART : Nat := 10
abbrev Bind.COMPL_END : Nat := 9
abbrev Bind.SWITCH_MODE : Nat := 8
abbrev Bind.PORT : Nat := 0
abbrev Mode.FORCE_MODE : Nat := 21
abbrev Mode.IRNG_POLICY : Nat := 19
abbrev Mode.VRNG_POLICY : Nat := 17
abbrev Mode.IRNG_SEL : Nat := 14
abbrev Mode.VRNG_SEL : Nat := 13
abbrev Mode.IRNG_MIN : Nat := 10
abbrev Mode.IRNG_MAX : Nat := 7
abbrev Sweep.LIST : Nat := 16
abbrev Sweep.START_PT : Nat := 0
abbrev ScanRoute.ROUTE_EN : Nat := 35
abbrev ScanRoute.SEL : Nat := 33
abbrev ScanRoute.ROUTE : Nat := 0
abbrev SettleCfg.SETTLE_MODE : Nat := 26
abbrev SettleCfg.SETTLE_QTY : Nat := 25
abbrev SettleCfg.ARM_EN : Nat := 24
abbrev SettleCfg.ARM_MODE : Nat := 23
abbrev SettleCfg.MEAS_COUNT : Nat := 16
abbrev SettleCfg.SETTLE_N : Nat := 0
abbrev PointNow.PHASE : Nat := 16
abbrev PointNow.POINT : Nat := 0
abbrev WaitCause.HOLD : Nat := 10
abbrev WaitCause.TRIP : Nat := 9
abbrev WaitCause.PULSE : Nat := 8
abbrev WaitCause.MEASURE : Nat := 7
abbrev WaitCause.ARM : Nat := 6
abbrev WaitCause.SETTLE : Nat := 5
abbrev WaitCause.RANGE : Nat := 4
abbrev WaitCause.SCAN : Nat := 3
abbrev WaitCause.SWITCH : Nat := 2
abbrev WaitCause.PORT : Nat := 1
abbrev WaitCause.QUEUE : Nat := 0
abbrev SeqStatus.PULSE_SKIP : Nat := 8
abbrev SeqStatus.SCAN_ERR : Nat := 7
abbrev SeqStatus.ARM_EARLY : Nat := 6
abbrev SeqStatus.STALL_SEEN : Nat := 5
abbrev SeqStatus.COMPL_ENDED : Nat := 4
abbrev SeqStatus.REDO : Nat := 3
abbrev SeqStatus.RESTARTED : Nat := 2
abbrev SeqStatus.NEXT_REFUSED : Nat := 1
abbrev TbStatus.TAI_VALID : Nat := 10
abbrev TbStatus.STEPPED : Nat := 9
abbrev TbStatus.SLIP : Nat := 8
abbrev TbStatus.PLL_SWITCHED : Nat := 7
abbrev TbStatus.PPS_REJ : Nat := 6
abbrev TbStatus.REF_LOST : Nat := 5
abbrev TbStatus.HOLDOVER : Nat := 4
abbrev TbStatus.SYNC_LOCK : Nat := 3
abbrev TbStatus.PTP_LOCK : Nat := 2
abbrev TbStatus.PPS_LOCK : Nat := 1
abbrev TbStatus.PLL_LOCK : Nat := 0
abbrev ChStatus.ENABLE_REFUSED : Nat := 7
abbrev ChStatus.TARGET_OVR : Nat := 6
abbrev ChStatus.MERGED : Nat := 5
abbrev ChStatus.LOOP : Nat := 4
abbrev ChStatus.FIRED : Nat := 3
abbrev ChStatus.GONG : Nat := 2
abbrev ChStatus.ACTIVE : Nat := 0
abbrev FabStatus.WIN_ERR : Nat := 9
abbrev FabStatus.NO_SPARE : Nat := 8
abbrev FabStatus.BANK_SUBST : Nat := 7
abbrev FabStatus.SAPPHIRE_VIOL : Nat := 6
abbrev FabStatus.UE : Nat := 5
abbrev FabStatus.CE : Nat := 4
abbrev FabStatus.WCOLL : Nat := 3
abbrev FabStatus.BORROW : Nat := 2
abbrev FabStatus.WIPING : Nat := 1
abbrev FabStatus.CLEARING : Nat := 0
abbrev RingStatus.LAPPED : Nat := 3
abbrev RingStatus.OVF : Nat := 2
abbrev RingStatus.FULL : Nat := 1
abbrev RingStatus.ACTIVE : Nat := 0
abbrev McStatus.REF_DISAGREE : Nat := 10
abbrev McStatus.TEMP_WARN : Nat := 9
abbrev McStatus.SUP_FLT : Nat := 8
abbrev McStatus.MC_SWITCHED : Nat := 7
abbrev McStatus.STALLED : Nat := 6
abbrev McStatus.LATE_SEEN : Nat := 5
abbrev McStatus.CHECK_FAIL : Nat := 4
abbrev McStatus.MC_FAIL : Nat := 3
abbrev McStatus.URG_FULL : Nat := 2
abbrev McStatus.PAUSE : Nat := 1
abbrev McStatus.SUPV_ON : Nat := 0
abbrev SupvStatus.GND_M_FAULT : Nat := 7
abbrev SupvStatus.GND_F_FAULT : Nat := 6
abbrev SupvStatus.FREF_M : Nat := 5
abbrev SupvStatus.FREF_F : Nat := 4
abbrev SupvStatus.TH_I_HI : Nat := 3
abbrev SupvStatus.TH_I_LO : Nat := 2
abbrev SupvStatus.TH_V_HI : Nat := 1
abbrev SupvStatus.TH_V_LO : Nat := 0
abbrev RotStatus.VERIFY_FAIL : Nat := 7
abbrev RotStatus.PREEMPT : Nat := 6
abbrev RotStatus.AGREE_FAIL : Nat := 5
abbrev RotStatus.SKIPPED : Nat := 4
abbrev RotStatus.GAP_HOLD : Nat := 3
abbrev RotStatus.ROT_WAIT : Nat := 2
abbrev RotStatus.ROT_PENDING : Nat := 1
abbrev RotStatus.ROT_BUSY : Nat := 0
abbrev WornCause.REQUEST : Nat := 5
abbrev WornCause.DRIFT_REPEAT : Nat := 4
abbrev WornCause.FREF : Nat := 3
abbrev WornCause.RANGE : Nat := 2
abbrev WornCause.TRIM_END : Nat := 1
abbrev WornCause.ENVELOPE : Nat := 0
abbrev AgeStatus.DEGRADED : Nat := 7
abbrev AgeStatus.REF_UNRESOLVED : Nat := 6
abbrev AgeStatus.REF_SINGLE : Nat := 5
abbrev AgeStatus.LIFE_WARN : Nat := 4
abbrev AgeStatus.RESERVE_LOW : Nat := 3
abbrev AgeStatus.SUBSTITUTED : Nat := 2
abbrev AgeStatus.MARGINED : Nat := 1
abbrev AgeStatus.SLICE_WORN : Nat := 0
abbrev OdStatus.HELD_SEEN : Nat := 3
abbrev OdStatus.ABORT_SEEN : Nat := 2
abbrev OdStatus.SAVE_FAIL : Nat := 1
abbrev OdStatus.SAVE_PENDING : Nat := 0
abbrev GroupCtrl.UNGATE : Nat := 3
abbrev GroupCtrl.GATE : Nat := 2
abbrev GroupCtrl.RELEASE : Nat := 1
abbrev GroupCtrl.QUIESCE : Nat := 0
abbrev GroupStatus.GAP_SEEN : Nat := 3
abbrev GroupStatus.COMMIT_FAIL : Nat := 2
abbrev GroupStatus.UNGATE_PENDING : Nat := 1
abbrev GroupStatus.RELEASE_PENDING : Nat := 0
abbrev PortStatus.REFUSED : Nat := 9
abbrev PortStatus.FLT : Nat := 8
abbrev PortStatus.GND : Nat := 7
abbrev PortStatus.TRIPPED : Nat := 6
abbrev PortStatus.CLEAR : Nat := 5
abbrev PortStatus.WORN : Nat := 4
abbrev PortStatus.PROVISIONAL : Nat := 3
abbrev PortStatus.ENABLE_PENDING : Nat := 2
abbrev JStatus.SCAN : Nat := 8
abbrev JStatus.FULL_STOP : Nat := 7
abbrev JStatus.FAULT : Nat := 6
abbrev JStatus.LAPPED : Nat := 5
abbrev JStatus.STAGE_FULL : Nat := 4
abbrev JStatus.SHED : Nat := 3
abbrev JStatus.GAP : Nat := 2
abbrev JStatus.NO_STORE : Nat := 1
abbrev JStatus.RUN : Nat := 0
abbrev PwrStatus.RAIL_FLT : Nat := 7
abbrev PwrStatus.PFW_SEEN : Nat := 6
abbrev PwrStatus.PFW : Nat := 5
abbrev PwrStatus.WAKE_PENDING : Nat := 4
abbrev PwrStatus.PMB_NAK : Nat := 3
abbrev PwrStatus.ANALOG_FLT : Nat := 2
abbrev PwrStatus.PROVISIONAL : Nat := 1
abbrev PwrStatus.FULL : Nat := 0
abbrev FwStatus.FALLBACK : Nat := 4
abbrev FwStatus.REJECTED : Nat := 3
abbrev FwStatus.STORE_FAIL : Nat := 2
abbrev FwStatus.MIXED : Nat := 1
abbrev FwStatus.RECOVERY : Nat := 0
abbrev SecStatus.LC_PENDING : Nat := 5
abbrev SecStatus.SVN_REJECT : Nat := 4
abbrev SecStatus.ROOT_1 : Nat := 3
abbrev SecStatus.CLAIMED : Nat := 2
abbrev SecStatus.OWNER_CHANGED : Nat := 1
abbrev SecStatus.RNG_FAIL : Nat := 0

end Sys2Proof.Machine
end

