-- ==== Sys2Proof/Machine/Table.lean ====
section
/-!
DEFINITION. Sparse tables: a list of (key, value) pairs in one canonical form, keys strictly rising and no entry equal
to what an unlisted key reads as. Every table of the state is held so, so that equal tables are equal data.
-/

namespace Sys2Proof.Machine

/-- A sparse table. What an unlisted key reads as is the argument `d` of the operations below. -/
abbrev Tab (α : Type) := List (Nat × α)

/-- The value listed at a key. -/
def Tab.find? {α : Type} : Tab α → Nat → Option α
  | [], _ => none
  | (k, v) :: t, key => if k = key then some v else Tab.find? t key

/-- Read a key; an unlisted key reads as `d key`. -/
def Tab.get {α : Type} (d : Nat → α) (t : Tab α) (key : Nat) : α :=
  (t.find? key).getD (d key)

/-- Remove every entry of a key. -/
def Tab.erase {α : Type} : Tab α → Nat → Tab α
  | [], _ => []
  | (k, v) :: t, key => if k = key then Tab.erase t key else (k, v) :: Tab.erase t key

/-- Place an entry before the first larger key. -/
def Tab.insert {α : Type} : Tab α → Nat → α → Tab α
  | [], key, v => [(key, v)]
  | (k, w) :: t, key, v => if key < k then (key, v) :: (k, w) :: t else (k, w) :: Tab.insert t key v

/-- Write a key, keeping the canonical form: writing what an unlisted key reads as removes the entry. -/
def Tab.set {α : Type} [DecidableEq α] (d : Nat → α) (t : Tab α) (key : Nat) (v : α) : Tab α :=
  if v = d key then t.erase key else (t.erase key).insert key v

/-- Keys strictly rising. -/
def Tab.sorted {α : Type} : Tab α → Bool
  | [] => true
  | [_] => true
  | (k, _) :: (k', v') :: t => decide (k < k') && Tab.sorted ((k', v') :: t)

/-- The canonical form. -/
def Tab.wf {α : Type} [DecidableEq α] (d : Nat → α) (t : Tab α) : Bool :=
  Tab.sorted t && t.all (fun e => e.2 ≠ d e.1)

end Sys2Proof.Machine
end

