-- ==== Sys2Proof/Machine/State.lean ====
section
/-!
DEFINITION. The state of the SF2128 as plain data: the object dictionary as one register file, the scratchpad, the
pipelines and engines of every chapter, the non-volatile stores, the outputs of the last command, and the queue of
waiting commands. Also the reasons a step can stop and the state after reset.
-/

namespace Sys2Proof.Machine

/-- Reasons of a fault. No meaning of this model answers a fault: every command of the table has an effect the spec gives
(NOTES.md, Stops). The one constructor keeps the type inhabited; nothing raises it, so it is neither safe nor unsafe. -/
inductive Fault where
  | unreachable
deriving DecidableEq, Repr

/-- Reasons of a refusal. `notModelled` is raised only by an arm of Dispatch.lean whose command has no meaning yet
(safe: the run stops). -/
inductive Refusal where
  | notModelled (mnemonic : String)
deriving DecidableEq, Repr

/-! ### Outputs -/

/-- What a command makes visible outside the die (pins, bus messages, memory writes into the host, the drives). The list
in `State.tx` holds the outputs of the last command only, oldest first. -/
inductive Tx where
  | pgGate (port : Nat) (level : Bool)            -- R46
  | rng (port : Nat) (pattern : Nat)              -- R47, R130
  | trigPin (pin : Nat) (level : Option Bool)     -- R228; none: high impedance
  | pin (name : String) (level : Bool)            -- PPS_OUT, PSU_EN and other device pins
  | scanFrame (sel : Nat) (word : Nat) (bits : Nat)  -- R194
  | syncFrame (words : List Nat)                  -- R213
  | ptpDelayReq (port via : Nat)                  -- R212; via: PTP_TRANSPORT
  | ethSend (port : Nat) (frame : EthFrame)       -- R357, R358
  | copSend (peer : Peer) (msg : List Byte)       -- a COP message over UDP (R361)
  | canSend (id : Nat) (data : List Byte)         -- a CAN FD frame (R360)
  | legSend (frame : List Byte)                   -- R371
  | cpl (fn : Nat) (data : List Byte)             -- completion of a PCIe read or atomic
  | cplUR (fn : Nat)                              -- Unsupported Request (R375)
  | cplPoison (fn : Nat) (data : List Byte)       -- completion with EP set
  | hostWrite (fn : Nat) (addr : Nat) (data : List Byte) (poison : Bool)  -- memory write into the host
  | hostRead (fn : Nat) (addr : Nat) (len : Nat)  -- memory read from the host
  | msix (fn : Nat) (vector : Nat)                -- R392
  | pmbus (addr : Nat) (page : Nat) (code : Nat) (data : Nat)  -- R438
  | nvme (code : Nat) (chunk : Nat)               -- R406
  | flash (slot : Nat) (seq : Nat)                -- R310, R425
  | fabData (master : Nat) (addr : Nat) (data : W40) (poison : Bool)  -- result of a fabric access (R248-R251)
  | busError (core : Nat)                         -- a core has received a poisoned word (R251)
deriving DecidableEq, Repr

/-- The answer of the last access to the object dictionary: the abort code of R354 (0: OK) and the value read. -/
structure Resp where
  who : Nat
  key : Nat
  abort : Nat
  data : List Byte
deriving DecidableEq, Repr

/-! ### A port: force path (R51-R75) -/

/-- What a ramp serves (R58). -/
inductive RampKind where
  | enable | disable | spanDown | spanUp | release
deriving DecidableEq, Repr

/-- A running ramp of R58: it keeps its rate and its target. -/
structure Ramp where
  kind : RampKind
  fromCode : Nat
  toCode : Nat
  start : Tick
  finish : Tick
deriving DecidableEq, Repr

/-- One code in force: a 24-bit code (a core code is 16 times itself) and its span, from tick `at`. -/
structure CodeAt where
  since : Tick
  code : Nat
  span : Nat
deriving DecidableEq, Repr

/-- The code registers, shaper, clear and read-back supervision of a port. -/
structure ForceX where
  pend0 : Nat := 0x800000          -- pending code of the base level (R55, R117)
  pend1 : Nat := 0x800000          -- pending code of the pulse level
  pendNew : Bool := false          -- a value waits for a strike
  incoming : Option (Tick × Nat × Nat) := none  -- loop write not yet two ticks old (R56)
  appliedBank : Nat := 0           -- bank whose value the active register holds (R115)
  acc : Nat := 0                   -- shaper accumulator (R53)
  core : Nat := 0x80000            -- 20-bit core code of the last CLK_FAST edge that `acc` has taken (R53)
  accTick : Tick := 0              -- CLK_FAST edge at which `acc` was last brought up to date
  clearCore : Option Nat := none   -- core code forced by a clear
  ramp : Option Ramp := none
  codes : List CodeAt := []        -- codes in force over the last 4 us (R69)
  spanTo : Nat := 1                -- span being entered by a running change
  safeUsed : Nat := 0              -- SAFE_VALUE in force when the span change started (R59)
  holdEnd : Tick := 0              -- end of the track-and-hold (R60 step 2)
  spanDue : Bool := false          -- a span change waits for the next tick boundary
  everEnabled : Bool := false      -- enabled since reset (R35)
  safeAtRelease : Bool := false    -- OFF port that goes to SAFE_VALUE when the last clear cause ends (R67)
  blankUntil : Tick := 0           -- no read-back before this tick (R69)
  rbDeferred : Bool := false       -- a read-back fell due while blanked
  rbUrgent : Bool := false         -- a READBACK_NOW, or the repeat of a reading, waits for the end of the blanking (R69, R75)
  rbDue : Tick := 0                -- next expiry of READBACK_INTERVAL
  lastRamp : Option Ramp := none   -- the latest ramp, for the codes of the last 4 us (R69)
  fallback : Bool := false         -- strikes as for UPD_SRC 0 after a release of bindings (R55)
deriving DecidableEq, Repr

/-- Where a port stands in its enable or disable sequence (R64, R431). -/
inductive PSeq where
  | idle
  | enSpanHold (due : Tick)       -- R64 step 1
  | enArmWait                     -- R64 step 3 with ARM_WAIT
  | enGate (due : Tick)           -- R64 step 3
  | enRamp                        -- R64 step 4
  | disRamp                       -- R431 step 1
  | discharge (due : Tick)        -- R431 step 3
  | disRange                      -- R431 step 4
  | offSpan (due : Tick)          -- R60 step 2 on an OFF port
deriving DecidableEq, Repr

/-! ### A port: force loop (R104-R126) -/

/-- The samples of one input window (R107 step 1, R108). -/
structure Win where
  n : Nat := 0
  sumV : Int := 0
  sumI : Int := 0
  ovrV : Option Bool := none       -- sign (true: negative) of the last over-ranged V sample
  ovrI : Option Bool := none
  lvl0 : Bool := false             -- a sample was taken at the base level (R117)
  lvl1 : Bool := false             -- a sample was taken at the pulse level
deriving DecidableEq, Repr

/-- Configuration of a loop slot: the values a running context loads (R110), or none for the port's own entries. Values
carry their reference range as the RANGE code of R86. -/
structure Slot where
  mode : Nat
  sp : Int
  psp : Int
  chi : Int
  clo : Int
  spStep : Int
  spRef : Nat
  pspRef : Nat
  chiRef : Nat
  cloRef : Nat
  iPol : Nat
  vPol : Nat
  iSel : Nat
  vSel : Nat
  iMin : Nat
  iMax : Nat
deriving DecidableEq, Repr

/-- The three controllers of R113. -/
structure Tri where
  pri : Int := 0
  hi : Int := 0
  lo : Int := 0
deriving DecidableEq, Repr

/-- The loop state of R111, with the words that the tick needs between two boundaries. -/
structure LoopX where
  r0 : Int := 0
  r1 : Int := 0
  x0 : Tri := {}
  x1 : Tri := {}
  w0 : Int := 0
  w1 : Int := 0
  u0 : Int := 0
  u1 : Int := 0
  yv : Int := 0
  yi : Int := 0
  z : Int := 0
  mi : Int := 0
  mv : Int := 0
  sii : Int := 0
  siv : Int := 0
  sel0 : Nat := 0                  -- selection of each bank: 0 PRI, 1 HI, 2 LO
  sel1 : Nat := 0
  status : Nat := 0                -- word 21 of R111
  lastTick : Tick := 0             -- t_n of the last tick
  edge : Tick := 0                 -- the latest tick boundary, whether or not the loop ran: the next window starts 64 ticks before it
  stepTwo : Option Tick := none    -- boundary whose step 2 has been taken (R107)
  nextTick : Tick := 0             -- next tick boundary
  cur : Win := {}                  -- window of the next tick
  nxt : Win := {}                  -- window of the tick after it
  fed : Bool := false              -- the window of the last boundary held samples
deriving DecidableEq, Repr

/-- The rest of the loop's state: slot, resumption, compliance marking, link and recording. -/
structure LoopY where
  slot : Option Slot := none
  cold : Bool := true              -- no tick computed since enable
  warm : Bool := false             -- the next running tick resumes warm (R122)
  track : Bool := false            -- configuration changed: track at this tick (R122)
  lastMode : Nat := 0
  lastCfg : List Int := []         -- mode, gains, limits, KSTAGE, LINK_PORT at the last running tick
  rngHeld : Bool := false          -- the last tick held for a range step (R133)
  tickDone : Bool := false         -- a qualifying tick completed since the last visit (R106)
  lovrV : Bool := false            -- yv of the last tick was replaced for OVR
  lovrI : Bool := false
  rSp : Nat := 8                   -- reference ranges of the port's own values (R129)
  rPsp : Nat := 8
  rChi : Nat := 0
  rClo : Nat := 0
  selF0 : Nat := 0                 -- selection in force of each bank (R115)
  selF1 : Nat := 0
  linkRef : Nat := 8               -- V range of P_l at the last LINK_PORT write (R139)
  compl : Bool := false            -- a compliance interval is open (R115)
  complSel : Nat := 0              -- selection in force
  recCount : Nat := 0              -- ticks since the last restart of the record count (R123)
  recBlock : List Nat := []        -- words of the open LOOP block
  recStart : Tick := 0
  recRing : Nat := 0xFF            -- ring that the open LOOP block is handed to
  recSeq : Nat := 0
  recIR : Nat := 0
  recVR : Nat := 0
  recCompl : Bool := false
  recProv : Bool := false
  recWorn : Bool := false
  divWait : Bool := false          -- a change of D waits for GUARD (R143)
  lastHold : Nat := 0              -- hold cause journalled last (0 none)
deriving DecidableEq, Repr

/-! ### A port: ranging (R127-R146) -/

/-- A make-before-break step (R132). `qv`: the changing quantity is V. -/
structure RStep where
  qv : Bool
  a : Nat
  b : Nat
  t0 : Tick
  t1 : Tick
  t2 : Tick
  t3 : Tick
  guardEnd : Tick
  phase : Nat                      -- 1 MAKE, 2 PARALLEL, 3 BREAK, 4 GUARD
  rescale : Bool                   -- false once a disable has begun: its re-scale is not applied (R143)
deriving DecidableEq, Repr

structure RangeX where
  step : Option RStep := none
  fs : Option (List Nat) := none   -- full scales in force, as committed (R127-R129): IRNG, VRNG, IOVL, VOVL
  boundsWas : Nat × Nat := (0, 0)  -- bounds of AUTO last in force, and whether AUTO acted on each quantity (R141)
  actI : Bool := false
  actV : Bool := false
  autoI : Option Nat := none       -- range that AUTO decided on and that is not yet in force (R141)
  autoV : Option Nat := none
  upI : Nat := 0
  downI : Nat := 0
  upV : Nat := 0
  downV : Nat := 0
  upAgoI : Option Nat := none      -- running ticks since the last up step completed
  upAgoV : Option Nat := none
  toOff : Bool := false            -- the disable chain runs (R143)
  chainOk : Bool := false          -- the enable chain may run: R64 step 4 has ended
  pattern : Nat := 0               -- RNG_3..RNG_0 driven
  waitXfer : Bool := false         -- a change due waits for a force transfer or a span change (R31, R62)
deriving DecidableEq, Repr

/-! ### A port: comparators and PGEN (R147-R174) -/

/-- One window comparator of a slice. `state` as STATE_V of R170. -/
structure Cmp where
  mode : Nat := 6                  -- mode in which it runs (R152)
  state : Nat := 3
  startEnd : Option Tick := none   -- end of t_EN while starting
  decided : Bool := false          -- the first decision has been made
  strobe : Option Tick := none     -- start of the SM strobe in progress
  strobeEnd : Tick := 0            -- end of the last strobe started
  grid : Nat × Nat := (0, 0)       -- SM_TICK and SM_PHASE of the strobe in progress (R157, change of grid)
deriving DecidableEq, Repr

/-- What a START delivered or applied at a tick has done, until the tick is over (R168: a STOP of the same tick wins). -/
structure StartMark where
  at_ : Tick
  ran : Bool                       -- it started the train
  ovr : Bool                       -- it set OVERRUN
  chans : List Nat                 -- channels on which it set TARGET_OVR
  done : Nat                       -- PULSES_DONE before
deriving DecidableEq, Repr

/-- A running pulse train (R164). -/
structure Train where
  e0 : Tick
  w : Nat
  p : Nat
  n : Nat
  d : Nat
  rose : Nat := 0
  fell : Nat := 0
  gen : Nat := 0                   -- generation its events carry (R219)
  stopAfterFall : Bool := false    -- STOP_MODE 0 stop waits for a fall
  cutAt : Option Tick := none      -- edge at which STOP_MODE 1, or a stop in the delay, ends it
deriving DecidableEq, Repr

structure PgenX where
  train : Option Train := none
  level : Bool := false
  permit : Bool := false           -- gate permission (R64 step 3)
  pin : Bool := false              -- PG_GATE as driven
  lastStop : Option Tick := none   -- tick of the last STOP (R168: START and STOP in one tick)
  startMark : Option StartMark := none  -- the last START
  tripAt : Option Tick := none     -- assigned tick of the trip that set the latch (R160)
  rearmAt : Option Tick := none    -- tick of the last re-arm (R168: re-arm and a new cause in one tick)
  levels : Nat := 0                -- level causes that asserted at the last change (R159, R160)
  gateLvl : Bool := false          -- inside a gate window of GATED mode (R166)
  gateQ : List (Tick × Bool) := [] -- scheduled gate edges of GATED mode (R166)
deriving DecidableEq, Repr

/-! ### A port: commands waiting for its tick boundary (R13, R14) -/

/-- Where an access to the object dictionary came from, for its answer. `cop`: session, REQ_ID and TYPE. -/
inductive Origin where
  | direct
  | mb (fn : Nat)
  | cop (session reqId typ : Nat)
  | leg
deriving DecidableEq, Repr

/-- A command of a group controller queue. -/
inductive GcOp where
  | setEntry (key : Nat) (old : Nat) (val : Nat)
  | enable
  | disable
  | quiesce
  | forceCtrl (v : Nat)
  | winCtrl (v : Nat)
  | pgen (v : Nat)
  | abortCtx (ctx : Nat)
  | own (assign : Nat)
deriving DecidableEq, Repr

structure GcCmd where
  port : Nat
  op : GcOp
  since : Tick
  who : Nat := 0xFF                -- the principal that wrote it
  key : Nat := 0                   -- the entry it was written to (0: none) and the value, for the journal
  val : Nat := 0
  origin : Origin := .direct
deriving DecidableEq, Repr

/-! ### A port: measure path (R76-R103) -/

/-- An over-range interval of one detector (R90, R91): asserted at `ts`, released at `tr`. -/
structure Ovr where
  ts : Tick
  tr : Option Tick
  neg : Bool
deriving DecidableEq, Repr

/-- An open precision window (R79, R80). -/
structure PrecWin where
  spec : Nat                       -- INT_SPEC in force (R99)
  n : Nat                          -- base words
  open_ : Tick
  ctx : Nat                        -- CONTEXT of the tag
  prov : Bool                      -- runs under the provisional rules
  counted : Bool                   -- false once it intersects a trip interval (R186)
  complSeen : Bool                 -- compliance was in force inside it (R115)
deriving DecidableEq, Repr

/-- A decimation group of the fast stream (R84). -/
structure Decim where
  n : Nat := 0
  first : Tick := 0
  sumV : Int := 0
  sumI : Int := 0
  ovrV : Option Nat := none        -- extreme code of the last over-ranged sample
  ovrI : Option Nat := none
  rangV : Bool := false
  rangI : Bool := false
  nbr : Bool := false
  ir : Nat := 0
  vr : Nat := 0
  worn : Bool := false
  compl : Bool := false
deriving DecidableEq, Repr

/-- An open stream block of one type (R96). `words`: the payload so far. `half`: the earlier sample of a V or I word. -/
structure Blk where
  words : List Nat := []
  start : Tick := 0
  firstIn : Tick := 0              -- when the first record entered (PREC_FLUSH)
  half : Option Nat := none
  nbr : Bool := false
  ir : Nat := 0
  vr : Nat := 0
  prov : Bool := false
  worn : Bool := false
  compl : Bool := false
  hWorn : Bool := false            -- WORN and compliance of the sample in `half`
  hCompl : Bool := false
  recs : Nat := 0
deriving DecidableEq, Repr

/-- A closed window whose record is not yet visible (R77, R82). -/
structure RecPend where
  tOpen : Tick
  tClose : Tick
  valV : Int
  valI : Int
  ctx : Nat
  rV : Nat                         -- RANGE of the tags: the ranges in force at `tClose`
  rI : Nat
  worn : Bool
  prov : Bool
  compl : Bool
  uV : Int                         -- U at `tClose` (R94)
  uI : Int
  sel : Nat                        -- PREC_SEL at `tClose`
  ranging : Bool                   -- a make-before-break step is known to touch the window
  counted : Bool
deriving DecidableEq, Repr

structure MeasX where
  win : Option PrecWin := none
  closing : List RecPend := []     -- closed windows whose records are not yet visible
  steps : List RStep := []         -- make-before-break steps still bearing on base words, oldest first (R136)
  nextOpen : Option Tick := none   -- where a free-running series opens its first window, while that lies ahead (R80)
  ovrV : List Ovr := []            -- detector intervals still bearing on samples
  ovrI : List Ovr := []
  dec : Decim := {}
  fast : Option Blk := none
  prec : Option Blk := none
  fastSeq : Nat := 0               -- BSEQ of each type
  precSeq : Nat := 0
  fastGap : Bool := false          -- the next fast block carries GAP (R10)
  fastPack : Nat := 0              -- FAST_PACK and FAST_DECIM_LOG2 of the stream
  fastDec : Nat := 0
  fastFrom : Tick := 0             -- stream starts with the first group at or after it (R84)
  fastRing : Nat := 0xFF           -- rings in force (R98: a change takes effect at a block boundary)
  precRing : Nat := 0xFF
  complIv : List (Tick × Option Tick) := []  -- compliance intervals still bearing on samples (R115)
  lastRecV : Option (Nat × Nat × Nat) := none  -- value, tag and U of the last record of the window counted (R192)
  lastRecI : Option (Nat × Nat × Nat) := none
deriving DecidableEq, Repr

/-! ### A port: sequencer (R175-R201) -/

/-- The running point of a port (R186). -/
structure Point where
  ctx : Nat
  pt : Nat                         -- index in its list
  selTick : Tick                   -- tick of selection
  tps : Tick
  phase : Nat                      -- PHASE of POINT_NOW
  ctrl : Nat := 0                  -- PT_CTRL of the merged point
  spec : Nat := 0                  -- merged INT_SPEC and SETTLE_TOL (R183)
  tol : Int := 0
  engCfg : Nat := 0                -- ENG_CFG at the point load (R176)
  from_ : Tick := 0                -- the load or the zero switch takes effect at a tick boundary after this tick
  loadWait : Bool := false         -- the merged point waits for its tick boundary
  zeroWait : Bool := false         -- ZERO of R189 waits for its tick boundary
  zeroTicks : Nat := 0
  scanDue : Option Tick := none    -- end of the last ROUTE frame + SCAN_SETTLE
  scanOk : Bool := false           -- that frame is verified
  tload : Tick := 0
  cnt : Nat := 0                   -- consecutive counted ticks that qualify (R184)
  ymin : Int := 0
  ymax : Int := 0
  tset : Option Tick := none
  tarm : Option Tick := none
  armGen : Nat := 0
  tp : Option Tick := none
  counted : Nat := 0               -- windows counted
  lastClose : Tick := 0
  compl : Bool := false            -- a counted record carried COMPL
  train : Bool := false            -- the point's own train was started (R186)
  pulse : Bool := false            -- PGEN_DONE is awaited
  pulseDone : Option Tick := none
  stalled : Bool := false          -- SEQ_STALL produced for this point
deriving DecidableEq, Repr

/-- One context on a run queue. -/
structure QEntry where
  ctx : Nat
  release : Tick
deriving DecidableEq, Repr

structure SeqP where
  queue : List QEntry := []        -- queued contexts, not the running one
  run : Option Point := none
  backDue : Bool := false          -- returns to port-record settings at the next tick boundary (R189)
  backFrom : Tick := 0             -- since when
  lastSel : Tick := 0
deriving DecidableEq, Repr

/-- Everything of a port that is not an entry of the object dictionary. -/
structure PortX where
  force : ForceX := {}
  seqn : PSeq := .idle
  loop : LoopX := {}
  loopY : LoopY := {}
  range : RangeX := {}
  cmpV : Cmp := {}
  cmpI : Cmp := {}
  pgen : PgenX := {}
  meas : MeasX := {}
  seq : SeqP := {}
  flt : Bool := false              -- level of FLT_IN
  gnd : Bool := false              -- GND_FAULT active (R43)
  thAt : List Tick := []           -- when the codes of TH_V_LO, TH_V_HI, TH_I_LO, TH_I_HI last changed (R280)
  tripGen : Nat := 0               -- generation of the PGEN_TRIP event
  disableAt : Bool := false        -- an accepted DISABLE waits for its tick boundary (R22)
  offByQuiesce : Bool := false
deriving DecidableEq, Repr

/-! ### Groups -/

structure GroupX where
  queue : List GcCmd := []         -- the 64-entry command queue (R13)
  held : List (Nat × Nat × GcCmd) := []  -- held accesses: principal, entry, command (R13)
  gateStep : Nat := 0              -- running step of gating (1-3) or ungating (11-14), R433
  gateDue : Tick := 0
  prevState : Nat := 0
  gbufFast : Nat := 0              -- fast words waiting in the group sample buffer (R10)
  rwcDirty : Bool := false         -- an RWC entry changed since the last commit (R352)
  overlap : Option Nat := none     -- port in a force-transfer overlap (R30, R304)
deriving DecidableEq, Repr

/-! ### Carillon (R218-R240) -/

/-- An event on its way: delivered at `due` to every target bound then (R222). `done`: tasks that have taken it. -/
structure Flight where
  due : Tick
  chan : Nat
  gen : Nat
  done : List Nat
deriving DecidableEq, Repr

/-- A fired delay unit: DLY_OUT at `due` (R230). -/
structure DlyRun where
  due : Tick
  gen : Nat
deriving DecidableEq, Repr

structure FabX where
  flights : List Flight := []
  delays : Tab (Option DlyRun) := []
  eventAt : Tab (Option Tick) := []  -- tick of a channel's last event, dropped ones included (R218, R234)
  trigIn : Tab Bool := []          -- electrical level of a pin that is no output
  trigOut : Tab Bool := []         -- logical state of an output pin (true: active)
  trigBusy : Tab Tick := []        -- end of the busy interval of an output pin
  ecDone : Tab Bool := []          -- EC_RELOAD 0: EC_MATCH has been produced (R229)
deriving DecidableEq, Repr

/-! ### Micro-actions: effects due at a tick that no command names -/

/-- Effects that fall due at a tick after the command that set them up: the loop's write and its strike (R107 steps 4
and 5), an event strike at its CLK_FAST edge (R55), SAFE_VALUE at the edge of R64 step 2, and the return of the pulse
level after a trip (R160). -/
inductive Micro where
  | loopWrite (p : Nat) (u0 u1 : Int)
  | tickStrike (p : Nat) (s0 s1 : Nat)
  | strike (p : Nat)
  | setSafe (p : Nat)
  | levelBase (p : Nat)
  | recOut (p : Nat)
  | winOpen (p : Nat)
  | select (p : Nat)
  | trainCut (p : Nat)
  | rot (g : Nat)
  | standby
  | pfw (on : Bool)
  | reset (cause : Nat)
  | wipe
  | fabCycle
  | own (assign : Nat)
deriving DecidableEq, Repr

/-! ### Scanner bus (R194-R196) -/

/-- A requested or running scanner frame. `op`: 0xC1 ROUTE, 0xC2 QUERY, 0xC3 OPEN_ALL. -/
structure SFrame where
  op : Nat
  port : Nat
  sel : Nat
  route : Nat
  seqn : Nat := 0
  req : Tick
  ctx : Nat := 0xFFFF              -- context that asked for it
deriving DecidableEq, Repr

structure ScanX where
  queue : List SFrame := []        -- requested frames, in the order of R195
  busy : Option (SFrame × Tick) := none  -- frame on the bus and the rise of its select
  freeAt : Tick := 0               -- select high between frames (R196)
  seqs : Tab Nat := []             -- frame number of each select
  retries : Tab (Option (Tick × SFrame)) := []  -- per port: ROUTE to send again
deriving DecidableEq, Repr

/-! ### Timebase (R202-R217) -/

/-- A segment of the mapping (R206). -/
structure Seg where
  t0 : Tick := 0
  n0 : Nat := 0
  rate : Nat := 0x190000000
deriving DecidableEq, Repr

/-- A discipline measurement: the offset, and whether it must step the mapping (R207, R209). -/
structure Theta where
  ns : Int
  force : Bool
deriving DecidableEq, Repr

structure TbX where
  segs : List Seg := []            -- newest first, at most 64; none: the initial segment of R207
  theta : Option Theta := none     -- measurement whose segment has not begun
  taiSet : Option (Nat × Tick) := none  -- TAI_SET and the tick at which it was applied
  ptpEver : Bool := false          -- a PTP measurement was made since the counter started (R207)
  owed : List Seg := []            -- segments not journalled yet, oldest first (R207, R208)
  ppsFirst : Bool := false         -- the next PPS edge is the first after TAI_SET
  lastMeas : Option Tick := none   -- tick of the last measurement
  lastSrc : Nat := 0               -- its source: 1 PPS, 2 PTP
  ppsTick : Option Tick := none    -- last PPS and PTP measurement below 1 us (R217)
  ptpTick : Option Tick := none
  ptpSync : Option (Tick × Nat × Int) := none  -- last Sync: receive tick, origin time, correction
  ppsOutHigh : Option Tick := none -- when PPS_OUT rose
  ppsOutLast : Nat := 0            -- last whole TAI second at which PPS_OUT rose
  role : Nat := 0                  -- SYNC_ROLE in force since reset
  acquired : Bool := false         -- the follower has acquired the stream
  pll0 : Bool := false             -- PLL_0 locked
  pll1 : Bool := false             -- PLL_1 locked
  pllHold : Bool := false          -- the reference is lost: the PLL runs in holdover (R204)
  syncHold : Bool := false         -- the stream is lost: the follower runs in holdover (R214)
  rateHold : Bool := false         -- RATE frozen (R209)
  announced : Option (Tick × Tick) := none  -- last SYNC frame: announced T, tick of arrival
  nextSeg : Option Seg := none     -- leader's segment for the next millisecond boundary
deriving DecidableEq, Repr

/-! ### Recorder (R397-R415) -/

/-- A journal record (R402). -/
structure JRec where
  rtype : Nat
  src : Nat
  tick : Tick
  words : List Nat
deriving DecidableEq, Repr

/-- A chunk of the journal (R401). -/
structure Chunk where
  no : Nat
  base : Tick
  epoch : Nat
  level : Nat
  flags : Nat
  words : Nat
  recs : List JRec
deriving DecidableEq, Repr

/-- An NVMe command under way. `kind`: 0 chunk write, 1 store header, 2 flush. -/
structure NvCmd where
  kind : Nat
  chunk : Option Chunk := none
  issued : Tick
  retried : Bool := false
  retryAt : Option Tick := none
deriving DecidableEq, Repr

/-! ### Stored records, slices, calibration and ageing (R288-R338) -/

/-- One committed run as the health record keeps it (R318): temperature, and the offset and gain of each path and of the
force DAC, selection and residual together, in 0.001 ppm. -/
structure CalPoint where
  temp : Nat
  offV : Int
  gainV : Int
  offI : Int
  gainI : Int
  dac : List Int
deriving DecidableEq, Repr

/-- What a slice record keeps beside the entries of the dictionary (R297, R318). -/
structure Health where
  hasBase : Bool := false          -- a baseline has been taken
  baseGain : Nat := 0              -- GAIN_SEL, OFFSET_SEL, ring-oscillator delay and CMP_LEAK at commissioning
  baseOff : Nat := 0
  baseRo : Nat := 0
  baseLeak : Nat := 0
  ro : Nat := 0                    -- latest ring-oscillator delay, corrected to 70 degrees C
  hist : List CalPoint := []       -- the last 16 committed runs
  dacOff : List Int := []          -- DAC residuals per span, 0.001 ppm
  dacGain : List Int := []
  rhoHigh : Nat := 0               -- consecutive evaluations with rho >= 1.0 (R325)
  row : Nat := 0                   -- row of R323 last applied
  drifts : Nat := 0                -- consecutive runs aborted with CAL_DRIFT (R325)
  frac : Rat := 0                  -- fraction of a STRESS_H unit (R319)
  notes : List (Tick × Nat) := []  -- faults recorded in the health record (R71, R163, R279): their kind
deriving DecidableEq, Repr

structure SliceX where
  health : Health := {}
  rbBad : Bool := false            -- its latest read-back was out of tolerance (R71)
  shadowTrip : Bool := false       -- its own trip latch, set while in SHADOW (R163)
  cmpV : Cmp := {}                 -- its comparators while it is in SHADOW or takes a port (R154, R156); those of a slice that drives a
  cmpI : Cmp := {}                 -- port are the port's
  wornWant : Nat := 0              -- causes of R325 found and not yet marked
  lastCommit : Tick := 0           -- latest commit of its record (R321)
deriving DecidableEq, Repr

/-- The payload of a stored record: entries of the dictionary, and what the state keeps beside them. -/
structure Stored where
  regs : List (Nat × Nat) := []
  blobs : List (Nat × List Byte) := []
  health : Option Health := none
  xferVar : Rat := 0
  blockSec : List (Nat × Bool) := []
deriving DecidableEq, Repr

/-- One slot of a pair (R310). -/
structure NvSlot where
  seq : Nat
  data : Stored
deriving DecidableEq, Repr

/-- A slot pair; an invalid slot is absent. -/
structure NvPair where
  a : Option NvSlot := none
  b : Option NvSlot := none
deriving DecidableEq, Repr

/-- What a commit serves. -/
inductive CommitJob where
  | run (slice : Nat)              -- R298 step 8
  | health (slice : Nat)           -- R321
  | worn (slice : Nat) (causes : Nat)  -- R325
  | group (g : Nat)                -- R301
  | xfer                           -- R292 step 4
  | cell (cell : Nat)              -- R330, R332: a retired reference cell
  | device                         -- R311, R332
  | image                          -- R352
deriving DecidableEq, Repr

structure Commit where
  pair : Nat
  data : Stored
  job : CommitJob
deriving DecidableEq, Repr

/-- A slice calibration run (R298). -/
structure CalRun where
  slice : Nat
  step : Nat
  due : Tick
  npc : Nat                        -- power-line cycles of one reading
  purpose : Nat                    -- 0 relief slice's own, 1 home slice in a rotation, 2 OFF port, 3 window
  role : Nat                       -- role to which the slice returns
  temp0 : Nat
  temp7 : Nat := 0
  discarded : Nat := 0             -- readings discarded and taken again (R299)
  from_ : Tick := 0                -- start of the readings of the step whose base words have not been looked at
  gainSel : Nat
  offSel : Nat
  segMap : List Byte
  read : CalData := {}             -- readings of steps 2-5
  ver : CalData := {}              -- readings of step 7
deriving DecidableEq, Repr

/-- A reference transfer (R290-R293). -/
structure Xfer where
  step : Nat
  due : Tick
  group : Nat
  cell : Option Nat                -- cell valued against the remaining one (R295); none: a transfer from REFX
  dev0 : Int := 0                  -- assigned values found, 0.001 ppm from 2.000 V
  dev1 : Int := 0
  var : Rat := 0
deriving DecidableEq, Repr

/-- The rotation of a group (R301-R309) and its calibration windows (R327). -/
structure RotX where
  st : Nat := 0                    -- ROT_STATE
  port : Nat := 0                  -- port in rotation
  step : Nat := 0                  -- step of R302
  wait : Bool := false             -- the step waits for a tick boundary of the port
  due : Tick := 0                  -- end of a timed step
  from_ : Tick := 0                -- start of the agreement span
  shadowAt : Tick := 0             -- when the incoming slice entered SHADOW (R101)
  fails : Nat := 0
  forced : Bool := false           -- the return is forced (R306)
  subst : Bool := false            -- the hand-over is a substitution (R37)
  stop : Bool := false             -- no further port in this rotation
  run : Option CalRun := none
  tx : Tick := 0                   -- t_x of the transfer in its overlap
  done : Nat := 0                  -- sub-steps of R304 completed
  winDue : Tick := 0
  winStay : Bool := false          -- a disable request in steps 4-6 of a window
  substWant : Bool := false        -- the privileged home slice is WORN and not yet substituted
  retireWant : Bool := false       -- the relief slice is WORN or failed and not yet retired
  quiesceHeld : Bool := false      -- a quiesce waits for the hand-over to end (R23)
  must : Bool := false             -- a rotation is owed notwithstanding R309 (R312, R433)
  left : Bool := false             -- the port in rotation has reached OFF, and the rotation goes on without it (R32)
deriving DecidableEq, Repr
/-! ### Scratchpad (R241-R271) -/

/-- An access of a function to the scratchpad that waits for the end of the Sapphire wipe (R257). -/
inductive Late where
  | read (f off : Nat) (k : RdKind)
  | write (f a v : Nat)
  | atomic (f a : Nat) (op : FabOp) (x : W40)
  | copy (f : Nat) (b : List Byte) (host : Option (List Byte))
  | dma (r : Nat) (d : Desc)
deriving DecidableEq, Repr

/-- The check bits of a word (R241, R251) are held as what they say of it: the word is good unless `soft` or `poison` names it. -/
structure MemX where
  ringQ : Tab (List (Tick × List Nat)) := []  -- per ring: closed blocks handed to it and not yet committed, with their close ticks (R97, R263)
  soft : List Nat := []            -- words with one wrong bit; the value in `spad` is the correct one (R251)
  poison : Tab Bool := []          -- words with an uncorrectable error, stored as in `spad` (R251)
  spare : Tab W40 := []            -- what a borrow left in the spare banks, by physical bank * 2^16 + row (R241, R259)
  bgAt : Tick := 0                 -- background test has read what it comes to up to this tick (R259, R260)
  cells : List (Nat × List Nat) := []  -- cell writes that wait for the end of the wipe (R257)
  late : List Late := []           -- accesses of functions that wait for it
  fix : List Nat := []             -- words whose corrected value waits to be written back (R251)
  reload : List Nat := []          -- point slots whose load is repeated (R251)
  wait : List (Nat × FabReq) := [] -- requests not yet granted, with the bank cycles each has waited (R246)
  wipeEnd : Tick := 0              -- end of the Sapphire wipe under way (R257)
  btNext : Nat := 0                -- next logical bank in ascending order (R259)
  btReq : Option Nat := none       -- bank named in BT_REQUEST
  btUe : List Nat := []            -- banks with an uncorrectable error, oldest first
  btLast : Tick := 0               -- start of the latest borrow
  btDue : Tick := 0                -- end of the running step
  btOrig : Nat := 0                -- physical bank under test
  btTurn : Bool := false           -- the borrowed bank was taken in ascending order
deriving DecidableEq, Repr
/-! ### Monitor converter (R272-R287) -/

/-- A request. `cls`: 0 software, 1 read-back, 2 threshold, 3 ground, 4 front-end reference, 5 slice temperature, 6 supplies,
7 references, 8 die temperature, 9 self-check. -/
structure McReq where
  input : Nat
  alt : Bool
  cls : Nat
  due : Tick
  urg : Bool := false
  rep : Bool := false              -- a repeat after a reading out of tolerance
  soft : Bool := false             -- the request of MC_REQ
deriving DecidableEq, Repr

/-- The cycle under way. `phase`: 0 none, 1 start-up, 2 conversion, 3 over-range pause. -/
structure McCyc where
  phase : Nat := 0
  due : Tick := 0
  req : Option McReq := none
  at_ : Tick := 0                  -- sampling instant
  comp : Bool := false             -- the result is compared
  cls : Nat := 0                   -- class it is compared with
  port : Nat := 0xFF               -- port that the slice serves at the sampling instant
  expV : Rat := 0                  -- expected value and tolerance of a read-back or threshold
  tol : Rat := 0
deriving DecidableEq, Repr

/-- An entry of the result queue (R277). -/
structure McEntry where
  word : Nat
  tick : Tick
deriving DecidableEq, Repr

structure McX where
  urg : List McReq := []           -- the urgent FIFO
  urgWait : List McReq := []       -- hardware urgent requests waiting at their sources
  sched : List McReq := []         -- scheduled requests, by due tick, then input
  cyc : McCyc := {}
  queue : List McEntry := []       -- entries that some active reader has not read, oldest first
  base : Nat := 0                  -- number of entries that have left the queue
  read : Tab Nat := []             -- entries each reader has read
  seq : Nat := 0
  counts : Tab Nat := []           -- consecutive counts of (input, ALT)
  next : Tab Tick := []            -- next due tick of each supervised input
  stalled : Bool := false
  softBusy : Bool := false         -- the request of MC_REQ is unserved
  vddio33 : Option Bool := none    -- VDD_IO is nominally 3.3 V
  ref0 : Int := 0                  -- REF_0 of the self-check under way
  switch : Nat := 0                -- self-check of MC_1 under way: 1 ZERO, 2 REF_0, 3 REF_1
  zeroBad : Bool := false          -- ZERO of that self-check was out of tolerance
  supBad : Nat := 0                -- rails whose fault is active (R437)
deriving DecidableEq, Repr
structure CalX where
  xferVar : Rat := 0               -- u_xfer squared, in ppm squared (R294)
  xfer : Option Xfer := none
  xferWant : Bool := false         -- a transfer from REFX is requested and not yet started
  cellWant : Option Nat := none    -- a cell waits to be valued (R295)
  retryAt : Option Tick := none    -- a deferred or aborted transfer is retried then (R291, R293)
  lastXfer : Tick := 0             -- start of the present REF_XFER_INTERVAL
  rots : Tab RotX := []            -- the rotation of each group
deriving DecidableEq, Repr
structure AgeX where
  vote : Option (Nat × Tick) := none  -- spare cell warming up, and the end of the warm-up (R330)
  evalAt : Tick := 0               -- start of the present EVAL_INTERVAL
  stressAt : Tick := 0             -- tick of the last STRESS_ACCRUE
  deadCores : List Nat := []       -- cores that have failed
  takeover : Option (Nat × Tick) := none    -- role that CP_5 is loading, and since when
  roleWait : Option Nat := none    -- failed role waiting for a firmware update to end (R331)
deriving DecidableEq, Repr
/-! ### Interfaces (R339-R396) -/

structure OdX where
  origin : Origin := .direct       -- the access under way
  rwcDirty : Tab Bool := []        -- per index: an RWC entry changed since the last commit (R352)
  recent : List (Nat × Tick × Nat) := []  -- context entries written at one tick, and their values before it (R200)
deriving DecidableEq, Repr

/-- A block transfer (R363): a snapshot being read, or the segments written so far. -/
structure BlockXfer where
  key : Nat
  wr : Bool
  total : Nat
  data : List Byte
  since : Tick
  reqId : Nat
deriving DecidableEq, Repr

/-- A subscription (R368). -/
structure Sub where
  num : Nat
  key : Nat
  mode : Nat
  period : Nat
  last : Option (List Byte) := none
  next : Tick
deriving DecidableEq, Repr

/-- An item of a NOTIFY (R369). -/
inductive Item where
  | value (num time : Nat) (bytes : List Byte)
  | event (chan gen tick time : Nat)
  | cancelled (num code : Nat)
deriving DecidableEq, Repr

/-- An open session (R364-R369). -/
structure Session where
  id : Nat
  ks : List Byte                   -- Ks
  rx : Nat := 0                    -- last accepted SEQ of the client
  txn : Nat := 0                   -- last SEQ of the device
  peer : Peer                      -- source of the last accepted request
  lastMsg : Tick                   -- last authenticated message
  kept : List (Nat × List Byte) := []  -- REQ_ID and response body of the last 32, newest first, with TYPE as first byte
  block : Option BlockXfer := none
  subs : List Sub := []
  subNo : Nat := 0
  items : List Item := []
  itemAt : Tick := 0               -- when gathering began
  lost : Bool := false             -- an item was lost: the next NOTIFY carries LOST
deriving DecidableEq, Repr

/-- A COP message being assembled from CAN segments (R360). -/
structure CanMsg where
  data : List Byte
  next : Nat
  since : Tick
deriving DecidableEq, Repr

/-- A legacy WRITE request whose access is held at a group controller (R372): what is left of it. -/
structure LegWait where
  addr : Nat
  hdr : List Byte
  reg : Nat
  rest : List Byte
  left : Nat
deriving DecidableEq, Repr

structure NetX where
  sessions : Tab (Option Session) := []
  learned : List (Nat × Nat) := [] -- bridge table: source address and port, latest first (R357)
  stored : List (Nat × EthFrame) := []  -- frames stored for an egress port, oldest first (R358)
  busy : Tab Tick := []            -- per port: end of the local frame being sent
  fwd : Tab Tick := []             -- per port: end of the forwarded frame being sent
  can : Option CanMsg := none
  leg : Option LegWait := none
deriving DecidableEq, Repr

/-- A snapshot latch (R266): slot offset, value, SNAP_SEQ. -/
structure Snap where
  slot : Option Nat := none
  val : Nat := 0
  seqn : Nat := 0
deriving DecidableEq, Repr

/-- A mailbox (R383, R384). -/
structure Mbox where
  st : Nat := 0                    -- MB_STATE
  doneId : Nat := 0
  overrun : Bool := false
  discarded : Bool := false
  req : Tab Nat := []              -- MB_REQ, by 4-byte word
  rsp : List Byte := []            -- MB_RSP
  cur : Nat := 0                   -- REQ_ID under way
  curTyp : Nat := 0
  ready : Option (List Byte) := none   -- body of the response of the completed access
  block : Option BlockXfer := none
deriving DecidableEq, Repr

/-- The endpoint state of a function (R376). -/
structure FnX where
  snapR : Snap := {}               -- snapshot latches of WIN_REGS and WIN_SPAD
  snapS : Snap := {}
  wr : Option (Bool × Nat × Nat) := none -- write latch: WIN_SPAD, slot and staged LO (R267)
  mb : Mbox := {}
  unmasked : Tab Bool := []        -- MSI-X vectors that the host has unmasked
  pend : Tab Bool := []            -- pending bits
  hold : Tab Tick := []            -- end of the holdoff of a vector
  owed : Tab Bool := []            -- a source was raised during the holdoff
  d3 : Bool := false               -- D3hot
  nqLost : Bool := false           -- an event found the notification queue full
deriving DecidableEq, Repr

/-- A DMA channel's current descriptor and the blocks that the link has not acknowledged (R387-R389). -/
structure DmaX where
  open_ : Bool := false
  addr : Nat := 0
  cap : Nat := 0
  irq : Bool := false
  filled : Nat := 0
  first : Tick := 0
  flying : Nat := 0
  poison : Bool := false
deriving DecidableEq, Repr

/-- An event at the notification intake of a function (R391). -/
structure Intake where
  fn : Nat
  chan : Nat
  gen : Nat
  tick : Tick
deriving DecidableEq, Repr

structure PcieX where
  fns : Tab FnX := []
  dma : Tab DmaX := []
  intake : List Intake := []
deriving DecidableEq, Repr

/-! ### Firmware, rails (R425-R428, R438-R445) -/

structure FwSlot where
  seqn : Nat
  img : FwImage
deriving DecidableEq, Repr

structure FwX where
  slotA : Option FwSlot := none    -- valid firmware slots (R425)
  slotB : Option FwSlot := none
  running : Option FwImage := none -- the image the device booted or was activated into
  storing : Option FwImage := none -- FW_STATE STORING
  ready : Option FwImage := none   -- the committed image that READY names
  step : Nat := 0                  -- cores restarted so far in an ACTIVATE
  restarting : Option Nat := none  -- core that restarts now, its duties handed over (R24)
  suspended : Bool := false        -- its duties are suspended, CP_5 being consumed (R331)
  due : Tick := 0
deriving DecidableEq, Repr

/-- A PMBus transaction: rail, command code, data, attempts made. -/
structure PmbReq where
  rail : Nat
  code : Nat
  data : Nat := 0
  tries : Nat := 0
deriving DecidableEq, Repr

/-- Why a list of rails is switched: boot step 8, the gating or ungating of a group, the entry into STANDBY. -/
inductive RailJob where
  | boot
  | gate (g : Nat)
  | ungate (g : Nat)
  | standby
deriving DecidableEq, Repr

/-- A switching sequence: the rail being switched, the end of its RAIL_DELAY, and the rails after it. -/
structure RailSeq where
  job : RailJob
  rail : Nat
  due : Option Tick := none
  left : List Nat
deriving DecidableEq, Repr

structure RailX where
  bus : List PmbReq := []          -- waiting transactions; the first is on the bus
  exp : Tab Int := []              -- exponent of VOUT_MODE, plus the rails whose mode is not linear
  notLin : Tab Bool := []
  pgBy : Tab (Option Tick) := []   -- a rail that was turned on must be power-good by this tick
  seqs : List RailSeq := []
  pollAt : Tick := 0
  fin : List (RailJob × Bool) := []  -- sequences that have ended, and whether every rail came up, not yet acted on
deriving DecidableEq, Repr

/-! ### Power and boot (R416-R440) -/

structure PwrX where
  boot : Nat := 0                  -- step of R421 under way; 0: held in reset
  cause : Nat := 0                 -- cause latched at the next boot (R420)
  time0 : Tick := 0                -- tick of time 0 before the counter starts
  preLock : Nat := 0               -- ticks from time 0 to the counter's start
  psuEn : Bool := true             -- PSU_EN
  standby : Bool := false          -- in STANDBY
  wakeWait : Bool := false         -- internal reset held after a wake from STANDBY (R419)
  refSel : Bool := false           -- REFCLK_SEL as sampled (R202)
  clrLow : Bool := false           -- CLR_N is low
  pfwLow : Bool := false           -- PFW_N is low
  pfwClear : Bool := false         -- PFW_ACTION 2 holds every port at its clear code (R440)
  anaLost : Bool := false          -- VAP, VAN or VDDA below its power-on threshold (R63)
  anaWait : Option Tick := none    -- the start-up wait of the output stages began (R63 step 2)
  idleGroups : List Nat := []      -- groups that the entry into IDLE quiesced (R418)
  standbyStep : Nat := 0           -- step of R419 under way
  reqWait : Nat := 0               -- IDLE or STANDBY request waiting for FW_STATE (R417)
  cleared : Bool := false          -- step 4 of R421 has ended in this boot
  firmware : Bool := false         -- step 5 of R421 has ended in this boot
  nineWait : Bool := false         -- step 8 has ended and step 9 waits for the clear
  clearDue : Tick := 0             -- end of the start-up clear (R258)
deriving DecidableEq, Repr
/-! ### Security (R446-R463) -/

structure SecX where
  blockSec : Tab Bool := []        -- attributes of scopes without a SEC entry: counters, delay units, timers, trigger pins
  keys : Tab (List Byte) := []     -- the current key row of each slot; empty: none
  lcReq : Option (Nat × Tick) := none  -- LC_REQ: target, and the end of the 10 s (R459)
  lcStep : Nat := 0                -- step of a transition under way
  lcTo : Nat := 0                  -- its target
  lcDue : Tick := 0
  lcTamper : Option Nat := none    -- action of a tamper that waits for step 4
  tampLatch : Nat := 0             -- pin sources latched in STANDBY (R456)
deriving DecidableEq, Repr
structure NvX where
  pairs : Tab NvPair := []         -- the stored records of R311, and pair 162: the configuration image
  cmds : List Commit := []         -- commits requested, oldest first; the first is under way once started
  started : Bool := false
deriving DecidableEq, Repr

/-! ### Replay and the recorder's own state (R397-R415) -/

/-- A port's entry of a replay session (R412). -/
structure RpPort where
  port : Nat
  fidelity : Nat := 0
  outcome : Nat := 3
  kind : Nat := 0
  detail : Nat := 0
  tick : Tick := 0
  lastGood : Tick := 0
  journal : Int := 0
  replay : Int := 0
  chunk : Nat := 0
deriving DecidableEq, Repr

/-- A record read from the journal, or a part of one, that has not been replayed yet. `ck`: it belongs to a checkpoint (R404). -/
structure RpUnit where
  tick : Tick
  src : Nat
  rtype : Nat
  words : List Nat
  chunk : Nat
  ck : Bool := false
deriving DecidableEq, Repr

/-- The replay engine in a session (R408-R411): what it has read of the journal, and its sandbox, which holds its models of the units that it
reproduces. -/
structure Sandbox where
  start : Option Tick := none      -- begin tick of the checkpoint of the seek, once it is found
  inCk : Bool := false             -- the last chunk read ends inside a checkpoint
  next : Option Nat := none        -- the chunk it needs next
  top : Tick := 0                  -- latest timestamp read
  stop : Option Tick := none       -- a GAP of SRC 0x504, or the end of the epoch
  units : List RpUnit := []        -- records not yet replayed, by tick and SRC
  precs : List RpUnit := []        -- precision records of them
  jLevel : Nat := 0                -- J_LEVEL and J2_PORTS of the time replayed
  j2 : Nat := 0
  synced : List Nat := []          -- ports whose loop is reproduced since a SNAP
  blind : List Nat := []           -- ports with a train that began before the checkpoint
  clrLow : Bool := false           -- CLR_N was low
  now : Tick := 0
  regs : Tab W64 := []
  blobs : Tab (List Byte) := []
  ports : Tab PortX := []
  groups : Tab GroupX := []
  micro : List (Tick × Micro) := []
  fab : FabX := {}
  scan : ScanX := {}
  tb : TbX := {}
  mc : McX := {}
  spad : Tab W40 := []
  lm : Tab Nat := []
  fresh : Nat := 0
deriving DecidableEq, Repr

structure RecX where
  recs : List JRec := []           -- records of the open chunk, oldest first
  recWords : Nat := 0
  openSince : Tick := 0            -- tick of the open chunk's first record
  base : Tick := 0                 -- current base of the open chunk
  baseTick : Tick := 0             -- BASE_TICK of the open chunk
  staged : List Chunk := []        -- closed chunks waiting to be written, oldest first
  cmd : Option NvCmd := none       -- command on the drive
  sinceHeader : Nat := 0           -- chunks written since the header was committed
  headerAt : Tick := 0             -- last commit of the header
  gapBefore : Bool := false
  epochStart : Bool := true
  gapCause : Option (Nat × Tick) := none -- cause and start of a gap of SRC 0x504 not yet written
  shedOn : Bool := false           -- staging passed 3/4 and has not fallen below 1/2
  shed : Tab (Option Tick) := []   -- per port: start of its shed interval
  snapDue : Tab Bool := []         -- port awaits a SNAP at its next tick boundary (R404)
  lchk : Tab (List Nat) := []      -- check words of consecutive ticks of a J_2 port
  lchkAt : Tab Tick := []
  fastW : Tab (List Nat) := []     -- fast words of a J_2 port
  fastAt : Tab Tick := []          -- tick of the first of them
  ckptAt : Tick := 0               -- next checkpoint
  ckptNo : Nat := 0
  snapAt : Tick := 0
  headerWait : Bool := false       -- a header commit is due once the drive is free
  caps : Nat × Nat := (0, 0)        -- usable chunk positions of the two namespaces present
  hdr : Option (Nat × Nat) := none -- the same as the valid store header states them; none: no valid header
  saved : Nat × Nat × Nat := (0, 0, 0)  -- CHUNK_OLDEST, CHUNK_NEXT and OFFLOADED of that header
  flushWait : Bool := false        -- a Flush command is due once the staged chunks are written
  rateBytes : Nat := 0             -- bytes written in the present second
  rateSec : Nat := 0
  pfwShed : Bool := false          -- J_2 shed for a power-fail warning
  rp : List RpPort := []           -- ports of the replay session
  rpSeek : Tick := 0
  box : Sandbox := {}             -- the replay engine
deriving DecidableEq, Repr

/-! ### The block -/

/-- The state of the SF2128. Fields: the time counter; the object dictionary (raw images of 64 bits, and byte strings); the
chapters' own state; the outputs and the answer of the last command; the counter of fresh free values (the model's own);
and the queue of waiting commands, first in, first out. -/
structure State where
  now : Tick := 0
  regs : Tab W64 := []
  blobs : Tab (List Byte) := []
  ports : Tab PortX := []
  groups : Tab GroupX := []
  slices : Tab SliceX := []
  micro : List (Tick × Micro) := []
  fab : FabX := {}
  scan : ScanX := {}
  tb : TbX := {}
  spad : Tab W40 := []
  mem : MemX := {}
  mc : McX := {}
  cal : CalX := {}
  age : AgeX := {}
  od : OdX := {}
  net : NetX := {}
  pcie : PcieX := {}
  rcd : RecX := {}
  pwr : PwrX := {}
  fwx : FwX := {}
  rail : RailX := {}
  lm : Tab Nat := []               -- the port after the one that each pipeline's estimator visited last (R106)
  sec : SecX := {}
  nv : NvX := {}
  tx : List Tx := []
  resp : Option Resp := none
  fresh : Nat := 0
  pending : List Instr := []
deriving DecidableEq, Repr

/-- The state right after reset: every table empty, so that every entry reads its Default (R351), the time counter at 0, no
command waiting, and the device held in reset until RESET_N rises (R421). -/
def State.reset : State := {}

end Sys2Proof.Machine
end

