-- ==== Sys2Proof/Machine/Ops.lean ====
section
/-!
DEFINITION. The named operations over the state: entries of the object dictionary (R339-R355), status bits, per-port,
per-group and per-slice state, outputs, time (R206, R208), the journal (R401-R405), Carillon events (R218-R225), and the
answer to an access (R343, R354).
-/

namespace Sys2Proof.Machine

/-- The valid slot with the higher SEQ (R310). -/
def NvPair.best (p : NvPair) : Option NvSlot :=
  match p.a, p.b with
  | some x, some y => if x.seq < y.seq then some y else some x
  | some x, none => some x
  | none, y => y

namespace State

/-! ### Entries -/

def dfltReg (k : Nat) : W64 := BitVec.ofNat 64 (odDefault k)

/-- The raw 64-bit image of an entry. -/
def reg (s : State) (k : Nat) : W64 := Tab.get dfltReg s.regs k

/-- The entry as an unsigned number. -/
def rN (s : State) (k : Nat) : Nat := (s.reg k).toNat

/-- The entry as a signed 40-bit number. -/
def rI (s : State) (k : Nat) : Int := toSigned 40 (s.rN k)

/-- The entry as a REAL32 value. -/
def rQ (s : State) (k : Nat) : Rat := ratF32 (s.rN k)

/-- Write the raw image of an entry. -/
def setReg (s : State) (k : Nat) (v : W64) : State := { s with regs := Tab.set dfltReg s.regs k v }

def set (s : State) (k : Nat) (v : Nat) : State := s.setReg k (BitVec.ofNat 64 v)

/-- Write a signed 40-bit entry (bits 63:40 read zero, R341). -/
def setI (s : State) (k : Nat) (v : Int) : State := s.set k (ofSigned 40 v)

/-- Write a REAL32 entry. -/
def setQ (s : State) (k : Nat) (v : Rat) : State := s.set k (f32 v)

def bit (s : State) (k i : Nat) : Bool := (s.reg k).getLsbD i

def setBit (s : State) (k i : Nat) (b : Bool) : State :=
  s.setReg k (if b then s.reg k ||| (1#64 <<< i) else s.reg k &&& ~~~(1#64 <<< i))

/-- Bits of an entry as a number. -/
def fld (s : State) (k lo w : Nat) : Nat := field (s.rN k) lo w

def setFld (s : State) (k lo w v : Nat) : State := s.set k (putField (s.rN k) lo w v)

/-- Saturating and wrapping counters of `bits` bits. -/
def satInc (s : State) (k bits n : Nat) : State := s.set k (satAdd bits (s.rN k) n)
def wrapInc (s : State) (k bits n : Nat) : State := s.set k (wrapAdd bits (s.rN k) n)

/-- Byte strings: OCTET_STRING and DOMAIN contents. -/
def blob (s : State) (k : Nat) : List Byte := Tab.get (fun _ => []) s.blobs k
def setBlob (s : State) (k : Nat) (b : List Byte) : State := { s with blobs := Tab.set (fun _ => []) s.blobs k b }

/-! ### Ports, groups, slices -/

def px (s : State) (p : Nat) : PortX := Tab.get (fun _ => {}) s.ports p
def setPx (s : State) (p : Nat) (x : PortX) : State := { s with ports := Tab.set (fun _ => {}) s.ports p x }
def modPx (s : State) (p : Nat) (f : PortX → PortX) : State := s.setPx p (f (s.px p))

def gx (s : State) (g : Nat) : GroupX := Tab.get (fun _ => {}) s.groups g
def modGx (s : State) (g : Nat) (f : GroupX → GroupX) : State :=
  { s with groups := Tab.set (fun _ => {}) s.groups g (f (s.gx g)) }

def sx (s : State) (i : Nat) : SliceX := Tab.get (fun _ => {}) s.slices i
def modSx (s : State) (i : Nat) (f : SliceX → SliceX) : State :=
  { s with slices := Tab.set (fun _ => {}) s.slices i (f (s.sx i)) }

def rot (s : State) (g : Nat) : RotX := Tab.get (fun _ => {}) s.cal.rots g
def modRot (s : State) (g : Nat) (f : RotX → RotX) : State :=
  { s with cal := { s.cal with rots := Tab.set (fun _ => {}) s.cal.rots g (f (s.rot g)) } }

def modForce (s : State) (p : Nat) (f : ForceX → ForceX) : State := s.modPx p fun x => { x with force := f x.force }
def modLoop (s : State) (p : Nat) (f : LoopX → LoopX) : State := s.modPx p fun x => { x with loop := f x.loop }
def modLoopY (s : State) (p : Nat) (f : LoopY → LoopY) : State := s.modPx p fun x => { x with loopY := f x.loopY }
def modRange (s : State) (p : Nat) (f : RangeX → RangeX) : State := s.modPx p fun x => { x with range := f x.range }
def modPgen (s : State) (p : Nat) (f : PgenX → PgenX) : State := s.modPx p fun x => { x with pgen := f x.pgen }
def modMeas (s : State) (p : Nat) (f : MeasX → MeasX) : State := s.modPx p fun x => { x with meas := f x.meas }
def modSeq (s : State) (p : Nat) (f : SeqP → SeqP) : State := s.modPx p fun x => { x with seq := f x.seq }
def modFab (s : State) (f : FabX → FabX) : State := { s with fab := f s.fab }

/-- Apply an operation to every number below `n`, in ascending order. -/
def forAll (s : State) (n : Nat) (f : Nat → State → State) : State := (List.range n).foldl (fun s i => f i s) s

/-- Do `f` only if `c` holds. -/
def when (c : Bool) (f : State → State) (s : State) : State := if c then f s else s

/-! ### Scratchpad words -/

/-- The word stored at a scratchpad address; an unwritten word is zero (R258). -/
def spadAt (s : State) (a : Nat) : W40 := Tab.get (fun _ => 0#40) s.spad a

/-- Words of page 0 that read zero and whose writes are discarded (R243). -/
def reservedWord (a : Nat) : Bool := decide (0xC00 ≤ a ∧ a < 0x1000)

/-- Store a whole word, which gives it a correct check word (R251). -/
def spadPut (s : State) (a : Nat) (v : W40) : State :=
  if reservedWord a then s
  else { s with spad := Tab.set (fun _ => 0#40) s.spad a v,
                mem := { s.mem with poison := s.mem.poison.erase a, soft := s.mem.soft.erase a, fix := s.mem.fix.erase a } }

/-- The word is poisoned (R251). -/
def poisoned (s : State) (a : Nat) : Bool := Tab.get (fun _ => false) s.mem.poison a

/-- Store consecutive words from an address. -/
def spadPutAll (s : State) (a : Nat) : List Nat → State
  | [] => s
  | w :: r => (s.spadPut a (BitVec.ofNat 40 w)).spadPutAll (a + 1) r

/-! ### Outputs and micro-actions -/

def out (s : State) (x : Tx) : State := { s with tx := s.tx ++ [x] }

/-- Set up an effect due at a later tick; effects of one tick keep the order in which they were set up. -/
def insertMicro (t : Tick) (m : Micro) : List (Tick × Micro) → List (Tick × Micro)
  | [] => [(t, m)]
  | (u, n) :: r => if t < u then (t, m) :: (u, n) :: r else (u, n) :: insertMicro t m r

def later (s : State) (t : Tick) (m : Micro) : State := { s with micro := insertMicro t m s.micro }

/-! ### Time (R206-R208) -/

/-- TIME_NS of a tick in a segment (R206). -/
def segTime (g : Seg) (t : Tick) : Nat :=
  (((g.n0 : Int) + (((t : Int) - g.t0) * g.rate + 2 ^ 31) / 2 ^ 32) % 2 ^ 64).toNat

/-- The segment that contains a tick, or the oldest retained (R208). -/
def segOf : List Seg → Tick → Seg
  | [], _ => {}
  | [g], _ => g
  | g :: r, t => if g.t0 ≤ t then g else segOf r t

/-- TIME_NS of a tick (R208). -/
def timeNs (s : State) (t : Tick) : Nat := segTime (segOf s.tb.segs t) t

/-! ### Service (R421, R423, R424) -/

/-- The mailbox, the field ports and the ports' service run: provisional service has begun (R421 step 9). -/
def served (s : State) : Bool := decide (9 ≤ s.pwr.boot)

/-- Full service (R424). -/
def full (s : State) : Bool := s.bit Pw.PWR_STATUS PwrStatus.FULL

/-! ### Principals and owners (R236, R344) -/

/-- OD 0x2000.0x01. -/
def deviceOwner (s : State) : Nat := s.rN Dv.OWNER

/-- The owner of the scope of an entry (R344; R386 for DMA channels, R396 for function records, and the entries for which
a rule names another principal: R252, R334). -/
def ownerOf (s : State) (k : Nat) : Nat :=
  match recOf (k / 256) with
  | none => s.rN Dv.OWNER
  | some (r, n) =>
    let sub := k % 256
    match r with
    | .ec => s.rN (Ec.OWNER n)
    | .dl => s.rN (Dl.OWNER n)
    | .tm => s.rN (Tm.OWNER n)
    | .rg => if sub = 3 ∨ sub = 4 ∨ sub = 5 then s.rN Dv.OWNER else s.rN (Rg.OWNER n)
    | .rn => s.rN (Rn.OWNER n)
    | .gr => s.rN (Gr.OWNER n)
    | .pt => s.rN (Pt.OWNER n)
    | .sl => s.rN (Gr.OWNER (n / 9))
    | .ch => s.rN (Ch.OWNER n)
    | .cx => s.rN (Cx.OWNER n)
    | .ls => s.rN (Ls.OWNER n)
    | .ev => if 0x10 ≤ sub ∧ sub < 0x20 then s.rN (Ev.TRIG_OWNER_0 + (sub - 0x10)) else s.rN Dv.OWNER
    | .dm => s.rN (Rn.OWNER n)
    | .fn => n + 1
    | _ => s.rN Dv.OWNER

/-- Whether a principal holds the secure attribute (R446). -/
def secHolder (s : State) (who : Nat) : Bool := s.bit Se.SEC_HOLDERS who

/-- The security attribute of the scope of an entry: S is true (R231, R254, R344). While any scope is S, the recorder
and replay records are S (R407). -/
def anySec (s : State) : Bool :=
  s.sec.blockSec.any (fun e => e.2) ||
  s.regs.any (fun e =>
    match recOf (e.1 / 256) with
    | some (.gr, _) => e.1 % 256 = 2 && e.2 = 1
    | some (.pt, _) => e.1 % 256 = 2 && e.2 = 1
    | some (.ch, _) => e.1 % 256 = 2 && e.2 = 1
    | some (.rg, _) => e.1 % 256 = 2 && e.2 = 1
    | some (.rn, _) => e.1 % 256 = 2 && e.2 = 1
    | some (.cx, _) => e.1 % 256 = 0x22 && e.2 = 1
    | some (.ls, _) => e.1 % 256 = 0x0D && e.2 = 1
    | some (.dv, _) => e.1 % 256 = 2 && e.2 = 1
    | _ => false)

def blockSec (s : State) (i : Nat) : Bool := Tab.get (fun _ => false) s.sec.blockSec i

def secOf (s : State) (k : Nat) : Bool :=
  match recOf (k / 256) with
  | none => false
  | some (r, n) =>
    let sub := k % 256
    match r with
    | .ec => s.blockSec (0x2240 + n)
    | .dl => s.blockSec (0x2280 + n)
    | .tm => s.blockSec (0x2290 + n)
    | .rg => s.bit (Rg.SEC n) 0
    | .rn => s.bit (Rn.SEC n) 0
    | .gr => s.bit (Gr.SEC n) 0
    | .pt => s.bit (Pt.SEC n) 0
    | .sl => s.bit (Gr.SEC (n / 9)) 0
    | .ch => s.bit (Ch.SEC n) 0
    | .cx => s.bit (Cx.SEC n) 0
    | .ls => s.bit (Ls.SEC n) 0
    | .dm => s.bit (Rn.SEC n) 0
    | .ev => if 0x10 ≤ sub ∧ sub < 0x20 then s.blockSec (0x2210 + (sub - 0x10)) else s.bit Dv.SEC 0
    | .rc => s.bit Dv.SEC 0 || s.anySec
    | .rp => s.bit Dv.SEC 0 || s.anySec
    | _ => s.bit Dv.SEC 0

/-! ### The journal (R401-R405) -/

/-- Words of the journal staging area (R243). -/
def stagingWords : Nat := 0x40000

/-- Words waiting in the staging area: the open chunk and the closed ones. -/
def stagedWords (s : State) : Nat := s.rcd.recWords + (s.rcd.staged.map (·.words)).sum

/-- Close the open chunk, if it holds a record (R401). The chunk number is given when it is written (R398); until then it
is the next one after the chunks already staged. -/
def closeChunk (s : State) : State :=
  if s.rcd.recs = [] then s
  else
    let c : Chunk := { no := s.rN Rc.CHUNK_NEXT + s.rcd.staged.length + (if s.rcd.cmd.isSome then 1 else 0),
                       base := s.rcd.baseTick, epoch := s.rN Tb.EPOCH, level := s.rN Rc.J_LEVEL,
                       flags := s.rcd.epochStart.toNat + 2 * s.rcd.gapBefore.toNat,
                       words := s.rcd.recWords, recs := s.rcd.recs }
    { s with rcd := { s.rcd with recs := [], recWords := 0, staged := s.rcd.staged ++ [c],
                                 epochStart := false, gapBefore := false } }

/-- Put one record into the open chunk, with a BASE record where R402 asks for one; a record that does not fit closes the
chunk first (R401). -/
def putRec (s : State) (r : JRec) : State :=
  let fresh := decide (s.rcd.recs = [])
  let needBase := !fresh && (decide (r.tick < s.rcd.base) || decide (s.rcd.base + 2 ^ 18 ≤ r.tick))
  let need := r.words.length + 1 + (if needBase then 3 else 0)
  let s := if !fresh && decide (812 < s.rcd.recWords + need) then s.closeChunk else s
  if s.rcd.recs = [] then
    { s with rcd := { s.rcd with recs := [r], recWords := r.words.length + 1, openSince := s.now,
                                 base := r.tick, baseTick := r.tick } }
  else if needBase then
    let b : JRec := { rtype := 0, src := r.src, tick := r.tick, words := [r.tick % 2 ^ 40, r.tick / 2 ^ 40 % 2 ^ 24] }
    { s with rcd := { s.rcd with recs := s.rcd.recs ++ [b, r], recWords := s.rcd.recWords + need, base := r.tick } }
  else
    { s with rcd := { s.rcd with recs := s.rcd.recs ++ [r], recWords := s.rcd.recWords + need } }

/-- A GAP record (R403): cause and duration. GAP_COUNT and GAP of J_STATUS follow (R405). -/
def putGap (s : State) (src cause : Nat) (start dur : Tick) : State :=
  let s := s.putRec { rtype := 11, src := src, tick := start, words := [cause * 2 ^ 32, dur % 2 ^ 40] }
  (s.satInc Rc.GAP_COUNT 32 1).setBit Rc.J_STATUS JStatus.GAP true

/-- Journal a record at a level (R404): nothing while the recorder does not run; lost while staging is full, with the gap
remembered (R405); a pending gap is written before the next record that fits. -/
def journal (s : State) (level rtype src : Nat) (tick : Tick) (words : List Nat) : State :=
  if !(s.bit Rc.J_STATUS JStatus.RUN) || decide (s.rN Rc.J_LEVEL < level) then s
  else if stagingWords < s.stagedWords + words.length + 8 then
    let s := s.setBit Rc.J_STATUS JStatus.STAGE_FULL true
    { s with rcd := { s.rcd with gapBefore := true, gapCause := some (s.rcd.gapCause.getD (2, s.now)) } }
  else
    let s := match s.rcd.gapCause with
      | some (c, t) => { s.putGap 0x504 c t (s.now - t) with rcd := { (s.putGap 0x504 c t (s.now - t)).rcd with gapCause := none } }
      | none => s
    s.putRec { rtype := rtype, src := src, tick := tick, words := words }

/-- Type codes of R341. -/
def tyCode : Ty → Nat
  | .bool => 1 | .u8 => 7 | .u16 => 8 | .u32 => 9 | .u64 => 10 | .i32 => 4 | .i40 => 5 | .i64 => 6
  | .fsq => 11 | .real => 12 | .time => 13 | .str => 14 | .oct => 15 | .domain => 16

def keyType (key : Nat) : Nat := match odRow key with | some r => tyCode r.ty | none => 0

/-- CONFIG record of a value (R403): at most 40 bits in one word, 64 bits in two. -/
def jConfig (s : State) (key who : Nat) (v : Nat) : State :=
  let ty := keyType key
  let w0 := (key / 256) * 2 ^ 24 + (key % 256) * 2 ^ 16 + who % 256 * 2 ^ 8 + ty
  let wide := ty = 6 ∨ ty = 10 ∨ ty = 13
  s.journal 0 1 0x503 s.now (w0 :: (if wide then [v % 2 ^ 40, v / 2 ^ 40] else [v % 2 ^ 40]))

/-- A value that the device derives: where it changes, it is loaded and journalled (R404). -/
def derived (s : State) (key v : Nat) : State := if s.rN key = v then s else (s.set key v).jConfig key 0xFF v

def derivedQ (s : State) (key : Nat) (v : Rat) : State := s.derived key (f32 v)

/-- `n` words of 5 bytes, least significant byte first. -/
def words5 (n : Nat) (b : List Byte) : List Nat := (List.range n).map fun k => ofLe ((b.drop (5 * k)).take 5)

/-- CONFIG record of a byte string: 5 bytes in a word (R403). -/
def jBytes (s : State) (key who : Nat) (ckpt : Bool) (b : List Byte) : State :=
  let w0 := (key / 256) * 2 ^ 24 + (key % 256) * 2 ^ 16 + who % 256 * 2 ^ 8 + 128 * ckpt.toNat + keyType key
  s.journal 0 1 0x503 s.now (w0 :: words5 ((b.length + 4) / 5) b)

/-- A byte string that the device derives (R404). -/
def derivedBytes (s : State) (key : Nat) (b : List Byte) : State :=
  if s.blob key = b then s else (s.setBlob key b).jBytes key 0xFF false b

/-- Journal a segment (R206, R208); one that begins while the recorder does not run is owed (R207). -/
def jSegment (s : State) (g : Seg) : State :=
  let w : Nat → List Nat := fun n => [n % 2 ^ 40, n / 2 ^ 40 % 2 ^ 24]
  if s.bit Rc.J_STATUS JStatus.RUN then s.journal 0 5 0x500 g.t0 (w g.t0 ++ w g.n0 ++ w g.rate)
  else { s with tb := { s.tb with owed := s.tb.owed ++ [g] } }

/-- The segments owed are journalled, oldest first: the first SEGMENT record of an epoch is that of its initial segment (R207). -/
def jOwed (s : State) : State :=
  s.tb.owed.foldl (fun s g => s.jSegment g) { s with tb := { s.tb with owed := [] } }

/-- EDGE record (R403). -/
def jEdge (s : State) (src kind n : Nat) (t : Tick) : State := s.journal 0 3 src t [kind * 2 ^ 32 + n]

/-- PORT record (R403). -/
def jPort (s : State) (p op detail : Nat) (t : Tick) : State := s.journal 0 4 p t [op * 2 ^ 35 + detail]

/-! ### Carillon events (R218-R225) -/

/-- Producer codes of R219. -/
def prodCode (kind index : Nat) : Nat := kind * 2 ^ 16 + index

/-- Channels that are enabled and name a producer, in ascending order. An enabled channel's CH_EN differs from its
default, so every one of them is listed in `regs`. -/
def channelsOf (s : State) (code : Nat) : List Nat :=
  s.regs.filterMap fun e =>
    match recOf (e.1 / 256) with
    | some (.ch, n) => if e.1 % 256 = 5 ∧ e.2 = (1 : W64) ∧ s.rN (Ch.PRODUCER n) = code then some n else none
    | _ => none

/-- Session `k`, if it is open (R364). -/
def session (s : State) (k : Nat) : Option Session := Tab.get (fun _ => none) s.net.sessions k

def setSession (s : State) (k : Nat) (x : Option Session) : State :=
  { s with net := { s.net with sessions := Tab.set (fun _ => none) s.net.sessions k x } }

/-- An item joins a session's queue of at most 64; one that finds it full is discarded (R369). -/
def addItem (s : State) (k : Nat) (i : Item) (t : Tick) : State :=
  match s.session k with
  | none => s
  | some x =>
    if 64 ≤ x.items.length then (s.satInc (Ss.NOTIFY_LOST k) 32 1).setSession k (some { x with lost := true })
    else s.setSession k (some { x with items := x.items ++ [i], itemAt := if x.items = [] then t else x.itemAt })

/-- An event of a channel with NOTIFY 1 notifies its owner: a function at its intake (R391), a session by an EVENT item (R369). -/
def notifyEvent (s : State) (e gen : Nat) (t : Tick) : State :=
  let o := s.rN (Ch.OWNER e)
  if !s.bit (Ch.NOTIFY e) 0 then s
  else if 1 ≤ o ∧ o ≤ 17 then
    if s.bit (Fn.NQ_EN (o - 1)) 0 then
      { s with pcie := { s.pcie with intake := s.pcie.intake ++ [{ fn := o - 1, chan := e, gen := gen, tick := t }] } }
    else s
  else if 18 ≤ o ∧ o ≤ 21 then s.addItem (o - 18) (.event e gen t (s.timeNs t)) t
  else s

/-- One channel takes an event (R222, R225): dropped at GEN_LIMIT, otherwise counted, timed and put on its way. -/
def channelTake (t : Tick) (gen : Nat) (e : Nat) (s : State) : State :=
  let g := min gen 15
  let w := fun (drop : Bool) => [g * 2 ^ 36 + drop.toNat * 2 ^ 35 + (decide (s.rN Ev.GONG_SRC = e)).toNat * 2 ^ 34]
  if s.rN (Ch.GEN_LIMIT e) ≤ g then
    let s := (s.setBit (Ch.CH_STATUS e) ChStatus.LOOP true).satInc (Ch.LOOP_COUNT e) 32 1
    s.journal 0 2 (0x100 + e) t (w true)
  else
    let s := (s.setBit (Ch.CH_STATUS e) ChStatus.FIRED true).wrapInc (Ch.FIRE_COUNT e) 32 1
    let s := ((s.set (Ch.LAST_TICK e) t).set (Ch.LAST_TIME e) (s.timeNs t)).set (Ch.LAST_GEN e) g
    let s := s.modFab fun f => { f with flights := f.flights ++ [{ due := t + 9, chan := e, gen := g, done := [] }] }
    let s := s.notifyEvent e g t
    s.journal 0 2 (0x100 + e) t (w false)

/-- A channel has at most one event per tick (R218, R234): a second one of the same tick is none. -/
def channelEvent (t : Tick) (gen : Nat) (e : Nat) (s : State) : State :=
  if Tab.get (fun _ => none) s.fab.eventAt e = some t then s
  else channelTake t gen e { s with fab := { s.fab with eventAt := Tab.set (fun _ => none) s.fab.eventAt e (some t) } }

/-- A producer that produces nothing: any in IDLE (R418), a port of a GATED group (R233). -/
def mute (s : State) (kind index : Nat) : Bool :=
  decide (s.rN Pw.POWER_STATE = 4) || (decide (0x10 ≤ kind) && decide (s.rN (Gr.GROUP_STATE (groupOf index)) = 3))

/-- Produce an event of a producer at tick `t` on every channel that names it (R219). -/
def produce (s : State) (kind index : Nat) (t : Tick) (gen : Nat) : State :=
  if s.mute kind index then s else (s.channelsOf (prodCode kind index)).foldl (fun s e => channelEvent t gen e s) s

/-! ### Answers to accesses (R343, R354) -/

/-- Abort codes of R354. -/
def Abort.noIndex : Nat := 0x01010000
def Abort.noSubindex : Nat := 0x01020000
def Abort.typeLength (n : Nat) : Nat := 0x02010000 + n
def Abort.readDenied : Nat := 0x03010000
def Abort.writeDenied : Nat := 0x03020000
def Abort.ownership (owner : Nat) : Nat := 0x04010000 + owner
def Abort.inUse : Nat := 0x05010000
def Abort.deviceState (reason : Nat) : Nat := 0x05020000 + reason
def Abort.lifeCycle (lc : Nat) : Nat := 0x05030000 + lc
def Abort.valueRange (sub : Nat) : Nat := 0x06010000 + sub
def Abort.valueRangeAt (loc sub : Nat) : Nat := 0x06010000 + loc * 256 + sub
def Abort.hardware : Nat := 0x07010000
def Abort.transport (hi lo : Nat) : Nat := 0x08010000 + hi * 256 + lo

/-- The lower of two reasons holds when both do (R355): the first check of a list that fails. -/
def firstAbort : List (Bool × Nat) → Option Nat
  | [] => none
  | (c, a) :: r => if c then some a else firstAbort r

/-- Answer an access with an abort: LAST_ABORT, LAST_ABORT_ENTRY, ABORT_SEEN and OD_ACCESSES (R343). -/
def refuse (s : State) (who key a : Nat) : State :=
  let s := ((s.set Dv.LAST_ABORT a).set Dv.LAST_ABORT_ENTRY (key / 256 * 2 ^ 16 + key % 256 * 2 ^ 8 + who)).setBit Dv.OD_STATUS
    OdStatus.ABORT_SEEN true
  { s.wrapInc Dv.OD_ACCESSES 32 1 with resp := some { who := who, key := key, abort := a, data := [] } }

/-- Answer an access that completed. -/
def accept (s : State) (who key : Nat) (data : List Byte) : State :=
  { s.wrapInc Dv.OD_ACCESSES 32 1 with resp := some { who := who, key := key, abort := 0, data := data } }

/-! ### Commits to flash (R310) -/

/-- Request a commit; it begins when it is the first of the queue. -/
def requestCommit (s : State) (j : Nat) (job : CommitJob) : State :=
  { s with nv := { s.nv with cmds := s.nv.cmds ++ [{ pair := j, data := {}, job := job }] } }

/-- A commit of that job waits or runs. -/
def committing (s : State) (job : CommitJob) : Bool := s.nv.cmds.any (fun c => decide (c.job = job))

/-- Answers that nobody waits for any more: held accesses of an origin are answered to no one (R385). -/
def forgetOrigin (s : State) (o : Origin → Bool) : State :=
  (List.range 16).foldl (fun s g =>
    if (s.gx g).held = [] then s
    else s.modGx g fun x => { x with held := x.held.map fun h => if o h.2.2.origin then (h.1, h.2.1, { h.2.2 with origin := .direct }) else h }) s

/-- The group of a key's scope, if the entry belongs to a group, a port or a slice. -/
def groupOfKey (k : Nat) : Option Nat :=
  match recOf (k / 256) with
  | some (.gr, n) => some n
  | some (.pt, n) => some (n / 8)
  | some (.sl, n) => some (n / 9)
  | _ => none

end State

/-- Outcomes of this model's meanings. -/
abbrev Out := Host.Outcome State Fault Refusal

end Sys2Proof.Machine
end

