-- ==== Sys2Proof/Machine/Operands.lean ====
section
/-!
DEFINITION. Operand forms of an access to the object dictionary: data of a type (R341), the limits of an entry, the
CONFIG state of a scope (R346), the life-cycle locks (R458), ownership (R344, R345), and a command written to an entry.
-/

namespace Sys2Proof.Machine
namespace State

/-- Bytes of a type (R341); none for VISIBLE_STRING, OCTET_STRING and DOMAIN. -/
def tyBytes : Ty → Option Nat
  | .bool => some 1 | .u8 => some 1 | .u16 => some 2 | .u32 => some 4 | .u64 => some 8
  | .i32 => some 4 | .i40 => some 5 | .i64 => some 8 | .fsq => some 5 | .real => some 4 | .time => some 8
  | .str => none | .oct => none | .domain => none

/-- Fixed lengths of the OCTET_STRING entries. -/
def octLen (key : Nat) : Nat :=
  match recOf (key / 256) with
  | some (.pt, _) => 19          -- RANGE_MAP
  | some (.id, _) => 8           -- SERIAL
  | some (.ne, _) => if key % 256 = 1 then 6 else 16
  | some (.sl, _) => 132         -- SEG_MAP
  | some (.ky, _) => 32          -- KEY
  | _ => 0

/-- Text of the identity strings (R342). -/
def textBytes (t : String) : List Byte := t.toList.map (fun c => BitVec.ofNat 8 c.toNat)

/-- Contents of a byte-string entry that nothing has written. -/
def blobDefault (key : Nat) : List Byte :=
  if key = Id.VENDOR then textBytes "Orosto Microsystems"
  else if key = Id.PRODUCT then textBytes "Sisafer SF2128"
  else if key = Id.PART_NUMBER then textBytes "SF2128"
  else if key = Id.STEPPING then textBytes "A0"
  else if key = Fb.BANK_MAP then (List.range 64).map (BitVec.ofNat 8)
  else List.replicate (octLen key) 0#8

/-- The bytes of a byte-string entry. -/
def bytesOf (s : State) (key : Nat) : List Byte := if s.blob key = [] then blobDefault key else s.blob key

/-- The limits an INT_SPEC must meet (R78). -/
def intSpecOk (v : Nat) : Bool :=
  let c := field v 0 30
  match field v 30 2 with
  | 0 => decide (4 ≤ c ∧ c ≤ 10240000)
  | 1 => decide (1 ≤ c ∧ c ≤ 500)
  | 2 => decide (1 ≤ c ∧ c ≤ 600)
  | _ => false

/-- The limits that an entry's own text states for a value `v` (raw image of the type's width). -/
def limOk (l : Lim) (ty : Ty) (v : Nat) : Bool :=
  let base := if ty = .bool then decide (v ≤ 1) else true
  base && match l with
  | .any => true
  | .finite => finiteF32 v
  | .intSpec => intSpecOk v
  | .chan => decide (v < 1024 ∨ v = 0xFFFF)
  | .ring => decide (v < 32 ∨ v = 0xFF)
  | .portOrNone => decide (v < 128 ∨ v = 0xFF)
  | .ctxOrNone => decide (v < 4096 ∨ v = 0xFFFF)
  | .trigCfg =>
    let e := field v 16 16
    decide (e < 1024 ∨ e = 0xFFFF) && decide (field v 8 8 ≠ 0) && decide (field v 4 4 = 0) && decide (field v 0 2 ≠ 3)
  | .t1l => decide (field v 0 2 ≠ 3) && decide (field v 2 2 ≠ 3)
  | .pageAligned => decide (v % 4096 = 0)
  | .tampAction => (List.range 5).all (fun i => decide (field v (2 * i) 2 ≠ 3)) && decide (v < 1024)
  | .le n => decide (v ≤ n)
  | .rng lo hi => decide (lo ≤ v ∧ v ≤ hi)
  | .zeroOr lo hi => decide (v = 0 ∨ (lo ≤ v ∧ v ≤ hi))
  | .srng lo hi => decide (lo ≤ toSigned 40 v ∧ toSigned 40 v ≤ hi)
  | .oneOf xs => decide (v ∈ xs)
  | .mask m => decide (v &&& m = v)
  | .w1c _ => true
  | .real lo hi => match ofF32 v with | .fin q => decide (lo ≤ q ∧ q ≤ hi) | _ => false
  | .realZeroOr lo hi => match ofF32 v with | .fin q => decide (q = 0 ∨ (lo ≤ q ∧ q ≤ hi)) | _ => false

/-- The scope of an entry is in CONFIG (R346). -/
def inConfig (s : State) (key : Nat) : Bool :=
  match recOf (key / 256) with
  | none => true
  | some (r, n) =>
    match r with
    | .gr => decide (s.rN (Gr.GROUP_STATE n) = 2)
    | .pt => decide (s.rN (Gr.GROUP_STATE (n / 8)) = 2)
    | .sl => decide (s.rN (Gr.GROUP_STATE (n / 9)) = 2)
    | .cx => decide (s.rN (Cx.RUN_STATE n) ∈ [0, 3, 4, 5])
    | .ls => decide (s.rN (Ls.REF_COUNT n) = 0)
    | .ch => !s.bit (Ch.CH_EN n) 0
    | .rg => !s.bit (Rg.REGION_EN n) 0
    | .rn => !s.bit (Rn.RING_EN n) 0
    | .rp => decide (s.rN Rp.RP_STATE ∈ [0, 3])
    | _ => s.bit Dv.DEVICE_CONFIG 0

/-- A write that the life-cycle state locks (R458). -/
def lcLocked (s : State) (who key : Nat) : Bool :=
  let lc := s.rN Id.LIFE_CYCLE
  if lc = 2 then
    decide (key = Se.SEC_HOLDERS ∨ key = Se.TAMP_EN ∨ key = Se.TAMP_ACTION) ||
      (match recOf (key / 256) with | some (.ky, _) => decide (key % 256 = 1 ∨ key % 256 = 4) | _ => false)
  else if lc = 4 then !(decide (who = 1) && decide (key = Rc.JR_START ∨ key = Rc.JR_COUNT))
  else false

/-- An S channel, which only a principal with the secure attribute may write (R231). -/
def secChannel (s : State) (key : Nat) : Bool := match recOf (key / 256) with | some (.ch, e) => s.bit (Ch.SEC e) 0 | _ => false

/-- Check 5 of R345: the writer owns the scope, or is a principal that a rule names: PF0 for the journal read-out of a DECOMMISSIONED
device (R458), and in recovery (R426). -/
def ownerAbort (s : State) (who key : Nat) : Option Nat :=
  if s.secChannel key && !s.secHolder who then some (Abort.ownership (s.ownerOf key))
  else if s.ownerOf key = who then none
  else if who = 1 ∧ s.rN Id.LIFE_CYCLE = 4 ∧ (key = Rc.JR_START ∨ key = Rc.JR_COUNT) then none
  else if who = 1 ∧ s.bit Fw.FW_STATUS FwStatus.RECOVERY = true then none
  else some (Abort.ownership (s.ownerOf key))

/-- Check 6, the life-cycle locks (R458). -/
def lockAbort (s : State) (who key : Nat) : Option Nat :=
  if s.lcLocked who key then some (Abort.lifeCycle (s.rN Id.LIFE_CYCLE)) else none

/-- The access right of an entry. -/
def accOf (key : Nat) : Option Acc := (odRow key).map (·.acc)

/-- Check 6, objects in use: an RWC entry outside CONFIG (R346), a sweep list that is on a run queue (R16), PRIV_PORT of a completed
substitution (R36), a running DMA channel (R386), an enabled notification queue (R396), and a rail that is not OFF (R445). -/
def inUse (s : State) (key : Nat) : Bool :=
  (decide (accOf key = some .rwc) && !s.inConfig key) ||
  match recOf (key / 256) with
  | some (.ls, n) => decide (s.rN (Ls.REF_COUNT n) ≠ 0)
  | some (.gr, g) => decide (key = Gr.PRIV_PORT g) && decide (s.rN (Gr.RELIEF_MODE g) = 1)
  | some (.dm, r) => decide (key = Dm.DESC_BASE r ∨ key = Dm.DESC_LOG2 r ∨ key = Dm.FORMAT r) && s.bit (Dm.DMA_EN r) 0
  | some (.fn, f) => decide (key = Fn.NQ_BASE f ∨ key = Fn.NQ_LOG2 f) && s.bit (Fn.NQ_EN f) 0
  | some (.rl, n) =>
    decide (key = Rl.RAIL_ADDR n ∨ key = Rl.RAIL_PAGE n ∨ key = Rl.RAIL_ROLE n ∨ key = Rl.RAIL_GROUP n) && decide (s.rN (Rl.RAIL_STATE n) ≠ 0)
  | _ => false

def useAbort (s : State) (key : Nat) : Option Nat := if s.inUse key then some Abort.inUse else none

/-- In IDLE the entries that CP_1, CP_2 and CP_4 serve are not accessible (R12, R418). -/
def idleKey (s : State) (key : Nat) : Bool :=
  decide (s.rN Pw.POWER_STATE = 4) &&
    match recOf (key / 256) with
    | some (r, _) => decide (r ∈ [.ca, .pt, .sl, .ch, .cx, .ls, .ag])
    | none => false

/-- The conditions of a command with those of R418: of two device-state reasons the lower one holds (R355). -/
def stateAbort (s : State) (key : Nat) (chk : Option Nat) : Option Nat :=
  if s.idleKey key then
    match chk with
    | some a => if Abort.deviceState 1 ≤ a ∧ a < Abort.deviceState 6 then some a else some (Abort.deviceState 6)
    | none => some (Abort.deviceState 6)
  else chk

/-- The first abort of a list of checks. -/
def orElse' (a b : Option Nat) : Option Nat := match a with | some x => some x | none => b

/-- In recovery the OD serves only 0x1000 and 0x2002, to P_SUP and PF0 (R426). -/
def reaches (s : State) (who key : Nat) : Bool :=
  if s.bit Fw.FW_STATUS FwStatus.RECOVERY then decide (key / 256 = 0x1000 ∨ key / 256 = 0x2002) && decide (who ≤ 1)
  else s.served

/-- Checks 5 to 7 of R345 in their order; `own` is check 5 and `chk` the entry's own conditions. -/
def writeAbort (s : State) (who key : Nat) (own chk : Option Nat) : Option Nat :=
  orElse' own (orElse' (s.useAbort key) (orElse' (s.lockAbort who key) (s.stateAbort key chk)))

/-- A write of an entry by a principal, for an entry that a rule opens to other principals than the owner: `own` decides check 5. It is
refused with the first failing check (R345), with the sticky flag `mark` that a rule names for the refused case; otherwise `eff` is
applied, which also answers. An access that arrives while the device does not serve it does nothing (R421, R426). -/
def cmdRun (who key : Nat) (own : State → Option Nat) (chk : State → Option Nat) (mark : Nat → State → State) (eff : State → State)
    (s : State) : State :=
  if s.reaches who key then
    match s.writeAbort who key (own s) (chk s) with
    | some a => (mark a s).refuse who key a
    | none => eff s
  else s

/-- As `cmdRun`, for an effect after which the access completes at once. The write of `v` is journalled (R404). -/
def cmdWriteBy (who key v : Nat) (own : State → Option Nat) (chk : State → Option Nat) (mark : Nat → State → State) (eff : State → State)
    (s : State) : State :=
  cmdRun who key own chk mark (fun s => (eff (s.jConfig key who v)).accept who key []) s

/-- A write by the owner of the scope. -/
def cmdWrite (who key v : Nat) (chk : State → Option Nat) (mark : Nat → State → State) (eff : State → State) (s : State) : State :=
  cmdWriteBy who key v (fun s => s.ownerAbort who key) chk mark eff s

/-- A write by the owner whose effect answers: it goes through a group controller (R13). -/
def cmdSubmit (who key : Nat) (chk : State → Option Nat) (mark : Nat → State → State) (eff : State → State) (s : State) : State :=
  cmdRun who key (fun s => s.ownerAbort who key) chk mark eff s

/-- No sticky flag for a refusal. -/
def noMark (_ : Nat) (s : State) : State := s

/-- CFG_STATE becomes DIRTY (R352). -/
def markDirty (s : State) : State := s.when (decide (s.rN Dv.CFG_STATE = 0)) fun s => s.set Dv.CFG_STATE 1

/-- The configuration is written: CFG_STATE becomes DIRTY (R352), and the value is journalled (R404). -/
def dirty (s : State) (who key v : Nat) : State :=
  s.markDirty.jConfig key who v

/-! ### Group controller queues (R13, R14) -/

/-- Entries of the 64-entry command queue of a group controller (R11). -/
def gcDepth : Nat := 64

/-- The value in force of a port entry: the value before the first write of it that still waits in the queue (R14). -/
def live (s : State) (p key : Nat) : Nat :=
  let q := (s.gx (groupOf p)).queue
  match q.find? (fun c => match c.op with | .setEntry k _ _ => decide (k = key) | _ => false) with
  | some { op := .setEntry _ old _, .. } => old
  | _ => s.rN key

def liveI (s : State) (p key : Nat) : Int := toSigned 40 (s.live p key)
def liveQ (s : State) (p key : Nat) : Rat := ratF32 (s.live p key)
def liveFld (s : State) (p key lo w : Nat) : Nat := field (s.live p key) lo w

/-- Put a command at the end of a group controller's queue. A written entry reads its new value from now on (R353). -/
def gcPush (s : State) (c : GcCmd) : State :=
  let c := match c.op with
    | .setEntry k _ v => { c with op := .setEntry k (s.rN k) v }
    | _ => c
  let s := s.modGx (groupOf c.port) fun g => { g with queue := g.queue ++ [c] }
  match c.op with
  | .setEntry k _ v => s.set k v
  | _ => s

/-- Submit a command: queued and answered, or held while the queue is full (R13, R343). -/
def gcSubmit (s : State) (who key v : Nat) (c : GcCmd) : State :=
  let c := { c with who := who, key := key, val := v, origin := s.od.origin }
  if (s.gx (groupOf c.port)).queue.length < gcDepth ∧ (s.gx (groupOf c.port)).held = [] then
    (s.gcPush c).accept who key []
  else
    ((s.modGx (groupOf c.port) fun g => { g with held := g.held ++ [(who, key, c)] }).wrapInc Dv.OD_HELD 16 1).setBit
      Dv.OD_STATUS OdStatus.HELD_SEEN true

/-- Commands of a port that wait for its tick boundary, in order. -/
def gcOf (s : State) (p : Nat) : List GcCmd := (s.gx (groupOf p)).queue.filter (fun c => decide (c.port = p))

/-- The loop of the port runs, so that changes wait for a tick boundary (R14). -/
def ticking (s : State) (p : Nat) : Bool := decide (s.rN (Pt.PORT_STATE p) ≠ 0)

/-- Entries that take effect at a tick boundary of the port, OFF or not: the loop's, the ranging and the comparator entries (R124, R145, R169). Tick
boundaries exist whether or not the port is enabled (R105). -/
def edgeSub (sub : Nat) : Bool :=
  decide (0x10 ≤ sub ∧ sub ≤ 0x2F) || decide (0xA0 ≤ sub ∧ sub ≤ 0xAB) || decide (0xC0 ≤ sub ∧ sub ≤ 0xD8)

/-- A written entry of the port waits for the next tick boundary. DESIGN CHOICE (log entry 100): in a GATED group, whose ports have no tick, it takes
effect at once. -/
def portWaits (s : State) (p key : Nat) : Bool := s.ticking p || (edgeSub (key % 256) && decide (s.rN (Gr.GROUP_STATE (groupOf p)) ≠ 3))

end State
end Sys2Proof.Machine
end

