-- ==== Sys2Proof/Machine/Flags.lean ====
section
/-!
DEFINITION. The read-only status bits that follow from the state of a port: PORT_STATUS (R348), FORCE_STATUS (R74),
PGEN_STATUS (R173), CMP_STATUS (R170), LOOP_STATUS (R125) and MEAS_STATUS (R103). `syncPort` brings all of them up to
date; every operation that changes what they report ends with it.
-/

namespace Sys2Proof.Machine
namespace State

/-! ### Conditions of a port -/

def portState (s : State) (p : Nat) : Nat := s.rN (Pt.PORT_STATE p)
/-- Enabled: from "Enable accepted" until OFF (R156). -/
def enabled (s : State) (p : Nat) : Bool := decide (s.portState p ≠ 0)
def portOn (s : State) (p : Nat) : Bool := decide (s.portState p = 2)
def tripped (s : State) (p : Nat) : Bool := s.bit (Pt.PGEN_STATUS p) PgenStatus.TRIPPED
def cleared (s : State) (p : Nat) : Bool := s.bit (Pt.FORCE_STATUS p) ForceStatus.CLEARED
/-- Output stage on. -/
def oe (s : State) (p : Nat) : Bool := s.bit (Pt.FORCE_STATUS p) ForceStatus.OE
def groupState (s : State) (g : Nat) : Nat := s.rN (Gr.GROUP_STATE g)
def gated (s : State) (p : Nat) : Bool := decide (s.groupState (groupOf p) = 3)
/-- FLT_IN is high or GND_FAULT is active, which the loop treats alike (R43, R45). -/
def inFault (s : State) (p : Nat) : Bool := (s.px p).flt || (s.px p).gnd
/-- A clear cause of the port is active (R43, R65, R66, R440). In a GATED group a fault of the port forces no clear code (R45). -/
def clearCause (s : State) (p : Nat) : Bool := s.pwr.clrLow || s.pwr.pfwClear || (s.inFault p && !s.gated p)
/-- A force transfer of the port is in its overlap (R30). -/
def inTransfer (s : State) (p : Nat) : Bool := decide ((s.gx (groupOf p)).overlap = some p)
/-- A make-before-break step of the port is running (R132): RNG_BUSY. -/
def rngBusy (s : State) (p : Nat) : Bool := s.bit (Pt.RNG_STATUS p) RngStatus.RNG_BUSY
/-- A running step or its GUARD. -/
def inGuard (s : State) (p : Nat) : Bool := (s.px p).range.step.isSome
/-- A span change runs (steps 1-4 of R60). -/
def spanStep (s : State) (p : Nat) : Nat := s.fld (Pt.FORCE_STATUS p) ForceStatus.SPAN_STEP 2
/-- PV and PI use two banks (R117). -/
def pulsed (s : State) (p : Nat) : Bool := decide (3 ≤ s.rN (Pt.MODE_ACTIVE p))
/-- The slice in DRIVE is WORN (HEALTH_STATE 2 of R334). -/
def driveWorn (s : State) (p : Nat) : Bool :=
  let i := s.rN (Pt.DRIVE_SLICE p)
  decide (i < 144) && decide (s.rN (Sl.HEALTH_STATE i) = 2)

/-! ### The pulse level (R164) -/

/-- The rise and fall of pulse `j` of a train. -/
def riseOf (tr : Train) (j : Nat) : Tick := tr.e0 + 32 * (tr.d + j * tr.p)
def fallOf (tr : Train) (j : Nat) : Tick := riseOf tr j + 32 * tr.w

/-- The level at an edge is the level after any change scheduled for that edge (R164). -/
def levelAt (x : PgenX) (t : Tick) : Bool :=
  match x.train with
  | none => x.level
  | some tr =>
    match tr.cutAt with
    | some c => decide (tr.rose ≠ tr.fell) && decide (t < c) && decide (t < fallOf tr tr.fell)
    | none =>
        if tr.rose = tr.fell then
          !tr.stopAfterFall && decide ((tr.n = 0 ∨ tr.rose < tr.n) ∧ riseOf tr tr.rose ≤ t)
        else decide (t < fallOf tr tr.fell)

/-! ### Status words -/

/-- Set several bits of a status word. -/
def setBits (s : State) (k : Nat) (l : List (Nat × Bool)) : State := l.foldl (fun s e => s.setBit k e.1 e.2) s

def syncPortStatus (s : State) (p : Nat) : State :=
  s.setBits (Pt.PORT_STATUS p)
    [(PortStatus.FLT, (s.px p).flt), (PortStatus.GND, (s.px p).gnd), (PortStatus.TRIPPED, s.tripped p),
     (PortStatus.CLEAR, s.pwr.clrLow || s.cleared p), (PortStatus.WORN, s.driveWorn p),
     (PortStatus.PROVISIONAL, !s.full)]

def syncForceStatus (s : State) (p : Nat) : State :=
  s.setBits (Pt.FORCE_STATUS p)
    [(ForceStatus.CLR_PIN, s.pwr.clrLow), (ForceStatus.FLT_CLR, (s.px p).flt && s.oe p && !s.gated p),
     (ForceStatus.RAMP, (s.px p).force.ramp.isSome && (s.px p).force.clearCore.isNone)]

/-- A trip-enabled comparator of the port is within t_EN while the gate is permitted (R154). -/
def blind (s : State) (p : Nat) : Bool :=
  let x := s.px p
  let en := s.live p (Pt.TRIP_EN p)
  x.pgen.permit && ((x.cmpV.startEnd.isSome && decide (field en 0 2 ≠ 0)) || (x.cmpI.startEnd.isSome && decide (field en 2 2 ≠ 0)))

/-- PG_GATE as it should stand (R46, R160, R166). -/
def gateWanted (s : State) (p : Nat) : Bool :=
  let x := (s.px p).pgen
  x.permit && !s.tripped p && !s.gated p &&
    (if bitOf (s.live p (Pt.PGEN_CFG p)) PgenCfg.GATE_MODE then x.gateLvl else true)

/-- Drive PG_GATE. -/
def syncGate (s : State) (p : Nat) : State :=
  let want := s.gateWanted p
  let s := if want = (s.px p).pgen.pin then s else (s.modPgen p fun x => { x with pin := want }).out (.pgGate p want)
  s.setBit (Pt.PGEN_STATUS p) PgenStatus.GATE want

def syncPgenStatus (s : State) (p : Nat) : State :=
  let x := (s.px p).pgen
  let run := x.train.isSome
  let delay := match x.train with | some tr => decide (tr.rose = 0) && decide (s.now < riseOf tr 0) | none => false
  let stopping := match x.train with | some tr => tr.stopAfterFall | none => false
  s.setBits (Pt.PGEN_STATUS p)
    [(PgenStatus.RUN, run), (PgenStatus.DELAY, delay), (PgenStatus.STOPPING, stopping), (PgenStatus.LEVEL, x.level),
     (PgenStatus.BLIND, s.blind p)]

def syncCmpStatus (s : State) (p : Nat) : State :=
  let x := s.px p
  ((s.setFld (Pt.CMP_STATUS p) CmpStatus.STATE_V 2 x.cmpV.state).setFld (Pt.CMP_STATUS p) CmpStatus.STATE_I 2
    x.cmpI.state).setBits (Pt.CMP_STATUS p)
      [(CmpStatus.STARTING_V, x.cmpV.startEnd.isSome), (CmpStatus.STARTING_I, x.cmpI.startEnd.isSome)]

/-- The loop holds for a ramp, a span change or a clear (R122): HOLD. -/
def rampHold (s : State) (p : Nat) : Bool :=
  let x := (s.px p).force
  x.ramp.isSome || x.clearCore.isSome || s.cleared p || decide (s.spanStep p ≠ 0)

/-- The loop is closed: the port is enabled and no hold of R122 applies (R121). Before step 4 of R64 has ended the loop
has not started. -/
def loopClosed (s : State) (p : Nat) : Bool := s.portOn p && !s.rampHold p && !s.tripped p && !(s.px p).loopY.rngHeld

/-- The loop has not been stopped by the disable sequence (R122). -/
def loopLives (s : State) (p : Nat) : Bool := s.enabled p && decide (s.portState p ≠ 3)

def syncLoopStatus (s : State) (p : Nat) : State :=
  s.setBits (Pt.LOOP_STATUS p)
    [(LoopStatus.CLOSED, s.loopClosed p), (LoopStatus.HOLD, s.loopLives p && s.rampHold p),
     (LoopStatus.TRIP_HOLD, s.loopLives p && s.tripped p), (LoopStatus.PROV, !s.full),
     (LoopStatus.FLOOR, decide (1 < s.rN (Pt.DIV_FLOOR p)) || decide (s.rN (Pt.SP_STEP_CAP p) ≠ 0))]

/-- Fast blocks are formed while FAST_EN is 1 and the port is ON in full service (R103). -/
def fastRun (s : State) (p : Nat) : Bool := decide (s.live p (Pt.FAST_EN p) = 1) && s.portOn p && s.full

def syncMeasStatus (s : State) (p : Nat) : State :=
  s.setBits (Pt.MEAS_STATUS p)
    [(MeasStatus.FAST_RUN, s.fastRun p)]

/-- Bring every derived status bit of a port up to date. -/
def syncPort (s : State) (p : Nat) : State :=
  ((((((s.syncGate p).syncPortStatus p).syncForceStatus p).syncPgenStatus p).syncCmpStatus p).syncLoopStatus p).syncMeasStatus p

def syncAll (s : State) : State := s.forAll 128 fun p s => s.syncPort p

end State
end Sys2Proof.Machine
end

