-- ==== Sys2Proof/Machine/Force.lean ====
section
/-!
DEFINITION. The force path of a slice (R51-R62): spans and codes, the noise shaper, the pending and active code registers,
strikes, the ramp generator, clears, the codes in force that read-back compares with (R69), and compliance marking (R115).
-/

namespace Sys2Proof.Machine

/-! ### Spans and codes (R51, R52) -/

def spanBipolar (sp : Nat) : Bool := decide (sp ≤ 1)

/-- Span full scale in volts. -/
def spanFS (sp : Nat) : Rat := if sp = 0 then mkRat 5 2 else if sp = 3 then 10 else 5

/-- The negative end of a span in volts. -/
def spanMin (sp : Nat) : Rat := if sp = 0 then mkRat (-5) 2 else if sp = 1 then -5 else 0

/-- Width of a span in volts. -/
def spanWidth (sp : Nat) : Rat := if sp = 0 ∨ sp = 2 then 5 else 10

def topCode : Nat := 2 ^ 24 - 16

/-- Clamp of R52, with FCLIP. -/
def clipCode (d : Int) : Nat × Bool := if d < 0 then (0, true) else if (topCode : Int) < d then (topCode, true) else (d.toNat, false)

/-- The 24-bit code of a force output `u` (R52), with FCLIP. -/
def codeOf (sp : Nat) (u : Int) : Nat × Bool :=
  if spanBipolar sp then clipCode (2 ^ 23 + (u + 2 ^ 13) / 2 ^ 14) else clipCode ((u + 2 ^ 12) / 2 ^ 13)

/-- The code of a voltage, with u = V / span full scale × 2^37 (R59). -/
def codeOfVolts (sp : Nat) (v : Rat) : Nat :=
  let u := v / spanFS sp * (2 ^ 37 : Nat)
  if spanBipolar sp then (clipCode (2 ^ 23 + ((u + (2 ^ 13 : Nat)) / (2 ^ 14 : Nat)).floor)).1
  else (clipCode ((u + (2 ^ 12 : Nat)) / (2 ^ 13 : Nat)).floor).1

/-- The differential voltage of a code (R52). -/
def voltsOf (sp code : Nat) : Rat := spanMin sp + (code : Rat) * spanWidth sp / (2 ^ 24 : Nat)

/-- A voltage lies inside a span (R59). -/
def insideSpan (sp : Nat) (v : Rat) : Bool := decide (spanMin sp ≤ v) && decide (v ≤ spanFS sp)

/-- The hardware clear code of a span as a 24-bit code (R63). -/
def hwClear (sp : Nat) : Nat := if spanBipolar sp then 0x800000 else 0

/-! ### Ramps (R58) -/

/-- CLK_FAST edges in (a, b]. -/
def edgesIn (a b : Tick) : Nat := b / 32 - a / 32

/-- The code of a ramp at a tick: equal steps on every CLK_FAST edge. Which of the two codes around an exact step that is no whole
code is taken is a free value. -/
def rampCode (r : Ramp) (t : Tick) : Nat :=
  if r.finish ≤ t then r.toCode
  else
    let n := edgesIn r.start r.finish
    let k := edgesIn r.start t
    let d := ((r.toCode : Int) - r.fromCode) * k
    let up := decide (d % n ≠ 0) && Config.rampUpper r.fromCode r.toCode k n
    ((r.fromCode : Int) + d / n + (if up then 1 else 0)).toNat

/-- The number of CLK_FAST edges of a ramp: |ΔV| / SLEW_RATE, rounded up to whole 50 ns edges (R58). -/
def rampEdges (sp a b : Nat) (slew : Rat) : Nat :=
  (ceilR (absR (voltsOf sp b - voltsOf sp a) / slew * 20000000)).toNat

/-- A ramp from `t`: it ends on the edge at which it reaches its target. -/
def mkRamp (kind : RampKind) (sp a b : Nat) (slew : Rat) (t : Tick) : Ramp :=
  let n := rampEdges sp a b slew
  { kind := kind, fromCode := a, toCode := b, start := t, finish := if n = 0 then t else (t / 32 + n) * 32 }

namespace State

/-! ### The shaper (R53) -/

/-- The code that feeds the shaper at a tick. -/
def feed (s : State) (p : Nat) (t : Tick) : Nat :=
  let f := (s.px p).force
  match f.clearCore, f.ramp with
  | none, some r => rampCode r t
  | _, _ => s.rN (Pt.DAC_CODE p)

/-- The 24-bit active code D now. -/
def activeCode (s : State) (p : Nat) : Nat := s.feed p s.now

/-- The accumulator and the 20-bit core code after the last CLK_FAST edge at or before `t`. The sum of an edge carries exactly where the
accumulator that it leaves is below the fraction that it added. -/
def shaperAt (s : State) (p : Nat) (t : Tick) : Nat × Nat :=
  let f := (s.px p).force
  if t / 32 ≤ f.accTick / 32 then (f.acc, f.core)
  else
    let n := edgesIn f.accTick t
    let sum := match f.clearCore, f.ramp with
      | none, some r => (List.range n).foldl (fun a k => a + rampCode r ((f.accTick / 32 + 1 + k) * 32) % 16) 0
      | _, _ => n * (s.rN (Pt.DAC_CODE p) % 16)
    let d := s.feed p (t / 32 * 32)
    let acc := (f.acc + sum) % 16
    (acc, d / 16 + (decide (acc < d % 16)).toNat)

/-- The 20-bit core code at a tick (R53, R54): the upper bits of the active code, or one more where the shaper carries. Under a clear it
is the clear code, whose fraction is zero (R65). -/
def coreCode (s : State) (p : Nat) (t : Tick) : Nat := (s.shaperAt p t).2

/-- Bring the shaper up to the last CLK_FAST edge at or before `t`. -/
def shaperTo (s : State) (p : Nat) (t : Tick) : State :=
  if t / 32 ≤ (s.px p).force.accTick / 32 then s
  else
    let a := s.shaperAt p t
    s.modForce p fun f => { f with acc := a.1, core := a.2, accTick := t / 32 * 32 }

/-- Reset the accumulator at `t` (R53): an edge at `t` itself adds to it again, as the shaper uses a code from its edge on (R57). -/
def shaperReset (s : State) (p : Nat) (t : Tick) : State :=
  s.modForce p fun f => { f with acc := 0, accTick := (t - 1) / 32 * 32 }

/-! ### Codes in force over the last 4 µs (R69) -/

def us4 : Nat := 2560

/-- Drop codes older than 4 µs, but for the last of them. -/
def pruneCodes (t : Tick) : List CodeAt → List CodeAt
  | a :: b :: r => if b.since + us4 ≤ t then pruneCodes t (b :: r) else a :: b :: r
  | l => l

/-- Set the active code from tick `t`. -/
def setCode (s : State) (p code : Nat) (t : Tick) : State :=
  let s := s.shaperTo p (t - 1)
  let sp := s.rN (Pt.SPAN_ACTIVE p)
  (s.set (Pt.DAC_CODE p) code).modForce p fun f =>
    { f with codes := pruneCodes t f.codes ++ [{ since := t, code := code, span := sp }] }

/-- V_diff in force at a tick. -/
def voltsAt (s : State) (p : Nat) (t : Tick) : Rat :=
  let f := (s.px p).force
  let e := (f.codes.reverse.find? (fun c => decide (c.since ≤ t))).getD
    (f.codes.headD { since := 0, code := s.rN (Pt.DAC_CODE p), span := s.rN (Pt.SPAN_ACTIVE p) })
  let r := match f.ramp with | some r => some r | none => f.lastRamp
  match r with
  | some r => if decide (e.since ≤ r.start) && decide (r.start ≤ t) && f.clearCore.isNone then voltsOf e.span (rampCode r t) else voltsOf e.span e.code
  | none => voltsOf e.span e.code

/-- Maximum minus minimum of V_diff over the codes in force in [t − 4 µs, t) (R69). -/
def voltsSpread (s : State) (p : Nat) (t : Tick) : Rat :=
  let f := (s.px p).force
  let inner := (f.codes.filter (fun c => decide (t < c.since + us4) && decide (c.since < t))).flatMap
    fun c => [s.voltsAt p c.since, s.voltsAt p (c.since - 1)]
  let ends := [s.voltsAt p (t - us4), s.voltsAt p (t - 1)]
  let l := ends ++ inner
  let hi := l.foldl max (s.voltsAt p (t - 1))
  let lo := l.foldl min (s.voltsAt p (t - 1))
  hi - lo

/-! ### SAFE_VALUE and the clear codes -/

def safeVolts (s : State) (p : Nat) : Rat := s.liveQ p (Pt.SAFE_VALUE p)

/-- SAFE_VALUE as a code of a span (R59). -/
def safeCode (s : State) (p sp : Nat) : Nat := codeOfVolts sp (s.safeVolts p)

/-- The clear code of SPAN_ACTIVE, a 20-bit core code (R65). -/
def clearCode (s : State) (p : Nat) : Nat := s.live p (Pt.CLEAR_CODE_0 p + s.rN (Pt.SPAN_ACTIVE p)) % 2 ^ 20

def slewRate (s : State) (p : Nat) : Rat := s.liveQ p (Pt.SLEW_RATE p)

/-! ### Compliance (R115) -/

/-- The selection in force: that of the bank whose value the active register holds. -/
def selInForce (s : State) (p : Nat) : Nat :=
  let x := s.px p
  if s.pulsed p && decide (x.force.appliedBank = 1) then x.loopY.selF1 else x.loopY.selF0

/-- End the compliance interval, if one is open. -/
def complExit (s : State) (p : Nat) (t : Tick) : State :=
  if (s.px p).loopY.compl then
    ((s.modLoopY p fun y => { y with compl := false }).modMeas p fun m =>
      { m with complIv := m.complIv.map fun iv => if iv.2.isNone then (iv.1, some t) else iv }).produce 0x19 p t 0
  else s

/-- Begin a compliance interval. -/
def complEnter (s : State) (p : Nat) (t : Tick) : State :=
  let s := (s.modLoopY p fun y => { y with compl := true }).modMeas p fun m => { m with complIv := m.complIv ++ [(t, none)] }
  let s := (s.satInc (Pt.COMPL_COUNT p) 32 1).setBit (Pt.LOOP_STATUS p) LoopStatus.COMPL_SEEN true
  s.produce 0x18 p t 0

/-- A selection comes into force at `t`: a change between HI and LO is one exit and one entry (R115). -/
def complUpdate (s : State) (p : Nat) (t : Tick) : State :=
  let sel := s.selInForce p
  let old := (s.px p).loopY.complSel
  if sel = old then s
  else
    let s := s.modLoopY p fun y => { y with complSel := sel }
    let s := s.complExit p t
    if sel = 0 then s else s.complEnter p t

/-- The loop stops: the interval ends (R115). -/
def complStop (s : State) (p : Nat) (t : Tick) : State :=
  (s.complExit p t).modLoopY p fun y => { y with complSel := 0, selF0 := 0, selF1 := 0 }

/-! ### The pending register (R55, R56, R117) -/

/-- A loop write enters the pending register; a value not yet struck is overwritten, which counts as a skip (R56). -/
def takeIncoming (s : State) (p : Nat) : State :=
  match (s.px p).force.incoming with
  | none => s
  | some (_, c0, c1) =>
    let skip := (s.px p).force.pendNew
    let s := s.modForce p fun f => { f with incoming := none, pend0 := c0, pend1 := c1, pendNew := true }
    s.when skip fun s => (s.satInc (Pt.SETPOINT_SKIP p) 32 1).setBit (Pt.FORCE_STATUS p) ForceStatus.SKIP true

/-- A CLK_FAST edge at `t` or at the tick after it: a strike there still applies the value before a write at `t` (R56). -/
def nearEdge (t : Tick) : Bool := decide (t % 32 = 0) || decide ((t + 1) % 32 = 0)

/-- R107 step 4: the outputs of both banks are written at `t`, mapped to codes in the active span (R52). While a clear holds the core
the loop engine writes no setpoints (R65). -/
def loopWrite (s : State) (p : Nat) (u0 u1 : Int) (t : Tick) : State :=
  if (s.px p).force.clearCore.isSome || s.cleared p then s
  else
    let s := s.takeIncoming p
    let sp := s.rN (Pt.SPAN_ACTIVE p)
    let c0 := codeOf sp u0
    let c1 := codeOf sp u1
    let s := s.modForce p fun f => { f with incoming := some (t, c0.1, c1.1) }
    let s := if nearEdge t then s else s.takeIncoming p
    s.when (c0.2 || (s.pulsed p && c1.2)) fun s => s.setBit (Pt.FORCE_STATUS p) ForceStatus.FCLIP true

/-- Strikes act on the active register: the port is ON, neither a clear nor the ramp generator holds the core (R56), and no trip
holds the active code at its last value (R122). -/
def strikable (s : State) (p : Nat) : Bool := s.portOn p && !s.rampHold p && s.oe p && !s.tripped p && (s.px p).force.everEnabled

/-- A strike at the CLK_FAST edge `t` (R55-R57, R117). -/
def strike (s : State) (p : Nat) (t : Tick) : State :=
  if !s.strikable p then s
  else
    let s := match (s.px p).force.incoming with
      | some (w, _, _) => if w + 2 ≤ t then s.takeIncoming p else s
      | none => s
    let x := s.px p
    let bank := if s.pulsed p && levelAt x.pgen t then 1 else 0
    let code := if bank = 1 then x.force.pend1 else x.force.pend0
    let s := if code = s.rN (Pt.DAC_CODE p) then s else s.setCode p code t
    (s.modForce p fun f => { f with pendNew := false, appliedBank := bank }).complUpdate p t

/-- The timer strikes of the port follow its ticks: UPD_PERIOD is 0 and UPD_SRC selects the timer (R55). -/
def tickStruck (s : State) (p : Nat) : Bool :=
  decide (s.live p (Pt.UPD_PERIOD p) = 0) && (decide (s.live p (Pt.UPD_SRC p) ≠ 1) || (s.px p).force.fallback)

/-- R107 step 5, the setpoint-apply instant of a tick with selections `s0` and `s1`. -/
def applyInstant (s : State) (p : Nat) (t : Tick) : State :=
  let s := s.when (s.tickStruck p) fun s => s.strike p t
  s.complUpdate p t

/-! ### Clear (R65-R67) -/

/-- No read-back before `until_` (R69). -/
def blankTo (s : State) (p : Nat) (until_ : Tick) : State := s.modForce p fun f => { f with blankUntil := max f.blankUntil until_ }

/-- Force the core to the clear code of SPAN_ACTIVE, without the shaper, and blank the read-back for 4 µs (R65, R69). -/
def coreClear (s : State) (p : Nat) (t : Tick) : State :=
  let c := s.clearCode p
  let s := (s.shaperTo p t).setCode p (c * 16) t
  (s.modForce p fun f => { f with clearCore := some c }).blankTo p (t + us4)

/-! ### Journal of holds (R403) -/

/-- The hold cause of a port: 1 ramp, 2 clear, 3 trip, 4 range; 0 none. -/
def holdCause (s : State) (p : Nat) : Nat :=
  if !s.enabled p then 0
  else if s.tripped p then 3
  else if (s.px p).force.clearCore.isSome || s.cleared p then 2
  else if (s.px p).force.ramp.isSome || decide (s.spanStep p ≠ 0) then 1
  else 0

/-- Journal a HOLD or RESUME when the hold cause has changed. -/
def jHold (s : State) (p : Nat) (t : Tick) : State :=
  let c := s.holdCause p
  let old := (s.px p).loopY.lastHold
  if c = old then s
  else
    let s := s.modLoopY p fun y => { y with lastHold := c }
    if c = 0 then s.jPort p 7 old t else s.jPort p 6 c t

end State
end Sys2Proof.Machine
end

