-- ==== Sys2Proof/Machine/Scale.lean ====
section
/-!
DEFINITION. Scales and ranges (R127-R131, R137): declared full scales, the factors K, conversion of FSQ values between
scales, effective limits and targets, KSTAGE (R112), threshold codes (R148), and the range map.
A scale is numbered: 0-7 IRNG_0-IRNG_7, 8 and 9 VRNG_0 and VRNG_1 (the RANGE code of R86), 16-22 the overlap of IRNG_i and
IRNG_(i+1), 24 the overlap of the voltage ranges.
-/

namespace Sys2Proof.Machine

def ovlI (i : Nat) : Nat := 16 + i
def ovlV : Nat := 24

/-- The scale is of the voltage quantity. -/
def scaleIsV (x : Nat) : Bool := decide (x = 8 ∨ x = 9 ∨ x = 24)

/-- The code of a threshold (R148). -/
def thCode (t : Int) : Nat := (8192 + (t + 10485760) / 20971520).toNat

/-- ZERO, FV and PV regulate V; FI and PI regulate I (R110). -/
def regV (mode : Nat) : Bool := decide (mode = 0 ∨ mode = 1 ∨ mode = 3)

namespace State

/-- The entries that declare the full scales of a port: IRNG_FS_0-IRNG_FS_7, VRNG_FS_0, VRNG_FS_1, IOVL_FS_0-IOVL_FS_6, VOVL_FS. -/
def fsKeys (p : Nat) : List Nat := (List.range 18).map (Pt.IRNG_FS_0 p + ·)

/-- The full scale of a scale in force, in volts or amperes: as declared at the last commit (R127-R129). -/
def fsOf (s : State) (p x : Nat) : Rat :=
  let i := if x < 10 then x else if x < 24 then x - 6 else 17
  ratF32 (match (s.px p).range.fs with
    | some l => l.getD i 0
    | none => s.rN (Pt.IRNG_FS_0 p + i))

/-- The factor K of two adjacent scales in Q7.32, rounding to nearest (R129). -/
def factor (s : State) (p x y : Nat) : Int :=
  let d := s.fsOf p y
  if d = 0 then 0 else roundUp (s.fsOf p x / d * (2 ^ 32 : Nat))

/-- The adjacent pairs of scales of a port's declared ladders, both ways (R129). -/
def scalePairs (s : State) (p : Nat) : List (Nat × Nat) :=
  let both := fun (e : Nat × Nat) => [e, (e.2, e.1)]
  let i := (List.range (s.rN (Pt.IRNG_COUNT p) - 1)).flatMap fun i => [(i, i + 1), (i, 16 + i), (i + 1, 16 + i)]
  let v := if s.rN (Pt.VRNG_COUNT p) = 2 then [(8, 9), (8, 24), (9, 24)] else []
  (i ++ v).flatMap both

/-- The factors of a port in one CONFIG record (R129, R403). DESIGN CHOICE (log entry 94): the factors have no entry of the dictionary; their record
names subindex 0x9F of the port record, which no entry has, as an OCTET_STRING of 5 bytes a factor, in the order of `scalePairs`. -/
def jFactors (s : State) (p : Nat) (ckpt : Bool) : State :=
  let w0 := (0x4000 + p) * 2 ^ 24 + 0x9F * 2 ^ 16 + 0xFF * 2 ^ 8 + 128 * ckpt.toNat + tyCode .oct
  s.journal 0 1 0x503 s.now (w0 :: (s.scalePairs p).map fun e => ofSigned 40 (s.factor p e.1 e.2))

/-- Convert through a list of adjacent scales, saturating each intermediate result (R129). -/
def convChain (s : State) (p : Nat) : Nat → List Nat → Int → Int
  | _, [], v => v
  | x, y :: r, v => s.convChain p y r (mul40 v (s.factor p x y))

/-- The rungs passed from `a` to `b` along a ladder, `a` not included. -/
def rungs (a b : Nat) : List Nat :=
  if a < b then (List.range (b - a)).map (fun k => a + 1 + k) else (List.range (a - b)).map (fun k => a - 1 - k)

/-- The path of adjacent scales from `x` to `y` (R129): along the ladder, and through the nearer rung of an overlap. -/
def path (x y : Nat) : List Nat :=
  if x = y then []
  else if x < 16 ∧ y < 16 then rungs x y
  else if x < 16 then
    let lo := if y = 24 then 8 else y - 16
    if x ≤ lo then rungs x lo ++ [y] else rungs x (lo + 1) ++ [y]
  else if y < 16 then
    let lo := if x = 24 then 8 else x - 16
    if y ≤ lo then lo :: rungs lo y else (lo + 1) :: rungs (lo + 1) y
  else
    let lx := if x = 24 then 8 else x - 16
    let ly := if y = 24 then 8 else y - 16
    if lx < ly then (lx + 1) :: rungs (lx + 1) ly ++ [y] else lx :: rungs lx (ly + 1) ++ [y]

/-- A value of scale `x` expressed in scale `y` of the same quantity; scales of different quantities are not converted. -/
def conv (s : State) (p x y : Nat) (v : Int) : Int :=
  if scaleIsV x = scaleIsV y then s.convChain p x (path x y) v else v

/-- The factor K(x→y) of two rungs as one number, for values kept at full width (R134): the chain applied to 1.0. -/
def convFactor (s : State) (p x y : Nat) : Int := s.convChain p x (path x y) (2 ^ 32)

/-- An effective limit or target (R129), and whether the clamp altered it. -/
def effective (s : State) (p ref inForce : Nat) (v : Int) : Int × Bool :=
  let w := s.conv p ref inForce v
  (satTo w (-fs120) fs120, decide (satTo w (-fs120) fs120 ≠ w))

/-! ### Ranges in force -/

def rangeI (s : State) (p : Nat) : Nat := s.rN (Pt.IRNG_ACTIVE p)
/-- The RANGE code of the voltage range in force. -/
def rangeV (s : State) (p : Nat) : Nat := 8 + s.rN (Pt.VRNG_ACTIVE p)
/-- The RANGE code in force of a quantity. -/
def rangeOf (s : State) (p : Nat) (v : Bool) : Nat := if v then s.rangeV p else s.rangeI p

def topI (s : State) (p : Nat) : Nat := s.rN (Pt.IRNG_COUNT p) - 1
def topV (s : State) (p : Nat) : Nat := s.rN (Pt.VRNG_COUNT p) - 1

/-! ### KSTAGE (R112) -/

/-- KSTAGE for a voltage full scale, an amplifier gain and a span. -/
def kstageOf (fsv gain : Rat) (sp : Nat) : Int := roundUp (fsv / (gain * spanFS sp) * (2 ^ 32 : Nat))

/-- KSTAGE has a magnitude below 128 and does not round to 0 (R112). -/
def kstageOk (fsv gain : Rat) (sp : Nat) : Bool :=
  let k := kstageOf fsv gain sp
  decide (k ≠ 0) && decide (absI k < 2 ^ 39)

/-- For any of the four spans and any declared voltage range (R112). -/
def kstageAll (s : State) (p : Nat) (gain : Rat) : Bool :=
  (List.range (s.rN (Pt.VRNG_COUNT p))).all fun v => (List.range 4).all fun sp => kstageOk (s.fsOf p (8 + v)) gain sp

/-- Recompute KSTAGE; the recorder journals the value loaded (R112). -/
def loadKstage (s : State) (p : Nat) : State :=
  s.derived (Pt.KSTAGE p) (ofSigned 40 (kstageOf (s.fsOf p (s.rangeV p)) (s.liveQ p (Pt.AMP_GAIN p)) (s.rN (Pt.SPAN_ACTIVE p))))

/-! ### Configuration of the loop in force (R110) -/

/-- The port's own settings. -/
def ownSlot (s : State) (p : Nat) : Slot :=
  let y := (s.px p).loopY
  { mode := s.live p (Pt.FORCE_MODE p), sp := s.liveI p (Pt.FORCE_SETPOINT p), psp := s.liveI p (Pt.PULSE_SETPOINT p),
    chi := s.liveI p (Pt.COMPL_HI p), clo := s.liveI p (Pt.COMPL_LO p), spStep := s.liveI p (Pt.SP_STEP p),
    spRef := y.rSp, pspRef := y.rPsp, chiRef := y.rChi, cloRef := y.rClo,
    iPol := s.live p (Pt.IRNG_POLICY p), vPol := s.live p (Pt.VRNG_POLICY p),
    iSel := s.live p (Pt.IRNG_SEL p), vSel := s.live p (Pt.VRNG_SEL p),
    iMin := s.live p (Pt.IRNG_MIN p), iMax := s.live p (Pt.IRNG_MAX p) }

/-- The settings in force: those of the running context, or the port's own. -/
def slotOf (s : State) (p : Nat) : Slot := (s.px p).loopY.slot.getD (s.ownSlot p)

/-- A reference range of a quantity; a reference that belongs to the other quantity stands for the range in force. -/
def refOr (s : State) (p : Nat) (v : Bool) (ref : Nat) : Nat := if scaleIsV ref = v then ref else s.rangeOf p v

/-- The effective compliance limits (R129). -/
def effHi (s : State) (p : Nat) : Int × Bool :=
  let c := s.slotOf p
  let v := !regV c.mode
  s.effective p (s.refOr p v c.chiRef) (s.rangeOf p v) c.chi
def effLo (s : State) (p : Nat) : Int × Bool :=
  let c := s.slotOf p
  let v := !regV c.mode
  s.effective p (s.refOr p v c.cloRef) (s.rangeOf p v) c.clo

/-- The effective target of a bank (R129). -/
def effTarget (s : State) (p : Nat) (bank : Nat) : Int × Bool :=
  let c := s.slotOf p
  let v := regV c.mode
  if bank = 1 then s.effective p (s.refOr p v c.pspRef) (s.rangeOf p v) c.psp
  else s.effective p (s.refOr p v c.spRef) (s.rangeOf p v) c.sp

/-- Derive the effective limits again and report them with the reference ranges (R129, R145). -/
def deriveLimits (s : State) (p : Nat) : State :=
  let c := s.slotOf p
  let hi := s.effHi p
  let lo := s.effLo p
  let t0 := s.effTarget p 0
  let t1 := s.effTarget p 1
  let s := ((s.derived (Pt.COMPL_HI_EFF p) (ofSigned 40 hi.1)).derived (Pt.COMPL_LO_EFF p) (ofSigned 40 lo.1)).set (Pt.MODE_ACTIVE p) c.mode
  let s := (s.set (Pt.SP_RANGE p) (c.spRef + 16 * c.pspRef)).set (Pt.COMPL_RANGE p) (c.cloRef + 16 * c.chiRef)
  let s := s.when (hi.2 || lo.2) fun s => s.setBit (Pt.RNG_STATUS p) RngStatus.LIM_CLAMP true
  s.when (decide (c.mode ≠ 0) && (t0.2 || (decide (3 ≤ c.mode) && t1.2))) fun s =>
    s.setBit (Pt.RNG_STATUS p) RngStatus.TGT_CLAMP true

/-! ### Threshold scales (R137, R150) -/

/-- The scale of the thresholds of a quantity at a tick: the smaller full scale of the scales in question (R137). -/
def thScale (s : State) (p : Nat) (v : Bool) (t : Tick) : Nat :=
  match (s.px p).range.step with
  | none => s.rangeOf p v
  | some st =>
    if st.qv = v then
      let ra := if v then 8 + st.a else st.a
      let rb := if v then 8 + st.b else st.b
      let o := if v then ovlV else ovlI (min st.a st.b)
      let smaller := fun x y => if s.fsOf p x ≤ s.fsOf p y then x else y
      if t < st.t1 then smaller ra o
      else if t < st.t2 then o
      else if t < st.t3 then smaller o rb
      else rb
    else s.rangeOf p v

/-- The reference of a threshold: its field of TH_REF. -/
def thRef (s : State) (p i : Nat) : Nat := field (s.rN (Pt.TH_REF p)) (4 * i) 4

/-- One effective threshold (R129, R137): index 0 I_LO, 1 I_HI, 2 V_LO, 3 V_HI. -/
def thEff (s : State) (p i : Nat) (t : Tick) : Int × Bool :=
  let v := decide (2 ≤ i)
  let w := s.liveI p (if i = 0 then Pt.TH_I_LO p else if i = 1 then Pt.TH_I_HI p else if i = 2 then Pt.TH_V_LO p else Pt.TH_V_HI p)
  s.effective p (s.thRef p i) (s.thScale p v t) w

/-- Hysteresis in FSQ of `h` steps (R150). -/
def hystFsq (h : Nat) : Int := (h : Int) * 137438953

/-- Rewrite the threshold DACs of the port (R148), with WIN_CLAMP and HYS_OFF; the codes are journalled when they change. -/
def loadThresholds (s : State) (p : Nat) (t : Tick) : State :=
  let ilo := s.thEff p 0 t
  let ihi := s.thEff p 1 t
  let vlo := s.thEff p 2 t
  let vhi := s.thEff p 3 t
  let hy := s.live p (Pt.CMP_HYST p)
  let codes := thCode vlo.1 + thCode vhi.1 * 2 ^ 16 + thCode ilo.1 * 2 ^ 32 + thCode ihi.1 * 2 ^ 48
  let was := s.rN (Pt.TH_CODES p)
  let at_ := (List.range 4).map fun i => if field codes (16 * i) 16 = field was (16 * i) 16 then (s.px p).thAt.getD i 0 else t
  let s := if codes = was then s
    else ((s.modPx p fun x => { x with thAt := at_ }).set (Pt.TH_CODES p) codes).jConfig (Pt.TH_CODES p) 0xFF codes
  let s := s.when (ilo.2 || ihi.2 || vlo.2 || vhi.2) fun s => s.setBit (Pt.RNG_STATUS p) RngStatus.WIN_CLAMP true
  let off := fun (hi lo : Int) (h : Nat) => decide (hi - lo < 2 * hystFsq h)
  s.setBits (Pt.CMP_STATUS p)
    [(CmpStatus.HYS_OFF_V, off vhi.1 vlo.1 (field hy 0 4)), (CmpStatus.HYS_OFF_I, off ihi.1 ilo.1 (field hy 4 4))]

/-! ### The range map (R130) -/

/-- Entry `n` of RANGE_MAP. -/
def mapEntry (s : State) (p n : Nat) : Nat :=
  let b := ((s.bytesOf (Pt.RANGE_MAP p)).getD (n / 2) 0#8).toNat
  if n % 2 = 0 then b % 16 else b / 16

/-- The steady entry of VRNG_v with IRNG_i. -/
def steadyPat (s : State) (p v i : Nat) : Nat := s.mapEntry p (8 * v + i)

/-- The overlap entry of a step, with the other quantity's range in force (R132). -/
def overlapPat (s : State) (p : Nat) (qv : Bool) (a b : Nat) : Nat :=
  if qv then s.mapEntry p (30 + s.rangeI p)
  else if s.rN (Pt.VRNG_ACTIVE p) = 0 then s.mapEntry p (16 + min a b) else s.mapEntry p (23 + min a b)

/-- Drive RNG_0-RNG_3. -/
def drivePattern (s : State) (p pat : Nat) : State :=
  if (s.px p).range.pattern = pat then s
  else (s.modRange p fun r => { r with pattern := pat }).out (.rng p pat)

end State
end Sys2Proof.Machine
end

