-- ==== Sys2Proof/Machine/Stream.lean ====
section
/-!
DEFINITION. Stream blocks (R96, R97, R123): the header, and closing a fast, a precision or a loop block and handing it to
its ring; the fast part of the group sample buffer (R10).
-/

namespace Sys2Proof.Machine

/-- The header of a block (R96). -/
def blockHeader (btype port count : Nat) (gap prov worn compl nbr : Bool) (ir vr dec seq : Nat) : Nat :=
  btype * 2 ^ 36 + port * 2 ^ 29 + count * 2 ^ 23 + gap.toNat * 2 ^ 22 + prov.toNat * 2 ^ 21 + worn.toNat * 2 ^ 20 +
    compl.toNat * 2 ^ 19 + nbr.toNat * 2 ^ 18 + ir * 2 ^ 14 + vr * 2 ^ 13 + dec * 2 ^ 9 + seq % 512

/-- The 64 words of a block: header, timestamp, payload, zeros (R96). -/
def blockWords (hdr : Nat) (ts : Tick) (payload : List Nat) : List Nat :=
  hdr :: (ts % 2 ^ 40) :: (ts / 2 ^ 40 % 2 ^ 24) :: (payload ++ List.replicate (61 - payload.length) 0)

namespace State

/-- Capacity of the fast part of a group sample buffer, in words (R10). -/
def fastPart : Nat := 7168

/-- Fast words leave the group sample buffer. -/
def gbufRelease (s : State) (g n : Nat) : State := s.modGx g fun x => { x with gbufFast := x.gbufFast - n }

/-- The fast words of a block leave the group sample buffer: it is committed or discarded (R10). -/
def blockGone (s : State) (words : List Nat) : State :=
  let h := words.headD 0
  if h / 2 ^ 36 ≤ 2 then s.gbufRelease (groupOf (field h 29 7)) (field h 23 6) else s

/-- The ring control block mirrors the counts (R265). -/
def ringMirror (s : State) (r : Nat) : State :=
  s.spadPutAll (0x800 + 32 * r) [s.rN (Rn.WR_COUNT r), s.rN (Rn.CONS_HOST r), s.rN (Rn.CONS_REC r), s.rN (Rn.DROP_COUNT r)]

/-- A block is discarded at a ring (R262, R264). -/
def dropBlock (s : State) (ring : Nat) (words : List Nat) : State := ((s.wrapInc (Rn.DROP_COUNT ring) 32 1).ringMirror ring).blockGone words

/-- The group of a block, as its header names the port (R96). -/
def blockGroup (words : List Nat) : Nat := groupOf (field (words.headD 0) 29 7)

/-- A closed block takes its place at a ring: by close tick, and then by group number (R263). -/
def ringInsert (t : Tick) (w : List Nat) : List (Tick × List Nat) → List (Tick × List Nat)
  | [] => [(t, w)]
  | b :: l => if t < b.1 ∨ (t = b.1 ∧ blockGroup w < blockGroup b.2) then (t, w) :: b :: l else b :: ringInsert t w l

/-- Hand a closed block to a ring; with ring 0xFF it is discarded (R98), as it is while the ring is disabled (R262). -/
def handBlock (s : State) (ring : Nat) (words : List Nat) : State :=
  if ring < 32 then
    if !s.bit (Rn.RING_EN ring) 0 then s.dropBlock ring words
    else
      { s with mem := { s.mem with ringQ := Tab.set (fun _ => []) s.mem.ringQ ring
                                              (ringInsert s.now words (Tab.get (fun _ => []) s.mem.ringQ ring)) } }
  else s

/-- The lower half of a word that holds no sample (R88). -/
def noSample : Nat := 3

/-- A fast word finds the fast part of the group sample buffer full: it is discarded and counted, and the next block of the port follows a gap
(R10). -/
def fastLost (s : State) (p : Nat) : State :=
  let s := (s.satInc (Gr.GBUF_DROP (groupOf p)) 32 1).setBit (Gr.GROUP_STATUS (groupOf p)) GroupStatus.GAP_SEEN true
  (s.setBit (Pt.MEAS_STATUS p) MeasStatus.GAP true).modMeas p fun m => { m with fastGap := true }

/-- Form the block of the words that the buffer holds, and hand it to the ring in force (R97). A change of ring takes effect here (R98). -/
def closeWords (s : State) (p : Nat) (b : Blk) : State :=
  let m := (s.px p).meas
  let hdr := blockHeader m.fastPack p b.words.length m.fastGap b.prov b.worn b.compl b.nbr b.ir b.vr m.fastDec m.fastSeq
  let s := s.modMeas p fun m => { m with fast := none, fastGap := false, fastSeq := (m.fastSeq + 1) % 512,
                                         fastRing := s.live p (Pt.FAST_RING p) }
  if m.fastRing < 32 then s.handBlock m.fastRing (blockWords hdr b.start b.words) else s.gbufRelease (groupOf p) b.words.length

/-- Close the fast block of a port, if one is open (R97). The last word of a V or I block may hold one sample: like any fast word it is kept,
or discarded while the fast part is full (R10). -/
def closeFast (s : State) (p : Nat) : State :=
  let m := (s.px p).meas
  match m.fast with
  | none => s.modMeas p fun m => { m with fastRing := s.live p (Pt.FAST_RING p) }
  | some b =>
    match b.half with
    | none => s.closeWords p b
    | some h =>
      if fastPart ≤ (s.gx (groupOf p)).gbufFast then
        (if b.words = [] then s.modMeas p fun m => { m with fast := none, fastRing := s.live p (Pt.FAST_RING p) } else s.closeWords p b).fastLost p
      else
        (s.modGx (groupOf p) fun x => { x with gbufFast := x.gbufFast + 1 }).closeWords p
          { b with words := b.words ++ [h * 2 ^ 20 + noSample], worn := b.worn || b.hWorn, compl := b.compl || b.hCompl }

/-- Close the precision block of a port (R97). -/
def closePrec (s : State) (p : Nat) : State :=
  let m := (s.px p).meas
  match m.prec with
  | none => s.modMeas p fun m => { m with precRing := s.live p (Pt.PREC_RING p) }
  | some b =>
    let hdr := blockHeader 3 p b.words.length false b.prov b.worn b.compl false 0 0 0 m.precSeq
    (s.modMeas p fun m => { m with prec := none, precSeq := (m.precSeq + 1) % 512, precRing := s.live p (Pt.PREC_RING p) }).handBlock
      m.precRing (blockWords hdr b.start b.words)

/-- Close the LOOP block of a port (R123). -/
def closeLoop (s : State) (p : Nat) : State :=
  let y := (s.px p).loopY
  if y.recBlock = [] then s
  else
    let hdr := blockHeader 4 p y.recBlock.length false y.recProv y.recWorn y.recCompl false y.recIR y.recVR 0 y.recSeq
    (s.modLoopY p fun y => { y with recBlock := [], recSeq := (y.recSeq + 1) % 512, recCompl := false, recWorn := false,
                                    recProv := false }).handBlock
      y.recRing (blockWords hdr y.recStart y.recBlock)

/-- A fast word arrives at the group sample buffer: it is kept, with the flags of its samples, or discarded while the fast part is full, which
closes the block of the words before it (R10, R97). -/
def fastWord (s : State) (p : Nat) (w : Nat) (worn compl : Bool) : State :=
  let g := groupOf p
  if fastPart ≤ (s.gx g).gbufFast then
    (if ((s.px p).meas.fast.map (·.words)).getD [] = [] then s.modMeas p fun m => { m with fast := none } else s.closeFast p).fastLost p
  else
    let s := s.modGx g fun x => { x with gbufFast := x.gbufFast + 1 }
    let s := s.modMeas p fun m => { m with fast := m.fast.map fun b =>
      { b with words := b.words ++ [w], worn := b.worn || worn, compl := b.compl || compl } }
    match (s.px p).meas.fast with
    | some b => if b.words.length = 61 then s.closeFast p else s
    | none => s

end State
end Sys2Proof.Machine
end

