-- ==== Sys2Proof/Machine/SeqCore.lean ====
section
/-!
DEFINITION. What the other units tell the sequencer about a running point (R184-R191): phases, discarded windows, restarts,
and the end of a point's pulse train.
-/

namespace Sys2Proof.Machine

/-! ### Phases of POINT_NOW (R179) -/
abbrev Ph.none : Nat := 0
abbrev Ph.switch : Nat := 1
abbrev Ph.scan : Nat := 2
abbrev Ph.load : Nat := 3
abbrev Ph.settle : Nat := 4
abbrev Ph.arm : Nat := 5
abbrev Ph.measure : Nat := 6
abbrev Ph.finish : Nat := 7

namespace State

/-- Modify the running point of a port. -/
def modPoint (s : State) (p : Nat) (f : Point → Point) : State := s.modSeq p fun q => { q with run := q.run.map f }

def runOf (s : State) (p : Nat) : Option Point := (s.px p).seq.run

/-- Enter a phase: POINT_NOW of the running context follows (R179). -/
def setPhase (s : State) (p ph : Nat) : State :=
  match s.runOf p with
  | none => s
  | some q => (s.modPoint p fun q => { q with phase := ph }).set (Cx.POINT_NOW q.ctx) (ph * 2 ^ 16 + q.pt)

/-- Discard the open precision window, if any: no record is written (R100). -/
def discardWin (s : State) (p : Nat) : State := s.modMeas p fun m => { m with win := none, nextOpen := none }

/-- Restart the count of the settle criterion (R184). -/
def resetCount (s : State) (p : Nat) : State := s.modPoint p fun q => { q with cnt := 0 }

/-- A window was not counted, or a trip aborted the train of a PULSE point: REDO, and the point returns to step 4 (R186). -/
def redoPoint (s : State) (p : Nat) : State :=
  match s.runOf p with
  | none => s
  | some q =>
    let s := s.setBit (Cx.SEQ_STATUS q.ctx) SeqStatus.REDO true
    let s := s.discardWin p
    let s := s.modPoint p fun q => { q with cnt := 0, tset := none, tp := none, counted := 0, compl := false, pulse := false, pulseDone := none }
    s.setPhase p Ph.settle

/-- A trip at `t`: the open window intersects the trip interval, runs to its end and is not counted; a trip that aborts the train of a PULSE point
returns the point to step 4 (R186), at the end of the open window where there is one. -/
def seqOnTrip (s : State) (p : Nat) (aborted : Bool) (t : Tick) : State :=
  let s := s.modMeas p fun m => { m with win := m.win.map fun w =>
    if t < w.open_ + 625 * w.n then { w with counted := false } else w }
  match s.runOf p with
  | some q =>
    let s := if aborted then s.modPoint p fun q => { q with train := false, pulse := false } else s
    if aborted && q.train && (s.px p).meas.win.isNone then s.redoPoint p else s.resetCount p
  | none => s

/-- The train of a PULSE point has ended at `e` (R186). -/
def seqPulseDone (s : State) (p : Nat) (e : Tick) : State :=
  s.modPoint p fun q => if q.train then { q with train := false, pulseDone := if q.pulse then some e else none } else q

/-- The start of the point's train was beaten by a STOP of the same tick: it was dropped (R168, R186). -/
def seqStartVoid (s : State) (p : Nat) : State := s.modPoint p fun q => { q with train := false, pulse := false }

/-! ### Scanner frames (R194, R195) -/

/-- Request a frame: by tick, then by port (R195). -/
def insertFrame (f : SFrame) : List SFrame → List SFrame
  | [] => [f]
  | g :: r => if f.req < g.req ∨ (f.req = g.req ∧ f.port < g.port) then f :: g :: r else g :: insertFrame f r

def requestFrame (s : State) (f : SFrame) : State := { s with scan := { s.scan with queue := insertFrame f s.scan.queue } }

/-- Step 2 of R186: the route frame of the running point is requested at `t`. -/
def startScan (s : State) (p : Nat) (t : Tick) : State :=
  match s.runOf p with
  | none => s
  | some q =>
    let r := s.rN (Cx.SCAN_ROUTE q.ctx)
    let s := (s.modPoint p fun q => { q with zeroWait := false, scanDue := none, scanOk := false }).setPhase p Ph.scan
    s.requestFrame { op := 0xC1, port := p, sel := field r 33 2, route := field r 0 32, req := t, ctx := q.ctx }

/-- The port starts its disable sequence or its group enters QUIESCING at `t`: the open window is discarded, and the point
restarts from LOAD once the port is back in service, with RESTARTED set (R191); a point whose route is not closed yet closes it first. The zero
switch is met on a port that is not enabled (R189). -/
def seqOnLeave (s : State) (p : Nat) (t : Tick) : State :=
  let s := s.discardWin p
  match s.runOf p with
  | none => s
  | some q =>
    let s := s.setBit (Cx.SEQ_STATUS q.ctx) SeqStatus.RESTARTED true
    if q.phase = Ph.switch then s.startScan p t
    else if q.phase < Ph.load then s
    else
      let s := s.modPoint p fun q => { q with loadWait := true, from_ := t, cnt := 0, tset := none, tarm := none, tp := none,
                                              counted := 0, compl := false, train := false, pulse := false, pulseDone := none }
      s.setPhase p Ph.load

end State
end Sys2Proof.Machine
end

