-- ==== Sys2Proof/Machine/Pgen.lean ====
section
/-!
DEFINITION. Comparators (R147-R158), the trip latch (R159-R163) and pulse trains (R164-R168).
-/

namespace Sys2Proof.Machine

/-- t_EN of a comparator mode in ticks (R153). -/
def tEn (mode : Nat) : Nat :=
  if mode = 0 then 320 else if mode = 1 then 1280 else if mode = 2 then 6400 else if mode = 3 then 38400 else if mode = 4 then 256000 else 384

/-- Trip cause bits (R159). -/
def Cause.flt : Nat := 16
def Cause.gnd : Nat := 32
def Cause.dac : Nat := 64
def Cause.event : Nat := 128
def Cause.sw : Nat := 256

/-- Kinds of a fault recorded in a health record: read-back (R71), trip in SHADOW (R163), threshold, front-end reference
(R279), failed agreement (R306). -/
abbrev Note.readback : Nat := 1
abbrev Note.shadowTrip : Nat := 2
abbrev Note.threshold : Nat := 3
abbrev Note.fref : Nat := 4
abbrev Note.agree : Nat := 5

/-! ### One comparator -/

/-- A comparator starts in a mode at `t` (R154). -/
def Cmp.begin (mode : Nat) (t : Tick) : Cmp :=
  if mode = 6 then {} else { mode := mode, state := 0, startEnd := if mode = 5 then none else some (t + tEn mode) }

/-- The output at `t` as the trip latch sees it: in SM, INSIDE once the valid interval is over (R157). -/
def Cmp.outAt (c : Cmp) (t : Tick) : Nat := if c.mode = 5 ∧ c.state ≠ 3 ∧ c.strobeEnd ≤ t then 0 else c.state

/-- The output is live at `t`: it is powered, has made its first decision and is not in a start; in SM, only in [s + 384, s + 768) (R154, R157). -/
def Cmp.liveAt (c : Cmp) (t : Tick) : Bool :=
  decide (c.state ≠ 3) && c.decided && c.startEnd.isNone && (decide (c.mode ≠ 5) || (c.strobe.isSome && decide (t < c.strobeEnd)))

/-- The transitions of R147 for an input `v` between the pin voltages `lo` and `hi`, with the hysteresis `h`, all in one unit. A crossing of the whole
window passes through INSIDE. -/
def cmpNext (state : Nat) (v lo hi h : Int) : Nat :=
  let fresh := if hi < v then 1 else if v < lo then 2 else 0
  if state = 1 then (if v < hi - h then fresh else 1)
  else if state = 2 then (if lo + h < v then fresh else 2)
  else fresh

/-- A strobe of a grid starts at `t`: with SM_TICK 1 a strobe in progress of the same grid goes on; one of another grid completes first (R157). -/
def Cmp.strobeAt (c : Cmp) (grid : Nat × Nat) (t : Tick) : Cmp :=
  if c.strobe.isSome && decide (t < c.strobeEnd) then (if grid.1 = 1 ∧ c.grid = grid then { c with strobeEnd := t + 768 } else c)
  else { c with strobe := some t, strobeEnd := t + 768, grid := grid, state := 0, startEnd := some (t + 384) }

namespace State

/-! ### The trip latch -/

/-- Causes 0-3 that assert at `t` and are enabled: a comparator in ABOVE or BELOW (R159). -/
def levelCauses (s : State) (p : Nat) (t : Tick) : Nat :=
  let v := (s.px p).cmpV.outAt t
  let i := (s.px p).cmpI.outAt t
  ((decide (v = 1)).toNat + 2 * (decide (v = 2)).toNat + 4 * (decide (i = 1)).toNat + 8 * (decide (i = 2)).toNat) &&& s.live p (Pt.TRIP_EN p)

/-- Every cause present at a tick besides the one that set the latch (R160). -/
def presentCauses (s : State) (p : Nat) (t : Tick) : Nat :=
  s.levelCauses p t + (if (s.px p).flt && !s.gated p then Cause.flt else 0) + (if (s.px p).gnd then Cause.gnd else 0)

/-- Abort the train: no further edge, the level returns to base at the next CLK_FAST edge, no PGEN_FALL and no
PGEN_DONE (R160). -/
def abortTrain (s : State) (p : Nat) (t : Tick) : State :=
  let lvl := (s.px p).pgen.level
  let s := s.modPgen p fun x => { x with train := none, gateQ := [], gateLvl := false }
  s.when lvl fun s => s.later (edgeAfter t) (.levelBase p)

/-- A re-arm of the tick `t` meets a new cause in that tick: it is refused, and the latch stands as before (R162, R168). -/
def rearmUndo (s : State) (p : Nat) (t : Tick) : State :=
  if !s.tripped p && decide ((s.px p).pgen.rearmAt = some t) then
    (s.setBits (Pt.PGEN_STATUS p) [(PgenStatus.TRIPPED, true), (PgenStatus.REARM_REFUSED, true)]).jPort p 2
      (field (s.rN (Pt.TRIP_CAUSE p)) 0 9 + 512 * (s.bit (Pt.PGEN_STATUS p) PgenStatus.TRIP_IN_PULSE).toNat) t
  else s

/-- A trip cause asserts at the assigned tick `t`, with the generation of the event it causes (R159, R160, R219): it sets the latch; at a later tick,
while the latch is set, it accumulates. -/
def trip (s : State) (p mask : Nat) (t : Tick) (gen : Nat) : State :=
  let s := s.rearmUndo p t
  if s.tripped p then
    s.set (Pt.TRIP_CAUSE p) (s.rN (Pt.TRIP_CAUSE p) ||| (mask * (if (s.px p).pgen.tripAt = some t then 1 else 2 ^ 16)))
  else
    let first := mask ||| s.presentCauses p t
    let s := s.modPgen p fun x => { x with tripAt := some t }
    let inPulse := (s.px p).pgen.level
    let aborted := (s.px p).pgen.train.isSome
    let s := (s.set (Pt.TRIP_CAUSE p) first).set (Pt.TRIP_TIME p) (s.timeNs t)
    let s := s.satInc (Pt.TRIP_COUNT p) 32 1
    let s := s.setBits (Pt.PGEN_STATUS p) [(PgenStatus.TRIPPED, true), (PgenStatus.TRIP_SEEN, true), (PgenStatus.TRIP_IN_PULSE, inPulse)]
    let s := s.when aborted fun s => s.abortTrain p t
    let s := s.when (decide (s.portState p = 3)) fun s => s.modPgen p fun x => { x with permit := false }
    let s := s.seqOnTrip p aborted t
    let s := s.modPx p fun x => { x with tripGen := gen }
    let s := s.jPort p 2 (first + 512 * inPulse.toNat) t
    let s := s.produce 0x14 p t (if first = Cause.event then gen else 0)
    s.syncPort p

/-- Causes 0-3 act as levels (R159): with the latch clear, one that asserts sets it; while it is set, one that begins to assert accumulates. -/
def tripLevels (s : State) (p : Nat) (t : Tick) : State :=
  let m := s.levelCauses p t
  let new := m - (m &&& (s.px p).pgen.levels)
  let s := s.modPgen p fun x => { x with levels := m }
  if s.tripped p then (if new = 0 then s else s.trip p new t 0) else if m = 0 then s else s.trip p m t 0

/-- Why a re-arm at `t` is refused (R162), as a reason of R355: 1 FLT, 7 CAUSE. -/
def rearmReason (s : State) (p : Nat) (t : Tick) : Option Nat :=
  if (s.px p).flt then some 1
  else if s.levelCauses p t ≠ 0 ∨ (s.px p).gnd = true then some 7
  else if s.pulsed p && !bitOf (s.live p (Pt.PGEN_CFG p)) PgenCfg.GATE_MODE && s.bit (Pt.PGEN_STATUS p) PgenStatus.TRIP_IN_PULSE then some 7
  else none

/-- A re-arm that no condition of R162 refuses: TRIPPED clears, PG_GATE returns with the pre-trip code, and the loop
resumes warm. In the disable sequence, which owns the gate, it stays low (R163). With the latch clear a re-arm has no effect. -/
def rearm (s : State) (p : Nat) (t : Tick) : State :=
  if s.tripped p then
    let s := (s.setBit (Pt.PGEN_STATUS p) PgenStatus.TRIPPED false).modLoopY p fun y => { y with warm := true }
    let s := s.modPgen p fun x => { x with rearmAt := some t, permit := x.permit && decide (s.portState p ≠ 3) }
    (s.jPort p 3 0 t).syncPort p
  else s

/-! ### Trains -/

/-- Produce PGEN_DONE at the edge `e` and end the train (R164). -/
def trainDone (s : State) (p : Nat) (e : Tick) : State :=
  match (s.px p).pgen.train with
  | none => s
  | some tr =>
    let s := s.modPgen p fun x => { x with train := none }
    let s := (s.jPort p 5 0 e).produce 0x17 p e tr.gen
    (s.seqPulseDone p e).syncPort p

/-- Schedule the early end of the train at the first CLK_FAST edge at least two ticks after `S'` (R167). -/
def trainCutAt (s : State) (p : Nat) (S' : Tick) : State :=
  (s.modPgen p fun x => { x with train := x.train.map fun tr => { tr with cutAt := some (strikeEdge S') } }).later (strikeEdge S') (.trainCut p)

/-- STOP_MODE of the port. -/
def stopMode (s : State) (p : Nat) : Bool := bitOf (s.live p (Pt.PGEN_CFG p)) PgenCfg.STOP_MODE
def gateMode (s : State) (p : Nat) : Bool := bitOf (s.live p (Pt.PGEN_CFG p)) PgenCfg.GATE_MODE
def gateDelay (s : State) (p : Nat) : Nat := field (s.live p (Pt.PGEN_CFG p)) PgenCfg.GATE_DELAY 4
def startSrc (s : State) (p : Nat) : Nat := field (s.live p (Pt.PGEN_CFG p)) PgenCfg.START_SRC 2

/-- In GATED mode PG_GATE follows a level change by GATE_DELAY edges (R166). -/
def scheduleGate (s : State) (p : Nat) (e : Tick) (lvl : Bool) : State :=
  if s.gateDelay p = 0 then s.modPgen p fun x => { x with gateLvl := lvl }
  else s.modPgen p fun x => { x with gateQ := x.gateQ ++ [(e + 32 * s.gateDelay p, lvl)] }

/-- A scheduled rise of the train is due at or before `t`: its edge. -/
def riseDue (s : State) (p : Nat) (t : Tick) : Option (Train × Tick) :=
  match (s.px p).pgen.train with
  | some tr =>
    if tr.cutAt.isNone && !tr.stopAfterFall && decide (tr.rose = tr.fell) && decide (tr.n = 0 ∨ tr.rose < tr.n) &&
        decide (riseOf tr tr.rose ≤ t) then some (tr, riseOf tr tr.rose) else none
  | none => none

def fallDue (s : State) (p : Nat) (t : Tick) : Option (Train × Tick) :=
  match (s.px p).pgen.train with
  | some tr => if decide (tr.rose ≠ tr.fell) && decide (fallOf tr tr.fell ≤ t) then some (tr, fallOf tr tr.fell) else none
  | none => none

/-- The level rises at the edge `e` (R164). -/
def pulseRise (s : State) (p : Nat) (tr : Train) (e : Tick) : State :=
  let s := s.modPgen p fun x => { x with level := true, train := some { tr with rose := tr.rose + 1 } }
  let s := (s.set (Pt.PULSES_DONE p) (tr.rose + 1)).scheduleGate p e true
  (s.produce 0x15 p e tr.gen).syncPort p

/-- The level falls at the edge `e`; after the last fall the train is done (R164). -/
def pulseFall (s : State) (p : Nat) (tr : Train) (e : Tick) : State :=
  let s := s.modPgen p fun x => { x with level := false, train := some { tr with fell := tr.fell + 1 } }
  let s := (s.scheduleGate p e false).produce 0x16 p e tr.gen
  let last := tr.stopAfterFall || (decide (tr.n ≠ 0) && decide (tr.fell + 1 = tr.n))
  if last then s.trainDone p e else s.syncPort p

/-- The early end of a stopped train falls due at `e` (R164, R167). -/
def trainCut (s : State) (p : Nat) (e : Tick) : State :=
  match (s.px p).pgen.train with
  | some tr =>
    if tr.cutAt = some e then
      let s := if (s.px p).pgen.level then
          (((s.modPgen p fun x => { x with level := false }).scheduleGate p e false).produce 0x16 p e tr.gen)
        else s
      s.trainDone p e
    else s
  | none => s

/-- The last edge of the train has fallen due by `t`: its busy interval is over (R9, R164). -/
def trainOver (s : State) (p : Nat) (t : Tick) : Bool :=
  match (s.px p).pgen.train with
  | some tr =>
    match tr.cutAt with
    | some e => decide (e ≤ t)
    | none => (s.fallDue p t).isSome && (tr.stopAfterFall || (decide (tr.n ≠ 0) && decide (tr.fell + 1 = tr.n)))
  | none => false

/-- A train whose last edge has fallen due ends at that edge. -/
def trainEnd (s : State) (p : Nat) (t : Tick) : State :=
  if s.trainOver p t then
    match (s.px p).pgen.train with
    | some tr =>
      (match tr.cutAt with
       | some e => s.trainCut p e
       | none => match s.fallDue p t with | some (tr, e) => s.pulseFall p tr e | none => s)
    | none => s
  else s

/-- Start a train at the start instant `S` (R164, R167); its events carry generation `gen`. A gate window of the train before still falls at its
own edge (R166). -/
def trainStart (s : State) (p : Nat) (S : Tick) (gen : Nat) : State :=
  let s := s.trainEnd p S
  let tr : Train := { e0 := strikeEdge S, w := s.live p (Pt.PULSE_WIDTH p), p := s.live p (Pt.PULSE_PERIOD p),
                      n := s.live p (Pt.PULSE_COUNT p), d := s.live p (Pt.PULSE_DELAY p), gen := gen }
  let m : StartMark := { at_ := S, ran := true, ovr := false, chans := [], done := s.rN (Pt.PULSES_DONE p) }
  let s := (s.modPgen p fun x => { x with train := some tr, startMark := some m }).set (Pt.PULSES_DONE p) 0
  (s.jPort p 4 0 S).syncPort p

/-- Why a start at `t` is refused (R168), as a reason of R355: 3 TRIPPED, 5 BUSY, 12 PORT_OFF. -/
def startReason (s : State) (p : Nat) (t : Tick) : Option Nat :=
  if s.tripped p then some 3
  else if (s.px p).pgen.train.isSome && !s.trainOver p t then some 5
  else if s.portState p = 0 ∨ s.portState p = 3 then some 12
  else none

/-- A start while a train runs: OVERRUN, and TARGET_OVR on the channels `l` that asked for it, unless a STOP of the tick follows (R168). -/
def startOverrun (s : State) (p : Nat) (S : Tick) (l : List (Nat × Nat)) : State :=
  let ch := (l.map (·.1)).filter fun e => !s.bit (Ch.CH_STATUS e) ChStatus.TARGET_OVR
  let m : StartMark := { at_ := S, ran := false, ovr := !s.bit (Pt.PGEN_STATUS p) PgenStatus.OVERRUN, chans := ch, done := 0 }
  let s := ch.foldl (fun s e => s.setBit (Ch.CH_STATUS e) ChStatus.TARGET_OVR true) s
  (s.modPgen p fun x => { x with startMark := some m }).setBit (Pt.PGEN_STATUS p) PgenStatus.OVERRUN true

/-- A start by an event on the channels `l` or by the sequencer: made, dropped as overrun, refused, or beaten by a STOP of the same tick (R168).
The flag says that it started. -/
def eventStart (s : State) (p : Nat) (S : Tick) (gen : Nat) (l : List (Nat × Nat)) : State × Bool :=
  match s.startReason p S with
  | none => if (s.px p).pgen.lastStop = some S then (s, false) else (s.trainStart p S gen, true)
  | some 5 => if (s.px p).pgen.lastStop = some S then (s, false) else (s.startOverrun p S l, false)
  | some _ => (s.setBit (Pt.PGEN_STATUS p) PgenStatus.START_REFUSED true, false)

/-- A START of the same tick is as though it had not been (R168). -/
def startVoid (s : State) (p : Nat) (S' : Tick) : State :=
  match (s.px p).pgen.startMark with
  | some m =>
    if m.at_ ≠ S' then s
    else
      let s := s.modPgen p fun x => { x with startMark := none, train := if m.ran then none else x.train }
      if m.ran then ((s.set (Pt.PULSES_DONE p) m.done).jPort p 5 0 S').seqStartVoid p
      else (m.chans.foldl (fun s e => s.setBit (Ch.CH_STATUS e) ChStatus.TARGET_OVR false) s).when m.ovr
        fun s => s.setBit (Pt.PGEN_STATUS p) PgenStatus.OVERRUN false
  | none => s

/-- A STOP at `S'` with a stop mode (R167, R168). It wins over a START of the same tick. -/
def trainStop (s : State) (p : Nat) (mode1 : Bool) (S' : Tick) : State :=
  let s := (s.startVoid p S').modPgen p fun x => { x with lastStop := some S' }
  match (s.px p).pgen.train with
  | none => s
  | some tr =>
    if tr.cutAt.isSome then s
    else if tr.rose = tr.fell ∨ mode1 = true then (s.trainCutAt p S').syncPort p
    else (s.modPgen p fun x => { x with train := some { tr with stopAfterFall := true } }).syncPort p

/-! ### Comparators -/

def modCmp (s : State) (p : Nat) (v : Bool) (f : Cmp → Cmp) : State :=
  s.modPx p fun x => if v then { x with cmpV := f x.cmpV } else { x with cmpI := f x.cmpI }
def cmpOf (s : State) (p : Nat) (v : Bool) : Cmp := if v then (s.px p).cmpV else (s.px p).cmpI
def cmpModeKey (p : Nat) (v : Bool) : Nat := if v then Pt.CMP_V_MODE p else Pt.CMP_I_MODE p
def cmpActiveKey (p : Nat) (v : Bool) : Nat := if v then Pt.CMP_V_MODE_ACTIVE p else Pt.CMP_I_MODE_ACTIVE p
def cmpActive (s : State) (p : Nat) (v : Bool) : Nat := s.rN (cmpActiveKey p v)
def pendBit (v : Bool) : Nat := if v then CmpStatus.MODE_PENDING_V else CmpStatus.MODE_PENDING_I

/-- The slice besides DRIVE_SLICE whose comparators watch the port: the one in SHADOW, or the one that takes the port in a transfer overlap
(R30, R154, R156). -/
def otherSlice (s : State) (p : Nat) : Option Nat :=
  let g := groupOf p
  ([reliefSlice g, homeSlice p].filter fun i => decide (i ≠ s.rN (Pt.DRIVE_SLICE p))).find? fun i =>
    decide (s.rN (Sl.SLICE_PORT i) = p) &&
      (decide (s.rN (Sl.SLICE_ROLE i) = 1) || (decide (s.rN (Sl.SLICE_ROLE i) = 0) && decide ((s.gx g).overlap = some p)))

def note (s : State) (i kind : Nat) (t : Tick) : State :=
  s.modSx i fun x => { x with health := { x.health with notes := x.health.notes ++ [(t, kind)] } }

/-- Causes 0-3 as the comparators of a slice in SHADOW see them (R163). -/
def shadowCauses (s : State) (p i : Nat) (t : Tick) : Nat :=
  let v := (s.sx i).cmpV.outAt t
  let w := (s.sx i).cmpI.outAt t
  ((decide (v = 1)).toNat + 2 * (decide (v = 2)).toNat + 4 * (decide (w = 1)).toNat + 8 * (decide (w = 2)).toNat) &&& s.live p (Pt.TRIP_EN p)

/-- The slice that takes the port in a transfer brings its comparators (R30, R156). -/
def cmpTake (s : State) (p i : Nat) : State :=
  let x := s.sx i
  let s := s.modPx p fun y => { y with cmpV := x.cmpV, cmpI := x.cmpI }
  (s.modPgen p fun y => { y with levels := s.levelCauses p s.now }).modSx i fun x => { x with cmpV := {}, cmpI := {} }

def cmpAt (s : State) (i : Nat) (v : Bool) : Cmp := if v then (s.sx i).cmpV else (s.sx i).cmpI
def modCmpAt (s : State) (i : Nat) (v : Bool) (f : Cmp → Cmp) : State :=
  s.modSx i fun x => if v then { x with cmpV := f x.cmpV } else { x with cmpI := f x.cmpI }

/-- The comparators of a slice that enters SHADOW on the port start in the port's modes (R154). -/
def cmpShadow (s : State) (p i : Nat) (t : Tick) : State :=
  (s.modCmpAt i true fun _ => Cmp.begin (s.cmpActive p true) t).modCmpAt i false fun _ => Cmp.begin (s.cmpActive p false) t

/-- A comparator starts in a mode at `t` (R154): it reports INSIDE. In SM it waits for its first strobe (R157). The comparator of a slice in SHADOW
follows, after its own start in progress (R155). -/
def cmpStart (s : State) (p : Nat) (v : Bool) (mode : Nat) (t : Tick) : State :=
  let s := (s.set (cmpActiveKey p v) mode).modCmp p v fun _ => Cmp.begin mode t
  let s := s.modPgen p fun x => { x with levels := s.levelCauses p t }
  match s.otherSlice p with
  | some i => s.modCmpAt i v fun c => if c.startEnd.isSome then c else Cmp.begin mode t
  | none => s

/-- Power both comparators at "Enable accepted" (R156, R430). -/
def cmpPower (s : State) (p : Nat) (t : Tick) : State :=
  (((s.cmpStart p true (s.live p (Pt.CMP_V_MODE p)) t).cmpStart p false (s.live p (Pt.CMP_I_MODE p)) t).loadThresholds p t).syncPort p

/-- Unpower both comparators at OFF; MODE_PENDING clears (R155, R156). -/
def cmpUnpower (s : State) (p : Nat) : State :=
  let s := ((s.set (Pt.CMP_V_MODE_ACTIVE p) 6).set (Pt.CMP_I_MODE_ACTIVE p) 6).modPx p fun x => { x with cmpV := {}, cmpI := {}, pgen := { x.pgen with levels := 0 } }
  let s := match s.otherSlice p with
    | some i => s.modSx i fun x => { x with cmpV := {}, cmpI := {} }
    | none => s
  s.setBits (Pt.CMP_STATUS p) [(CmpStatus.MODE_PENDING_V, false), (CmpStatus.MODE_PENDING_I, false)]

/-- The mode of a comparator changes at a tick boundary (R155): at once, or after the start in progress. -/
def cmpModeChange (s : State) (p : Nat) (v : Bool) (t : Tick) : State :=
  let want := s.live p (cmpModeKey p v)
  if !s.enabled p then s
  else if (s.cmpOf p v).startEnd.isSome then s.setBit (Pt.CMP_STATUS p) (pendBit v) (decide (want ≠ s.cmpActive p v))
  else if want = s.cmpActive p v then s
  else s.cmpStart p v want t

/-- An exit or an entry of a window (R158). -/
def cmpExit (s : State) (p : Nat) (v : Bool) (t : Tick) : State :=
  (s.setBit (Pt.CMP_STATUS p) (if v then CmpStatus.EXIT_V else CmpStatus.EXIT_I) true).produce (if v then 0x10 else 0x12) p t 0
def cmpEnter (s : State) (p : Nat) (v : Bool) (t : Tick) : State := s.produce (if v then 0x11 else 0x13) p t 0

/-- The live output changes from one state to another: an exit, an entry, or both in the order in which the input passes
through INSIDE (R147, R158). -/
def cmpMove (s : State) (p : Nat) (v : Bool) (dst : Nat) (t : Tick) : State :=
  let old := (s.cmpOf p v).state
  if old = dst then s
  else
    let s := s.modCmp p v fun c => { c with state := dst }
    let s := s.when (decide (old ≠ 0)) fun s => s.cmpEnter p v t
    let s := s.when (decide (dst ≠ 0)) fun s => s.cmpExit p v t
    (s.tripLevels p t).syncPort p

/-- A first decision at `t` (R154): the state is taken directly. Outside SM it produces no event; a strobe's decision
outside the window produces an EXIT (R158). -/
def cmpDecide (s : State) (p : Nat) (v : Bool) (dst : Nat) (event : Bool) (t : Tick) : State :=
  let s := s.modCmp p v fun c => { c with state := dst, startEnd := none, decided := true }
  let s := s.when (event && decide (dst ≠ 0)) fun s => s.cmpExit p v t
  (s.tripLevels p t).syncPort p

/-- Every trip-enabled powered comparator has made its first decision (R154, ARM_WAIT). -/
def allDecided (s : State) (p : Nat) : Bool :=
  let en := s.live p (Pt.TRIP_EN p)
  let ok := fun (v : Bool) (m : Nat) => decide (m = 0) || (s.cmpOf p v).decided || decide (s.cmpActive p v = 6)
  ok true (field en 0 2) && ok false (field en 2 2)

end State

end Sys2Proof.Machine
end

