-- ==== Sys2Proof/Machine/LoopCore.lean ====
section
/-!
DEFINITION. The arithmetic of the force loop (R112, R113, R117, R119, R121, R122): one bank's update, the tracking of every
integrator, the cold start, and the load-model visit.
-/

namespace Sys2Proof.Machine

/-- What one update reads besides the loop state: mode, gains, limits, load model and stage gain in force. -/
structure LoopCfg where
  mode : Nat
  kpV : Int
  kiV : Int
  kpI : Int
  kiI : Int
  wlim : Int
  chi : Int
  clo : Int
  rhat : Int
  v0 : Int
  kstage : Int
  step : Int                       -- SP_STEP_EFF
deriving DecidableEq, Repr

/-- The feed-forward of a value of the regulated or the compliance quantity (R113). -/
def feedForward (c : LoopCfg) (isV : Bool) (v : Int) : Int := if isV then v else sat40 (mul40 v c.rhat + c.v0)

/-- Limit to ±WLIM. -/
def satW (c : LoopCfg) (v : Int) : Int := satTo v (-c.wlim) c.wlim

/-- The errors of the three controllers (R113): `r` is the slewed target of the bank. -/
def loopErrors (c : LoopCfg) (r yv yi : Int) : Tri :=
  let y := if regV c.mode then yv else yi
  let q := if regV c.mode then yi else yv
  { pri := sat40 (r - y), hi := sat40 (c.chi - q), lo := sat40 (c.clo - q) }

/-- The feed-forwards of the three controllers (R113). -/
def loopFF (c : LoopCfg) (r : Int) : Tri :=
  let regIsV := regV c.mode
  { pri := feedForward c regIsV r, hi := feedForward c (!regIsV) c.chi, lo := feedForward c (!regIsV) c.clo }

/-- Proportional and integral gains of the PRI controller and of the limit controllers (R113). -/
def kpPri (c : LoopCfg) : Int := if regV c.mode then c.kpV else c.kpI
def kiPri (c : LoopCfg) : Int := if regV c.mode then c.kiV else c.kiI
def kpLim (c : LoopCfg) : Int := if regV c.mode then c.kpI else c.kpV
def kiLim (c : LoopCfg) : Int := if regV c.mode then c.kiI else c.kiV

/-- The integrator with which a controller's output equals `w` (R113, R122). -/
def tracked (c : LoopCfg) (w ff e kp : Int) : Int := satW c (w - ff - mul40 e kp)

/-- Track all three integrators of a bank to its command (R122). -/
def trackBank (c : LoopCfg) (r w yv yi : Int) : Tri :=
  let e := loopErrors c r yv yi
  let ff := loopFF c r
  { pri := tracked c w ff.pri e.pri (kpPri c), hi := tracked c w ff.hi e.hi (kpLim c), lo := tracked c w ff.lo e.lo (kpLim c) }

/-- What one update of a bank gives: target, integrators, command, output, selection (0 PRI, 1 HI, 2 LO) and WSAT. -/
structure BankOut where
  r : Int
  x : Tri
  w : Int
  u : Int
  sel : Nat
  wsat : Bool
deriving DecidableEq, Repr

/-- The slewed target (R113). -/
def slewTarget (step r T : Int) : Int := if step = 0 then T else r + satTo (sat40 (T - r)) (-step) step

/-- One update of a bank toward target `T` (R113). -/
def bankUpdate (c : LoopCfg) (r0 : Int) (x : Tri) (T yv yi : Int) : BankOut :=
  let r := sat40 (slewTarget c.step r0 T)
  let e := loopErrors c r yv yi
  let ff := loopFF c r
  let xp := satW c (x.pri + mul40 e.pri (kiPri c))
  let xh := satW c (x.hi + mul40 e.hi (kiLim c))
  let xl := satW c (x.lo + mul40 e.lo (kiLim c))
  let rawP := ff.pri + mul40 e.pri (kpPri c) + xp
  let rawH := ff.hi + mul40 e.hi (kpLim c) + xh
  let rawL := ff.lo + mul40 e.lo (kpLim c) + xl
  let vp := satW c rawP
  let vh := satW c rawH
  let vl := satW c rawL
  let m1 := if vp ≤ vh then (vp, 0, rawP) else (vh, 1, rawH)
  let m := if m1.1 < vl then (vl, 2, rawL) else m1
  let w := m.1
  let sel := m.2.1
  { r := r, w := w, sel := sel, wsat := decide (m.2.2 ≠ w), u := mul40 w c.kstage,
    x := { pri := if sel = 0 then xp else tracked c w ff.pri e.pri (kpPri c),
           hi := if sel = 1 then xh else tracked c w ff.hi e.hi (kpLim c),
           lo := if sel = 2 then xl else tracked c w ff.lo e.lo (kpLim c) } }

/-! ### 24 words of the loop state (R111) -/

/-- LOOP_SNAPSHOT as 24 words, with the status word given (R111). -/
def snapWords (l : LoopX) (rhat v0 : Nat) : List Nat :=
  let w := ofSigned 40
  let wide := fun (v : Int) => [ofSigned 80 v / 2 ^ 40, ofSigned 80 v % 2 ^ 40]
  [w l.r0, w l.r1, w l.x0.pri, w l.x0.hi, w l.x0.lo, w l.x1.pri, w l.x1.hi, w l.x1.lo, w l.w0, w l.w1, w l.yv, w l.yi, w l.z,
   rhat, v0, w l.mi, w l.mv] ++ wide l.sii ++ wide l.siv ++ [l.status, l.lastTick % 2 ^ 40, l.lastTick / 2 ^ 40 % 2 ^ 24]

namespace State

/-- SP_STEP_EFF: SP_STEP capped by a non-zero SP_STEP_CAP (R113). SP_STEP 0 is unlimited, so a cap then acts alone. -/
def stepEff (s : State) (p : Nat) : Int :=
  let st := (s.slotOf p).spStep
  let cap := s.rI (Pt.SP_STEP_CAP p)
  if cap = 0 then st else if st = 0 then cap else min st cap

/-- The loop configuration in force. -/
def loopCfg (s : State) (p : Nat) : LoopCfg :=
  { mode := (s.slotOf p).mode, kpV := s.liveI p (Pt.KP_V p), kiV := s.liveI p (Pt.KI_V p), kpI := s.liveI p (Pt.KP_I p),
    kiI := s.liveI p (Pt.KI_I p), wlim := s.liveI p (Pt.WLIM p), chi := (s.effHi p).1, clo := (s.effLo p).1,
    rhat := s.rI (Pt.LM_R p), v0 := s.rI (Pt.LM_V0 p), kstage := s.rI (Pt.KSTAGE p), step := s.stepEff p }

/-- The configuration whose change tracks every integrator (R122): mode, gains, limits, KSTAGE, LINK_PORT. -/
def trackKey (s : State) (p : Nat) : List Int :=
  let c := s.loopCfg p
  [c.mode, c.kpV, c.kiV, c.kpI, c.kiI, c.wlim, c.chi, c.clo, c.kstage, s.live p (Pt.LINK_PORT p)]

/-- Reset the load model (R119). DESIGN CHOICE (log entry 92): the means start from the inputs of the latest tick whose update has been made; at a
write that takes effect at `t_n` that is the tick before, as step 2 of R107 stands before step 3. -/
def modelReset (s : State) (p : Nat) : State :=
  let l := (s.px p).loop
  ((s.set (Pt.LM_R p) (s.live p (Pt.LM_R_INIT p))).set (Pt.LM_V0 p) 0).modLoop p fun _ =>
    { l with mi := l.yi, mv := l.yv, sii := 0, siv := 0 }

/-- The cold start of R121 and the one update that gives the first output: the target stays at the measured input. In PV
and PI bank 1 takes the state of bank 0 (R117). -/
def coldStart (s : State) (p : Nat) : State :=
  let now := s.now
  let s := s.modLoop p fun l =>
    if l.fed then l else { l with yv := sat40 (Config.noInput p now true), yi := sat40 (Config.noInput p now false) }
  let s := s.modelReset p
  let c := s.loopCfg p
  let l := (s.px p).loop
  let y := if regV c.mode then l.yv else l.yi
  let o := bankUpdate c y {} y l.yv l.yi
  let s := s.modLoop p fun l => { l with r0 := o.r, r1 := o.r, x0 := o.x, x1 := o.x, w0 := o.w, w1 := o.w, u0 := o.u, u1 := o.u, z := 0,
                                         sel0 := o.sel, sel1 := o.sel }
  let s := s.modLoopY p fun y => { y with cold := false, lastMode := c.mode, lastCfg := s.trackKey p }
  (s.setI (Pt.TARGET_ACTIVE p) y).setI (Pt.R_ACTIVE p) o.r

/-- The loop's next output of the level held: the command mapped by KSTAGE (R60, R66). -/
def nextCode (s : State) (p : Nat) : Nat :=
  let l := (s.px p).loop
  let w := if s.pulsed p && (s.px p).pgen.level then l.w1 else l.w0
  (codeOf (s.rN (Pt.SPAN_ACTIVE p)) (mul40 w (s.rI (Pt.KSTAGE p)))).1

/-- Load the pending register with the loop's last outputs in the active span. -/
def reloadPending (s : State) (p : Nat) : State :=
  let l := (s.px p).loop
  let k := s.rI (Pt.KSTAGE p)
  let sp := s.rN (Pt.SPAN_ACTIVE p)
  s.modForce p fun f => { f with incoming := none, pendNew := false, pend0 := (codeOf sp (mul40 l.w0 k)).1,
                                 pend1 := (codeOf sp (mul40 l.w1 k)).1 }

/-! ### The load model (R119) -/

/-- floor(a × 2^−n + 1/2). -/
def betaMul (a : Int) (n : Nat) : Int := (2 * a + 2 ^ n) / 2 ^ (n + 1)

/-- Signed 80-bit saturation. -/
def sat80 (v : Int) : Int := satTo v (-(2 ^ 79)) (2 ^ 79 - 1)

/-- A visit that updates the model (R119). -/
def modelUpdate (s : State) (p : Nat) : State :=
  let l := (s.px p).loop
  let n := s.live p (Pt.LM_SHIFT p)
  let di := sat40 (l.yi - l.mi)
  let dv := sat40 (l.yv - l.mv)
  let mi := sat40 (l.mi + betaMul di n)
  let mv := sat40 (l.mv + betaMul dv n)
  let sii := sat80 (l.sii + betaMul (di * di - l.sii) n)
  let siv := sat80 (l.siv + betaMul (di * dv - l.siv) n)
  let s := s.modLoop p fun l => { l with mi := mi, mv := mv, sii := sii, siv := siv, status := putBit l.status 11 true }
  let exc := s.liveI p (Pt.LM_EXC p)
  if 0 < sii ∧ exc * exc ≤ sii then
    let raw := (2 * siv * 2 ^ 32 + sii) / (2 * sii)
    let lo := s.liveI p (Pt.LM_R_MIN p)
    let hi := s.liveI p (Pt.LM_R_MAX p)
    let r := satTo raw lo hi
    let wl := s.liveI p (Pt.WLIM p)
    let v0 := satTo (mv - mul40 mi r) (-wl) wl
    let s := (s.setI (Pt.LM_R p) r).setI (Pt.LM_V0 p) v0
    when (decide (r ≠ raw)) (fun s => s.setBit (Pt.LOOP_STATUS p) LoopStatus.LM_LIMIT true)
      (s.setBit (Pt.LOOP_STATUS p) LoopStatus.LM_HOLD false)
  else s.setBit (Pt.LOOP_STATUS p) LoopStatus.LM_HOLD true

end State
end Sys2Proof.Machine
end

