-- ==== Sys2Proof/Machine/RangeOps.lean ====
section
/-!
DEFINITION. Make-before-break steps (R132-R139), the range sought (R140-R143), and the opening of precision windows
(R78-R80, R99).
-/

namespace Sys2Proof.Machine
namespace State

/-! ### Tick boundaries (R105) -/

/-- The loop period T in ticks. -/
def period (s : State) (p : Nat) : Nat := 320 * s.rN (Pt.LOOP_DIV_ACTIVE p)

/-- The first tick boundary at or after `t`. -/
def boundaryAt (s : State) (p : Nat) (t : Tick) : Tick := let T := s.period p; (t + T - 1) / T * T

/-- `t` is a tick boundary of the port (R105). -/
def isBoundary (s : State) (p : Nat) (t : Tick) : Bool := decide (t % s.period p = 0)

/-- The effective divisor sought (R105). -/
def divSought (s : State) (p : Nat) : Nat :=
  max (max (s.live p (Pt.LOOP_DIV p)) (s.rN (Pt.DIV_FLOOR p))) (if s.full then 1 else 20)

/-! ### Precision windows -/

/-- Base words of a window (R79). -/
def specWords (v : Nat) : Nat :=
  let c := field v 0 30
  match field v 30 2 with
  | 0 => c
  | 1 => 20480 * c
  | _ => let w := 51200 * c; w / 3 + (if 0 < w % 3 then 1 else 0)

/-- The specification in force after the limits of R99: before full service at least 1,024 base words. -/
def specInForce (s : State) (v : Nat) : Nat := if !s.full && decide (specWords v < 1024) then 1024 else v

/-- The first base-word timestamp at or after `t` (R77). -/
def baseAt (t : Tick) : Tick := (t + 624) / 625 * 625

/-- Open a window now, on the base-word timestamp `o` (R80). -/
def openWin (s : State) (p : Nat) (o : Tick) (spec ctx : Nat) : State :=
  let v := s.specInForce spec
  let w : PrecWin := { spec := v, n := specWords v, open_ := o, ctx := ctx, prov := !s.full, counted := !s.tripped p, complSeen := false }
  (s.modMeas p fun m => { m with win := some w }).set (Pt.INT_ACTIVE p) v

/-- A free-running window may open: no context runs, PREC_FREE is 1, the port is ON and its group has not begun to quiesce (R80, R100). -/
def freeRuns (s : State) (p : Nat) : Bool :=
  s.portOn p && decide (s.live p (Pt.PREC_FREE p) = 1) && (s.runOf p).isNone && (s.px p).meas.win.isNone && decide (s.groupState (groupOf p) = 0)

/-- Start or continue a free-running series at `t` (R80): its window opens at the first base-word timestamp at or after `t`, on the entries that
are in force there. -/
def openFree (s : State) (p : Nat) (t : Tick) : State :=
  if !s.freeRuns p then s
  else if baseAt t = t then s.openWin p t (s.live p (Pt.PREC_INT p)) (s.live p (Pt.IDLE_CTX p))
  else (s.modMeas p fun m => { m with nextOpen := some (baseAt t) }).later (baseAt t) (.winOpen p)

/-- The base-word timestamp at which a series opens its first window. -/
def openDue (s : State) (p : Nat) (t : Tick) : State :=
  if (s.px p).meas.nextOpen = some t then (s.modMeas p fun m => { m with nextOpen := none }).openFree p t else s

/-! ### The range sought (R140-R142) -/

/-- Bounds of the current and of the voltage range (R140). -/
def boundsI (s : State) (p : Nat) : Nat × Nat := let c := s.slotOf p; (c.iMin, min c.iMax (s.topI p))

def clampN (v lo hi : Nat) : Nat := if v < lo then lo else if hi < v then hi else v

/-- TARGET: the lowest range within bounds in which the written setpoint stays within DOWN_TH, else the highest (R140). DEDUCED (log entry 96): in
ZERO the target is 0, whatever FORCE_SETPOINT holds (R110), so the setpoint counts as 0. -/
def targetRange (s : State) (p : Nat) (v : Bool) (lo hi : Nat) : Nat :=
  let c := s.slotOf p
  let two := decide (3 ≤ c.mode) && decide (absI c.sp < absI c.psp)
  let w := if two then c.psp else if c.mode = 0 then 0 else c.sp
  let ref := s.refOr p v (if two then c.pspRef else c.spRef)
  let th := s.liveI p (Pt.DOWN_TH p)
  let ok := fun r => decide (absI (s.conv p ref (if v then 8 + r else r) w) ≤ th)
  (((List.range (hi + 1 - lo)).map (· + lo)).find? ok).getD hi

/-- The range sought of a quantity, as an index of its ladder (R140-R143). -/
def sought (s : State) (p : Nat) (v : Bool) : Nat :=
  if (s.px p).range.toOff then (if v then s.topV p else s.topI p)
  else
    let c := s.slotOf p
    let now := if v then s.rN (Pt.VRNG_ACTIVE p) else s.rangeI p
    let b := if v then (0, s.topV p) else s.boundsI p
    let pol := if v then c.vPol else c.iPol
    if pol = 0 then (if v then c.vSel else c.iSel)
    else if pol = 2 ∧ regV c.mode = v ∧ s.live p (Pt.LINK_PORT p) = 0xFF then s.targetRange p v b.1 b.2
    else clampN (((if v then (s.px p).range.autoV else (s.px p).range.autoI)).getD now) b.1 b.2

def inForce (s : State) (p : Nat) (v : Bool) : Nat := if v then s.rN (Pt.VRNG_ACTIVE p) else s.rangeI p

/-- The port stands in its OFF state: the highest ranges of both ladders (R127). -/
def atOffRange (s : State) (p : Nat) : Bool :=
  decide (s.rangeI p = s.topI p) && decide (s.rN (Pt.VRNG_ACTIVE p) = s.topV p)

/-- The ranges sought, current first. -/
def soughts (s : State) (p : Nat) : Nat × Nat := (s.sought p false, s.sought p true)

/-- Further steps remain to the ranges sought, after the running step (R142). -/
def moreSought (s : State) (p : Nat) : Bool :=
  let r := (s.px p).range
  let dest := match r.step with
    | none => (s.rangeI p, s.rN (Pt.VRNG_ACTIVE p))
    | some st => if st.qv then (s.rangeI p, st.b) else (st.b, s.rN (Pt.VRNG_ACTIVE p))
  (r.chainOk || r.toOff) && decide (s.soughts p ≠ dest)

/-- RNG_CHAIN follows the steps that remain (R142); RNG_PENDING ends with the step and its GUARD, and where nothing remains (R143). -/
def syncSought (s : State) (p : Nat) : State :=
  let more := s.moreSought p
  s.setBits (Pt.RNG_STATUS p)
    [(RngStatus.RNG_CHAIN, more), (RngStatus.RNG_PENDING, more && (s.px p).range.step.isSome && s.bit (Pt.RNG_STATUS p) RngStatus.RNG_PENDING)]

/-- A range is written, loaded or decided on (R143): during a step or its GUARD, RNG_PENDING tells whether it asks for more than the step. -/
def rngEvent (s : State) (p : Nat) : State :=
  if (s.px p).range.step.isSome then s.setBit (Pt.RNG_STATUS p) RngStatus.RNG_PENDING (s.moreSought p) else s

/-- The quantity's policy acts as AUTO (R140). -/
def autoActs (s : State) (p : Nat) (v : Bool) : Bool :=
  let c := s.slotOf p
  let pol := if v then c.vPol else c.iPol
  decide (pol = 1) || (decide (pol = 2) && !(decide (regV c.mode = v) && decide (s.live p (Pt.LINK_PORT p) = 0xFF)))

/-- The settings in force may have changed: the counts of AUTO restart where its bounds did (R141), and a decision of AUTO ends where AUTO no
longer acts. -/
def rangeRules (s : State) (p : Nat) : State :=
  let b := s.boundsI p
  let ai := s.autoActs p false
  let av := s.autoActs p true
  s.modRange p fun r =>
    { r with upI := if r.boundsWas = b then r.upI else 0, downI := if r.boundsWas = b then r.downI else 0,
             autoI := if r.actI = ai then r.autoI else none, autoV := if r.actV = av then r.autoV else none,
             boundsWas := b, actI := ai, actV := av }

/-! ### Steps -/

def ovlTime (s : State) (p : Nat) (v : Bool) (x : Nat) : Nat :=
  640 * s.rN ((if v then Pt.VOVL_TIME_0 p else Pt.IOVL_TIME_0 p) + x)

/-- A step from `a` to `b` takes effect at the tick boundary `t0` (R132). -/
def stepStart (s : State) (p : Nat) (v : Bool) (a b : Nat) (t0 : Tick) : State :=
  let T := s.period p
  let t1 := s.boundaryAt p (t0 + s.ovlTime p v b)
  let t2 := t1 + 3 * T
  let t3 := s.boundaryAt p (t2 + s.ovlTime p v a)
  let ge := s.boundaryAt p (t2 + 2 * s.ovlTime p v a)
  let st : RStep := { qv := v, a := a, b := b, t0 := t0, t1 := t1, t2 := t2, t3 := t3, guardEnd := ge, phase := 1, rescale := true }
  let s := s.modRange p fun r => { r with step := some st }
  let s := s.modMeas p fun m => { m with steps := m.steps ++ [st] }
  let s := s.drivePattern p (s.overlapPat p v a b)
  let s := (s.setFld (Pt.RNG_STATUS p) RngStatus.PHASE 2 1).setBits (Pt.RNG_STATUS p)
    [(RngStatus.RNG_BUSY, true), (RngStatus.QTY, v), (RngStatus.DIR, decide (a < b)), (RngStatus.RNG_PENDING, false)]
  let s := s.jPort p 8 (1 + 4 * v.toNat + 16 * a + 256 * b) t0
  ((s.loadThresholds p t0).resetCount p).syncSought p

/-- The first step of a chain toward the ranges sought, current first, one rung at a time (R142). -/
def seekStart (s : State) (p : Nat) (t : Tick) : State :=
  let r := (s.px p).range
  if r.step.isSome || s.inTransfer p || (decide (s.spanStep p ≠ 0) && !r.toOff) || !(r.chainOk || r.toOff) then s
  else
    let si := s.sought p false
    let sv := s.sought p true
    let ai := s.rangeI p
    let av := s.rN (Pt.VRNG_ACTIVE p)
    if si ≠ ai then s.stepStart p false ai (if ai < si then ai + 1 else ai - 1) t
    else if sv ≠ av then s.stepStart p true av (if av < sv then av + 1 else av - 1) t
    else s.syncSought p

/-- MAKE ends at `t1` and PARALLEL begins (R132, R137). -/
def stepMakeEnd (s : State) (p : Nat) (t : Tick) : State :=
  match (s.px p).range.step with
  | some st =>
    if st.phase = 1 ∧ st.t1 ≤ t then
      let s := (s.modRange p fun r => { r with step := some { st with phase := 2 } }).setFld (Pt.RNG_STATUS p) RngStatus.PHASE 2 2
      (s.loadThresholds p st.t1).jPort p 8 (2 + 4 * st.qv.toNat + 16 * st.a + 256 * st.b) st.t1
    else s
  | none => s

/-- A value held at 80 bits re-scaled by k (R134). -/
def mul80 (v k : Int) : Int := sat80 (mulQ v k)

/-- The re-scale of the loop state at `t2` (R134). -/
def rescale (s : State) (p : Nat) (v : Bool) (a b : Nat) : State :=
  let ca := if v then 8 + a else a
  let cb := if v then 8 + b else b
  let k := s.factor p ca cb
  let regd := decide (regV (s.slotOf p).mode = v)
  let tri := fun (x : Tri) => ({ pri := mul40 x.pri k, hi := mul40 x.hi k, lo := mul40 x.lo k } : Tri)
  let s := s.modLoop p fun l =>
    let l := if v then
        { l with yv := mul40 l.yv k, mv := mul40 l.mv k, siv := mul80 l.siv k, x0 := tri l.x0, x1 := tri l.x1,
                 w0 := mul40 l.w0 k, w1 := mul40 l.w1 k }
      else { l with yi := mul40 l.yi k, mi := mul40 l.mi k, siv := mul80 l.siv k, sii := mul80 (mul80 l.sii k) k }
    if regd then { l with r0 := mul40 l.r0 k, r1 := mul40 l.r1 k, z := mul40 l.z k } else l
  if v then (s.setI (Pt.LM_R p) (mul40 (s.rI (Pt.LM_R p)) k)).setI (Pt.LM_V0 p) (mul40 (s.rI (Pt.LM_V0 p)) k)
  else
    let r := mul40 (s.rI (Pt.LM_R p)) (s.factor p cb ca)
    s.setI (Pt.LM_R p) (satTo r (s.liveI p (Pt.LM_R_MIN p)) (s.liveI p (Pt.LM_R_MAX p)))

/-- PARALLEL ends at `t2`: `b` becomes the range in force and the loop state is re-scaled (R132, R134, R138). -/
def stepParEnd (s : State) (p : Nat) (t : Tick) : State :=
  match (s.px p).range.step with
  | some st =>
    if st.phase = 2 ∧ st.t2 ≤ t then
      let clampedA := (s.effHi p).2 || (s.effLo p).2
      let s := s.closeLoop p
      let s := if st.qv then s.set (Pt.VRNG_ACTIVE p) st.b else s.set (Pt.IRNG_ACTIVE p) st.b
      let s := s.modRange p fun r =>
        if st.qv then { r with step := some { st with phase := 3 }, upV := 0, downV := 0, autoV := if r.autoV = some st.b then none else r.autoV }
        else { r with step := some { st with phase := 3 }, upI := 0, downI := 0, autoI := if r.autoI = some st.b then none else r.autoI }
      let s := if st.rescale then s.rescale p st.qv st.a st.b else s
      let s := s.when st.qv fun s => s.loadKstage p
      let s := s.deriveLimits p
      -- a V step changes KSTAGE, and a limit clamped on either side changes; a limit that is only converted does not (R122, R144)
      let moved := st.qv || (regV (s.slotOf p).mode && (clampedA || (s.effHi p).2 || (s.effLo p).2))
      let s := s.modLoopY p fun y => { y with lastCfg := if st.rescale && !moved then s.trackKey p else y.lastCfg }
      let s := s.drivePattern p (s.steadyPat p (s.rN (Pt.VRNG_ACTIVE p)) (s.rangeI p))
      let s := (s.setFld (Pt.RNG_STATUS p) RngStatus.PHASE 2 3).setBit (Pt.RNG_STATUS p) RngStatus.GUARD true
      (s.loadThresholds p st.t2).jPort p 8 (3 + 4 * st.qv.toNat + 16 * st.a + 256 * st.b) st.t2
    else s
  | none => s

/-- BREAK ends at `t3`: RANGING ends and samples are in `b` (R132). -/
def stepBreakEnd (s : State) (p : Nat) (t : Tick) : State :=
  match (s.px p).range.step with
  | some st =>
    if st.phase = 3 ∧ st.t3 ≤ t then
      let up := decide (st.a < st.b)
      let s := s.modRange p fun r =>
        if st.qv then { r with step := some { st with phase := 4 }, upAgoV := if up then some 0 else r.upAgoV }
        else { r with step := some { st with phase := 4 }, upAgoI := if up then some 0 else r.upAgoI }
      let s := (s.setFld (Pt.RNG_STATUS p) RngStatus.PHASE 2 0).setBits (Pt.RNG_STATUS p)
        [(RngStatus.RNG_BUSY, false), (RngStatus.QTY, false), (RngStatus.DIR, false)]
      let s := s.satInc (Pt.RNG_STEPS p) 32 1
      ((s.loadThresholds p st.t3).jPort p 8 (0 + 4 * st.qv.toNat + 16 * st.a + 256 * st.b) st.t3).syncSought p
    else s
  | none => s

/-- GUARD ends (R132). -/
def stepGuardEnd (s : State) (p : Nat) (t : Tick) : State :=
  match (s.px p).range.step with
  | some st =>
    if st.phase = 4 ∧ st.guardEnd ≤ t then
      ((s.modRange p fun r => { r with step := none }).setBit (Pt.RNG_STATUS p) RngStatus.GUARD false).syncSought p
    else s
  | none => s

/-- The phases of a step that have fallen due by `t`, up to the end of PARALLEL. -/
def stepToBreak (s : State) (p : Nat) (t : Tick) : State := (s.stepMakeEnd p t).stepParEnd p t

end State
end Sys2Proof.Machine
end

