-- ==== Sys2Proof/Machine/PortCtl.lean ====
section
/-!
DEFINITION. What a port goes through: slice roles (R27-R32), the enable sequence (R64, R430), the ramps and what follows each
(R58), the disable sequence (R431, R432), span changes (R60, R62), clears and their release (R65-R67), and the group states
that follow when a port reaches OFF (R22).
-/

namespace Sys2Proof.Machine
namespace State

/-! ### Slice roles -/

/-- Set the role of a slice and the port that it drives or shadows (R27, R35, R349). -/
def setRole (s : State) (i role port : Nat) : State :=
  let s := (s.set (Sl.SLICE_ROLE i) role).set (Sl.SLICE_PORT i) port
  let s := s.setFld (Gr.XBAR_STATE (i / 9)) (4 * (i % 9)) 4 role
  let s := if role ≤ 1 then s else s.modSx i fun x => { x with cmpV := {}, cmpI := {} }
  s.journal 0 4 (if port < 128 then port else 0x80 + i / 9) s.now [9 * 2 ^ 35 + role * 2 ^ 8 + i]

def roleOf (s : State) (i : Nat) : Nat := s.rN (Sl.SLICE_ROLE i)

/-- The slice that serves a port: the relief slice for the privileged port under SUBSTITUTE, else its home slice (R28). -/
def servingSlice (s : State) (p : Nat) : Nat :=
  let g := groupOf p
  if s.rN (Gr.RELIEF_MODE g) = 1 ∧ s.rN (Gr.PRIV_PORT g) = localOf p then reliefSlice g else homeSlice p

/-! ### Enabling (R348, R430) -/

/-- Why an enable of an OFF port is refused, as a reason of R355 (R348, R437). -/
def enableReason (s : State) (p : Nat) : Option Nat :=
  if s.inFault p then some 1
  else if s.pwr.clrLow || s.pwr.pfwClear then some 2
  else if s.tripped p then some 3
  else if s.groupState (groupOf p) ≠ 0 then some 4
  else if s.bit Pw.PWR_STATUS PwrStatus.ANALOG_FLT then some 6
  else none

/-- R64 step 2: the core goes to SAFE_VALUE at the next CLK_FAST edge after `t`. -/
def enableStep2 (s : State) (p : Nat) (t : Tick) : State :=
  (s.modPx p fun x => { x with seqn := .enGate (edgeAfter t + 39) }).later (edgeAfter t) (.setSafe p)

/-- "Enable accepted" (R430): the port enters ENABLING, its comparators are powered, and the force path starts R64. At the
first enable since reset its home slice leaves PARKED (R28, R35). DESIGN CHOICE (log entry 85): the span switch of enable step 1 shows in
TH only, SPAN_STEP reads 0; and it takes the place of a hold that runs on the OFF port. -/
def enableNow (s : State) (p : Nat) (t : Tick) : State :=
  let s := s.set (Pt.PORT_STATE p) 1
  let i := s.servingSlice p
  let s := if s.roleOf i = 3 then s.setRole i 0 p else s
  let s := s.set (Pt.DRIVE_SLICE p) i
  let s := s.modPx p fun x => { x with
    force := { x.force with everEnabled := true },
    loopY := { x.loopY with cold := true, warm := false, compl := false, complSel := 0, selF0 := 0, selF1 := 0, recCount := 0, tickDone := false },
    range := { x.range with toOff := false, chainOk := false, autoI := none, autoV := none, upI := 0, downI := 0, upV := 0, downV := 0, upAgoI := none, upAgoV := none },
    pgen := { x.pgen with permit := false, gateLvl := false, gateQ := [] } }
  let s := (s.jPort p 0 0 t).cmpPower p t
  let sp := s.live p (Pt.SPAN p)
  let s := s.setFld (Pt.FORCE_STATUS p) ForceStatus.SPAN_STEP 2 0
  let s := if sp ≠ s.rN (Pt.SPAN_ACTIVE p) then
      ((s.modPx p fun x => { x with seqn := .enSpanHold (t + 1280), force := { x.force with spanTo := sp, safeUsed := s.live p (Pt.SAFE_VALUE p) } }).blankTo
        p (t + 1280 + us4)).setBit (Pt.FORCE_STATUS p) ForceStatus.TH true
    else (s.setBit (Pt.FORCE_STATUS p) ForceStatus.TH false).enableStep2 p t
  (((s.setBit (Pt.FORCE_STATUS p) ForceStatus.SPAN_PENDING false).deriveLimits p).rangeRules p).syncPort p

/-- An enable made by the device: at the end of a disable sequence, at a release, or at boot. A refusal sets REFUSED. -/
def enableTry (s : State) (p : Nat) (t : Tick) : State :=
  if s.portState p = 0 then
    match s.enableReason p with
    | some _ => s.setBit (Pt.PORT_STATUS p) PortStatus.REFUSED true
    | none => s.enableNow p t
  else s

/-- R64 step 2, at its CLK_FAST edge: SAFE_VALUE without a ramp, the accumulator reset. A clear keeps the core. -/
def setSafe (s : State) (p : Nat) (t : Tick) : State :=
  match (s.px p).seqn with
  | .enGate due =>
    if s.portState p = 1 ∧ due = t + 39 then
      let s := if (s.px p).force.clearCore.isSome then s else s.setCode p (s.safeCode p (s.rN (Pt.SPAN_ACTIVE p))) t
      let s := s.shaperReset p t
      let wait := bitOf (s.live p (Pt.PGEN_CFG p)) PgenCfg.ARM_WAIT && !s.allDecided p
      if wait then s.modPx p fun x => { x with seqn := .enArmWait } else s
    else s
  | _ => s

/-- With ARM_WAIT, step 3 lasts 39 ticks from the last first decision (R64, R154). -/
def armWaitDone (s : State) (p : Nat) (t : Tick) : State :=
  if (s.px p).seqn = .enArmWait ∧ s.allDecided p = true then s.modPx p fun x => { x with seqn := .enGate (t + 39) } else s

/-! ### Groups (R22) -/

/-- Release a group to RUN: every port of PORTS_RESUME is enabled again, in ascending order (R22). -/
def groupRun (s : State) (g : Nat) (t : Tick) : State :=
  let mask := s.rN (Gr.PORTS_RESUME g)
  let s := (s.set (Gr.GROUP_STATE g) 0).setBit (Gr.GROUP_STATUS g) GroupStatus.RELEASE_PENDING false
  let s := (List.range 8).foldl (fun s k => if bitOf mask k then s.enableTry (8 * g + k) t else s) s
  (s.set (Gr.PORTS_RESUME g) 0).later t (.rot g)

/-- DEVICE_CONFIG: every group is in CONFIG (R343, R346). -/
def syncDeviceConfig (s : State) : State :=
  s.set Dv.DEVICE_CONFIG (decide ((List.range 16).all fun g => decide (s.groupState g = 2))).toNat

/-! #### The checks made on leaving CONFIG (R346) -/

/-- A full scale is finite and greater than zero (R127). -/
def fsPos (s : State) (k : Nat) : Bool := finiteF32 (s.rN k) && decide (0 < s.rQ k)

/-- The most an overlap full scale may declare (R128): the sum of the two full scales. DEDUCED (log entry 93): a sum that binary32 does not hold
stands for the next binary32 value above it, without which the defaults of R128 and the declarations of the worked example would be refused. -/
def overlapTop (a b : Rat) : Rat :=
  let x := f32 (a + b)
  if ratF32 x < a + b then ratF32 (x + 1) else ratF32 x

/-- The lowest subindex of a port that fails R127, R128, R131 or the KSTAGE check of R112. -/
def portConfigFail (s : State) (p : Nat) : Option Nat :=
  let nI := s.rN (Pt.IRNG_COUNT p)
  let nV := s.rN (Pt.VRNG_COUNT p)
  let ratio := fun a b => let r := s.rQ b / s.rQ a; decide (mkRat 3 2 ≤ r) && decide (r ≤ 50)
  let badFs := fun k => !s.fsPos k
  let iBad := fun i => badFs (Pt.IRNG_FS_0 p + i) || (decide (0 < i) && decide (i < nI) && !ratio (Pt.IRNG_FS_0 p + (i - 1)) (Pt.IRNG_FS_0 p + i))
  let vBad := fun i => badFs (Pt.VRNG_FS_0 p + i) || (decide (i = 1) && decide (nV = 2) && !ratio (Pt.VRNG_FS_0 p) (Pt.VRNG_FS_1 p)) ||
    (decide (i < nV) && !((List.range 4).all fun sp => kstageOk (s.rQ (Pt.VRNG_FS_0 p + i)) (s.rQ (Pt.AMP_GAIN p)) sp))
  let oBad := fun i => badFs (Pt.IOVL_FS_0 p + i) || (decide (i + 1 < nI) &&
    !(decide (s.rQ (Pt.IRNG_FS_0 p + (i + 1)) ≤ s.rQ (Pt.IOVL_FS_0 p + i)) &&
      decide (s.rQ (Pt.IOVL_FS_0 p + i) ≤ overlapTop (s.rQ (Pt.IRNG_FS_0 p + i)) (s.rQ (Pt.IRNG_FS_0 p + (i + 1))))))
  let voBad := badFs (Pt.VOVL_FS p) || (decide (nV = 2) && !(decide (s.rQ (Pt.VRNG_FS_0 p) ≤ s.rQ (Pt.VOVL_FS p)) &&
    decide (s.rQ (Pt.VOVL_FS p) ≤ s.rQ (Pt.VRNG_FS_1 p))))
  let states := (List.range nV).flatMap fun v => (List.range nI).map fun i => s.steadyPat p v i
  let mapBad := decide (s.steadyPat p (nV - 1) (nI - 1) ≠ 0) || decide (¬ states.Nodup)
  let chk : List (Bool × Nat) :=
    ((List.range 8).map fun i => (iBad i, 0x82 + i)) ++ ((List.range 2).map fun i => (vBad i, 0x8A + i)) ++
    ((List.range 7).map fun i => (oBad i, 0x8C + i)) ++ [(voBad, 0x93), (mapBad, 0x9E)]
  (chk.find? (fun e => e.1)).map (·.2)

/-- The first failing port of a group and its lowest failing subindex (R346, R354). -/
def groupConfigFail (s : State) (g : Nat) : Option (Nat × Nat) :=
  (List.range 8).findSome? fun k => (s.portConfigFail (8 * g + k)).map fun sub => (k, sub)

/-- The value-range abort of the checks of R346, if one fails. -/
def groupCheck (s : State) (g : Nat) : Option Nat :=
  (s.groupConfigFail g).map fun e => Abort.valueRangeAt e.1 e.2

/-- What follows from the committed declarations (R112, R127, R129): the port stands in its OFF state, the highest ranges of
both ladders, and KSTAGE, the effective limits and the thresholds are derived. -/
def commitPort (s : State) (p : Nat) : State :=
  let s := s.modRange p fun r => { r with fs := some ((fsKeys p).map s.rN) }
  let s := ((s.set (Pt.IRNG_ACTIVE p) (s.topI p)).set (Pt.VRNG_ACTIVE p) (s.topV p)).jFactors p false
  let s := s.drivePattern p (s.steadyPat p (s.topV p) (s.topI p))
  (((s.loadKstage p).deriveLimits p).loadThresholds p s.now).rangeRules p

/-- Request a commit of the configuration image; one requested while another runs follows it (R352). -/
def requestSave (s : State) : State :=
  if s.rN Dv.CFG_STATE = 2 then
    let s := s.setBit Dv.OD_STATUS OdStatus.SAVE_PENDING true
    if 2 ≤ (s.nv.cmds.filter (fun c => decide (c.job = .image))).length then s else s.requestCommit 162 .image
  else (s.set Dv.CFG_STATE 2).requestCommit 162 .image

/-- An object leaves CONFIG: the image is committed if an RWC entry of it was changed since the last commit (R352). -/
def leaveConfig (s : State) (idx : Nat) : State :=
  if Tab.get (fun _ => false) s.od.rwcDirty idx then
    ({ s with od := { s.od with rwcDirty := Tab.set (fun _ => false) s.od.rwcDirty idx false } } : State).requestSave
  else s

/-- A group in CONFIG whose checks pass returns to RUN; an RWC entry changed since the last commit commits the image. -/
def groupLeave (s : State) (g : Nat) (t : Tick) : State :=
  let s := (List.range 8).foldl (fun s k => s.commitPort (8 * g + k)) s
  let s := if (s.gx g).rwcDirty then (s.modGx g fun x => { x with rwcDirty := false }).requestSave else s
  (s.groupRun g t).syncDeviceConfig

/-- Every group is in CONFIG or GATED. -/
def allQuiet (s : State) : Bool := (List.range 16).all fun g => decide (s.groupState g = 2) || decide (s.groupState g = 3)

/-- Wake from IDLE: the device enters RUN and releases every group that the entry quiesced (R418). -/
def idleWake (s : State) (t : Tick) : State :=
  let gs := s.pwr.idleGroups
  let s := { s with pwr := { s.pwr with idleGroups := [] } }
  let s := (s.set Pw.POWER_STATE 2).setBit Pw.PWR_STATUS PwrStatus.WAKE_PENDING false
  gs.foldl (fun s g => if s.groupState g = 2 then
    (match s.groupCheck g with
     | some _ => s.setBit (Gr.GROUP_STATUS g) GroupStatus.COMMIT_FAIL true
     | none => s.groupLeave g t) else s) s

/-- An entry into IDLE completes when every group is in CONFIG or GATED; a pending wake follows (R417, R418). An entry into
STANDBY goes on to its next step (R419). -/
def quietCheck (s : State) (t : Tick) : State :=
  if s.allQuiet then
    if s.rN Pw.POWER_STATE = 3 then
      let s := s.set Pw.POWER_STATE 4
      if s.bit Pw.PWR_STATUS PwrStatus.WAKE_PENDING then s.idleWake t else s
    else if s.rN Pw.POWER_STATE = 5 then s.later t .standby
    else s
  else s

/-- A quiescing group whose ports are all OFF enters CONFIG; a pending release then runs its checks (R22, R347). -/
def enterConfig (s : State) (g : Nat) (t : Tick) : State :=
  if s.groupState g = 1 ∧ ((List.range 8).all fun k => decide (s.portState (8 * g + k) = 0)) = true then
    let s := (s.set (Gr.GROUP_STATE g) 2).syncDeviceConfig
    let s := s.later t (.rot g)
    if s.bit (Gr.GROUP_STATUS g) GroupStatus.RELEASE_PENDING then
      match s.groupCheck g with
      | some _ => ((s.setBit (Gr.GROUP_STATUS g) GroupStatus.RELEASE_PENDING false).setBit (Gr.GROUP_STATUS g)
          GroupStatus.COMMIT_FAIL true).quietCheck t
      | none => s.groupLeave g t
    else s.quietCheck t
  else s

/-! ### OFF (R431 step 5) -/

/-- The port is in step 4 or 5 of its calibration window, which serves its ENABLE_PENDING (R328). -/
def winHolds (s : State) (p : Nat) : Bool :=
  (decide (s.rN (Gr.WIN_STATE (groupOf p)) = 4) || decide (s.rN (Gr.WIN_STATE (groupOf p)) = 5)) &&
    decide (s.rN (Gr.WIN_PORT (groupOf p)) = localOf p)

/-- SAFE_VALUE on an OFF port whose last clear cause has ended; before the first enable, the hardware clear code (R63, R67). -/
def offOutput (s : State) (p : Nat) (t : Tick) : State :=
  let sp := s.rN (Pt.SPAN_ACTIVE p)
  let c := if (s.px p).force.everEnabled then s.safeCode p sp else hwClear sp
  (s.modForce p fun f => { f with clearCore := none }).setCode p c t

/-- The span switch of an OFF port: only step 2 of R60 runs. -/
def offSpan (s : State) (p : Nat) (t : Tick) : State :=
  if s.portState p = 0 ∧ (s.px p).force.everEnabled = true ∧ s.live p (Pt.SPAN p) ≠ s.rN (Pt.SPAN_ACTIVE p) ∧ (s.px p).seqn = .idle then
    let s := s.modPx p fun x => { x with seqn := .offSpan (t + 1280), force := { x.force with spanTo := s.live p (Pt.SPAN p), spanDue := false, safeUsed := s.live p (Pt.SAFE_VALUE p) } }
    let s := s.blankTo p (t + 1280 + us4)
    ((s.setBit (Pt.FORCE_STATUS p) ForceStatus.TH true).setFld (Pt.FORCE_STATUS p) ForceStatus.SPAN_STEP 2 2).setBit (Pt.FORCE_STATUS p) ForceStatus.SPAN_PENDING false
  else s

/-- Once the port is OFF it returns to its home slice at once, without a transfer (R32). -/
def homeReturn (s : State) (p : Nat) : State :=
  let g := groupOf p
  let i := s.servingSlice p
  let s := s.modGx g fun x => if x.overlap = some p then { x with overlap := none } else x
  if s.rN (Pt.DRIVE_SLICE p) = i ∨ s.roleOf i = 4 then s
  else
    let old := s.rN (Pt.DRIVE_SLICE p)
    let s := (s.setRole i 0 p).set (Pt.DRIVE_SLICE p) i
    if old < 144 then s.setRole old 2 0xFF else s

/-- The port reaches OFF at `t`: the loop state is discarded, the comparators are unpowered, the CLEARED state ends, and an
ENABLE_PENDING makes its enable at this tick (R67, R431, R432). -/
def portOff (s : State) (p : Nat) (t : Tick) : State :=
  let s := (s.takeIncoming p).set (Pt.PORT_STATE p) 0
  let s := s.modPx p fun x => { x with
    seqn := .idle,
    loop := { cur := x.loop.cur, nxt := x.loop.nxt, nextTick := x.loop.nextTick, lastTick := x.loop.lastTick,
              edge := x.loop.edge, stepTwo := x.loop.stepTwo, yv := x.loop.yv, yi := x.loop.yi },
    loopY := { x.loopY with slot := none, cold := true, warm := false, track := false, compl := false, complSel := 0, lastHold := 0 },
    range := { x.range with toOff := false, chainOk := false, autoI := none, autoV := none },
    pgen := { x.pgen with permit := false, gateLvl := false, gateQ := [] },
    force := { x.force with ramp := none, spanDue := false, pendNew := false, incoming := none },
    disableAt := false }
  let s := (s.cmpUnpower p).setBit (Pt.PGEN_STATUS p) PgenStatus.TRIP_IN_PULSE false
  let s := (s.setFld (Pt.FORCE_STATUS p) ForceStatus.SPAN_STEP 2 0).setBits (Pt.FORCE_STATUS p)
    [(ForceStatus.CLEARED, false), (ForceStatus.TH, false), (ForceStatus.SPAN_PENDING, false)]
  let s := if (s.px p).force.clearCore.isSome && !s.clearCause p then s.offOutput p t else s
  let s := (s.jPort p 1 0 t).homeReturn p
  let s := (s.deriveLimits p).syncPort p
  let s := (s.modRot (groupOf p) fun r => { r with left := r.left || (decide (r.st = 2) && decide (r.port = p)) }).later t (.rot (groupOf p))
  let s := s.when (s.bit (Pt.PORT_STATUS p) PortStatus.ENABLE_PENDING && !s.winHolds p) fun s =>
    (s.setBit (Pt.PORT_STATUS p) PortStatus.ENABLE_PENDING false).enableTry p t
  (s.offSpan p t).enterConfig (groupOf p) t

/-! ### The disable sequence (R431) -/

/-- Step 4: the range chain to the OFF state, from the first tick boundary after DISCHARGE and after any GUARD. -/
def rangeToOff (s : State) (p : Nat) (t : Tick) : State :=
  if (s.px p).range.step.isSome || !s.isBoundary p t then s
  else if s.atOffRange p then s.portOff p t
  else s.seekStart p t

/-- End of step 3. -/
def dischargeEnd (s : State) (p : Nat) (t : Tick) : State :=
  (s.modPx p fun x => { x with seqn := .disRange, range := { x.range with toOff := true } }).syncSought p |>.rangeToOff p t

/-- Step 2: the PGEN removes PG_GATE; step 3 starts. -/
def gateOff (s : State) (p : Nat) (t : Tick) : State :=
  let d := 640 * s.live p (Pt.DISCHARGE_TIME p)
  let s := s.modPx p fun x => { x with seqn := .discharge (t + d), pgen := { x.pgen with permit := false, gateLvl := false, gateQ := [] } }
  let s := s.syncPort p
  if d = 0 then s.dischargeEnd p t else s

/-! ### Spans (R60) -/

/-- Step 2: the track-and-hold. The core's code is set to SAFE_VALUE in the new span. -/
def spanHold (s : State) (p : Nat) (t : Tick) : State :=
  let s := (s.modForce p fun f => { f with holdEnd := t + 1280 }).blankTo p (t + 1280 + us4)
  ((s.setFld (Pt.FORCE_STATUS p) ForceStatus.SPAN_STEP 2 2).setBit (Pt.FORCE_STATUS p) ForceStatus.TH true).syncPort p

/-- The span change has ended; a change to another span waits for the next tick boundary (R62). -/
def spanDone (s : State) (p : Nat) : State :=
  let more := decide (s.live p (Pt.SPAN p) ≠ s.rN (Pt.SPAN_ACTIVE p))
  let s := s.modPx p fun x => { x with force := { x.force with spanDue := more }, loopY := { x.loopY with warm := true } }
  (s.setFld (Pt.FORCE_STATUS p) ForceStatus.SPAN_STEP 2 0).setBit (Pt.FORCE_STATUS p) ForceStatus.SPAN_PENDING more

/-! ### Ramps and what follows each (R58) -/

/-- The port reaches ON (R430): ENABLE_COUNT, CLEARED if a clear arrived meanwhile (R64), a SPAN write that waited (R62),
and the first free-running window (R80). -/
def portReachesOn (s : State) (p : Nat) (t : Tick) : State :=
  let s := (s.set (Pt.PORT_STATE p) 2).satInc (Pt.ENABLE_COUNT p) 32 1
  let s := s.setBit (Pt.FORCE_STATUS p) ForceStatus.CLEARED (s.px p).force.clearCore.isSome
  let s := s.modPx p fun x => { x with seqn := .idle, range := { x.range with chainOk := true }, loopY := { x.loopY with warm := true },
                                       meas := { x.meas with fastFrom := max x.meas.fastFrom t } }
  let s := s.when (decide (s.live p (Pt.SPAN p) ≠ s.rN (Pt.SPAN_ACTIVE p))) fun s =>
    (s.modForce p fun f => { f with spanDue := true }).setBit (Pt.FORCE_STATUS p) ForceStatus.SPAN_PENDING true
  ((((s.reloadPending p).openFree p t).syncSought p).syncPort p).later t (.rot (groupOf p))

/-- What follows a ramp that has ended at `t`. -/
def rampEnd (s : State) (p : Nat) (kind : RampKind) (t : Tick) : State :=
  match kind with
  | .enable => s.portReachesOn p t
  | .disable => s.gateOff p t
  | .spanDown => s.spanHold p t
  | .spanUp => ((s.reloadPending p).spanDone p).syncPort p
  | .release => ((s.modPx p fun x => { x with loopY := { x.loopY with warm := true } }).reloadPending p).syncPort p

/-- Take the ramp off and set its last code. While a clear holds the core the code stays (R64). -/
def rampStop (s : State) (p : Nat) (t : Tick) : State :=
  match (s.px p).force.ramp with
  | none => s
  | some r =>
    if (s.px p).force.clearCore.isSome then s.modForce p fun f => { f with ramp := none }
    else
      let c := rampCode r t
      let s := s.shaperTo p (t - 1)
      (s.modForce p fun f => { f with ramp := none, lastRamp := some r }).setCode p c t

/-- Start a ramp from a code (R58). A ramp of no edges ends at once. -/
def rampFrom (s : State) (p : Nat) (kind : RampKind) (src dst : Nat) (t : Tick) : State :=
  let r := mkRamp kind (s.rN (Pt.SPAN_ACTIVE p)) src dst (s.slewRate p) t
  if r.finish = t then s.rampEnd p kind t
  else (s.modForce p fun f => { f with ramp := some r }).syncPort p

/-- Start a ramp from the present code. -/
def rampStart (s : State) (p : Nat) (kind : RampKind) (dst : Nat) (t : Tick) : State :=
  let s := s.rampStop p t
  s.rampFrom p kind (s.rN (Pt.DAC_CODE p)) dst t

/-- A ramp whose last edge is due by `t` ends there, and its step continues. -/
def rampFinish (s : State) (p : Nat) (t : Tick) : State :=
  match (s.px p).force.ramp with
  | none => s
  | some r => if r.finish ≤ t then ((s.rampStop p r.finish).rampEnd p r.kind r.finish).jHold p t else s

/-- Step 1 of R431: the port enters DISABLING. The loop and any train stop, open windows are discarded, and the output ramps
to SAFE_VALUE; a CLEARED port skips the ramp (R67), and a span change in steps 1-3 completes through step 3 (R62). -/
def disableNow (s : State) (p : Nat) (t : Tick) : State :=
  let st := s.portState p
  if st = 0 ∨ st = 3 then s
  else
    let wasEnabling := decide (st = 1)
    let s := (s.set (Pt.PORT_STATE p) 3).complStop p t
    let s := (s.trainStop p true t).seqOnLeave p t
    let s := ((s.closeFast p).closePrec p).closeLoop p
    let s := s.modPx p fun x => { x with
      disableAt := false, seqn := .disRamp,
      range := { x.range with step := x.range.step.map (fun r => { r with rescale := if r.phase ≤ 2 then false else r.rescale }), autoI := none, autoV := none, chainOk := false },
      meas := { x.meas with dec := {} },
      loopY := { x.loopY with slot := none } }
    let s := s.syncSought p
    let step := s.spanStep p
    if decide (step = 1 ∨ step = 2) && !wasEnabling then s.syncPort p
    else
      let s := (s.setFld (Pt.FORCE_STATUS p) ForceStatus.SPAN_STEP 2 0).setBit (Pt.FORCE_STATUS p) ForceStatus.TH false
      if (s.px p).force.clearCore.isSome then ((s.modForce p fun f => { f with ramp := none }).gateOff p t).jHold p t
      else (s.rampStart p .disable (s.safeCode p (s.rN (Pt.SPAN_ACTIVE p))) t).jHold p t

/-! ### Span changes of an enabled port (R60, R62) -/

/-- Step 1, at the first tick boundary at which nothing holds it back. -/
def spanStart (s : State) (p : Nat) (t : Tick) : State :=
  let f := (s.px p).force
  let want := s.live p (Pt.SPAN p)
  if f.spanDue && s.portOn p && f.ramp.isNone && f.clearCore.isNone && !s.cleared p && !s.rngBusy p && !s.inTransfer p then
    if want = s.rN (Pt.SPAN_ACTIVE p) then (s.modForce p fun f => { f with spanDue := false }).setBit (Pt.FORCE_STATUS p) ForceStatus.SPAN_PENDING false
    else
      let safe := s.live p (Pt.SAFE_VALUE p)
      let s := s.modForce p fun f => { f with spanDue := false, spanTo := want, safeUsed := safe }
      let s := (s.setFld (Pt.FORCE_STATUS p) ForceStatus.SPAN_STEP 2 1).setBit (Pt.FORCE_STATUS p) ForceStatus.SPAN_PENDING false
      ((s.rampStart p .spanDown (codeOfVolts (s.rN (Pt.SPAN_ACTIVE p)) (ratF32 safe)) t).resetCount p).jHold p t
  else s

/-- The span is switched: SPAN_ACTIVE, SAFE_VALUE in the new span, the shaper and KSTAGE. -/
def spanSwitch (s : State) (p : Nat) (t : Tick) : State :=
  let f := (s.px p).force
  let s := s.set (Pt.SPAN_ACTIVE p) f.spanTo
  let s := if f.clearCore.isSome then s.coreClear p t else s.setCode p (codeOfVolts f.spanTo (ratF32 f.safeUsed)) t
  ((s.shaperReset p t).loadKstage p).setBit (Pt.FORCE_STATUS p) ForceStatus.TH false

/-- The track-and-hold ends at `t` (R60 steps 2-4, R62): step 4 ramps to the loop's next output in the new span; after a
clear the port is CLEARED; a port in DISABLING goes on from its ramp step at SAFE_VALUE. -/
def spanRelease (s : State) (p : Nat) (t : Tick) : State :=
  let s := s.spanSwitch p t
  if s.portState p = 3 then (s.setFld (Pt.FORCE_STATUS p) ForceStatus.SPAN_STEP 2 0).gateOff p t
  else if (s.px p).force.clearCore.isSome then (s.spanDone p).syncPort p
  else (s.setFld (Pt.FORCE_STATUS p) ForceStatus.SPAN_STEP 2 3).rampStart p .spanUp (s.nextCode p) t

/-! ### Clears (R65-R67) -/

/-- A clear takes the core of a port whose output stage is on at once (R65). An enabled port is then CLEARED (R66); one in ENABLING when it
reaches ON (R64). -/
def clearPort (s : State) (p : Nat) (t : Tick) : State :=
  if !s.oe p then s.syncPort p
  else
    let st := s.portState p
    let kind : Option RampKind := (s.px p).force.ramp.map (·.kind)
    let step := s.spanStep p
    -- the ramp of an enable keeps its end, the core does not follow it (R64)
    let s := if kind = some .enable then s else s.rampStop p t
    let s := s.coreClear p t
    let s := if kind = some .enable then s else s.modForce p fun f => { f with ramp := none }
    let s := s.when (decide (2 ≤ st)) fun s => s.setBit (Pt.FORCE_STATUS p) ForceStatus.CLEARED true
    let s := s.when (decide (st ≠ 0)) fun s => s.resetCount p
    let s := if st = 2 ∧ (step = 1 ∨ step = 3) then s.spanDone p else s
    let s := if st = 3 ∧ (kind = some .disable ∨ step = 1) then (s.setFld (Pt.FORCE_STATUS p) ForceStatus.SPAN_STEP 2 0).gateOff p t else s
    (s.jHold p t).syncPort p

/-- A fault on FLT_IN trips the PGEN and takes the core; in a GATED group it does neither (R45). -/
def fltActs (s : State) (p : Nat) (t : Tick) : State := if s.gated p then s.syncPort p else (s.trip p Cause.flt t 0).clearPort p t

/-- The last clear cause of an OFF port ends: it goes to SAFE_VALUE (R67). -/
def clearEnds (s : State) (p : Nat) (t : Tick) : State :=
  if s.portState p = 0 ∧ (s.px p).force.clearCore.isSome = true ∧ s.clearCause p = false then (s.offOutput p t).syncPort p
  else s.syncPort p

/-- An accepted CLEAR_RELEASE at the port's tick boundary: applied, or dropped (R66). DESIGN CHOICE (log entry 86): in DISABLING it is not
applied, since the disable sequence runs with the output held at the clear code (R67). -/
def releaseApply (s : State) (p : Nat) (t : Tick) : State :=
  if s.clearCause p then s.setBit (Pt.FORCE_STATUS p) ForceStatus.RELEASE_DROP true
  else if !s.cleared p || decide (s.portState p = 3) then s
  else
    let s := s.setBit (Pt.FORCE_STATUS p) ForceStatus.CLEARED false
    let s := (s.modForce p fun f => { f with clearCore := none }).blankTo p (t + us4)
    ((s.shaperReset p t).rampStart p .release (s.nextCode p) t).jHold p t

end State
end Sys2Proof.Machine
end

