-- ==== Sys2Proof/Machine/Measure.lean ====
section
/-!
DEFINITION. The measure path (R76-R103): over-range and disturbance marking, fast samples and blocks, precision records, the
latest-reading cells, the uncertainty of R94, and what the recorder keeps of each at J_1 and J_2 (R404).
-/

namespace Sys2Proof.Machine

/-! ### Over-range marking (R90, R91) -/

/-- A tick lies in [ts, tr + after) of a detector interval; an open interval has no end. -/
def Ovr.covers (o : Ovr) (after : Nat) (t : Tick) : Bool :=
  decide (o.ts ≤ t) && (match o.tr with | some r => decide (t < r + after) | none => true)

/-- Some base word of the window that opens at `op` with `n` words has its timestamp in [lo, hi); no `hi`: without end. -/
def anyBase (op n lo : Nat) (hi : Option Nat) : Bool :=
  let k := if lo ≤ op then 0 else (lo - op + 624) / 625
  decide (k < n) && (match hi with | some h => decide (op + 625 * k < h) | none => true)

/-- Base words of a window that a detector interval marks, widened by `after` beyond the release (R90, R91). -/
def Ovr.touches (o : Ovr) (after op n : Nat) : Bool := anyBase op n (o.ts - 5625) (o.tr.map (· + after + 5625))

/-- Extreme codes and FSQ values of an over-ranged sample or record (R89). -/
def extremeCode (neg : Bool) : Int := if neg then -131072 else 131071
def extremeFsq (neg : Bool) : Int := if neg then min40 else max40

/-! ### Precision values (R79) -/

/-- The value of a window's base words under a specification (R79). -/
def recordValue (spec : Nat) (xs : List Int) : Int :=
  let c := field spec 0 30
  let sum := fun (l : List Int) => l.foldl (· + ·) 0
  let S : Int × Int :=
    match field spec 30 2 with
    | 0 => (sum xs, c)
    | 1 => (sum xs, 20480 * c)
    | _ =>
      let W := 51200 * c
      let q := W / 3
      let r := W % 3
      (3 * sum (xs.take q) + r * sum (xs.drop q), W)
  (2 * S.1 + S.2) / (2 * S.2)

/-- The scale of a base word of a quantity (R136): `a` before t1, the overlap in [t1, t2), `b` from t2, for the steps of
that quantity, oldest first. -/
def baseScale (steps : List RStep) (qv : Bool) (now : Nat) (ts : Tick) : Nat :=
  let off := if qv then 8 else 0
  let l := steps.filter fun st => decide (st.qv = qv)
  match l.reverse.find? (fun st => decide (st.t1 ≤ ts)) with
  | some st => if ts < st.t2 then (if qv then ovlV else ovlI (min st.a st.b)) else st.b + off
  | none => match l with
    | st :: _ => st.a + off
    | [] => now

/-- A step marks base words of a window as RANGING (R136). -/
def RStep.touches (st : RStep) (op n : Nat) : Bool := anyBase op n (st.t0 - 5625) (some (st.t3 + 5625))

/-- Nominal noise of a window, σ of R81, as a binary64 value; the weighted length is W / 1.024 MS/s over 1 or 3. -/
def sigmaNoise (spec : Nat) : Fl :=
  let c := field spec 0 30
  let len : Rat := match field spec 30 2 with
    | 0 => mkRat c 1024000
    | 1 => mkRat c 50
    | _ => mkRat c 60
  let q := flDiv round64 (.fin (mkRat 1 50)) (round64 len)
  match flAdd round64 (flMul round64 (round64 (mkRat 1 16)) q) (round64 (mkRat 275 1000000)) with
  | .fin v => sqrtFl 53 v
  | f => f

/-- √ of a binary64 value. -/
def flSqrt : Fl → Fl
  | .fin q => sqrtFl 53 q
  | f => f

def flSq (a : Fl) : Fl := flMul round64 a a
def flSum (a b : Fl) : Fl := flAdd round64 a b
def flPr (a b : Fl) : Fl := flMul round64 a b

/-- The tag word of a record (R86). -/
def tagWord (dt range ctx : Nat) (worn prov compl nbr rang ovr : Bool) : Nat :=
  dt * 2 ^ 22 + range * 2 ^ 18 + ctx * 2 ^ 6 + worn.toNat * 32 + prov.toNat * 16 + compl.toNat * 8 + nbr.toNat * 4 +
    rang.toNat * 2 + ovr.toNat

namespace State

/-! ### Detectors -/

def ovrList (s : State) (p : Nat) (v : Bool) : List Ovr := if v then (s.px p).meas.ovrV else (s.px p).meas.ovrI

def modOvr (s : State) (p : Nat) (v : Bool) (f : List Ovr → List Ovr) : State :=
  s.modMeas p fun m => if v then { m with ovrV := f m.ovrV } else { m with ovrI := f m.ovrI }

/-- The detector of a quantity is asserted. -/
def ovrOn (s : State) (p : Nat) (v : Bool) : Bool := (s.ovrList p v).any (fun o => o.tr.isNone)

/-- Samples of a quantity are being marked at a tick (R90): the sign of the latest interval that marks them. -/
def ovrMark (s : State) (p : Nat) (v : Bool) (t : Tick) : Option Bool :=
  ((s.ovrList p v).reverse.find? (fun o => o.covers 5120 t)).map (·.neg)

/-- The disturbance intervals of the other ports of the group (R91). -/
def disturbances (s : State) (p : Nat) : List Ovr :=
  (List.range 8).flatMap fun k =>
    let q := 8 * groupOf p + k
    if q = p then [] else (s.px q).meas.ovrV ++ (s.px q).meas.ovrI

/-- A fast sample carries NBR_DISTURB (R91). -/
def nbrMark (s : State) (p : Nat) (t : Tick) : Bool := (s.disturbances p).any (fun o => o.covers 16000 t)

/-- The oldest tick that an open window, or a record not yet visible, of a group still bears on. -/
def oldestOpen (s : State) (g : Nat) (t : Tick) : Tick :=
  let t := if (s.rot g).step = 2 ∨ (s.rot g).step = 6 then min t (s.rot g).from_ else t
  let t := match (s.rot g).run with | some r => min t r.from_ | none => t
  (List.range 8).foldl (fun a k =>
    let m := (s.px (8 * g + k)).meas
    let a := match m.win with | some w => min a w.open_ | none => a
    m.closing.foldl (fun a r => min a r.tOpen) a) t

/-- Drop intervals and steps that bear on no sample or base word any more. -/
def pruneMarks (s : State) (p : Nat) (t : Tick) : State :=
  let o := min (s.oldestOpen (groupOf p) t) ((s.px p).loop.edge - 64)
  let keep := fun (x : Ovr) => match x.tr with | some r => decide (o < r + 21625) | none => true
  s.modMeas p fun m => { m with
    ovrV := m.ovrV.filter keep, ovrI := m.ovrI.filter keep,
    steps := m.steps.filter (fun st => decide (o < st.t3 + 5625 + 640)),
    complIv := m.complIv.filter (fun iv => match iv.2 with | some e => decide (o < e + 64) | none => true) }

/-- A detector of a port asserts at the assigned tick `t` (R90, R91, R102). A disturbance interval begins when no other
detector of the port is asserted. A further over-range while the detector is asserted only gives its sign to what follows (R89). -/
def ovrStart (s : State) (p : Nat) (v : Bool) (neg : Bool) (t : Tick) : State :=
  if s.ovrOn p v then s.modOvr p v fun l => l ++ [{ ts := t, tr := none, neg := neg }]
  else
    let begins := !s.ovrOn p (!v)
    let s := (s.pruneMarks p t).modOvr p v fun l => l ++ [{ ts := t, tr := none, neg := neg }]
    let s := (s.satInc (if v then Pt.OVR_COUNT_V p else Pt.OVR_COUNT_I p) 32 1).setBit (Pt.MEAS_STATUS p)
      (if v then MeasStatus.OVR_V else MeasStatus.OVR_I) true
    let s := s.jEdge p (if v then 1 else 3) 0 t
    s.when begins fun s => (List.range 8).foldl (fun s k =>
      let q := 8 * groupOf p + k
      if q = p ∨ s.portState q = 0 then s
      else (s.satInc (Pt.NBR_COUNT q) 32 1).setBit (Pt.MEAS_STATUS q) MeasStatus.NBR true) s

/-- A detector releases at the assigned tick `t`. -/
def ovrEnd (s : State) (p : Nat) (v : Bool) (t : Tick) : State :=
  if s.ovrOn p v then
    (s.modOvr p v fun l => l.map fun o => if o.tr.isNone then { o with tr := some t } else o).jEdge p (if v then 2 else 4) 0 t
  else s

/-! ### The recorder's J_2 streams (R403, R404) -/

/-- A port is selected for J_2 and recorded now. -/
def j2On (s : State) (p : Nat) : Bool :=
  decide (s.rN Rc.J_LEVEL = 2) && s.bit Rc.J_STATUS JStatus.RUN && !s.rcd.pfwShed &&
    s.bit (if p < 64 then Rc.J2_PORTS_LO else Rc.J2_PORTS_HI) (p % 64) && (Tab.get (fun _ => none) s.rcd.shed p).isNone

/-- Write the fast words of a port that wait for their record. -/
def jFastFlush (s : State) (p : Nat) : State :=
  let ws := Tab.get (fun _ => []) s.rcd.fastW p
  if ws = [] then s
  else
    let at_ := Tab.get (fun _ => 0) s.rcd.fastAt p
    let s := { s with rcd := { s.rcd with fastW := s.rcd.fastW.erase p } }
    s.journal 2 8 p at_ ws

/-- One undecimated fast word of a J_2 port: words of consecutive edges, at most 61 in one record. -/
def jFast (s : State) (p w : Nat) (t : Tick) : State :=
  if !s.j2On p then s
  else
    let ws := Tab.get (fun _ => []) s.rcd.fastW p
    let at_ := Tab.get (fun _ => 0) s.rcd.fastAt p
    let s := if ws ≠ [] ∧ at_ + 32 * ws.length ≠ t then s.jFastFlush p else s
    let ws := Tab.get (fun _ => []) s.rcd.fastW p
    let s := if ws = [] then { s with rcd := { s.rcd with fastAt := Tab.set (fun _ => 0) s.rcd.fastAt p t } } else s
    let s := { s with rcd := { s.rcd with fastW := Tab.set (fun _ => []) s.rcd.fastW p (ws ++ [w]) } }
    if ws.length + 1 = 61 then s.jFastFlush p else s

/-! ### Fast samples (R83, R84, R88, R96, R97) -/

/-- The half of a word that holds one sample (R88). -/
def sampleHalf (code : Int) (ovr rang : Bool) : Nat := ofSigned 18 code * 4 + ovr.toNat * 2 + rang.toNat

/-- A step of a quantity covers a sample at `t`: the sample carries RANGING (R133). -/
def rangMark (s : State) (p : Nat) (v : Bool) (t : Tick) : Bool :=
  (s.px p).meas.steps.any (fun st => decide (st.qv = v) && decide (st.t0 ≤ t) && decide (t < st.t3))

/-- Compliance was in force at some instant of [a, b] (R115). -/
def complIn (s : State) (p : Nat) (a b : Tick) : Bool :=
  (s.px p).meas.complIv.any (fun iv => decide (iv.1 ≤ b) && (match iv.2 with | some e => decide (a < e) | none => true))

/-- A streamed sample enters the block of its port; a block that it does not fit is closed first (R97). -/
def streamSample (s : State) (p : Nat) (d : Decim) (halfV halfI : Nat) : State :=
  let s := match (s.px p).meas.fast with
    | some b => if b.ir ≠ d.ir ∨ b.vr ≠ d.vr ∨ b.nbr ≠ d.nbr then s.closeFast p else s
    | none => s
  let b : Blk := ((s.px p).meas.fast).getD { start := d.first, nbr := d.nbr, ir := d.ir, vr := d.vr }
  let s := if (s.px p).meas.fast.isNone then s.modMeas p fun m => { m with fastRing := s.live p (Pt.FAST_RING p) } else s
  let pack := (s.px p).meas.fastPack
  if pack = 0 then (s.modMeas p fun m => { m with fast := some b }).fastWord p (halfV * 2 ^ 20 + halfI) d.worn d.compl
  else
    let h := if pack = 1 then halfV else halfI
    match b.half with
    | none => s.modMeas p fun m => { m with fast := some { b with half := some h, hWorn := d.worn, hCompl := d.compl } }
    | some u => (s.modMeas p fun m => { m with fast := some { b with half := none, hWorn := false, hCompl := false } }).fastWord p
        (u * 2 ^ 20 + h) (b.hWorn || d.worn) (b.hCompl || d.compl)

/-- One conversion of the stream (R84): it joins its decimation group, and the last of a whole group is streamed. -/
def streamConversion (s : State) (p : Nat) (cv ci : Int) (ov oi : Option Bool) (rv ri nbr : Bool) (t : Tick) : State :=
  let m := (s.px p).meas
  let N := 2 ^ m.fastDec
  let ph := t / 32 % N
  let d := m.dec
  let cont := decide (0 < d.n) && decide (d.n = ph) && decide (d.first + 32 * d.n = t)
  if ph ≠ 0 ∧ cont = false then s.modMeas p fun m => { m with dec := {} }
  else if ph = 0 ∧ t < m.fastFrom then s
  else
    let d : Decim := if ph = 0 then { first := t, ir := s.rangeI p, vr := s.rN (Pt.VRNG_ACTIVE p) } else d
    let d := { d with n := d.n + 1, sumV := d.sumV + cv, sumI := d.sumI + ci,
                      ovrV := match ov with | some n => some (ofSigned 18 (extremeCode n)) | none => d.ovrV,
                      ovrI := match oi with | some n => some (ofSigned 18 (extremeCode n)) | none => d.ovrI,
                      rangV := d.rangV || rv, rangI := d.rangI || ri, nbr := d.nbr || nbr,
                      worn := d.worn || s.driveWorn p, compl := d.compl || s.complIn p (if ph = 0 then t else t - 31) t }
    if d.n < N then s.modMeas p fun m => { m with dec := d }
    else
      let avg := fun (x : Int) => (2 * x + N) / (2 * N)
      let half := fun (x : Int) (o : Option Nat) (r : Bool) =>
        match o with | some e => sampleHalf (toSigned 18 e) true r | none => sampleHalf (avg x) false r
      (s.modMeas p fun m => { m with dec := {} }).streamSample p d (half d.sumV d.ovrV d.rangV) (half d.sumI d.ovrI d.rangI)

/-- Tick boundaries exist whether or not the port is enabled (R105): the window rolls on where one has passed without a tick. -/
def windowRoll (s : State) (p : Nat) (t : Tick) : State :=
  let T := s.period p
  s.modLoop p fun l =>
    if l.nextTick ≤ t then { l with cur := if t < l.nextTick + T then l.nxt else {}, nxt := {}, nextTick := (t / T + 1) * T, fed := false } else l

/-- The samples of one CLK_FAST edge enter the loop's input window (R107 step 1, R108, R117). -/
def windowSample (s : State) (p : Nat) (cv ci : Int) (ov oi : Option Bool) (t : Tick) : State :=
  let s := s.windowRoll p t
  let l := (s.px p).loop
  let lvl := levelAt (s.px p).pgen t
  let add := fun (w : Win) => { w with
    n := w.n + 1, sumV := w.sumV + cv, sumI := w.sumI + ci,
    ovrV := match ov with | some n => some n | none => w.ovrV,
    ovrI := match oi with | some n => some n | none => w.ovrI,
    lvl0 := w.lvl0 || !lvl, lvl1 := w.lvl1 || lvl }
  if t + 64 < l.nextTick then s.modLoop p fun l => { l with cur := add l.cur } else s.modLoop p fun l => { l with nxt := add l.nxt }

/-- A fast conversion of a port at the edge `t` (R83-R91). -/
def fastConv (s : State) (p : Nat) (cv ci : Int) (t : Tick) : State :=
  let mark := fun (v : Bool) (c : Int) =>
    match s.ovrMark p v t with
    | some n => some n
    | none => if c = 131071 then some false else if c = -131072 then some true else none
  let ov := mark true cv
  let oi := mark false ci
  let hold := fun (o : Option Bool) (c : Int) => match o with | some n => extremeCode n | none => c
  let cv := hold ov cv
  let ci := hold oi ci
  let rv := s.rangMark p true t
  let ri := s.rangMark p false t
  let s := s.windowSample p cv ci ov oi t
  let s := s.jFast p (sampleHalf cv ov.isSome rv * 2 ^ 20 + sampleHalf ci oi.isSome ri) t
  if s.fastRun p then s.streamConversion p cv ci ov oi rv ri (s.nbrMark p t) t else s

/-- FAST_EN, FAST_PACK or FAST_DECIM_LOG2 takes effect at `t` (R84, R97): the block closes and the stream starts anew. -/
def fastSettings (s : State) (p : Nat) (t : Tick) : State :=
  let m := (s.px p).meas
  let pack := s.live p (Pt.FAST_PACK p)
  let dec := s.live p (Pt.FAST_DECIM_LOG2 p)
  if m.fastPack = pack ∧ m.fastDec = dec ∧ s.fastRun p = s.bit (Pt.MEAS_STATUS p) MeasStatus.FAST_RUN then s
  else
    let s := s.closeFast p
    (s.modMeas p fun m => { m with dec := {}, fastPack := pack, fastDec := dec, fastFrom := max m.fastFrom t }).syncMeasStatus p

/-! ### Uncertainty (R94, R294) -/

/-- Years of 365.25 days in 10^9 ns. -/
def yearNs : Nat := 31557600 * 1000000000

/-- u_ref squared, ppm squared (R294). DESIGN CHOICE (log entry 90): it enters b of R94 as its sum of squares, not rounded by a square root of
its own first. -/
def uRefSq (s : State) (t : Tick) : Fl :=
  let years : Rat := if s.rN Ca.REF_TRANSFER_COUNT = 0 then 0 else mkRat ((s.timeNs t : Int) - s.rN Ca.REF_TRANSFER_LAST) yearNs
  let age := flPr (ofF32 (s.rN Ca.REF_AGE_COEF)) (round64 years)
  let std := if s.rN Ca.REF_TRANSFER_COUNT = 0 then flSq (ofF32 Config.mfgRefU)
    else flSum (flSq (ofF32 (s.rN Ca.REFX_UNC))) (round64 s.cal.xferVar)
  flSum std (flSq age)

/-- Terms a and b of R94 for a quantity of a port, from the slice in DRIVE. -/
def uncTerms (s : State) (p : Nat) (v : Bool) (spec : Nat) (t : Tick) : Fl × Fl :=
  let i := s.rN (Pt.DRIVE_SLICE p)
  let e := fun (k : Nat) => ofF32 (s.rN k)
  let dT := flSum (e (Sl.SLICE_TEMP i)) (flPr (.fin (-1)) (e (Sl.CAL_TEMP i)))
  let off := e (if v then Sl.U_OFF_RES_V i else Sl.U_OFF_RES_I i)
  let gain := e (if v then Sl.U_GAIN_RES_V i else Sl.U_GAIN_RES_I i)
  let cOff := e (if v then Sl.TC_OFF_V i else Sl.TC_OFF_I i)
  let cGain := e (if v then Sl.TC_GAIN_V i else Sl.TC_GAIN_I i)
  (flSqrt (flSum (flSum (flSq (sigmaNoise spec)) (flSq off)) (flSq (flPr cOff dT))),
   flSqrt (flSum (flSum (flSq gain) (s.uRefSq t)) (flSq (flPr cGain dT))))

/-- U of R94 for a value, rounded upward and held at 2^39 − 1. -/
def uncertainty (s : State) (p : Nat) (v : Bool) (spec : Nat) (value : Int) (t : Tick) : Int :=
  let ab := s.uncTerms p v spec t
  let x := round64 (absR (mkRat value (2 ^ 37)))
  let r := flSqrt (flSum (flSq ab.1) (flSq (flPr ab.2 x)))
  let w := ofF32 (s.rN (Sl.MARGIN_W (s.rN (Pt.DRIVE_SLICE p))))
  match flPr (flPr (flPr (.fin 2) w) r) (.fin 137439) with
  | .fin u => min max40 (ceilR u)
  | _ => max40

/-! ### Records (R86, R87, R95-R97) -/

/-- Put one record of two words into the open PREC block of a port (R96, R97); `t` is the tick at which it is visible. -/
def precRecord (s : State) (p : Nat) (r : RecPend) (value : Int) (tag : Nat) (t : Tick) : State :=
  let s := match (s.px p).meas.prec with
    | some b => if 2 ^ 18 ≤ (r.tOpen - b.start) / 625 then s.closePrec p else s
    | none => s
  let s := if (s.px p).meas.prec.isNone then s.modMeas p fun m => { m with precRing := s.live p (Pt.PREC_RING p) } else s
  let b : Blk := ((s.px p).meas.prec).getD { start := r.tOpen, firstIn := t }
  let dt := (r.tOpen - b.start) / 625
  let b := { b with words := b.words ++ [ofSigned 40 value, dt * 2 ^ 22 + tag], recs := b.recs + 1,
                    prov := b.prov || r.prov, worn := b.worn || r.worn, compl := b.compl || r.compl }
  let s := s.modMeas p fun m => { m with prec := some b }
  if b.recs = 30 then s.closePrec p else s

/-- The eight words of a latest-reading cell are written, SEQ the last of them (R95). -/
def cellWrite (s : State) (cell : Nat) (w : List Nat) : State := s.spadPutAll cell (w ++ [((s.spadAt (cell + 7)).toNat + 1) % 2 ^ 40])

/-- A cell is written; during the Sapphire wipe the group sample buffer holds its words (R257). -/
def cellPut (s : State) (cell : Nat) (w : List Nat) : State :=
  if s.bit Fb.FAB_STATUS FabStatus.WIPING then { s with mem := { s.mem with cells := s.mem.cells ++ [(cell, w)] } } else s.cellWrite cell w

/-- Deliver one quantity of a window: the cell, the PREC block and the journal (R86, R87, R95, R404). -/
def deliver (s : State) (p : Nat) (v : Bool) (r : RecPend) (t : Tick) : State :=
  let n := (r.tClose - r.tOpen) / 625
  let rang := (s.px p).meas.steps.any (fun st => decide (st.qv = v) && st.touches r.tOpen n)
  let ovr := (s.ovrList p v).reverse.find? (fun o => o.touches 5120 r.tOpen n)
  let nbr := (s.disturbances p).any (fun o => o.touches 16000 r.tOpen n)
  let range := if v then r.rV else r.rI
  let raw := if v then r.valV else r.valI
  -- a value that saturated is an extreme code, and carries OVR as one (R89)
  let ovr : Option Bool := match ovr with
    | some o => some o.neg
    | none => if raw = max40 then some false else if raw = min40 then some true else none
  let value := match ovr with | some n => extremeFsq n | none => raw
  let u := if ovr.isSome || rang then max40 else if v then r.uV else r.uI
  let tag := tagWord 0 range r.ctx r.worn r.prov r.compl nbr rang ovr.isSome
  let fs := s.fsOf p range
  let mirror := match ovr with | some n => Fl.inf n | none => .fin (mkRat value (2 ^ 37) * fs)
  let cell := 16 * p + (if v then 0 else 8)
  let s := s.cellPut cell [ofSigned 40 value, tag, ofSigned 40 u, r.tOpen % 2 ^ 40, r.tOpen / 2 ^ 40 % 2 ^ 24, toF32 mirror,
                           f32 (mkRat u (2 ^ 37) * fs)]
  let s := s.set (Pt.LAST_TIME p) (s.timeNs r.tOpen)
  let s := (s.precRecord p r value tag t).journal 1 6 p r.tOpen [ofSigned 40 value, tag]
  if r.counted then s.modMeas p fun m =>
    if v then { m with lastRecV := some (ofSigned 40 value, tag, ofSigned 40 u) } else { m with lastRecI := some (ofSigned 40 value, tag, ofSigned 40 u) }
  else s

/-- A record of a window would carry RANGING: a step of a quantity that PREC_SEL selects touches it (R136, R186). -/
def rangingIn (s : State) (p sel op n : Nat) : Bool :=
  (s.px p).meas.steps.any (fun st => bitOf sel (if st.qv then 0 else 1) && st.touches op n)

/-- The oldest closed window of a port becomes visible at `t`, 5,625 ticks after its close (R77, R82): its records are formed
as PREC_SEL stood at the close (R95). A RANGING mark that was not known at the close returns the point to step 4 (R186). -/
def recordOut (s : State) (p : Nat) (t : Tick) : State :=
  match (s.px p).meas.closing with
  | [] => s
  | r :: rest =>
    let n := (r.tClose - r.tOpen) / 625
    let late := r.counted && !r.ranging && s.rangingIn p r.sel r.tOpen n
    let s := s.when r.counted fun s => s.modMeas p fun m => { m with lastRecV := none, lastRecI := none }
    let s := s.when (bitOf r.sel 0) fun s => s.deliver p true r t
    let s := s.when (bitOf r.sel 1) fun s => s.deliver p false r t
    let s := s.when (decide (s.live p (Pt.PREC_FLUSH p) = 0)) fun s => s.closePrec p
    let s := (s.modMeas p fun m => { m with closing := rest }).pruneMarks p t
    s.when late fun s => s.redoPoint p

/-- The value of a window's base words, each expressed in the range in force at the close (R79, R136). -/
def windowValue (s : State) (p : Nat) (v : Bool) (w : PrecWin) (xs : List W40) : Int :=
  let now := s.rangeOf p v
  let steps := (s.px p).meas.steps
  let ys := xs.zipIdx.map fun e =>
    let ts := w.open_ + 625 * e.2
    let sc := baseScale steps v now ts
    if sc = now then ofW40 e.1 else s.conv p sc now (ofW40 e.1)
  sat40 (recordValue w.spec ys)

/-- The window of a port closes at `t` with its base words; the next free-running window opens there (R79, R80, R100, R186). DESIGN CHOICE (log
entry 91): the terms a and b of the port record are those of the window that closed last. -/
def closeWindow (s : State) (p : Nat) (w : PrecWin) (xv xi : List W40) (t : Tick) : State :=
  let sel := s.live p (Pt.PREC_SEL p)
  let ranging := s.rangingIn p sel w.open_ w.n
  let trip := !w.counted
  let inCtx := match s.runOf p with | some q => q.phase = Ph.measure | none => false
  let vV := s.windowValue p true w xv
  let vI := s.windowValue p false w xi
  let compl := w.complSeen || s.complIn p w.open_ (t - 1)
  let counted := inCtx && !trip && !ranging
  let r : RecPend := { tOpen := w.open_, tClose := t, valV := vV, valI := vI, ctx := w.ctx, rV := s.rangeV p, rI := s.rangeI p,
                       worn := s.driveWorn p, prov := w.prov || !s.full, compl := compl, uV := s.uncertainty p true w.spec vV t,
                       uI := s.uncertainty p false w.spec vI t, sel := sel, ranging := ranging, counted := counted }
  let ab := s.uncTerms p true w.spec t
  let abI := s.uncTerms p false w.spec t
  let s := (((s.set (Pt.UNC_A_V p) (toF32 ab.1)).set (Pt.UNC_B_V p) (toF32 ab.2)).set (Pt.UNC_A_I p) (toF32 abI.1)).set (Pt.UNC_B_I p) (toF32 abI.2)
  let s := (s.modMeas p fun m => { m with win := none, closing := m.closing ++ [r] }).later (t + 5625) (.recOut p)
  match s.runOf p with
  | none => s.openFree p t
  | some q =>
    if !inCtx then s
    else if !counted then s.redoPoint p
    else
      let s := s.modPoint p fun q => { q with counted := q.counted + 1, lastClose := t, compl := q.compl || compl }
      if q.counted + 1 < field (s.rN (Cx.SETTLE_CFG q.ctx)) 16 4 then s.openWin p t q.spec q.ctx
      else s.setPhase p Ph.finish

end State
end Sys2Proof.Machine
end

