-- ==== Sys2Proof/Machine/FabCore.lean ====
section
/-!
DEFINITION. Carillon: task codes and bindings (R220, R221), the fork targets of a channel, zero-latency cycles (R226), the
conditions of a binding (R221, R231), and the deliveries of a tick with their merging (R222, R223).
-/

namespace Sys2Proof.Machine

/-! ### Task kinds of R220 -/
abbrev Task.strike : Nat := 0x20
abbrev Task.start : Nat := 0x21
abbrev Task.stop : Nat := 0x22
abbrev Task.rearm : Nat := 0x23
abbrev Task.trip : Nat := 0x24
abbrev Task.arm : Nat := 0x25
abbrev Task.ecInc : Nat := 0x28
abbrev Task.ecClr : Nat := 0x29
abbrev Task.dly : Nat := 0x2A
abbrev Task.trig : Nat := 0x2B

/-- The GONG_ACTION that acts on a task of a port (R227). -/
def gongCode (kind : Nat) : Nat :=
  if kind = Task.stop then 1 else if kind = Task.trip then 2 else if kind = Task.start then 3
  else if kind = Task.rearm then 4 else if kind = Task.strike then 5 else if kind = Task.arm then 6 else 0

/-- Merge sorted codes without repeats. -/
def uniq : List Nat → List Nat
  | [] => []
  | a :: r => if a ∈ r then uniq r else a :: uniq r

namespace State

/-- The channel bound to a task input of a port (R220). -/
def portBinding (s : State) (p kind : Nat) : Nat :=
  if kind = Task.strike then s.live p (Pt.UPD_EVENT p)
  else if kind = Task.start then s.live p (Pt.START_EVENT p)
  else if kind = Task.stop then s.live p (Pt.STOP_EVENT p)
  else if kind = Task.rearm then s.live p (Pt.REARM_EVENT p)
  else if kind = Task.trip then s.live p (Pt.TRIP_EVENT p)
  else match s.runOf p with
    | some q => s.rN (Cx.ARM_EVENT q.ctx)
    | none => 0xFFFF

/-- Contexts on a port's run queue, the running one included. -/
def onQueue (s : State) (p : Nat) : List Nat :=
  let q := (s.px p).seq
  (q.queue.map (·.ctx)) ++ (match q.run with | some r => [r.ctx] | none => [])

/-- The task inputs bound to a channel, in ascending code (R221). -/
def targetsOf (s : State) (e : Nat) : List Nat :=
  let ports := fun (kind : Nat) => ((List.range 128).filter fun p =>
    if kind = Task.arm then (s.onQueue p).any (fun c => decide (s.rN (Cx.ARM_EVENT c) = e)) else decide (s.portBinding p kind = e)).map
      (prodCode kind)
  let inc := ((List.range 64).filter fun k => (List.range 4).any (fun j => decide (s.rN (Ec.INC_EVENT_0 k + j) = e))).map (prodCode Task.ecInc)
  let clr := ((List.range 64).filter fun k => decide (s.rN (Ec.CLR_EVENT k) = e)).map (prodCode Task.ecClr)
  let dly := ((List.range 16).filter fun k => decide (s.rN (Dl.FIRE_EVENT k) = e)).map (prodCode Task.dly)
  let trg := ((List.range 16).filter fun n => decide (field (s.rN (Ev.TRIG_CFG_0 + n)) 16 16 = e)).map (prodCode Task.trig)
  ports Task.strike ++ ports Task.start ++ ports Task.stop ++ ports Task.rearm ++ ports Task.trip ++ ports Task.arm ++ inc ++ clr ++ dly ++ trg

/-- The binding that a write of an entry makes: the channel and the task input (R220). -/
def bindingOf (key v : Nat) : Option (Nat × Nat) :=
  match recOf (key / 256) with
  | some (.pt, p) =>
    if key = Pt.UPD_EVENT p then some (v, prodCode Task.strike p)
    else if key = Pt.START_EVENT p then some (v, prodCode Task.start p)
    else if key = Pt.STOP_EVENT p then some (v, prodCode Task.stop p)
    else if key = Pt.REARM_EVENT p then some (v, prodCode Task.rearm p)
    else if key = Pt.TRIP_EVENT p then some (v, prodCode Task.trip p)
    else none
  | some (.ec, k) =>
    if Ec.INC_EVENT_0 k ≤ key ∧ key < Ec.INC_EVENT_0 k + 4 then some (v, prodCode Task.ecInc k)
    else if key = Ec.CLR_EVENT k then some (v, prodCode Task.ecClr k)
    else none
  | some (.dl, k) => if key = Dl.FIRE_EVENT k then some (v, prodCode Task.dly k) else none
  | some (.ev, _) =>
    if Ev.TRIG_CFG_0 ≤ key ∧ key < Ev.TRIG_CFG_0 + 16 then some (field v 16 16, prodCode Task.trig (key - Ev.TRIG_CFG_0)) else none
  | _ => none

/-- The task inputs that writes waiting in the queues of the group controllers will bind to a channel (R13, R221). -/
def bindsComing (s : State) (e : Nat) : List Nat :=
  (List.range 16).flatMap fun g => (s.gx g).queue.filterMap fun c =>
    match c.op with
    | .setEntry key _ v => (match bindingOf key v with | some (x, code) => if x = e then some code else none | none => none)
    | _ => none

/-- A further binding of `e` at task `code` would be a ninth target, those that wait to take effect counted (R221). -/
def ninthTarget (s : State) (e code : Nat) : Bool :=
  let l := s.targetsOf e
  let l := l ++ uniq ((s.bindsComing e).filter fun c => decide (c ∉ l))
  decide (code ∉ l) && decide (8 ≤ l.length)

/-! ### Zero-latency cycles (R226) -/

/-- Enabled channels that a delivery to one task input reaches without latency. -/
def zeroLink (s : State) (code : Nat) : List Nat :=
  let kind := code / 2 ^ 16
  let i := code % 2 ^ 16
  if kind = Task.ecInc then s.channelsOf (prodCode 5 i)
  else if kind = Task.dly ∧ s.rN (Dl.DELAY i) = 0 then s.channelsOf (prodCode 6 i)
  else if kind = Task.arm then s.channelsOf (prodCode 0x1B i)
  else []

def zeroNext (s : State) (e : Nat) : List Nat := if s.bit (Ch.CH_EN e) 0 then uniq ((s.targetsOf e).flatMap s.zeroLink) else []

/-- Channels reached from a frontier without latency, in at most `fuel` rounds. -/
def zeroReach (s : State) : Nat → List Nat → List Nat → List Nat
  | 0, _, seen => seen
  | fuel + 1, front, seen =>
    let new := uniq ((front.flatMap s.zeroNext).filter (fun x => decide (x ∉ seen)))
    if new = [] then seen else s.zeroReach fuel new (seen ++ new)

/-- A channel lies on a zero-latency cycle. -/
def zeroCycle (s : State) (e : Nat) : Bool := decide (e ∈ s.zeroReach 1024 [e] [])

/-! ### Bindings (R221, R231) -/

/-- The object of a producer code: an entry of its scope (R219); none: a kind that names no object, or an unlisted code. -/
def producerKey (v : Nat) : Option Nat :=
  let kind := v / 2 ^ 16
  let i := v % 2 ^ 16
  if (kind = 1 ∨ kind = 2) ∧ i < 16 then some (Ev.TRIG_CFG_0 + i)
  else if kind = 4 ∧ i < 16 then some (Tm.TMR_PERIOD i)
  else if kind = 5 ∧ i < 64 then some (Ec.EC_MODE i)
  else if kind = 6 ∧ i < 16 then some (Dl.DELAY i)
  else if 0x10 ≤ kind ∧ kind ≤ 0x1F ∧ i < 128 then some (Pt.SPAN i)
  else none

/-- An S object is named only by an S channel (R231). -/
def secFits (s : State) (key e : Nat) : Bool := !s.secOf key || s.bit (Ch.SEC e) 0

/-- The Gong source, if there is one, may reach a port (R231). -/
def gongReaches (s : State) (p : Nat) : Bool := decide (1024 ≤ s.rN Ev.GONG_SRC) || s.secFits (Pt.GONG_ACTION p) (s.rN Ev.GONG_SRC)

/-- A channel may become the Gong source: it reaches the ports that act on the Gong (R227, R231). -/
def gongFits (s : State) (e : Nat) : Bool :=
  (List.range 128).all fun p => decide (s.rN (Pt.GONG_ACTION p) = 0) || s.secFits (Pt.GONG_ACTION p) e

/-- Owner and attribute conditions of binding a consumer (an entry `key`) to channel `e` (R231): the ownership abort. -/
def bindOwner (s : State) (key e : Nat) : Option Nat :=
  if 1024 ≤ e then none
  else if s.ownerOf key ≠ s.rN (Ch.OWNER e) then some (Abort.ownership (s.rN (Ch.OWNER e)))
  else if s.secFits key e then none
  else some (Abort.ownership (s.rN (Ch.OWNER e)))

/-- The value conditions of a binding that is written to `key` with the raw value `v` (R221, R226). -/
def bindRange (s : State) (key v e code : Nat) : Option Nat :=
  if 1024 ≤ e then none
  else if s.ninthTarget e code then some (Abort.valueRange (key % 256))
  else if s.bit (Ch.CH_EN e) 0 && (s.set key v).zeroCycle e then some (Abort.valueRange (key % 256))
  else none

/-- Drive an output pin to its logical state (R228). -/
def trigDrive (s : State) (n : Nat) : State :=
  s.out (.trigPin n (some (Tab.get (fun _ => false) s.fab.trigOut n != s.bit (Ev.TRIG_CFG_0 + n) 3)))

/-! ### Deliveries (R222, R223, R227) -/

/-- Mark of a Gong delivery to a task, beside the mark of its fork delivery. -/
def gongMark (code : Nat) : Nat := 2 ^ 24 + code

/-- Deliveries at `t` of channel `ch` that a task has not yet taken: channel and generation. -/
def dueFrom (s : State) (t : Tick) (ch mark : Nat) : List (Nat × Nat) :=
  if 1024 ≤ ch then []
  else (s.fab.flights.filter fun f => decide (f.due = t ∧ f.chan = ch ∧ mark ∉ f.done)).map fun f => (f.chan, f.gen)

/-- Mark them as taken. -/
def markFrom (s : State) (t : Tick) (ch mark : Nat) : State :=
  s.modFab fun fb => { fb with flights := fb.flights.map fun f =>
    if f.due = t ∧ f.chan = ch ∧ mark ∉ f.done then { f with done := f.done ++ [mark] } else f }

/-- The highest generation among deliveries. -/
def topGen (l : List (Nat × Nat)) : Nat := l.foldl (fun a e => max a e.2) 0

/-- Set a status bit on every channel of a list of deliveries. -/
def flagChannels (s : State) (b : Nat) (l : List (Nat × Nat)) : State := l.foldl (fun s e => s.setBit (Ch.CH_STATUS e.1) b true) s

/-- The deliveries of a tick to a task input of a port: channel and Gong, merged into one trigger (R223, R227). A GATED group
discards them (R233). -/
def takePort (s : State) (p kind : Nat) (t : Tick) : List (Nat × Nat) × State :=
  let code := prodCode kind p
  let ch := s.portBinding p kind
  let gs := if s.live p (Pt.GONG_ACTION p) = gongCode kind then s.rN Ev.GONG_SRC else 0xFFFF
  let l := s.dueFrom t ch code ++ s.dueFrom t gs (gongMark code)
  let s := (s.markFrom t ch code).markFrom t gs (gongMark code)
  if s.gated p then ([], s)
  else if 2 ≤ l.length then
    (l, (((s.satInc (Pt.EVT_COINCIDE p) 32 1).set (Pt.EVT_COINCIDE_TASK p) kind).flagChannels ChStatus.MERGED l))
  else (l, s)

end State
end Sys2Proof.Machine
end

