-- ==== Sys2Proof/Machine/Seq.lean ====
section
/-!
DEFINITION. The sequencer (R175-R201): merged points, START and its checks, run queues and selection, loading, settling, arming,
the point instant, completion with its engineering values, passes, and the scanner's verification.
-/

namespace Sys2Proof.Machine

/-! ### Words -/

/-- First word of a point slot (R243). -/
def slotAddr (n : Nat) : Nat := 0x340000 + 8 * n

/-- PT_CTRL bits of R183. -/
abbrev Pc.pulse : Nat := 15
abbrev Pc.arm : Nat := 14
abbrev Pc.noMeas : Nat := 13

/-- CRC-8, polynomial 0x07 (R194), over `n` bits of a word, most significant first. -/
def crc8 (w : Nat) : Nat → Nat → Nat
  | 0, c => c
  | n + 1, c =>
    let b := (w >>> n) % 2
    let f := (c / 128 + b) % 2
    crc8 w n (if f = 1 then (c * 2 % 256) ^^^ 0x07 else c * 2 % 256)

/-- The 64 MOSI bits of a frame (R194). -/
def frameWord (f : SFrame) : Nat :=
  let hi := f.op * 2 ^ 48 + (if f.op = 0xC3 then 0x7F else f.port) * 2 ^ 40 + (if f.op = 0xC1 then f.route else 0) * 2 ^ 8 + f.seqn
  hi * 256 + crc8 hi 56 0

/-- A QUERY answers with the route and frame number that were sent, and a correct CRC (R194). -/
def queryOk (f : SFrame) (miso : Nat) : Bool :=
  decide (field miso 16 32 = f.route) && decide (field miso 8 8 = f.seqn) && decide (field miso 0 8 = crc8 (field miso 8 40) 40 0)

def flAbs : Fl → Fl
  | .fin q => .fin (absR q)
  | .inf _ => .inf false
  | .nan => .nan

/-- √ in binary32. -/
def flSqrt32 : Fl → Fl
  | .fin q => (match sqrtFl 24 q with | .fin r => round32 r | f => f)
  | .inf _ => .inf false
  | .nan => .nan

namespace State

/-! ### Merged points (R183) -/

def ctxPort (s : State) (c : Nat) : Nat := s.fld (Cx.BIND c) 0 7
def ctxList (s : State) (c : Nat) : Nat := s.fld (Cx.SWEEP c) 16 11

/-- Word `w` of point `k` of a list. -/
def pointWord (s : State) (l k w : Nat) : Nat := (s.spadAt (slotAddr (s.rN (Ls.FIRST_SLOT l) + k) + w)).toNat

/-- PT_CTRL of a context's point `k`; 0 without a list. -/
def pointCtrl (s : State) (c k : Nat) : Nat := if s.ctxList c < 1024 then field (s.pointWord (s.ctxList c) k 0) 0 32 else 0

/-- A value of the merged point: word `w` of the point where PT_CTRL bit `b` is set, else the context's entry. -/
def mergedVal (s : State) (c k b w key : Nat) : Nat :=
  if bitOf (s.pointCtrl c k) b then s.pointWord (s.ctxList c) k w else s.rN key

def mergedMode (s : State) (c k : Nat) : Nat := s.mergedVal c k 2 6 (Cx.MODE c)
def mergedSpec (s : State) (c k : Nat) : Nat := field (s.mergedVal c k 3 5 (Cx.INT_SPEC c)) 0 32
def mergedTol (s : State) (c k : Nat) : Int := toSigned 40 (s.mergedVal c k 1 7 (Cx.SETTLE_TOL c))
def mergedHi (s : State) (c k : Nat) : Int := toSigned 40 (s.mergedVal c k 5 3 (Cx.COMPL_HI c))
def mergedLo (s : State) (c k : Nat) : Int := toSigned 40 (s.mergedVal c k 4 4 (Cx.COMPL_LO c))

/-- The loop slot of a merged point; its values are expressed in the reference ranges of MODE (R178, R179). -/
def mergedSlot (s : State) (c k : Nat) : Slot :=
  let m := s.mergedMode c k
  let mode := field m 21 3
  let iRef := field m 14 3
  let vRef := 8 + field m 13 1
  let reg := if regV mode then vRef else iRef
  let cmpl := if regV mode then iRef else vRef
  { mode := mode, sp := toSigned 40 (s.mergedVal c k 7 1 (Cx.SETPOINT c)), psp := toSigned 40 (s.mergedVal c k 6 2 (Cx.PULSE_SETPOINT c)),
    chi := s.mergedHi c k, clo := s.mergedLo c k, spStep := s.rI (Cx.SP_STEP c), spRef := reg, pspRef := reg, chiRef := cmpl,
    cloRef := cmpl, iPol := field m 19 2, vPol := field m 17 2, iSel := field m 14 3, vSel := field m 13 1, iMin := field m 10 3,
    iMax := field m 7 3 }

/-- Windows per point (R186). -/
def pointNeed (s : State) (q : Point) : Nat := if bitOf q.ctrl Pc.noMeas then 0 else s.fld (Cx.SETTLE_CFG q.ctx) 16 4

/-- The point waits for an arm (R185). -/
def armNeeded (s : State) (q : Point) : Bool := s.bit (Cx.SETTLE_CFG q.ctx) 24 || bitOf q.ctrl Pc.arm

/-! ### Queues -/

def rs (s : State) (c : Nat) : Nat := s.rN (Cx.RUN_STATE c)

/-- RUN_CTX, QUEUE_LEN and QUEUED_TOTAL (R197, R198). -/
def syncQueue (s : State) (p : Nat) : State :=
  let old := s.rN (Pt.QUEUE_LEN p)
  let n := (s.onQueue p).length
  let s := (s.set (Pt.QUEUE_LEN p) n).set (Pt.RUN_CTX p) (match s.runOf p with | some q => q.ctx | none => 0xFFFF)
  s.set Sq.QUEUED_TOTAL (s.rN Sq.QUEUED_TOTAL + n - old)

/-- The limits of R114. -/
def complOk (hi lo : Int) : Bool := decide (-fs120 ≤ lo) && decide (lo < hi) && decide (hi ≤ fs120)

/-- Values that involve the port and the context (R181): the subindex of the first that fails. -/
def valuesFail (s : State) (p m : Nat) (hi lo : Int) (spec limSub : Nat) : Option Nat :=
  if s.rN (Pt.IRNG_COUNT p) ≤ field m 14 3 then some 0x03
  else if s.rN (Pt.VRNG_COUNT p) ≤ field m 13 1 then some 0x03
  else if field m 7 3 < field m 10 3 then some 0x03
  else if !complOk hi lo then some limSub
  else if !intSpecOk spec then some 0x09
  else none

/-- The check of the context's own values, and of a point merged with it (R181). -/
def ownFail (s : State) (c : Nat) : Option Nat :=
  s.valuesFail (s.ctxPort c) (s.rN (Cx.MODE c)) (s.rI (Cx.COMPL_HI c)) (s.rI (Cx.COMPL_LO c)) (s.rN (Cx.INT_SPEC c)) 0x06
def mergedFail (s : State) (c k : Nat) : Option Nat :=
  s.valuesFail (s.ctxPort c) (s.mergedMode c k) (s.mergedHi c k) (s.mergedLo c k) (s.mergedSpec c k) (if bitOf (s.pointCtrl c k) 5 then 0x07 else 0x06)

/-- The points of a context: all of its list, or its one merged point. -/
def ctxPoints (s : State) (c : Nat) : List Nat := if s.ctxList c < 1024 then List.range (s.rN (Ls.COUNT (s.ctxList c))) else [0]

/-- The checks of a START by a writer that owns the context (R180, R181): ownership, an NS channel that arms an S port (R231) among it, device
state, value limits. -/
def startCheck (s : State) (c who : Nat) : Option Nat :=
  let p := s.ctxPort c
  let l := s.ctxList c
  let ev := s.rN (Cx.ARM_EVENT c)
  let arm := s.bit (Cx.SETTLE_CFG c) 24 || (s.ctxPoints c).any (fun k => bitOf (s.pointCtrl c k) Pc.arm)
  let sr := s.rN (Cx.SCAN_ROUTE c)
  let others := (s.onQueue p).any (fun d => decide (s.rN (Cx.ARM_EVENT d) = ev))
  if s.rN (Pt.OWNER p) ≠ who then some (Abort.ownership (s.rN (Pt.OWNER p)))
  else if l < 1024 ∧ s.rN (Ls.OWNER l) ≠ who then some (Abort.ownership (s.rN (Ls.OWNER l)))
  else if arm ∧ ev < 1024 ∧ s.rN (Ch.OWNER ev) ≠ who then some (Abort.ownership (s.rN (Ch.OWNER ev)))
  else if ev < 1024 ∧ s.secFits (Pt.GONG_ACTION p) ev = false then some (Abort.ownership (s.rN (Ch.OWNER ev)))
  else if s.rs c = 1 ∨ s.rs c = 2 ∨ s.rs c = 6 then some (Abort.deviceState 6)
  else if l < 1024 ∧ s.rN (Ls.LIST_STATE l) ≠ 2 then some (Abort.deviceState 10)
  else if l < 1024 ∧ s.rN (Ls.COUNT l) ≤ s.fld (Cx.SWEEP c) 0 16 then some (Abort.valueRange 0x0A)
  else if arm ∧ 1024 ≤ ev then some (Abort.valueRange 0x12)
  else match orElse' (s.ownFail c) ((s.ctxPoints c).findSome? (fun k => s.mergedFail c k)) with
    | some sub => some (Abort.valueRange sub)
    | none =>
      if s.fld (Cx.SETTLE_CFG c) 26 2 = 0 ∧ s.rN (Cx.SETTLE_MIN c) ≠ 0 then some (Abort.valueRange 0x11)
      else if bitOf sr 35 ∧ !s.bit Sq.SCN_SEL_EN (field sr 33 2) then some (Abort.valueRange 0x0D)
      else if ev < 1024 ∧ !others ∧ s.ninthTarget ev (prodCode Task.arm p) = true then some (Abort.valueRange 0x12)
      else none

/-- An accepted START places the context on its port's queue with release at `t` (R180). -/
def enqueue (s : State) (c : Nat) (t : Tick) : State :=
  let p := s.ctxPort c
  let l := s.ctxList c
  let s := ((((s.set (Cx.RUN_STATE c) 1).set (Cx.PASS_COUNT c) 0).set (Cx.POINTS_DONE c) 0).set (Cx.STALL_AGE c) 0).set (Cx.POINT_NOW c) 0
  let s := if l < 1024 then (s.satInc (Ls.REF_COUNT l) 16 1).leaveConfig (0x7000 + l) else s
  let s := s.leaveConfig (0x6000 + c)
  (s.modSeq p fun q => { q with queue := q.queue ++ [{ ctx := c, release := t }] }).syncQueue p

/-- A context leaves its port's queue in state `st`. -/
def leaveQueue (s : State) (p c st : Nat) : State :=
  let running := match s.runOf p with | some q => decide (q.ctx = c) | none => false
  let l := s.ctxList c
  let s := ((s.set (Cx.RUN_STATE c) st).set (Cx.POINT_NOW c) 0).set (Cx.STALL_AGE c) 0
  let s := if l < 1024 then s.set (Ls.REF_COUNT l) (s.rN (Ls.REF_COUNT l) - 1) else s
  let s := s.modSeq p fun q => { q with queue := q.queue.filter (fun e => decide (e.ctx ≠ c)), run := if running then none else q.run,
                                        backDue := q.backDue || running, backFrom := if running then s.now else q.backFrom }
  s.syncQueue p

/-! ### Points (R186, R189) -/

/-- A point begins at `tps`: step 1, 2 or 3 of R186. -/
def pointBegin (s : State) (p c k : Nat) (sel tps : Tick) (first : Bool) : State :=
  let s := s.modSeq p fun x => { x with run := some { ctx := c, pt := k, selTick := sel, tps := tps, phase := Ph.load, from_ := tps } }
  let sr := s.rN (Cx.SCAN_ROUTE c)
  let want := 2 ^ 35 + field sr 33 2 * 2 ^ 33 + field sr 0 32
  let s := s.set (Cx.STALL_AGE c) 0
  if first && bitOf sr 35 && decide (want ≠ s.rN (Pt.ROUTE_NOW p)) then
    if s.bit (Cx.BIND c) 8 && s.enabled p then (s.modPoint p fun q => { q with zeroWait := true }).setPhase p Ph.switch
    else s.startScan p tps
  else (s.modPoint p fun q => { q with loadWait := true }).setPhase p Ph.load

/-- Order of selection (R188): priority, release, number. -/
def betterThan (s : State) (a b : QEntry) : Bool :=
  let pa := s.fld (Cx.BIND a.ctx) 11 3
  let pb := s.fld (Cx.BIND b.ctx) 11 3
  decide (pb < pa) || (decide (pa = pb) && (decide (a.release < b.release) || (decide (a.release = b.release) && decide (a.ctx < b.ctx))))

def bestOf (s : State) : List QEntry → Option QEntry
  | [] => none
  | e :: r => match s.bestOf r with
    | none => some e
    | some b => if s.betterThan b e then some b else some e

/-- Select for a port at `t`, when no context runs and SEQ_HOLD is 0 (R188, R198). -/
def select (s : State) (p : Nat) (t : Tick) : State :=
  let x := (s.px p).seq
  if x.run.isSome || decide (s.live p (Pt.SEQ_HOLD p) = 1) then s
  else match s.bestOf (x.queue.filter (fun e => decide (e.release ≤ t))) with
    | none => s
    | some e =>
      let k := if s.rN (Cx.PASS_COUNT e.ctx) = 0 ∧ s.ctxList e.ctx < 1024 then s.fld (Cx.SWEEP e.ctx) 0 16 else 0
      let s := s.modSeq p fun x => { x with queue := x.queue.filter (fun f => decide (f.ctx ≠ e.ctx)), backDue := false }
      ((s.set (Cx.RUN_STATE e.ctx) 2).pointBegin p e.ctx k t t true).syncQueue p

/-- The port selects at the tick `t`, once everything of that tick has happened: a START of the tick takes part (R188, R200). -/
def selectAt (s : State) (p : Nat) (t : Tick) : State := s.later t (.select p)

/-- The port is in service for a point: enabled, not in its disable sequence, and its group in RUN (R191). -/
def inService (s : State) (p : Nat) : Bool :=
  (decide (s.portState p = 1) || decide (s.portState p = 2)) && decide (s.groupState (groupOf p) = 0)

/-- The stored value of a point word, from the configuration image in force (R251). -/
def imagePoint (s : State) (l k w : Nat) : Option Nat :=
  let pr := Tab.get (fun _ => ({} : NvPair)) s.nv.pairs 162
  match pr.best with
  | none => none
  | some x => match x.data.blobs.find? (fun e => decide (e.1 = Ls.POINTS l)) with
    | none => none
    | some e => if 40 * (k + 1) ≤ e.2.length then some (leNum ((e.2.drop (40 * k + 5 * w)).take 5)) else none

/-- A poisoned point is rewritten from the configuration image (R251). -/
def pointRewrite (s : State) (l k : Nat) : State :=
  let a := slotAddr (s.rN (Ls.FIRST_SLOT l) + k)
  (List.range 8).foldl (fun s w =>
    if s.poisoned (a + w) then (match s.imagePoint l k w with | some v => s.spadPut (a + w) (BitVec.ofNat 40 v) | none => s) else s) s

/-- A word of the point's slot is poisoned, or was read so for this load (R251). -/
def pointBad (s : State) (c k : Nat) : Bool :=
  let l := s.ctxList c
  decide (l < 1024) && (decide (s.rN (Ls.FIRST_SLOT l) + k ∈ s.mem.reload) ||
    (List.range 8).any fun w => s.poisoned (slotAddr (s.rN (Ls.FIRST_SLOT l) + k) + w))

/-- The load of a poisoned point: it is rewritten, and the load is repeated at the next tick boundary (R251). -/
def pointRetry (s : State) (c k : Nat) : State :=
  let l := s.ctxList c
  let s := s.pointRewrite l k
  { s with mem := { s.mem with reload := s.mem.reload.filter (fun n => decide (n ≠ s.rN (Ls.FIRST_SLOT l) + k)) } }

/-- The settings of a point, or the port's own, come into force; ranges other than those sought before are an event of R143. -/
def slotTake (s : State) (p : Nat) (x : Option Slot) : State :=
  let was := s.soughts p
  let s := (s.modLoopY p fun y => { y with slot := x }).rangeRules p
  s.when (decide (s.soughts p ≠ was)) fun s => s.rngEvent p

/-- The context entries as they stood before the writes of the tick `t` (R200). -/
def beforeWrites (s : State) (t : Tick) : State := s.od.recent.foldl (fun s e => if e.2.1 = t then s.set e.1 e.2.2 else s) s

/-- The merged point takes effect at `t` (R179, R186 step 3), with the values in force before any write of that tick (R200). -/
def pointLoad (s : State) (p : Nat) (q : Point) (t : Tick) : State :=
  let c := q.ctx
  let was := s.beforeWrites t
  let new := was.mergedSlot c q.pt
  let eng := was.rN (Cx.ENG_CFG c)
  let s := s.discardWin p
  let s := s.slotTake p (some new)
  let s := s.modPoint p fun x => { x with
    loadWait := false, ctrl := s.pointCtrl c q.pt, spec := s.mergedSpec c q.pt, tol := s.mergedTol c q.pt, engCfg := eng,
    tload := t, cnt := 0, tset := none, tarm := none, tp := none, counted := 0, compl := false, train := false, pulse := false,
    pulseDone := none }
  let s := (s.wrapInc (Pt.PT_LOADS p) 32 1).setPhase p Ph.settle
  (s.deriveLimits p).produce 0x1A p t 0

/-- The sequencer's changes that take effect at the tick boundary `t` (R186, R189). -/
def seqAtBoundary (s : State) (p : Nat) (t : Tick) : State :=
  match s.runOf p with
  | none =>
    if (s.px p).seq.backDue && decide ((s.px p).seq.backFrom < t) then
      (((s.modSeq p fun x => { x with backDue := false }).slotTake p none).deriveLimits p).openFree p t
    else s
  | some q =>
    if q.from_ < t then
      if q.zeroWait then
        let z := { s.slotOf p with mode := 0 }
        ((s.slotTake p (some z)).modPoint p fun q => { q with zeroWait := false, zeroTicks := 0 }).deriveLimits p
      else if q.loadWait && s.inService p then (if s.pointBad q.ctx q.pt then s.pointRetry q.ctx q.pt else s.pointLoad p q t)
      else s
    else s

/-! ### Settling (R184, R189) -/

/-- The range condition of R184. -/
def rangeQuiet (s : State) (p : Nat) : Bool :=
  !(s.bit (Pt.RNG_STATUS p) RngStatus.RNG_BUSY || s.bit (Pt.RNG_STATUS p) RngStatus.RNG_CHAIN || s.bit (Pt.RNG_STATUS p) RngStatus.RNG_PENDING)

/-- The settle criterion is met at `t`. -/
def settleMet (s : State) (p : Nat) (t : Tick) : State := (s.modPoint p fun q => { q with tset := some t }).setPhase p Ph.arm

/-- A tick of the port, after its update (R184, R189). `ran`: the tick ran; `slew`: SLEWING; `sel`: its selection; `T`: its
target. -/
def seqTick (s : State) (p : Nat) (ran slew : Bool) (sel : Nat) (T : Int) (t : Tick) : State :=
  match s.runOf p with
  | none => s
  | some q =>
    let l := (s.px p).loop
    if q.phase = Ph.switch ∧ q.zeroWait = false then
      if ran && decide (absI l.yv ≤ s.rI (Cx.SETTLE_TOL q.ctx)) then
        if q.zeroTicks + 1 = 2 then s.startScan p t else s.modPoint p fun q => { q with zeroTicks := q.zeroTicks + 1 }
      else s.modPoint p fun q => { q with zeroTicks := 0 }
    else if q.phase ≠ Ph.settle ∨ t < q.tload + 640 * s.rN (Cx.SETTLE_MIN q.ctx) then s
    else if !ran || !s.rangeQuiet p then s.resetCount p
    else
      let cfg := s.rN (Cx.SETTLE_CFG q.ctx)
      let n := field cfg 0 16
      let mode := field cfg 26 2
      if mode ≤ 1 then s.settleMet p t
      else if mode = 2 then
        let y := if bitOf cfg 25 then l.yi else l.yv
        let hi := if q.cnt = 0 then y else max q.ymax y
        let lo := if q.cnt = 0 then y else min q.ymin y
        if hi - lo ≤ q.tol then
          let s := s.modPoint p fun q => { q with cnt := q.cnt + 1, ymax := hi, ymin := lo }
          if n ≤ q.cnt + 1 then s.settleMet p t else s
        else
          let s := s.modPoint p fun q => { q with cnt := 1, ymax := y, ymin := y }
          if n ≤ 1 then s.settleMet p t else s
      else
        let v := regV (s.slotOf p).mode
        let y := if v then l.yv else l.yi
        let c := if v then l.yi else l.yv
        let ok := !slew && ((decide (sel = 0) && decide (absI (y - T) ≤ q.tol)) ||
          (decide (sel = 1) && decide (absI (c - (s.effHi p).1) ≤ q.tol)) || (decide (sel = 2) && decide (absI (c - (s.effLo p).1) ≤ q.tol)))
        if ok then
          let s := s.modPoint p fun q => { q with cnt := q.cnt + 1 }
          if n ≤ q.cnt + 1 then s.settleMet p t else s
        else s.resetCount p

/-- An arm delivered at `t` (R185). -/
def armPoint (s : State) (p : Nat) (t : Tick) (gen : Nat) : State :=
  match s.runOf p with
  | none => s
  | some q =>
    if !s.armNeeded q || q.tarm.isSome || !(decide (q.phase = Ph.settle) || decide (q.phase = Ph.arm)) || decide (t < q.tload) then s
    else if s.bit (Cx.SETTLE_CFG q.ctx) 23 && q.tset.isNone then s.setBit (Cx.SEQ_STATUS q.ctx) SeqStatus.ARM_EARLY true
    else s.modPoint p fun q => { q with tarm := some t, armGen := gen }

/-! ### The point instant and the end of a point (R186, R192) -/

/-- The point instant that the running point waits for. -/
def instantAt (s : State) (p : Nat) : Option Tick :=
  match s.runOf p with
  | some q =>
    match decide (q.phase = Ph.arm), q.tset with
    | true, some ts =>
      if s.armNeeded q then q.tarm.map fun ta => baseAt (max ts ta) else some (baseAt ts)
    | _, _ => none
  | none => none

/-- Step 6 of R186 at `tp`: SEQ_INSTANT, the PULSE train, and the first window. -/
def pointInstant (s : State) (p : Nat) (q : Point) (tp : Tick) : State :=
  let s := s.produce 0x1B p tp (if s.armNeeded q then q.armGen + 1 else 0)
  let s := (s.modMeas p fun m => { m with lastRecV := none, lastRecI := none }).modPoint p fun q => { q with tp := some tp }
  let s := s.setPhase p Ph.measure
  let busy := (s.px p).pgen.train.isSome && !s.trainOver p tp
  let skip := bitOf q.ctrl Pc.pulse && (decide (s.startSrc p ≠ 2) || busy)
  let go := bitOf q.ctrl Pc.pulse && !skip
  let s := s.when skip fun s => s.setBit (Cx.SEQ_STATUS q.ctx) SeqStatus.PULSE_SKIP true
  let r := if go then s.eventStart p tp 0 [] else if bitOf q.ctrl Pc.pulse && decide (s.startSrc p = 2) then s.eventStart p tp 0 [] else (s, false)
  let s := r.1
  if go && !r.2 then s.redoPoint p
  else
    let s := s.modPoint p fun x => { x with train := go || x.train, pulse := go && decide (s.live p (Pt.PULSE_COUNT p) ≠ 0) }
    if s.pointNeed q = 0 then s.setPhase p Ph.finish else s.openWin p tp q.spec q.ctx

/-- t_done of the running point, once it is known (R186 step 8). -/
def doneAt (s : State) (p : Nat) : Option Tick :=
  match s.runOf p with
  | none => none
  | some q =>
    if q.phase ≠ Ph.finish then none
    else
      let w := if s.pointNeed q = 0 then q.tp.getD 0 else q.lastClose + 5625
      if q.pulse then q.pulseDone.map (max w) else some w

/-- ENG_LAST and ENG_UNC (R192): binary32, rounding to nearest even, in the order of the rule. -/
def engForm (s : State) (p : Nat) (q : Point) : State :=
  if q.engCfg = 0 then s
  else
    let m := (s.px p).meas
    let mirror := fun (r : Nat × Nat × Nat) => ofF32 (f32 (mkRat (toSigned 40 r.1) (2 ^ 37) * s.fsOf p (field r.2.1 18 4)))
    let umir := fun (r : Nat × Nat × Nat) => ofF32 (f32 (mkRat r.2.2 (2 ^ 37) * s.fsOf p (field r.2.1 18 4)))
    let use := fun (r : Option (Nat × Nat × Nat)) => match r with | some r => if bitOf r.2.1 0 then none else some r | none => none
    let v := if s.pointNeed q = 0 then none else use m.lastRecV
    let i := if s.pointNeed q = 0 then none else use m.lastRecI
    let xu : Option (Fl × Fl) :=
      match q.engCfg, v, i with
      | 1, some v, _ => some (mirror v, umir v)
      | 2, _, some i => some (mirror i, umir i)
      | 3, some v, some i =>
        let x := flDiv round32 (mirror v) (mirror i)
        let a := flDiv round32 (umir v) (mirror v)
        let b := flDiv round32 (umir i) (mirror i)
        some (x, flMul round32 (flAbs x) (flSqrt32 (flAdd round32 (flMul round32 a a) (flMul round32 b b))))
      | 4, some v, some i =>
        let x := flDiv round32 (mirror i) (mirror v)
        let a := flDiv round32 (umir v) (mirror v)
        let b := flDiv round32 (umir i) (mirror i)
        some (x, flMul round32 (flAbs x) (flSqrt32 (flAdd round32 (flMul round32 a a) (flMul round32 b b))))
      | _, _, _ => none
    match xu with
    | none => (s.set (Cx.ENG_LAST q.ctx) 0x7FC00000).set (Cx.ENG_UNC q.ctx) 0x7F800000
    | some (x, u) =>
      let g := ofF32 (s.rN (Cx.ENG_GAIN q.ctx))
      (s.set (Cx.ENG_LAST q.ctx) (toF32 (flAdd round32 (flMul round32 g x) (ofF32 (s.rN (Cx.ENG_OFFSET q.ctx)))))).set (Cx.ENG_UNC q.ctx)
        (toF32 (flMul round32 (flAbs g) u))

/-- NEXT_CTX receives a START with the owner of the ending context as the writer (R187). -/
def startNext (s : State) (c : Nat) (t : Tick) : State :=
  let n := s.rN (Cx.NEXT_CTX c)
  if 4096 ≤ n then s
  else
    let who := s.rN (Cx.OWNER c)
    let bad := if s.rN (Cx.OWNER n) ≠ who then true else (s.startCheck n who).isSome
    if bad then s.setBit (Cx.SEQ_STATUS c) SeqStatus.NEXT_REFUSED true else s.enqueue n t

/-- A pass ends at `t` (R187). -/
def passEnd (s : State) (p c : Nat) (sel t : Tick) : State :=
  let s := (s.satInc (Cx.PASS_COUNT c) 32 1).produce 0x1D p t 0
  let rep := s.rN (Cx.REPEAT c)
  if rep ≠ 0 ∧ rep ≤ s.rN (Cx.PASS_COUNT c) then
    ((s.leaveQueue p c 3).produce 0x1E p t 0).startNext c t
  else
    let s := ((s.set (Cx.RUN_STATE c) 1).set (Cx.POINT_NOW c) 0).set (Cx.STALL_AGE c) 0
    (s.modSeq p fun x => { x with run := none, backDue := true, backFrom := t,
                                  queue := x.queue ++ [{ ctx := c, release := sel + s.rN (Cx.CYCLE_PERIOD c) * 640000 }] }).syncQueue p

/-- The running point completes at `td` (R186, R187, R191). -/
def pointDone (s : State) (p : Nat) (q : Point) (td : Tick) : State :=
  let c := q.ctx
  let s := ((s.satInc (Cx.POINTS_DONE c) 40 1).engForm p q).produce 0x1C p td 0
  let s := if q.train && ((s.px p).pgen.train.map (·.n)) == some 0 then s.trainStop p (s.stopMode p) td else s
  let inCompl := if s.pointNeed q = 0 then (s.px p).loopY.compl else q.compl
  let ended := s.bit (Cx.BIND c) 9 && inCompl
  let s := s.when ended fun s => s.setBit (Cx.SEQ_STATUS c) SeqStatus.COMPL_ENDED true
  let last := ended || decide (1024 ≤ s.ctxList c) || decide (s.rN (Ls.COUNT (s.ctxList c)) ≤ q.pt + 1)
  if s.rs c = 6 then
    let s := if last then (s.satInc (Cx.PASS_COUNT c) 32 1).produce 0x1D p td 0 else s
    s.leaveQueue p c 4
  else if last then s.passEnd p c q.selTick td
  else s.pointBegin p c (q.pt + 1) q.selTick td false

/-- A point whose t_done has come completes before an ABORT of that tick acts (R191). -/
def doneFirst (s : State) (p c : Nat) (t : Tick) : State :=
  match s.runOf p, s.doneAt p with
  | some q, some td => if q.ctx = c ∧ td ≤ t then s.pointDone p q td else s
  | _, _ => s

/-- An ABORT takes effect at the tick boundary `t` of the port (R191). -/
def abortCtx (s : State) (p c : Nat) (t : Tick) : State :=
  let s := s.doneFirst p c t
  if s.rs c = 3 ∨ s.rs c = 4 then s.set (Cx.RUN_STATE c) 5
  else if s.rs c = 1 then s.leaveQueue p c 5
  else match s.runOf p with
    | some q =>
      if q.ctx = c then
        let s := s.discardWin p
        let s := if q.train then s.trainStop p true t else s
        (s.leaveQueue p c 5).selectAt p t
      else s
    | none => s

/-! ### Reported while a point waits (R179) -/

/-- WAIT_CAUSE of a context now. -/
def waitCause (s : State) (c : Nat) : Nat :=
  let p := s.ctxPort c
  if s.rs c = 1 then 1 + 2 * (!s.inService p).toNat
  else match s.runOf p with
    | none => 0
    | some q =>
      if q.ctx ≠ c then 0
      else
        let b := fun (n : Nat) (x : Bool) => x.toNat * 2 ^ n
        let loaded := decide (Ph.settle ≤ q.phase)
        b 1 (!s.inService p) + b 2 (decide (q.phase = Ph.switch)) + b 3 (decide (q.phase = Ph.scan)) + b 4 (loaded && !s.rangeQuiet p) +
          b 5 (decide (q.phase = Ph.settle)) + b 6 (loaded && s.armNeeded q && q.tarm.isNone) +
          b 7 (decide (q.phase = Ph.measure)) + b 8 (q.pulse && q.pulseDone.isNone) + b 9 (s.tripped p) + b 10 (s.rampHold p)

/-! ### Scanner verification (R194) -/

/-- Ticks of a frame (R196): 0.4 µs and 64 periods of SCN_SCLK. -/
def frameTicks (s : State) : Nat := 256 + 256 * s.rN Sq.SCN_CLK_DIV

/-- Step 2 ends for the running point of a port, once its frame is verified and settled. -/
def scanEnds (s : State) (p : Nat) (t : Tick) : State :=
  match s.runOf p with
  | some q =>
    match decide (q.phase = Ph.scan), q.scanOk, q.scanDue with
    | true, true, some d => if d ≤ t then (s.modPoint p fun q => { q with loadWait := true, from_ := t }).setPhase p Ph.load else s
    | _, _, _ => s
  | none => s

/-- The running point of a port that asked for a frame. -/
def askedBy (s : State) (f : SFrame) : Bool :=
  match s.runOf f.port with
  | some q => decide (q.ctx = f.ctx) && decide (q.phase = Ph.scan)
  | none => false

/-- ROUTE_NOW takes the route of a frame (R194). -/
def routeSet (s : State) (f : SFrame) : State := s.set (Pt.ROUTE_NOW f.port) (2 ^ 35 + f.sel * 2 ^ 33 + f.route)

/-- A frame ends at `e`, the rise of its select (R194-R196). -/
def frameEnd (s : State) (f : SFrame) (miso : Nat) (e : Tick) : State :=
  let s := (s.wrapInc Sq.SCN_FRAMES 32 1)
  let s := { s with scan := { s.scan with busy := none, freeAt := e + 128 } }
  if f.op = 0xC1 then
    let s := if s.askedBy f then s.modPoint f.port fun q => { q with scanDue := some (e + 640 * s.rN (Cx.SCAN_SETTLE q.ctx)), scanOk := false } else s
    if s.rN Sq.SCN_VERIFY = 1 then { s with scan := { s.scan with queue := { f with op := 0xC2 } :: s.scan.queue } }
    else
      let s := s.routeSet f
      if s.askedBy f then (s.modPoint f.port fun q => { q with scanOk := true }).scanEnds f.port e else s
  else if f.op = 0xC2 then
    if queryOk f miso then
      let s := s.routeSet f
      if s.askedBy f then (s.modPoint f.port fun q => { q with scanOk := true }).scanEnds f.port e else s
    else
      let s := s.satInc Sq.SCN_ERR_COUNT 32 1
      let s := s.when (decide (f.ctx < 4096)) fun s => s.setBit (Cx.SEQ_STATUS f.ctx) SeqStatus.SCAN_ERR true
      if s.askedBy f then { s with scan := { s.scan with retries := Tab.set (fun _ => none) s.scan.retries f.port (some (e + 640 * s.rN Sq.SCN_RETRY, f)) } }
      else s
  else s

end State
end Sys2Proof.Machine
end

