-- ==== Sys2Proof/Machine/TickCore.lean ====
section
/-!
DEFINITION. The loop tick (R107-R123, R141): configuration that takes effect at a tick boundary (R14), the inputs, the update with
its holds and resumptions, the range decisions of AUTO, loop records and the recorder's check words.
-/

namespace Sys2Proof.Machine

/-- The other quantity's sign-extended average of a window (R108). -/
def winAverage (n : Nat) (sum : Int) : Int := (2 * sum + n) / (2 * n) * 1310720

namespace State

/-! ### Entries that take effect (R14, R110, R129) -/

/-- TH_REF takes the range in force for one threshold (R129, R169). -/
def thTake (s : State) (p i : Nat) (t : Tick) : State :=
  let r := s.thScale p (decide (2 ≤ i)) t
  let r := if r < 10 then r else s.rangeOf p (decide (2 ≤ i))
  (s.setFld (Pt.TH_REF p) (4 * i) 4 r).loadThresholds p t

/-- A span change of the port runs, in whichever state of the port. -/
def spanEntering (s : State) (p : Nat) : Bool :=
  match (s.px p).seqn with
  | .enSpanHold _ => true
  | .offSpan _ => true
  | _ => decide (s.spanStep p ≠ 0)

/-- A SPAN write that has to wait sets SPAN_PENDING, and one equal to the span being entered clears it (R62). -/
def spanAwaits (s : State) (p want : Nat) : State :=
  let goal := if s.spanEntering p then (s.px p).force.spanTo else s.rN (Pt.SPAN_ACTIVE p)
  if s.spanEntering p || decide (s.portState p = 1) || decide (s.portState p = 3) || s.cleared p then
    s.setBit (Pt.FORCE_STATUS p) ForceStatus.SPAN_PENDING (decide (want ≠ goal))
  else s

/-- A SPAN write takes effect at the tick boundary `t` (R60, R62): it starts a span change, or waits for one. -/
def spanWritten (s : State) (p : Nat) (t : Tick) : State :=
  let want := s.live p (Pt.SPAN p)
  if s.spanEntering p || decide (s.portState p = 1) || decide (s.portState p = 3) then s.spanAwaits p want
  else if s.portState p = 0 then s.offSpan p t
  else (s.modForce p fun f => { f with spanDue := decide (want ≠ s.rN (Pt.SPAN_ACTIVE p)) }).spanAwaits p want

/-- A write of the entry asks for a range (R142, R143): a range, a policy or a bound, and what TARGET decides from. -/
def asksRange (s : State) (p key : Nat) : Bool :=
  let c := s.slotOf p
  let target := decide (s.live p (Pt.LINK_PORT p) = 0xFF) && decide ((if regV c.mode then c.vPol else c.iPol) = 2)
  decide (key ∈ [Pt.IRNG_SEL p, Pt.VRNG_SEL p, Pt.IRNG_POLICY p, Pt.VRNG_POLICY p, Pt.IRNG_MIN p, Pt.IRNG_MAX p]) ||
    (target && decide (key ∈ [Pt.FORCE_SETPOINT p, Pt.PULSE_SETPOINT p, Pt.FORCE_MODE p, Pt.DOWN_TH p]))

/-- What follows when a written entry of the port record takes effect at `t`. -/
def applyEntry (s : State) (p key : Nat) (t : Tick) : State :=
  let own := (s.ownSlot p).mode
  let reg := s.rangeOf p (regV own)
  let cmp := s.rangeOf p (!regV own)
  let s :=
    if key = Pt.FORCE_SETPOINT p then s.modLoopY p fun y => { y with rSp := reg }
    else if key = Pt.PULSE_SETPOINT p then s.modLoopY p fun y => { y with rPsp := reg }
    else if key = Pt.COMPL_HI p then s.modLoopY p fun y => { y with rChi := cmp }
    else if key = Pt.COMPL_LO p then s.modLoopY p fun y => { y with rClo := cmp }
    else if key = Pt.TH_I_LO p then s.thTake p 0 t
    else if key = Pt.TH_I_HI p then s.thTake p 1 t
    else if key = Pt.TH_V_LO p then s.thTake p 2 t
    else if key = Pt.TH_V_HI p then s.thTake p 3 t
    else if key = Pt.CMP_HYST p then s.loadThresholds p t
    else if key = Pt.CMP_V_MODE p then s.cmpModeChange p true t
    else if key = Pt.CMP_I_MODE p then s.cmpModeChange p false t
    else if key = Pt.TRIP_EN p then (if s.enabled p then s.tripLevels p t else s)
    else if key = Pt.AMP_GAIN p then s.loadKstage p
    else if key = Pt.SPAN p then s.spanWritten p t
    else if key = Pt.LM_EN p ∨ key = Pt.LM_R_INIT p then s.modelReset p
    else if key = Pt.LINK_PORT p then s.modLoopY p fun y => { y with linkRef := s.rangeV (s.live p (Pt.LINK_PORT p)) }
    else if key = Pt.LOOP_REC_DIV p then (s.closeLoop p).modLoopY p fun y => { y with recCount := 0 }
    else if key = Pt.LOOP_RING p then s.closeLoop p
    else if key = Pt.UPD_SRC p ∨ key = Pt.UPD_EVENT p then s.modForce p fun f => { f with fallback := false }
    else if key = Pt.READBACK_INTERVAL p then s.modForce p fun f => { f with rbDue := t + 640 * s.live p (Pt.READBACK_INTERVAL p) }
    else if key = Pt.PREC_FREE p then (if s.live p (Pt.PREC_FREE p) = 1 then s.openFree p t else s)
    else if key = Pt.SEQ_HOLD p then s.selectAt p t
    else if key = Pt.FAST_EN p ∨ key = Pt.FAST_PACK p ∨ key = Pt.FAST_DECIM_LOG2 p then s.fastSettings p t
    else s
  let s := (s.deriveLimits p).rangeRules p
  ((s.when (s.asksRange p key) fun s => s.rngEvent p).syncSought p).syncPort p

/-- A change of D takes effect at the tick boundary `t`, unless a step or its GUARD runs (R105, R143). -/
def divApply (s : State) (p : Nat) (_t : Tick) : State :=
  let d := s.divSought p
  if d = s.rN (Pt.LOOP_DIV_ACTIVE p) then s.modLoopY p fun y => { y with divWait := false }
  else if (s.px p).range.step.isSome then s.modLoopY p fun y => { y with divWait := true }
  else (s.set (Pt.LOOP_DIV_ACTIVE p) d).modLoopY p fun y => { y with divWait := false }

/-! ### Inputs (R108, R133, R139) -/

/-- The inputs that a port's window gives at the tick `t`. -/
structure TickIn where
  yv : Int
  yi : Int
  ovrV : Bool
  ovrI : Bool
  rang : Bool                      -- the window held RANGING samples
  hold : Bool                      -- a sample of MAKE or BREAK: the tick holds (R133)
  b0 : Bool                        -- base level at some sample, pulse level at some sample
  b1 : Bool
deriving DecidableEq, Repr

def overlaps (a b c d : Nat) : Bool := decide (a < d) && decide (c < b)

/-- The inputs of the tick at `t` (R108, R133). DEDUCED (log entry 95): an input replaced for OVR (R108) stands as it is in a tick of PARALLEL; only
an average *y* is converted by K(o → range in force). -/
def tickIn (s : State) (p : Nat) (t : Tick) : TickIn :=
  let l := (s.px p).loop
  let w := l.cur
  let a := l.edge - 64
  let b := t - 64
  let steps := (s.px p).meas.steps
  let one := fun (v : Bool) (sum : Int) (o : Option Bool) =>
    match o with
    | some n => if n then -fs120 else fs120
    | none =>
      if w.n = 0 then sat40 (Config.noInput p t v)
      else
        let y := winAverage w.n sum
        match steps.find? (fun st => decide (st.qv = v) && decide (st.t1 ≤ a) && decide (b ≤ st.t2)) with
        | some st => s.conv p (if v then ovlV else ovlI (min st.a st.b)) (s.rangeOf p v) y
        | none => y
  { yv := one true w.sumV w.ovrV, yi := one false w.sumI w.ovrI, ovrV := w.ovrV.isSome, ovrI := w.ovrI.isSome,
    rang := steps.any (fun st => overlaps a b st.t0 st.t3),
    hold := steps.any (fun st => overlaps a b st.t0 st.t1 || overlaps a b st.t2 st.t3),
    b0 := w.lvl0 || (!w.lvl1 && !(s.px p).pgen.level), b1 := w.lvl1 || (!w.lvl0 && (s.px p).pgen.level) }

/-- The yv input of a linked port for its latest tick at or before `t`, with its LOVR (R118). Step 2 of the linked port's tick at `t` has been
taken; its step 3 may still be to come, so that the slot order of the two ports does not matter. -/
def linkInput (s : State) (q : Nat) (t : Tick) : Int × Bool :=
  if (s.px q).loop.stepTwo = some t ∧ (s.px q).loop.edge ≠ t then
    let i := s.tickIn q t
    (i.yv, i.ovrV)
  else ((s.px q).loop.yv, (s.px q).loopY.lovrV)

/-- The link output (R118, R139): target, integrator, and whether the linked port was not enabled. -/
def linkTarget (s : State) (p q : Nat) (t : Tick) : Int × Int × Bool :=
  let l := (s.px p).loop
  let held := (s.rI (Pt.TARGET_ACTIVE p), l.z)
  let moving := match (s.px q).range.step with
    | some st => st.qv && decide (st.phase = 1 ∨ st.phase = 3)
    | none => false
  if !s.enabled q then (held.1, held.2, true)
  else if moving then (held.1, held.2, false)
  else
    let i := s.linkInput q t
    let yl := s.conv q (s.rangeV q) (s.px p).loopY.linkRef i.1
    let wl := s.liveI p (Pt.WLIM p)
    let z := if i.2 then l.z else satTo (l.z + mul40 yl (s.liveI p (Pt.LINK_KI p))) (-wl) wl
    (satTo (s.liveI p (Pt.LINK_OFFSET p) + mul40 yl (s.liveI p (Pt.LINK_KP p)) + z) (-wl) wl, z, false)

/-! ### AUTO (R141) -/

/-- One running tick of AUTO for a quantity: input, over-range, and the limit selected on it (0 none, 1 HI, 2 LO). DESIGN CHOICE (log entry 97): the
ticks since the last up step are counted as DOWN_TICKS counts, in running ticks under AUTO, and the counts are kept while AUTO does not act. -/
def autoTick (s : State) (p : Nat) (v : Bool) (y : Int) (ovr : Bool) (sel : Nat) : State :=
  if !s.autoActs p v then s
  else
    let r := (s.px p).range
    let x := s.inForce p v
    let b := if v then (0, s.topV p) else s.boundsI p
    let comp := decide (regV (s.slotOf p).mode ≠ v) && decide (sel ≠ 0)
    let clamped := comp && (if sel = 1 then (s.effHi p).2 else (s.effLo p).2)
    let ups := if s.liveI p (Pt.UP_TH p) < absI y then (if v then r.upV else r.upI) + 1 else 0
    let ago := (if v then r.upAgoV else r.upAgoI).map (· + 1)
    let code := fun n => if v then 8 + n else n
    let low := decide (0 < x) && decide (absI (s.conv p (code x) (code (x - 1)) y) < s.liveI p (Pt.DOWN_TH p)) && !comp
    let downs := if low then (if v then r.downV else r.downI) + 1 else 0
    let N := s.live p (Pt.DOWN_TICKS p)
    let up := decide (s.live p (Pt.UP_COUNT p) ≤ ups) || ovr || clamped
    let down := decide (0 < x) && decide (N ≤ downs) && (match ago with | some a => decide (N ≤ a) | none => true)
    let s := s.modRange p fun r => if v then { r with upV := ups, downV := downs, upAgoV := ago } else { r with upI := ups, downI := downs, upAgoI := ago }
    let seek := fun (n : Nat) (s : State) => (s.modRange p fun r => if v then { r with autoV := some n } else { r with autoI := some n }).rngEvent p
    if up then (if x < b.2 then seek (x + 1) s else s.setBit (Pt.RNG_STATUS p) RngStatus.RNG_LIMIT true)
    else if down then (if b.1 < x then seek (x - 1) s else s.setBit (Pt.RNG_STATUS p) RngStatus.RNG_LIMIT true)
    else s

/-! ### Records (R123, R403, R404) -/

/-- The status word of R123, with its DT. -/
def tickStatus (dt sel bank : Nat) (mixed lovr rang wsat fclip lm slew : Bool) (osel : Nat) : Nat :=
  dt % 2 ^ 20 * 2 ^ 20 + sel * 2 ^ 18 + bank * 2 ^ 17 + mixed.toNat * 2 ^ 16 + lovr.toNat * 2 ^ 15 + rang.toNat * 2 ^ 14 +
    wsat.toNat * 2 ^ 13 + fclip.toNat * 2 ^ 12 + lm.toNat * 2 ^ 11 + slew.toNat * 2 ^ 10 + osel * 2 ^ 8

/-- A loop record at the tick `t` (R123). DESIGN CHOICE (log entry 98): the header's COMPL comes from the compliance in force at the boundary of each
recorded tick. -/
def loopRecord (s : State) (p : Nat) (u : Int) (t : Tick) : State :=
  let n := s.live p (Pt.LOOP_REC_DIV p)
  let y := (s.px p).loopY
  if n = 0 ∨ s.portState p = 0 ∨ s.portState p = 3 then s
  else
    let s := s.modLoopY p fun y => { y with recCount := y.recCount + 1 }
    if y.recCount % n ≠ 0 then s
    else
      let s := if y.recBlock ≠ [] ∧ 2 ^ 20 ≤ (t - y.recStart) / 320 then s.closeLoop p else s
      let s := if (s.px p).loopY.recBlock = [] then
          s.modLoopY p fun y => { y with recStart := t, recRing := s.live p (Pt.LOOP_RING p), recIR := s.rangeI p, recVR := s.rN (Pt.VRNG_ACTIVE p) }
        else s
      let l := (s.px p).loop
      let st := l.status + (t - (s.px p).loopY.recStart) / 320 * 2 ^ 20
      let s := s.modLoopY p fun y => { y with
        recBlock := y.recBlock ++ [ofSigned 40 l.yv, ofSigned 40 l.yi, ofSigned 40 u, st],
        recCompl := y.recCompl || y.compl, recProv := y.recProv || !s.full, recWorn := y.recWorn || s.driveWorn p }
      if (s.px p).loopY.recBlock.length = 60 then s.closeLoop p else s

/-- LOOP_SNAPSHOT as words (R111). -/
def snapshot (s : State) (p : Nat) : List Nat := snapWords (s.px p).loop (s.rN (Pt.LM_R p)) (s.rN (Pt.LM_V0 p))

/-- Words as 5 bytes each, least significant byte first. -/
def wordBytes (ws : List Nat) : List Byte := ws.flatMap (leBytes 5)

/-- Write the check words of a port that wait for their record. -/
def lchkFlush (s : State) (p : Nat) : State :=
  let ws := Tab.get (fun _ => []) s.rcd.lchk p
  if ws = [] then s
  else
    let at_ := Tab.get (fun _ => 0) s.rcd.lchkAt p
    let s := { s with rcd := { s.rcd with lchk := s.rcd.lchk.erase p } }
    s.journal 2 9 p at_ ws

/-- The check word of a tick, and a SNAP where one is due (R404). -/
def jTick (s : State) (p : Nat) (u : Int) (t : Tick) : State :=
  if !s.j2On p then s
  else
    let d := (codeOf (s.rN (Pt.SPAN_ACTIVE p)) u).1
    let w := d * 2 ^ 16 + crc16 0xFFFF (wordBytes (s.snapshot p))
    let ws := Tab.get (fun _ => []) s.rcd.lchk p
    let s := if ws = [] then { s with rcd := { s.rcd with lchkAt := Tab.set (fun _ => 0) s.rcd.lchkAt p t } } else s
    let s := { s with rcd := { s.rcd with lchk := Tab.set (fun _ => []) s.rcd.lchk p (ws ++ [w]) } }
    let s := if ws.length + 1 = 61 then s.lchkFlush p else s
    if Tab.get (fun _ => false) s.rcd.snapDue p then
      { s.journal 2 10 p t (s.snapshot p) with rcd := { (s.journal 2 10 p t (s.snapshot p)).rcd with snapDue := Tab.set (fun _ => false) s.rcd.snapDue p false } }
    else s

/-! ### The update (R113, R117, R121, R122) -/

/-- The loop holds at this tick (R122, R133). -/
def tickHolds (s : State) (p : Nat) (i : TickIn) : Bool := !s.portOn p || s.rampHold p || s.tripped p || i.hold

/-- What entry into PV or PI and a change of the regulated quantity do to the state, before the target is formed (R117, R122). -/
def trackEntry (s : State) (p : Nat) (yv yi : Int) : State :=
  let c := s.loopCfg p
  let y := (s.px p).loopY
  let s := if y.lastMode < 3 ∧ 3 ≤ c.mode then s.modLoop p fun l => { l with r1 := l.r0, x1 := l.x0, w1 := l.w0, u1 := l.u0, sel1 := l.sel0 } else s
  if regV y.lastMode ≠ regV c.mode then
    s.modLoop p fun l => { l with r0 := if regV c.mode then yv else yi, r1 := if regV c.mode then yv else yi }
  else s

/-- Configuration changed, or the loop resumes warm: every integrator of both banks is tracked, with the feed-forward and the errors of
this tick, so that its controller's output equals the command (R117, R122). Outside PV and PI only bank 0 exists (R113). -/
def trackNow (s : State) (p bank : Nat) (T yv yi : Int) : State :=
  let c := s.loopCfg p
  let y := (s.px p).loopY
  let key := s.trackKey p
  let s := if y.warm ∨ y.lastCfg ≠ key then
      s.modLoop p fun l =>
        let r0 := if bank = 0 then sat40 (slewTarget c.step l.r0 T) else l.r0
        let r1 := if bank = 1 then sat40 (slewTarget c.step l.r1 T) else l.r1
        { l with x0 := trackBank c r0 l.w0 yv yi, x1 := if 3 ≤ c.mode then trackBank c r1 l.w1 yv yi else l.x1 }
    else s
  s.modLoopY p fun y => { y with warm := false, lastMode := c.mode, lastCfg := key }

/-- The target T of the tick's bank, with the link's integrator (R113, R118). -/
def tickTarget (s : State) (p bank : Nat) (t : Tick) : Int × State :=
  let q := s.live p (Pt.LINK_PORT p)
  if (s.slotOf p).mode = 0 then (0, s)
  else if q < 128 then
    let k := s.linkTarget p q t
    (k.1, ((s.modLoop p fun l => { l with z := k.2.1 }).when k.2.2 fun s => s.setBit (Pt.LOOP_STATUS p) LoopStatus.LINK_BAD true))
  else ((s.effTarget p bank).1, s)

/-- LOOP_STATUS of a tick (R125). -/
def tickFlags (s : State) (p sel bank : Nat) (slew wsat lovr : Bool) : State :=
  let s := (s.setFld (Pt.LOOP_STATUS p) LoopStatus.SEL 2 sel).setBits (Pt.LOOP_STATUS p)
    [(LoopStatus.BANK, decide (bank = 1)), (LoopStatus.SLEWING, slew)]
  let s := s.when wsat fun s => s.setBit (Pt.LOOP_STATUS p) LoopStatus.WSAT true
  s.when lovr fun s => s.setBit (Pt.LOOP_STATUS p) LoopStatus.LOVR true

/-- The next input window opens (R107 step 1). -/
def windowNext (s : State) (p : Nat) (t : Tick) : State :=
  s.modLoop p fun l => { l with cur := l.nxt, nxt := {}, nextTick := (t / s.period p + 1) * s.period p, edge := t, fed := decide (l.cur.n ≠ 0) }

/-- Steps 1 and 3 of tick `t` (R107): the inputs, the update, its records, and the outputs on their way (steps 4 and 5). A hold makes
the next running tick resume warm (R122, R138). DESIGN CHOICE (log entry 99): a MIXED tick, whose bank is none, records BANK 0 and u[0]. -/
def tickRun (s : State) (p : Nat) (t : Tick) : State :=
  let i := s.tickIn p t
  let lovr := i.ovrV || i.ovrI
  let pls := s.pulsed p
  let mixed := pls && i.b0 && i.b1
  let bank := if pls && i.b1 && !i.b0 then 1 else 0
  let s := s.modLoop p fun l => { l with yv := i.yv, yi := i.yi }
  let s := s.modLoopY p fun y => { y with lovrV := i.ovrV, lovrI := i.ovrI, rngHeld := i.hold, warm := y.warm || s.tickHolds p i }
  let running := !s.tickHolds p i
  let ran := running && !mixed
  let spl := s.rN (Pt.SPAN_ACTIVE p)
  let (sel, slew, wsat, T, s) :=
    if ran then
      let s := s.trackEntry p i.yv i.yi
      let tt := s.tickTarget p bank t
      let T := tt.1
      let s := tt.2.trackNow p bank T i.yv i.yi
      let c := s.loopCfg p
      let l := (s.px p).loop
      let o := if bank = 1 then bankUpdate c l.r1 l.x1 T i.yv i.yi else bankUpdate c l.r0 l.x0 T i.yv i.yi
      let s := s.modLoop p fun l =>
        if bank = 1 then { l with r1 := o.r, x1 := o.x, w1 := o.w, u1 := o.u, sel1 := o.sel }
        else { l with r0 := o.r, x0 := o.x, w0 := o.w, u0 := o.u, sel0 := o.sel }
      let s := (s.setI (Pt.TARGET_ACTIVE p) T).setI (Pt.R_ACTIVE p) o.r
      (o.sel, decide (o.r ≠ T), o.wsat, T, s)
    else (3, s.bit (Pt.LOOP_STATUS p) LoopStatus.SLEWING, false, s.rI (Pt.TARGET_ACTIVE p), s)
  let l := (s.px p).loop
  let u := if bank = 1 then l.u1 else l.u0
  let osel := if pls then (if bank = 1 then l.sel0 else l.sel1) else 0
  let s := s.modLoop p fun l => { l with
    status := tickStatus 0 sel bank mixed lovr i.rang wsat (codeOf spl u).2 false slew osel, lastTick := t }
  let s := s.tickFlags p sel bank slew wsat (lovr && s.enabled p)
  let s := s.modLoopY p fun y => { y with tickDone := ran && !lovr && !i.rang }
  let s := if ran then (s.autoTick p false i.yi i.ovrI sel).autoTick p true i.yv i.ovrV sel else s
  let s := (s.loopRecord p u t).jTick p u t
  let s := s.seqTick p running slew sel T t
  let s := if ran then s.later (t + 400) (.loopWrite p l.u0 l.u1) else s
  let s := if s.portOn p then s.later (t + 416) (.tickStrike p l.sel0 l.sel1) else s
  ((s.windowNext p t).syncSought p).syncLoopStatus p

/-- A tick boundary while the loop does not run: only its inputs go on, which the next cold start takes (R121). -/
def tickIdle (s : State) (p : Nat) (t : Tick) : State :=
  let i := s.tickIn p t
  ((s.modLoop p fun l => { l with yv := i.yv, yi := i.yi }).modLoopY p fun y => { y with lovrV := i.ovrV, lovrI := i.ovrI }).windowNext p t

/-- A tick of an enabled port. In the disable sequence the loop has stopped (R122). -/
def tickUpdate (s : State) (p : Nat) (t : Tick) : State := if s.portState p = 3 then s.tickIdle p t else s.tickRun p t

/-! ### LM_VISIT (R106, R119) -/

/-- Ports of a pipeline that the estimator visits: LM_EN 1 and a closed loop, ascending. -/
def visitPorts (s : State) (k : Nat) : List Nat :=
  ((List.range 32).map (· + 32 * k)).filter fun p => decide (s.live p (Pt.LM_EN p) = 1) && s.loopClosed p

/-- The next port of the round robin, at or after `lo`. -/
def nextVisit (l : List Nat) (lo : Nat) : Option Nat :=
  match l.find? (fun p => decide (lo ≤ p)) with
  | some p => some p
  | none => l.head?

end State
end Sys2Proof.Machine
end

