-- ==== Sys2Proof/Machine/Nv.lean ====
section
/-!
DEFINITION. The non-volatile store: slot pairs (R310, R311), what each record holds, the configuration image (R352), and
commits, one at a time in the order in which they are requested.
-/

namespace Sys2Proof.Machine

/-- Write a new record: into an invalid slot, or over the older SEQ; its SEQ is the higher one plus 1 (R310). -/
def NvPair.write (p : NvPair) (d : Stored) : NvPair :=
  let n : NvSlot := { seq := match p.best with | some w => w.seq + 1 | none => 1, data := d }
  match p.a, p.b with
  | none, _ => { p with a := some n }
  | _, none => { p with b := some n }
  | some x, some y => if x.seq < y.seq then { p with a := some n } else { p with b := some n }

/-- Pair of a group record, of the reference record, of the device record, and of the configuration image. -/
def pairGroup (g : Nat) : Nat := 144 + g
def pairRef : Nat := 160
def pairDevice : Nat := 161
def pairImage : Nat := 162

/-- Entries of a slice record (R311, R318, R334). -/
def sliceKeys (i : Nat) : List Nat :=
  [Sl.GAIN_SEL i, Sl.OFFSET_SEL i, Sl.U_OFF_RES_V i, Sl.U_GAIN_RES_V i, Sl.U_OFF_RES_I i, Sl.U_GAIN_RES_I i, Sl.CAL_COUNT i,
   Sl.CAL_LAST_TIME i, Sl.CAL_TEMP i, Sl.HEALTH_STATE i, Sl.STRESS_H i, Sl.ELEM_MOVED i, Sl.DRIFT_GAIN_V i, Sl.DRIFT_GAIN_I i,
   Sl.DRIFT_OFF_V i, Sl.DRIFT_OFF_I i, Sl.DRIFT_DAC i, Sl.RO_DRIFT i, Sl.CMP_LEAK i, Sl.WORN_CAUSE i, Sl.WORN_TIME i,
   Sl.TC_OFF_V i, Sl.TC_GAIN_V i, Sl.TC_OFF_I i, Sl.TC_GAIN_I i, Sl.TC_DAC i]

def groupKeys (g : Nat) : List Nat := [Gr.CAL_COUNT g, Gr.CAL_LAST_TIME g, Gr.CAL_LAST_TEMP g, Gr.ROT_LAST_START g]

def refKeys : List Nat := [Ca.REF_0_DEV, Ca.REF_1_DEV, Ca.REF_TRANSFER_COUNT, Ca.REF_TRANSFER_LAST, Ca.REF_CELLS, Ca.REFX_UNC]

/-- Entries of the device record: EPOCH, the boot counts, and the Garnet substitutions (R311). -/
def deviceKeys : List Nat :=
  [Tb.EPOCH, Pw.BOOT_COUNT, Fw.BOOT_FAILS, Ag.GARNET_FREE, Ag.CORE_MAP, Mc.MC_ACTIVE, Fb.SPARE_FREE] ++
    (List.range 16).map (fun g => Gr.RELIEF_MODE g)

/-- Owners and security attributes (R344). -/
def isOwnerKey (k : Nat) : Bool :=
  match recOf (k / 256) with
  | none => false
  | some (r, _) =>
    let sub := k % 256
    match r with
    | .gr => decide (sub = 1 ∨ sub = 2) | .pt => decide (sub = 1 ∨ sub = 2)
    | .ch => decide (sub = 1 ∨ sub = 2) | .rg => decide (sub = 1 ∨ sub = 2) | .rn => decide (sub = 1 ∨ sub = 2)
    | .dv => decide (sub = 1 ∨ sub = 2) | .cx => decide (sub = 0x21 ∨ sub = 0x22) | .ls => decide (sub = 0x0C ∨ sub = 0x0D)
    | .ec => decide (sub = 1) | .dl => decide (sub = 1) | .tm => decide (sub = 1)
    | .ev => decide (0x20 ≤ sub ∧ sub < 0x30)
    | _ => false

/-- The configuration image holds the entry: every RW and RWC entry, but those that R352 leaves out. -/
def inImage (k : Nat) : Bool :=
  isOwnerKey k ||
    (match odRow k with
     | none => false
     | some r =>
       (decide (r.acc = .rw) || decide (r.acc = .rwc)) && (match r.lim with | .w1c _ => false | _ => true) &&
         !(match recOf (k / 256) with
           | some (.cx, n) => decide (k = Cx.RUN_STATE n)
           | some (.rn, n) => decide (k = Rn.CONS_HOST n)
           | some (.pt, n) => decide (k = Pt.SEQ_HOLD n)
           | some (.tb, _) => decide (k = Tb.TAI_SET)
           | _ => false))

/-- State and CRC of a sweep list, which survive with its points (R176). -/
def listMark (k : Nat) : Bool :=
  match recOf (k / 256) with
  | some (.ls, n) => decide (k = Ls.LIST_STATE n ∨ k = Ls.LIST_CRC n)
  | _ => false

namespace State

def nvPair (s : State) (j : Nat) : NvPair := Tab.get (fun _ => {}) s.nv.pairs j

def setNvPair (s : State) (j : Nat) (p : NvPair) : State := { s with nv := { s.nv with pairs := Tab.set (fun _ => {}) s.nv.pairs j p } }

/-! The device record holds the permanent bank map: a borrow under way is not part of it (R258, R261). -/

/-- BANK_MAP and SPARE_FREE as they stand without the running borrow. -/
def permBanks (s : State) : List Byte × Nat :=
  let m := s.bytesOf Fb.BANK_MAP
  let b := s.rN Fb.BT_BANK
  let k := s.rN Fb.BT_SPARE
  if b < 64 ∧ 64 ≤ k ∧ k < 68 then (m.set b (BitVec.ofNat 8 s.mem.btOrig), putBit (s.rN Fb.SPARE_FREE) (k - 64) true)
  else (m, s.rN Fb.SPARE_FREE)

/-- The words of the points of a list, 5 bytes each (R182). -/
def pointBytes (s : State) (l : Nat) : List Byte :=
  let a := slotAddr (s.rN (Ls.FIRST_SLOT l))
  (List.range (8 * s.rN (Ls.COUNT l))).flatMap fun k => leBytes 5 (s.spadAt (a + k)).toNat

/-- Lists that have points. -/
def listsHeld (s : State) : List Nat :=
  s.regs.filterMap fun e => match recOf (e.1 / 256) with
    | some (.ls, n) => if e.1 = Ls.COUNT n then some n else none
    | _ => none

/-- The payload of the record of a pair, from the values in force. -/
def recordOf (s : State) (j : Nat) : Stored :=
  let of_ := fun (l : List Nat) => l.map fun k => (k, s.rN k)
  if j < 144 then { regs := of_ (sliceKeys j), blobs := [(Sl.SEG_MAP j, s.blob (Sl.SEG_MAP j)), (Sl.DAC_INL j, s.blob (Sl.DAC_INL j))],
                    health := some (s.sx j).health }
  else if j < 160 then { regs := of_ (groupKeys (j - 144)) }
  else if j = pairRef then { regs := (of_ refKeys).map (fun e => if e.1 = Ca.REF_CELLS then (e.1, e.2 % 16) else e), xferVar := s.cal.xferVar }
  else if j = pairDevice then
    { regs := (of_ deviceKeys).map (fun e => if e.1 = Fb.SPARE_FREE then (e.1, s.permBanks.2) else e),
      blobs := [(Ag.GARNET_LOG, s.blob Ag.GARNET_LOG), (Fb.BANK_MAP, s.permBanks.1)] }
  else { regs := (s.regs.filter (fun e => inImage e.1 || listMark e.1)).map (fun e => (e.1, e.2.toNat)),
         blobs := (s.blobs.filter (fun e => inImage e.1)) ++ s.listsHeld.map (fun l => (Ls.POINTS l, s.pointBytes l)),
         blockSec := s.sec.blockSec }

/-- Put a byte string into force: the points of a list go to their slots (R182), after its header. -/
def putBlob (s : State) (key : Nat) (b : List Byte) : State :=
  match recOf (key / 256) with
  | some (.ls, l) =>
    if key = Ls.POINTS l then s.spadPutAll (slotAddr (s.rN (Ls.FIRST_SLOT l))) (words5 (b.length / 5) b) else s.setBlob key b
  | _ => s.setBlob key b

/-- Put a payload into force. -/
def loadRecord (s : State) (j : Nat) (d : Stored) : State :=
  let s := d.regs.foldl (fun s e => s.set e.1 e.2) s
  let s := d.blobs.foldl (fun s e => s.putBlob e.1 e.2) s
  let s := match d.health with | some h => s.modSx j fun x => { x with health := h } | none => s
  let s := if j = pairRef then { s with cal := { s.cal with xferVar := d.xferVar } } else s
  if j = pairImage then { s with sec := { s.sec with blockSec := d.blockSec } } else s

/-- Load the record in force of a pair; an absent record leaves the values as they are (R310, R351). -/
def loadPair (s : State) (j : Nat) : State := match (s.nvPair j).best with | some w => s.loadRecord j w.data | none => s

/-- VDD_CORE, VDD_SRAM or VDD_IO is faulted (R437). -/
def coreSupplyBad (s : State) : Bool := decide (s.mc.supBad &&& 0x23 ≠ 0)

/-- The first commit of the queue begins, unless one runs or a power-fail warning keeps it (R440). The values of the
configuration image are those in force now (R352). -/
def commitKick (s : State) : State :=
  if s.nv.started || s.pwr.pfwLow || s.coreSupplyBad then s
  else match s.nv.cmds with
    | [] => s
    | c :: r =>
      let c := if c.job = .image then { c with data := s.recordOf pairImage } else c
      let s := { s with nv := { s.nv with cmds := c :: r, started := true } }
      s.when (decide (c.job = .image)) fun s => (s.set Dv.CFG_STATE 2).setBit Dv.OD_STATUS OdStatus.SAVE_PENDING false

end State
end Sys2Proof.Machine
end

