-- ==== Sys2Proof/Machine/CalCore.lean ====
section
/-!
DEFINITION. Calibration (R288-R313): slice runs, reference transfers, rotations with their agreement tests and force transfers,
the calibration windows of a group without a relief slice (R327, R328), and the substitution of a slice (R37, R38).
-/

namespace Sys2Proof.Machine

/-- A network's selection after a measured error (R296): the step nearest the correction. Units of 0.001 ppm. -/
def newSel (old : Nat) (err step : Int) : Int := (old : Int) - (2 * err + step) / (2 * step)

/-- Signed 16-bit number of two bytes of a string. -/
def int16At (b : List Byte) (n : Nat) : Int := toSigned 16 (leNat ((b.drop (2 * n)).take 2))

/-- Bits in which two byte strings differ. -/
def bitsDiffer (a b : List Byte) : Nat :=
  (List.range (max a.length b.length)).foldl (fun n k =>
    let x := (a.getD k 0#8 ^^^ b.getD k 0#8).toNat
    n + ((List.range 8).filter (fun i => x.testBit i)).length) 0

/-- Kinds of a Garnet substitution. -/
abbrev Gk.relief : Nat := 0
abbrev Gk.bank : Nat := 1
abbrev Gk.ref : Nat := 2
abbrev Gk.mc : Nat := 3
abbrev Gk.core : Nat := 4
abbrev Gk.pll : Nat := 5

namespace State

/-! ### The Garnet reserve (R329) -/

/-- RESERVE_LOW: no spare of some kind remains free. -/
def reserveLow (s : State) : Bool :=
  let f := s.rN Ag.GARNET_FREE
  decide (field f 0 4 = 0 ∨ field f 4 2 = 0 ∨ field f 6 1 = 0 ∨ field f 7 1 = 0 ∨ field f 8 1 = 0 ∨ field f 16 16 = 0)

/-- A substitution: the spare leaves GARNET_FREE, GARNET_LOG takes an entry of 16 bytes (kind, instance, replaced instance, TIME_NS)
and the device record is committed. -/
def garnet (s : State) (bit kind inst repl : Nat) (t : Tick) : State :=
  let s := s.setBit Ag.GARNET_FREE bit false
  let e := leBytes 1 kind ++ leBytes 1 inst ++ leBytes 2 repl ++ leBytes 4 0 ++ leBytes 8 (s.timeNs t)
  let l := s.blob Ag.GARNET_LOG ++ e
  let s := s.setBlob Ag.GARNET_LOG (l.drop (l.length - 1024))
  let s := (s.setBit Ag.AGE_STATUS AgeStatus.SUBSTITUTED true).setBit Ag.AGE_STATUS AgeStatus.RESERVE_LOW s.reserveLow
  s.requestCommit pairDevice .device

/-! ### Slice runs (R298-R300) -/

/-- Ticks of `k` readings of `npc` power-line cycles at CAL_LINE, rounded up. -/
def readTicks (s : State) (npc k : Nat) : Nat :=
  if s.rN Ca.CAL_LINE = 0 then k * npc * 12800000 else (k * npc * 32000000 + 2) / 3

/-- Duration of a step of a run. -/
def runTicks (s : State) (npc step : Nat) : Nat :=
  match step with
  | 1 => 640000 | 2 => s.readTicks npc 4 | 3 => s.readTicks npc 8 | 4 => 1056 * 2048 * 625 | 5 => s.readTicks npc 16
  | 6 => 6400 | 7 => s.readTicks npc 12 | _ => 0

/-- Ticks of one reading of a step: of CAL_NPLC cycles, or of 2,048 base words (R298). -/
def readingTicks (s : State) (r : CalRun) : Nat := if r.step = 4 then 2048 * 625 else s.readTicks r.npc 1

/-- Readings of the step in which a base word carries NBR_DISTURB: a slice in CAL is disturbed by every port of its group (R91, R299). -/
def runDisturbed (s : State) (g : Nat) (r : CalRun) : Nat :=
  let n := s.readingTicks r
  let l := (List.range 8).flatMap fun k => (s.px (8 * g + k)).meas.ovrV ++ (s.px (8 * g + k)).meas.ovrI
  if l = [] ∨ r.step = 1 ∨ r.step = 6 then 0
  else ((List.range ((r.due - r.from_) / n)).filter fun k => l.any fun o => o.touches 16000 (baseAt (r.from_ + k * n)) (n / 625)).length

def mcFail (s : State) : Bool := s.bit Mc.MC_STATUS McStatus.MC_FAIL
def refSplit (s : State) : Bool := s.bit Ca.REF_CELLS 7

/-- The active cells, lowest first. -/
def activeCells (s : State) : List Nat := (List.range 4).filter fun k => s.bit Ca.REF_CELLS k

/-- A cell is retired and its replacement is not yet active (R332, R333). -/
def cellMissing (s : State) : Bool := decide (s.activeCells.length < 2) && !s.bit Ag.AGE_STATUS AgeStatus.REF_SINGLE

/-- Why no slice run may start, as a result code (R295, R307, R333). -/
def runBlocked (s : State) : Option Nat :=
  if s.mcFail then some 1
  else if s.refSplit || s.bit Ag.AGE_STATUS AgeStatus.REF_UNRESOLVED || s.cal.cellWant.isSome || s.cellMissing then some 5
  else match s.cal.xfer with
    | some x => if x.cell.isSome then some 5 else none
    | none => none

/-- Start a run of slice `i`, which is in CAL; the flag says that it started. -/
def runStart (s : State) (g i purpose role npc : Nat) (t : Tick) : State × Bool :=
  match s.runBlocked with
  | some c => (s.set (Sl.CAL_RESULT i) c, false)
  | none =>
    let r : CalRun := { slice := i, step := 1, due := t + 640000, npc := npc, purpose := purpose, role := role,
                        temp0 := s.rN (Sl.SLICE_TEMP i), gainSel := s.rN (Sl.GAIN_SEL i), offSel := s.rN (Sl.OFFSET_SEL i),
                        segMap := s.blob (Sl.SEG_MAP i) }
    ((s.modRot g fun x => { x with run := some r }).set (Sl.CAL_STEP i) 1, true)

/-- Abort the run of a group with a result code (R299): the previous selections stand. -/
def runAbort (s : State) (g code : Nat) : State :=
  match (s.rot g).run with
  | none => s
  | some r =>
    let i := r.slice
    let s := s.modRot g fun x => { x with run := none }
    let s := ((s.set (Sl.CAL_RESULT i) code).set (Sl.CAL_STEP i) 0).satInc (Sl.CAL_FAIL_COUNT i) 32 1
    let s := s.when (decide (code = 6)) fun s => s.setBit (Gr.ROT_STATUS g) RotStatus.PREEMPT true
    let n := if code = 2 then (s.sx i).health.drifts + 1 else 0
    s.modSx i fun x => { x with
      health := { x.health with drifts := n },
      wornWant := x.wornWant ||| (if code = 4 then 4 else 0) ||| (if 3 ≤ n then 16 else 0) }

/-- The new selections of the twelve networks (R296), or none where one lies outside 0-255. -/
def newSels (r : CalRun) : Option (Nat × Nat) :=
  let g := fun (n : Nat) (e : Int) => newSel (field r.gainSel (8 * n) 8) e 200
  let o := fun (n : Nat) (e : Int) => newSel (field r.offSel (8 * n) 8) e 100
  let gs := [g 0 r.read.gainV, g 1 r.read.gainI] ++ (List.range 4).map (fun k => g (2 + k) (r.read.dacGain.getD k 0))
  let os := [o 0 r.read.offV, o 1 r.read.offI] ++ (List.range 4).map (fun k => o (2 + k) (r.read.dacOff.getD k 0))
  if (gs ++ os).all (fun n => decide (0 ≤ n ∧ n ≤ 255)) then
    some (leNat (gs.map (fun n => BitVec.ofNat 8 n.toNat)), leNat (os.map (fun n => BitVec.ofNat 8 n.toNat)))
  else none

/-- The residual terms of R297 in ppm, from 0.001 ppm. -/
def residual (r : Int) (u : Nat) : Nat :=
  toF32 (match sqrtFl 53 ((r * r : Int) + (u * u : Nat) : Rat) with | .fin q => .fin (q / 1000) | f => f)

/-- The result of a step's readings: an abort code, or the run with what it has learnt. -/
def runRead (s : State) (g : Nat) (r : CalRun) (d : CalData) : Except Nat CalRun :=
  let tol := s.rQ Ca.REF_AGREE_TOL * 1000
  let dT := absR (s.rQ (Sl.SLICE_TEMP r.slice) - ratF32 r.temp0)
  let r := { r with discarded := r.discarded + s.runDisturbed g r + d.discarded }
  let split := !s.bit Ag.AGE_STATUS AgeStatus.REF_SINGLE && decide (tol < (absI d.ratio : Rat))
  if s.groupState g ≠ 0 ∧ r.purpose ≠ 1 then .error 6
  else if 16 < r.discarded then .error 3
  else if s.rQ Ca.CAL_DT_RUN < dT then .error 2
  else match r.step with
    | 2 => .ok { r with read := { r.read with offV := d.offV, offI := d.offI, leak := d.leak } }
    | 3 => if split then .error 5 else .ok { r with read := { r.read with gainV := d.gainV, gainI := d.gainI } }
    | 4 => .ok { r with segMap := d.segMap }
    | 5 =>
      let r := { r with read := { r.read with dacOff := d.dacOff, dacGain := d.dacGain } }
      (match newSels r with
       | some n => .ok { r with gainSel := n.1, offSel := n.2 }
       | none => .error 4)
    | 7 =>
      if split then .error 5
      else if 200 < absI d.gainV ∨ 200 < absI d.gainI ∨ 100 < absI d.offV ∨ 100 < absI d.offI then .error 2
      else .ok { r with ver := d, temp7 := s.rN (Sl.SLICE_TEMP r.slice) }
    | _ => .ok r

/-! #### What a committed run changes (R300, R318) -/

/-- Least-squares slope of values against temperatures (R318), in ppm per kelvin; the values are in 0.001 ppm. -/
def slope (ts : List Rat) (vs : List Int) : Rat :=
  let n : Rat := (ts.length : Nat)
  let sx := ts.foldl (· + ·) 0
  let sy : Rat := (vs.foldl (· + ·) 0 : Int)
  let sxx := (ts.map fun x => x * x).foldl (· + ·) 0
  let sxy := ((ts.zip vs).map fun e => e.1 * (e.2 : Rat)).foldl (· + ·) 0
  let d := n * sxx - sx * sx
  if d = 0 then 0 else (n * sxy - sx * sy) / d / 1000

/-- Temperature coefficients over the last 16 committed runs, once they span 2 K; until then they stand (R318). -/
def tempCoefs (s : State) (i : Nat) : State :=
  let h := (s.sx i).health.hist
  let ts := h.map fun c => ratF32 c.temp
  let hi := ts.foldl max (ts.headD 0)
  let lo := ts.foldl min (ts.headD 0)
  if h.length < 16 ∨ hi - lo < 2 then s
  else
    let dac := (List.range 4).map fun k => slope ts (h.map fun c => c.dac.getD k 0)
    let big := dac.foldl (fun a b => if absR a < absR b then b else a) 0
    ((((s.setQ (Sl.TC_OFF_V i) (slope ts (h.map (·.offV)))).setQ (Sl.TC_GAIN_V i) (slope ts (h.map (·.gainV)))).setQ (Sl.TC_OFF_I i)
      (slope ts (h.map (·.offI)))).setQ (Sl.TC_GAIN_I i) (slope ts (h.map (·.gainI)))).setQ (Sl.TC_DAC i) big

/-- Drift of a network since the baseline, in units of 0.001 ppm. -/
def driftOf (now base n : Nat) (step : Int) : Int := ((field now (8 * n) 8 : Int) - field base (8 * n) 8) * step

/-- A run's results are in force, at the commit `t`. -/
def runApply (s : State) (r : CalRun) (t : Tick) : State :=
  let i := r.slice
  let v := r.ver
  let oldG := s.rN (Sl.GAIN_SEL i)
  let oldO := s.rN (Sl.OFFSET_SEL i)
  let moved := (List.range 6).foldl (fun n k =>
    n + (absI (driftOf r.gainSel oldG k 1)).toNat + (absI (driftOf r.offSel oldO k 1)).toNat) 0 + bitsDiffer (s.blob (Sl.SEG_MAP i)) r.segMap
  let s := ((s.derived (Sl.GAIN_SEL i) r.gainSel).derived (Sl.OFFSET_SEL i) r.offSel).derivedBytes (Sl.SEG_MAP i) r.segMap
  let s := s.when (decide (v.inl ≠ [])) fun s => s.setBlob (Sl.DAC_INL i) v.inl
  let s := (((s.set (Sl.U_OFF_RES_V i) (residual v.offV v.umOffV)).set (Sl.U_GAIN_RES_V i) (residual v.gainV v.umGainV)).set
    (Sl.U_OFF_RES_I i) (residual v.offI v.umOffI)).set (Sl.U_GAIN_RES_I i) (residual v.gainI v.umGainI)
  let s := ((s.satInc (Sl.CAL_COUNT i) 32 1).set (Sl.CAL_LAST_TIME i) (s.timeNs t)).set (Sl.CAL_TEMP i) r.temp7
  let s := ((s.set (Sl.CAL_RESULT i) 0).set (Sl.CAL_STEP i) 0).satInc (Sl.ELEM_MOVED i) 32 moved
  let h := (s.sx i).health
  let dr := fun (n : Nat) => driftOf r.gainSel h.baseGain n 200
  let ofs := fun (n : Nat) => driftOf r.offSel h.baseOff n 100
  let milli := fun (k : Nat) (m : Int) (s : State) => s.setQ k (mkRat m 1000)
  let s := if h.hasBase then
      let big := ((List.range 4).map fun k => absI (dr (2 + k))).foldl max 0
      milli (Sl.DRIFT_DAC i) big (milli (Sl.DRIFT_OFF_I i) (ofs 1) (milli (Sl.DRIFT_OFF_V i) (ofs 0)
        (milli (Sl.DRIFT_GAIN_I i) (dr 1) (milli (Sl.DRIFT_GAIN_V i) (dr 0) s))))
    else s
  let s := s.setQ (Sl.CMP_LEAK i) (mkRat r.read.leak 1000)
  let pt : CalPoint := { temp := r.temp7, offV := driftOf r.offSel 0 0 100 + v.offV, gainV := driftOf r.gainSel 0 0 200 + v.gainV,
                         offI := driftOf r.offSel 0 1 100 + v.offI, gainI := driftOf r.gainSel 0 1 200 + v.gainI,
                         dac := (List.range 4).map fun k => driftOf r.gainSel 0 (2 + k) 200 + v.dacGain.getD k 0 }
  let near := (List.range 6).any fun k =>
    let e := fun (w : Nat) => let n := field w (8 * k) 8; decide (n ≤ 8 ∨ 247 ≤ n)
    e r.gainSel || e r.offSel
  let s := s.modSx i fun x => { x with
    health := { x.health with drifts := 0, dacOff := v.dacOff, dacGain := v.dacGain,
                              hist := (x.health.hist ++ [pt]).drop (x.health.hist.length + 1 - 16) },
    wornWant := x.wornWant ||| (if near then 2 else 0) }
  s.tempCoefs i

/-! ### The relief slice and substitutions (R37, R38) -/

/-- The relief slice leaves its port for the calibration bus. -/
def reliefFree (s : State) (g : Nat) : State :=
  let x := reliefSlice g
  let s := if s.roleOf x = 1 ∨ s.roleOf x = 3 then s.setRole x 2 0xFF else s
  s.set (Gr.RELIEF_PORT g) 0xFF

/-- The home slice of the privileged port is RETIRED and the relief slice keeps the port (R37). -/
def substDone (s : State) (g : Nat) (t : Tick) : State :=
  let k := s.rN (Gr.PRIV_PORT g)
  let h := 9 * g + k
  let s := (s.setRole h 4 0xFF).set (Sl.HEALTH_STATE h) 3
  let s := (s.setRole (reliefSlice g) 0 (8 * g + k)).set (Pt.DRIVE_SLICE (8 * g + k)) (reliefSlice g)
  let s := ((s.set (Gr.RELIEF_MODE g) 1).set (Gr.RELIEF_PORT g) k).modRot g fun r => { r with substWant := false, subst := false }
  (s.garnet (16 + g) Gk.relief g h t).syncPort (8 * g + k)

/-- The relief slice is RETIRED and RELIEF_MODE becomes OUT (R38). -/
def reliefOut (s : State) (g : Nat) : State :=
  let x := reliefSlice g
  let s := (s.reliefFree g).setRole x 4 0xFF
  let s := ((s.set (Sl.HEALTH_STATE x) 3).set (Gr.RELIEF_MODE g) 2).modRot g fun r => { r with retireWant := false }
  ((s.setBit Ag.GARNET_FREE (16 + g) false).setBit Ag.AGE_STATUS AgeStatus.RESERVE_LOW s.reserveLow).requestCommit pairDevice .device

/-! ### Rotations (R301-R309) -/

def rotBit (s : State) (g b : Nat) (v : Bool) : State := s.setBit (Gr.ROT_STATUS g) b v

/-- ROT_STATE, ROT_PORT and ROT_STEP. -/
def syncRot (s : State) (g : Nat) : State :=
  let r := s.rot g
  ((s.set (Gr.ROT_STATE g) r.st).set (Gr.ROT_PORT g) (if r.st = 2 then localOf r.port else 0xFF)).set (Gr.ROT_STEP g)
    (if r.st = 2 then r.step else 0)

/-- The ports of a quiesced group receive their disable commands (R22). -/
def quiescePorts (s : State) (g : Nat) (t : Tick) : State :=
  let s := (List.range 8).foldl (fun s k =>
    let p := 8 * g + k
    if s.portState p = 1 ∨ s.portState p = 2 then s.gcPush { port := p, op := .quiesce, since := t } else s) s
  s.enterConfig g t

/-- The rotation of a group ends; with `commit` the group record is committed (R301). A quiesce that waited goes on (R23). -/
def rotEnd (s : State) (g : Nat) (commit : Bool) (t : Tick) : State :=
  let held := (s.rot g).quiesceHeld
  let s := if s.rN (Gr.RELIEF_MODE g) = 0 then s.reliefFree g else s
  let s := s.modRot g fun r => { substWant := r.substWant, retireWant := r.retireWant, must := r.must }
  let s := ((s.rotBit g RotStatus.ROT_BUSY false).rotBit g RotStatus.ROT_WAIT false).syncRot g
  let s := (s.set (Gr.WIN_STATE g) 0).set (Gr.WIN_PORT g) 0xFF
  let s := if commit then s.requestCommit (pairGroup g) (.group g) else s
  let s := s.later t (.rot g)
  if held then s.quiescePorts g t else s

/-- A calibration window of a port is announced (R327 step 1). -/
def winAnnounce (s : State) (g k : Nat) (t : Tick) : State :=
  let n := s.rN (Gr.WIN_NOTICE g)
  let s := ((s.set (Gr.WIN_NEXT g) ((s.timeNs t + n * 1000000000) % 2 ^ 64)).set (Gr.WIN_PORT g) k).set (Gr.WIN_STATE g) 1
  s.modRot g fun r => { r with left := false, st := 2, port := 8 * g + k, step := 0, wait := false, winDue := t + n * Sys2Proof.sec, winStay := false }

/-- Take up local port `k`; the flag says that there is something to do for it (R301, R327). -/
def rotPort (s : State) (g k : Nat) (t : Tick) : State × Bool :=
  let p := 8 * g + k
  let mode := s.rN (Gr.RELIEF_MODE g)
  let st := s.portState p
  let i := s.servingSlice p
  let take := fun (step : Nat) (wait : Bool) => (s.modRot g fun r => { r with st := 2, port := p, step := step, wait := wait, fails := 0, forced := false, left := false })
  if s.roleOf i = 4 then (s, false)
  else if st = 0 then
    let role := s.roleOf i
    let x := reliefSlice g
    let s := take 0 false
    let s := if mode = 0 ∧ s.roleOf x = 2 then s.setRole x 3 0xFF else s
    let s := s.setRole i 2 0xFF
    let r := s.runStart g i 2 role (s.rN Ca.CAL_NPLC) t
    if r.2 then r else
      let s := r.1.setRole i role (if role = 0 then p else 0xFF)
      (if mode = 0 then s.reliefFree g else s, false)
  else if mode = 2 then (s, false)
  else if st = 3 then (take 0 true, true)
  else if mode = 1 then (s.winAnnounce g k t, true)
  else (take 1 true, true)

/-- The next port of the rotation that has something to do, from local port `k` on; after the last the rotation is done. -/
def rotSeek (s : State) (g k : Nat) (t : Tick) : Nat → State
  | 0 => s.rotEnd g true t
  | n + 1 =>
    if 7 < k then s.rotEnd g true t
    else
      let r := s.rotPort g k t
      if r.2 then r.1.syncRot g else r.1.rotSeek g (k + 1) t n

/-! #### Reference transfers (R290) -/

/-- The group whose relief slice makes a reference transfer; that of a GATED group has no supply (R433). -/
def xferGroup (s : State) : Option Nat :=
  ((List.range 16).map fun k => (s.rN Ca.REF_XFER_GROUP + k) % 16).find? fun g => decide (s.rN (Gr.RELIEF_MODE g) = 0) && decide (s.groupState g ≠ 3)

/-- A transfer is wanted that may start: from REFX while REFX_VALUE is declared, or of a new cell. -/
def xferDue (s : State) : Bool :=
  s.cal.xfer.isNone && (s.cal.cellWant.isSome || (s.cal.xferWant && decide (s.rQ Ca.REFX_VALUE ≠ 0))) && s.cal.retryAt.isNone

/-- Begin a transfer with the relief slice of `g` (R292 step 1). -/
def xferBegin (s : State) (g : Nat) (t : Tick) : State :=
  let c := s.cal.cellWant
  { s.set Ca.REF_XFER_STATE 1 with cal := { s.cal with
      xfer := some { step := 1, due := t + 640000, group := g, cell := c }, cellWant := none,
      xferWant := if c.isSome then s.cal.xferWant else false } }

/-- Defer or retry transfer work after CAL_RETRY_INTERVAL, with a result code (R291, R293, R313). -/
def xferDefer (s : State) (code : Nat) (t : Tick) : State :=
  { (s.set Ca.REF_XFER_RESULT code).set Ca.REF_XFER_STATE 1 with
      cal := { s.cal with retryAt := some (t + s.rN Ca.CAL_RETRY_INTERVAL * Sys2Proof.sec) } }

/-- Start a wanted transfer if its relief slice is in CAL with no slice run in progress; during a rotation it waits until
the rotation stands between two ports (R290, R307). -/
def xferTry (s : State) (t : Tick) : State :=
  if !s.xferDue then s
  else if s.mcFail then s.xferDefer 1 t
  else match s.xferGroup with
    | none => s.xferDefer 7 t
    | some g => if (s.rot g).st = 0 ∧ s.roleOf (reliefSlice g) = 2 then s.xferBegin g t else s.set Ca.REF_XFER_STATE 1

/-- REFX_VALUE is 0: a transfer from REFX that waits is given up, unless the reference is split (R291, R330). -/
def refxGone (s : State) : State :=
  if s.cal.cellWant.isSome || s.cal.xfer.isSome then s
  else { s.set Ca.REF_XFER_STATE 0 with cal := { s.cal with retryAt := none, xferWant := s.cal.xferWant && s.refSplit } }

/-- The rotation goes on with local port `k`, unless it has to stop: the relief slice or the privileged home slice is due to leave
service, the group has left RUN, or a reference transfer takes its turn. -/
def rotNext (s : State) (g k : Nat) (t : Tick) : State :=
  let r := s.rot g
  if r.stop || r.quiesceHeld || decide (s.groupState g ≠ 0) || r.substWant || r.retireWant then s.rotEnd g false t
  else if s.xferDue && decide (s.xferGroup = some g) && !s.mcFail && decide (s.roleOf (reliefSlice g) = 2) then
    ((s.modRot g fun r => { r with st := 3, port := 8 * g + k, step := 0 }).xferBegin g t).syncRot g
  else s.rotSeek g k t 9

/-- The transfer is over: a rotation that paused for it goes on (R290). -/
def xferResume (s : State) (g : Nat) (t : Tick) : State :=
  if (s.rot g).st = 3 then s.rotNext g ((s.rot g).port - 8 * g) t else s.later t (.rot g)

/-- A rotation starts in a group (R301, R308). -/
def rotStart (s : State) (g : Nat) (t : Tick) : State :=
  let s := ((s.rotBit g RotStatus.ROT_BUSY true).rotBit g RotStatus.ROT_PENDING false).rotBit g RotStatus.GAP_HOLD false
  let s := (s.set (Gr.ROT_LAST_START g) (s.timeNs t)).modRot g fun r => { r with must := false }
  if s.rN (Gr.RELIEF_MODE g) = 0 then
    let r := (s.modRot g fun r => { r with st := 1, stop := false }).runStart g (reliefSlice g) 0 2 (s.rN Ca.CAL_NPLC) t
    if r.2 then r.1.syncRot g else r.1.rotNext g 0 t
  else (s.modRot g fun r => { r with st := 1, stop := false }).rotNext g 0 t

/-- ROT_LAST_START lies less than ROT_MIN_GAP back; 0 stands for no rotation yet (R309). -/
def inGap (s : State) (g : Nat) (t : Tick) : Bool :=
  let l := s.rN (Gr.ROT_LAST_START g)
  decide (l ≠ 0) && decide (s.timeNs t < l + s.rN Ca.ROT_MIN_GAP * 1000000000)

/-- The obstacles of R309 besides the gap: a rotation runs, the group is not in RUN; also no run may start, or the relief slice
makes a reference transfer. -/
def rotObstacle (s : State) (g : Nat) : Bool :=
  s.bit (Gr.ROT_STATUS g) RotStatus.ROT_BUSY || decide (s.groupState g ≠ 0) || s.runBlocked.isSome ||
    (match s.cal.xfer with | some x => decide (x.group = g) | none => false) || (s.rot g).substWant || (s.rot g).retireWant

/-- A rotation would start, but no run may: the run of its relief slice is deferred with the result that says why (R307). -/
def rotDeferred (s : State) (g : Nat) : State :=
  match s.runBlocked with
  | some c =>
    if s.bit (Gr.ROT_STATUS g) RotStatus.ROT_BUSY ∨ s.groupState g ≠ 0 ∨ s.rN (Gr.RELIEF_MODE g) ≠ 0 then s
    else s.set (Sl.CAL_RESULT (reliefSlice g)) c
  | none => s

/-- A trigger: a rotation starts, or ROT_PENDING is set (R308, R309). -/
def rotTrigger (s : State) (g : Nat) (t : Tick) : State :=
  let s := s.rotDeferred g
  if s.rotObstacle g || s.inGap g t then
    (s.rotBit g RotStatus.ROT_PENDING true).rotBit g RotStatus.GAP_HOLD (s.inGap g t && !s.bit (Gr.ROT_STATUS g) RotStatus.ROT_BUSY)
  else s.rotStart g t

/-! #### After a run (R302, R307) -/

/-- Step 6 of a window: the port is enabled again, unless a disable request keeps it OFF (R327, R328). -/
def winEnable (s : State) (g k : Nat) (t : Tick) : State :=
  let p := 8 * g + k
  let s := (s.set (Gr.WIN_STATE g) 6).satInc (Pt.WIN_COUNT p) 32 1
  let s := s.setBit (Pt.PORT_STATUS p) PortStatus.ENABLE_PENDING false
  let s := if (s.rot g).winStay then s else s.enableTry p t
  s.later t (.rot g)

/-- A run has ended, committed or aborted, and what it served goes on. -/
def runOver (s : State) (g : Nat) (r : CalRun) (t : Tick) : State :=
  let i := r.slice
  let k := localOf (s.rot g).port
  match r.purpose with
  | 0 =>
    if (s.sx i).wornWant &&& 4 ≠ 0 then (s.modRot g fun x => { x with retireWant := true }).rotEnd g false t else s.rotNext g 0 t
  | 1 =>
    if (s.rot g).substWant ∧ s.rN (Gr.PRIV_PORT g) = k then (s.substDone g t).rotEnd g false t
    else (s.modRot g fun x => { x with step := 5, wait := true, fails := 0 }).syncRot g
  | 2 =>
    let s := s.setRole i r.role (if r.role = 0 then 8 * g + k else 0xFF)
    let s := if s.rN (Gr.RELIEF_MODE g) = 0 then s.reliefFree g else s
    s.rotNext g (k + 1) t
  | _ => (s.setRole i r.role (8 * g + k)).winEnable g k t

/-- Abort the run of a group and go on. -/
def runStop (s : State) (g code : Nat) (t : Tick) : State :=
  match (s.rot g).run with
  | none => s
  | some r => (s.runAbort g code).runOver g r t

/-- The check of R295 has failed: REF_SPLIT, a transfer is requested, and every other run aborts. -/
def splitFound (s : State) (_t : Tick) : State :=
  { (s.setBit Ca.REF_CELLS 7 true) with cal := { s.cal with xferWant := true } }

/-- The step's readings are good: the run goes on with the next one. -/
def runOn (s : State) (g : Nat) (r : CalRun) (d : CalData) : State :=
  match s.runRead g r d with
  | .ok r =>
    let r' := { r with step := r.step + 1, from_ := r.due, due := r.due + s.runTicks r.npc (r.step + 1) }
    let s := (s.modRot g fun x => { x with run := some r' }).set (Sl.CAL_STEP r.slice) (r.step + 1)
    if r'.step = 8 then s.requestCommit r.slice (.run r.slice) else s
  | .error _ => s

/-- A step of a run ends at its due tick (R298, R299), unless readings were discarded: they are taken again first. -/
def runStep (s : State) (g : Nat) (d : CalData) : State :=
  match (s.rot g).run with
  | none => s
  | some r =>
    let n := s.runDisturbed g r + d.discarded
    let again : CalRun := { r with discarded := r.discarded + n, from_ := r.due, due := r.due + n * s.readingTicks r }
    match s.runRead g r d with
    | .ok _ =>
      if n ≠ 0 ∧ r.step ≠ 1 ∧ r.step ≠ 6 then s.modRot g fun x => { x with run := some again } else s.runOn g r d
    | .error c =>
      let s := if c = 5 then s.splitFound r.due else s
      s.runStop g c r.due

/-! #### Force transfers (R302-R304) -/

/-- The incoming and the outgoing slice of the running rotation step. -/
def incoming (s : State) (g : Nat) : Nat := let r := s.rot g; if r.step ≤ 4 then reliefSlice g else homeSlice r.port
def outgoing (s : State) (g : Nat) : Nat := let r := s.rot g; if r.step ≤ 4 then homeSlice r.port else reliefSlice g

/-- D_pred of R303, in 0.001 ppm of the span width. -/
def dPred (s : State) (p inn out_ : Nat) : Rat :=
  let sp := s.rN (Pt.SPAN_ACTIVE p)
  let code := s.rN (Pt.DAC_CODE p)
  let k := code / 16 / 2 ^ 10
  let at_ := fun (l : List Int) => l.getD sp 0
  let f := fun (i : Nat) => (s.sx i).health
  let inl := fun (i : Nat) => int16At (s.blob (Sl.DAC_INL i)) (1024 * sp + k) * 10
  let dO := at_ (f inn).dacOff - at_ (f out_).dacOff
  let dG := at_ (f inn).dacGain - at_ (f out_).dacGain
  (dO : Rat) + (dG : Rat) * voltsOf sp code / spanWidth sp + ((inl inn - inl out_ : Int) : Rat)

/-- The last condition of R303. -/
def predOk (s : State) (p inn out_ : Nat) : Bool :=
  let u := Config.predU [inn, out_, s.rN (Sl.CAL_TEMP inn), s.rN (Sl.SLICE_TEMP inn), s.rN (Sl.TC_DAC inn),
                         s.rN (Sl.CAL_TEMP out_), s.rN (Sl.SLICE_TEMP out_), s.rN (Sl.TC_DAC out_)]
  decide (absR (s.dPred p inn out_) + 2 * (u : Rat) ≤ s.rQ Ca.XFER_TOL * 1000)

/-- A trip-enabled comparator of a slice in SHADOW is in its start (R163). -/
def shadowStarts (s : State) (p i : Nat) : Bool :=
  let en := s.live p (Pt.TRIP_EN p)
  ((s.sx i).cmpV.startEnd.isSome && decide (field en 0 2 ≠ 0)) || ((s.sx i).cmpI.startEnd.isSome && decide (field en 2 2 ≠ 0))

/-- The first two conditions of R303. -/
def sliceFit (s : State) (p i : Nat) : Bool := !(s.sx i).rbBad && !(s.sx i).shadowTrip && !s.shadowStarts p i

/-- The condition of R101: the incoming slice has a window open in step with the port's, or no window is open and none is due. -/
def windowFit (s : State) (p : Nat) (since : Tick) : Bool :=
  match (s.px p).meas.win with
  | some w => decide (since < w.open_)
  | none => decide (s.live p (Pt.PREC_FREE p) = 0) && (s.runOf p).isNone && (s.px p).meas.nextOpen.isNone

/-- The calibration-and-ageing domain re-arms the latch of a slice in SHADOW (R163). DESIGN CHOICE (log entry 101): at a tick boundary of the port at
which the slice waits to take it and none of its enabled comparators is outside its window. -/
def shadowRearm (s : State) (p i : Nat) (t : Tick) : State :=
  if s.shadowCauses p i t = 0 then s.modSx i fun x => { x with shadowTrip := false } else s

/-- The incoming slice of a rotation saw a trip that its own comparators alone sense (R163): its latch is set, and its health record notes it. -/
def shadowSaw (s : State) (g : Nat) (t : Tick) : State :=
  let i := s.incoming g
  if s.live (s.rot g).port (Pt.TRIP_EN (s.rot g).port) % 16 = 0 ∨ (s.sx i).shadowTrip = true then s
  else (s.modSx i fun x => { x with shadowTrip := true }).note i Note.shadowTrip t

/-- What the group controller does for a rotation at a tick boundary of the port in rotation (R302). After a trip in step 4, step 7 waits for the
re-arm (R307). -/
def rotBoundary (s : State) (p : Nat) (t : Tick) : State :=
  let g := groupOf p
  let r := s.rot g
  if r.st ≠ 2 ∨ r.port ≠ p ∨ r.wait = false then s
  else
    let on := decide (s.portState p = 1) || decide (s.portState p = 2)
    let inn := s.incoming g
    if r.step = 1 ∨ r.step = 5 then
      if on && decide (s.roleOf inn = 2) && r.run.isNone then
        let s := (s.setRole inn 1 p).set (Gr.RELIEF_PORT g) (localOf p)
        let s := (s.modSx inn fun x => { x with shadowTrip := false }).cmpShadow p inn t
        (s.modRot g fun r => { r with wait := false, from_ := t, shadowAt := t, due := t + 64 + max (tEn (s.cmpActive p true)) (tEn (s.cmpActive p false)) }).syncRot g
      else s
    else if r.step = 3 ∨ r.step = 7 then
      if s.portOn p && !s.rngBusy p && decide (s.spanStep p = 0) && s.sliceFit p inn && !(decide (r.step = 7) && s.tripped p) && (r.forced || s.predOk p inn (s.outgoing g)) then
        if s.windowFit p r.shadowAt then
          let s := s.setRole inn 0 p
          let s := s.modGx g fun x => { x with overlap := some p }
          ((s.modRot g fun r => { r with wait := false, tx := t, done := 0 }).rotBit g RotStatus.ROT_WAIT false).syncRot g
        else s.rotBit g RotStatus.ROT_WAIT true
      else s.shadowRearm p inn t
    else s

/-- A transfer's overlap has ended at `t` (R304): the port is driven by the incoming slice. -/
def transferOver (s : State) (g : Nat) (t : Tick) : State :=
  let r := s.rot g
  let p := r.port
  let s := s.modGx g fun x => { x with overlap := none }
  let s := ((s.cmpTake p (s.incoming g)).set (Pt.DRIVE_SLICE p) (s.incoming g)).syncPort p
  if r.step = 3 then
    if r.subst || (r.substWant && decide (s.rN (Gr.PRIV_PORT g) = localOf p)) then (s.substDone g t).rotEnd g false t
    else
      let s := (s.modRot g fun r => { r with step := 4, wait := false, fails := 0 }).syncRot g
      let h := homeSlice p
      if (s.rot g).quiesceHeld ∨ s.portState p = 3 then (s.modRot g fun r => { r with step := 5, wait := true }).syncRot g
      else
        let q := s.runStart g h 1 2 (s.rN Ca.CAL_NPLC) t
        if q.2 then q.1 else (q.1.modRot g fun r => { r with step := 5, wait := true }).syncRot g
  else (s.reliefFree g).rotNext g (localOf p + 1) t

/-! #### Agreement (R303, R306) -/

/-- A base word of the span carries OVR, RANGING or NBR_DISTURB. -/
def spanMarked (s : State) (p : Nat) (a n : Nat) : Bool :=
  let m := (s.px p).meas
  m.ovrV.any (fun o => o.touches 5120 a n) || m.ovrI.any (fun o => o.touches 5120 a n) ||
    (s.disturbances p).any (fun o => o.touches 16000 a n) || m.steps.any (fun st => st.touches a n)

/-- Begin an agreement span at `t`. -/
def agreeSpan (s : State) (g : Nat) (t : Tick) : State :=
  s.modRot g fun r => { r with wait := false, from_ := baseAt t, due := baseAt t + 625 * s.rN Ca.AGREE_WORDS }

/-- The agreement span has ended: its means differ by `dV` and `dI`, in 0.001 ppm FS (R303, R306). A marked
word restarts the span: the new one begins behind the last marked word. -/
def agreeEnd (s : State) (g : Nat) (dV dI : Int) : State :=
  let r := s.rot g
  let t := r.due
  let p := r.port
  let tol := s.rQ Ca.AGREE_TOL * 1000
  match (List.range (s.rN Ca.AGREE_WORDS)).reverse.find? fun k => s.spanMarked p (r.from_ + 625 * k) 1 with
  | some k => s.agreeSpan g (r.from_ + 625 * (k + 1))
  | none =>
    let inn := s.incoming g
    let ok := s.sliceFit p inn && decide ((absI dV : Rat) ≤ tol) && decide ((absI dI : Rat) ≤ tol)
    if ok then (s.modRot g fun r => { r with step := r.step + 1, wait := true }).syncRot g
    else if r.fails + 1 < 3 then ((s.agreeSpan g t).modRot g fun r => { r with fails := r.fails + 1 })
    else
      let s := ((s.rotBit g RotStatus.AGREE_FAIL true).note inn Note.agree t).note (s.outgoing g) Note.agree t
      if r.step = 2 ∧ r.subst = false then
        let s := (s.rotBit g RotStatus.SKIPPED true).satInc (Gr.ROT_SKIP g) 32 1
        (s.reliefFree g).rotNext g (localOf p + 1) t
      else (s.modRot g fun r => { r with step := r.step + 1, wait := true, forced := true }).syncRot g

/-! #### What else moves a rotation (R23, R32, R37, R307, R328) -/

/-- Step 5 of a window: the port is OFF and its slice goes to CAL. -/
def winRun (s : State) (g k : Nat) (t : Tick) : State :=
  let i := s.servingSlice (8 * g + k)
  let role := s.roleOf i
  let s := (s.setRole i 2 0xFF).set (Gr.WIN_STATE g) 5
  let r := s.runStart g i 3 role (s.rN (Gr.WIN_NPLC g)) t
  if r.2 then r.1 else (r.1.setRole i role (8 * g + k)).winEnable g k t

/-- A substitution or a retirement that waits is made when the relief slice is free (R37, R38, R333). -/
def substTry (s : State) (g : Nat) (t : Tick) : State :=
  let r := s.rot g
  if r.retireWant ∧ r.st = 0 then
    if s.rN (Gr.RELIEF_MODE g) = 0 then s.reliefOut g else s.modRot g fun r => { r with retireWant := false }
  else if r.substWant ∧ r.st = 0 then
    let k := s.rN (Gr.PRIV_PORT g)
    let p := 8 * g + k
    let gs := s.groupState g
    if s.rN (Gr.RELIEF_MODE g) ≠ 0 ∨ 8 ≤ k then s.modRot g fun r => { r with substWant := false }
    else if (match s.cal.xfer with | some x => decide (x.group = g) | none => false) then s
    else if gs = 2 ∨ gs = 3 ∨ (gs = 0 ∧ s.portState p = 0) then s.substDone g t
    else if gs = 0 ∧ (s.portState p = 1 ∨ s.portState p = 2) then
      (s.modRot g fun r => { r with st := 2, port := p, step := 1, wait := true, fails := 0, forced := false, subst := true, left := false }).syncRot g
    else s
  else s

/-- A substitution that does not wait for the rotation to end (R37). The privileged port is OFF and the relief slice serves no port: the rotation
stops and the relief slice is assigned at once. The privileged home slice is in its own rotation on the bus, its port already driven by
the relief slice: its run ends there. -/
def substEarly (s : State) (g : Nat) (t : Tick) : State :=
  let r := s.rot g
  let k := s.rN (Gr.PRIV_PORT g)
  let x := s.roleOf (reliefSlice g)
  if !r.substWant || decide (s.rN (Gr.RELIEF_MODE g) ≠ 0) || decide (7 < k) || decide (s.groupState g ≠ 0) then s
  else if (r.st = 1 ∨ r.st = 2) ∧ s.portState (8 * g + k) = 0 ∧ (x = 2 ∨ x = 3) then
    let back := fun (s : State) => match r.run with
      | some q => if q.purpose = 2 then s.setRole q.slice q.role (if q.role = 0 then r.port else 0xFF) else s
      | none => s
    ((back (s.runAbort g 6)).rotEnd g false t).substDone g t
  else if r.st = 2 ∧ r.port = 8 * g + k ∧ r.step = 4 then s.runStop g 6 t
  else s

/-- Bring the rotation of a group on after something it waits for has changed at `t`. -/
def rotKick (s : State) (g : Nat) (t : Tick) : State :=
  let s := s.substEarly g t
  let r := s.rot g
  let p := r.port
  let k := localOf p
  let w := s.rN (Gr.WIN_STATE g)
  if r.st = 2 ∧ w = 4 then (if s.portState p = 0 then s.winRun g k t else s)
  else if r.st = 2 ∧ w = 6 then
    (if s.portState p = 1 then s else ((s.set (Gr.WIN_STATE g) 0).set (Gr.WIN_PORT g) 0xFF).rotNext g (k + 1) t)
  else if r.st = 2 ∧ w = 0 ∧ (s.portState p = 0 ∨ r.left = true) ∧ (r.step ≠ 0 ∨ r.wait = true) then
    let s := (s.runAbort g 6).modRot g fun r => { r with left := false }
    (s.reliefFree g).rotNext g (if r.step = 0 then k else k + 1) t
  else if r.st = 0 then
    let s := s.substTry g t
    let s := s.xferTry t
    if r.must && decide (s.groupState g = 0) && decide ((s.rot g).st = 0) then s.rotStart g t
    else if s.bit (Gr.ROT_STATUS g) RotStatus.ROT_PENDING && !s.rotObstacle g && !s.inGap g t && decide ((s.rot g).st = 0) then s.rotStart g t else s
  else s

/-- A hand-over is in progress: the port has left its home slice, or a transfer is in its overlap (R23). -/
def handOver (s : State) (g : Nat) : Bool :=
  let r := s.rot g
  decide (r.st = 2) && decide (s.rN (Gr.WIN_STATE g) = 0) && !r.subst && (decide (4 ≤ r.step) || (decide (r.step = 3) && !r.wait))

/-- A quiesce meets the rotation (R23, R307, R328). With a hand-over in progress the ports wait for it. -/
def rotQuiesce (s : State) (g : Nat) (t : Tick) : State :=
  let r := s.rot g
  if r.st = 0 then s.quiescePorts g t
  else
    let p := r.port
    let win := s.rN (Gr.WIN_STATE g)
    -- the port of a window counts as enabled (R22, R328)
    let s := if 0 < win ∧ r.winStay = false then s.setBit (Gr.PORTS_RESUME g) (localOf p) true else s
    if s.handOver g then
      let s := s.modRot g fun r => { r with quiesceHeld := true, stop := true }
      s.runStop g 6 t
    else if r.subst && !r.wait && decide (r.step = 3) then s.modRot g fun r => { r with quiesceHeld := true, stop := true }
    else
      let s := s.modRot g fun r => { r with stop := true, quiesceHeld := true }
      match r.run with
      | some q =>
        let s := s.runAbort g 6
        let s := if q.purpose = 0 then s else s.setRole q.slice q.role (if q.role = 0 then p else 0xFF)
        s.rotEnd g false t
      | none => s.rotEnd g false t

/-- An enable request meets an OFF port whose slice is on the calibration bus (R307): the slice returns. -/
def rotPreempt (s : State) (p : Nat) (t : Tick) : State :=
  let g := groupOf p
  match (s.rot g).run with
  | some r => if r.purpose = 2 ∧ (s.rot g).port = p then s.runStop g 6 t else s
  | none => s

/-- A disable request meets the rotation or the window of its port (R307, R328). -/
def rotDisable (s : State) (p : Nat) (t : Tick) : State :=
  let g := groupOf p
  let r := s.rot g
  if r.st ≠ 2 ∨ r.port ≠ p then s
  else
    let w := s.rN (Gr.WIN_STATE g)
    if w = 1 ∨ w = 2 ∨ w = 3 then ((s.set (Gr.WIN_STATE g) 0).set (Gr.WIN_PORT g) 0xFF).rotNext g (localOf p + 1) t
    else if 4 ≤ w then s.modRot g fun r => { r with winStay := true }
    else match r.run with
      | some q => if q.purpose = 1 then s.runAbort g 6 else s
      | none => s

/-- Steps 3 and 4 of a window (R327): the end of the window open at the end of step 2, then the disable sequence. -/
def winDisable (s : State) (g : Nat) (t : Tick) : State :=
  let p := (s.rot g).port
  let s := s.set (Gr.WIN_STATE g) 4
  if s.portState p = 0 then s.winRun g (localOf p) t else s.gcPush { port := p, op := .disable, since := t }

def winAlign (s : State) (g : Nat) (t : Tick) : State :=
  let s := s.set (Gr.WIN_STATE g) 3
  if (s.px (s.rot g).port).meas.win.isSome then s else s.winDisable g t

/-- A precision window of a port has closed (R327 step 3). -/
def winClosed (s : State) (p : Nat) (t : Tick) : State :=
  let g := groupOf p
  if s.rN (Gr.WIN_STATE g) = 3 ∧ (s.rot g).port = p then s.winDisable g t else s

/-! ### Reference cells (R293-R295, R330) -/

/-- A cell is retired (R330): a run in progress aborts with CAL_REF_SPLIT (R333), and the retirement is committed first (R332). -/
def cellRetire (s : State) (c : Nat) (t : Tick) : State :=
  let s := ((s.setBit Ca.REF_CELLS c false).setBit Ca.REF_CELLS 7 false).setBit Ag.AGE_STATUS AgeStatus.REF_UNRESOLVED false
  let s : State := { s with age := { s.age with vote := none } }
  ((List.range 16).foldl (fun s g => s.runStop g 5 t) s).requestCommit pairRef (.cell c)

/-- A cell of the reserve is active and waits to be valued (R295). -/
def cellEnter (s : State) (n : Nat) (t : Tick) : State :=
  let s := s.setBit Ca.REF_CELLS n true
  { s with cal := { s.cal with cellWant := some n } }.xferTry t

/-- The retirement of a cell is committed: the lowest free spare replaces it, or the remaining cell serves alone (R330). -/
def cellReplace (s : State) (c : Nat) (t : Tick) : State :=
  let free := fun n => bitOf (s.rN Ag.GARNET_FREE) (n + 2)
  if free 2 || free 3 then
    let n := if free 2 then 2 else 3
    (s.garnet (n + 2) Gk.ref n c t).cellEnter n t
  else s.setBit Ag.AGE_STATUS AgeStatus.REF_SINGLE true

/-- Kind, instance and replaced instance of the entries of GARNET_LOG, oldest first. -/
def garnetLog (s : State) : List (Nat × Nat × Nat) :=
  let b := s.blob Ag.GARNET_LOG
  (List.range (b.length / 16)).map fun k => let e := b.drop (16 * k); (ofLe (e.take 1), ofLe ((e.drop 1).take 1), ofLe ((e.drop 2).take 2))

/-- The cell that serves as REF_0 or REF_1: that cell, or the spare that replaced it (R295, R330). Its value is in REF_0_DEV or REF_1_DEV.
DEDUCED (log entry 122). -/
def cellAt (s : State) (n : Nat) : Nat := s.garnetLog.foldl (fun c e => if e.1 = Gk.ref ∧ e.2.2 = c then e.2.1 else c) n

/-- At boot a committed retirement whose replacement is missing is completed (R332): a spare that the device record names as consumed for it becomes
active and is valued, else the retired cell is replaced. DESIGN CHOICE (log entry 122). -/
def cellBoot (s : State) (t : Tick) : State :=
  [s.cellAt 0, s.cellAt 1].foldl (fun s c =>
    if s.bit Ca.REF_CELLS c then s else if 2 ≤ c then s.cellEnter c t else s.cellReplace c t) s

def devKey (n : Nat) : Nat := if n = 0 then Ca.REF_0_DEV else Ca.REF_1_DEV

/-- Assigned values of a sequence, as departures from 2.000 V in 0.001 ppm, and u_xfer squared in ppm squared; none where R293
aborts it. `ref`: the value of the standard in volts. -/
def assign (ref : Rat) (cs : List (Int × Int × Int × Int)) : Option (Int × Int × Rat) :=
  let n : Rat := (cs.length : Nat)
  if cs = [] then none
  else
    let mean := fun (c : Int × Int × Int × Int) => mkRat (c.1 + c.2.2.2) 2
    let bad := cs.any fun c => decide (mean c = 0) || decide (absR (mean c) * mkRat 2 10000000 < ((absI (c.1 - c.2.2.2) : Int) : Rat))
    let r0 := cs.map fun c => (c.2.1 : Rat) / mean c
    let r1 := cs.map fun c => (c.2.2.1 : Rat) / mean c
    let avg := fun (l : List Rat) => l.foldl (· + ·) 0 / n
    let spread := fun (l : List Rat) => l.foldl max (l.headD 0) - l.foldl min (l.headD 0)
    if bad || decide (absR (avg r0) * mkRat 2 10000000 < spread r0) || decide (absR (avg r1) * mkRat 2 10000000 < spread r1) then none
    else
      let dev := fun (l : List Rat) => roundUp ((ref * avg l - 2) / 2 * 1000000000)
      let m := (r0.zip r1).map fun e => (e.1 + e.2) / 2
      let a := avg m
      let var := if n ≤ 1 ∨ a = 0 then 0 else (m.map fun x => (x - a) * (x - a)).foldl (· + ·) 0 / (n - 1) / n / (a * a) * 1000000000000
      some (dev r0, dev r1, var)

/-- A transfer's step ends at its due tick (R291-R293). -/
def xferStep (s : State) (d : XferData) : State :=
  match s.cal.xfer with
  | none => s
  | some x =>
    let t := x.due
    let put := fun (x : Xfer) (s : State) => { s with cal := { s.cal with xfer := some x } }
    let stop := fun (code : Nat) =>
      let s := { s with cal := { s.cal with xfer := none, cellWant := if x.cell.isSome then x.cell else s.cal.cellWant,
                                            xferWant := s.cal.xferWant || x.cell.isNone } }
      (s.xferDefer code t).xferResume x.group t
    match x.step with
    | 1 => (put { x with step := 2, due := t + 10 * Sys2Proof.sec } s).set Ca.REF_XFER_STATE 2
    | 2 =>
      let hi := d.still.foldl max (d.still.headD 0)
      let lo := d.still.foldl min (d.still.headD 0)
      if d.still = [] ∨ 200 < hi - lo ∨ 5000000 < hi ∨ lo < -5000000 then stop 1
      else (put { x with step := 3, due := t + s.rN Ca.XFER_CYCLES * s.readTicks (s.rN Ca.XFER_NPLC) 8 } s).set Ca.REF_XFER_STATE 3
    | 3 =>
      let ref : Rat := match x.cell with
        | some c => 2 + 2 * mkRat (toSigned 32 (s.rN (devKey (if s.cellAt 0 = c then 1 else 0)))) 1000000000
        | none => s.rQ Ca.REFX_VALUE
      (match assign ref d.cycles with
       | none => stop 2
       | some a =>
         ((put { x with step := 4, dev0 := a.1, dev1 := a.2.1, var := a.2.2 } s).set Ca.REF_XFER_STATE 4).requestCommit pairRef .xfer)
    | _ => s

/-- A transfer commits at `t` (R293, R295, R330). -/
def xferApply (s : State) (x : Xfer) (t : Tick) : State :=
  let old0 := toSigned 32 (s.rN Ca.REF_0_DEV)
  let old1 := toSigned 32 (s.rN Ca.REF_1_DEV)
  let s := { s.set Ca.REF_XFER_STATE 0 with cal := { s.cal with xfer := none } }
  let s := s.set Ca.REF_XFER_RESULT 0
  match x.cell with
  | some c =>
    let pos := if s.cellAt 0 = c then 0 else 1
    s.set (devKey pos) (ofSigned 32 (if pos = 0 then x.dev0 else x.dev1))
  | none =>
    let s := s.when (s.bit Ca.REF_CELLS (s.cellAt 0)) fun s => s.set Ca.REF_0_DEV (ofSigned 32 x.dev0)
    let s := s.when (s.bit Ca.REF_CELLS (s.cellAt 1)) fun s => s.set Ca.REF_1_DEV (ofSigned 32 x.dev1)
    let s := (s.satInc Ca.REF_TRANSFER_COUNT 32 1).set Ca.REF_TRANSFER_LAST (s.timeNs t)
    let s := { s with cal := { s.cal with xferVar := x.var } }
    if !s.refSplit then s.setBit Ag.AGE_STATUS AgeStatus.REF_UNRESOLVED false
    else
      let tol := s.rQ Ca.REF_AGREE_TOL * 1000
      let m0 := decide (tol < ((absI (x.dev0 - old0) : Int) : Rat))
      let m1 := decide (tol < ((absI (x.dev1 - old1) : Int) : Rat))
      if m0 && !m1 then s.cellRetire (s.cellAt 0) t
      else if m1 && !m0 then s.cellRetire (s.cellAt 1) t
      else if s.bit Ag.AGE_STATUS AgeStatus.REF_UNRESOLVED then
        (s.setBit Ag.AGE_STATUS AgeStatus.REF_UNRESOLVED false).setBit Ca.REF_CELLS 7 false
      else s.setBit Ag.AGE_STATUS AgeStatus.REF_UNRESOLVED true

/-- REF_SPLIT with no REFX declared: the lowest free spare warms up for the vote (R330). -/
def voteStart (s : State) (t : Tick) : State :=
  let free := fun n => bitOf (s.rN Ag.GARNET_FREE) (n + 2)
  if s.refSplit && decide (s.rQ Ca.REFX_VALUE = 0) && s.age.vote.isNone && !s.bit Ag.AGE_STATUS AgeStatus.REF_UNRESOLVED then
    if free 2 || free 3 then { s with age := { s.age with vote := some (if free 2 then 2 else 3, t + 600 * Sys2Proof.sec) } }
    else s.setBit Ag.AGE_STATUS AgeStatus.REF_UNRESOLVED true
  else s

/-- A relief slice in CAL that can take the readings of a vote (R330). -/
def voteReady (s : State) : Bool :=
  (List.range 16).any fun g => decide (s.roleOf (reliefSlice g) = 2) && decide (s.groupState g ≠ 3) && (s.rot g).run.isNone && s.cal.xfer.isNone

/-- The vote (R330): the departures of the two ratios to the spare from the MANUFACTURE values, in 0.001 ppm. -/
def voteEnd (s : State) (d0 d1 : Int) (t : Tick) : State :=
  let years : Rat := mkRat ((s.timeNs t : Int) - Config.mfgTime) yearNs
  let lim := (s.rQ Ca.REF_AGREE_TOL + s.rQ Ca.REF_AGE_COEF * years) * 1000
  let b0 := decide (lim < ((absI d0 : Int) : Rat))
  let b1 := decide (lim < ((absI d1 : Int) : Rat))
  let s : State := { s with age := { s.age with vote := none } }
  if !s.refSplit then s
  else if b0 && !b1 then s.cellRetire (s.cellAt 0) t
  else if b1 && !b0 then s.cellRetire (s.cellAt 1) t
  else s.setBit Ag.AGE_STATUS AgeStatus.REF_UNRESOLVED true

end State
end Sys2Proof.Machine
end

