-- ==== Sys2Proof/Machine/AgeCore.lean ====
section
/-!
DEFINITION. Ageing (R318-R326): stress, the drift envelope and the margin plan, and what marking a slice WORN does.
-/

namespace Sys2Proof.Machine

/-! ### Stress (R319) -/

/-- exp of a rational by fixed-point arithmetic with 160 fractional bits: a Taylor series of the argument over 1,024, squared ten
times. -/
def expR (x : Rat) : Rat :=
  let one : Int := 2 ^ 160
  let y : Int := (x * (2 ^ 150 : Nat)).floor
  let step := fun (a : Int × Int) (k : Nat) => let t := a.1 * y / one / (k + 1 : Nat); (t, a.2 + t)
  let e := ((List.range 16).foldl step (one, one)).2
  let r := (List.range 10).foldl (fun (v : Int) _ => v * v / one) e
  mkRat r (2 ^ 160)

namespace State

/-- AF_S of R319. -/
def stressFactor (s : State) (i : Nat) : Rat :=
  let role := s.roleOf i
  if role = 4 then 0 else if s.groupState (i / 9) = 3 then mkRat 1 10 else if role = 3 then mkRat 1 4 else 1

/-- The stress rate of a slice (R319), as it is published. -/
def stressRate (s : State) (i : Nat) : Nat :=
  let T := s.rQ (Sl.SLICE_TEMP i) + mkRat 27315 100
  if T ≤ 0 then 0
  else
    let aT := expR (8123 * (mkRat 100 34315 - 1 / T))
    let aV := expR (4 * ((s.rQ Mc.MON_1011 - s.rQ Mc.MON_1012) / 10 - 1))
    f32 (aT * aV * s.stressFactor i)

/-- One second of stress (R319). -/
def stressSlice (s : State) (i : Nat) : State :=
  let r := s.stressRate i
  let grown := (s.sx i).health.frac + ratF32 r / 36
  let n := grown.floor
  let s := (s.set (Sl.STRESS_RATE i) r).satInc (Sl.STRESS_H i) 32 n.toNat
  s.modSx i fun x => { x with health := { x.health with frac := grown - n } }

/-- LIFE_USED and LIFE_WARN (R320). -/
def lifeUsed (s : State) : State :=
  let top := (List.range 144).foldl (fun m i => if s.roleOf i = 4 then m else max m (s.rN (Sl.STRESS_H i))) 0
  let u := mkRat top 35064000
  (s.setQ Ag.LIFE_USED u).setBit Ag.AGE_STATUS AgeStatus.LIFE_WARN (decide (mkRat 9 10 < u))

/-! ### The envelope and the plan (R322-R324) -/

/-- Square root as a rational, in binary64. -/
def sqrtQ (q : Rat) : Rat := match sqrtFl 53 q with | .fin r => r | _ => 0

/-- The envelope ratio of a slice (R322, R323). -/
def rhoOf (s : State) (i : Nat) : Rat :=
  let y := sqrtQ (mkRat (s.rN (Sl.STRESS_H i)) 876600)
  let ratio := fun (k : Nat) (a b : Rat) => absR (s.rQ k) / (a + b * y)
  let l := [ratio (Sl.DRIFT_GAIN_V i) 2 (mkRat 3 2), ratio (Sl.DRIFT_GAIN_I i) 2 (mkRat 3 2), ratio (Sl.DRIFT_OFF_V i) 1 (mkRat 4 5),
            ratio (Sl.DRIFT_OFF_I i) 1 (mkRat 4 5), ratio (Sl.DRIFT_DAC i) 2 (mkRat 3 2),
            (s.rQ (Sl.RO_DRIFT i)) / (mkRat 1 2 + mkRat 15 100 * y), (s.rQ (Sl.CMP_LEAK i)) / (50 + 15 * y)]
  l.foldl max 0

def worn (s : State) (i : Nat) : Bool := decide (2 ≤ s.rN (Sl.HEALTH_STATE i))

/-- The row of R323 that a ratio selects. -/
def planRow (rho : Rat) (worn : Bool) : Nat := if worn then 2 else if rho ≤ mkRat 1 2 then 0 else if rho < mkRat 3 4 then 1 else 2

/-- DT_CAL_EFF of a group (R323). -/
def groupPlan (s : State) (g : Nat) : State :=
  let l := ((List.range 9).filter fun k => decide (s.roleOf (9 * g + k) ≠ 4)).map fun k => s.rQ (Sl.DT_CAL_FACTOR (9 * g + k))
  let f := l.foldl min (l.headD 1)
  s.derivedQ (Gr.DT_CAL_EFF g) (max (mkRat 1 10) (s.rQ (Gr.DT_CAL g) * f))

/-- The plan of a slice from its measures (R323, R324): never more than one row down at once. DEDUCED (log entry 123): the row passed through
takes its formulas at ρ = 0.5. -/
def planSlice (s : State) (i : Nat) (rho : Rat) : State :=
  let w := s.worn i
  let want := planRow rho w
  let row := if want = 0 ∧ (s.sx i).health.row = 2 then 1 else want
  let ovf := max 0 (rho - mkRat 1 2)
  let m : Rat := match row with
    | 0 => 1
    | 1 => 1 + 2 * ovf
    | _ => min 8 (max (if w then 2 else 1) (1 + 2 * ovf))
  let f : Rat := match row with
    | 0 => 1
    | 1 => min 1 (mkRat 3 2 - rho)
    | _ => max (mkRat 1 10) (mkRat 3 2 - rho)
  let s := ((s.derivedQ (Sl.MARGIN_W i) m).derived (Sl.DIV_PLAN i) (match row with | 0 => 1 | 1 => 2 | _ => 4)).derivedQ (Sl.DT_CAL_FACTOR i) f
  s.modSx i fun x => { x with health := { x.health with row := row } }

/-- Evaluate a slice (R323-R325). -/
def evaluate (s : State) (i : Nat) : State :=
  if s.roleOf i = 4 then s
  else
    let rho := s.rhoOf i
    let s := s.setQ (Sl.RHO i) rho
    let n := if 1 ≤ rho then (s.sx i).health.rhoHigh + 1 else 0
    let s := s.modSx i fun x => { x with health := { x.health with rhoHigh := n }, wornWant := x.wornWant ||| (if 2 ≤ n then 1 else 0) }
    let s := if s.worn i then s
      else if mkRat 1 2 < rho then
        s.when (decide (s.rN (Sl.HEALTH_STATE i) = 0)) fun s => (s.set (Sl.HEALTH_STATE i) 1).setBit Ag.AGE_STATUS AgeStatus.MARGINED true
      else s.set (Sl.HEALTH_STATE i) 0
    s.planSlice i rho

/-- DIV_FLOOR and SP_STEP_CAP of a port at its tick boundary (R323, R324): of the slice in DRIVE, or the stricter of two. They wait
for a range step and for a span change (R333). -/
def planApply (s : State) (p : Nat) : State :=
  let d := s.rN (Pt.DRIVE_SLICE p)
  if s.rngBusy p || decide (s.spanStep p ≠ 0) || decide (144 ≤ d) then s
  else
    let plan := if s.inTransfer p then max (s.rN (Sl.DIV_PLAN d)) (s.rN (Sl.DIV_PLAN (s.incoming (groupOf p)))) else s.rN (Sl.DIV_PLAN d)
    let s := s.derived (Pt.DIV_FLOOR p) plan
    let D := s.divSought p
    let cap := if plan ≤ 1 then 0 else if plan = 2 then 2 ^ 37 * 5 * D / 100 else 2 ^ 37 * 2 * D / 100
    s.derived (Pt.SP_STEP_CAP p) cap

/-! ### WORN (R325, R326) -/

/-- Causes of R325 found since the last command are committed before anything acts on them, a relief slice first (R333). -/
def wornReview (s : State) : State :=
  let want := (s.slices.filter (fun e => decide (e.2.wornWant ≠ 0))).map (·.1)
  let l := want.filter (fun i => decide (i % 9 = 8)) ++ want.filter (fun i => decide (i % 9 ≠ 8))
  l.foldl (fun s i =>
    let c := (s.sx i).wornWant
    let new := c &&& (63 ^^^ s.rN (Sl.WORN_CAUSE i))
    let s := s.modSx i fun x => { x with wornWant := 0 }
    if new = 0 ∨ s.roleOf i = 4 then s else s.requestCommit i (.worn i new)) s

/-- The mark is committed at `t`: the slice is WORN, its plan is the last row, and the substitution of R37 or R38 follows. -/
def wornDone (s : State) (i causes : Nat) (t : Tick) : State :=
  let g := i / 9
  let s := s.set (Sl.WORN_CAUSE i) (s.rN (Sl.WORN_CAUSE i) ||| causes)
  if s.worn i then s
  else
    let s := ((s.set (Sl.HEALTH_STATE i) 2).set (Sl.WORN_TIME i) (s.timeNs t)).setBit Ag.AGE_STATUS AgeStatus.SLICE_WORN true
    let s := (s.planSlice i (s.rQ (Sl.RHO i))).groupPlan g
    let s := (List.range 8).foldl (fun s k => s.syncPortStatus (8 * g + k)) s
    let mode := s.rN (Gr.RELIEF_MODE g)
    if mode ≠ 0 then s
    else if i % 9 = 8 then (s.modRot g fun r => { r with retireWant := true }).later t (.rot g)
    else if s.rN (Gr.PRIV_PORT g) = i % 9 ∧ (s.rot g).retireWant = false then
      let s := s.modRot g fun r => { r with substWant := true }
      match (s.rot g).run with
      | some r => if r.purpose = 1 ∧ r.slice = i then s.runStop g 6 t else s.later t (.rot g)
      | none => s.later t (.rot g)
    else s

/-- After a reset HEALTH_STATE keeps a mark only, and a marked slice stays in the last row (R324, R325, R334). -/
def wornBoot (s : State) (i : Nat) : State :=
  if s.worn i then s.planSlice i (s.rQ (Sl.RHO i)) else s.set (Sl.HEALTH_STATE i) 0

/-! ### Commits (R300, R310, R321, R352) -/

/-- A commit has succeeded at `t`: what it serves takes effect, and the record is written with it. -/
def commitDone (s : State) (c : Commit) (t : Tick) : State :=
  let put := fun (s : State) => s.setNvPair c.pair ((s.nvPair c.pair).write (if c.job = .image then c.data else s.recordOf c.pair))
  match c.job with
  | .run i =>
    let g := i / 9
    (match (s.rot g).run with
     | some r =>
       if r.slice = i ∧ r.step = 8 then
         let s := s.runApply r t
         let s := (s.evaluate i).groupPlan g
         let s := put ((s.modSx i fun x => { x with lastCommit := t }).modRot g fun x => { x with run := none })
         s.runOver g r t
       else put s
     | none => put s)
  | .health i => put (s.modSx i fun x => { x with lastCommit := t })
  | .worn i causes => put ((s.wornDone i causes t).modSx i fun x => { x with lastCommit := t })
  | .group g =>
    put (((s.satInc (Gr.CAL_COUNT g) 32 1).set (Gr.CAL_LAST_TIME g) (s.timeNs t)).set (Gr.CAL_LAST_TEMP g) (s.rN (Gr.GROUP_TEMP g)))
  | .xfer =>
    (match s.cal.xfer with
     | some x => if x.step = 4 then (put (s.xferApply x t)).xferResume x.group t else put s
     | none => put s)
  | .cell c => (put s).cellReplace c t
  | .device => put s
  | .image =>
    let s := put s
    let s := (s.set Dv.CFG_STATE 0).set Dv.CFG_SEQ ((s.nvPair pairImage).best.map (·.seq) |>.getD 0)
    s

/-- A commit has failed at `t`. -/
def commitFail (s : State) (c : Commit) (t : Tick) : State :=
  match c.job with
  | .run i =>
    let s := s.satInc Ca.CAL_STORE_ERR 32 1
    (match (s.rot (i / 9)).run with
     | some r => if r.slice = i ∧ r.step = 8 then s.runStop (i / 9) 8 t else s
     | none => s)
  | .worn i causes => (s.satInc Ca.CAL_STORE_ERR 32 1).modSx i fun x => { x with wornWant := x.wornWant ||| causes }
  | .xfer =>
    let s := s.satInc Ca.CAL_STORE_ERR 32 1
    (match s.cal.xfer with
     | some x =>
       let s := { s with cal := { s.cal with xfer := none, cellWant := if x.cell.isSome then x.cell else s.cal.cellWant,
                                             xferWant := s.cal.xferWant || x.cell.isNone } }
       (s.xferDefer 8 t).xferResume x.group t
     | none => s)
  | .cell c => (s.satInc Ca.CAL_STORE_ERR 32 1).requestCommit pairRef (.cell c)
  | .image => (s.set Dv.CFG_STATE 1).setBit Dv.OD_STATUS OdStatus.SAVE_FAIL true
  | _ => s.satInc Ca.CAL_STORE_ERR 32 1

/-- The commit under way ends at `t` (R310): its slot is written whole, or stays invalid. -/
def commitEnd (s : State) (ok : Bool) (t : Tick) : State :=
  match s.nv.started, s.nv.cmds with
  | true, c :: r =>
    let s := { s with nv := { s.nv with cmds := r, started := false } }
    if ok then
      let s := s.commitDone c t
      s.out (.flash c.pair ((s.nvPair c.pair).best.map (·.seq) |>.getD 0))
    else s.commitFail c t
  | _, _ => s

end State
end Sys2Proof.Machine
end

