-- ==== Sys2Proof/Machine/McCore.lean ====
section
/-!
DEFINITION. The monitor converter (R272-R287): inputs and scales, the request queues, the cycle, the result queue with its
readers, the comparisons of the supervision classes with their faults, and the switch-over to MC_1.
-/

namespace Sys2Proof.Machine

/-! ### Inputs (R272, R273) -/

/-- The input has an alternate node. -/
def mcHasAlt (i : Nat) : Bool := decide (i < 1008) && decide (i % 7 = 0 ∨ i % 7 = 5 ∨ i % 7 = 6)

/-- The value of one step of an input's code, in volts or degrees C (R273). -/
def mcLsb (i : Nat) (alt : Bool) : Rat :=
  if (i < 1008 ∧ i % 7 = 0 ∧ alt = true) ∨ i = 1021 then mkRat 1 128
  else if (i < 1008 ∧ i % 7 = 0) ∨ i = 1011 ∨ i = 1012 ∨ i = 1020 then mkRat 22 65536
  else if i = 1013 then mkRat 11 65536
  else mkRat 11 131072

/-- The class in which an input is supervised (R279), numbered as in `McReq`. -/
def mcClass (i : Nat) (alt : Bool) : Nat :=
  if i < 1008 then
    if i % 7 = 0 then (if alt then 5 else 1) else if i % 7 ≤ 4 then 2 else if alt then 3 else 4
  else if i ≤ 1015 then 6 else if i ≤ 1020 then 7 else if i = 1021 then 8 else 9

def mcKey (i : Nat) (alt : Bool) : Nat := 2 * i + alt.toNat

/-- Nominal voltage of a supply (R273). -/
def supNominal (k : Nat) (io33 : Bool) : Rat :=
  match k with
  | 0 => mkRat 3 4 | 1 => mkRat 4 5 | 2 => mkRat 9 5 | 3 => 5 | 4 => -5
  | 5 => if io33 then mkRat 33 10 else mkRat 9 5
  | 6 => mkRat 9 10 | _ => mkRat 6 5

/-- The queue word of R277. -/
def mcWord (input code : Nat) (spare late oot urg ovf alt : Bool) (seq : Nat) : Nat :=
  input * 2 ^ 30 + code * 2 ^ 14 + spare.toNat * 2 ^ 13 + late.toNat * 2 ^ 12 + oot.toNat * 2 ^ 11 + urg.toNat * 2 ^ 10 +
    ovf.toNat * 2 ^ 9 + alt.toNat * 2 ^ 8 + seq % 256

namespace State

def modMc (s : State) (f : McX → McX) : State := { s with mc := f s.mc }

/-! ### Supervised inputs -/

/-- The port that a slice serves or shadows. -/
def slicePort (s : State) (i : Nat) : Nat := s.rN (Sl.SLICE_PORT i)

/-- An input is converted in its class (the "Converted while" column of R279). A class that does not name the group state does
not ask for it, but a GATED group's slices have no analog supply (R433). -/
def mcActive (s : State) (i : Nat) (alt : Bool) : Bool :=
  if i < 1008 then
    let sl := i / 7
    let role := s.roleOf sl
    let p := s.slicePort sl
    decide (s.groupState (sl / 9) ≠ 3) &&
      (match mcClass i alt with
       | 1 => (decide (role = 0 ∨ role = 1)) && decide (p < 128) && s.oe p
       | 2 => (decide (role = 0 ∨ role = 1)) && decide (p < 128) && s.enabled p &&
           decide (s.cmpActive p (decide (i % 7 ≤ 2)) ≠ 6)
       | 3 => decide (role = 0)
       | 4 => decide (role ≤ 2)
       | _ => decide (role ≠ 4))
  else if 1016 ≤ i ∧ i ≤ 1019 then
    s.bit Ca.REF_CELLS (i - 1016) || decide (s.age.vote.map (·.1) = some (i - 1016)) || decide (s.cal.cellWant = some (i - 1016)) ||
      (match s.cal.xfer with | some x => decide (x.cell = some (i - 1016)) | none => false)
  else true

/-- The supervision interval of an input in ticks (R279). -/
def mcInterval (s : State) (i : Nat) (alt : Bool) : Nat :=
  640000 * (match mcClass i alt with
    | 2 => s.rN Mc.TH_INTERVAL | 3 => s.rN Mc.GND_INTERVAL | 4 => s.rN Mc.REF_INTERVAL | 5 => s.rN Mc.TEMP_INTERVAL
    | 6 => s.rN Mc.SUP_INTERVAL | 7 => s.rN Mc.REF_INTERVAL | 8 => s.rN Mc.TEMP_INTERVAL | _ => s.rN Mc.MC_CHECK_INTERVAL)

/-! ### The result queue (R277, R278) -/

/-- The readers that hold entries: CP_3, CP_4, and the recorder at J_1 or above. -/
def mcReads (s : State) (r : Nat) : Bool :=
  decide (r < 2) || (s.bit Rc.J_STATUS JStatus.RUN && decide (1 ≤ s.rN Rc.J_LEVEL))

def mcTotal (s : State) : Nat := s.mc.base + s.mc.queue.length
def mcPtr (s : State) (r : Nat) : Nat := Tab.get (fun _ => 0) s.mc.read r
def mcSetPtr (s : State) (r n : Nat) : State := s.modMc fun m => { m with read := Tab.set (fun _ => 0) m.read r n }

/-- Entries that every active reader has read leave the queue; a reader that is not active follows the last entry. -/
def mcTrim (s : State) : State :=
  let s := if s.mcReads 2 then s else s.mcSetPtr 2 s.mcTotal
  let low := min (s.mcPtr 0) (min (s.mcPtr 1) (s.mcPtr 2))
  s.modMc fun m => { m with queue := m.queue.drop (low - m.base), base := max m.base low }

def mcFull (s : State) : Bool := decide (256 ≤ s.mc.queue.length)

/-- A new entry: word without SEQ, and its companion tick. -/
def mcPush (s : State) (w : Nat) (t : Tick) : State :=
  (s.modMc fun m => { m with queue := m.queue ++ [{ word := w + m.seq % 256, tick := t }], seq := (m.seq + 1) % 256 }).mcTrim

/-- The recorder journals an entry that it reads (R404). -/
def mcJournal (s : State) (e : McEntry) : State :=
  if decide (field e.word 9 5 ≠ 0) || s.bit Rc.MON_ALL 0 then s.journal 1 7 0x501 e.tick [e.word] else s

/-- A reader reads its oldest unread entry. -/
def mcRead (s : State) (r : Nat) : State :=
  let n := s.mcPtr r
  if s.mcReads r then
    match s.mc.queue[n - s.mc.base]? with
    | none => s
    | some e => ((if r = 2 then s.mcJournal e else s).mcSetPtr r (n + 1)).mcTrim
  else s

/-! ### Requests (R275) -/

/-- By arrival tick, then by input number. -/
def insertReq (q : McReq) : List McReq → List McReq
  | [] => [q]
  | h :: r => if q.due < h.due ∨ (q.due = h.due ∧ q.input < h.input) then q :: h :: r else h :: insertReq q r

def sameReq (a b : McReq) : Bool := decide (a.input = b.input) && decide (a.alt = b.alt) && decide (a.cls = b.cls)

def mcUrgFull (s : State) : Bool := decide (16 ≤ s.mc.urg.length)

def syncMc (s : State) : State :=
  s.setBits Mc.MC_STATUS [(McStatus.URG_FULL, s.mcUrgFull), (McStatus.PAUSE, decide (s.mc.cyc.phase = 3))]

/-- The next request to serve at `t`: urgent, then scheduled by due tick. The self-check of MC_1 precedes all (R282). -/
def mcNext (s : State) (t : Tick) : Option (McReq × State) :=
  if s.mc.switch ≠ 0 then
    some ({ input := if s.mc.switch = 1 then 1022 else if s.mc.switch = 2 then 1016 else 1017, alt := false, cls := 9, due := t }, s)
  else match s.mc.urg with
    | q :: r =>
      let s := s.modMc fun m => { m with urg := r }
      some (q, match s.mc.urgWait with
        | w :: ws => s.modMc fun m => { m with urg := insertReq w m.urg, urgWait := ws }
        | [] => s)
    | [] => match s.mc.sched with
      | q :: r => some (q, s.modMc fun m => { m with sched := r })
      | [] => none

/-- Start the next cycle at `t`, unless the queue is full (R274, R278). -/
def mcKick (s : State) (t : Tick) : State :=
  if s.mc.cyc.phase ≠ 0 then s.syncMc
  else match s.mcNext t with
    | none => s.syncMc
    | some (q, s') =>
      if s.mcFull then
        if s.mc.stalled then s.syncMc
        else (((s.modMc fun m => { m with stalled := true }).satInc Mc.MC_STALL 32 1).setBit Mc.MC_STATUS McStatus.STALLED true).syncMc
      else (s'.modMc fun m => { m with stalled := false, cyc := { phase := 1, due := t + 960, req := some q } }).syncMc

/-- Return the request of a start-up to its place. -/
def mcReturn (s : State) : State :=
  match s.mc.cyc.phase, s.mc.cyc.req with
  | 1, some q =>
    let s := s.modMc fun m => { m with cyc := {} }
    if s.mc.switch ≠ 0 then s
    else if q.urg then s.modMc fun m => { m with urg := q :: m.urg } else s.modMc fun m => { m with sched := q :: m.sched }
  | _, _ => s

/-- An urgent request arrives at `t`: one repeat of an input at a time; a full FIFO makes hardware wait; a start-up on a
scheduled request gives way (R275, R283). -/
def mcUrgent (s : State) (q : McReq) (t : Tick) : State :=
  let q := { q with urg := true, due := t }
  if !q.soft && (s.mc.urg ++ s.mc.urgWait).any (fun u => !u.soft && sameReq u q) then s
  else if s.mcUrgFull then s.modMc fun m => { m with urgWait := m.urgWait ++ [q] }
  else
    let s := s.modMc fun m => { m with urg := insertReq q m.urg }
    match s.mc.cyc.phase, s.mc.cyc.req with
    | 1, some c => if c.urg || decide (s.mc.switch ≠ 0) then s.syncMc else (s.mcReturn).mcKick t
    | _, _ => s.mcKick t

/-- A scheduled request. -/
def mcSchedule (s : State) (q : McReq) (t : Tick) : State := (s.modMc fun m => { m with sched := insertReq q m.sched }).mcKick t

/-- Supervision runs (R282 step 4). -/
def supvOn (s : State) : Bool := s.bit Mc.MC_STATUS McStatus.SUPV_ON

/-! ### The cycle (R274) -/

/-- The port's slices are not read back (R69): while their output stage is off, and in the intervals that `blankUntil` ends. -/
def rbBlocked (s : State) (p : Nat) (t : Tick) : Bool := decide (t < (s.px p).force.blankUntil) || !s.oe p || s.gated p

/-- What a request is compared with at its sampling instant (R279, R283): its own class, or for a software request the class in
which its input is due. -/
def mcCompares (s : State) (q : McReq) (t : Tick) : Bool :=
  s.supvOn && s.mcActive q.input q.alt &&
    (!q.soft || s.mc.sched.any (fun r => !r.soft && decide (r.input = q.input) && decide (r.alt = q.alt) && decide (r.due ≤ t))) &&
    (match mcClass q.input q.alt with
     | 2 => decide (((s.px (s.slicePort (q.input / 7))).thAt.getD (q.input % 7 - 1) 0) + 640 ≤ t ∨
         ((s.px (s.slicePort (q.input / 7))).thAt.getD (q.input % 7 - 1) 0) = 0)
     | 1 => !s.rbBlocked (s.slicePort (q.input / 7)) t
     | 7 => decide (q.input ≠ 1020) || decide (s.rQ Ca.REFX_VALUE ≠ 0)
     | _ => true)

/-- Expected value of a threshold: the voltage of its code (R148), 2.75 V at full scale of the 14-bit DAC. -/
def thVolts (s : State) (p k : Nat) : Rat := mkRat ((s.fld (Pt.TH_CODES p) (16 * k) 16 : Int) - 8192) 8192 * mkRat 5 2

/-- A supervised read-back whose sampling instant falls in an interval without read-back is not compared there; it is due again at the end
of the interval (R69). -/
def rbLate (s : State) (q : McReq) (p : Nat) (t : Tick) : State :=
  s.when (decide (p < 128) && !q.soft && s.rbBlocked p t) fun s =>
    s.modForce p fun f => if q.urg && decide (s.rN (Pt.DRIVE_SLICE p) = q.input / 7) then { f with rbUrgent := true } else { f with rbDeferred := true }

/-- The sampling instant of the cycle. -/
def mcSample (s : State) (q : McReq) : State :=
  let t := s.mc.cyc.due
  let cls := if q.cls = 9 then 9 else mcClass q.input q.alt
  let sl := q.input / 7
  let p := if q.input < 1008 then s.slicePort sl else 0xFF
  let s := if cls = 1 then s.rbLate q p t else s
  let e : Rat × Rat :=
    if cls = 1 then (s.voltsAt p (t - us4), s.rQ (Pt.READBACK_TOL p) + s.voltsSpread p t)
    else if cls = 2 then (s.thVolts p (q.input % 7 - 1), s.rQ Mc.TH_TOL)
    else (0, 0)
  s.modMc fun m => { m with cyc := { phase := 2, due := t + 640, req := some q, at_ := t, comp := q.cls = 9 || s.mcCompares q t,
                                     cls := cls, port := p, expV := e.1, tol := e.2 } }

/-! ### Comparison (R279) -/

/-- REF_0 and REF_1 of a self-check, as codes: they differ by more than 0.05 %, or agree and are both off by more than 0.3 %. -/
def refsDiffer (a b : Int) : Bool := let l := mkRat 11 131072; decide (mkRat 1 1000 < absR ((a - b : Int) * l))
def refsOff (a b : Int) : Bool :=
  let l := mkRat 11 131072
  !refsDiffer a b && decide (mkRat 6 1000 < absR ((a : Rat) * l - 2)) && decide (mkRat 6 1000 < absR ((b : Rat) * l - 2))

/-- A compared reading is outside the tolerance of its class. -/
def mcOot (s : State) (c : McCyc) (q : McReq) (code : Int) (ovf : Bool) : Bool :=
  let v := (code : Rat) * mcLsb q.input q.alt
  match c.cls with
  | 1 => ovf || decide (c.tol < absR (v - c.expV))
  | 2 => ovf || decide (c.tol < absR (v - c.expV))
  | 3 => ovf || decide (mkRat 3 10 < absR v)
  | 4 => decide (mkRat 125 10000 < absR (v - mkRat 5 2))
  | 5 => decide (s.rQ Mc.TJ_WARN < v)
  | 8 => decide (s.rQ Mc.TJ_WARN < v)
  | 6 =>
    let n := supNominal (q.input - 1008) (s.mc.vddio33.getD false)
    decide (absR n / 20 < absR (v - n))
  | 7 =>
    let n := if q.input = 1020 then s.rQ Ca.REFX_VALUE else 2
    decide (absR n / 200 < absR (v - n))
  | _ =>
    if q.input = 1022 then decide (8 < absI code)
    else if q.input = 1017 then refsOff s.mc.ref0 code
    else false

def mcFaultAt (cls : Nat) : Nat := if cls = 5 ∨ cls = 7 ∨ cls = 8 then 1 else 2

/-! ### Latest values (R284, R286) -/

/-- GROUP_TEMP: the mean of the slices that are not RETIRED. -/
def groupTemp (s : State) (g : Nat) : State :=
  let l := ((List.range 9).map (9 * g + ·)).filter fun i => decide (s.roleOf i ≠ 4)
  if l = [] then s else s.setQ (Gr.GROUP_TEMP g) ((l.map fun i => s.rQ (Sl.SLICE_TEMP i)).foldl (· + ·) 0 / (l.length : Nat))

/-- Keep the latest value of an input. -/
def mcLatest (s : State) (c : McCyc) (q : McReq) (code : Int) : State :=
  let v := (code : Rat) * mcLsb q.input q.alt
  let sl := q.input / 7
  if q.input < 1008 then
    match q.input % 7, q.alt with
    | 0, true => (s.setQ (Sl.SLICE_TEMP sl) v).groupTemp (sl / 9)
    | 0, false => if c.port < 128 ∧ s.roleOf sl = 0 then s.setQ (Pt.READBACK_LAST c.port) v else s
    | 5, false => s.setQ (Sl.FREF_F_V sl) v
    | 5, true => s.setQ (Sl.GSNS_F_V sl) v
    | 6, false => s.setQ (Sl.FREF_M_V sl) v
    | 6, true => s.setQ (Sl.GSNS_M_V sl) v
    | _, _ => s
  else if q.input ≤ 1021 then
    let s := s.setQ (Mc.MON_1008 + (q.input - 1008)) v
    if q.input = 1013 ∧ s.mc.vddio33 = none then s.modMc fun m => { m with vddio33 := some (decide (mkRat 255 100 < v)) } else s
  else s

/-! ### Faults -/

/-- GND_FAULT of a port begins: trip cause GND, and the clear code, as for FLT_IN (R43). -/
def gndStart (s : State) (p : Nat) (t : Tick) : State :=
  if (s.px p).gnd then s
  else
    let s := (s.modPx p fun x => { x with gnd := true }).jEdge p 12 0 t
    if s.gated p then s.syncPort p else (s.trip p Cause.gnd t 0).clearPort p t

/-- GND_FAULT ends; nothing is re-armed, and the clear of an OFF port ends as when FLT_IN falls (R43, R67). -/
def gndEnd (s : State) (p : Nat) (t : Tick) : State :=
  if (s.px p).gnd then ((s.modPx p fun x => { x with gnd := false }).jEdge p 13 0 t).clearEnds p t else s

/-- DAC_MISMATCH (R70, R71). DESIGN CHOICE (log entry 87): on an OFF port the clear code of READBACK_ACTION 1 or 2 stays until a later clear
cause ends or a disable sequence reaches OFF. -/
def dacMismatch (s : State) (sl p : Nat) (t : Tick) : State :=
  if s.roleOf sl = 1 then s.note sl Note.readback t
  else if 128 ≤ p then s
  else
    let s := s.setBit (Pt.FORCE_STATUS p) ForceStatus.MISMATCH true
    let a := s.live p (Pt.READBACK_ACTION p)
    let s := if a = 0 then s else s.clearPort p t
    if a = 2 then s.trip p Cause.dac t 0 else s

/-- Every enabled port runs the disable sequence (R437, R440). -/
def disableAll (s : State) (t : Tick) : State :=
  (List.range 128).foldl (fun s p =>
    if s.portState p = 1 ∨ s.portState p = 2 then s.gcPush { port := p, op := .disable, since := t } else s) s

/-- A supply fault (R437). -/
def supplyFault (s : State) (k : Nat) (t : Tick) : State :=
  let s := (s.setBit Mc.SUP_FAULT k true).setBit Mc.MC_STATUS McStatus.SUP_FLT true
  let s := s.modMc fun m => { m with supBad := putBit m.supBad k true }
  if k = 0 ∨ k = 1 ∨ k = 5 then s.later t (.pfw true)
  else if k = 2 ∨ k = 3 ∨ k = 4 then (s.setBit Pw.PWR_STATUS PwrStatus.ANALOG_FLT true).disableAll t
  else s

/-- The fault of a supply ends at its first reading within tolerance. -/
def supplyGood (s : State) (k : Nat) (t : Tick) : State :=
  let s := s.modMc fun m => { m with supBad := putBit m.supBad k false }
  let s := if (k = 0 ∨ k = 1 ∨ k = 5) ∧ s.coreSupplyBad = false then s.later t (.pfw false) else s
  s.setBit Pw.PWR_STATUS PwrStatus.ANALOG_FLT (decide (field s.mc.supBad 2 3 ≠ 0))

/-- No working converter (R282 step 4): supervision stops; software requests are still served. -/
def mcDead (s : State) : State :=
  let s := (s.setBit Mc.MC_STATUS McStatus.MC_FAIL true).setBit Mc.MC_STATUS McStatus.SUPV_ON false
  s.modMc fun m => { m with switch := 0, urg := m.urg.filter (·.soft), urgWait := [], sched := m.sched.filter (·.soft) }

/-- The self-check fault (R282). -/
def selfCheckFault (s : State) : State :=
  if s.rN Mc.MC_ACTIVE = 0 ∧ s.bit Ag.GARNET_FREE 6 = true then s.modMc fun m => { m with switch := 1, zeroBad := false }
  else s.mcDead

/-- The self-check of MC_1 has ended: it takes over, or has failed (R282 steps 2-4). -/
def mcTakeOver (s : State) (ok : Bool) (t : Tick) : State :=
  let s := s.modMc fun m => { m with switch := 0 }
  if ok then
    let s := ((s.set Mc.MC_ACTIVE 1).setBit Mc.MC_STATUS McStatus.MC_SWITCHED true).modMc fun m => { m with counts := [] }
    s.garnet 6 Gk.mc 1 0 t
  else s.mcDead

/-- A fault of a class is raised for an input (R279). -/
def mcFault (s : State) (c : McCyc) (q : McReq) (t : Tick) : State :=
  let sl := q.input / 7
  match c.cls with
  | 1 => s.dacMismatch sl c.port t
  | 2 => (s.setBit (Sl.SUPV_STATUS sl) (q.input % 7 - 1) true).note sl Note.threshold t
  | 3 =>
    let s := s.setBit (Sl.SUPV_STATUS sl) (if q.input % 7 = 5 then SupvStatus.GND_F_FAULT else SupvStatus.GND_M_FAULT) true
    if c.port < 128 then s.gndStart c.port t else s
  | 4 =>
    let s := (s.setBit (Sl.SUPV_STATUS sl) (if q.input % 7 = 5 then SupvStatus.FREF_F else SupvStatus.FREF_M) true).note sl Note.fref t
    s.modSx sl fun x => { x with wornWant := x.wornWant ||| 8 }
  | 5 => s.setBit Mc.MC_STATUS McStatus.TEMP_WARN true
  | 8 => s.setBit Mc.MC_STATUS McStatus.TEMP_WARN true
  | 6 => s.supplyFault (q.input - 1008) t
  | 7 => if q.input ≤ 1019 ∧ s.bit Ca.REF_CELLS (q.input - 1016) = true then s.cellRetire (q.input - 1016) t else s
  | _ => s.selfCheckFault

/-- What a compared reading does (R279, R280, R70). DESIGN CHOICE (log entry 88): MISMATCH_COUNT of the port counts the readings of the slice in
DRIVE only; those of a slice in SHADOW go to its health record alone (R71). -/
def mcCompare (s : State) (c : McCyc) (q : McReq) (code : Int) (oot : Bool) (t : Tick) : State :=
  let key := mcKey q.input q.alt
  let sl := q.input / 7
  let v := (code : Rat) * mcLsb q.input q.alt
  let n := if oot then Tab.get (fun _ => 0) s.mc.counts key + 1 else 0
  let s := s.modMc fun m => { m with counts := Tab.set (fun _ => 0) m.counts key n }
  let s := if c.cls = 1 then s.modSx sl fun x => { x with rbBad := oot } else s
  let s := if c.cls = 1 ∧ oot = true ∧ c.port < 128 ∧ s.roleOf sl = 0 then s.satInc (Pt.MISMATCH_COUNT c.port) 32 1 else s
  let s := if oot && !q.rep then s.mcUrgent { input := q.input, alt := q.alt, cls := c.cls, due := t, rep := true } t else s
  let s := if oot && decide (n = mcFaultAt c.cls) then s.mcFault c q t else s
  let s := if c.cls = 6 ∧ oot = false ∧ bitOf s.mc.supBad (q.input - 1008) = true then s.supplyGood (q.input - 1008) t else s
  if c.cls = 3 ∧ absR v ≤ mkRat 1 4 then
    let s := s.setBit (Sl.SUPV_STATUS sl) (if q.input % 7 = 5 then SupvStatus.GND_F_FAULT else SupvStatus.GND_M_FAULT) false
    if c.port < 128 ∧ s.bit (Sl.SUPV_STATUS sl) SupvStatus.GND_F_FAULT = false ∧ s.bit (Sl.SUPV_STATUS sl) SupvStatus.GND_M_FAULT = false then
      s.gndEnd c.port t
    else s
  else s

/-- The self-check of R279 goes on: ZERO, then REF_0, then REF_1. -/
def selfCheckNext (s : State) (q : McReq) (code : Int) (t : Tick) : State :=
  if q.cls ≠ 9 then s
  else if q.input = 1022 then
    if q.rep then s else s.mcSchedule { q with input := 1016, due := t } t
  else if q.input = 1016 then (s.modMc fun m => { m with ref0 := code }).mcSchedule { q with input := 1017, due := t } t
  else s.when (refsDiffer s.mc.ref0 code) fun s => s.setBit Mc.MC_STATUS McStatus.REF_DISAGREE true

/-- The self-check of MC_1 goes on (R282 step 1). -/
def mcSwitchNext (s : State) (q : McReq) (code : Int) (t : Tick) : State :=
  if q.input = 1022 then s.modMc fun m => { m with switch := 2, zeroBad := decide (8 < absI code) }
  else if q.input = 1016 then s.modMc fun m => { m with switch := 3, ref0 := code }
  else s.mcTakeOver (!s.mc.zeroBad && !refsOff s.mc.ref0 code) t

/-- The conversion of the cycle is complete at `t` (R274, R277, R279). The first reading of VDD_IO settles its nominal voltage, against which it is
compared (R273). -/
def mcDone (s : State) (c : McCyc) (q : McReq) (code : Int) (ovf : Bool) (t : Tick) : State :=
  let s := s.mcLatest c q code
  let sw := decide (s.mc.switch ≠ 0)
  let spare := sw || decide (s.rN Mc.MC_ACTIVE = 1)
  let gated := decide (q.input < 1008) && decide (s.groupState (q.input / 63) = 3)
  let comp := c.comp && !gated && !sw
  let oot := (c.comp || sw) && !gated && s.mcOot c q code ovf
  let late := !q.urg && decide (q.due + 640000 < c.at_) && !sw
  let w := mcWord q.input (ofSigned 16 code) spare late oot q.urg ovf q.alt 0
  let seq := s.mc.seq
  let s := (s.mcPush w c.at_).wrapInc Mc.MC_CONV_COUNT 32 1
  let s := s.when late fun s => (s.satInc Mc.MC_LATE 32 1).setBit Mc.MC_STATUS McStatus.LATE_SEEN true
  let s := s.when ovf fun s => s.satInc Mc.MC_OVR_COUNT 32 1
  let s := if q.soft then ((s.modMc fun m => { m with softBusy := false }).set Mc.MC_RESULT (w + seq % 256)).set Mc.MC_RESULT_TIME (s.timeNs c.at_) else s
  let s := s.modMc fun m => { m with cyc := if ovf then { phase := 3, due := t + 2560 } else {} }
  let s := s.when (decide (c.cls = 9) && oot) fun s => s.setBit Mc.MC_STATUS McStatus.CHECK_FAIL true
  let s := if comp then s.mcCompare c q code oot t else s
  let s := if sw then s.mcSwitchNext q code t else s.selfCheckNext q code t
  s.mcKick t

/-! ### Read-backs (R69) -/

/-- The slices of a port that are read back: the one in DRIVE and one in SHADOW. -/
def rbSlices (s : State) (p : Nat) : List Nat :=
  let d := s.rN (Pt.DRIVE_SLICE p)
  let g := groupOf p
  let sh := ((List.range 9).map (9 * g + ·)).filter fun i => decide (s.roleOf i = 1) && decide (s.slicePort i = p)
  (if d < 144 then [d] else []) ++ sh

/-- Request the read-backs of a port that are due at `t` (R69); those due in an interval without read-back are deferred. -/
def rbRequest (s : State) (p : Nat) (t : Tick) : State :=
  if !s.supvOn then s
  else if s.rbBlocked p t then s.modForce p fun f => { f with rbDeferred := true }
  else (s.rbSlices p).foldl (fun s i => s.mcSchedule { input := 7 * i, alt := false, cls := 1, due := t } t) s

/-- READBACK_NOW: an urgent read-back of the slice in DRIVE, deferred as a due one is (R69, R75). -/
def readbackNow (s : State) (p : Nat) (t : Tick) : State :=
  let d := s.rN (Pt.DRIVE_SLICE p)
  if 144 ≤ d then s
  else if s.rbBlocked p t then s.modForce p fun f => { f with rbUrgent := true }
  else s.mcUrgent { input := 7 * d, alt := false, cls := 1, due := t } t

/-- The self-check and one reading of every supply, at boot step 10 (R421). -/
def mcSelfTest (s : State) (t : Tick) : State :=
  let s := s.mcSchedule { input := 1022, alt := false, cls := 9, due := t } t
  (List.range 8).foldl (fun s k => s.mcSchedule { input := 1008 + k, alt := false, cls := 6, due := t } t) s

end State
end Sys2Proof.Machine
end

