-- ==== Sys2Proof/Machine/GcQueue.lean ====
section
/-!
DEFINITION. The command queue of a group controller (R13, R14): what each queued command does when it is applied, the commands of a port
taken at its tick boundary, and a command sent to the queue.
-/

namespace Sys2Proof.Machine
namespace State

/-- An enable request that is applied at `t` (R348, R432). Its conditions are those of the moment. In a calibration window it waits for the end of
the window (R328), and in DISABLING for OFF. -/
def enableReq (s : State) (p : Nat) (t : Tick) : State :=
  let st := s.portState p
  if s.groupState (groupOf p) ≠ 0 then (if st = 2 then s else s.setBit (Pt.PORT_STATUS p) PortStatus.REFUSED true)
  else if st = 3 ∨ (st = 0 ∧ s.winHolds p = true) then s.setBit (Pt.PORT_STATUS p) PortStatus.ENABLE_PENDING true
  else if st = 0 then (if (s.enableReason p).isNone then (s.rotPreempt p t).enableNow p t else s.enableTry p t)
  else s

/-- FORCE_CTRL takes effect (R66, R75). -/
def forceCtrlDo (s : State) (p v : Nat) (t : Tick) : State :=
  let s := if bitOf v 1 then s.readbackNow p t else s
  if bitOf v 0 then s.releaseApply p t else s

/-- GO ends the WAIT of the port's window. -/
def winGo (s : State) (p : Nat) (t : Tick) : State :=
  let g := groupOf p
  if s.rN (Gr.WIN_STATE g) = 2 ∧ s.rN (Gr.WIN_PORT g) = localOf p then s.winAlign g t else s

/-- ABORT of the port's window: skipped in steps 1-3; in step 4 or 5 the run aborts and the port is enabled again. -/
def winAbortReq (s : State) (p : Nat) (t : Tick) : State :=
  let g := groupOf p
  let w := s.rN (Gr.WIN_STATE g)
  if s.rN (Gr.WIN_PORT g) ≠ localOf p then s
  else if w = 1 ∨ w = 2 ∨ w = 3 then
    (((s.satInc (Gr.ROT_SKIP g) 16 1).set (Gr.WIN_STATE g) 0).set (Gr.WIN_PORT g) 0xFF).rotNext g (localOf p + 1) t
  else if w = 5 then s.runStop g 6 t
  else if w = 4 then
    let s := ((s.rotBit g RotStatus.PREEMPT true).set (Gr.WIN_STATE g) 6).satInc (Pt.WIN_COUNT p) 32 1
    (s.setBit (Pt.PORT_STATUS p) PortStatus.ENABLE_PENDING (!(s.rot g).winStay)).later t (.rot g)
  else s

/-- WIN_CTRL takes effect: an ABORT takes the place of a GO. -/
def winCtrlDo (s : State) (p v : Nat) (t : Tick) : State := if bitOf v 1 then s.winAbortReq p t else if bitOf v 0 then s.winGo p t else s

/-- One command of a group controller queue is applied at `t` (R13, R66, R172, R191). -/
def gcApply (s : State) (c : GcCmd) (t : Tick) : State :=
  let p := c.port
  let s := if c.key = 0 then s else s.jConfig c.key c.who c.val
  match c.op with
  | .setEntry k _ _ => s.applyEntry p k t
  | .disable =>
    if s.portState p = 3 then s.setBit (Pt.PORT_STATUS p) PortStatus.ENABLE_PENDING false else s.disableNow p t
  | .quiesce => s.disableNow p t
  | .enable => s.enableReq p t
  | .forceCtrl v => s.forceCtrlDo p v t
  | .winCtrl v => s.winCtrlDo p v t
  | .pgen v =>
    let start := bitOf v 0 && !bitOf v 1
    let s := if start then
        (s.eventStart p t 0 []).1
      else s
    let s := if bitOf v 1 then s.trainStop p (s.stopMode p) t else s
    let s := if bitOf v 2 then
        (match s.rearmReason p t with
         | some _ => if s.tripped p then s.setBit (Pt.PGEN_STATUS p) PgenStatus.REARM_REFUSED true else s
         | none => s.rearm p t)
      else s
    if bitOf v 3 then s.trip p Cause.sw t 0 else s
  | .abortCtx ctx => s.abortCtx p ctx t
  | .own v => s.later t (.own v)

/-- The commands of a port that were accepted before `t`, in order (R13, R107 step 2). DESIGN CHOICE (log entry 89): the order of arrival is kept among
the commands of one port; commands of different ports in one queue take effect each at its own port's tick boundary (R14). -/
def gcRun (s : State) (p : Nat) (t : Tick) : Nat → State
  | 0 => s
  | n + 1 =>
    let g := groupOf p
    match (s.gx g).queue.find? (fun c => decide (c.port = p ∧ c.since < t)) with
    | none => s
    | some c =>
      -- a disable completes the force transfer in progress first (R32)
      if (decide (c.op = .disable) || decide (c.op = .quiesce)) && s.inTransfer p then s else ((s.modGx g fun x => { x with queue := x.queue.erase c }).gcApply c t).gcRun p t n

/-- No earlier command of the port waits, and the queue of its group controller has room. -/
def queueFree (s : State) (p : Nat) : Bool :=
  let g := s.gx (groupOf p)
  decide (s.gcOf p = []) && decide (g.queue.length < gcDepth) && decide (g.held = [])

/-- Send a command to the group controller at `t` (R13). One that does not wait for a tick boundary, and finds no earlier command of its port and
room in the queue, is applied and answered at once. -/
def gcSend (s : State) (who key v : Nat) (c : GcCmd) (waits : Bool) (t : Tick) : State :=
  if !waits && s.queueFree c.port then
    let s := match c.op with
      | .setEntry k _ x => s.set k x
      | _ => s
    (s.gcApply { c with who := who, key := key, val := v } t).accept who key []
  else s.gcSubmit who key v c

end State
end Sys2Proof.Machine
end

