-- ==== Sys2Proof/Machine/RecCore.lean ====
section
/-!
DEFINITION. The recorder (R397-R407): the store, the commands to the drive, shedding and checkpoints; the ports, the end and the report of a replay
session (R408, R411, R412). What the drive holds comes with the commands.
-/

namespace Sys2Proof.Machine
namespace State

def modRec (s : State) (f : RecX → RecX) : State := { s with rcd := f s.rcd }
def recRun (s : State) : Bool := s.bit Rc.J_STATUS JStatus.RUN

/-! ### The store (R398, R399) -/

/-- STORE_CHUNKS for the chunk positions of the two namespaces. -/
def storeChunks (c : Nat × Nat) : Nat :=
  min (2 ^ 30) (if c.1 ≤ 2 then 0 else if c.2 = 0 then c.1 - 2 else 2 * (min c.1 c.2 - 2))

/-- The store header is committed with the present counts as soon as the drive is free. -/
def headerDue (s : State) : State := s.modRec fun r => { r with headerWait := true }

/-- The counts of the store. -/
def setCounts (s : State) (oldest next off : Nat) : State :=
  ((s.set Rc.CHUNK_OLDEST oldest).set Rc.CHUNK_NEXT next).set Rc.OFFLOADED off

/-- Lay out the store afresh (R399). -/
def layOut (s : State) : State :=
  ((s.set Rc.STORE_CHUNKS (storeChunks s.rcd.caps)).setCounts 0 0 0).headerDue

/-- The drives have been identified. -/
def driveSeen (s : State) (d : DriveInfo) : State :=
  s.modRec fun r => { r with caps := (d.n0, d.n1), hdr := d.header.map fun h => (h.n0, h.n1),
                             saved := match d.header with | some h => (h.oldest, h.next, h.offloaded) | none => (0, 0, 0) }

/-- The store is put in use (R397, R399): NO_STORE without a usable namespace, or where the header's geometry differs; a store without
a header is laid out afresh; `next`: CHUNK_NEXT found by a scan. -/
def storeOpen (s : State) (next : Nat) : State :=
  let n := storeChunks s.rcd.caps
  if n = 0 then s.setBit Rc.J_STATUS JStatus.NO_STORE true
  else match s.rcd.hdr with
    | none => (s.setBit Rc.J_STATUS JStatus.NO_STORE false).layOut
    | some g =>
      if g ≠ s.rcd.caps then s.setBit Rc.J_STATUS JStatus.NO_STORE true
      else
        let h := s.rcd.saved
        ((s.setBit Rc.J_STATUS JStatus.NO_STORE false).set Rc.STORE_CHUNKS n).setCounts (max h.1 (next - n)) next (max h.2.2 (max h.1 (next - n)))

/-! ### Commands to the drive (R406) -/

/-- The next chunk may be written: always under OVERWRITE, else while its position is free. -/
def chunkFree (s : State) : Bool :=
  decide (s.rN Rc.J_FULL_MODE = 0) || decide (s.rN Rc.CHUNK_NEXT < s.rN Rc.OFFLOADED + s.rN Rc.STORE_CHUNKS)

def issue (s : State) (c : NvCmd) : State := (s.modRec fun r => { r with cmd := some c }).out (.nvme c.kind ((c.chunk.map (·.no)).getD 0))

/-- Give the drive its next command at `t`, if it is free: a header that is due, then the oldest staged chunk, then a Flush. -/
def recKick (s : State) (t : Tick) : State :=
  if s.rcd.cmd.isSome || s.bit Rc.J_STATUS JStatus.NO_STORE || s.bit Rc.J_STATUS JStatus.SCAN || s.bit Rc.J_STATUS JStatus.FAULT ||
      decide (s.rN Rc.STORE_CHUNKS = 0) then s
  else if s.rcd.headerWait then (s.modRec fun r => { r with headerWait := false }).issue { kind := 1, issued := t }
  else match s.rcd.staged with
    | c :: rest =>
      if s.chunkFree then
        (s.modRec fun r => { r with staged := rest }).issue { kind := 0, chunk := some { c with no := s.rN Rc.CHUNK_NEXT }, issued := t }
      else if s.bit Rc.J_STATUS JStatus.FULL_STOP then s
      else (s.setBit Rc.J_STATUS JStatus.FULL_STOP true).modRec fun r => { r with gapBefore := true, gapCause := some (4, t) }
    | [] => if s.rcd.flushWait then (s.modRec fun r => { r with flushWait := false }).issue { kind := 2, issued := t } else s

/-- A chunk has been written at `t` (R399, R406). -/
def chunkWritten (s : State) (t : Tick) : State :=
  let n := s.rN Rc.CHUNK_NEXT + 1
  let cap := s.rN Rc.STORE_CHUNKS
  let oldest := max (s.rN Rc.CHUNK_OLDEST) (n - cap)
  let lapped := decide (s.rN Rc.OFFLOADED < oldest)
  let s := s.setCounts oldest n (max (s.rN Rc.OFFLOADED) oldest)
  let s := s.when lapped fun s => s.setBit Rc.J_STATUS JStatus.LAPPED true
  let s := s.modRec fun r => { r with sinceHeader := r.sinceHeader + 1 }
  let sc := t / Sys2Proof.sec
  let s := if sc = s.rcd.rateSec then s.modRec fun r => { r with rateBytes := r.rateBytes + 4096 }
    else (s.setQ Rc.J_RATE (if sc = s.rcd.rateSec + 1 then (s.rcd.rateBytes : Nat) else 0)).modRec fun r => { r with rateSec := sc, rateBytes := 4096 }
  s.when (decide (1024 ≤ s.rcd.sinceHeader)) fun s => s.headerDue

/-- The command under way has succeeded at `t`. -/
def cmdOk (s : State) (c : NvCmd) (t : Tick) : State :=
  let s := s.modRec fun r => { r with cmd := none }
  let s := match c.kind with
    | 0 => s.chunkWritten t
    | 1 => s.modRec fun r => { r with sinceHeader := 0, headerAt := t, hdr := some r.caps,
                                      saved := (s.rN Rc.CHUNK_OLDEST, s.rN Rc.CHUNK_NEXT, s.rN Rc.OFFLOADED) }
    | _ => s
  s.recKick t

/-- The command under way has failed or is overdue at `t`: one retry after 1 ms, then FAULT (R406). -/
def cmdBad (s : State) (c : NvCmd) (t : Tick) : State :=
  if !c.retried then s.modRec fun r => { r with cmd := some { c with retried := true, retryAt := some (t + 640000) } }
  else
    let s := (s.setBit Rc.J_STATUS JStatus.FAULT true).setBit Rc.J_STATUS JStatus.RUN false
    s.modRec fun r => { r with cmd := none, gapBefore := true, gapCause := some (3, t),
                               staged := match c.chunk with | some k => k :: r.staged | none => r.staged }

/-! ### Shedding (R404, R405) -/

/-- The ports selected for J_2. -/
def j2Ports (s : State) : List Nat :=
  if s.rN Rc.J_LEVEL = 2 then
    (List.range 128).filter fun p => s.bit (if p < 64 then Rc.J2_PORTS_LO else Rc.J2_PORTS_HI) (p % 64)
  else []

def shedOf (s : State) (p : Nat) : Option Tick := Tab.get (fun _ => none) s.rcd.shed p
def setShed (s : State) (p : Nat) (x : Option Tick) : State := s.modRec fun r => { r with shed := Tab.set (fun _ => none) r.shed p x }
def snapWant (s : State) (p : Nat) : State := s.modRec fun r => { r with snapDue := Tab.set (fun _ => false) r.snapDue p true }

/-- J_2 data of every selected port is shed from `t`. -/
def shedStart (s : State) (t : Tick) : State :=
  let ps := s.j2Ports
  let s := s.when (decide (ps ≠ [])) fun s => s.setBit Rc.J_STATUS JStatus.SHED true
  ps.foldl (fun s p => if (s.shedOf p).isSome then s else ((s.jFastFlush p).lchkFlush p).setShed p (some t)) s

/-- Shedding ends at `t`: each shed port receives a GAP with cause SHED, and a SNAP follows. -/
def shedEnd (s : State) (t : Tick) : State :=
  (List.range 128).foldl (fun s p => match s.shedOf p with
    | some a => ((s.setShed p none).putGap p 1 a (t - a)).snapWant p
    | none => s) s

/-- Compare the staging area with 3/4 and 1/2 (R405). -/
def shedCheck (s : State) (t : Tick) : State :=
  let n := s.stagedWords
  if !s.rcd.shedOn && decide (3 * stagingWords < 4 * n) then (s.modRec fun r => { r with shedOn := true }).shedStart t
  else if s.rcd.shedOn && decide (2 * n < stagingWords) then
    let s := s.modRec fun r => { r with shedOn := false }
    if s.rcd.pfwShed || s.bit Rc.J_STATUS JStatus.SCAN then s else s.shedEnd t
  else s

/-- The ports newly selected for J_2 take a SNAP at their next tick boundary. -/
def j2Select (s : State) (old : List Nat) : State := (s.j2Ports.filter fun p => decide (p ∉ old)).foldl (fun s p => s.snapWant p) s

/-! ### Records of lists and checkpoints (R403, R404) -/

/-- LIST records of points `k`, `k` + 1, … of a list, up to 7 in each. -/
def jList (s : State) (l k : Nat) : Nat → State
  | 0 => s
  | n + 1 =>
    let c := s.rN (Ls.COUNT l)
    if c ≤ k then s
    else
      let m := min 7 (c - k)
      let a := 0x340000 + 8 * (s.rN (Ls.FIRST_SLOT l) + k)
      let ws := (List.range (8 * m)).map fun i => (s.spadAt (a + i)).toNat
      (s.journal 0 12 0x502 s.now ((l * 2 ^ 30 + k * 2 ^ 14) :: ws)).jList l (k + 7) n

/-- Every entry that the configuration image holds. -/
def imageKeys : List Nat :=
  (List.range 0x9001).flatMap fun i =>
    match recOf i with
    | none => []
    | some e => ((rowsOf e.1).map fun w => 256 * i + w.sub).filter inImage

/-- Entries whose value the device derives and journals (R404). -/
def derivedKeys : List Nat :=
  ((List.range 128).flatMap fun p => [Pt.KSTAGE p, Pt.COMPL_HI_EFF p, Pt.COMPL_LO_EFF p, Pt.TH_CODES p, Pt.DIV_FLOOR p, Pt.SP_STEP_CAP p]) ++
    ((List.range 144).flatMap fun i => [Sl.GAIN_SEL i, Sl.OFFSET_SEL i, Sl.MARGIN_W i, Sl.DIV_PLAN i, Sl.DT_CAL_FACTOR i]) ++
    (List.range 16).map fun g => Gr.DT_CAL_EFF g

/-- A CONFIG record with CKPT set. -/
def jCkpt (s : State) (k : Nat) : State :=
  let tyc := keyType k
  let w0 := (k / 256) * 2 ^ 24 + (k % 256) * 2 ^ 16 + 0xFF * 2 ^ 8 + 128 + tyc
  let v := s.rN k
  let wide := decide (tyc = 6) || decide (tyc = 10) || decide (tyc = 13)
  s.journal 0 1 0x503 s.now (w0 :: (if wide then [v % 2 ^ 40, v / 2 ^ 40] else [v % 2 ^ 40]))

/-- PORT records of a checkpoint: a set trip latch, a running train, a hold. -/
def jPortCkpt (t : Tick) (p : Nat) (s : State) : State :=
  let s := if s.tripped p then
      s.jPort p 2 (s.rN (Pt.TRIP_CAUSE p) % 512 + 512 * (s.bit (Pt.PGEN_STATUS p) PgenStatus.TRIP_IN_PULSE).toNat) t
    else s
  let s := if (s.px p).pgen.train.isSome then s.jPort p 4 0 t else s
  if (s.px p).loopY.lastHold = 0 then s else s.jPort p 6 (s.px p).loopY.lastHold t

/-- LIST records of a list, if it is VALID. -/
def jListCkpt (l : Nat) (s : State) : State := if s.rN (Ls.LIST_STATE l) = 2 then s.jList l 0 9363 else s

/-- A checkpoint at `t` (R404). -/
def checkpoint (s : State) (t : Tick) : State :=
  let n := s.rcd.ckptNo % 2 ^ 32
  let s := s.journal 0 13 0x504 t [n * 256]
  let s := imageKeys.foldl jCkpt s
  let s := (derivedKeys.foldl jCkpt s).forAll 128 fun p s => s.jFactors p true
  let s := s.forAll 144 fun i s => s.jBytes (Sl.SEG_MAP i) 0xFF true (s.blob (Sl.SEG_MAP i))
  let s := s.forAll 128 (jPortCkpt t)
  let s := s.forAll 64 fun k s => s.jCkpt (Ec.EC_COUNT k)
  let s := s.forAll 1024 jListCkpt
  let s := s.journal 0 13 0x504 t [n * 256 + 1]
  s.modRec fun r => { r with ckptNo := r.ckptNo + 1, ckptAt := t + s.rN Rc.CKPT_INTERVAL * Sys2Proof.sec }

/-! ### Starting and stopping (R399, R406) -/

/-- The recorder starts at `t`. -/
def recStart (s : State) (t : Tick) : State :=
  if s.bit Rc.J_STATUS JStatus.NO_STORE then s.setBit Rc.J_STATUS JStatus.RUN false
  else
    let s := (s.setBit Rc.J_STATUS JStatus.RUN true).setBit Rc.J_STATUS JStatus.FAULT false
    let s := s.jOwed
    let s := s.j2Ports.foldl (fun s p => s.snapWant p) s
    let s := s.modRec fun r => { r with ckptAt := t + s.rN Rc.CKPT_INTERVAL * Sys2Proof.sec, snapAt := t + 640000 * s.rN Rc.J2_SNAP_INTERVAL }
    s.recKick t

/-- The open chunk closes and what is staged is written. -/
def recFlush (s : State) (t : Tick) : State :=
  let s := (List.range 128).foldl (fun s p => (s.jFastFlush p).lchkFlush p) s
  (s.closeChunk).recKick t

/-- J_EN written 0 (R406). -/
def recStop (s : State) (t : Tick) : State :=
  if s.recRun then
    ((s.recFlush t).setBit Rc.J_STATUS JStatus.RUN false).modRec fun r => { r with gapCause := some (5, t), gapBefore := true }
  else s

/-- The power-fail row of R406: J_2 is shed, the open chunk closes, the staged chunks are written and flushed. -/
def recPowerFail (s : State) (t : Tick) : State :=
  let s := if s.recRun then (s.modRec fun r => { r with pfwShed := true }).shedStart t else s
  (s.modRec fun r => { r with flushWait := s.recRun }).recFlush t

/-! ### Replay (R408, R411, R412) -/

/-- The ports that a session names. -/
def rpPorts (s : State) : List Nat := (List.range 128).filter fun p => s.bit (if p < 64 then Rp.RP_PORTS_LO else Rp.RP_PORTS_HI) (p % 64)

/-- The session ends with a result. -/
def rpEnd (s : State) (code : Nat) : State := (s.set Rp.RP_STATE 3).set Rp.RP_RESULT code

/-- RESULT of a session that ran to its end. -/
def rpVerdict (s : State) : Nat := if s.rcd.rp.any (fun e => decide (e.outcome = 1)) then 1 else 0

/-- RP_REPORT (R412). -/
def rpReport (s : State) : List Byte :=
  let l := s.rcd.rp
  leBytes 1 (s.rN Rp.RP_RESULT) ++ leBytes 1 l.length ++ leBytes 2 0 ++ leBytes 4 (s.rN Rp.RP_EPOCH) ++ leBytes 8 (s.rN Rp.RP_TICK) ++
    l.flatMap fun e =>
      leBytes 1 e.port ++ leBytes 1 e.fidelity ++ leBytes 1 e.outcome ++ leBytes 1 e.kind ++ leBytes 2 e.detail ++ leBytes 2 0 ++
        leBytes 8 e.tick ++ leBytes 8 e.lastGood ++ leBytes 8 (ofSigned 64 e.journal) ++ leBytes 8 (ofSigned 64 e.replay) ++ leBytes 8 e.chunk

end State
end Sys2Proof.Machine
end

