-- ==== Sys2Proof/Machine/TbCore.lean ====
section
/-!
DEFINITION. The timebase (R202-R217): the segments of the mapping, discipline measurements, the PLLs, PPS, PTP and the SYNC
link.
-/

namespace Sys2Proof.Machine
namespace State

def modTb (s : State) (f : TbX → TbX) : State := { s with tb := f s.tb }

def nomRate : Nat := 0x190000000

/-- The segment in force. -/
def segNow (s : State) : Seg := s.tb.segs.headD {}

/-- TB_STATUS: HOLDOVER of the PLL, on the reference or on the stream, or of RATE. -/
def syncTb (s : State) : State :=
  s.setBits Tb.TB_STATUS [(TbStatus.HOLDOVER, s.tb.pllHold || s.tb.syncHold || s.tb.rateHold), (TbStatus.PLL_LOCK, if s.rN Tb.PLL_ACTIVE = 0 then s.tb.pll0 else s.tb.pll1)]

/-- A new segment begins; the latest 64 are kept (R208). -/
def pushSeg (s : State) (g : Seg) : State := (s.modTb fun b => { b with segs := (g :: b.segs).take 64 }).jSegment g

/-- The counter starts: both PLLs are locked (R421), in a new epoch with its initial segment (R205, R207). Whether PLL_1 is still a spare
is known once the device record is loaded (`pllSpare`). -/
def epochStart (s : State) : State :=
  let s := s.modTb fun b => { role := b.role, pll0 := true, pll1 := true }
  let s := (s.set Tb.PLL_ACTIVE 0).set Tb.TB_STATUS 1
  (s.pushSeg {}).syncTb

/-- A PLL_1 that was consumed before is no spare (R203, R311). -/
def pllSpare (s : State) : State := s.modTb fun b => { b with pll1 := b.pll1 && bitOf (s.rN Ag.GARNET_FREE) 8 }

/-! ### Sources (R210) -/

/-- The mapping is the leader's (R213): TIME_SRC names no source of a follower. -/
def follows (s : State) : Bool := decide (s.tb.role = 2)
def srcPps (s : State) : Bool := !s.follows && decide (s.rN Tb.TIME_SRC = 1 ∨ s.rN Tb.TIME_SRC = 3)
def srcPtp (s : State) : Bool := !s.follows && decide (s.rN Tb.TIME_SRC = 2 ∨ s.rN Tb.TIME_SRC = 3)

/-- A source is locked: its last measurement lies within the last 2 s and was below 1 µs (R217). -/
def lockedAt (x : Option Tick) (t : Tick) : Bool := match x with | some a => decide (t ≤ a + 2 * Sys2Proof.sec) | none => false

/-- TB_STATUS as read at `t`: PPS_LOCK and PTP_LOCK lapse after 2 s (R217). -/
def tbStatusAt (s : State) (t : Tick) : Nat :=
  putBit (putBit (s.rN Tb.TB_STATUS) TbStatus.PPS_LOCK (lockedAt s.tb.ppsTick t)) TbStatus.PTP_LOCK (lockedAt s.tb.ptpTick t)

/-- A discipline measurement of source `src` (1 PPS, 2 PTP) at `t` (R209): it replaces one whose segment has not begun, and steps where that
one had to (R207). `phase`: it disciplines the mapping; a measurement that does not still counts as one (log entry 108). -/
def measured (s : State) (src : Nat) (ns : Int) (force phase : Bool) (t : Tick) : State :=
  let ok := decide (absI ns < 1000)
  let s := s.set Tb.OFFSET_LAST (ofSigned 64 ns)
  let s := s.modTb fun b => { b with
    theta := if phase then some { ns := ns, force := force || (b.theta.map (·.force)).getD false } else b.theta, lastMeas := some t, lastSrc := src, rateHold := false,
    ppsTick := if src = 1 then (if ok then some t else none) else b.ppsTick,
    ptpTick := if src = 2 then (if ok then some t else none) else b.ptpTick }
  (s.setBits Tb.TB_STATUS [(TbStatus.PPS_LOCK, s.tb.ppsTick.isSome), (TbStatus.PTP_LOCK, s.tb.ptpTick.isSome)]).syncTb

/-- The mapping steps at `t` (R209). -/
def stepped (s : State) (valid : Bool) (t : Tick) : State :=
  let s := (s.satInc Tb.STEP_COUNT 32 1).setBit Tb.TB_STATUS TbStatus.STEPPED true
  let s := s.when valid fun s => s.setBit Tb.TB_STATUS TbStatus.TAI_VALID true
  s.produce 0x08 0 t 0

/-- RATE limited to nominal ± RATE_LIM (R209). -/
def rateLimit (s : State) (r : Nat) : Nat :=
  let d := nomRate * s.rN Tb.RATE_LIM / 1000000
  max (nomRate - d) (min (nomRate + d) r)

/-- The segment that a measurement asks for begins at `t`: a step, or a slew that keeps the mapping continuous (R209). -/
def thetaSeg (s : State) (th : Theta) (t : Tick) : State :=
  let g := s.segNow
  let n := segTime g t
  let s := s.modTb fun b => { b with theta := none }
  if th.force || decide ((s.rN Tb.STEP_NS : Int) ≤ absI th.ns) then
    (s.pushSeg { t0 := t, n0 := (((n : Int) + th.ns) % 2 ^ 64).toNat, rate := g.rate }).stepped th.force t
  else
    let r := s.rateLimit (Config.servoRate g.rate th.ns (s.rN Tb.TB_TAU) s.fresh)
    { (s.pushSeg { t0 := t, n0 := n, rate := r }) with fresh := s.fresh + 1 }

/-- TAI_SET falls due at the millisecond boundary `t`: without PPS, at the first one strictly after its write (R210). -/
def taiDue (s : State) (t : Tick) : Option Nat :=
  match s.tb.taiSet with
  | some (v, a) => if s.srcPps = false ∧ a < t then some v else none
  | none => none

/-- The segment that begins at the millisecond boundary `t`, if one is due (R206, R207, R209, R210). A follower has the leader's only (R213). -/
def segmentDue (s : State) (t : Tick) : State :=
  if s.follows then
    match s.tb.nextSeg with
    | some l => if l.t0 ≤ t then (s.modTb fun b => { b with nextSeg := none }).pushSeg l else s
    | none => s
  else match s.taiDue t with
    | some v =>
      let rate := s.segNow.rate
      let s := s.modTb fun b => { b with taiSet := none, theta := none, ppsFirst := true }
      (s.pushSeg { t0 := t, n0 := v, rate := rate }).stepped true t
    | none =>
      match s.tb.theta with
      | some th => s.thetaSeg th t
      | none =>
        if s.rN Tb.TIME_SRC = 0 ∧ s.segNow.rate ≠ nomRate then s.pushSeg { t0 := t, n0 := segTime s.segNow t, rate := nomRate } else s

/-! ### PPS (R211) -/

/-- The nearest whole second to a time, in ns. -/
def nearSecond (n : Nat) : Nat := (n + 500000000) / 1000000000 * 1000000000

/-- A PPS_IN edge at its assigned tick (R210, R211). -/
def ppsEdge (s : State) (t : Tick) : State :=
  let s := s.jEdge 0x500 11 0 t
  if !s.srcPps then s
  else
    let n := s.timeNs t
    let off : Int := (nearSecond n : Int) - n
    let setDue := match s.tb.taiSet with | some (_, a) => decide (a < t) | none => false
    if setDue || s.tb.ppsFirst || !lockedAt s.tb.ppsTick t || decide (absI off ≤ s.rN Tb.PPS_WINDOW * 1000) then
      match setDue, s.tb.taiSet with
      | true, some (v, _) =>
        (s.modTb fun b => { b with taiSet := none, ppsFirst := false }).measured 1 ((v : Int) - n) true true t
      | _, _ => (s.modTb fun b => { b with ppsFirst := false }).measured 1 off false true t
    else (s.satInc Tb.PPS_REJECT 32 1).setBit Tb.TB_STATUS TbStatus.PPS_REJ true

/-- `t` is the first tick at or after a whole TAI second. -/
def secondAt (s : State) (t : Tick) : Bool :=
  s.bit Tb.TB_STATUS TbStatus.TAI_VALID && decide (t ≠ 0) && decide (s.timeNs (t - 1) / 1000000000 < s.timeNs t / 1000000000)

/-! ### PTP (R212) -/

/-- A PTP measurement is complete: the client's receive time and delay give the offset. The first since the counter started steps the
mapping (R207). In PPS_PTP the phase stays with PPS_IN and PTP gives the seconds, so that an offset below half a second begins no segment
(R210, DEDUCED, log entry 108). -/
def ptpMeasured (s : State) (rx : Tick) (origin : Nat) (c1 : Int) (reply : Nat) (c2 : Int) : State :=
  let here : Int := s.timeNs rx
  let off := (((origin : Int) + c1 - here) + ((reply : Int) - c2 - here)) / 2
  let first := !s.tb.ptpEver
  let s := s.modTb fun b => { b with ptpEver := true }
  s.measured 2 off first (first || decide (s.rN Tb.TIME_SRC ≠ 3) || decide (500000000 ≤ absI off)) rx

/-! ### PLLs (R203, R204) -/

/-- The PLL in use loses lock. -/
def pllLost (s : State) (t : Tick) : State :=
  if s.rN Tb.PLL_ACTIVE = 0 ∧ s.tb.pll1 = true then
    let s := (s.set Tb.PLL_ACTIVE 1).setBit Tb.TB_STATUS TbStatus.PLL_SWITCHED true
    ((s.modTb fun b => { b with pll0 := false }).garnet 8 Gk.pll 1 0 t).syncTb
  else s.later t (.reset 4)

def refLost (s : State) : State := ((s.setBit Tb.TB_STATUS TbStatus.REF_LOST true).modTb fun b => { b with pllHold := true }).syncTb
def refBack (s : State) : State := ((s.setBit Tb.TB_STATUS TbStatus.REF_LOST false).modTb fun b => { b with pllHold := false }).syncTb

/-! ### SYNC (R213, R214) -/

/-- Some port of the device is enabled. -/
def anyEnabled (s : State) : Bool := (List.range 128).any fun p => s.enabled p

/-- What the stream's last frame says the counter should read at `t`. -/
def streamTick (s : State) (t : Tick) : Option Tick :=
  s.tb.announced.map fun a => a.1 + s.rN Tb.SYNC_DELAY + (t - a.2)

/-- The counter at `t` agrees with a marker `T` within one tick (R214). -/
def agrees (s : State) (T t : Tick) : Bool :=
  decide (T + s.rN Tb.SYNC_DELAY ≤ t + 1) && decide (t ≤ T + s.rN Tb.SYNC_DELAY + 1)

/-- The follower is locked to the leader. -/
def syncLocked (s : State) : State :=
  ((s.modTb fun b => { b with acquired := true }).setBit Tb.TB_STATUS TbStatus.SYNC_LOCK true).syncTb

/-- Load the counter from the stream, if it is there: the follower is locked from then on. -/
def syncLoad (s : State) : State :=
  match s.streamTick s.now with
  | some n => ({ s with now := n, tb := { s.tb with announced := s.tb.announced.map fun a => (a.1, n - (s.now - a.2)) } } : State).syncLocked
  | none => s

/-- The leader's segment differs from the one in force: it is taken, at its own millisecond boundary. -/
def takeSeg (s : State) (g : Seg) (tai : Bool) (t : Tick) : State :=
  let s := s.setBit Tb.TB_STATUS TbStatus.TAI_VALID tai
  if s.segNow = g then s
  else if g.t0 ≤ t then (s.modTb fun b => { b with nextSeg := none }).pushSeg g
  else s.modTb fun b => { b with nextSeg := some g }

/-- A marker `T` of a stream that is there arrives at `t`: a counter that agrees within one tick locks; one that does not is loaded while no
port is enabled, and is reported with SLIP unless this is the first acquisition (R213, R214). -/
def syncMarker (s : State) (T t : Tick) : State :=
  let s := (s.modTb fun b => { b with announced := some (T, t), syncHold := false }).syncTb
  if s.agrees T t then s.syncLocked
  else
    let s := if s.tb.acquired || s.anyEnabled then s.setBit Tb.TB_STATUS TbStatus.SLIP true else s
    if s.anyEnabled then s else s.syncLoad

/-- A SYNC frame with tick `T` and a segment arrives at `t` with a good CRC. A follower that lost the stream and has not reacquired it
waits for that; one that is locked, or that acquires the stream with this frame, takes the leader's segment. -/
def syncFrame (s : State) (T : Tick) (g : Seg) (tai : Bool) (t : Tick) : State :=
  if s.tb.syncHold then s
  else
    let s := if s.tb.acquired then s.modTb fun b => { b with announced := some (T, t) } else s.syncMarker T t
    if s.bit Tb.TB_STATUS TbStatus.SYNC_LOCK then s.takeSeg g tai s.now else s

/-- The stream is lost: the follower enters holdover (R214). -/
def syncLost (s : State) : State :=
  if s.tb.acquired then
    ((s.setBit Tb.TB_STATUS TbStatus.SYNC_LOCK false).modTb fun b => { b with syncHold := true, announced := none }).syncTb
  else s

end State
end Sys2Proof.Machine
end

