-- ==== Sys2Proof/Machine/MemCore.lean ====
section
/-!
DEFINITION. The scratchpad (R241-R271): ownership of pages, regions and rings, the slots of a bank cycle, collisions, atomics and
error correction, the Sapphire wipe, and background test.
-/

namespace Sys2Proof.Machine

/-- The rank of a fabric master (R245): 0 is the highest priority. -/
def masterRank (m : Nat) : Nat :=
  if m ≤ 16 then m
  else if m ≤ 21 then (match m with | 17 => 27 | 18 => 29 | 19 => 25 | 20 => 26 | _ => 24)
  else if m ≤ 27 then m - 4
  else match m with | 28 => 28 | 29 => 30 | 30 => 17 | _ => 31

/-- The new value of an operation on a word (R242, R250). -/
def fabNew (op : FabOp) (v x : W40) : W40 :=
  match op with
  | .read => v
  | .write => x
  | .addWrap => v + x
  | .addSat => toW40 (sat40 (ofW40 v + ofW40 x))
  | .swap => x

/-- The operation stores a word. -/
def fabStores (op : FabOp) : Bool := match op with | .read => false | _ => true

/-- The operation returns a word. -/
def fabReturns (op : FabOp) : Bool := match op with | .write => false | _ => true

namespace State

def modMem (s : State) (f : MemX → MemX) : State := { s with mem := f s.mem }

/-! ### Pages, owners and rights (R243, R252-R256) -/

/-- The enabled region that holds a page. -/
def regionAt (s : State) (page : Nat) : Option Nat :=
  (List.range 64).find? fun r =>
    s.bit (Rg.REGION_EN r) 0 && decide (s.rN (Rg.FIRST_PAGE r) ≤ page) && decide (page < s.rN (Rg.FIRST_PAGE r) + s.rN (Rg.PAGE_COUNT r))

/-- The owner of a word's page: of its region, or P_SUP outside an enabled region (R254). -/
def pageOwner (s : State) (a : Nat) : Nat := match s.regionAt (a / 4096) with | some r => s.rN (Rg.OWNER r) | none => 0

/-- The Sapphire region (R256). -/
def sapphire (a : Nat) : Bool := decide (0x3C0000 ≤ a ∧ a < 0x400000)

/-- The word lies in a region that is zeroing (R253). -/
def zeroing (s : State) (a : Nat) : Bool :=
  match s.regionAt (a / 4096) with | some r => decide (s.rN (Rg.REGION_STATE r) = 1) | none => false

/-- A read of the word needs the secure attribute (R254). -/
def readSecure (s : State) (a : Nat) : Bool :=
  sapphire a || (match s.regionAt (a / 4096) with | some r => s.bit (Rg.SEC r) 0 | none => false)

/-- Why a principal may not read a word (R253, R254). -/
def memReadAbort (s : State) (who a : Nat) (secure : Bool) : Option Nat :=
  if s.readSecure a && !secure then some (Abort.ownership (s.pageOwner a))
  else if s.zeroing a && decide (who ≠ 0) then some (Abort.deviceState 9)
  else none

/-- Why a principal may not write a word (R253, R254, R256). -/
def memWriteAbort (s : State) (who a : Nat) (secure : Bool) : Option Nat :=
  if s.pageOwner a ≠ who then some (Abort.ownership (s.pageOwner a))
  else if sapphire a && !secure then some (Abort.ownership 0)
  else if s.zeroing a && decide (who ≠ 0) then some (Abort.deviceState 9)
  else none

/-- A Sapphire access without the secure attribute is refused and counted (R256). -/
def sapViol (s : State) : State := (s.satInc Fb.SAPPHIRE_VIOL 32 1).setBit Fb.FAB_STATUS FabStatus.SAPPHIRE_VIOL true

/-- Write zero to the words from `lo` up to, not including, `hi`. -/
def spadClear (s : State) (lo hi : Nat) : State :=
  let keep := fun (a : Nat) => !(decide (lo ≤ a) && decide (a < hi))
  { s with spad := s.spad.filter (fun e => keep e.1),
           mem := { s.mem with poison := s.mem.poison.filter (fun e => keep e.1), soft := s.mem.soft.filter keep,
                               fix := s.mem.fix.filter keep } }

/-! ### Regions (R252, R253) -/

/-- The pages of a region at its enable: within 1-703, and clear of every enabled region (R252). -/
def regionGeometryOk (s : State) (r : Nat) : Bool :=
  let f := s.rN (Rg.FIRST_PAGE r)
  let n := s.rN (Rg.PAGE_COUNT r)
  decide (1 ≤ f ∧ 1 ≤ n ∧ f + n ≤ 704) &&
    (List.range 64).all fun q =>
      decide (q = r) || !s.bit (Rg.REGION_EN q) 0 ||
        decide (f + n ≤ s.rN (Rg.FIRST_PAGE q)) || decide (s.rN (Rg.FIRST_PAGE q) + s.rN (Rg.PAGE_COUNT q) ≤ f)

/-- First page and pages of a ring (R262). -/
def ringPages (s : State) (r : Nat) : Nat × Nat := (s.rN (Rn.BASE_PAGE r), 2 ^ (s.rN (Rn.SIZE_LOG2 r) - 6))

/-- An enabled ring lies in the region (R252). -/
def ringIn (s : State) (g : Nat) : Bool :=
  (List.range 32).any fun r =>
    s.bit (Rn.RING_EN r) 0 && decide (s.rN (Rg.FIRST_PAGE g) < (s.ringPages r).1 + (s.ringPages r).2) &&
      decide ((s.ringPages r).1 < s.rN (Rg.FIRST_PAGE g) + s.rN (Rg.PAGE_COUNT g))

/-- The zero fill of a region begins (R253). -/
def regionZero (s : State) (r lo n : Nat) : State := (s.spadClear (4096 * lo) (4096 * (lo + n))).set (Rg.REGION_STATE r) 1

/-- Enable a region. -/
def regionOn (s : State) (r : Nat) : State :=
  if s.bit (Rg.REGION_EN r) 0 then s
  else (s.set (Rg.REGION_EN r) 1).regionZero r (s.rN (Rg.FIRST_PAGE r)) (s.rN (Rg.PAGE_COUNT r))

def regionOff (s : State) (r : Nat) : State := (s.set (Rg.REGION_EN r) 0).set (Rg.REGION_STATE r) 0

/-! ### Rings (R262-R265) -/

/-- Difference of two counts that wrap at 2^40. -/
def diff40 (a b : Nat) : Nat := (a + 2 ^ 40 - b % 2 ^ 40) % 2 ^ 40

/-- Blocks that some enabled consumer has not taken (R264). -/
def ringFill (s : State) (r : Nat) : Nat :=
  let w := s.rN (Rn.WR_COUNT r)
  let h := if s.bit (Rn.CONSUMERS r) 0 then diff40 w (s.rN (Rn.CONS_HOST r)) else 0
  let j := if s.bit (Rn.CONSUMERS r) 1 then diff40 w (s.rN (Rn.CONS_REC r)) else 0
  max h j

def ringFull (s : State) (r : Nat) : Bool := decide (2 ^ s.rN (Rn.SIZE_LOG2 r) ≤ s.ringFill r)

/-- FULL and ACTIVE of RING_STATUS, and the control block. -/
def syncRing (s : State) (r : Nat) : State :=
  let on := s.bit (Rn.RING_EN r) 0
  (s.setBits (Rn.RING_STATUS r) [(RingStatus.FULL, on && s.ringFull r), (RingStatus.ACTIVE, on)]).ringMirror r

/-- The ring lies in one enabled region of the ring's owner and attribute (R262). -/
def ringPlaced (s : State) (r : Nat) : Bool :=
  match s.regionAt (s.ringPages r).1 with
  | none => false
  | some g =>
    decide ((s.ringPages r).1 + (s.ringPages r).2 ≤ s.rN (Rg.FIRST_PAGE g) + s.rN (Rg.PAGE_COUNT g)) &&
      decide (s.rN (Rg.OWNER g) = s.rN (Rn.OWNER r)) && decide (s.bit (Rg.SEC g) 0 = s.bit (Rn.SEC r) 0)

/-- Enable a ring: its counts start at 0 (R262). -/
def ringOn (s : State) (r : Nat) : State :=
  if s.bit (Rn.RING_EN r) 0 then s
  else
    let s := ((s.set (Rn.WR_COUNT r) 0).set (Rn.CONS_HOST r) 0).set (Rn.CONS_REC r) 0
    ((s.set (Rn.DROP_COUNT r) 0).set (Rn.RING_EN r) 1).syncRing r

/-- Blocks handed to a ring and not yet committed. -/
def ringQ (s : State) (r : Nat) : List (Tick × List Nat) := Tab.get (fun _ => []) s.mem.ringQ r

def setRingQ (s : State) (r : Nat) (q : List (Tick × List Nat)) : State :=
  s.modMem fun m => { m with ringQ := Tab.set (fun _ => []) m.ringQ r q }

/-- Disable a ring: blocks not yet committed are discarded (R262). -/
def ringOff (s : State) (r : Nat) : State :=
  let s := (s.ringQ r).foldl (fun s b => s.dropBlock r b.2) s
  ((s.setRingQ r []).set (Rn.RING_EN r) 0).syncRing r

/-- The first word of the slot of block number `n` (R262). -/
def slotOfBlock (s : State) (r n : Nat) : Nat := 4096 * s.rN (Rn.BASE_PAGE r) + 64 * (n % 2 ^ s.rN (Rn.SIZE_LOG2 r))

/-- The slot that the fabric has handed to the `k`-th block that waits at a ring: none beyond 16 (R263). -/
def slotHanded (s : State) (r k : Nat) : Option Nat := if k < 16 then some (s.slotOfBlock r (s.rN (Rn.WR_COUNT r) + k)) else none

/-- The words of a block reach its slot and the block is committed (R263). -/
def ringPut (s : State) (r : Nat) (words : List Nat) : State :=
  let w := s.rN (Rn.WR_COUNT r)
  let s := match s.slotHanded r 0 with | some a => s.spadPutAll a words | none => s
  ((s.set (Rn.WR_COUNT r) ((w + 1) % 2 ^ 40)).blockGone words).syncRing r

/-- OVERWRITE: a consumer count behind the oldest slot still held is advanced to it (R264). -/
def ringAdvance (s : State) (r key : Nat) : State :=
  let w := s.rN (Rn.WR_COUNT r)
  let n := 2 ^ s.rN (Rn.SIZE_LOG2 r)
  if n < diff40 w (s.rN key) then
    (s.set key (diff40 w n)).setBit (Rn.RING_STATUS r) RingStatus.LAPPED true
  else s

/-- The next block of a ring is committed, or discarded at a full ring (R263, R264). -/
def ringCommit (s : State) (r : Nat) : State :=
  match s.ringQ r with
  | [] => s
  | b :: q =>
    let s := s.setRingQ r q
    if s.ringFull r && decide (s.rN (Rn.RING_MODE r) = 0) then
      ((s.dropBlock r b.2).setBit (Rn.RING_STATUS r) RingStatus.OVF true).syncRing r
    else
      let s := s.ringPut r b.2
      if s.rN (Rn.RING_MODE r) = 1 then
        let s := if s.bit (Rn.CONSUMERS r) 0 then s.ringAdvance r (Rn.CONS_HOST r) else s
        (if s.bit (Rn.CONSUMERS r) 1 then s.ringAdvance r (Rn.CONS_REC r) else s).syncRing r
      else s

/-- A value that CONS_HOST may take: from the present count up to WR_COUNT (R265). -/
def consOk (s : State) (r v : Nat) : Bool :=
  decide (v < 2 ^ 40) && decide (diff40 v (s.rN (Rn.CONS_HOST r)) ≤ diff40 (s.rN (Rn.WR_COUNT r)) (s.rN (Rn.CONS_HOST r)))

def consSet (s : State) (r v : Nat) : State := (s.set (Rn.CONS_HOST r) v).syncRing r

/-- The recorder has read the last word of block CONS_REC of a ring that it consumes: it advances the count (R265, DEDUCED, log entry 115). -/
def recTakes (s : State) (a : Nat) : State :=
  match (List.range 32).find? fun r =>
    s.bit (Rn.RING_EN r) 0 && s.bit (Rn.CONSUMERS r) 1 && decide (s.rN (Rn.CONS_REC r) ≠ s.rN (Rn.WR_COUNT r)) &&
      decide (a = s.slotOfBlock r (s.rN (Rn.CONS_REC r)) + 63) with
  | some r => (s.set (Rn.CONS_REC r) ((s.rN (Rn.CONS_REC r) + 1) % 2 ^ 40)).syncRing r
  | none => s

/-! ### The Sapphire wipe (R257) -/

def wiping (s : State) : Bool := s.bit Fb.FAB_STATUS FabStatus.WIPING

/-- A wipe is triggered: it starts 8 ticks later; a second trigger starts no further one. -/
def wipeTrigger (s : State) (t : Tick) : State :=
  if s.wiping || s.micro.any (fun m => decide (m.2 = Micro.wipe)) then s else s.later (t + 8) .wipe

/-- The wipe starts at `t`. Every other access waits until its end, so that the words read zero from now on; a TEST step pauses (R261). -/
def wipeStart (s : State) (t : Tick) : State :=
  let s := (s.spadClear 0x3C0000 0x400000).setBit Fb.FAB_STATUS FabStatus.WIPING true
  s.modMem fun m => { m with wipeEnd := t + 4096, btDue := if s.rN Fb.BT_STATE = 2 then m.btDue + 4096 else m.btDue }

/-- The banks serve accesses: the start-up clear is over, and no wipe holds them (R257, R258). -/
def banksFree (s : State) : Bool := decide (5 ≤ s.pwr.boot) && !s.bit Fb.FAB_STATUS FabStatus.CLEARING && !s.wiping

/-- The wipe is over: the cell writes that waited are made. -/
def wipeOver (s : State) : State :=
  let s := (s.setBit Fb.FAB_STATUS FabStatus.WIPING false).satInc Fb.SAPPHIRE_WIPES 32 1
  let l := s.mem.cells
  l.foldl (fun s c => s.cellWrite c.1 c.2) (s.modMem fun m => { m with cells := [] })

/-- An access of a function, which waits for the end of a wipe (R257). -/
def orLate (s : State) (x : Late) (eff : State → State) : State :=
  if s.wiping then s.modMem fun m => { m with late := m.late ++ [x] } else eff s

/-! ### Error correction (R251) -/

/-- A single-bit error is corrected, and the corrected word waits to be written back. -/
def eccOne (s : State) (a : Nat) : State :=
  let s := (s.satInc Fb.CE_COUNT 32 1).setBit Fb.FAB_STATUS FabStatus.CE true
  s.modMem fun m => { m with fix := if a ∈ m.fix then m.fix else m.fix ++ [a] }

/-- A read of a word with an uncorrectable error; its bank is the next one borrowed. -/
def eccTwo (s : State) (a : Nat) : State :=
  let s := ((s.satInc Fb.UE_COUNT 32 1).set Fb.UE_ADDR a).setBit Fb.FAB_STATUS FabStatus.UE true
  s.modMem fun m => { m with btUe := if a % 64 ∈ m.btUe then m.btUe else m.btUe ++ [a % 64] }

/-- A word becomes poisoned with the data as they stand. -/
def poisonWord (s : State) (a : Nat) (d : W40) : State :=
  { s with spad := Tab.set (fun _ => 0#40) s.spad a d,
           mem := { s.mem with poison := Tab.set (fun _ => false) s.mem.poison a true, soft := s.mem.soft.erase a, fix := s.mem.fix.erase a } }

/-- What reading a word finds and does: a single-bit error is counted and corrected, an uncorrectable one is counted. -/
def eccRead (s : State) (a : Nat) : State := if s.poisoned a then s.eccTwo a else if a ∈ s.mem.soft then s.eccOne a else s

/-- The stored bits of a word are disturbed. From then on background test finds the error where it comes to the word. -/
def upset (s : State) (a : Nat) (u : Upset) : State :=
  if reservedWord a ∨ 0x400000 ≤ a then s
  else
    let s := if s.mem.soft = [] ∧ s.mem.poison = [] then s.modMem fun m => { m with bgAt := s.now } else s
    match u with
    | .one => if s.poisoned a ∨ a ∈ s.mem.soft then s else s.modMem fun m => { m with soft := m.soft ++ [a] }
    | .two d => s.poisonWord a d

/-- Read a word for an interface: its value and whether it is poisoned, with the counts of R251. -/
def spadRead (s : State) (a : Nat) : State × W40 × Bool :=
  if reservedWord a then (s, 0#40, false) else (s.eccRead a, s.spadAt a, s.poisoned a)

/-! ### Requests and slots (R242, R245-R249) -/

/-- The principal for which a master acts (R255). -/
def reqWho (r : FabReq) : Nat := if 19 ≤ r.master ∧ r.master ≤ 27 then r.who else 0

/-- The access carries the secure attribute (R255). Background test moves words within the banks and is not checked. -/
def reqSecure (s : State) (r : FabReq) : Bool :=
  decide (r.master = 29 ∨ r.master = 30) || (decide (r.master = 22 ∨ r.master = 25 ∨ r.master = 27) && decide (r.who = 0)) ||
    (decide (19 ≤ r.master ∧ r.master ≤ 21) && s.secHolder r.who)

/-- The access may be made (R253-R256). Writes of the group sample buffers are not checked. -/
def reqAllowed (s : State) (r : FabReq) : Bool :=
  let sec := s.reqSecure r
  if fabStores r.op then decide (r.master < 16 ∨ r.master = 29) || (s.memWriteAbort (reqWho r) r.addr sec).isNone
  else decide (r.master = 29) || (s.memReadAbort (reqWho r) r.addr sec).isNone

/-- The slots of a bank that the grants so far take, beside those that background test takes in this bank cycle (`bt`). -/
def slotsUsed (bt : Nat → Bool) (l : List FabReq) (b : Nat) : Nat := (l.filter (fun r => decide (r.addr % 64 = b))).length + (bt b).toNat

/-- Requests that hold the reserved slots of the bank cycle `T` (R246 steps 1 and 2): the group's in its slot of port A, background
test's in its slot of port B. The words of a cell gang are granted together only. -/
def reserved (T : Tick) (l : List (Nat × FabReq)) : List FabReq :=
  (l.filter fun e =>
    (decide (T % 8 = 0) && decide (e.2.master = (T / 8 + e.2.addr % 64) % 16) && !e.2.gang) || (decide (T % 24 = 4) && decide (e.2.master = 29))).map
    (·.2)

/-- Grant the requests of a list in order while their banks have a slot. -/
def grantMore (bt : Nat → Bool) (have_ : List FabReq) : List FabReq → List FabReq
  | [] => have_
  | r :: l => if slotsUsed bt have_ (r.addr % 64) < 2 then grantMore bt (have_ ++ [r]) l else grantMore bt have_ l

/-- The gang of a request: its master and its cell. -/
def gangOf (r : FabReq) : Nat × Nat := (r.master, r.addr / 8)

/-- Cell gangs are granted whole, in the order of the list (R246 step 3). -/
def grantGangs (bt : Nat → Bool) (l : List FabReq) : List (Nat × Nat) → List FabReq → List FabReq
  | [], have_ => have_
  | m :: ms, have_ =>
    let g := l.filter (fun r => decide (gangOf r = m))
    if g.all (fun r => decide (slotsUsed bt have_ (r.addr % 64) < 2)) then grantGangs bt l ms (have_ ++ g) else grantGangs bt l ms have_

/-- Requests in rank order. -/
def byRank (l : List FabReq) : List FabReq := (List.range 32).flatMap fun k => l.filter (fun r => decide (masterRank r.master = k))

/-- The requests granted in the bank cycle `T` (R246); in rank order, a master's gangs by age. -/
def granted (bt : Nat → Bool) (T : Tick) (l : List (Nat × FabReq)) : List FabReq :=
  let base := reserved T l
  let rest := l.filter (fun e => decide (e.2 ∉ base) && decide (e.2.master ≠ 29))
  let gangs := (rest.filter (fun e => e.2.gang)).map (·.2)
  let g1 := grantGangs bt gangs ((byRank gangs).map gangOf).eraseDups base
  let singles := rest.filter (fun e => !e.2.gang)
  let aged := byRank ((singles.filter (fun e => decide (64 ≤ e.1))).map (·.2))
  let young := byRank ((singles.filter (fun e => decide (e.1 < 64))).map (·.2))
  grantMore bt (grantMore bt g1 aged) young

/-- Two granted accesses collide as R249 counts it: two modifying accesses of one word, not both atomic. -/
def collides (a b : FabReq) : Bool :=
  decide (a.addr = b.addr) && fabStores a.op && fabStores b.op && (decide (a.op = .write) || decide (b.op = .write))

/-- A collision: `hi` is the higher-priority access. -/
def collision (s : State) (hi lo : FabReq) : State :=
  let s := (s.setBit Fb.FAB_STATUS FabStatus.WCOLL true).set Fb.WCOLL_ADDR hi.addr
  let s := s.set Fb.WCOLL_MASTERS (hi.master * 256 + lo.master)
  (s.satInc (Fb.CONFLICT_0 + hi.master) 32 1).satInc (Fb.CONFLICT_0 + lo.master) 32 1

/-- Collisions among the performed accesses of a cycle, each pair once; the list is in rank order. -/
def collisions (s : State) : List FabReq → State
  | [] => s
  | r :: l => ((l.filter (collides r)).foldl (fun s q => s.collision r q) s).collisions l

/-- A core that receives a poisoned word takes a bus error (R251). -/
def busErr (s : State) (m : Nat) (bad : Bool) : State := if bad && decide (22 ≤ m) && decide (m ≤ 27) then s.out (.busError (m - 22)) else s

/-- A modifying access is performed: an atomic returns the value before its own application. A word whose old value an atomic found
poisoned stays poisoned. -/
def fabModify (s : State) (r : FabReq) : State :=
  if r.op = .write then s.spadPut r.addr r.x
  else
    let s := s.eccRead r.addr
    let v := s.spadAt r.addr
    let bad := s.poisoned r.addr
    let s := (s.out (.fabData r.master r.addr v bad)).busErr r.master bad
    if bad then s.poisonWord r.addr (fabNew r.op v r.x) else s.spadPut r.addr (fabNew r.op v r.x)

/-- A read is performed. The recorder takes the blocks of its rings so (R265). A poisoned point that the sequencer reads is loaded again (R251). -/
def fabRead (s : State) (r : FabReq) : State :=
  let s := s.eccRead r.addr
  let bad := s.poisoned r.addr
  let s := (s.out (.fabData r.master r.addr (if reservedWord r.addr then 0#40 else s.spadAt r.addr) bad)).busErr r.master bad
  let s := if r.master = 17 then s.recTakes r.addr else s
  if bad && decide (r.master = 16) && decide (0x340000 ≤ r.addr ∧ r.addr < 0x3C0000) then
    let n := (r.addr - 0x340000) / 8
    let s := match s.listsHeld.find? (fun l => decide (s.rN (Ls.FIRST_SLOT l) ≤ n ∧ n < s.rN (Ls.FIRST_SLOT l) + s.rN (Ls.COUNT l))) with
      | some l => s.pointRewrite l (n - s.rN (Ls.FIRST_SLOT l))
      | none => s
    s.modMem fun m => { m with reload := if n ∈ m.reload then m.reload else m.reload ++ [n] }
  else s

/-- A refused access (R254, R256): a Sapphire read returns zero; everything else is discarded. -/
def fabRefused (s : State) (r : FabReq) : State :=
  if sapphire r.addr && !s.reqSecure r then
    let s := s.sapViol
    if fabReturns r.op then s.out (.fabData r.master r.addr 0#40 false) else s
  else s

/-- The granted accesses of one bank cycle are performed: modifying accesses in ascending priority, then the reads (R249). -/
def fabPerform (s : State) (l : List FabReq) : State :=
  let no := l.filter (fun r => !s.reqAllowed r)
  let ok := byRank (l.filter (fun r => s.reqAllowed r))
  let s := no.foldl fabRefused s
  let s := s.collisions ok
  let s := (ok.reverse.filter (fun r => fabStores r.op)).foldl fabModify s
  (ok.filter (fun r => !fabStores r.op)).foldl fabRead s

/-- Background test takes its slot of a bank in the bank cycle `T` (R246, R259, R260): for a bank that is copied or written back, and for every
bank in SCRUB_ONLY. -/
def bgSlot (s : State) (T : Tick) (b : Nat) : Bool :=
  decide (T % 24 = 4) &&
    match s.rN Fb.BT_STATE with
    | 1 => decide (s.rN Fb.BT_BANK = b)
    | 3 => decide (s.rN Fb.BT_BANK = b)
    | 4 => s.bit Fb.BT_EN 0
    | _ => false

/-- The masters of the requests `l` whose bank has given both its slots to others are in conflict (R247): CONFLICT_m counts once for a bank
cycle. -/
def conflicts (s : State) (T : Tick) (g l : List FabReq) : State :=
  let out := l.filter fun r => decide (2 ≤ slotsUsed (s.bgSlot T) g (r.addr % 64))
  ((List.range 32).filter (fun m => out.any (fun r => decide (r.master = m)))).foldl (fun s m => s.satInc (Fb.CONFLICT_0 + m) 32 1) s

/-- One bank cycle at the tick `T` (R246): what is not granted waits for the next one, for the end of the wipe or of the start-up clear. -/
def fabCycle (s : State) (T : Tick) : State :=
  if s.wiping then s.later s.mem.wipeEnd .fabCycle
  else if !s.banksFree then s
  else
    let g := granted (s.bgSlot T) T s.mem.wait
    let left := s.mem.wait.filter (fun e => decide (e.2 ∉ g))
    let s := s.modMem fun m => { m with wait := left.map fun e => (e.1 + 1, e.2) }
    let s := s.conflicts T g (left.map (·.2))
    let s := s.fabPerform g
    if left = [] then s else s.later (T + 2) .fabCycle

/-- The eight writes of a request's cell stand together in a list: they are a gang (R95, R246). -/
def gangWhole (rs : List FabReq) (r : FabReq) : Bool :=
  r.gang && decide (r.master < 16) &&
    (List.range 8).all fun k => rs.any fun q => q.gang && decide (gangOf q = gangOf r) && decide (q.addr % 8 = k) && decide (q.op = .write)

/-- Requests become ready; each master has at most one outstanding per bank, and M31 makes none (R245, R246). -/
def fabRequest (s : State) (rs : List FabReq) : State :=
  rs.foldl (fun s r =>
    if 31 ≤ r.master ∨ 0x400000 ≤ r.addr ∨ s.mem.wait.any (fun e => decide (e.2.master = r.master ∧ e.2.addr % 64 = r.addr % 64)) then s
    else s.modMem fun m => { m with wait := m.wait ++ [(0, { r with gang := gangWhole rs r })] }) s

/-- Requests ready at `t` are granted from the bank cycle that begins there or next (R242, R246). -/
def fabAccess (s : State) (rs : List FabReq) (t : Tick) : State :=
  let s := s.fabRequest rs
  let T := (t + 1) / 2 * 2
  if s.micro.any (fun m => decide (m.2 = Micro.fabCycle)) then s
  else if T = t then s.fabCycle t else s.later T .fabCycle

/-! ### Background test (R259-R261) -/

def bankMap (s : State) : List Byte := s.bytesOf Fb.BANK_MAP

def setBank (s : State) (b k : Nat) : State := s.setBlob Fb.BANK_MAP (s.bankMap.set b (BitVec.ofNat 8 k))

/-- The lowest free spare bank. -/
def freeSpare (s : State) : Option Nat := (List.range 4).find? fun k => s.bit Fb.SPARE_FREE k

/-- NO_SPARE, BORROW and SCRUB_ONLY. -/
def syncBt (s : State) : State :=
  let busy := decide (s.rN Fb.BT_BANK < 64)
  let s := s.setBits Fb.FAB_STATUS [(FabStatus.NO_SPARE, s.freeSpare.isNone), (FabStatus.BORROW, busy)]
  if busy then s else s.set Fb.BT_STATE (if s.freeSpare.isNone then 4 else 0)

/-- The next borrow: a bank named in BT_REQUEST, one with an uncorrectable error, or the next in ascending order. -/
def borrowNext (s : State) : Nat × Bool :=
  match s.mem.btReq, s.mem.btUe with
  | some b, _ => (b, false)
  | none, b :: _ => (b, false)
  | none, [] => (s.mem.btNext, true)

/-- Tick from which the next borrow may start. -/
def borrowDue (s : State) : Tick := s.mem.btLast + s.rN Fb.BT_INTERVAL * ms

/-- A borrow begins at `t` with its COPY step. -/
def borrowStart (s : State) (t : Tick) : State :=
  if s.bit Fb.BT_EN 0 && decide (64 ≤ s.rN Fb.BT_BANK) && decide (s.borrowDue ≤ t) then
    match s.freeSpare with
    | none => s
    | some k =>
      let (b, turn) := s.borrowNext
      let s := s.modMem fun m => { m with
        btReq := none, btUe := m.btUe.filter (fun x => decide (x ≠ b)), btLast := t, btDue := t + 1572864, btTurn := turn,
        btOrig := (s.bankMap.getD b 0#8).toNat, btNext := if turn then (b + 1) % 64 else m.btNext }
      let s := ((s.set Fb.BT_BANK b).set Fb.BT_SPARE (64 + k)).set Fb.BT_STATE 1
      (s.setBit Fb.SPARE_FREE k false).syncBt
  else s

/-- Words that background test copies or writes back in a borrow, and the ticks that it takes for each (R259). -/
abbrev btTicks : Nat := 24

/-- Ticks of one reading of a whole bank through its test slot. -/
abbrev btPass : Nat := 1572864

/-- How often background test has read a word after `lo` and up to `hi`: in COPY and WRITEBACK once, as it comes to the word's row; in
SCRUB_ONLY once in every pass, where it reads row floor(T / 24) mod 2^16 (R259, R260, log entry 116). -/
def bgReads (s : State) (a : Nat) (lo hi : Tick) : Nat :=
  let row := a / 64
  let one := fun (v : Tick) => (decide (lo < v) && decide (v ≤ hi)).toNat
  match s.rN Fb.BT_STATE with
  | 1 => if a % 64 = s.rN Fb.BT_BANK then one (s.mem.btLast + btTicks * (row + 1)) else 0
  | 3 => if a % 64 = s.rN Fb.BT_BANK then one (s.mem.btDue - btPass + btTicks * (row + 1)) else 0
  | 4 => if s.bit Fb.BT_EN 0 then (hi + btPass - (btTicks * row + 4)) / btPass - (lo + btPass - (btTicks * row + 4)) / btPass else 0
  | _ => 0

/-- Background test reads up to `t`: what it finds is counted, and a single-bit error is corrected and written back (R251, R260). -/
def bgTo (s : State) (t : Tick) : State :=
  if s.mem.soft = [] ∧ s.mem.poison = [] then s
  else
    let lo := s.mem.bgAt
    let soft := s.mem.soft.filter fun a => decide (0 < s.bgReads a lo t)
    let bad := s.mem.poison.filter fun e => decide (0 < s.bgReads e.1 lo t)
    let s := soft.foldl (fun (s : State) a => (s.eccOne a).modMem fun m => { m with soft := m.soft.erase a, fix := m.fix.erase a }) s
    let s := bad.foldl (fun (s : State) e => (s.eccTwo e.1).satInc Fb.UE_COUNT 32 (s.bgReads e.1 lo t - 1)) s
    s.modMem fun m => { m with bgAt := t }

/-- The words of a logical bank, as they stand in the spare bank `k`. -/
def bankImage (s : State) (b k : Nat) : Tab W40 :=
  (s.spad.filter fun e => decide (e.1 % 64 = b)).map fun e => (k * 65536 + e.1 / 64, e.2)

/-- A word of a physical bank at `t` (R241, R259): the live word in the bank that serves; in COPY and WRITEBACK, the live word in the rows that
have been copied; what an earlier borrow left in a spare bank; and what the test leaves in the bank under test and in a retired one. -/
def physAt (s : State) (t : Tick) (k row : Nat) : W40 :=
  match (s.bankMap.map (·.toNat)).idxOf? k with
  | some b => s.spadAt (64 * row + b)
  | none =>
    let live := s.spadAt (64 * row + s.rN Fb.BT_BANK)
    let start := s.mem.btDue - btPass
    if s.rN Fb.BT_STATE = 1 ∧ k = s.rN Fb.BT_SPARE ∧ start + btTicks * (row + 1) ≤ t then live
    else if s.rN Fb.BT_STATE = 3 ∧ k = s.mem.btOrig ∧ start + btTicks * (row + 1) ≤ t then live
    else if k < 64 then Config.testLeft k row
    else if bitOf (s.rN Fb.SPARE_FREE) (k - 64) || decide (s.rN Fb.BT_SPARE = k) then Tab.get (fun _ => 0#40) s.mem.spare (k * 65536 + row)
    else Config.testLeft k row

/-- COPY ends: the bank is redirected and TEST begins. A word read in COPY is copied corrected. -/
def copyEnd (s : State) : State :=
  let b := s.rN Fb.BT_BANK
  let s := s.modMem fun m => { m with
    soft := m.soft.filter (fun a => decide (a % 64 ≠ b)), fix := m.fix.filter (fun a => decide (a % 64 ≠ b)),
    spare := m.spare.filter fun e => decide (e.1 / 65536 ≠ s.rN Fb.BT_SPARE) }
  let s := s.setBank (s.rN Fb.BT_BANK) (s.rN Fb.BT_SPARE)
  (s.set Fb.BT_STATE 2).modMem fun m => { m with btDue := m.btDue + 2621440 }

/-- No bank is borrowed any more. -/
def borrowOver (s : State) : State := (((s.set Fb.BT_BANK 0xFF).set Fb.BT_SPARE 0xFF).set Fb.BT_STATE 0).syncBt

/-- TEST ends at `t`: write-back, or the spare becomes the logical bank (R260). -/
def testEnd (s : State) (pass : Bool) (t : Tick) : State :=
  if pass then (s.set Fb.BT_STATE 3).modMem fun m => { m with btDue := m.btDue + 1572864 }
  else
    let k := s.rN Fb.BT_SPARE - 64
    let b := s.rN Fb.BT_BANK
    let old := s.mem.btOrig
    ((s.setBit Fb.FAB_STATUS FabStatus.BANK_SUBST true).borrowOver).garnet k Gk.bank b old t

/-- WRITEBACK ends: the bank returns to its original physical bank. -/
def writebackEnd (s : State) : State :=
  let b := s.rN Fb.BT_BANK
  let s := s.modMem fun m => { m with
    soft := m.soft.filter (fun a => decide (a % 64 ≠ b)), fix := m.fix.filter (fun a => decide (a % 64 ≠ b)),
    spare := m.spare ++ s.bankImage b (s.rN Fb.BT_SPARE) }
  let s := (s.setBank b s.mem.btOrig).setBit Fb.SPARE_FREE (s.rN Fb.BT_SPARE - 64) true
  let s := s.when (s.mem.btTurn && decide (b = 63)) fun s => s.wrapInc Fb.BT_PASSES 32 1
  s.borrowOver

end State
end Sys2Proof.Machine
end

