-- ==== Sys2Proof/Machine/NetBase.lean ====
section
/-!
DEFINITION. COP messages as the device sends them (R360, R361, R364): header, tag, CAN segments; closing a session (R367) and
sending the gathered notifications (R369).
-/

namespace Sys2Proof.Machine

/-! ### Messages -/

abbrev Cop.open_ : Nat := 1
abbrev Cop.read : Nat := 2
abbrev Cop.write : Nat := 3
abbrev Cop.readBlock : Nat := 4
abbrev Cop.writeBlock : Nat := 5
abbrev Cop.subscribe : Nat := 6
abbrev Cop.notify : Nat := 7
abbrev Cop.abort : Nat := 8

/-- The 16 bytes of a header (R361). -/
def copHeader (typ sid seqn len flags reqId : Nat) : List Byte :=
  leBytes 1 1 ++ leBytes 1 typ ++ leBytes 2 sid ++ leBytes 4 seqn ++ leBytes 2 len ++ leBytes 1 flags ++ leBytes 1 0 ++ leBytes 4 reqId

/-- A message with its tag (R361, R364). -/
def copMessage (key : List Byte) (typ sid seqn flags reqId : Nat) (body : List Byte) : List Byte :=
  let m := copHeader typ sid seqn body.length flags reqId ++ body
  m ++ (hmac key m).take 16

/-- The smallest CAN FD data length that holds `n` bytes (R360). -/
def canLength (n : Nat) : Nat :=
  if n ≤ 8 then n else if n ≤ 12 then 12 else if n ≤ 16 then 16 else if n ≤ 20 then 20 else if n ≤ 24 then 24
  else if n ≤ 32 then 32 else if n ≤ 48 then 48 else 64

/-- One CAN frame: segment header, segment, padding (R360). -/
def canFrame (first last : Bool) (n : Nat) (seg : List Byte) : List Byte :=
  let f := BitVec.ofNat 8 (first.toNat * 128 + last.toNat * 64 + n % 8) :: seg
  f ++ List.replicate (canLength f.length - f.length) 0#8

/-- The frames of a message, at most `fuel` of them; `n` is the number of the next segment. -/
def canFrames : Nat → Nat → List Byte → List (List Byte)
  | 0, _, _ => []
  | k + 1, n, m =>
    if m.length ≤ 63 then [canFrame (decide (n = 0)) true n m]
    else canFrame (decide (n = 0)) false n (m.take 63) :: canFrames k (n + 1) (m.drop 63)

/-- Bytes of the body that one NOTIFY may hold for a peer (R361). -/
def peerRoom : Peer → Nat
  | .can => 504 - 32
  | _ => 1232 - 32

namespace State

/-- Bytes of the line that a UDP message occupies: preamble, MAC header, IP and UDP headers, FCS (the published standards). -/
def udpLine (v6 : Bool) (n : Nat) : Nat := 8 + max 64 (14 + (if v6 then 40 else 20) + 8 + n + 4)

/-- Ticks of one byte at 10 Mbit/s. -/
def byteTicks : Nat := 512

/-- End of the local frame, and of the forwarded frame, that a port sends. -/
def localEnd (s : State) (port : Nat) : Tick := Tab.get (fun _ => 0) s.net.busy port
def fwdEnd (s : State) (port : Nat) : Tick := Tab.get (fun _ => 0) s.net.fwd port

/-- A local frame of `n` line bytes occupies a port, after a forwarded frame in progress (R358). -/
def occupy (s : State) (n port : Nat) : State :=
  let start := max s.now (max (s.localEnd port) (s.fwdEnd port))
  { s with net := { s.net with busy := Tab.set (fun _ => 0) s.net.busy port (start + n * byteTicks) } }

/-- A local frame leaves on a port whose link is up. -/
def occupyLink (s : State) (n port : Nat) : State := s.when (s.bit Ne.LINK port) fun s => s.occupy n port

/-- Send a message to a peer. `own`: a NOTIFY or an ABORT of the device's own accord (R360). -/
def copSend (s : State) (peer : Peer) (own : Bool) (m : List Byte) : State :=
  match peer with
  | .can =>
    s.when (s.bit Cn.CAN_EN 0 && decide (s.rN Cn.CAN_STATE ≠ 2)) fun s =>
      (canFrames 8 0 m).foldl (fun s f => s.out (.canSend ((if own then 0x600 else 0x580) + s.rN Cn.CAN_NODE) f)) s
  | .udp6 _ _ => ((s.occupyLink (udpLine true m.length) 0).occupyLink (udpLine true m.length) 1).out (.copSend peer m)
  | .udp4 _ _ => ((s.occupyLink (udpLine false m.length) 0).occupyLink (udpLine false m.length) 1).out (.copSend peer m)

/-- Send a message of session `k` with its next SEQ (R365). -/
def sessSend (s : State) (k typ flags reqId : Nat) (own : Bool) (body : List Byte) : State :=
  match s.session k with
  | none => s
  | some x =>
    let m := copMessage x.ks typ x.id (x.txn + 1) flags reqId body
    (s.setSession k (some { x with txn := x.txn + 1 })).copSend x.peer own m

/-- A session is closed: its block transfer is abandoned and its subscriptions are dropped (R364, R367). -/
def sessDrop (s : State) (k : Nat) : State :=
  (((s.setSession k none).set (Ss.SESSION_STATE k) 0).set (Ss.SUB_COUNT k) 0).forgetOrigin fun o =>
    match o with | .cop j _ _ => decide (j = k) | _ => false

/-- The device closes a session: it sends one ABORT with code OK (R367). -/
def sessClose (s : State) (k : Nat) : State :=
  match s.session k with
  | none => s
  | some _ => (s.sessSend k Cop.abort 0 0 true (leBytes 4 0)).sessDrop k

def sessCloseAll (s : State) : State := (List.range 4).foldl (fun s k => s.sessClose k) s

/-- The bytes of an item (R369). -/
def itemBytes (s : State) : Item → List Byte
  | .value n time b => leBytes 1 0 ++ leBytes 1 (10 + b.length) ++ leBytes 2 n ++ leBytes 8 time ++ b
  | .event c g tick _ => leBytes 1 1 ++ leBytes 1 20 ++ leBytes 2 c ++ leBytes 1 g ++ leBytes 1 0 ++ leBytes 8 tick ++ leBytes 8 (s.timeNs tick)
  | .cancelled n code => leBytes 1 2 ++ leBytes 1 6 ++ leBytes 2 n ++ leBytes 4 code

/-- The leading items that fit into `room` bytes. -/
def itemsFit (s : State) : Nat → List Item → List Item
  | _, [] => []
  | room, i :: l => if (s.itemBytes i).length ≤ room then i :: itemsFit s (room - (s.itemBytes i).length) l else []

/-- Send one NOTIFY with the items that fit (R369). -/
def notifySend (s : State) (k : Nat) (t : Tick) : State :=
  match s.session k with
  | none => s
  | some x =>
    let l := s.itemsFit (peerRoom x.peer - 4) x.items
    if l = [] then s
    else
      let body := leBytes 1 l.length ++ leBytes 3 0 ++ l.flatMap s.itemBytes
      let s := s.setSession k (some { x with items := x.items.drop l.length, itemAt := t, lost := false })
      s.sessSend k Cop.notify (if x.lost then 2 else 0) 0 true body

/-- The items of a session fill a message (R369). -/
def notifyFull (s : State) (k : Nat) : Bool :=
  match s.session k with
  | none => false
  | some x => decide ((s.itemsFit (peerRoom x.peer - 4) x.items).length < x.items.length)

/-- A message that is full is sent at once. -/
def notifyFlush (s : State) (t : Tick) : State :=
  (List.range 4).foldl (fun s k => if s.notifyFull k then s.notifySend k t else s) s

end State
end Sys2Proof.Machine
end

