-- ==== Sys2Proof/Machine/PcieBase.lean ====
section
/-!
DEFINITION. The PCIe endpoint's own state (R374-R396): functions, MSI-X vectors (R392), the stop of a DMA channel (R389) and the
reset of a function (R376).
-/

namespace Sys2Proof.Machine

/-! ### Bits of DMA_STATUS (R395) -/
abbrev DmaStatus.DMA_ERR : Nat := 5
abbrev DmaStatus.OWNER_LOST : Nat := 4
abbrev DmaStatus.LINK_LOST : Nat := 3
abbrev DmaStatus.POISON : Nat := 2
abbrev DmaStatus.STARVED : Nat := 1
abbrev DmaStatus.RUN : Nat := 0

namespace State

def fnx (s : State) (f : Nat) : FnX := Tab.get (fun _ => {}) s.pcie.fns f
def modFn (s : State) (f : Nat) (g : FnX → FnX) : State :=
  { s with pcie := { s.pcie with fns := Tab.set (fun _ => {}) s.pcie.fns f (g (s.fnx f)) } }
def modMb (s : State) (f : Nat) (g : Mbox → Mbox) : State := s.modFn f fun x => { x with mb := g x.mb }

def dmx (s : State) (r : Nat) : DmaX := Tab.get (fun _ => {}) s.pcie.dma r
def modDm (s : State) (r : Nat) (g : DmaX → DmaX) : State :=
  { s with pcie := { s.pcie with dma := Tab.set (fun _ => {}) s.pcie.dma r (g (s.dmx r)) } }

/-- The function exists for the host: PF0, or an enabled VF (R377). -/
def fnLive (s : State) (f : Nat) : Bool := decide (f ≤ s.rN Pe.NUM_VF)

/-- The function answers requests: live and not in D3hot (R376). -/
def fnUp (s : State) (f : Nat) : Bool := s.fnLive f && !(s.fnx f).d3

/-! ### MSI-X (R392) -/

/-- Vectors of a function. -/
def vectorsOf (f : Nat) : Nat := if f = 0 then 2048 else 64

/-- Send the message of a vector at `t`, or keep it for the end of the holdoff. -/
def vecSend (s : State) (f v : Nat) (t : Tick) : State :=
  let x := s.fnx f
  if !(Tab.get (fun _ => false) x.unmasked v) then s.modFn f fun x => { x with pend := Tab.set (fun _ => false) x.pend v true }
  else if t < Tab.get (fun _ => 0) x.hold v then s.modFn f fun x => { x with owed := Tab.set (fun _ => false) x.owed v true }
  else
    (s.modFn f fun x => { x with hold := Tab.set (fun _ => 0) x.hold v (t + s.rN (Fn.IRQ_HOLDOFF f) * us) }).out (.msix f v)

/-- A source raises the vector it names; 0xFFFF names none. -/
def raise (s : State) (f v : Nat) (t : Tick) : State := if v < vectorsOf f ∧ s.fnLive f then s.vecSend f v t else s

def raiseErr (s : State) (f : Nat) (t : Tick) : State := s.raise f (s.rN (Fn.ERR_VECTOR f)) t

/-- An Unsupported Request (R393). -/
def urCount (s : State) : State := s.satInc Pe.UR_COUNT 32 1
def answerUR (s : State) (f : Nat) : State := s.urCount.out (.cplUR f)

/-! ### DMA channels (R386-R389) -/

/-- The function that owns a ring: none if its owner is no function. -/
def dmaFn (s : State) (r : Nat) : Option Nat :=
  let o := s.rN (Rn.OWNER r)
  if 1 ≤ o ∧ o ≤ 17 then some (o - 1) else none

def dmaOn (s : State) (r : Nat) : Bool := s.bit (Dm.DMA_EN r) 0

/-- A descriptor is posted beyond the current one (R387). -/
def descPosted (s : State) (r : Nat) : Bool := decide (s.rN (Dm.DESC_TAIL r) ≠ s.rN (Dm.DESC_HEAD r))

/-- Committed blocks that the channel has not sent. -/
def dmaWaiting (s : State) (r : Nat) : Bool :=
  decide ((s.dmx r).flying < diff40 (s.rN (Rn.WR_COUNT r)) (s.rN (Rn.CONS_HOST r)))

/-- RUN and STARVED of DMA_STATUS (R395). -/
def syncDma (s : State) (r : Nat) : State :=
  let on := s.dmaOn r
  let starved := on && s.bit (Rn.RING_EN r) 0 && s.dmaWaiting r && !(s.dmx r).open_ && !s.descPosted r
  s.setBits (Dm.DMA_STATUS r) [(DmaStatus.RUN, on), (DmaStatus.STARVED, starved)]

/-- Write the current descriptor back (R387, R389): DESC_HEAD increments, and VECTOR is raised if IRQ is set. -/
def descBack (s : State) (r : Nat) (short abandoned : Bool) (f : Nat) (t : Tick) : State :=
  let x := s.dmx r
  let i := s.rN (Dm.DESC_HEAD r) % 2 ^ s.rN (Dm.DESC_LOG2 r)
  let flags := 128 + abandoned.toNat * 8 + x.poison.toNat * 4 + short.toNat * 2 + x.irq.toNat
  let s := s.out (.hostWrite f (s.rN (Dm.DESC_BASE r) + 16 * i + 8) (leBytes 4 x.filled ++ leBytes 1 flags ++ leBytes 3 0) false)
  let s := (s.modDm r fun d => { d with open_ := false, filled := 0, poison := false }).set (Dm.DESC_HEAD r) ((s.rN (Dm.DESC_HEAD r) + 1) % 2 ^ 32)
  s.when x.irq fun s => s.raise f (s.rN (Dm.VECTOR r)) t

/-- Ways a channel stops (R389). -/
inductive DmaStop where
  | written | link | owner | error
deriving DecidableEq, Repr

/-- The channel stops at `t`; `f` is the function as which it ran. -/
def dmaStop (s : State) (r f : Nat) (how : DmaStop) (t : Tick) : State :=
  if !s.dmaOn r then s
  else
    let s := s.set (Dm.DMA_EN r) 0
    let s := match how with
      | .link => (s.modDm r fun _ => {}).setBit (Dm.DMA_STATUS r) DmaStatus.LINK_LOST true
      | .error => (s.setBit (Dm.DMA_STATUS r) DmaStatus.DMA_ERR true).raiseErr f t
      | .written => if (s.dmx r).open_ then s.descBack r (decide ((s.dmx r).filled < (s.dmx r).cap)) (decide ((s.dmx r).filled = 0)) f t else s
      | .owner =>
        let s := if (s.dmx r).open_ then s.descBack r (decide ((s.dmx r).filled < (s.dmx r).cap)) (decide ((s.dmx r).filled = 0)) f t else s
        (s.setBit (Dm.DMA_STATUS r) DmaStatus.OWNER_LOST true).raiseErr f t
    s.syncDma r

/-- The DMA channels that run as a function. -/
def dmaOf (s : State) (f : Nat) : List Nat := (List.range 32).filter fun r => s.dmaOn r && decide (s.dmaFn r = some f)

/-! ### Resets (R376) -/

/-- An access of a function that waits for the end of a wipe, and that nothing has applied yet; a posted write has left the function. -/
def lateOf (f : Nat) : Late → Bool
  | .read j _ _ => decide (j = f)
  | .atomic j _ _ _ => decide (j = f)
  | .copy j _ _ => decide (j = f)
  | _ => false

/-- A function's endpoint state is reset at `t`. A response under way, and an access not yet taken, are discarded (R385). A block whose
TLPs were not acknowledged stays unconsumed (R389). -/
def fnReset (s : State) (f : Nat) (t : Tick) : State :=
  let s := (s.dmaOf f).foldl (fun s r => s.dmaStop r f .link t) s
  let s := (List.range 32).foldl (fun s r => if s.dmaFn r = some f then s.modDm r fun _ => {} else s) s
  let s := s.modMem fun m => { m with late := m.late.filter fun x => !lateOf f x }
  let s := (s.modFn f fun _ => {}).forgetOrigin fun o => match o with | .mb j => decide (j = f) | _ => false
  s.set (Fn.NQ_EN f) 0

/-- VF Enable clears. -/
def vfOff (s : State) (t : Tick) : State :=
  ((List.range 16).foldl (fun s k => s.fnReset (k + 1) t) s).set Pe.NUM_VF 0

/-- Fundamental reset, hot reset or link down. -/
def pcieDown (s : State) (t : Tick) : State :=
  (((s.vfOff t).fnReset 0 t).set Pe.LINK_SPEED 0).set Pe.LINK_WIDTH 0

/-- D3hot: the windows answer Unsupported Request and the channels stop. -/
def fnSleep (s : State) (f : Nat) (t : Tick) : State :=
  let s := (s.dmaOf f).foldl (fun s r => s.dmaStop r f .link t) s
  s.modFn f fun x => { x with d3 := true }

end State
end Sys2Proof.Machine
end

