-- ==== Sys2Proof/Machine/SecCore.lean ====
section
/-!
DEFINITION. Security (R446-R463): scopes and their owners, the change of an owner with what follows from it, keys, tamper, and the
life-cycle transitions.
-/

namespace Sys2Proof.Machine

/-- The entries that report owner and attribute of the scope of an index (R344). Counters, delay units, timers and trigger pins report
no attribute in the dictionary. -/
def scopeKeys (idx : Nat) : Option (Nat × Option Nat) :=
  if 0x2210 ≤ idx ∧ idx < 0x2220 then some (Ev.TRIG_OWNER_0 + (idx - 0x2210), none)
  else match recOf idx with
    | some (.dv, _) => some (Dv.OWNER, some Dv.SEC)
    | some (.ec, n) => some (Ec.OWNER n, none)
    | some (.dl, n) => some (Dl.OWNER n, none)
    | some (.tm, n) => some (Tm.OWNER n, none)
    | some (.rg, n) => some (Rg.OWNER n, some (Rg.SEC n))
    | some (.rn, n) => some (Rn.OWNER n, some (Rn.SEC n))
    | some (.gr, n) => some (Gr.OWNER n, some (Gr.SEC n))
    | some (.pt, n) => some (Pt.OWNER n, some (Pt.SEC n))
    | some (.ch, n) => some (Ch.OWNER n, some (Ch.SEC n))
    | some (.cx, n) => some (Cx.OWNER n, some (Cx.SEC n))
    | some (.ls, n) => some (Ls.OWNER n, some (Ls.SEC n))
    | _ => none

/-- The binding that an entry holds: its key in the port, counter, delay, pin or context record, and the place of the channel number. -/
def bindField (k : Nat) : Option Nat :=
  match recOf (k / 256) with
  | some (.pt, n) =>
    if k = Pt.UPD_EVENT n ∨ k = Pt.START_EVENT n ∨ k = Pt.STOP_EVENT n ∨ k = Pt.REARM_EVENT n ∨ k = Pt.TRIP_EVENT n then some 0 else none
  | some (.ec, n) => if (Ec.INC_EVENT_0 n ≤ k ∧ k < Ec.INC_EVENT_0 n + 4) ∨ k = Ec.CLR_EVENT n then some 0 else none
  | some (.dl, n) => if k = Dl.FIRE_EVENT n then some 0 else none
  | some (.ev, _) => if Ev.TRIG_CFG_0 ≤ k ∧ k < Ev.TRIG_CFG_0 + 16 then some 16 else none
  | some (.cx, n) => if k = Cx.ARM_EVENT n then some 0 else none
  | _ => none

namespace State

def scopeOwner (s : State) (idx : Nat) : Nat := match scopeKeys idx with | some (k, _) => s.rN k | none => 0

def scopeSec (s : State) (idx : Nat) : Bool :=
  match scopeKeys idx with
  | some (_, some k) => s.bit k 0
  | _ => s.blockSec idx

def setScopeSec (s : State) (idx : Nat) (v : Bool) : State :=
  match scopeKeys idx with
  | some (_, some k) => s.set k v.toNat
  | _ => { s with sec := { s.sec with blockSec := Tab.set (fun _ => false) s.sec.blockSec idx v } }

/-! ### Change of owner (R447, R448, R231, R389) -/

/-- A port left without a strike source strikes as for UPD_SRC 0 (R55). -/
def strikeLost (s : State) (p : Nat) : State :=
  s.when (decide (s.rN (Pt.UPD_SRC p) = 1) && decide (1024 ≤ s.rN (Pt.UPD_EVENT p)) && decide (s.rN (Pt.GONG_ACTION p) ≠ 5)) fun s =>
    s.modForce p fun f => { f with fallback := true }

/-- The link of an entry to a channel no longer meets R231: a binding, a context's arming of an S port, or a producer; where the entry holds the
link, and what releases it. -/
def linkBroken (s : State) (key v : Nat) : Option (Nat × Nat × Nat) :=
  match bindField key, recOf (key / 256) with
  | some lo, r =>
    let e := field v lo 16
    let arms := match r with
      | some (.cx, c) => decide (e < 1024) && !s.secFits (Pt.GONG_ACTION (s.ctxPort c)) e
      | _ => false
    if (s.bindOwner key e).isSome || arms then some (lo, 16, 0xFFFF) else none
  | none, some (.ch, e) =>
    if key ≠ Ch.PRODUCER e then none
    else match producerKey v with
      | some k => if s.ownerOf k = s.rN (Ch.OWNER e) ∧ s.secFits k e = true then none else some (0, 32, 0)
      | none => none
  | none, some (.ev, _) =>
    if key = Ev.GONG_SRC ∧ v < 1024 ∧ s.rN (Ch.OWNER v) ≠ s.rN Dv.OWNER then some (0, 16, 0xFFFF) else none
  | none, _ => none

/-- Bindings and links that no longer meet R231 are released (R17, R227). An S port no longer acts on a Gong source that is NS. -/
def releaseBindings (s : State) : State :=
  let bad := s.regs.filterMap fun e => (s.linkBroken e.1 e.2.toNat).map fun x => (e.1, x)
  let s := bad.foldl (fun s e =>
    let s := s.setFld e.1 e.2.1 e.2.2.1 e.2.2.2
    match recOf (e.1 / 256) with
    | some (.pt, p) => s.strikeLost p
    | _ => s) s
  s.forAll 128 fun p s =>
    if s.rN (Pt.GONG_ACTION p) = 0 ∨ s.gongReaches p = true then s else (s.set (Pt.GONG_ACTION p) 0).strikeLost p

/-- The pages of an S region or ring are zero-filled when it changes owner or attribute (R448). -/
def ownZero (s : State) (idx : Nat) (was now_ : Bool) : State :=
  if !(was || now_) then s
  else match recOf idx with
    | some (.rg, r) => if s.bit (Rg.REGION_EN r) 0 then s.regionZero r (s.rN (Rg.FIRST_PAGE r)) (s.rN (Rg.PAGE_COUNT r)) else s
    | some (.rn, r) =>
      (match s.regionAt (s.ringPages r).1 with
       | some g => s.regionZero g (s.ringPages r).1 (s.ringPages r).2
       | none => s)
    | _ => s

/-- A pending life-cycle request is cancelled (R459). -/
def lcCancel (s : State) : State :=
  ({ s with sec := { s.sec with lcReq := none } } : State).setBit Se.SEC_STATUS SecStatus.LC_PENDING false

/-- An accepted change of owner and attribute takes effect at `t` (R447). -/
def ownSet (s : State) (idx owner : Nat) (sec : Bool) (t : Tick) : State :=
  match scopeKeys idx with
  | none => s
  | some (k, _) =>
    let wasO := s.rN k
    let wasS := s.scopeSec idx
    let f := match recOf idx with | some (.rn, r) => (s.dmaFn r).getD 0 | _ => 0
    let s := (s.set k owner).setScopeSec idx sec
    let s := match recOf idx with
      | some (.gr, g) => (List.range 9).foldl (fun (s : State) i => (s.set (Sl.OWNER (9 * g + i)) owner).set (Sl.SEC (9 * g + i)) sec.toNat) s
      | some (.rn, r) => if wasO ≠ owner then s.dmaStop r f .owner t else s
      | some (.dv, _) => if wasO ≠ owner then s.lcCancel else s
      | _ => s
    let s := if wasO = owner ∧ wasS = sec then s else (s.ownZero idx wasS sec).releaseBindings
    (s.setBit Se.SEC_STATUS SecStatus.OWNER_CHANGED true).dirty 0xFF k owner

/-- Why an OWN_ASSIGN value is refused (R447). -/
def assignAbort (s : State) (v : Nat) : Option Nat :=
  let idx := field v 16 16
  let owner := field v 8 8
  let bad := some (Abort.valueRange 2)
  if field v 1 7 ≠ 0 ∨ 22 < owner ∨ (scopeKeys idx).isNone then bad
  else if bitOf v 0 ∧ s.secHolder owner = false then bad
  else if owner = 22 ∧ ¬ (0x4000 ≤ idx ∧ idx < 0x4020) then bad
  else none

/-- The change of an OWN_ASSIGN value takes effect at `t`. -/
def assignNow (s : State) (v : Nat) (t : Tick) : State := s.ownSet (field v 16 16) (field v 8 8) (bitOf v 0) t

/-- A command that waits at a group controller was accepted for a scope: a port's, or a context's, whose ABORT it is. -/
def cmdOfScope (idx : Nat) (c : GcCmd) : Bool :=
  match recOf idx with
  | some (.pt, p) => decide (c.port = p)
  | some (.cx, x) => decide (c.op = .abortCtx x)
  | _ => false

/-- The port at whose group controller the commands for a scope wait. -/
def scopePort (s : State) (idx : Nat) : Option Nat :=
  match recOf idx with
  | some (.pt, p) => some p
  | some (.cx, x) => some (s.ctxPort x)
  | _ => none

/-- The change is serialised behind the writes accepted under the old owner (R17): it goes behind those that wait in a group controller's
queue, and behind those that are held for it. -/
def assign' (s : State) (v who : Nat) (t : Tick) : State :=
  let idx := field v 16 16
  match s.scopePort idx with
  | none => s.assignNow v t
  | some p =>
    let c : GcCmd := { port := p, op := .own v, since := t, who := who }
    let g := s.gx (groupOf p)
    if g.held.any (fun h => cmdOfScope idx h.2.2) then s.modGx (groupOf p) fun x => { x with held := x.held ++ [(who, 0, c)] }
    else if g.queue.any (cmdOfScope idx) then s.gcPush c
    else s.assignNow v t

/-! ### SEC_HOLDERS (R446) -/

/-- A principal owns a scope with SEC 1. -/
def ownsSecure (s : State) (w : Nat) : Bool :=
  s.regs.any fun e =>
    let idx := if 0x220020 ≤ e.1 ∧ e.1 < 0x220030 then 0x2210 + (e.1 - 0x220020) else e.1 / 256
    match scopeKeys idx with
    | some (k, _) => decide (k = e.1) && decide (e.2.toNat = w) && s.scopeSec idx
    | none => false

def holdersAbort (s : State) (v : Nat) : Option Nat :=
  let old := s.rN Se.SEC_HOLDERS
  if (List.range 22).any (fun k => decide (0 < k) && bitOf old k && !bitOf v k && s.ownsSecure k) then some Abort.inUse
  else if field v 22 10 ≠ 0 then some (Abort.valueRange 1)
  else none

/-! ### Keys (R452) -/

def keyRow (s : State) (k : Nat) : List Byte := Tab.get (fun _ => []) s.sec.keys k
def setKeyRow (s : State) (k : Nat) (b : List Byte) : State := { s with sec := { s.sec with keys := Tab.set (fun _ => []) s.sec.keys k b } }

/-- KEY programs the next free row and invalidates the previous one. -/
def keyWrite (s : State) (k : Nat) (b : List Byte) : State :=
  ((s.setKeyRow k b).set (Ky.KEY_STATE k) 1).set (Ky.KEY_ROWS_LEFT k) (s.rN (Ky.KEY_ROWS_LEFT k) - 1)

/-- The current row is invalidated. A slot that never held a key stays EMPTY. -/
def keyRevoke (s : State) (k : Nat) : State :=
  if s.rN (Ky.KEY_STATE k) = 1 then (s.setKeyRow k []).set (Ky.KEY_STATE k) 2 else s

/-- The key row of every slot is invalidated (R455, R460). -/
def keysVoid (s : State) : State := (List.range 4).foldl (fun s k => s.keyRevoke k) s

/-! ### Tamper (R454-R456) -/

/-- A life-cycle transition before its step 3 is abandoned (R459). -/
def lcAbandon (s : State) : State := { s with sec := { s.sec with lcStep := 0 } }

/-- The action of an accepted tamper at `t`. Its reset comes a tick later, so that the sources of one tick all act, and the largest code applies (R456). -/
def tamperAction (s : State) (code : Nat) (t : Tick) : State :=
  if code = 0 then s
  else (s.when (decide (code = 2)) keysVoid).later (t + 1) (.reset 8)

/-- What every accepted tamper does, and its action; from step 3 of a transition on, the action waits for step 4. -/
def tamper (s : State) (src : Nat) (t : Tick) : State :=
  let s := s.wipeTrigger t
  let s := ((s.setBit Se.TAMP_STATUS src true).satInc Se.TAMPER_COUNT 32 1).set Se.TAMPER_TIME (s.timeNs t)
  let s := s.jConfig Se.TAMP_STATUS 0xFF (s.rN Se.TAMP_STATUS)
  let code := s.fld Se.TAMP_ACTION (2 * src) 2
  if 3 ≤ s.sec.lcStep then { s with sec := { s.sec with lcTamper := some (max code (s.sec.lcTamper.getD 0)) } }
  else s.lcAbandon.tamperAction code t

/-! ### Life cycle (R457-R460) -/

/-- The transitions of R457; with one left only DECOMMISSIONED. -/
def lcAllowed (s : State) (to_ : Nat) : Bool :=
  let from_ := s.rN Id.LIFE_CYCLE
  decide ((from_ = 1 ∧ (to_ = 2 ∨ to_ = 4)) ∨ (from_ = 2 ∧ (to_ = 3 ∨ to_ = 4)) ∨ (from_ = 3 ∧ (to_ = 2 ∨ to_ = 4))) &&
    (decide (1 < s.rN Se.LC_LEFT) || (decide (s.rN Se.LC_LEFT = 1) && decide (to_ = 4)))

/-- LC_REQ at `t`: the request stands for 10 s. -/
def lcRequest (s : State) (to_ : Nat) (t : Tick) : State :=
  ({ s with sec := { s.sec with lcReq := some (to_, t + 10 * Sys2Proof.sec) } } : State).setBit Se.SEC_STATUS SecStatus.LC_PENDING true

/-- The target of the request that stands at `t`: its 10 s are half-open, so at their end it is cancelled already (R9, R459). -/
def lcStanding (s : State) (t : Tick) : Option Nat := s.sec.lcReq.bind fun r => if t < r.2 then some r.1 else none

/-- Why a confirm is refused: 4 a group is in neither CONFIG nor GATED, 5 an image is being stored or activated, 6 nothing to confirm. -/
def confirmAbort (s : State) (v : Nat) (t : Tick) : Option Nat :=
  match s.lcStanding t with
  | none => some (Abort.deviceState 6)
  | some w =>
    if v ≠ w then none
    else if !s.allQuiet then some (Abort.deviceState 4)
    else if s.rN Fw.FW_STATE = 1 ∨ s.rN Fw.FW_STATE = 3 then some (Abort.deviceState 5)
    else none

/-- LC_CONFIRM: another code cancels the request; the same code starts the transition with its step 1. -/
def lcConfirm (s : State) (v : Nat) (t : Tick) : State :=
  match s.lcStanding t with
  | none => s
  | some w =>
    let s := s.lcCancel
    if v ≠ w then s
    else
      let s := s.sessCloseAll
      { s with sec := { s.sec with lcStep := 1, lcTo := w, lcDue := t } }

/-- The ageing baseline of every slice that is not RETIRED (R318). -/
def takeBaselines (s : State) : State :=
  (List.range 144).foldl (fun s i =>
    if s.roleOf i = 4 then s
    else
      let s := s.modSx i fun x => { x with health := { x.health with
        hasBase := true, baseGain := s.rN (Sl.GAIN_SEL i), baseOff := s.rN (Sl.OFFSET_SEL i), baseRo := x.health.ro,
        baseLeak := s.rN (Sl.CMP_LEAK i) } }
      s.requestCommit i (.health i)) s

/-- Every scope is owned by P_SUP with SEC 0 (R460). -/
def ownersClear (s : State) : State :=
  let keep := fun (k : Nat) => !(isOwnerKey k) && !(match recOf (k / 256) with | some (.sl, _) => decide (k % 256 = 1 ∨ k % 256 = 2) | _ => false)
  { s with regs := s.regs.filter (fun e => keep e.1), sec := { s.sec with blockSec := [] } }

/-- The fuse field advances: LIFE_CYCLE takes the new state (step 3). -/
def lcFuse (s : State) : State := (s.set Id.LIFE_CYCLE s.sec.lcTo).set Se.LC_LEFT (s.rN Se.LC_LEFT - 1)

/-- Step 4: the erasures of the transition (R460); every one can be repeated. A tamper that waited takes its action then. -/
def lcFinish (s : State) (t : Tick) : State :=
  let to_ := s.sec.lcTo
  let first := !(s.slices.any (fun e => e.2.health.hasBase))
  let s := if to_ = 4 then
      ((({ s.keysVoid with nv := { s.nv with pairs := s.nv.pairs.erase pairImage } } : State).set Se.SEC_HOLDERS 1).ownersClear).later t (.reset 3)
    else if to_ = 2 ∧ first then s.takeBaselines else s
  let act := s.sec.lcTamper
  let s := { s with sec := { s.sec with lcStep := 0, lcTamper := none } }
  match act with | some c => s.tamperAction c t | none => s

/-- A step of a transition ends at `t` (R459). -/
def lcStepEnd (s : State) (t : Tick) : State :=
  let go := fun (s : State) (n : Nat) => ({ s with sec := { s.sec with lcStep := n, lcDue := t } } : State)
  match s.sec.lcStep with
  | 1 => go (s.wipeTrigger t) 2
  | 2 => go s 3
  | 3 => go s.lcFuse 4
  | 4 => s.lcFinish t
  | _ => s

end State
end Sys2Proof.Machine
end

