-- ==== Sys2Proof/Machine/RailCore.lean ====
section
/-!
DEFINITION. PMBus rails (R438, R439): transactions on the bus, turning a rail on and off, what a completed or failed transaction does, and the
sequences in which rails are switched at boot, with a group, and at STANDBY entry.
-/

namespace Sys2Proof.Machine

/-! ### PMBus codes and formats (R438) -/
abbrev Pmb.operation : Nat := 0x01
abbrev Pmb.voutMode : Nat := 0x20
abbrev Pmb.voutCommand : Nat := 0x21
abbrev Pmb.statusWord : Nat := 0x79
abbrev Pmb.readVout : Nat := 0x8B
abbrev Pmb.readIout : Nat := 0x8C
abbrev Pmb.readTemp : Nat := 0x8D

/-- A LINEAR11 value: 5-bit exponent, 11-bit mantissa. -/
def linear11 (d : Nat) : Rat := (toSigned 11 d : Rat) * pow2 (toSigned 5 (d / 2 ^ 11))

/-- Bits of STATUS_WORD that report a fault: all but OFF, BUSY and POWER_GOOD#. -/
def railFaultBits (d : Nat) : Bool := decide (d &&& 0xF73F ≠ 0)

namespace State

def modRail (s : State) (f : RailX → RailX) : State := { s with rail := f s.rail }
def railState (s : State) (n : Nat) : Nat := s.rN (Rl.RAIL_STATE n)
def railExp (s : State) (n : Nat) : Int := Tab.get (fun _ => 0) s.rail.exp n
def railPgBy (s : State) (n : Nat) : Option Tick := Tab.get (fun _ => none) s.rail.pgBy n
def setPgBy (s : State) (n : Nat) (x : Option Tick) : State := s.modRail fun r => { r with pgBy := Tab.set (fun _ => none) r.pgBy n x }

/-! ### The bus -/

/-- Drive a transaction. VOUT_COMMAND carries RAIL_VOUT in the exponent of the rail. -/
def pmbTx (s : State) (q : PmbReq) : State :=
  let d := if q.code = Pmb.voutCommand then ofSigned 16 (roundUp (s.rQ (Rl.RAIL_VOUT q.rail) / pow2 (s.railExp q.rail))) else q.data
  s.out (.pmbus (s.rN (Rl.RAIL_ADDR q.rail)) (s.rN (Rl.RAIL_PAGE q.rail)) q.code d)

/-- Queue a transaction; the first of the queue is on the bus. -/
def pmbPush (s : State) (q : PmbReq) : State :=
  let idle := decide (s.rail.bus = [])
  let s := s.modRail fun r => { r with bus := r.bus ++ [q] }
  if idle then s.pmbTx q else s

/-- The queue behind the transaction that has ended: its next one is driven. -/
def pmbNext (s : State) (rest : List PmbReq) : State :=
  let s := s.modRail fun r => { r with bus := rest }
  match rest with | q :: _ => s.pmbTx q | [] => s

/-- Read commands of a rail that do not wait already. -/
def pmbRead (s : State) (n : Nat) (codes : List Nat) : State :=
  codes.foldl (fun s c => if s.rail.bus.any (fun q => decide (q.rail = n ∧ q.code = c)) then s else s.pmbPush { rail := n, code := c }) s

/-- The rails that are managed. -/
def railsOn (s : State) : List Nat := (List.range 16).filter fun n => s.bit (Rl.RAIL_EN n) 0

/-! ### Turning a rail on and off (R439) -/

/-- Command a managed rail on at `t`; it has 100 ms to become power-good. -/
def railTurnOn (s : State) (n : Nat) (t : Tick) : State :=
  let s := (s.set (Rl.RAIL_STATE n) 1).setPgBy n (some (t + 100 * ms))
  let s := s.pmbPush { rail := n, code := Pmb.voutMode }
  let s := if s.rQ (Rl.RAIL_VOUT n) = 0 then s else s.pmbPush { rail := n, code := Pmb.voutCommand }
  let s := s.pmbPush { rail := n, code := Pmb.operation, data := 0x80 }
  (s.pmbPush { rail := n, code := Pmb.readVout }).pmbPush { rail := n, code := Pmb.statusWord }

/-- Command a managed rail off. A rail whose VOUT_MODE is not linear is not commanded (R438). -/
def railTurnOff (s : State) (n : Nat) : State :=
  if Tab.get (fun _ => false) s.rail.notLin n then s
  else (s.setPgBy n none).pmbPush { rail := n, code := Pmb.operation, data := 0x00 }

/-! ### Switching sequences (R421, R433, R419) -/

/-- A sequence turns its rails on. -/
def jobOn : RailJob → Bool
  | .boot => true
  | .ungate _ => true
  | _ => false

/-- The managed rails that a sequence switches, in its order. -/
def jobRails (s : State) (job : RailJob) : List Nat :=
  let has := fun (n : Nat) =>
    match job with
    | .boot => decide (s.rN (Rl.RAIL_ROLE n) = 2)
    | .gate g => decide (s.rN (Rl.RAIL_ROLE n) = 1 ∧ s.rN (Rl.RAIL_GROUP n) = g)
    | .ungate g => decide (s.rN (Rl.RAIL_ROLE n) = 1 ∧ s.rN (Rl.RAIL_GROUP n) = g)
    | .standby => decide (s.rN (Rl.RAIL_ROLE n) = 1 ∨ s.rN (Rl.RAIL_ROLE n) = 2)
  let up := (List.range 16).flatMap fun o => s.railsOn.filter fun n => has n && decide (s.rN (Rl.RAIL_ORDER n) = o)
  if jobOn job then up else up.reverse

/-- A sequence has ended. -/
def railsFin (s : State) (job : RailJob) (ok : Bool) : State := s.modRail fun r => { r with fin := r.fin ++ [(job, ok)] }

/-- Switch the first of the remaining rails of a sequence, or end it. A rail that is not commanded (R438) is passed over when rails go off. -/
def seqNext (s : State) (job : RailJob) (left : List Nat) (t : Tick) : State :=
  match left.dropWhile fun n => !jobOn job && Tab.get (fun _ => false) s.rail.notLin n with
  | [] => s.railsFin job true
  | n :: l =>
    let s := s.modRail fun r => { r with seqs := r.seqs ++ [{ job := job, rail := n, left := l }] }
    if jobOn job then s.railTurnOn n t else s.railTurnOff n

def railsStart (s : State) (job : RailJob) (t : Tick) : State := s.seqNext job (s.jobRails job) t

/-- The rail of a sequence has been switched at `t`: its RAIL_DELAY runs. -/
def seqSwitched (s : State) (n : Nat) (t : Tick) : State :=
  s.modRail fun r => { r with seqs := r.seqs.map fun q =>
    if q.rail = n ∧ q.due.isNone then { q with due := some (t + s.rN (Rl.RAIL_DELAY n) * ms) } else q }

/-- The delay of a rail has ended by `t`: the sequence goes on. -/
def seqDelayEnd (s : State) (n : Nat) (t : Tick) : State :=
  let due := fun (q : RailSeq) => decide (q.rail = n) && (match q.due with | some d => decide (d ≤ t) | none => false)
  let l := s.rail.seqs.filter due
  let s := s.modRail fun r => { r with seqs := r.seqs.filter (fun q => !due q) }
  l.foldl (fun s q => s.seqNext q.job q.left (q.due.getD t)) s

/-- The rail of a sequence cannot be switched: an ungating ends with RAIL_FLT (R434), every other sequence goes on with its next rail. -/
def seqFailed (s : State) (n : Nat) (t : Tick) : State :=
  let l := s.rail.seqs.filter (fun q => decide (q.rail = n))
  let s := s.modRail fun r => { r with seqs := r.seqs.filter (fun q => decide (q.rail ≠ n)) }
  l.foldl (fun s q => match q.job with
    | .ungate g => (s.railsFin (.ungate g) false).setBit Pw.PWR_STATUS PwrStatus.RAIL_FLT true
    | j => s.seqNext j q.left t) s

/-! ### Faults (R438, R439) -/

/-- The waiting transactions of a rail are dropped; the one on the bus has ended already. -/
def pmbDrop (s : State) (n : Nat) : State :=
  match s.rail.bus with
  | [] => s
  | q :: rest => s.modRail fun r => { r with bus := q :: rest.filter (fun x => decide (x.rail ≠ n)) }

/-- A rail reads FAULT at `t`. The ports of the group of a GROUP rail are disabled. -/
def railFault (s : State) (n : Nat) (t : Tick) : State :=
  let s := ((s.set (Rl.RAIL_STATE n) 3).setBit Pw.PWR_STATUS PwrStatus.RAIL_FLT true).setPgBy n none
  let g := s.rN (Rl.RAIL_GROUP n)
  let s := if s.rN (Rl.RAIL_ROLE n) = 1 ∧ g < 16 then
      (List.range 8).foldl (fun s k =>
        let p := 8 * g + k
        if s.portState p = 1 ∨ s.portState p = 2 then s.gcPush { port := p, op := .disable, since := t } else s) s
    else s
  s.seqFailed n t

/-- RAIL_PG_TIMEOUT: the rail has not become power-good in time. -/
def railTimeout (s : State) (n : Nat) (t : Tick) : State :=
  match s.railPgBy n with
  | some b => if b ≤ t ∧ s.railState n = 1 then (s.pmbDrop n).railFault n b else s
  | none => s

/-- READ_VOUT lies within RAIL_TOL of RAIL_VOUT; with RAIL_VOUT 0.0 there is no voltage to compare with. -/
def railInTol (s : State) (n : Nat) : Bool :=
  let v := s.rQ (Rl.RAIL_VOUT n)
  decide (v = 0) || decide (absR (s.rQ (Rl.RAIL_V n) - v) ≤ absR v * s.rQ (Rl.RAIL_TOL n) / 100)

/-- A STATUS_WORD has been read after READ_VOUT. -/
def railStatus (s : State) (n d : Nat) (t : Tick) : State :=
  let s := s.set (Rl.RAIL_STATUS n) d
  if s.railState n = 1 then
    if bitOf d 11 = false ∧ s.railInTol n = true then
      (((s.set (Rl.RAIL_STATE n) 2).setPgBy n none).seqSwitched n t)
    else s.pmbRead n [Pmb.readVout, Pmb.statusWord]
  else if s.railState n = 2 ∧ (railFaultBits d = true ∨ s.railInTol n = false) then s.railFault n t
  else s

/-- A transaction has succeeded at `t` with the data that it returned. -/
def pmbOk (s : State) (q : PmbReq) (d : Nat) (t : Tick) : State :=
  let n := q.rail
  if q.code = Pmb.voutMode then
    if d / 32 = 0 then s.modRail fun r => { r with exp := Tab.set (fun _ => 0) r.exp n (toSigned 5 d), notLin := Tab.set (fun _ => false) r.notLin n false }
    else (((s.modRail fun r => { r with notLin := Tab.set (fun _ => false) r.notLin n true }).pmbDrop n).railFault n t)
  else if q.code = Pmb.operation then
    if q.data = 0 then (s.set (Rl.RAIL_STATE n) 0).seqSwitched n t else s
  else if q.code = Pmb.readVout then s.setQ (Rl.RAIL_V n) ((d : Rat) * pow2 (s.railExp n))
  else if q.code = Pmb.readIout then s.setQ (Rl.RAIL_I n) (linear11 d)
  else if q.code = Pmb.readTemp then s.setQ (Rl.RAIL_T n) (linear11 d)
  else if q.code = Pmb.statusWord then s.railStatus n d t
  else s

/-- The transaction on the bus has ended at `t` (R438): a failed one is repeated twice, then the rail reads NO_RESPONSE. -/
def pmbDone (s : State) (ok : Bool) (data : Nat) (t : Tick) : State :=
  match s.rail.bus with
  | [] => s
  | q :: rest =>
    if ok then
      let s := s.pmbOk q data t
      s.pmbNext (s.rail.bus.drop 1)
    else if q.tries < 2 then s.pmbNext ({ q with tries := q.tries + 1 } :: rest)
    else
      let s := ((s.set (Rl.RAIL_STATE q.rail) 4).setBit Pw.PWR_STATUS PwrStatus.PMB_NAK true).setPgBy q.rail none
      let s := s.modRail fun r => { r with bus := q :: rest.filter (fun x => decide (x.rail ≠ q.rail)) }
      let s := s.seqFailed q.rail t
      s.pmbNext (s.rail.bus.drop 1)

/-- PMB_POLL: every enabled rail is read. A rail whose exponent is not known yet is asked for VOUT_MODE first. -/
def pmbPoll (s : State) (t : Tick) : State :=
  let s := s.railsOn.foldl (fun s n =>
    let s := if s.rail.exp.any (fun e => decide (e.1 = n)) || Tab.get (fun _ => false) s.rail.notLin n then s else s.pmbRead n [Pmb.voutMode]
    s.pmbRead n [Pmb.readVout, Pmb.readIout, Pmb.readTemp, Pmb.statusWord]) s
  s.modRail fun r => { r with pollAt := t + s.rN Pw.PMB_POLL * ms }

/-- PMB_ALERT_N falls: STATUS_WORD of every enabled rail is read. -/
def pmbAlert (s : State) : State := s.railsOn.foldl (fun s n => s.pmbRead n [Pmb.statusWord]) s

/-- RAIL_ON 1 or 2 of a USER rail. -/
def railUser (s : State) (n v : Nat) (t : Tick) : State :=
  if !s.bit (Rl.RAIL_EN n) 0 then s else if v = 1 then s.railTurnOn n t else s.railTurnOff n

end State
end Sys2Proof.Machine
end

