-- ==== Sys2Proof/Machine/PowerCore.lean ====
section
/-!
DEFINITION. Power states (R416-R419), resets and the boot sequence (R420-R429), group gating (R433, R434), output stages (R63), power fail
(R437, R440), firmware (R426, R427, R450, R451) and the placement of the cores (R331).
-/

namespace Sys2Proof.Machine
namespace State

def modPwr (s : State) (f : PwrX → PwrX) : State := { s with pwr := f s.pwr }

/-! ### Output stages (R49, R63) -/

/-- The output stage of a port turns off. As with a clear, an enable ramp keeps its end and a disable ramp is skipped. -/
def stageOff (s : State) (p : Nat) (t : Tick) : State :=
  if !s.oe p then s
  else
    let kind : Option RampKind := (s.px p).force.ramp.map (·.kind)
    let dis := decide (s.portState p = 3) && (decide (kind = some .disable) || decide (s.spanStep p = 1))
    let s := if kind = some .enable then s else (s.rampStop p t).modForce p fun f => { f with ramp := none }
    let s := (s.setBit (Pt.FORCE_STATUS p) ForceStatus.OE false).modPx p fun x => { x with
      force := { x.force with everEnabled := false }, pgen := { x.pgen with permit := false, gateLvl := false, gateQ := [] } }
    let s := if dis then (s.setFld (Pt.FORCE_STATUS p) ForceStatus.SPAN_STEP 2 0).gateOff p t else s
    s.syncPort p

/-- R63 step 2 ends at `t`: the core holds the hardware clear code of S_1 and the output stage is on. A port that is not OFF holds
that code, since strikes are ignored until its next enable. -/
def stageOn (s : State) (p : Nat) (t : Tick) : State :=
  let off := decide (s.portState p = 0)
  let s := (s.set (Pt.SPAN_ACTIVE p) 1).modForce p fun f => { f with
    clearCore := if off then none else some 0x80000, everEnabled := false, spanDue := false, codes := [] }
  let s := ((s.setCode p 0x800000 t).shaperReset p t).setBit (Pt.FORCE_STATUS p) ForceStatus.OE true
  let s := s.loadKstage p
  (if s.clearCause p then s.coreClear p t else s).syncPort p

/-- VAP, VAN or VDDA falls below its power-on threshold (R63 step 1). -/
def analogLoss (s : State) (t : Tick) : State :=
  (s.modPwr fun p => { p with anaLost := true, anaWait := none }).forAll 128 fun p s => s.stageOff p t

/-- The start-up wait of R63 step 2 has ended. A GATED group stays without its supplies. -/
def analogOn (s : State) (t : Tick) : State :=
  (s.modPwr fun p => { p with anaLost := false, anaWait := none }).forAll 128 fun p s => if s.gated p then s else s.stageOn p t

/-! ### Groups: quiesce and gating (R22, R433, R434) -/

/-- An accepted DISABLE of the port waits for its tick boundary. -/
def disableWaits (s : State) (p : Nat) : Bool := (s.gcOf p).any (fun c => decide (c.op = .disable))

/-- Local ports that count as enabled when a quiesce is applied (R22). -/
def resumeMask (s : State) (g : Nat) : Nat :=
  ((List.range 8).map fun k =>
    let p := 8 * g + k
    let st := s.portState p
    let on := (decide (st = 1 ∨ st = 2) && !s.disableWaits p) ||
      (decide (st = 3) && s.bit (Pt.PORT_STATUS p) PortStatus.ENABLE_PENDING)
    if on then 2 ^ k else 0).sum

/-- A quiesce request at `t` (R22, R347, R432). -/
def groupQuiesce (s : State) (g : Nat) (t : Tick) : State :=
  let s := s.setBit (Gr.GROUP_STATUS g) GroupStatus.RELEASE_PENDING false
  if s.groupState g = 0 then
    let s := (s.set (Gr.PORTS_RESUME g) (s.resumeMask g)).set (Gr.GROUP_STATE g) 1
    let s := (List.range 8).foldl (fun s k => s.setBit (Pt.PORT_STATUS (8 * g + k)) PortStatus.ENABLE_PENDING false) s
    -- open windows are discarded and trains stop at once (R100, R168, R191)
    let s := (List.range 8).foldl (fun s k => if s.enabled (8 * g + k) then (s.trainStop (8 * g + k) true t).seqOnLeave (8 * g + k) t else s) s
    s.rotQuiesce g t
  else s

/-- Gating of a group in CONFIG begins (R433). -/
def gateStart (s : State) (g : Nat) (t : Tick) : State :=
  let s := (s.set (Gr.GROUP_STATE g) 3).modGx g fun x => { x with gateStep := 1, gateDue := t + 640 }
  (List.range 8).foldl (fun s k => s.syncPort (8 * g + k)) s.syncDeviceConfig

/-- Ungating begins. -/
def ungateStart (s : State) (g : Nat) (t : Tick) : State :=
  let s := s.setBit (Gr.GROUP_STATUS g) GroupStatus.UNGATE_PENDING false
  (s.modGx g fun x => { x with gateStep := 11 }).railsStart (.ungate g) t

/-- The group rails are off: gating is complete; a pending ungate follows (R434). -/
def gateDone (s : State) (g : Nat) (t : Tick) : State :=
  let s := s.modGx g fun x => { x with gateStep := 0 }
  if s.bit (Gr.GROUP_STATUS g) GroupStatus.UNGATE_PENDING then s.ungateStart g t else s

/-- A timed step of a gating or ungating sequence ends. `bad`: the selections read back do not match (R433). -/
def gateStepEnd (s : State) (g : Nat) (bad : Bool) : State :=
  let x := s.gx g
  let t := x.gateDue
  let ports := fun (f : Nat → State → State) (s : State) => (List.range 8).foldl (fun s k => f (8 * g + k) s) s
  match x.gateStep with
  | 1 => ports (fun p s => s.stageOff p t) (s.modGx g fun x => { x with gateStep := 2, gateDue := t + 6400 })
  | 2 => (s.modGx g fun x => { x with gateStep := 3 }).railsStart (.gate g) t
  | 12 => ports (fun p s => if s.pwr.anaLost then s else s.stageOn p t) (s.modGx g fun x => { x with gateStep := 13, gateDue := t + 64000 })
  | 13 =>
    let s := if bad then
        ((s.rotBit g RotStatus.VERIFY_FAIL true).rotBit g RotStatus.ROT_PENDING true).modRot g fun r => { r with must := true }
      else s
    let s := (s.modGx g fun x => { x with gateStep := 0 }).set (Gr.GROUP_STATE g) 2
    (ports (fun p s => s.syncPort p) s.syncDeviceConfig).later t (.rot g)
  | _ => s

/-! ### Firmware images (R426, R450, R451) -/

def modFw (s : State) (f : FwX → FwX) : State := { s with fwx := f s.fwx }

/-- An image verifies but for its SVN. -/
def fwSigned (s : State) (i : FwImage) : Bool := i.signed && (i.root1 || !s.bit Se.SEC_STATUS SecStatus.ROOT_1)
def fwVerifies (s : State) (i : FwImage) : Bool := s.fwSigned i && decide (s.rN Se.SVN_MIN ≤ i.svn)

/-- SVN_REJECT for an image that fails on SVN alone. -/
def fwSvn (s : State) (i : FwImage) : State :=
  s.when (s.fwSigned i && decide (i.svn < s.rN Se.SVN_MIN)) fun s => s.setBit Se.SEC_STATUS SecStatus.SVN_REJECT true

/-- FW_SEQ_A and FW_SEQ_B. -/
def fwSeqs (s : State) : State :=
  let n := fun (x : Option FwSlot) => match x with | some w => w.seqn | none => 0xFFFFFFFF
  (s.set Fw.FW_SEQ_A (n s.fwx.slotA)).set Fw.FW_SEQ_B (n s.fwx.slotB)

/-- The slot that the next image is written to is B: the invalid one, or that with the older number. -/
def fwTargetB (x : FwX) : Bool :=
  match x.slotA, x.slotB with
  | none, _ => false
  | _, none => true
  | some a, some b => decide (b.seqn < a.seqn)

/-- The target slot with new contents. -/
def fwPut (x : FwX) (v : Option FwSlot) : FwX := if fwTargetB x then { x with slotB := v } else { x with slotA := v }

def fwHigh (x : FwX) : Nat := max ((x.slotA.map (·.seqn)).getD 0) ((x.slotB.map (·.seqn)).getD 0)

/-- The versions of an image on the cores named. -/
def fwVersions (s : State) (i : FwImage) (cores : List Nat) : State :=
  cores.foldl (fun s c => s.set (Id.FW_VERSION_0 + c) (i.vers.getD c 0)) s

/-- The image under way is stored, or could not be written, or does not verify (R427). -/
def fwStored (s : State) (ok : Bool) (t : Tick) : State :=
  match s.fwx.storing with
  | none => s
  | some i =>
    let s := s.modFw fun x => { x with storing := none }
    let fail := fun (b : Nat) (s : State) =>
      (((s.modFw fun x => { fwPut x none with ready := none }).fwSeqs).set Fw.FW_STATE 0).setBit Fw.FW_STATUS b true
    let recov := s.bit Fw.FW_STATUS FwStatus.RECOVERY
    let s := if !ok then fail FwStatus.STORE_FAIL s
      else if !s.fwVerifies i then fail FwStatus.REJECTED (s.fwSvn i)
      else
        let s := (s.modFw fun x => { fwPut x (some { seqn := fwHigh x + 1, img := i }) with ready := some i }).fwSeqs
        let s := s.when (i.root1 && i.revoke0) fun s => s.setBit Se.SEC_STATUS SecStatus.ROOT_1 true
        let s := (s.out (.flash (if s.fwx.slotA.map (·.img) = some i then 200 else 201) (fwHigh s.fwx))).set Fw.FW_STATE 2
        if recov then s.later t (.reset 3) else s
    if recov && decide (s.rN Fw.FW_STATE = 0) then s.set Fw.FW_STATE 4 else s

/-- The roles that a core hosts (CORE_MAP). -/
def rolesOf (s : State) (c : Nat) : List Nat := (List.range 5).filter fun r => decide (s.fld Ag.CORE_MAP (4 * r) 4 = c)

/-- CP_5 is free. -/
def coreSpare (s : State) : Bool := s.bit Ag.GARNET_FREE 7 && decide (5 ∉ s.age.deadCores) && s.age.takeover.isNone && s.age.roleWait.isNone

/-- Cores in the order of an ACTIVATE; a failed core does not restart. -/
def fwOrder (s : State) : List Nat := [1, 2, 3, 4, 0, 5].filter fun c => decide (c ∉ s.age.deadCores)

/-- An operation that a core has started is under way (R24): of the calibration domain a step of a relief hand-over or a reference transfer, of the
platform domain a change of a group's state. -/
def dutyRuns (s : State) (c : Nat) : Bool :=
  let roles := s.rolesOf c
  (decide (4 ∈ roles) && (s.cal.xfer.isSome || (List.range 16).any fun g =>
    let r := s.rot g
    decide (r.st = 2) && decide (s.rN (Gr.WIN_STATE g) = 0) && decide (r.step ∈ [1, 2, 3, 5, 6, 7]) && !r.wait)) ||
  (decide (3 ∈ roles) && (List.range 16).any fun g => decide (s.groupState g = 1) || decide ((s.gx g).gateStep ≠ 0))

/-- The next core of an ACTIVATE restarts once its operation has ended (R24): CP_5 covers its duties, or they are suspended while CP_5 is consumed
(R331). CP_5 itself has none. -/
def fwHand (s : State) : State :=
  match s.fwOrder[s.fwx.step]? with
  | none => s
  | some c =>
    if s.rN Fw.FW_STATE ≠ 3 ∨ s.fwx.restarting.isSome ∨ s.dutyRuns c = true then s
    else s.modFw fun x => { x with restarting := some c, suspended := decide (c ≠ 5) && !s.coreSpare }

/-- The group controllers hold their queues (R24, R331): while CP_5 loads the role of a core that has failed, and while the role of a core that
restarts into a new image is suspended. -/
def queuesHeld (s : State) : Bool := s.age.takeover.isSome || (s.fwx.restarting.isSome && s.fwx.suspended)

/-- ACTIVATE begins: the first core restarts. -/
def fwActivate (s : State) : State :=
  ((s.set Fw.FW_STATE 3).setBit Fw.FW_STATUS FwStatus.MIXED true).modFw fun x => { x with step := 0 }

/-- A core has restarted into the new image; after the last one FW_STATE reads IDLE. A failed role that waited is taken by CP_5
(R331). -/
def fwCoreDone (s : State) (t : Tick) : State :=
  match s.fwx.ready with
  | none => s
  | some i =>
    let l := s.fwOrder
    let n := s.fwx.step
    let s := (s.fwVersions i ((l.drop n).take 1)).modFw fun x => { x with restarting := none, suspended := false }
    let s := match s.age.roleWait with
      | some r => { s with age := { s.age with roleWait := none, takeover := some (r, t) } }
      | none => s
    if n + 1 < l.length then s.modFw fun x => { x with step := n + 1 }
    else ((s.set Fw.FW_STATE 0).setBit Fw.FW_STATUS FwStatus.MIXED false).modFw fun x => { x with step := 0, running := some i, ready := none }

/-! ### Cores (R331) -/

/-- A core has failed at `t`. -/
def coreFailed (s : State) (c : Nat) (t : Tick) : State :=
  if c ∈ s.age.deadCores then s
  else
    let spare := s.coreSpare
    let roles := s.rolesOf c
    let taking := match s.age.takeover with | some _ => decide (c = 5) | none => false
    let s := { s with age := { s.age with deadCores := s.age.deadCores ++ [c] } }
    match roles with
    | [] =>
      if taking then s.later t (.reset 5)
      else if s.bit Ag.GARNET_FREE 7 && decide (c = 5) then
        ((s.setBit Ag.GARNET_FREE 7 false).setBit Ag.AGE_STATUS AgeStatus.RESERVE_LOW true).requestCommit pairDevice .device
      else s
    | r :: _ =>
      if !spare then s.later t (.reset 5)
      else
        if s.rN Fw.FW_STATE = 3 then { s with age := { s.age with roleWait := some r } }
        else { s with age := { s.age with takeover := some (r, t) } }

/-- CP_5 hosts a role from `t` on. -/
def coreTaken (s : State) (r : Nat) (t : Tick) : State :=
  let c := s.fld Ag.CORE_MAP (4 * r) 4
  (({ s with age := { s.age with takeover := none } } : State).setFld Ag.CORE_MAP (4 * r) 4 5).garnet 7 Gk.core 5 c t

/-- Placement at boot (R331, R332): CP_5 takes a failed core's role while it is free; without it the supervisor and the platform share a
core, and DEGRADED is set. -/
def coresPlaced (s : State) (t : Tick) : State :=
  (List.range 5).foldl (fun s r =>
    if s.fld Ag.CORE_MAP (4 * r) 4 ∈ s.age.deadCores then
      if s.coreSpare then s.coreTaken r t
      else
        let c0 := s.fld Ag.CORE_MAP 0 4
        let c3 := s.fld Ag.CORE_MAP 12 4
        let s := if r = 0 then s.setFld Ag.CORE_MAP 0 4 c3
          else if r = 3 then s.setFld Ag.CORE_MAP 12 4 c0
          else (s.setFld Ag.CORE_MAP (4 * r) 4 c3).setFld Ag.CORE_MAP 12 4 c0
        s.setBit Ag.AGE_STATUS AgeStatus.DEGRADED true
    else s) s

/-! ### Resets (R420) -/

/-- Entries that a reset does not change: fuses, key slots and the tamper record. -/
def fuseKey (k : Nat) : Bool :=
  decide (k ∈ [Id.LIFE_CYCLE, Se.LC_LEFT, Se.SVN_MIN, Se.TAMPER_COUNT, Se.TAMPER_TIME]) ||
    (match recOf (k / 256) with | some (.ky, n) => decide (k = Ky.KEY_STATE n ∨ k = Ky.KEY_ROWS_LEFT n) | _ => false)

/-- A commit under way is torn: its slot is invalid (R310). -/
def nvTorn (s : State) : NvX :=
  match s.nv.started, s.nv.cmds with
  | true, c :: _ =>
    let p := s.nvPair c.pair
    let q : NvPair := match p.a, p.b with
      | some x, some y => if x.seq < y.seq then { p with a := none } else { p with b := none }
      | _, _ => p
    { pairs := Tab.set (fun _ => {}) s.nv.pairs c.pair q }
  | _, _ => { pairs := s.nv.pairs }

/-- The firmware slots after a reset: one being written is invalid (R428). -/
def fwTorn (s : State) : FwX :=
  let x := if s.fwx.storing.isSome then fwPut s.fwx none else s.fwx
  { slotA := x.slotA, slotB := x.slotB }

/-- Pins whose level changes with a reset: gates and range lines are driven low, and driven trigger pins become high-impedance (R49, R228). -/
def pinsReset (s : State) : State :=
  let s := s.forAll 16 fun n s => if s.fld (Ev.TRIG_CFG_0 + n) 0 2 = 2 then s.out (.trigPin n none) else s
  s.forAll 128 fun p s =>
    let s := if (s.px p).pgen.pin then s.out (.pgGate p false) else s
    if (s.px p).range.pattern = 0 then s else s.out (.rng p 0)

/-- The device is reset at `t` with a cause. What remains is what is not volatile, the levels of the inputs, and the waiting commands; a high
FLT_IN is a fault from reset on (R45, R49). A cause from inside the device starts the boot sequence at once. -/
def deviceReset (s : State) (cause : Nat) (t : Tick) : State :=
  let tx := s.pinsReset.tx
  let root := (s.rN Se.SEC_STATUS) &&& 2 ^ SecStatus.ROOT_1
  let inner := decide (cause ∈ [3, 4, 5, 7, 8])
  let flt := (s.ports.filter (fun e => e.2.flt)).map fun e => (e.1, ({ flt := true } : PortX))
  let p : PwrX := { boot := if inner then 2 else 0, cause := cause, time0 := t, refSel := s.pwr.refSel, clrLow := s.pwr.clrLow,
                    pfwLow := s.pwr.pfwLow, anaLost := s.pwr.anaLost, anaWait := s.pwr.anaWait, psuEn := s.pwr.psuEn }
  let keepLc := decide (3 ≤ s.sec.lcStep)
  let x : SecX := { keys := s.sec.keys, tampLatch := s.sec.tampLatch, lcStep := if keepLc then s.sec.lcStep else 0,
                    lcTo := if keepLc then s.sec.lcTo else 0, lcTamper := if keepLc then s.sec.lcTamper else none }
  let r : State := { now := t, regs := s.regs.filter (fun e => fuseKey e.1), ports := flt, fab := { trigIn := s.fab.trigIn },
                     age := { deadCores := s.age.deadCores }, nv := s.nvTorn, fwx := s.fwTorn, pwr := p, sec := x, tx := tx,
                     fresh := s.fresh, pending := s.pending }
  let r := if root = 0 then r else r.set Se.SEC_STATUS root
  let r := if inner then r.set Pw.RESET_CAUSE cause else r
  let r := if r.pwr.anaLost then r.forAll 128 fun p s => s.setBit (Pt.FORCE_STATUS p) ForceStatus.OE false else r
  let r := if r.pwr.pfwLow then r.setBit Pw.PWR_STATUS PwrStatus.PFW true else r
  let r := r.set Pw.POWER_STATE 0
  let r := if r.pwr.clrLow then r.forAll 128 fun p s => s.clearPort p t else r
  flt.foldl (fun s e => s.fltActs e.1 t) r

/-- Time 0 of a boot: the straps are sampled and RESET_CAUSE is latched (R421 step 1). -/
def bootStart (s : State) (cause : Nat) (t : Tick) : State :=
  ((s.modPwr fun p => { p with boot := 2, cause := cause, time0 := t, wakeWait := false }).set Pw.RESET_CAUSE cause).set Pw.POWER_STATE 0

/-- The PLLs lock: the counter starts at 0 in a new epoch (R421 step 2). -/
def bootLock (s : State) (t : Tick) : State :=
  let s := s.modPwr fun p => { p with boot := 3, preLock := t - p.time0, time0 := 0 }
  ({ s with now := 0 } : State).epochStart

/-! ### The boot sequence (R421) -/

/-- µs from time 0 to `t`. -/
def bootUs (s : State) (t : Tick) : Nat := (s.pwr.preLock + t) / 640

/-- The RAIL_DELAY sums of step 8, in µs: the SYSTEM rails that came up one after another (R421, R422). -/
def railDelays (s : State) : Nat :=
  (((s.jobRails .boot).filter fun n => decide (s.railState n = 2)).map fun n => 1000 * s.rN (Rl.RAIL_DELAY n)).sum

/-- Step 3, the device record; the clear of the scratchpad begins. -/
def bootThree (s : State) (t : Tick) : State :=
  let s := (s.loadPair pairDevice).pllSpare
  let s := ((s.satInc Tb.EPOCH 32 1).satInc Fw.BOOT_FAILS 8 1).satInc Pw.BOOT_COUNT 32 1
  let s := s.requestCommit pairDevice .device
  let s := ({ s with spad := [], mem := { s.mem with soft := [], poison := [], fix := [], reload := [], spare := [] } } : State).setBit
    Fb.FAB_STATUS FabStatus.CLEARING true
  (s.syncBt).modPwr fun p => { p with boot := 5, clearDue := t + 65536 }

/-- Slots that are valid and verify, the newer first; the flag says that it is slot B. -/
def fwSlots (s : State) : List (Bool × FwSlot) :=
  let one := fun (b : Bool) (x : Option FwSlot) => match x with | some w => if s.fwVerifies w.img then [(b, w)] else [] | none => []
  let a := one false s.fwx.slotA
  let b := one true s.fwx.slotB
  match a, b with
  | [x], [y] => if x.2.seqn < y.2.seqn then [y, x] else [x, y]
  | _, _ => a ++ b

/-- Recovery (R426). -/
def fwRecover (s : State) : State := (s.setBit Fw.FW_STATUS FwStatus.RECOVERY true).set Fw.FW_STATE 4

/-- The image boots: its slot and versions are reported. -/
def fwBoot (s : State) (b : Bool) (i : FwImage) : State :=
  (((s.modFw fun x => { x with running := some i }).set Fw.FW_SLOT b.toNat).fwVersions i (List.range 6)).modPwr fun p => { p with boot := 6 }

/-- Tampers latched in STANDBY are answered before the firmware is chosen (R456). -/
def bootTamper (s : State) (t : Tick) : State :=
  let l := s.sec.tampLatch
  let s := { s with sec := { s.sec with tampLatch := 0 } }
  (List.range 2).foldl (fun s k => if bitOf l k then s.tamper k t else s) s

/-- Step 5, the firmware. -/
def bootFive (s : State) (t : Tick) : State :=
  let s := s.bootTamper t
  let s := (match s.fwx.slotA with | some w => s.fwSvn w.img | none => s)
  let s := (match s.fwx.slotB with | some w => s.fwSvn w.img | none => s).fwSeqs
  let s := s.coresPlaced t
  match s.fwSlots with
  | [] => s.fwRecover
  | [x] => s.fwBoot x.1 x.2.img
  | x :: y :: _ =>
    if 3 ≤ s.rN Fw.BOOT_FAILS then ((s.setBit Fw.FW_STATUS FwStatus.FALLBACK true).set Fw.BOOT_FAILS 0).fwBoot y.1 y.2.img
    else s.fwBoot x.1 x.2.img

/-- Entries of Carillon, which are restored at step 9 (R235). -/
def carillonKey (k : Nat) : Bool :=
  match recOf (k / 256) with
  | some (r, _) => decide (r = .ch ∨ r = .ev ∨ r = .ec ∨ r = .dl ∨ r = .tm)
  | none => false

/-- The image in force, without or only with the entries of Carillon. -/
def restoreImage (s : State) (carillon : Bool) : State :=
  match (s.nvPair pairImage).best with
  | none => s
  | some w =>
    let d := { w.data with regs := w.data.regs.filter (fun e => decide (carillonKey e.1 = carillon)),
                           blobs := if carillon then [] else w.data.blobs }
    s.loadRecord pairImage d

/-- CFG_SLOT and CFG_SEQ. -/
def imageSlot (s : State) : State :=
  let p := s.nvPair pairImage
  match p.best with
  | none => (s.set Dv.CFG_SEQ 0).set Fw.CFG_SLOT 0xFF
  | some w => (s.set Dv.CFG_SEQ w.seq).set Fw.CFG_SLOT (decide (p.b = some w)).toNat

/-- Port values whose reference range follows from the write (R129), as restored; the effective divisor is that of the restored
LOOP_DIV (R105). -/
def restorePort (s : State) (p : Nat) : State :=
  let keys := [Pt.FORCE_SETPOINT p, Pt.PULSE_SETPOINT p, Pt.COMPL_HI p, Pt.COMPL_LO p, Pt.TH_I_LO p, Pt.TH_I_HI p, Pt.TH_V_LO p, Pt.TH_V_HI p,
               Pt.LINK_PORT p, Pt.LM_R_INIT p, Pt.READBACK_INTERVAL p, Pt.FAST_PACK p, Pt.FAST_DECIM_LOG2 p]
  let s := ((s.set (Pt.IRNG_ACTIVE p) (s.topI p)).set (Pt.VRNG_ACTIVE p) (s.topV p)).set (Pt.LOOP_DIV_ACTIVE p) (s.divSought p)
  keys.foldl (fun s k => if s.rN k = odDefault k then s else s.applyEntry p k s.now) s

/-- Regions and rings of the image are enabled as by their owners; those that no longer meet their checks stay disabled. DMA channels and
notification queues start disabled, since the endpoint was reset (R376). -/
def restoreMemory (s : State) : State :=
  let rg := (List.range 64).filter fun r => s.bit (Rg.REGION_EN r) 0
  let rn := (List.range 32).filter fun r => s.bit (Rn.RING_EN r) 0
  let s := rg.foldl (fun s r => s.set (Rg.REGION_EN r) 0) s
  let s := rn.foldl (fun s r => s.set (Rn.RING_EN r) 0) s
  let s := rg.foldl (fun s r => if s.regionGeometryOk r then s.regionOn r else s) s
  let s := rn.foldl (fun s r => if s.ringPlaced r then s.ringOn r else s) s
  let s := (List.range 32).foldl (fun s r => s.set (Dm.DMA_EN r) 0) s
  (List.range 17).foldl (fun s f => s.set (Fn.NQ_EN f) 0) s

/-- Roles that the Garnet reserve fixes (R37, R38): under SUBSTITUTE the relief slice is in DRIVE for the OFF privileged port (R28). -/
def restoreRoles (s : State) (g : Nat) : State :=
  let x := reliefSlice g
  let k := s.rN (Gr.PRIV_PORT g)
  match s.rN (Gr.RELIEF_MODE g) with
  | 1 => (((s.setRole (9 * g + k) 4 0xFF).setRole x 0 (8 * g + k)).set (Pt.DRIVE_SLICE (8 * g + k)) x).set (Gr.RELIEF_PORT g) k
  | 2 => s.setRole x 4 0xFF
  | _ => s

/-- A group leaves CONFIG with its checks (R429). -/
def bootGroup (s : State) (g : Nat) (t : Tick) : State :=
  match s.groupCheck g with
  | some _ => (s.set (Gr.GROUP_STATE g) 2).setBit (Gr.GROUP_STATUS g) GroupStatus.COMMIT_FAIL true
  | none =>
    let s := (List.range 8).foldl (fun s k => s.commitPort (8 * g + k)) s
    if s.bit Pw.GATE_MASK g then s.gateStart g t else s.set (Gr.GROUP_STATE g) 0

/-- A transition that a power loss interrupted after its step 2 is completed (R459). -/
def bootLife (s : State) (t : Tick) : State :=
  if s.sec.lcStep = 3 then s.lcFuse.lcFinish t else if s.sec.lcStep = 4 then s.lcFinish t else s

/-- Step 6, the records. -/
def bootSix (s : State) (t : Tick) : State :=
  let s := (List.range pairDevice).foldl (fun s j => s.loadPair j) s
  let s := (s.set Se.TAMP_EN (odDefault Se.TAMP_EN)).set Se.TAMP_ACTION (odDefault Se.TAMP_ACTION)
  let s := ((s.restoreImage false).imageSlot).set Dv.CFG_STATE 0
  let s := s.modTb fun b => { b with role := s.rN Tb.SYNC_ROLE }
  let s := (s.restoreMemory).forAll 16 fun g s => s.restoreRoles g
  let s := s.forAll 128 fun p s => s.restorePort p
  let s := s.forAll 144 fun i s => s.wornBoot i
  let s := s.forAll 16 fun g s => (s.bootGroup g t).groupPlan g
  let s := (s.syncDeviceConfig).bootLife t
  s.modPwr fun p => { p with boot := 7 }

/-- Step 7, Garnet: a retired cell is replaced, and a committed WORN mark whose substitution is missing is applied again (R332); step 8, the rails. -/
def bootSeven (s : State) (t : Tick) : State :=
  let s := s.cellBoot t
  let s := s.forAll 16 fun g s =>
    if s.rN (Gr.RELIEF_MODE g) ≠ 0 then s
    else if s.worn (reliefSlice g) then (s.modRot g fun r => { r with retireWant := true }).substTry g t
    else
      let k := s.rN (Gr.PRIV_PORT g)
      if k < 8 ∧ s.worn (9 * g + k) = true then (s.modRot g fun r => { r with substWant := true }).substTry g t else s
  (s.modPwr fun p => { p with boot := 8 }).railsStart .boot t

/-- Carillon at step 9 (R235). -/
def restoreCarillon (s : State) : State :=
  let s := s.restoreImage true
  let s := s.forAll 16 fun n s => if s.fld (Ev.TRIG_CFG_0 + n) 0 2 = 2 then s.trigDrive n else s
  let on := (List.range 1024).filter fun e => s.bit (Ch.CH_EN e) 0
  let s := on.foldl (fun s e => s.set (Ch.CH_EN e) 0) s
  on.foldl (fun s e =>
    if (s.set (Ch.CH_EN e) 1).zeroCycle e then s.setBit (Ch.CH_STATUS e) ChStatus.ENABLE_REFUSED true else s.set (Ch.CH_EN e) 1) s

/-- The scanner and the sequencer at step 9 (R190). -/
def bootSequencer (s : State) (t : Tick) : State :=
  let s := (List.range 4).foldl (fun s k =>
    if s.bit Sq.SCN_SEL_EN k then s.requestFrame { op := 0xC3, port := 0, sel := k, route := 0, req := t } else s) s
  let s := s.forAll 128 fun p s => s.set (Pt.ROUTE_NOW p) 0
  let auto := s.regs.filterMap fun e => match recOf (e.1 / 256) with
    | some (.cx, c) => if e.1 = Cx.BIND c ∧ s.bit (Cx.BIND c) 10 = true then some c else none
    | _ => none
  auto.foldl (fun s c =>
    match s.startCheck c (s.rN (Cx.OWNER c)) with
    | some _ => s.satInc Sq.AUTOSTART_REFUSED 16 1
    | none => (s.enqueue c t).selectAt (s.ctxPort c) t) s

/-- Step 9: provisional service. T_PROV leaves out the RAIL_DELAY sums of step 8 (R422). -/
def bootNine (s : State) (t : Tick) : State :=
  let s := (s.modPwr fun p => { p with boot := 10, nineWait := false }).restoreCarillon
  let s := ((s.set Pw.POWER_STATE 1).setBit Pw.PWR_STATUS PwrStatus.PROVISIONAL true).set Pw.T_PROV (s.bootUs t - s.railDelays)
  let s := s.bootSequencer t
  let s := s.forAll 128 fun p s => s.when (s.bit (Pt.AUTO_ENABLE p) 0) fun s => s.enableTry p t
  let s := s.setBit Rc.J_STATUS JStatus.SCAN true
  let s := if s.bit Rc.J_EN 0 then ((s.recStart t).checkpoint t).shedStart t else s
  (s.mcSelfTest t).syncAll

/-- Step 8 has ended: step 9 follows once the scratchpad is clear. -/
def bootEight (s : State) (t : Tick) : State :=
  if s.pwr.cleared then s.bootNine t else s.modPwr fun p => { p with nineWait := true }

/-- Step 4 ends (R258). -/
def clearEnd (s : State) (t : Tick) : State :=
  let s := (s.setBit Fb.FAB_STATUS FabStatus.CLEARING false).modPwr fun p => { p with cleared := true }
  let s := if s.mem.wait = [] then s else s.later t .fabCycle
  if s.pwr.nineWait then s.bootNine t else s

/-- Terms of a slice with no valid record (R297). -/
def recordAbsent (s : State) (i : Nat) : State :=
  (((s.setQ (Sl.U_OFF_RES_V i) (mkRat 128 10)).setQ (Sl.U_GAIN_RES_V i) (mkRat 256 10)).setQ (Sl.U_OFF_RES_I i) (mkRat 128 10)).setQ
    (Sl.U_GAIN_RES_I i) (mkRat 256 10)

/-- Step 11: full service (R424). `bad`: the slices that failed the verification of R312. -/
def bootEleven (s : State) (bad : List Nat) (t : Tick) : State :=
  let s := (s.modPwr fun p => { p with boot := 11 }).set Pw.POWER_STATE 2
  let s := ((s.setBit Pw.PWR_STATUS PwrStatus.FULL true).setBit Pw.PWR_STATUS PwrStatus.PROVISIONAL false).set Pw.T_FULL (s.bootUs t)
  let s := (s.set Fw.BOOT_FAILS 0).requestCommit pairDevice .device
  let s := bad.foldl (fun s i =>
    ((s.recordAbsent i).rotBit (i / 9) RotStatus.VERIFY_FAIL true).modRot (i / 9) fun r => { r with must := true }) s
  let s := { s with cal := { s.cal with lastXfer := t }, age := { s.age with evalAt := t, stressAt := t } }
  (s.forAll 16 fun g s => s.later t (.rot g)).syncAll

/-- A step of the boot sequence ends at `t`. -/
def bootStep (s : State) (bad : List Nat) (t : Tick) : State :=
  match s.pwr.boot with
  | 3 => s.bootThree t
  | 5 => if s.bit Fw.FW_STATUS FwStatus.RECOVERY then s else s.bootFive t
  | 6 => s.bootSix t
  | 7 => s.bootSeven t
  | 10 => s.bootEleven bad t
  | _ => s

/-! ### IDLE and STANDBY (R417-R419) -/

/-- An entry into IDLE begins (R418). -/
def idleEnter (s : State) (t : Tick) : State :=
  let gs := (List.range 16).filter fun g => decide (s.groupState g = 0)
  let s := (s.modPwr fun p => { p with idleGroups := gs }).set Pw.POWER_STATE 3
  (gs.foldl (fun s g => s.groupQuiesce g t) s).quietCheck t

/-- An entry into STANDBY begins (R419 step 1). -/
def standbyEnter (s : State) (t : Tick) : State :=
  let gs := (List.range 16).filter fun g => decide (s.groupState g = 0)
  let s := ((s.modPwr fun p => { p with idleGroups := [], standbyStep := 1 }).set Pw.POWER_STATE 5).setBit Pw.PWR_STATUS PwrStatus.WAKE_PENDING false
  (gs.foldl (fun s g => s.groupQuiesce g t) s).quietCheck t

/-- An image is being stored or the cores are being restarted (R417). -/
def fwBusy (s : State) : Bool := decide (s.rN Fw.FW_STATE = 1 ∨ s.rN Fw.FW_STATE = 3)

/-- An accepted IDLE (2) or STANDBY (3) request: at once, or when FW_STATE next reads IDLE or READY. -/
def powerLower (s : State) (req : Nat) (t : Tick) : State :=
  if s.fwBusy then s.modPwr fun p => { p with reqWait := req }
  else if req = 3 then s.standbyEnter t
  else if s.rN Pw.POWER_STATE = 3 then s.setBit Pw.PWR_STATUS PwrStatus.WAKE_PENDING false
  else s.idleEnter t

/-- A request that waited for the firmware takes effect. -/
def powerRetry (s : State) (t : Tick) : State :=
  let r := s.pwr.reqWait
  if r = 0 || s.fwBusy then s else (s.modPwr fun p => { p with reqWait := 0 }).powerLower r t

/-- The recorder's work before STANDBY is not done. -/
def recBusy (s : State) : Bool :=
  let stuck := s.bit Rc.J_STATUS JStatus.NO_STORE || s.bit Rc.J_STATUS JStatus.FAULT || decide (s.rN Rc.STORE_CHUNKS = 0) ||
    s.bit Rc.J_STATUS JStatus.FULL_STOP
  s.rcd.cmd.isSome || (!stuck && (s.rcd.headerWait || s.rcd.flushWait || decide (s.rcd.staged ≠ [])))

/-- The device is in STANDBY: what a reset leaves, with the clocks stopped. The always-on domain holds which tamper pins act, and how (R416, R456). -/
def standbyNow (s : State) (t : Tick) : State :=
  let en := s.rN Se.TAMP_EN
  let act := s.rN Se.TAMP_ACTION
  let s := (((s.deviceReset 2 t).set Se.TAMP_EN en).set Se.TAMP_ACTION act).modPwr fun p => { p with standby := true, psuEn := false }
  s.out (.pin "PSU_EN" false)

/-- The entry into STANDBY goes on by one step, if it can (R419). -/
def standbyTry (s : State) (t : Tick) : State :=
  match s.pwr.standbyStep with
  | 2 =>
    let s := s.modPwr fun p => { p with standbyStep := 3 }
    if s.bit Pw.STANDBY_SAVE 0 && decide (s.rN Dv.CFG_STATE = 1) then s.requestSave else s
  | 3 => if s.committing .image then s else (s.recPowerFail t).modPwr fun p => { p with standbyStep := 4 }
  | 4 => if s.recBusy then s else ((s.headerDue).recKick t).modPwr fun p => { p with standbyStep := 5 }
  | 5 => if s.recBusy then s else ((s.sessCloseAll).modPwr fun p => { p with standbyStep := 6 }).railsStart .standby t
  | _ => s

/-- Every group is quiet: step 2 of R419 may begin. -/
def standbyQuiet (s : State) : State :=
  if s.pwr.standbyStep = 1 then s.modPwr fun p => { p with standbyStep := 2 } else s

/-- WAKE, or a low pulse on RESET_N, in STANDBY. -/
def standbyWake (s : State) : State :=
  (s.modPwr fun p => { p with standby := false, wakeWait := true, psuEn := true, cause := 2 }).out (.pin "PSU_EN" true)

/-! ### Switching sequences that have ended -/

def railJobDone (s : State) (job : RailJob) (ok : Bool) (t : Tick) : State :=
  match job with
  | .boot => s.bootEight t
  | .gate g => s.gateDone g t
  | .ungate g =>
    if ok then s.modGx g fun x => { x with gateStep := 12, gateDue := t + 128000 } else s.modGx g fun x => { x with gateStep := 0 }
  | .standby => s.standbyNow t

/-- Act on the sequences that have ended, in order. -/
def railFinish (s : State) (t : Tick) : Nat → State
  | 0 => s
  | n + 1 =>
    match s.rail.fin with
    | [] => s
    | (j, ok) :: l => ((s.modRail fun r => { r with fin := l }).railJobDone j ok t).railFinish t n

/-! ### Power fail (R437, R440) -/

/-- The actions of a power-fail warning. -/
def pfwActions (s : State) (t : Tick) : State :=
  let s := (s.setBit Pw.PWR_STATUS PwrStatus.PFW_SEEN true).recPowerFail t
  match s.rN Pw.PFW_ACTION with
  | 1 => s.disableAll t
  | 2 => (s.modPwr fun p => { p with pfwClear := true }).forAll 128 fun p s => s.clearPort p t
  | _ => s

/-- The warning has ended: J_2 recording resumes and the clear cause ends. -/
def pfwOver (s : State) (t : Tick) : State :=
  if s.pwr.pfwLow || s.coreSupplyBad then s
  else
    let s := (s.modPwr fun p => { p with pfwClear := false }).forAll 128 fun p s => s.clearEnds p t
    let s := s.modRec fun r => { r with pfwShed := false }
    if s.rcd.shedOn || s.bit Rc.J_STATUS JStatus.SCAN then s else s.shedEnd t

end State
end Sys2Proof.Machine
end

