-- ==== Sys2Proof/Machine/PortReq.lean ====
section
/-!
DEFINITION. Writes that act as commands on groups, ports, contexts and sweep lists: GROUP_CTRL (R347, R433, R434), PORT_CTRL (R348,
R430-R432), SPAN (R59-R62), FORCE_CTRL (R66, R75), PGEN_CTRL (R172), WIN_CTRL (R327, R328), RUN_STATE (R180, R181), SEQ_HOLD (R198) and
COMMIT (R182). Each is the whole access: its checks in the order of R345, its effect, its answer.
-/

namespace Sys2Proof.Machine

/-- An abort code is a device-state abort. -/
def isDeviceState (a : Nat) : Bool := decide (a / 2 ^ 16 = 0x0502)

namespace State

/-! ### Groups -/

/-- The conditions of a GROUP_CTRL write (R347, R434). -/
def groupCtrlCheck (s : State) (g v : Nat) : Option Nat :=
  let st := s.groupState g
  let step := (s.gx g).gateStep
  let gating := decide (1 ≤ step) && decide (step ≤ 3)
  if v = 2 then
    if st = 3 then some (Abort.deviceState 4) else if st = 2 then s.groupCheck g else none
  else if v = 4 then
    if st = 2 ∨ (gating = true ∧ s.bit (Gr.GROUP_STATUS g) GroupStatus.UNGATE_PENDING = true) then none else some (Abort.deviceState 4)
  else if v ∈ [0, 1, 8] then none
  else some (Abort.valueRange 4)

/-- What an accepted GROUP_CTRL write does at `t`. -/
def groupCtrlDo (s : State) (g v : Nat) (t : Tick) : State :=
  let st := s.groupState g
  let step := (s.gx g).gateStep
  let pend := fun (b : Bool) (s : State) => s.setBit (Gr.GROUP_STATUS g) GroupStatus.UNGATE_PENDING b
  match v with
  | 1 => s.groupQuiesce g t
  | 2 =>
    if st = 2 then s.groupLeave g t
    else if st = 1 then s.setBit (Gr.GROUP_STATUS g) GroupStatus.RELEASE_PENDING true
    else s
  | 4 => if st = 2 then (s.gateStart g t).quietCheck t else pend false s
  | 8 =>
    if st ≠ 3 then s
    else if step = 0 then s.ungateStart g t
    else if step ≤ 3 then pend true s
    else s
  | _ => s

/-- A write of GROUP_CTRL. A failed check of R346 sets COMMIT_FAIL. -/
def groupCtrl (who g v : Nat) (t : Tick) (s : State) : State :=
  cmdWrite who (Gr.GROUP_CTRL g) v (fun s => s.groupCtrlCheck g v)
    (fun a s => s.when (decide (v = 2) && decide (a / 2 ^ 16 = 0x0601)) fun s => s.setBit (Gr.GROUP_STATUS g) GroupStatus.COMMIT_FAIL true)
    (fun s => s.groupCtrlDo g v t) s

/-! ### Ports -/

/-- The conditions of a PORT_CTRL write (R348, R432). In a calibration window an OFF port is not tested until the window serves it. -/
def portCtrlCheck (s : State) (p v : Nat) : Option Nat :=
  if 3 ≤ v then some (Abort.valueRange 4)
  else if v = 1 then
    if s.groupState (groupOf p) ≠ 0 then
      if s.portState p = 0 then s.enableReason p |>.map Abort.deviceState else some (Abort.deviceState 4)
    else if s.portState p = 0 ∧ s.winHolds p = false then s.enableReason p |>.map Abort.deviceState
    else none
  else none

/-- A PORT_CTRL write. An enable and a disable go through the group controller in their order; an enable waits for no tick boundary, and a
disable only on a port whose loop runs. -/
def portCtrl (who p v : Nat) (t : Tick) (s : State) : State :=
  let key := Pt.PORT_CTRL p
  cmdSubmit who key (fun s => s.portCtrlCheck p v)
    (fun a s => s.when (decide (v = 1) && isDeviceState a) fun s => s.setBit (Pt.PORT_STATUS p) PortStatus.REFUSED true)
    (fun s =>
      if v = 1 then s.gcSend who key v { port := p, op := .enable, since := t } false t
      else if v = 2 then
        let s := s.rotDisable p t
        s.gcSend who key v { port := p, op := .disable, since := t } (decide (s.portState p = 1 ∨ s.portState p = 2)) t
      else (s.jConfig key who v).accept who key []) s

/-- A value for an entry of the port record that waits for the port's tick boundary, if its loop runs (R13, R14). -/
def portSubmit (s : State) (who p key v : Nat) (waits : Bool) (t : Tick) : State :=
  s.markDirty.gcSend who key v { port := p, op := .setEntry key 0 v, since := t } waits t

/-- The spans between which a change stands lie around SAFE_VALUE (R59). -/
def spanSafe (s : State) (p v : Nat) : Bool :=
  let x := ratF32 (s.rN (Pt.SAFE_VALUE p))
  insideSpan (s.rN (Pt.SPAN_ACTIVE p)) x && insideSpan v x && (!s.spanEntering p || insideSpan (s.px p).force.spanTo x)

/-- A SPAN write. -/
def spanWrite (who p v : Nat) (t : Tick) (s : State) : State :=
  let key := Pt.SPAN p
  cmdSubmit who key
    (fun s => if 3 < v then some (Abort.valueRange 0x30) else if s.spanSafe p v then none else some (Abort.valueRange 0x32)) noMark
    (fun s => (s.portSubmit who p key v (s.px p).force.everEnabled t).when (s.px p).force.everEnabled fun s => s.spanAwaits p v) s

/-- The conditions of a CLEAR_RELEASE (R66). -/
def releaseCheck (s : State) (p : Nat) : Option Nat :=
  if s.inFault p then some (Abort.deviceState 1)
  else if s.pwr.clrLow || s.pwr.pfwClear then some (Abort.deviceState 2)
  else if s.cleared p then none
  else some (Abort.deviceState 6)

/-- A FORCE_CTRL write: what it asks for takes effect in full at one tick (R14). -/
def forceCtrl (who p v : Nat) (t : Tick) (s : State) : State :=
  let key := Pt.FORCE_CTRL p
  cmdSubmit who key
    (fun s => match (if bitOf v 0 then s.releaseCheck p else none) with
      | some a => some a
      | none => if 4 ≤ v then some (Abort.valueRange 0x42) else none) noMark
    (fun s => s.gcSend who key v { port := p, op := .forceCtrl v, since := t } (s.ticking p) t) s

/-- The conditions of a PGEN_CTRL write: START, unless STOP takes its place or START_SRC is not 0, and REARM (R162, R168, R172). -/
def pgenCtrlCheck (s : State) (p v : Nat) : Option Nat :=
  let start := if bitOf v 0 && !bitOf v 1 && decide (s.startSrc p = 0) then s.startReason p s.now else none
  let rearm := if bitOf v 2 && s.tripped p then s.rearmReason p s.now else none
  match start, rearm with
  | some a, some b => some (Abort.deviceState (min a b))
  | some a, none => some (Abort.deviceState a)
  | none, some b => some (Abort.deviceState b)
  | none, none => if 16 ≤ v then some (Abort.valueRange 0xD9) else none

/-- A PGEN_CTRL write: what it asks for takes effect in full at the next tick boundary. -/
def pgenCtrl (who p v : Nat) (t : Tick) (s : State) : State :=
  let key := Pt.PGEN_CTRL p
  cmdSubmit who key (fun s => s.pgenCtrlCheck p v) noMark
    (fun s =>
      let w := if s.startSrc p = 0 then v else v - v % 2
      s.gcSubmit who key v { port := p, op := .pgen w, since := t }) s

/-! ### Calibration windows (R327, R328) -/

/-- A WIN_CTRL write. -/
def winCtrl (who p v : Nat) (t : Tick) (s : State) : State :=
  let key := Pt.WIN_CTRL p
  cmdSubmit who key (fun _ => if 3 < v then some (Abort.valueRange 0xF1) else none) noMark
    (fun s => s.gcSend who key v { port := p, op := .winCtrl v, since := t } (s.ticking p) t) s

/-! ### Contexts -/

/-- Who may write RUN_STATE: the owner of the context; an ABORT also the port's owner or P_SUP (R181). -/
def runOwner (s : State) (who c v : Nat) : Option Nat :=
  if v = 3 ∧ (who = 0 ∨ who = s.rN (Pt.OWNER (s.ctxPort c))) then none else s.ownerAbort who (Cx.RUN_STATE c)

/-- An ABORT of context `c` has been accepted and waits for its tick boundary (R200). -/
def abortWaits (s : State) (c : Nat) : Bool :=
  let g := s.gx (groupOf (s.ctxPort c))
  (g.queue ++ g.held.map fun h => h.2.2).any fun x => decide (x.op = .abortCtx c)

/-- The conditions of a RUN_STATE write (R180, R181). -/
def runStateCheck (s : State) (who c v : Nat) : Option Nat :=
  match v with
  | 1 => s.startCheck c who
  | 2 => if (s.rs c = 1 ∨ s.rs c = 2) ∧ s.abortWaits c = false then none else some (Abort.deviceState 6)
  | 3 => if s.rs c = 1 ∨ s.rs c = 2 ∨ s.rs c = 6 then none else some (Abort.deviceState 6)
  | _ => some (Abort.valueRange 2)

/-- A RUN_STATE write. -/
def runStateWrite (who c v : Nat) (t : Tick) (s : State) : State :=
  let key := Cx.RUN_STATE c
  let p := s.ctxPort c
  cmdRun who key (fun s => s.runOwner who c v) (fun s => s.runStateCheck who c v) noMark
    (fun s =>
      if v = 3 then s.gcSubmit who key v { port := p, op := .abortCtx c, since := t }
      else
        let s := s.jConfig key who v
        let s := if v = 1 then (s.enqueue c t).selectAt p t
          else if s.rs c = 1 then s.leaveQueue p c 4
          else s.set key 6
        s.accept who key []) s

/-- A SEQ_HOLD write: with 0 the port selects again (R198). -/
def seqHoldWrite (who p v : Nat) (t : Tick) (s : State) : State :=
  let key := Pt.SEQ_HOLD p
  cmdSubmit who key (fun _ => if 1 < v then some (Abort.valueRange 0xE4) else none) noMark
    (fun s => s.gcSend who key v { port := p, op := .setEntry key 0 v, since := t } (s.ticking p) t) s

/-! ### Sweep lists (R182) -/

/-- Slots of list `l`. -/
def listSlots (s : State) (l : Nat) : Nat × Nat := (s.rN (Ls.FIRST_SLOT l), s.rN (Ls.COUNT l))

/-- The slot bounds, and no slot of another VALID list. -/
def listGeometryOk (s : State) (l : Nat) : Bool :=
  let a := s.listSlots l
  decide (1 ≤ a.2) && decide (a.1 + a.2 ≤ 65536) && (s.listsHeld.all fun m =>
    let b := s.listSlots m
    decide (m = l) || decide (s.rN (Ls.LIST_STATE m) ≠ 2) || decide (a.1 + a.2 ≤ b.1) || decide (b.1 + b.2 ≤ a.1))

/-- The limits of MODE (R178). -/
def modeOk (v : Nat) : Bool :=
  decide (v < 2 ^ 24) && decide (field v 21 3 ≤ 4) && decide (field v 19 2 ≠ 3) && decide (field v 17 2 ≠ 3) && decide (field v 0 7 = 0)

/-- A point keeps the limits of its used words (R183). -/
def pointOk (s : State) (l k : Nat) : Bool :=
  let w := fun n => s.pointWord l k n
  let c := w 0
  let lim := fun n => decide (absI (toSigned 40 (w n)) ≤ fs120)
  decide (c &&& 0xFFFF1F01 = 0) && decide (c < 2 ^ 32) && (!bitOf c 5 || lim 3) && (!bitOf c 4 || lim 4) &&
    (!bitOf c 3 || (decide (w 5 < 2 ^ 32) && intSpecOk (w 5))) && (!bitOf c 2 || modeOk (w 6)) && (!bitOf c 1 || decide (0 < toSigned 40 (w 7)))

/-- The largest integer v in [0, 2^40) for which v − d is at most a·(b/a)^(k/n) (R182), for positive a and b. -/
def logFloor (a b n k : Nat) (d : Rat) : Nat :=
  (List.range 40).foldl (fun (v : Nat) (j : Nat) =>
    let w : Nat := v + 2 ^ (39 - j)
    let x := (w : Rat) - d
    if x ≤ 0 ∨ x ^ n * (a : Rat) ^ k ≤ (b : Rat) ^ k * (a : Rat) ^ n then w else v) 0

/-- A LOG point between the first and the last (R182): the integer nearest to a·(b/a)^(k/n), ties toward +∞. The rounding inside the binary64 power is
not given: where the exact value lies within 2^−8 of the middle of two integers it may end at either (log entry 13). -/
def logPoint (a b : Int) (n k : Nat) : Int :=
  let eps := mkRat 1 256
  let half := mkRat 1 2
  let f := fun (d : Rat) => logFloor a.natAbs b.natAbs (n - 1) k d
  let lo := f (half - eps)
  let hi := f (half + eps)
  let m := if lo = hi then lo else if xor (Config.logUp a b n k) (decide (a < 0)) then hi else lo
  if a < 0 then -(m : Int) else m

/-- The generated value of point `k`. -/
def genValue (s : State) (l k : Nat) : Int :=
  let n := s.rN (Ls.COUNT l)
  let a := s.rI (Ls.GEN_START l)
  let b := s.rI (Ls.GEN_STOP l)
  if n ≤ 1 then a
  else if s.rN (Ls.KIND l) = 1 then a + (2 * k * (b - a) + (n - 1)) / (2 * (n - 1))
  else if k = 0 then a
  else if k = n - 1 then b
  else logPoint a b n k

/-- Expand a LIN or LOG list from its template, the slot at FIRST_SLOT. -/
def listExpand (s : State) (l : Nat) : State :=
  if s.rN (Ls.KIND l) = 0 then s
  else
    let t := (List.range 8).map fun w => s.pointWord l 0 w
    (List.range (s.rN (Ls.COUNT l))).foldl (fun (s : State) k =>
      s.spadPutAll (slotAddr (s.rN (Ls.FIRST_SLOT l) + k)) (t.set (s.rN (Ls.GEN_WORD l)) (ofSigned 40 (s.genValue l k)))) s

/-- The checks of a COMMIT, in the order of its steps. -/
def commitCheck (s : State) (l v : Nat) : Option Nat :=
  let a := s.rI (Ls.GEN_START l)
  let b := s.rI (Ls.GEN_STOP l)
  if v ≠ 1 then some (Abort.valueRange 0x07)
  else if !s.listGeometryOk l then some (Abort.valueRange 0x02)
  else if s.rN (Ls.KIND l) = 2 ∧ ¬ ((0 < a ∧ 0 < b) ∨ (a < 0 ∧ b < 0)) then some (Abort.valueRange 0x05)
  else if (List.range (s.rN (Ls.COUNT l))).any (fun k => !s.pointOk l k) then some (Abort.valueRange 0x0B)
  else none

/-- A COMMIT that its checks accept: the list is expanded, LIST_CRC is computed and the list is VALID. -/
def commitDo (s : State) (l : Nat) : State :=
  let s := s.listExpand l
  let s := (s.set (Ls.LIST_CRC l) (crc32c (s.pointBytes l))).set (Ls.LIST_STATE l) 2
  s.jList l 0 9363

/-- A COMMIT write. -/
def commitWrite (who l v : Nat) (s : State) : State :=
  cmdWrite who (Ls.COMMIT l) v (fun s => s.commitCheck l v) noMark (fun s => s.commitDo l) s

end State
end Sys2Proof.Machine
end

