-- ==== Sys2Proof/Machine/DevReq.lean ====
section
/-!
DEFINITION. Writes that act as commands on the device: power (R417), the configuration image (R352), the timebase (R210, R214), Carillon
(R226, R233), regions and rings (R252, R259, R262, R265), the monitor converter (R284), calibration (R290, R308), ageing (R325), sessions
(R367), DMA channels (R386, R387), recorder and replay (R399, R406-R411), rails (R439), firmware (R427) and security (R446-R452, R459). Each
is the whole access: its checks in the order of R345, its effect, its answer.
-/

namespace Sys2Proof.Machine
namespace State

/-- A device-state reason, if a condition holds. -/
def reasonIf (c : Bool) (r : Nat) : Option Nat := if c then some (Abort.deviceState r) else none

/-- A value-range abort of the written entry, if a condition holds. -/
def rangeIf (c : Bool) (key : Nat) : Option Nat := if c then some (Abort.valueRange (key % 256)) else none

/-- A command entry that knows the value 1 only. -/
def oneOnly (key v : Nat) : Option Nat := rangeIf (decide (v ≠ 1)) key

/-- Provisional service: some requests are refused (R423). -/
def provisional (s : State) : Bool := s.bit Pw.PWR_STATUS PwrStatus.PROVISIONAL

/-! ### Device control, power -/

def cfgSaveWrite (who v : Nat) (s : State) : State :=
  cmdWrite who Dv.CFG_SAVE v (fun _ => oneOnly Dv.CFG_SAVE v) noMark requestSave s

/-- The requests that R417 accepts. -/
def powerCheck (s : State) (v : Nat) : Option Nat :=
  let st := s.rN Pw.POWER_STATE
  let ok := match v with
    | 1 => decide (st = 3 ∨ st = 4)
    | 2 => decide (st = 2 ∨ st = 3)
    | 3 => decide (st = 2 ∨ st = 3 ∨ st = 4)
    | _ => true
  if !ok then some (Abort.deviceState 6) else rangeIf (decide (v = 0 ∨ 4 < v)) Pw.POWER_REQ

def powerDo (s : State) (v : Nat) (t : Tick) : State :=
  match v with
  | 1 => if s.rN Pw.POWER_STATE = 4 then s.idleWake t else s.setBit Pw.PWR_STATUS PwrStatus.WAKE_PENDING true
  | 4 => s.later t (.reset 3)
  | n => s.powerLower n t

def powerReq (who v : Nat) (t : Tick) (s : State) : State :=
  cmdWrite who Pw.POWER_REQ v (fun s => s.powerCheck v) noMark (fun s => s.powerDo v t) s

/-! ### Timebase -/

def taiSetWrite (who v : Nat) (t : Tick) (s : State) : State :=
  cmdWrite who Tb.TAI_SET v (fun _ => none) noMark (fun s => s.modTb fun b => { b with taiSet := some (v, t) }) s

def resyncWrite (who v : Nat) (s : State) : State :=
  cmdWrite who Tb.RESYNC v
    (fun s => if s.allQuiet then oneOnly Tb.RESYNC v else some (Abort.deviceState (if s.anyEnabled then 8 else 4))) noMark
    (fun s => s.syncLoad) s

/-! ### Carillon -/

/-- FIRE: an SW event at `t`, of generation 0. -/
def fireWrite (who e v : Nat) (t : Tick) (s : State) : State :=
  let key := Ch.FIRE e
  cmdWrite who key v
    (fun s => if !s.bit (Ch.CH_EN e) 0 || decide (s.rN (Ch.PRODUCER e) / 2 ^ 16 ≠ 3) then some (Abort.deviceState 6) else oneOnly key v) noMark
    (fun s => channelEvent t 0 e s) s

def chEnWrite (who e v : Nat) (s : State) : State :=
  let key := Ch.CH_EN e
  cmdWrite who key v
    (fun s => if 1 < v then some (Abort.valueRange 5)
      else rangeIf (decide (v = 1) && !s.bit key 0 && (s.set key 1).zeroCycle e) key) noMark
    (fun s =>
      let was := s.bit key 0
      let s := (s.set key v).markDirty
      if v = 1 ∧ was = false then s.leaveConfig (0x5000 + e) else s) s

/-! ### Regions, rings, background test -/

def regionEnWrite (who r v : Nat) (s : State) : State :=
  let key := Rg.REGION_EN r
  cmdWrite who key v
    (fun s =>
      let on := s.bit key 0
      if v = 0 ∧ on = true ∧ s.ringIn r = true then some Abort.inUse
      else if 1 < v then some (Abort.valueRange 4)
      else if v = 1 ∧ on = false ∧ s.regionGeometryOk r = false then some (Abort.valueRange 3)
      else none) noMark
    (fun s =>
      let on := s.bit key 0
      let s := s.markDirty
      if v = 1 ∧ on = false then (s.regionOn r).leaveConfig (0x2340 + r) else if v = 0 ∧ on = true then s.regionOff r else s) s

def ringEnWrite (who r v : Nat) (s : State) : State :=
  let key := Rn.RING_EN r
  cmdWrite who key v
    (fun s =>
      if v = 1 ∧ s.bit key 0 = false ∧ s.ringPlaced r = false then some (Abort.ownership (s.pageOwner (4096 * (s.ringPages r).1)))
      else rangeIf (decide (1 < v)) key) noMark
    (fun s =>
      let on := s.bit key 0
      let s := s.markDirty
      if v = 1 ∧ on = false then (s.ringOn r).leaveConfig (0x2380 + r) else if v = 0 ∧ on = true then s.ringOff r else s) s

def consHostWrite (who r v : Nat) (s : State) : State :=
  let key := Rn.CONS_HOST r
  cmdWrite who key v (fun s => if s.dmaOn r then some (Abort.deviceState 6) else rangeIf (!s.consOk r v) key) noMark
    (fun s => s.consSet r v) s

def btRequestWrite (who v : Nat) (s : State) : State :=
  cmdWrite who Fb.BT_REQUEST v (fun _ => rangeIf (decide (63 < v)) Fb.BT_REQUEST) noMark (fun s => s.modMem fun m => { m with btReq := some v }) s

/-! ### Monitor converter, calibration, ageing -/

def mcReqCheck (s : State) (v : Nat) : Option Nat :=
  let i := field v 0 10
  if s.mc.softBusy || (bitOf v 15 && s.mcUrgFull) then some (Abort.deviceState 5)
  else rangeIf (decide (i = 1023) || (bitOf v 14 && !mcHasAlt i) || decide (field v 10 4 ≠ 0) || decide (2 ^ 16 ≤ v)) Mc.MC_REQ

def mcReqWrite (who v : Nat) (t : Tick) (s : State) : State :=
  cmdWrite who Mc.MC_REQ v (fun s => s.mcReqCheck v) noMark
    (fun s =>
      let s := s.modMc fun m => { m with softBusy := true }
      let q : McReq := { input := field v 0 10, alt := bitOf v 14, cls := 0, due := t, soft := true }
      if bitOf v 15 then s.mcUrgent q t else s.mcSchedule q t) s

/-- A reference transfer is requested at `t`; a request during one is ignored (R290). -/
def xferRequest (s : State) (t : Tick) : State :=
  if s.cal.xfer.isSome then s
  else (({ s with cal := { s.cal with xferWant := true } } : State)).xferTry t

def refXferWrite (who v : Nat) (t : Tick) (s : State) : State :=
  cmdWrite who Ca.REF_XFER_REQ v (fun _ => oneOnly Ca.REF_XFER_REQ v) noMark (fun s => s.xferRequest t) s

def rotRequestWrite (who g v : Nat) (t : Tick) (s : State) : State :=
  cmdWrite who (Gr.ROT_REQUEST g) v (fun _ => oneOnly (Gr.ROT_REQUEST g) v) noMark (fun s => s.rotTrigger g t) s

def wornReqWrite (who i v : Nat) (s : State) : State :=
  cmdWrite who (Sl.WORN_REQ i) v (fun _ => oneOnly (Sl.WORN_REQ i) v) noMark
    (fun s => s.modSx i fun x => { x with wornWant := x.wornWant ||| 32 }) s

/-! ### Sessions, DMA -/

def closeWrite (who k v : Nat) (s : State) : State :=
  cmdWrite who (Ss.CLOSE k) v (fun _ => oneOnly (Ss.CLOSE k) v) noMark (fun s => s.sessClose k) s

/-- Check 5 for OD 0x1110+r: the owner of the ring, and that a function (R386). -/
def dmaOwner (s : State) (who r key : Nat) : Option Nat :=
  match s.ownerAbort who key with
  | some a => some a
  | none => if (s.dmaFn r).isSome then none else some (Abort.ownership (s.rN (Rn.OWNER r)))

def dmaEnWrite (who r v : Nat) (t : Tick) (s : State) : State :=
  let key := Dm.DMA_EN r
  cmdWriteBy who key v (fun s => s.dmaOwner who r key)
    (fun s => if 1 < v then some (Abort.valueRange 1) else if v = 1 ∧ s.bit (Rn.CONSUMERS r) 0 = false then some (Abort.valueRange 6) else none)
    noMark
    (fun s =>
      let s := s.markDirty
      if v = 1 then (if s.dmaOn r then s else (s.set key 1).syncDma r)
      else if s.dmaOn r then s.dmaStop r ((s.dmaFn r).getD 0) .written t else s) s

/-- A new tail goes forward and leaves at most 2^DESC_LOG2 descriptors posted (R387). -/
def descTailOk (s : State) (r v : Nat) : Bool :=
  let h := s.rN (Dm.DESC_HEAD r)
  let d := fun (a : Nat) => (a + 2 ^ 32 - h) % 2 ^ 32
  decide (d v ≤ 2 ^ s.rN (Dm.DESC_LOG2 r)) && decide (d (s.rN (Dm.DESC_TAIL r)) ≤ d v)

def descTailWrite (who r v : Nat) (s : State) : State :=
  let key := Dm.DESC_TAIL r
  cmdWriteBy who key v (fun s => s.dmaOwner who r key) (fun s => rangeIf (!s.descTailOk r v) key) noMark
    (fun s => (s.set key v).markDirty.syncDma r) s

/-! ### Recorder and replay -/

/-- The store in use: identified, and not refused. -/
def storeUsed (s : State) : Bool := decide (s.rN Rc.STORE_CHUNKS ≠ 0) && !s.bit Rc.J_STATUS JStatus.NO_STORE

/-- J_EN becomes `v`; `d`: what identification of the drives finds, if it is made anew (R399, R406). -/
def jEnDo (s : State) (v : Nat) (d : Option DriveInfo) (t : Tick) : State :=
  let s := (s.set Rc.J_EN v).markDirty
  if v = 0 then s.recStop t
  else if s.recRun then s
  else
    let s := if s.storeUsed || s.bit Rc.J_STATUS JStatus.SCAN then s
      else (match d with | some d => s.driveSeen d | none => s).storeOpen (s.rN Rc.CHUNK_NEXT)
    s.recStart t

def jEnWrite (who v : Nat) (d : Option DriveInfo) (t : Tick) (s : State) : State :=
  cmdWrite who Rc.J_EN v (fun _ => rangeIf (decide (1 < v)) Rc.J_EN) noMark (fun s => s.jEnDo v d t) s

/-- STORE_INIT: the journal held, with the chunks that wait to join it, is discarded, and the store is laid out afresh (R399). -/
def storeInitDo (s : State) (d : Option DriveInfo) (t : Tick) : State :=
  let s := match d with | some d => s.driveSeen d | none => s
  let s := s.modRec fun r => { r with staged := [], cmd := none, sinceHeader := 0 }
  if storeChunks s.rcd.caps = 0 then s.setBit Rc.J_STATUS JStatus.NO_STORE true
  else
    let s := ((s.setBit Rc.J_STATUS JStatus.NO_STORE false).setBit Rc.J_STATUS JStatus.FULL_STOP false).layOut
    if s.bit Rc.J_EN 0 && !s.recRun && !s.bit Rc.J_STATUS JStatus.FAULT then s.recStart t else s.recKick t

def storeInitWrite (who v : Nat) (d : Option DriveInfo) (t : Tick) (s : State) : State :=
  cmdWrite who Rc.STORE_INIT v (fun _ => oneOnly Rc.STORE_INIT v) noMark (fun s => s.storeInitDo d t) s

/-- OFFLOADED: under PROTECT it may free space, which ends a GAP with cause STORE_FULL (R406, R407). -/
def offloadedDo (s : State) (v : Nat) (t : Tick) : State :=
  let s := (s.set Rc.OFFLOADED v).headerDue.markDirty
  let s := s.when (s.bit Rc.J_STATUS JStatus.FULL_STOP && s.chunkFree) fun s => s.setBit Rc.J_STATUS JStatus.FULL_STOP false
  s.recKick t

def offloadedWrite (who v : Nat) (t : Tick) (s : State) : State :=
  cmdWrite who Rc.OFFLOADED v (fun s => rangeIf (decide (v < s.rN Rc.OFFLOADED) || decide (s.rN Rc.CHUNK_NEXT < v)) Rc.OFFLOADED) noMark
    (fun s => s.offloadedDo v t) s

/-- Some chunk of the session's epoch is held (R408). -/
def epochHeld (s : State) : Bool :=
  let e := s.rN Rp.RP_EPOCH
  decide (s.rN Rc.CHUNK_OLDEST < s.rN Rc.CHUNK_NEXT) && decide (0 < e) && decide (e ≤ s.rN Tb.EPOCH) &&
    Config.chunkHeld e (s.rN Rc.CHUNK_OLDEST) (s.rN Rc.CHUNK_NEXT)

/-- The conditions of RP_CTRL (R408, R411, R423). -/
def rpCtrlCheck (s : State) (v : Nat) : Option Nat :=
  let st := s.rN Rp.RP_STATE
  match v with
  | 1 =>
    if s.provisional || !(decide (st = 0) || decide (st = 3)) then some (Abort.deviceState 6)
    else if s.rpPorts.length = 0 ∨ 8 < s.rpPorts.length then some (Abort.valueRange 0x01)
    else if s.rN Rp.RP_END ≤ s.rN Rp.RP_START then some (Abort.valueRange 0x04)
    else if s.epochHeld then none else some (Abort.valueRange 0x03)
  | 2 => reasonIf (!(decide (st = 1) || decide (st = 2))) 6
  | _ => rangeIf true Rp.RP_CTRL

/-- START begins the SEEK; STOP ends the session with STOPPED (R408, R411). -/
def rpCtrlDo (s : State) (v : Nat) (t : Tick) : State :=
  if v = 1 then
    let s := (s.set Rp.RP_STATE 1).set Rp.RP_TICK (s.rN Rp.RP_START)
    s.modRec fun r => { r with rp := s.rpPorts.map (fun p => { port := p, fidelity := 2 }), rpSeek := t, box := {} }
  else s.rpEnd 5

def rpCtrlWrite (who v : Nat) (t : Tick) (s : State) : State :=
  cmdWrite who Rp.RP_CTRL v (fun s => s.rpCtrlCheck v) noMark (fun s => s.rpCtrlDo v t) s

/-! ### Rails, firmware -/

def railOnWrite (who n v : Nat) (t : Tick) (s : State) : State :=
  let key := Rl.RAIL_ON n
  cmdWrite who key v (fun s => if v = 0 ∨ 2 < v then some (Abort.valueRange (key % 256)) else if s.rN (Rl.RAIL_ROLE n) ≠ 0 then some (Abort.valueRange (key % 256)) else none)
    noMark (fun s => s.railUser n v t) s

/-- The conditions of a FW_IMAGE write (R423, R427). -/
def fwImageCheck (s : State) : Option Nat :=
  let st := s.rN Fw.FW_STATE
  if st = 1 ∨ st = 3 then some (Abort.deviceState 5)
  else if s.bit Fw.FW_STATUS FwStatus.RECOVERY then none
  else reasonIf (decide (s.rN Pw.POWER_STATE ≠ 2)) 6

/-- The image is being stored: the slot with the older number is erased first. -/
def fwImageDo (s : State) (i : FwImage) : State :=
  (s.set Fw.FW_STATE 1).modFw fun x => { x with storing := some i, ready := none }

def fwImageWrite (who : Nat) (i : FwImage) (s : State) : State :=
  cmdRun who Fw.FW_IMAGE (fun s => s.ownerAbort who Fw.FW_IMAGE) (fun s => s.fwImageCheck) noMark
    (fun s => (s.fwImageDo i).accept who Fw.FW_IMAGE []) s

/-- The conditions of FW_CTRL (R423, R427). -/
def fwCtrlCheck (s : State) (v : Nat) : Option Nat :=
  let compat := match s.fwx.ready, s.fwx.running with | some a, some b => decide (a.compat = b.compat) | _, _ => false
  if v = 0 ∨ 2 < v then some (Abort.valueRange 5)
  else reasonIf (s.provisional || decide (s.rN Fw.FW_STATE ≠ 2) || (decide (v = 1) && !compat)) 6

def fwCtrlWrite (who v : Nat) (t : Tick) (s : State) : State :=
  cmdWrite who Fw.FW_CTRL v (fun s => s.fwCtrlCheck v) noMark (fun s => if v = 1 then s.fwActivate else s.later t (.reset 7)) s

/-! ### Security -/

def secHoldersWrite (who v : Nat) (s : State) : State :=
  cmdWrite who Se.SEC_HOLDERS v (fun s => s.holdersAbort v) noMark (fun s => (s.set Se.SEC_HOLDERS (v ||| 1)).markDirty) s

def ownAssignWrite (who v : Nat) (t : Tick) (s : State) : State :=
  cmdWrite who Se.OWN_ASSIGN v (fun s => s.assignAbort v) noMark (fun s => s.assign' v who t) s

/-- Who may claim the device (R449). -/
def claimOwner (s : State) (who : Nat) : Option Nat :=
  let o := s.rN Dv.OWNER
  if s.rN Id.LIFE_CYCLE = 4 then some (Abort.lifeCycle 4)
  else if o ≠ 0 then some (Abort.ownership o)
  else if who = 1 ∨ (18 ≤ who ∧ who ≤ 21 ∧ (s.session (who - 18)).isSome = true) then none
  else some (Abort.ownership o)

def claimWrite (who v : Nat) (t : Tick) (s : State) : State :=
  let key := Se.DEVICE_CLAIM
  cmdWriteBy who key v (fun s => s.claimOwner who) (fun _ => oneOnly key v) noMark
    (fun s => (s.ownSet 0x2000 who false t).setBit Se.SEC_STATUS SecStatus.CLAIMED true) s

/-- SVN_MIN takes the SVN of the running image, and never falls (R451). -/
def svnLockWrite (who v : Nat) (s : State) : State :=
  let key := Se.SVN_LOCK
  cmdWrite who key v
    (fun s => if s.rN Fw.FW_STATE ≠ 0 ∨ s.bit Fw.FW_STATUS FwStatus.MIXED = true then some (Abort.deviceState 6) else oneOnly key v) noMark
    (fun s => s.set Se.SVN_MIN (max (s.rN Se.SVN_MIN) ((s.fwx.running.map (·.svn)).getD 0))) s

/-- A KEY write. Its value is not journalled: keys cannot be read (R452). -/
def keyWriteReq (who k : Nat) (b : List Byte) (s : State) : State :=
  let key := Ky.KEY k
  if b.length ≠ 32 ∧ s.reaches who key = true then s.refuse who key (Abort.typeLength 32)
  else cmdRun who key (fun s => s.ownerAbort who key) (fun s => reasonIf (decide (s.rN (Ky.KEY_ROWS_LEFT k) = 0)) 6) noMark
    (fun s => (s.keyWrite k b).accept who key []) s

def keyRevokeWrite (who k v : Nat) (s : State) : State :=
  cmdWrite who (Ky.KEY_REVOKE k) v (fun _ => oneOnly (Ky.KEY_REVOKE k) v) noMark (fun s => s.keyRevoke k) s

def lcReqWrite (who v : Nat) (t : Tick) (s : State) : State :=
  cmdWrite who Se.LC_REQ v (fun s => rangeIf (!s.lcAllowed v) Se.LC_REQ) noMark (fun s => s.lcRequest v t) s

def lcConfirmWrite (who v : Nat) (t : Tick) (s : State) : State :=
  cmdWrite who Se.LC_CONFIRM v (fun s => s.confirmAbort v t) noMark
    (fun s => s.lcConfirm v t) s

end State
end Sys2Proof.Machine
end

