-- ==== Sys2Proof/Machine/OdRead.lean ====
section
/-!
DEFINITION. Reads of the object dictionary (R339, R341, R342, R345, R353): the value of an entry at one instant, with the entries whose
value follows the time or is kept elsewhere, and the checks of a read.
-/

namespace Sys2Proof.Machine

/-- The row of an entry; subindex 0 gives the number of entries of its record (R339). -/
def entryRow (key : Nat) : Option Row :=
  if key % 256 = 0 then (recOf (key / 256)).map (fun r => ⟨0, .u8, .const, (rowsOf r.1).length, .any⟩) else odRow key

/-- The entry is a DOMAIN. -/
def isDomain (key : Nat) : Bool := match entryRow key with | some r => decide (r.ty = .domain) | none => false

namespace State

/-! ### Values at this instant -/

/-- Word address of a port's V cell; its I cell follows it (R95, R243). -/
def cellAddr (p : Nat) (v : Bool) : Nat := 16 * p + (if v then 0 else 8)

/-- Read consecutive words: the words, and whether one of them is poisoned (R251). -/
def spadReadAll (s : State) (a n : Nat) : State × List Nat × Bool :=
  (List.range n).foldl (fun (x : State × List Nat × Bool) k =>
    let y := x.1.spadRead (a + k)
    (y.1, x.2.1 ++ [y.2.1.toNat], x.2.2 || y.2.2)) (s, [], false)

/-- Where an entry of the port record is kept, if that is a word of a latest-reading cell (R95, R102). -/
def cellEntry (key : Nat) : Option (Nat × Nat) :=
  match recOf (key / 256) with
  | some (.pt, p) =>
    if key = Pt.LAST_V p then some (cellAddr p true, 0)
    else if key = Pt.LAST_V_TAG p then some (cellAddr p true, 1)
    else if key = Pt.LAST_V_UNC p then some (cellAddr p true, 2)
    else if key = Pt.LAST_V_REAL p then some (cellAddr p true, 5)
    else if key = Pt.LAST_I p then some (cellAddr p false, 0)
    else if key = Pt.LAST_I_TAG p then some (cellAddr p false, 1)
    else if key = Pt.LAST_I_UNC p then some (cellAddr p false, 2)
    else if key = Pt.LAST_I_REAL p then some (cellAddr p false, 5)
    else none
  | _ => none

/-- TRIG_LEVEL: the level of each pin after INV (R238). -/
def trigLevels (s : State) : Nat :=
  (List.range 16).foldl (fun v n =>
    let c := s.rN (Ev.TRIG_CFG_0 + n)
    let on := if field c 0 2 = 2 then Tab.get (fun _ => false) s.fab.trigOut n
      else Tab.get (fun _ => false) s.fab.trigIn n != bitOf c 3
    putBit v n on) 0

/-- Channels that are enabled (CH_ACTIVE, R238). -/
def channelsOn (s : State) : Nat :=
  (s.regs.filter fun e => match recOf (e.1 / 256) with | some (.ch, n) => decide (e.1 = Ch.CH_EN n) && decide (e.2 = 1#64) | _ => false).length

/-- Entries of a channel record that are not stored: the status bits ACTIVE and GONG, and the targets (R221, R236, R237). -/
def readChannel (s : State) (e key : Nat) : Nat :=
  if key = Ch.CH_STATUS e then putBit (putBit (s.rN key) ChStatus.ACTIVE (s.bit (Ch.CH_EN e) 0)) ChStatus.GONG (decide (s.rN Ev.GONG_SRC = e))
  else if key = Ch.TARGET_COUNT e then min 8 (s.targetsOf e).length
  else if Ch.TARGET_0 e ≤ key ∧ key < Ch.TARGET_0 e + 8 then (s.targetsOf e).getD (key - Ch.TARGET_0 e) 0
  else s.rN key

/-- MEAS_STATUS now: whether a window is open and whether samples are being marked OVR follow the time (R90, R103). -/
def measStatus (s : State) (p : Nat) : Nat :=
  let run := match (s.px p).meas.win with | some w => decide (w.open_ ≤ s.now) | none => false
  putBit (putBit (putBit (s.rN (Pt.MEAS_STATUS p)) MeasStatus.PREC_RUN run) MeasStatus.OVR_V_NOW (s.ovrMark p true s.now).isSome)
    MeasStatus.OVR_I_NOW (s.ovrMark p false s.now).isSome

/-- The value of a numeric entry now, as a raw image. -/
def readRaw (s : State) (key : Nat) : Nat :=
  if key % 256 = 0 then (match entryRow key with | some r => r.dflt | none => 0)
  else match recOf (key / 256) with
    | some (.tb, _) =>
      if key = Tb.TICKS_NOW then s.now
      else if key = Tb.TIME_NOW then s.timeNs s.now
      else if key = Tb.TB_STATUS then s.tbStatusAt s.now
      else s.rN key
    | some (.pt, p) =>
      if key = Pt.DAC_CODE p then s.activeCode p else if key = Pt.MEAS_STATUS p then s.measStatus p else s.rN key
    | some (.cx, c) => if key = Cx.WAIT_CAUSE c then s.waitCause c else s.rN key
    | some (.ch, e) => s.readChannel e key
    | some (.ev, _) => if key = Ev.TRIG_LEVEL then s.trigLevels else if key = Ev.CH_ACTIVE then s.channelsOn else s.rN key
    | some (.ca, _) => if key = Ca.REF_U then toF32 (flSqrt (s.uRefSq s.now)) else s.rN key
    | _ => s.rN key

/-- JOURNAL_DATA: JR_COUNT chunks from JR_START, as the drive returns them (R407). -/
def journalData (s : State) : List Byte :=
  (List.range (s.rN Rc.JR_COUNT)).flatMap fun k => (List.range 4096).map fun i => Config.chunkByte (s.rN Rc.JR_START + k) i

/-- The contents of a DOMAIN or byte string other than POINTS now. -/
def readBlob (s : State) (key : Nat) : List Byte :=
  match recOf (key / 256) with
  | some (.tb, _) => leBytes 8 s.segNow.t0 ++ leBytes 8 s.segNow.n0 ++ leBytes 8 s.segNow.rate
  | some (.pt, p) => if key = Pt.LOOP_SNAPSHOT p then wordBytes (s.snapshot p) else s.bytesOf key
  | some (.rc, _) => s.journalData
  | some (.rp, _) => s.rpReport
  | _ => s.bytesOf key

/-- Read an entry: its bytes, or none if a word of it is poisoned (R251, R341). Reading a poisoned word counts. -/
def readEntry (s : State) (key : Nat) : State × Option (List Byte) :=
  match entryRow key with
  | none => (s, none)
  | some row =>
    match cellEntry key with
    | some (a, w) =>
      let x := s.spadReadAll a 8
      (x.1, if x.2.2 then none else some (leBytes ((tyBytes row.ty).getD 0) (x.2.1.getD w 0)))
    | none =>
      match tyBytes row.ty with
      | some n => (s, some (leBytes n (s.readRaw key)))
      | none =>
        match recOf (key / 256) with
        | some (.ls, l) =>
          let x := s.spadReadAll (slotAddr (s.rN (Ls.FIRST_SLOT l))) (8 * s.rN (Ls.COUNT l))
          (x.1, if x.2.2 then none else some (wordBytes x.2.1))
        | _ => (s, some (s.readBlob key))

/-! ### The checks of a read (R345) -/

def readAbort (s : State) (who key : Nat) : Option Nat :=
  match recOf (key / 256), entryRow key with
  | none, _ => some Abort.noIndex
  | _, none => some Abort.noSubindex
  | _, some row =>
    if s.secOf key && !s.secHolder who then some (Abort.ownership (s.ownerOf key))
    else if row.acc = .wo then some Abort.readDenied
    else s.stateAbort key none

/-- A read of an entry by a principal. -/
def odRead (who key : Nat) (s : State) : State :=
  if s.reaches who key then
    match s.readAbort who key with
    | some a => s.refuse who key a
    | none =>
      match s.readEntry key with
      | (s, some b) => s.accept who key b
      | (s, none) => s.refuse who key Abort.hardware
  else s

end State
end Sys2Proof.Machine
end

