-- ==== Sys2Proof/Machine/OdCheck.lean ====
section
/-!
DEFINITION. Checks 5 and 7 of R345 for the entries whose rules say more than their own limits: ownership of other objects that a write
names (R98, R118, R176, R219, R227, R231), and limits together with other entries in force (R55, R59, R114, R141, R150, R354 and the
rules named below). Each answers the abort of the first check that fails.
-/

namespace Sys2Proof.Machine
namespace State

/-! ### Ownership of what a write names (check 5) -/

/-- A producer code is listed and its index lies in its range (R219). -/
def producerListed (v : Nat) : Bool := (producerKey v).isSome || decide (v ∈ [0, prodCode 3 0, prodCode 7 0, prodCode 8 0])

/-- The ring that a write of a port entry names (R98, R123). -/
def ringNamed (p key v : Nat) : Option Nat :=
  if (key = Pt.PREC_RING p ∨ key = Pt.FAST_RING p ∨ key = Pt.LOOP_RING p) ∧ v < 32 then some v else none

/-- The ownership conditions of a write beyond that of the entry's own scope. -/
def namedOwner (s : State) (who key v : Nat) : Option Nat :=
  let other := fun (o : Nat) => if o = who then none else some (Abort.ownership o)
  match bindingOf key v with
  | some (e, _) => s.bindOwner key e
  | none =>
    match recOf (key / 256) with
    | some (.pt, p) =>
      if key = Pt.LINK_PORT p ∧ v < 128 then other (s.rN (Pt.OWNER v))
      else if key = Pt.GONG_ACTION p then
        (if v = 0 ∨ s.gongReaches p = true then none else some (Abort.ownership (s.rN (Ch.OWNER (s.rN Ev.GONG_SRC)))))
      else match ringNamed p key v with
        | some r => other (s.rN (Rn.OWNER r))
        | none => none
    | some (.ch, e) =>
      if key = Ch.PRODUCER e then
        match producerKey v with
        | some k => if s.secFits k e then other (s.ownerOf k) else some (Abort.ownership (s.ownerOf k))
        | none => none
      else none
    | some (.ev, _) =>
      if key = Ev.GONG_SRC ∧ v < 1024 then
        orElse' (other (s.rN (Ch.OWNER v))) (if s.gongFits v then none else some (Abort.ownership (s.rN (Ch.OWNER v))))
      else none
    | some (.cx, c) => if key = Cx.NEXT_CTX c ∧ v < 4096 then other (s.rN (Cx.OWNER v)) else none
    | some (.dm, r) => if (s.dmaFn r).isSome then none else some (Abort.ownership (s.rN (Rn.OWNER r)))
    | _ => none

/-- Check 5 of a write of an entry that has no row of its own. -/
def writeOwner (s : State) (who key v : Nat) : Option Nat := orElse' (s.ownerAbort who key) (s.namedOwner who key v)

/-! ### Limits together with other entries (check 7) -/

/-- The first condition of a list that holds gives the subindex to report (R354). -/
def subIf (l : List (Bool × Nat)) : Option Nat := (l.find? (fun e => e.1)).map (fun e => Abort.valueRange e.2)

/-- A port's strike source is left out (R55). -/
def noStrike (src event gong : Nat) : Bool := decide (src = 1) && decide (event = 0xFFFF) && decide (gong ≠ 5)

/-- A threshold as last written, effective in the range in force (R129, R150). -/
def thNow (s : State) (p i key : Nat) : Int :=
  if s.rI key = s.liveI p key then (s.effective p (s.thRef p i) (s.rangeOf p (decide (2 ≤ i))) (s.rI key)).1 else s.rI key

/-- A comparator's window is wide enough for `h` steps of hysteresis (R150). -/
def windowOk (hi lo : Int) (h : Nat) : Bool := decide (2 * hystFsq h + 1374389535 ≤ hi - lo)

/-- Force path entries (R55, R59). -/
def forceCheck (s : State) (p key v : Nat) : Option Nat :=
  let n := fun (k : Nat) => s.rN k
  if key = Pt.UPD_PERIOD p then subIf [(decide (v ≠ 0) && decide (v ≤ n (Pt.UPD_PHASE p)), 0x3B)]
  else if key = Pt.UPD_PHASE p then subIf [(decide (n (Pt.UPD_PERIOD p) ≠ 0) && decide (n (Pt.UPD_PERIOD p) ≤ v), 0x38)]
  else if key = Pt.UPD_SRC p then subIf [(noStrike v (n (Pt.UPD_EVENT p)) (n (Pt.GONG_ACTION p)), 0x3A)]
  else if key = Pt.UPD_EVENT p then subIf [(noStrike (n (Pt.UPD_SRC p)) v (n (Pt.GONG_ACTION p)), 0x39)]
  else if key = Pt.GONG_ACTION p then subIf [(noStrike (n (Pt.UPD_SRC p)) (n (Pt.UPD_EVENT p)) v, 0x39)]
  else if key = Pt.SAFE_VALUE p then
    let x := ratF32 v
    subIf [(!insideSpan (n (Pt.SPAN p)) x, 0x30), (!insideSpan (n (Pt.SPAN_ACTIVE p)) x, 0x31),
           (s.spanEntering p && !insideSpan (s.px p).force.spanTo x, 0x30)]
  else none

/-- Loop and ranging entries (R112, R114, R118, R124, R141, R145). -/
def loopCheck (s : State) (p key v : Nat) : Option Nat :=
  let n := fun (k : Nat) => s.rN k
  let i := toSigned 40 v
  let own := key % 256
  let tenth : Int := 0x333333333
  if key = Pt.COMPL_HI p then subIf [(decide (fs120 < absI i), own), (decide (i ≤ s.rI (Pt.COMPL_LO p)), 0x15)]
  else if key = Pt.COMPL_LO p then subIf [(decide (fs120 < absI i), own), (decide (s.rI (Pt.COMPL_HI p) ≤ i), 0x14)]
  else if key = Pt.AMP_GAIN p then
    subIf ((List.range (n (Pt.VRNG_COUNT p))).map fun r =>
      (!((List.range 4).all fun sp => kstageOk (s.rQ (Pt.VRNG_FS_0 p + r)) (ratF32 v) sp), 0x8A + r))
  else if key = Pt.LM_R_MIN p then subIf [(decide (s.rI (Pt.LM_R_MAX p) ≤ i), 0x25)]
  else if key = Pt.LM_R_MAX p then subIf [(decide (i ≤ s.rI (Pt.LM_R_MIN p)), 0x24)]
  else if key = Pt.LINK_PORT p then subIf [(decide (v < 128) && (decide (v = p) || decide (v / 32 ≠ p / 32)), own)]
  else if key = Pt.UP_TH p then subIf [(decide (0x24CCCCCCCD < i), own), (decide (i - tenth < s.rI (Pt.DOWN_TH p)), 0xA9)]
  else if key = Pt.DOWN_TH p then subIf [(decide (i < tenth), own), (decide (s.rI (Pt.UP_TH p) - tenth < i), 0xA8)]
  else if key = Pt.IRNG_SEL p then subIf [(decide (n (Pt.IRNG_COUNT p) ≤ v), 0x80)]
  else if key = Pt.VRNG_SEL p then subIf [(decide (n (Pt.VRNG_COUNT p) ≤ v), 0x81)]
  else if key = Pt.IRNG_MIN p then subIf [(decide (n (Pt.IRNG_MAX p) < v), 0xA7)]
  else if key = Pt.IRNG_MAX p then subIf [(decide (v < n (Pt.IRNG_MIN p)), 0xA6)]
  else none

/-- Comparator and PGEN entries (R149, R150, R169, R171). -/
def pulseCheck (s : State) (p key v : Nat) : Option Nat :=
  let n := fun (k : Nat) => s.rN k
  let i := toSigned 40 v
  let own := key % 256
  let hV := field (n (Pt.CMP_HYST p)) 0 4
  let hI := field (n (Pt.CMP_HYST p)) 4 4
  let vHi := s.thNow p 3 (Pt.TH_V_HI p)
  let vLo := s.thNow p 2 (Pt.TH_V_LO p)
  let iHi := s.thNow p 1 (Pt.TH_I_HI p)
  let iLo := s.thNow p 0 (Pt.TH_I_LO p)
  let far := decide (fs120 < absI i)
  if key = Pt.TH_V_HI p then subIf [(far, own), (!windowOk i vLo hV, 0xC5)]
  else if key = Pt.TH_V_LO p then subIf [(far, own), (!windowOk vHi i hV, 0xC4)]
  else if key = Pt.TH_I_HI p then subIf [(far, own), (!windowOk i iLo hI, 0xC7)]
  else if key = Pt.TH_I_LO p then subIf [(far, own), (!windowOk iHi i hI, 0xC6)]
  else if key = Pt.CMP_HYST p then subIf [(!windowOk vHi vLo (field v 0 4), 0xC4), (!windowOk iHi iLo (field v 4 4), 0xC6)]
  else if key = Pt.SM_TICK p then subIf [(decide (v ≤ n (Pt.SM_PHASE p)), 0xCD)]
  else if key = Pt.SM_PHASE p then subIf [(decide (n (Pt.SM_TICK p) ≤ v), 0xCC)]
  else if key = Pt.PGEN_CFG p then subIf [(decide (field v 4 2 = 3), own)]
  else if key = Pt.PULSE_PERIOD p then subIf [(decide (4000000000 < v), own), (decide (v ≤ n (Pt.PULSE_WIDTH p)), 0xD1)]
  else if key = Pt.PULSE_WIDTH p then subIf [(decide (v = 0) || decide (200000000 < v), own), (decide (n (Pt.PULSE_PERIOD p) ≤ v), 0xD2)]
  else none

/-- Context entries (R114, R176-R179). -/
def ctxCheck (s : State) (c key v : Nat) : Option Nat :=
  let i := toSigned 40 v
  let own := key % 256
  if key = Cx.BIND c then subIf [(decide (v &&& 0x3F7F ≠ v), own)]
  else if key = Cx.MODE c then subIf [(!modeOk v, own)]
  else if key = Cx.COMPL_HI c then subIf [(decide (fs120 < absI i), own), (decide (i ≤ s.rI (Cx.COMPL_LO c)), 0x07)]
  else if key = Cx.COMPL_LO c then subIf [(decide (fs120 < absI i), own), (decide (s.rI (Cx.COMPL_HI c) ≤ i), 0x06)]
  else if key = Cx.SWEEP c then
    let l := field v 16 11
    subIf [(decide (2 ^ 27 ≤ v) || (decide (1024 ≤ l) && decide (l ≠ 0x7FF)), own)]
  else if key = Cx.SCAN_ROUTE c then subIf [(decide (v &&& 0xEFFFFFFFF ≠ v), own)]
  else if key = Cx.SETTLE_CFG c then subIf [(decide (v &&& 0x0F8FFFFF ≠ v) || decide (field v 0 16 = 0), own)]
  else none

/-- The ports that a pair of port masks selects (R404). -/
def portsIn (s : State) (lo hi : Nat) : List Nat := (List.range 128).filter fun p => s.bit (if p < 64 then lo else hi) (p % 64)

/-- Entries of every other record. -/
def otherCheck (s : State) (key v : Nat) : Option Nat :=
  let n := fun (k : Nat) => s.rN k
  let own := key % 256
  match recOf (key / 256) with
  | some (.tm, k) =>
    if key = Tm.TMR_PERIOD k then subIf [(decide (v ≠ 0) && decide (v ≤ n (Tm.TMR_PHASE k)), 0x03)]
    else subIf [(decide (n (Tm.TMR_PERIOD k) ≠ 0) && decide (n (Tm.TMR_PERIOD k) ≤ v), 0x02)]
  | some (.dl, k) =>
    if key = Dl.DELAY k ∧ v = 0 then
      let s := s.set key 0
      subIf [((s.channelsOf (prodCode 6 k)).any s.zeroCycle, own)]
    else none
  | some (.ch, e) => if key = Ch.PRODUCER e then subIf [(!producerListed v, own)] else none
  | some (.dm, r) =>
    if key = Dm.VECTOR r then subIf [(decide (v ≠ 0xFFFF) && decide (vectorsOf ((s.dmaFn r).getD 0) ≤ v), own)] else none
  | some (.fn, f) =>
    if key = Fn.MB_VECTOR f ∨ key = Fn.ERR_VECTOR f ∨ key = Fn.NQ_VECTOR f then subIf [(decide (v ≠ 0xFFFF) && decide (vectorsOf f ≤ v), own)]
    else if key = Fn.NQ_BASE f then subIf [(decide (v % 4096 ≠ 0), own)]
    else if key = Fn.NQ_HEAD f then
      let d := fun (a : Nat) => (a + 2 ^ 32 - n (Fn.NQ_HEAD f)) % 2 ^ 32
      subIf [(decide (d (n (Fn.NQ_TAIL f)) < d v), 0x08)]
    else none
  | some (.cn, _) =>
    if key = Cn.CAN_NOM_RATE then subIf [(decide (n Cn.CAN_DATA_RATE < v), 0x04)]
    else if key = Cn.CAN_DATA_RATE then subIf [(decide (v < n Cn.CAN_NOM_RATE), 0x03)]
    else none
  | some (.lg, _) => if key = Lg.LEG_BAUD then subIf [(decide (v ∉ [115200, 230400, 460800, 921600]), own)] else none
  | some (.rc, _) =>
    if key = Rc.J2_PORTS_LO ∨ key = Rc.J2_PORTS_HI then
      let l := (s.set key v).portsIn Rc.J2_PORTS_LO Rc.J2_PORTS_HI
      let other := if key = Rc.J2_PORTS_LO then 0x04 else 0x03
      let here := if key = Rc.J2_PORTS_LO then l.filter (fun p => decide (p < 64)) else l.filter (fun p => decide (64 ≤ p))
      subIf [((List.range 16).any (fun g => decide (4 < (here.filter (fun p => decide (groupOf p = g))).length)) || decide (32 < here.length), own),
             (decide (32 < l.length), other)]
    else if key = Rc.NS1_LINK then subIf [(decide (v = 1) && decide (n Rc.NVME_LINKS = 0), 0x0A)]
    else if key = Rc.JR_START then subIf [(decide (v < n Rc.CHUNK_OLDEST), own), (decide (n Rc.CHUNK_NEXT < v + n Rc.JR_COUNT), 0x14)]
    else if key = Rc.JR_COUNT then subIf [(decide (n Rc.CHUNK_NEXT < n Rc.JR_START + v), 0x13)]
    else none
  | _ => none

/-- The conditions of an entry that a rule states beside its own limits (check 7). -/
def crossCheck (s : State) (key v : Nat) : Option Nat :=
  match bindingOf key v with
  | some (e, code) =>
    match s.bindRange key v e code with
    | some a => some a
    | none => match recOf (key / 256) with | some (.pt, p) => s.forceCheck p key v | _ => none
  | none =>
    match recOf (key / 256) with
    | some (.pt, p) => orElse' (s.forceCheck p key v) (orElse' (s.loopCheck p key v) (s.pulseCheck p key v))
    | some (.cx, c) => s.ctxCheck c key v
    | _ => s.otherCheck key v

/-- Check 7: the value's own limits, an UNSIGNED64 entry that holds a 40-bit quantity among them (R341), then those with other entries. -/
def valueAbort (s : State) (key v : Nat) : Option Nat :=
  match odRow key with
  | none => none
  | some row => if limOk row.lim row.ty v then s.crossCheck key v else some (Abort.valueRange (key % 256))

end State
end Sys2Proof.Machine
end

