-- ==== Sys2Proof/Machine/OdWrite.lean ====
section
/-!
DEFINITION. Writes of the object dictionary (R339-R355): the write of an entry that has no row of its own, and the write of any entry as
an interface carries it out. The commands of the entries that act are in PortReq.lean and DevReq.lean.
-/

namespace Sys2Proof.Machine
namespace State

/-! ### What a written value does beside standing in its entry -/

/-- The logical state of an output pin. -/
def setTrigOut (s : State) (n : Nat) (b : Bool) : State := s.modFab fun f => { f with trigOut := Tab.set (fun _ => false) f.trigOut n b }

def setTrigBusy (s : State) (n : Nat) (t : Tick) : State := s.modFab fun f => { f with trigBusy := Tab.set (fun _ => 0) f.trigBusy n t }

/-- TRIG_CFG takes a value: a pin that becomes an output is inactive, and one that is no output is high-impedance (R228). -/
def trigConfig (s : State) (n v : Nat) : State :=
  let key := Ev.TRIG_CFG_0 + n
  let was := s.fld key 0 2
  let s := s.set key v
  if field v 0 2 = 2 then (if was = 2 then s else (s.setTrigOut n false).setTrigBusy n 0).trigDrive n
  else if was = 2 then ((s.setTrigOut n false).setTrigBusy n 0).out (.trigPin n none)
  else s

/-- PRIV_PORT takes a value: PRIVILEGED of the group's ports, and the substitution that a WORN home slice calls for (R36, R37). -/
def privConfig (s : State) (g v : Nat) : State :=
  let s := s.set (Gr.PRIV_PORT g) v
  let s := (List.range 8).foldl (fun s k => s.set (Pt.PRIVILEGED (8 * g + k)) (decide (k = v)).toNat) s
  if v < 8 ∧ s.worn (9 * g + v) = true ∧ s.rN (Gr.RELIEF_MODE g) = 0 then
    (s.modRot g fun r => { r with substWant := true }).later s.now (.rot g)
  else s

/-- A status word: ones clear its W1C bits (R342). -/
def clearBits (s : State) (key m v : Nat) : State := s.setReg key (s.reg key &&& ~~~(BitVec.ofNat 64 (v &&& m)))

/-- Counters cleared by CONFLICT_CLR (R268). -/
def conflictClear (s : State) (v : Nat) : State :=
  (List.range 32).foldl (fun s m => if bitOf v m then s.set (Fb.CONFLICT_0 + m) 0 else s) s

/-- The value is put into force at once. -/
def putValue (s : State) (key v : Nat) : State :=
  match recOf (key / 256) with
  | some (.gr, g) =>
    if key = Gr.PRIV_PORT g then s.privConfig g v
    else if key = Gr.DT_CAL g then (s.set key v).groupPlan g
    else s.set key v
  | some (.ev, _) => if Ev.TRIG_CFG_0 ≤ key ∧ key < Ev.TRIG_CFG_0 + 16 then s.trigConfig (key - Ev.TRIG_CFG_0) v else s.set key v
  | some (.ls, l) => (s.set key v).set (Ls.LIST_STATE l) 1
  | some (.cx, _) =>
    let l := s.od.recent.filter fun e => decide (e.2.1 = s.now)
    let l := if l.any (fun e => decide (e.1 = key)) then l else l ++ [(key, s.now, s.rN key)]
    { s.set key v with od := { s.od with recent := l } }
  | some (.rc, _) =>
    if key = Rc.J_LEVEL ∨ key = Rc.J2_PORTS_LO ∨ key = Rc.J2_PORTS_HI then (s.set key v).j2Select s.j2Ports else s.set key v
  | some (.fb, _) => if key = Fb.CONFLICT_CLR then s.conflictClear v else s.set key v
  | some (.cn, _) => if key = Cn.CAN_EN ∧ v = 0 then { s.set key v with net := { s.net with can := none } } else s.set key v
  | some (.ca, _) =>
    let s := s.set key v
    if key = Ca.REFX_VALUE then (if s.rQ Ca.REFX_VALUE = 0 then s.refxGone else s.xferTry s.now) else s
  | some (.tb, _) =>
    let s := s.set key v
    (if key = Tb.TIME_SRC ∧ s.srcPps = false ∧ s.srcPtp = false then s.modTb fun b => { b with rateHold := false } else s).syncTb
  | _ => s.set key v

/-- An RWC entry was changed since the last commit of its object (R352). -/
def rwcMark (s : State) (key : Nat) : State :=
  match groupOfKey key with
  | some g => s.modGx g fun x => { x with rwcDirty := true }
  | none => { s with od := { s.od with rwcDirty := Tab.set (fun _ => false) s.od.rwcDirty (key / 256) true } }

/-- The image holds the entry, so that a write of it leaves CFG_STATE DIRTY (R352). -/
def marksDirty (row : Row) : Bool :=
  match row.lim with
  | .w1c _ => false
  | _ => decide (row.acc = .rw) || decide (row.acc = .rwc)

/-- A write of a value to an entry without a command of its own takes effect, and is answered: a port entry through its group controller
(R13), a status word and every other entry at once. -/
def plainDo (s : State) (who key v : Nat) (row : Row) (t : Tick) : State :=
  let s := s.when (decide (row.acc = .rwc)) fun s => s.rwcMark key
  match row.lim with
  | .w1c m => ((s.clearBits key m v).jConfig key who v).accept who key []
  | _ =>
    match recOf (key / 256) with
    | some (.pt, p) => s.portSubmit who p key v (s.portWaits p key) t
    | _ =>
      let s := s.when (marksDirty row) fun s => s.markDirty
      ((s.putValue key v).jConfig key who v).accept who key []

/-- Device-state conditions of entries without a command of their own (R413). -/
def plainState (s : State) (key : Nat) : Option Nat :=
  reasonIf ((decide (key = Rc.NVME_LINKS) || decide (key = Rc.NS0_NSID) || decide (key = Rc.NS1_NSID) || decide (key = Rc.NS1_LINK)) &&
    s.bit Rc.J_EN 0) 6

/-- The write of an entry that has no row of its own. -/
def plainWrite (who key v : Nat) (t : Tick) (s : State) : State :=
  match odRow key with
  | none => s
  | some row =>
    cmdRun who key (fun s => s.writeOwner who key v) (fun s => orElse' (s.plainState key) (s.valueAbort key v)) noMark
      (fun s => s.plainDo who key v row t) s

/-- A byte string is put into force: RANGE_MAP (R130), IP6_ADDR (R356). -/
def bytesWrite (who key : Nat) (b : List Byte) (s : State) : State :=
  cmdRun who key (fun s => s.ownerAbort who key) (fun _ => none) noMark
    (fun s =>
      let s := s.when (decide (accOf key = some .rwc)) fun s => s.rwcMark key
      (((s.setBlob key b).markDirty).jBytes key who false b).accept who key []) s

/-- A POINTS write: the words go to the slots of the list (R15, R182). -/
def pointsWrite (who l : Nat) (b : List Byte) (s : State) : State :=
  let key := Ls.POINTS l
  cmdRun who key (fun s => s.ownerAbort who key)
    (fun s => rangeIf (decide (65536 < s.rN (Ls.FIRST_SLOT l) + s.rN (Ls.COUNT l))) (Ls.FIRST_SLOT l)) noMark
    (fun s =>
      let s := s.spadPutAll (slotAddr (s.rN (Ls.FIRST_SLOT l))) (words5 (b.length / 5) b)
      ((s.set (Ls.LIST_STATE l) 1).markDirty).accept who key []) s

/-! ### The write of any entry -/

/-- The write of a numeric entry that acts as a command, by its record; none: the entry has no command of its own. -/
def commandWrite (who key v : Nat) (t : Tick) : Option (State → State) :=
  let sub := key % 256
  match recOf (key / 256) with
  | some (.gr, g) => match sub with
    | 0x04 => some (groupCtrl who g v t)
    | 0x43 => some (rotRequestWrite who g v t)
    | _ => none
  | some (.pt, p) => match sub with
    | 0x04 => some (portCtrl who p v t)
    | 0x30 => some (spanWrite who p v t)
    | 0x42 => some (forceCtrl who p v t)
    | 0xD9 => some (pgenCtrl who p v t)
    | 0xE4 => some (seqHoldWrite who p v t)
    | 0xF1 => some (winCtrl who p v t)
    | _ => none
  | some (.sl, i) => if sub = 0x61 then some (wornReqWrite who i v) else none
  | some (.ch, e) => match sub with
    | 0x05 => some (chEnWrite who e v)
    | 0x06 => some (fireWrite who e v t)
    | _ => none
  | some (.cx, c) => if sub = 0x02 then some (runStateWrite who c v t) else none
  | some (.ls, l) => if sub = 0x07 then some (commitWrite who l v) else none
  | some (.rg, r) => if sub = 0x05 then some (regionEnWrite who r v) else none
  | some (.rn, r) => match sub with
    | 0x07 => some (ringEnWrite who r v)
    | 0x09 => some (consHostWrite who r v)
    | _ => none
  | some (.dv, _) => if sub = 0x04 then some (cfgSaveWrite who v) else none
  | some (.pw, _) => if sub = 0x02 then some (powerReq who v t) else none
  | some (.tb, _) => match sub with
    | 0x05 => some (taiSetWrite who v t)
    | 0x13 => some (resyncWrite who v)
    | _ => none
  | some (.fb, _) => if sub = 0x11 then some (btRequestWrite who v) else none
  | some (.mc, _) => if sub = 0x03 then some (mcReqWrite who v t) else none
  | some (.ca, _) => if sub = 0x07 then some (refXferWrite who v t) else none
  | some (.ss, k) => if sub = 0x08 then some (closeWrite who k v) else none
  | some (.dm, r) => match sub with
    | 0x01 => some (dmaEnWrite who r v t)
    | 0x07 => some (descTailWrite who r v)
    | _ => none
  | some (.rc, _) => match sub with
    | 0x01 => some (jEnWrite who v none t)
    | 0x0E => some (storeInitWrite who v none t)
    | 0x12 => some (offloadedWrite who v t)
    | _ => none
  | some (.rp, _) => if sub = 0x06 then some (rpCtrlWrite who v t) else none
  | some (.rl, n) => if sub = 0x0A then some (railOnWrite who n v t) else none
  | some (.fw, _) => if sub = 0x05 then some (fwCtrlWrite who v t) else none
  | some (.se, _) => match sub with
    | 0x01 => some (secHoldersWrite who v)
    | 0x02 => some (ownAssignWrite who v t)
    | 0x03 => some (claimWrite who v t)
    | 0x04 => some (lcReqWrite who v t)
    | 0x05 => some (lcConfirmWrite who v t)
    | 0x08 => some (svnLockWrite who v)
    | _ => none
  | some (.ky, k) => if sub = 0x04 then some (keyRevokeWrite who k v) else none
  | _ => none

/-- The write of a numeric entry. -/
def numWrite (who key v : Nat) (t : Tick) (s : State) : State :=
  match commandWrite who key v t with
  | some f => f s
  | none => plainWrite who key v t s

/-- The write of a byte string or DOMAIN. -/
def blobWrite (who key : Nat) (b : List Byte) (s : State) : State :=
  match recOf (key / 256) with
  | some (.ls, l) => pointsWrite who l b s
  | some (.fw, _) => fwImageWrite who (Config.fwImageOf b) s
  | some (.ky, k) => keyWriteReq who k b s
  | _ => bytesWrite who key b s

/-- Longest FW_IMAGE: 8 MiB less 32 bytes (R443). -/
def fwImageMax : Nat := 8388576

/-- Check 2 for an entry: the length that its data must have; none: it has it (R341, R354). -/
def lengthAbort (s : State) (key : Nat) (row : Row) (n : Nat) : Option Nat :=
  match tyBytes row.ty with
  | some k => if n = k then none else some (Abort.typeLength k)
  | none =>
    if row.ty = .oct then (if n = octLen key then none else some (Abort.typeLength (octLen key)))
    else if row.ty = .str then (if n ≤ 64 then none else some (Abort.typeLength 0xFF))
    else
      match recOf (key / 256) with
      | some (.ls, l) => if n = 40 * s.rN (Ls.COUNT l) then none else some (Abort.typeLength 0xFF)
      | _ => if n ≤ fwImageMax then none else some (Abort.typeLength 0xFF)

/-- Checks 1, 2 and 4 of a write (R345). -/
def writeFirst (s : State) (key n : Nat) : Option Nat :=
  match recOf (key / 256), entryRow key with
  | none, _ => some Abort.noIndex
  | _, none => some Abort.noSubindex
  | _, some row =>
    match s.lengthAbort key row n with
    | some a => some a
    | none => if row.acc = .ro ∨ row.acc = .const then some Abort.writeDenied else none

/-- The write of an entry by a principal, from the data that an interface carries. -/
def odWrite (who key : Nat) (data : List Byte) (t : Tick) (s : State) : State :=
  if s.reaches who key then
    match s.writeFirst key data.length with
    | some a => s.refuse who key a
    | none =>
      match (entryRow key).bind (fun r => tyBytes r.ty) with
      | some _ => numWrite who key (leNat data) t s
      | none => blobWrite who key data s
  else s

end State
end Sys2Proof.Machine
end

