-- ==== Sys2Proof/Machine/NetCore.lean ====
section
/-!
DEFINITION. The field ports as they receive (R356-R373): COP messages, sessions, block transfers and subscriptions; CAN FD segments; frames
at the cut-through bridge; legacy frames.
-/

namespace Sys2Proof.Machine

/-! ### Fields of a COP message (R361) -/

/-- The little-endian field of `n` bytes at byte `i`. -/
def fieldAt (m : List Byte) (i n : Nat) : Nat := leNat ((m.drop i).take n)

abbrev copVer (m : List Byte) : Nat := fieldAt m 0 1
abbrev copTyp (m : List Byte) : Nat := fieldAt m 1 1
abbrev copSid (m : List Byte) : Nat := fieldAt m 2 2
abbrev copSeq (m : List Byte) : Nat := fieldAt m 4 4
abbrev copLen (m : List Byte) : Nat := fieldAt m 8 2
abbrev copReq (m : List Byte) : Nat := fieldAt m 12 4

/-- Header and body; body; tag. -/
def copSigned (m : List Byte) : List Byte := m.take (m.length - 16)
def copBody (m : List Byte) : List Byte := (copSigned m).drop 16
def copTag (m : List Byte) : List Byte := m.drop (m.length - 16)

/-- The tag is that of a key (R364). -/
def copTagOk (key m : List Byte) : Bool := decide (copTag m = (hmac key (copSigned m)).take 16)

/-- The entry that a body names: index and subindex. -/
def bodyKey (b : List Byte) : Nat := fieldAt b 0 2 * 256 + fieldAt b 2 1

/-- Bytes that a whole message may have on a transport (R361). -/
def peerMax : Peer → Nat
  | .can => 504
  | _ => 1232

/-- SESSION_STATE of a peer (R373). -/
def peerState : Peer → Nat
  | .udp6 _ _ => 1
  | .udp4 _ _ => 2
  | .can => 3

/-- Length of the request body of a TYPE, where it is fixed (R362). -/
def bodyLength : Nat → Option Nat
  | 2 => some 4
  | 4 => some 10
  | 6 => some 8
  | 8 => some 4
  | _ => none

/-- The body has the length that its TYPE and its own length field give it (R362). -/
def bodyOk (typ : Nat) (b : List Byte) : Bool :=
  match bodyLength typ with
  | some n => decide (b.length = n)
  | none => if typ = 3 then decide (b.length = 8 + fieldAt b 4 2) else decide (b.length = 16 + fieldAt b 12 2)

namespace State

/-- The TRANSPORT abort of a message whose tag and SEQ are right (R365): version, type, length. -/
def transportAbort (room : Nat) (m : List Byte) : Option Nat :=
  if copVer m ≠ 1 then some (Abort.transport 1 0)
  else if !(decide (copTyp m ∈ [2, 3, 4, 5, 6, 8])) then some (Abort.transport 2 1)
  else if copLen m + 32 ≠ m.length ∨ room < m.length ∨ bodyOk (copTyp m) (copBody m) = false then some (Abort.transport 3 8)
  else none

/-! ### Answers -/

/-- Respond to a request in session `k`: the response is kept (R366) and sent. -/
def respond (s : State) (k reqId typ : Nat) (body : List Byte) : State :=
  match s.session k with
  | none => s
  | some x =>
    let kept := ((reqId, BitVec.ofNat 8 typ :: body) :: x.kept).take 32
    (s.setSession k (some { x with kept := kept })).sessSend k typ 1 reqId false body

def respondAbort (s : State) (k reqId typ a : Nat) : State := s.respond k reqId typ (leBytes 4 a)

/-- Refuse a request with an abort of the OD (R343) and respond with it. -/
def refuseReq (s : State) (k reqId typ key a : Nat) : State := (s.refuse (18 + k) key a).respondAbort k reqId typ a

/-- The response body of a completed access (R362). -/
def respBody (typ : Nat) (r : Resp) : List Byte :=
  if typ = 2 ∧ r.abort = 0 then leBytes 4 0 ++ leBytes 1 (if r.key % 256 = 0 then 7 else keyType r.key) ++ leBytes 1 0 ++ leBytes 2 r.data.length ++ r.data
  else leBytes 4 r.abort

/-- Respond with the answer of the access just made; one that is held at a group controller is answered when it completes (R343). -/
def respondResp (s : State) (k reqId typ : Nat) : State :=
  match s.resp with
  | some r => s.respond k reqId typ (respBody typ r)
  | none => s

/-- Make an access for a request of session `k`. -/
def copAccess (s : State) (k reqId typ : Nat) (f : State → State) : State :=
  let s := f { s with resp := none, od := { s.od with origin := .cop k reqId typ } }
  { s with od := { s.od with origin := .direct } }.respondResp k reqId typ

/-! ### Opening a session (R364, R453, R458) -/

def authFail (s : State) (k : Nat) : State := s.satInc (Ss.AUTH_FAIL k) 32 1

/-- Bytes of a fresh random draw. -/
def draw (s : State) (n : Nat) : List Byte := (List.range n).map (Config.random s.fresh)

/-- A new SESSION_ID of session `k`: not zero, and unlike that of any other session. -/
def newSid (s : State) (k : Nat) : Nat := 1 + 4 * (leNat ((s.draw 18).drop 16) % 8192) + k

/-- The session of the CAN port, which carries one at a time (R360). -/
def canSession (s : State) (k : Nat) : List Nat :=
  (List.range 4).filter fun j => decide (j ≠ k) && (match s.session j with | some x => decide (x.peer = .can) | none => false)

/-- Session `k` opens for a peer. -/
def openSession (s : State) (k : Nat) (peer : Peer) (m : List Byte) (t : Tick) : State :=
  let s := if peer = .can then (s.canSession k).foldl (fun s j => s.sessClose j) s else s
  let s := s.sessDrop k
  let nc := ((copBody m).drop 4).take 16
  let nd := s.draw 16
  let sid := s.newSid k
  let ks := hmac (s.keyRow k) (textBytes "COP-SESSION" ++ nc ++ nd ++ leBytes 2 sid)
  let body := leBytes 4 0 ++ nd ++ leBytes 4 (s.rN (Ss.SESSION_TIMEOUT k))
  let reply := copMessage (s.keyRow k) Cop.open_ sid 0 1 (copReq m) body
  let s := { s with fresh := s.fresh + 1 }
  let s := s.setSession k (some { id := sid, ks := ks, peer := peer, lastMsg := t })
  (s.set (Ss.SESSION_STATE k) (peerState peer)).copSend peer false reply

/-- A TRANSPORT abort outside a session: the reply carries SESSION_ID 0 and the tag of the slot's key. -/
def openAbort (s : State) (k : Nat) (peer : Peer) (m : List Byte) (a : Nat) : State :=
  (s.refuse (18 + k) 0 a).copSend peer false (copMessage (s.keyRow k) Cop.open_ 0 0 1 (copReq m) (leBytes 4 a))

/-- A SESSION_OPEN request. -/
def sessionOpenRx (s : State) (peer : Peer) (m : List Byte) (t : Tick) : State :=
  let k := fieldAt m 16 1
  if 4 ≤ k then s.authFail 0
  else if s.rN (Ky.KEY_STATE k) ≠ 1 ∨ s.rN Id.LIFE_CYCLE = 4 ∨ copTagOk (s.keyRow k) m = false then s.authFail k
  else if copVer m ≠ 1 then s.openAbort k peer m (Abort.transport 1 0)
  else if copLen m + 32 ≠ m.length ∨ copLen m ≠ 20 then s.openAbort k peer m (Abort.transport 3 8)
  else if s.bit Se.SEC_STATUS SecStatus.RNG_FAIL then s.openAbort k peer m (Abort.transport 4 0)
  else s.openSession k peer m t

/-! ### Requests of a session (R362, R363, R368) -/

def setBlock (s : State) (k : Nat) (b : Option BlockXfer) : State :=
  match s.session k with
  | none => s
  | some x => s.setSession k (some { x with block := b })

/-- READ. -/
def readReq (s : State) (k reqId : Nat) (b : List Byte) : State :=
  let key := bodyKey b
  s.copAccess k reqId Cop.read fun s =>
    if isDomain key then s.refuse (18 + k) key (Abort.valueRange (key % 256)) else odRead (18 + k) key s

/-- The length that the TYPE_LENGTH abort of an entry states. -/
def expectLength (key : Nat) (row : Row) : Nat :=
  match tyBytes row.ty with
  | some n => n
  | none => if row.ty = .oct then octLen key else 0xFF

/-- WRITE as an interface carries it: the type code is checked with the length (R341, R362). -/
def typedWrite (who key code : Nat) (data : List Byte) (t : Tick) (s : State) : State :=
  match recOf (key / 256), entryRow key with
  | some _, some row =>
    if row.ty = .domain then s.refuse who key (Abort.valueRange (key % 256))
    else if tyCode row.ty ≠ code then s.refuse who key (Abort.typeLength (expectLength key row))
    else odWrite who key data t s
  | _, _ => odWrite who key data t s

def writeReq (s : State) (k reqId : Nat) (b : List Byte) (t : Tick) : State :=
  s.copAccess k reqId Cop.write fun s => typedWrite (18 + k) (bodyKey b) (fieldAt b 3 1) (b.drop 8) t s

/-- The segment of a block read that starts a snapshot's rest, with what is left (R363). -/
def segmentBody (total : Nat) (rest : List Byte) (n : Nat) : List Byte :=
  let seg := rest.take n
  leBytes 4 0 ++ leBytes 4 total ++ leBytes 4 (total - rest.length) ++ leBytes 2 seg.length ++ leBytes 2 0 ++ seg

/-- A READ_BLOCK request of a principal (R363): `room` is what the transport allows in a segment, `errAt` the byte offset of the offset field,
`blk` the transfer under way. The transfer then under way, and the response body. -/
def blockRead (s : State) (who reqId room errAt : Nat) (b : List Byte) (blk : Option BlockXfer) (t : Tick) :
    State × Option BlockXfer × List Byte :=
  let key := bodyKey b
  let off := fieldAt b 4 4
  let n := min (fieldAt b 8 2) room
  let serve := fun (s : State) (x : BlockXfer) =>
    let rest := x.data.drop n
    (s, if rest = [] then (none : Option BlockXfer) else some { x with data := rest, since := t }, segmentBody x.total x.data n)
  let bad := fun (s : State) (a : Nat) => (s.refuse who key a, (none : Option BlockXfer), leBytes 4 a)
  if off = 0 then
    if isDomain key = false ∧ (entryRow key).isSome = true then bad s (Abort.valueRange (key % 256))
    else
      let s := odRead who key { s with resp := none }
      match s.resp with
      | none => (s, none, leBytes 4 Abort.hardware)
      | some r =>
        if r.abort ≠ 0 then (s, none, leBytes 4 r.abort)
        else serve s { key := key, wr := false, total := r.data.length, data := r.data, since := t, reqId := reqId }
  else
    match blk with
    | some x =>
      if x.wr = false ∧ x.key = key ∧ x.total - x.data.length = off then serve s x else bad s (Abort.transport 3 errAt)
    | none => bad s (Abort.transport 3 errAt)

/-- A segment of a block write joins those before it; none: it is out of order (R363). -/
def joinSegment (blk : Option BlockXfer) (key reqId total off : Nat) (seg : List Byte) (t : Tick) : Option BlockXfer :=
  if off = 0 then
    if total < seg.length then none else some { key := key, wr := true, total := total, data := seg, since := t, reqId := reqId }
  else
    match blk with
    | some x =>
      if x.wr = true ∧ x.key = key ∧ x.total = total ∧ x.data.length = off ∧ off + seg.length ≤ total then
        some { x with data := x.data ++ seg, since := t }
      else none
    | none => none

/-- What a WRITE_BLOCK request comes to. -/
inductive SegStep where
  | refused (a : Nat)
  | more (x : BlockXfer)
  | whole (data : List Byte)

/-- A WRITE_BLOCK request: refused, a segment accepted, or the entry complete. -/
def blockWrite (reqId errAt : Nat) (b : List Byte) (blk : Option BlockXfer) (t : Tick) : SegStep :=
  let key := bodyKey b
  if isDomain key = false ∧ (entryRow key).isSome = true then .refused (Abort.valueRange (key % 256))
  else
    match joinSegment blk key reqId (fieldAt b 4 4) (fieldAt b 8 4) (b.drop 16) t with
    | none => .refused (Abort.transport 3 errAt)
    | some x => if x.data.length < x.total then .more x else .whole x.data

/-- READ_BLOCK. -/
def readBlockReq (s : State) (k reqId : Nat) (peer : Peer) (b : List Byte) (t : Tick) : State :=
  let x := s.blockRead (18 + k) reqId (peerMax peer - 32 - 16) 20 b ((s.session k).bind (·.block)) t
  (x.1.setBlock k x.2.1).respond k reqId Cop.readBlock x.2.2

/-- WRITE_BLOCK. -/
def writeBlockReq (s : State) (k reqId : Nat) (b : List Byte) (t : Tick) : State :=
  match blockWrite reqId 24 b ((s.session k).bind (·.block)) t with
  | .refused a => (s.setBlock k none).refuseReq k reqId Cop.writeBlock (bodyKey b) a
  | .more x => (s.setBlock k (some x)).respondAbort k reqId Cop.writeBlock 0
  | .whole d => (s.setBlock k none).copAccess k reqId Cop.writeBlock fun s => odWrite (18 + k) (bodyKey b) d t s

/-- The subscriptions of session `k` become `l`. -/
def setSubs (s : State) (k : Nat) (l : List Sub) : State :=
  match s.session k with
  | none => s
  | some x => (s.setSession k (some { x with subs := l })).set (Ss.SUB_COUNT k) l.length

/-- Conditions of a SUBSCRIBE (R368). -/
def subscribeAbort (key mode period : Nat) (n : Nat) : Option Nat :=
  match recOf (key / 256), entryRow key with
  | none, _ => some Abort.noIndex
  | _, none => some Abort.noSubindex
  | _, some row =>
    if row.ty = .domain ∨ 2 < mode then some (Abort.valueRange (key % 256))
    else if row.acc = .wo then some Abort.readDenied
    else if mode ≠ 0 ∧ ¬(10 ≤ period ∧ period ≤ 86400000) then some (Abort.valueRange (key % 256))
    else if mode ≠ 0 ∧ 32 ≤ n then some (Abort.deviceState 5)
    else none

/-- SUBSCRIBE. -/
def subscribeReq (s : State) (k reqId : Nat) (b : List Byte) (t : Tick) : State :=
  match s.session k with
  | none => s
  | some x =>
    let key := bodyKey b
    let mode := fieldAt b 3 1
    let period := fieldAt b 4 4
    let rest := x.subs.filter fun u => decide (u.key ≠ key)
    match subscribeAbort key mode period rest.length with
    | some a => s.refuseReq k reqId Cop.subscribe key a
    | none =>
      if mode = 0 then
        let num := match x.subs.find? (fun u => decide (u.key = key)) with | some u => u.num | none => 0
        (s.setSubs k rest).respond k reqId Cop.subscribe (leBytes 4 0 ++ leBytes 2 num ++ leBytes 2 0)
      else
        let num := (x.subNo + 1) % 65536
        let s := s.setSession k (some { x with subNo := num })
        let s := s.setSubs k (rest ++ [{ num := num, key := key, mode := mode, period := period, next := t + period * ms }])
        s.respond k reqId Cop.subscribe (leBytes 4 0 ++ leBytes 2 num ++ leBytes 2 0)

/-- ABORT: REQ_ID 0 closes the session; another REQ_ID cancels the block transfer that began with it (R362, R367). -/
def abortReq (s : State) (k reqId : Nat) (b : List Byte) : State :=
  let r := fieldAt b 0 4
  if r = 0 then (s.respondAbort k reqId Cop.abort 0).sessDrop k
  else
    let s := match (s.session k).bind (·.block) with
      | some x => if x.reqId = r then s.setBlock k none else s
      | none => s
    s.respondAbort k reqId Cop.abort 0

/-- An authenticated, new request of session `k`. -/
def sessionRequest (s : State) (k : Nat) (peer : Peer) (m : List Byte) (t : Tick) : State :=
  let reqId := copReq m
  let typ := copTyp m
  let b := copBody m
  match (s.session k).bind (fun x => x.kept.find? (fun e => decide (e.1 = reqId))) with
  | some (_, w) => s.sessSend k (leNat (w.take 1)) 1 reqId false (w.drop 1)
  | none =>
    match transportAbort (peerMax peer) m with
    | some a => s.refuseReq k reqId typ 0 a
    | none =>
      if typ = Cop.read then s.readReq k reqId b
      else if typ = Cop.write then s.writeReq k reqId b t
      else if typ = Cop.readBlock then s.readBlockReq k reqId peer b t
      else if typ = Cop.writeBlock then s.writeBlockReq k reqId b t
      else if typ = Cop.subscribe then s.subscribeReq k reqId b t
      else s.abortReq k reqId b

/-- The session with a SESSION_ID. -/
def sessionOf (s : State) (sid : Nat) : Option Nat :=
  (List.range 4).find? fun k => match s.session k with | some x => decide (x.id = sid) | none => false

/-- A COP message arrives (R365). Outside normal service no COP request is served. -/
def copRx (s : State) (peer : Peer) (m : List Byte) (t : Tick) : State :=
  if !s.served then s
  else if m.length < 32 then s.authFail 0
  else if copSid m = 0 ∧ copTyp m = Cop.open_ then s.sessionOpenRx peer m t
  else
    match s.sessionOf (copSid m) with
    | none => s.authFail 0
    | some k =>
      match s.session k with
      | none => s
      | some x =>
        if !copTagOk x.ks m then s.authFail k
        else if copSeq m ≤ x.rx then s.satInc (Ss.REPLAY_DROP k) 32 1
        else
          let s := s.setSession k (some { x with rx := copSeq m, peer := peer, lastMsg := t })
          (s.set (Ss.SESSION_STATE k) (peerState peer)).sessionRequest k peer m t

/-- A TYPE that has no row of its own. -/
def strangeType (typ : Nat) : Bool := decide (typ = 0 ∨ typ = 7 ∨ 8 < typ)

/-- A COP message of one TYPE arrives as a UDP datagram; an unknown TYPE may arrive as any of them. -/
def copRow (typ : Nat) (peer : Peer) (m : List Byte) (t : Tick) (s : State) : State :=
  s.when (decide (copTyp m = typ) || strangeType (copTyp m)) fun s => s.copRx peer m t

/-- A subscription's read falls due (R368). -/
def subRead (s : State) (k num : Nat) (t : Tick) : State :=
  match s.session k with
  | none => s
  | some x =>
    match x.subs.find? (fun u => decide (u.num = num) && decide (u.next ≤ t)) with
    | none => s
    | some u =>
      let due := u.next
      let s := odRead (18 + k) u.key { s with resp := none }
      match s.resp with
      | none => s
      | some r =>
        if r.abort / 65536 = 0x0401 then
          (s.setSubs k (x.subs.filter fun v => decide (v.num ≠ num))).addItem k (.cancelled num r.abort) due
        else
          let send := decide (r.abort = 0) && (decide (u.mode = 2) || decide (u.last ≠ some r.data))
          let kept := send && decide (x.items.length < 64)
          let s := s.setSubs k (x.subs.map fun v =>
            if v.num = num then { v with next := due + u.period * ms, last := if kept then some r.data else v.last } else v)
          s.when send fun s => s.addItem k (.value num (s.timeNs due) r.data) due

/-! ### CAN FD segments (R360) -/

def canDrop (s : State) : State := { s.satInc Cn.CAN_SEG_ERR 32 1 with net := { s.net with can := none } }

/-- A whole message: its end is found from its LENGTH field. -/
def canWhole (m : List Byte) : List Byte := if m.length < 16 then m else m.take (32 + copLen m)

/-- A segment of the message being assembled. -/
def canSegment (s : State) (h : Nat) (seg : List Byte) (t : Tick) : State :=
  let first := bitOf h 7
  let last := bitOf h 6
  let n := h % 8
  let s := if first && s.net.can.isSome then s.canDrop else s
  let cur := if first then some { data := [], next := 0, since := t } else s.net.can
  match cur with
  | none => s.canDrop
  | some x =>
    if n ≠ x.next then s.canDrop
    else
      let data := x.data ++ seg
      if last then { s with net := { s.net with can := none } }.copRx .can (canWhole data) t
      else { s with net := { s.net with can := some { data := data, next := n + 1, since := t } } }

/-- A CAN FD frame arrives. -/
def canRx (s : State) (id : Nat) (data : List Byte) (t : Tick) : State :=
  if s.served ∧ s.bit Cn.CAN_EN 0 = true ∧ s.rN Cn.CAN_STATE ≠ 2 ∧ id = 0x500 + s.rN Cn.CAN_NODE then
    match data with
    | [] => s
    | h :: seg => s.canSegment h.toNat seg t
  else s

/-! ### Frames at the bridge (R356-R358) -/

/-- The number of a big-endian byte string. -/
def beNat (b : List Byte) : Nat := leNat b.reverse

def macAddr (s : State) : Nat := beNat (s.bytesOf Ne.MAC_ADDR)

/-- The link-local address formed from the MAC address. -/
def linkLocal (s : State) : Nat :=
  let m := s.macAddr
  0xFE80 * 2 ^ 112 + ((m / 2 ^ 24) ^^^ 0x020000) * 2 ^ 40 + 0xFFFE * 2 ^ 24 + m % 2 ^ 24

/-- An address of the device. -/
def ownAddr (s : State) (v6 : Bool) (a : Nat) : Bool :=
  if v6 then decide (a = s.linkLocal) || (decide (a = beNat (s.bytesOf Ne.IP6_ADDR)) && decide (a ≠ 0))
  else decide (a = s.rN Ne.IP4_ADDR) && decide (a ≠ 0)

/-- A group address: bit 0 of the first byte. -/
def groupAddr (a : Nat) : Bool := bitOf a 40

/-- The port on which a source address was last seen. -/
def learnedPort (s : State) (a : Nat) : Option Nat := (s.net.learned.find? fun e => decide (e.1 = a)).map (·.2)

/-- The bridge learns a source address: 64 entries, the least recently used one is replaced. -/
def learn (s : State) (a port : Nat) : State :=
  { s with net := { s.net with learned := ((a, port) :: s.net.learned.filter fun e => decide (e.1 ≠ a)).take 64 } }

/-- Line bytes of a frame: preamble, frame and FCS. -/
def frameLine (f : EthFrame) : Nat := 8 + f.len

/-- The device sends a frame of its own: on the learned port, or on both (R357). -/
def sendLocal (s : State) (f : EthFrame) : State :=
  let ports := match s.learnedPort f.dst with | some p => [p] | none => [0, 1]
  ports.foldl (fun s p => s.when (s.bit Ne.LINK p) fun s => (s.occupy (frameLine f) p).out (.ethSend p f)) s

/-- An answer to a frame. -/
def replyFrame (s : State) (f : EthFrame) (load : EthLoad) : EthFrame := { dst := f.src, src := s.macAddr, len := f.len, load := load }

/-- A frame that the device takes. -/
def takeFrame (s : State) (f : EthFrame) (t : Tick) : State :=
  match f.load with
  | .udp v6 src dst sport dport sumOk fragment data =>
    if !s.ownAddr v6 dst then s
    else if !sumOk || fragment then s.satInc Ne.RX_DROP 32 1
    else if dport = 47760 then s.copRx (if v6 then .udp6 src sport else .udp4 src sport) data t
    else s
  | .echo v6 src dst => if s.ownAddr v6 dst then s.sendLocal (s.replyFrame f (.echo v6 dst src)) else s
  | .resolve v6 target => if s.ownAddr v6 target then s.sendLocal (s.replyFrame f (.resolve v6 target)) else s
  | _ => s

/-- A frame as the bridge forwards it: a wrong FCS leaves inverted, and a PTP event message carries its residence time (R358). -/
def forwarded (s : State) (f : EthFrame) : EthFrame :=
  match f.load with
  | .ptp r => { f with load := .ptp (r + Config.residence s.fresh) }
  | _ => f

/-- Send a forwarded frame from a port. -/
def sendForward (s : State) (port : Nat) (f : EthFrame) (t : Tick) : State :=
  let g := s.forwarded f
  let s := { s with fresh := s.fresh + 1,
                    net := { s.net with fwd := Tab.set (fun _ => 0) s.net.fwd port (t + frameLine f * byteTicks) } }
  (s.when (!f.fcsOk) fun s => s.satInc Br.FCS_ERR 32 1).out (.ethSend port g)

/-- A frame to be forwarded from the egress port: at once, or stored behind a local frame in one of two buffers (R358). -/
def forward (s : State) (port : Nat) (f : EthFrame) (t : Tick) : State :=
  if !s.bit Br.BRIDGE_EN 0 || !s.bit Ne.LINK port then s
  else if t < s.localEnd port ∨ s.net.stored.any (fun e => decide (e.1 = port)) = true then
    if s.net.stored.length < 2 then { s with net := { s.net with stored := s.net.stored ++ [(port, f)] } }
    else s.satInc Br.FWD_DROP 32 1
  else s.sendForward port f t

/-- A frame arrives on a port. -/
def ethRx (s : State) (port : Nat) (f : EthFrame) (t : Tick) : State :=
  if !s.served || !s.bit Ne.LINK port then s
  else
    let s := s.learn f.src port
    let own := decide (f.dst = s.macAddr)
    let s := if own then s else s.forward (1 - port) f t
    if (own || groupAddr f.dst) && f.fcsOk then s.takeFrame f t else s

/-- The egress port is free: the oldest frame stored for it is sent. -/
def bridgeSend (s : State) (port : Nat) (t : Tick) : State :=
  match s.net.stored.find? (fun e => decide (e.1 = port)) with
  | some (p, f) =>
    if s.localEnd port ≤ t ∧ s.fwdEnd port ≤ t then
      { s with net := { s.net with stored := s.net.stored.erase (p, f) } }.sendForward port f t
    else s
  | none => s

/-- A link comes up or goes down; frames stored for a port without a link are lost. -/
def linkChange (s : State) (port : Nat) (up : Bool) : State :=
  let s := s.setBit Ne.LINK port up
  if up then s else { s with net := { s.net with stored := s.net.stored.filter fun e => decide (e.1 ≠ port) } }

/-! ### The legacy port (R370-R372) -/

/-- One bit, and one byte, of CRC-16 with polynomial 0x1021, not reflected. -/
def crc16Bits : Nat → Nat → Nat
  | 0, c => c
  | n + 1, c => crc16Bits n (if 0x8000 ≤ c then ((c * 2) ^^^ 0x11021) % 65536 else c * 2)

def crc16 (b : List Byte) : Nat := b.foldl (fun c x => crc16Bits 8 (c ^^^ (x.toNat * 256))) 0xFFFF

/-- The `n` low bytes of a number, most significant first. -/
def beBytes (n v : Nat) : List Byte := (leBytes n v).reverse

/-- A frame of the legacy port with its CRC. -/
def legFrame (body : List Byte) : List Byte := 0xA5#8 :: body ++ beBytes 2 (crc16 body)

/-- What a legacy register stands for. -/
inductive LegReg where
  | reserved
  | part
  | entry (rd wr : Nat)
deriving DecidableEq, Repr

/-- The entry that a register reads, and the one that it writes (R372). -/
def legReg (r : Nat) : LegReg :=
  let p := r / 64
  if r = 0x800 then .part
  else if 32 ≤ p then .reserved
  else match r % 64 with
    | 0x00 => .entry (Pt.PORT_STATE p) (Pt.PORT_CTRL p)
    | 0x01 => .entry (Pt.PORT_STATUS p) (Pt.PORT_STATUS p)
    | 0x02 => .entry (Pt.FORCE_MODE p) (Pt.FORCE_MODE p)
    | 0x03 => .entry (Pt.FORCE_SETPOINT p) (Pt.FORCE_SETPOINT p)
    | 0x04 => .entry (Pt.COMPL_HI p) (Pt.COMPL_HI p)
    | 0x05 => .entry (Pt.COMPL_LO p) (Pt.COMPL_LO p)
    | 0x06 => .entry (Pt.LAST_V p) (Pt.LAST_V p)
    | 0x07 => .entry (Pt.LAST_I p) (Pt.LAST_I p)
    | 0x08 => .entry (Pt.TH_V_HI p) (Pt.TH_V_HI p)
    | 0x09 => .entry (Pt.TH_V_LO p) (Pt.TH_V_LO p)
    | 0x0A => .entry (Pt.TH_I_HI p) (Pt.TH_I_HI p)
    | 0x0B => .entry (Pt.TH_I_LO p) (Pt.TH_I_LO p)
    | 0x0C => .entry (Pt.CMP_V_MODE p) (Pt.CMP_V_MODE p)
    | 0x0D => .entry (Pt.CMP_I_MODE p) (Pt.CMP_I_MODE p)
    | 0x0E => .entry (Pt.SM_TICK p) (Pt.SM_TICK p)
    | 0x0F => .entry (Pt.PGEN_STATUS p) (Pt.PGEN_CTRL p)
    | 0x10 => .entry (Pt.TRIP_CAUSE p) (Pt.TRIP_CAUSE p)
    | _ => .reserved

/-- The exception code of an abort (R372). -/
def legCode (a : Nat) : Nat :=
  match a / 65536 with
  | 0x0101 => 2
  | 0x0102 => 2
  | 0x0601 => 3
  | 0x0701 => 5
  | 0x0201 => 3
  | _ => 4

/-- The entry is an FSQ, carried as its bits 39:8. -/
def isFsq (key : Nat) : Bool := match odRow key with | some r => decide (r.ty = .fsq) | none => false

/-- Read one register: its 32 bits, or the exception code. -/
def legRead1 (s : State) (r : Nat) : State × Nat × Nat :=
  match legReg r with
  | .reserved => (s, 0, 2)
  | .part => (s, 0x2128, 0)
  | .entry rd _ =>
    let s := odRead 22 rd { s with resp := none }
    match s.resp with
    | some x => if x.abort ≠ 0 then (s, 0, legCode x.abort) else (s, if isFsq rd then leNat x.data / 256 else leNat x.data, 0)
    | none => (s, 0, 4)

/-- The access that writes one register: a value that the entry's type cannot hold is refused with the value-range abort. -/
def legAccess (key v : Nat) (t : Tick) (s : State) : State :=
  let n := match entryRow key with | some r => (tyBytes r.ty).getD 0 | none => 0
  let w := if isFsq key then v * 256 else v
  if 2 ^ (8 * n) ≤ w ∨ (key % 256 = 0x10 ∧ 2 < w ∧ (recOf (key / 256)).map (·.1) = some .pt) then s.refuse 22 key (Abort.valueRange (key % 256))
  else odWrite 22 key (leBytes n w) t s

/-- Write one register: the exception code, or none while the access is held at a group controller. -/
def legWrite1 (s : State) (r v : Nat) (t : Tick) : State × Option Nat :=
  match legReg r with
  | .reserved => (s, some 2)
  | .part => (s, some 4)
  | .entry _ wr =>
    let s := legAccess wr v t { s with resp := none, od := { s.od with origin := .leg } }
    let s := { s with od := { s.od with origin := .direct } }
    match s.resp with
    | some x => (s, some (if x.abort ≠ 0 then legCode x.abort else 0))
    | none => (s, none)

/-- Read `n` registers in ascending order: the data, and the first exception. -/
def legReadAll (s : State) (r : Nat) : Nat → State × List Byte × Nat
  | 0 => (s, [], 0)
  | n + 1 =>
    let x := s.legRead1 r
    if x.2.2 ≠ 0 then (x.1, [], x.2.2)
    else
      let y := x.1.legReadAll (r + 1) n
      (y.1, beBytes 4 x.2.1 ++ y.2.1, y.2.2)

def legErr (s : State) : State := s.satInc Lg.LEG_ERR 32 1

/-- Send a response, unless the request was a broadcast. -/
def legAnswer (s : State) (addr : Nat) (body : List Byte) : State := if addr = 0 then s else s.out (.legSend (legFrame body))

/-- The exception response of a request. -/
def legExcept (s : State) (addr func : Nat) (hdr : List Byte) (code : Nat) : State :=
  s.legAnswer addr (beBytes 1 addr ++ beBytes 1 (func + 0x80) ++ hdr ++ beBytes 1 code)

/-- Write `n` registers in ascending order, then respond: the first refusal ends the request, and an access held at a group controller keeps the rest
of it waiting (R13, R372). -/
def legWriteAll (s : State) (addr : Nat) (hdr : List Byte) (r : Nat) (d : List Byte) (t : Tick) : Nat → State
  | 0 => s.legAnswer addr (beBytes 1 addr ++ beBytes 1 2 ++ hdr)
  | n + 1 =>
    match s.legWrite1 r (beNat (d.take 4)) t with
    | (s, none) => { s with net := { s.net with leg := some { addr := addr, hdr := hdr, reg := r + 1, rest := d.drop 4, left := n } } }
    | (s, some 0) => s.legWriteAll addr hdr (r + 1) (d.drop 4) t n
    | (s, some code) => s.legExcept addr 2 hdr code

/-- The held access of a legacy request has ended with `abort`: the request goes on, or ends with an exception. -/
def legResume (s : State) (abort : Nat) (t : Tick) : State :=
  match s.net.leg with
  | some w =>
    let s : State := { s with net := { s.net with leg := none } }
    if abort = 0 then s.legWriteAll w.addr w.hdr w.reg w.rest t w.left else s.legExcept w.addr 2 w.hdr (legCode abort)
  | none => s

/-- A frame of the legacy port arrives (R371, R372). DESIGN CHOICE (log entry 125): the line is half-duplex, and no frame is taken while a request
waits for a group controller. -/
def legRx (s : State) (frame : List Byte) (t : Tick) : State :=
  let addr := fieldAt frame 1 1
  let func := fieldAt frame 2 1
  let reg := beNat ((frame.drop 3).take 2)
  let count := fieldAt frame 5 1
  let body := (frame.take (frame.length - 2)).drop 1
  let hdr := (frame.drop 3).take 3
  let lenOk := if func = 1 then decide (frame.length = 8) else if func = 2 then decide (frame.length = 8 + 4 * count) else decide (8 ≤ frame.length)
  if !s.served || !s.bit Lg.LEG_EN 0 || s.net.leg.isSome then s
  else if frame.length < 8 ∨ fieldAt frame 0 1 ≠ 0xA5 ∨ crc16 body ≠ beNat (frame.drop (frame.length - 2)) ∨ lenOk = false ∨
      count = 0 ∨ 16 < count ∨ ¬(addr = s.rN Lg.LEG_ADDR ∨ (addr = 0 ∧ func = 2)) then s.legErr
  else if func = 1 then
    let x := s.legReadAll reg count
    if x.2.2 = 0 then x.1.legAnswer addr (beBytes 1 addr ++ beBytes 1 1 ++ hdr ++ x.2.1) else x.1.legExcept addr 1 hdr x.2.2
  else if func = 2 then
    s.legWriteAll addr hdr reg (frame.drop 6) t count
  else s.legExcept addr func hdr 1

/-- The FUNC of a legacy frame: a READ row takes what is not a WRITE. -/
def legFunc (frame : List Byte) : Nat := fieldAt frame 2 1

end State
end Sys2Proof.Machine
end

