-- ==== Sys2Proof/Machine/PcieCore.lean ====
section
/-!
DEFINITION. The PCIe host interface as the host drives it (R374-R396): the windows WIN_REGS and WIN_SPAD, AtomicOps, the mailbox, DMA
block transfers and notification queues.
-/

namespace Sys2Proof.Machine

/-! ### The WIN_REGS map (R378-R380) -/

/-- What a WIN_REGS slot is. -/
inductive WinSlot where
  | unmapped
  | mailbox
  | spadAlias
  | fire (key : Nat)
  | entry (key : Nat)
deriving DecidableEq, Repr

/-- Subindices of the directly mapped port entries (R380). -/
def portDirect (p : Nat) : List Nat :=
  [Pt.PORT_STATE p, Pt.PORT_CTRL p, Pt.PORT_STATUS p, Pt.FORCE_MODE p, Pt.FORCE_SETPOINT p, Pt.PULSE_SETPOINT p, Pt.COMPL_HI p, Pt.COMPL_LO p,
   Pt.LOOP_STATUS p, Pt.FORCE_STATUS p, Pt.FORCE_CTRL p, Pt.MEAS_STATUS p, Pt.LAST_V p, Pt.LAST_V_TAG p, Pt.LAST_V_UNC p, Pt.LAST_V_REAL p,
   Pt.LAST_I p, Pt.LAST_I_TAG p, Pt.LAST_I_UNC p, Pt.LAST_I_REAL p, Pt.LAST_TIME p] ++
  [Pt.IRNG_ACTIVE p, Pt.VRNG_ACTIVE p, Pt.TH_V_HI p, Pt.TH_V_LO p, Pt.TH_I_HI p, Pt.TH_I_LO p, Pt.CMP_STATUS p, Pt.PGEN_CTRL p,
   Pt.PGEN_STATUS p, Pt.TRIP_CAUSE p, Pt.RUN_CTX p]

/-- The directly mapped context entries. -/
def ctxDirect (c : Nat) : List Nat :=
  [Cx.RUN_STATE c, Cx.SETPOINT c, Cx.PULSE_SETPOINT c, Cx.COMPL_HI c, Cx.COMPL_LO c, Cx.ENG_LAST c, Cx.ENG_UNC c, Cx.POINT_NOW c,
   Cx.STALL_AGE c, Cx.WAIT_CAUSE c, Cx.SEQ_STATUS c]

/-- An entry, if its record has it. -/
def winEntry (key : Nat) : WinSlot := if (odRow key).isSome then .entry key else .unmapped

/-- The slot at a byte offset of WIN_REGS, for a function. -/
def winSlot (f off : Nat) : WinSlot :=
  if off < 0x3000 then .mailbox
  else if 0x10000 ≤ off ∧ off < 0x12000 then winEntry ((0x1110 + (off - 0x10000) / 0x100) * 256 + off % 0x100 / 8)
  else if 0x20000 ≤ off ∧ off < 0x22000 then .fire (Ch.FIRE ((off - 0x20000) / 8))
  else if 0x30000 ≤ off ∧ off < 0x30008 then .entry Tb.TICKS_NOW
  else if 0x30008 ≤ off ∧ off < 0x30010 then .entry Tb.TIME_NOW
  else if 0x30100 ≤ off ∧ off < 0x30200 then winEntry ((0x1140 + f) * 256 + (off - 0x30100) / 8)
  else if 0x31000 ≤ off ∧ off < 0x31200 then
    .entry (if off % 16 < 8 then Rn.WR_COUNT ((off - 0x31000) / 16) else Rn.CONS_HOST ((off - 0x31000) / 16))
  else if 0x100000 ≤ off ∧ off < 0x180000 then
    let p := (off - 0x100000) / 0x1000
    let key := (0x4000 + p) * 256 + off % 0x1000 / 8
    if off % 0x1000 < 0x800 ∧ key ∈ portDirect p then .entry key else .unmapped
  else if 0x200000 ≤ off ∧ off < 0x300000 then
    let c := (off - 0x200000) / 0x100
    let key := (0x6000 + c) * 256 + off % 0x100 / 8 + 1
    if key ∈ ctxDirect c then .entry key else .unmapped
  else if 0x2000000 ≤ off ∧ off < 0x4000000 then .spadAlias
  else .unmapped

/-- Bits of an entry's image: 40 for FSQ, INTEGER40 and the UNSIGNED64 entries that hold 40 bits (R379). -/
def imageBits (key : Nat) : Nat :=
  let held40 := match recOf (key / 256) with
    | some (.pt, p) => decide (key = Pt.LAST_V_TAG p ∨ key = Pt.LAST_I_TAG p)
    | some (.dm, r) => decide (key = Dm.BLOCKS_SENT r)
    | some (.cx, c) => decide (key = Cx.STALL_AGE c)
    | some (.rn, r) => decide (key = Rn.WR_COUNT r ∨ key = Rn.CONS_HOST r)
    | _ => false
  if held40 then 40
  else match odRow key with
    | some r => 8 * (State.tyBytes r.ty).getD 0
    | none => 0

/-- The data bytes that a value of the entry's type has on the OD. -/
def odBytes (key v : Nat) : List Byte :=
  match odRow key with
  | some r => leBytes ((State.tyBytes r.ty).getD 0) v
  | none => []

/-- The entry's type is signed. -/
def signedEntry (key : Nat) : Bool :=
  match odRow key with
  | some r => decide (r.ty = .i32 ∨ r.ty = .i40 ∨ r.ty = .i64 ∨ r.ty = .fsq)
  | none => false

/-- A value of 4 or 8 written bytes fits an entry of `w` bits: the bits above are zero, or copies of the sign bit (R379). -/
def imageFits (key w n v : Nat) : Bool :=
  decide (v < 2 ^ w) || (signedEntry key && decide (v / 2 ^ (w - 1) = 2 ^ (8 * n - (w - 1)) - 1))

namespace State

/-- The windows of a function serve: normal service, and the function is up (R376, R424). -/
def winUp (s : State) (f : Nat) : Bool := s.served && s.fnUp f

/-- An access to the window of a function: one that is not enabled issues none, and one in D3hot is answered with Unsupported Request. -/
def hostRun (f : Nat) (rd : Bool) (eff : State → State) (s : State) : State :=
  if s.winUp f then eff s
  else if s.fnLive f && s.served then (if rd then s.answerUR f else s.urCount)
  else s

/-! ### Reads (R266, R379, R381) -/

/-- Data at the link: whole or poisoned (R393). -/
def complete (s : State) (f : Nat) (bad : Bool) (data : List Byte) : State :=
  if bad then (s.satInc Pe.POISON_TX 32 1).out (.cplPoison f data) else s.out (.cpl f data)

/-- The snapshot latch of a window. -/
def latchOf (s : State) (f : Nat) (spad : Bool) : Snap := if spad then (s.fnx f).snapS else (s.fnx f).snapR

def setLatch (s : State) (f : Nat) (spad : Bool) (x : Snap) : State :=
  s.modFn f fun n => if spad then { n with snapS := x } else { n with snapR := x }

/-- A read of an image of `w` bits whose present value is `v`. -/
def imageRead (s : State) (f : Nat) (spad : Bool) (slot w v : Nat) (bad : Bool) (k : RdKind) : State :=
  let l := s.latchOf f spad
  match k with
  | .whole => s.complete f bad (leBytes 8 v)
  | .lo =>
    if w ≤ 32 then s.complete f bad (leBytes 4 v)
    else (s.setLatch f spad { slot := some slot, val := v, seqn := (l.seqn + 1) % 256 }).complete f bad (leBytes 4 v)
  | .hi =>
    if w ≤ 32 then s.complete f bad (leBytes 4 0)
    else
      let x := if l.slot = some slot then l.val else v
      if w = 40 then s.complete f bad (leBytes 1 (x / 2 ^ 32) ++ leBytes 1 l.seqn ++ leBytes 2 0) else s.complete f bad (leBytes 4 (x / 2 ^ 32))

/-- A read of WIN_SPAD (R254, R266). -/
def spadWinRead (s : State) (f off : Nat) (k : RdKind) : State :=
  let a := off / 8
  let sec := s.secHolder (f + 1)
  if 0x400000 ≤ a then s.answerUR f
  else if (s.memReadAbort (f + 1) a sec).isSome then (s.when (sapphire a && !sec) fun s => s.sapViol).answerUR f
  else
    let x := s.spadRead a
    x.1.imageRead f true off 40 x.2.1.toNat x.2.2 k

/-- A 4-byte mailbox register (R383): none, if it cannot be read. -/
def mbReg (s : State) (f off : Nat) : Option Nat :=
  let m := (s.fnx f).mb
  if off = 4 then some m.st
  else if off = 8 then some m.doneId
  else if off = 12 then some (m.overrun.toNat + 2 * m.discarded.toNat)
  else if 0x1000 ≤ off ∧ off < 0x2000 then some (Tab.get (fun _ => 0) m.req ((off - 0x1000) / 4))
  else if 0x2000 ≤ off ∧ off < 0x3000 then some (leNat ((m.rsp.drop (off - 0x2000)).take 4))
  else none

def mbRead4 (s : State) (f off : Nat) (k : RdKind) : State :=
  match k with
  | .whole =>
    (match s.mbReg f off, s.mbReg f (off + 4) with
     | some a, some b => s.out (.cpl f (leBytes 4 a ++ leBytes 4 b))
     | _, _ => s.answerUR f)
  | _ => match s.mbReg f off with | some a => s.out (.cpl f (leBytes 4 a)) | none => s.answerUR f

/-- A read of WIN_REGS. -/
def regsWinRead (s : State) (f off : Nat) (k : RdKind) : State :=
  let slot := off / 8 * 8
  match winSlot f slot with
  | .mailbox => s.mbRead4 f (match k with | .hi => slot + 4 | _ => slot) k
  | .fire _ => s.complete f false (leBytes (match k with | .whole => 8 | _ => 4) 0)
  | .entry key =>
    if (s.readAbort (f + 1) key).isSome then s.answerUR f
    else
      match s.readEntry key with
      | (s, some b) => s.imageRead f false slot (imageBits key) (leNat b) false k
      | (s, none) => s.imageRead f false slot (imageBits key) 0 true k
  | _ => s.answerUR f

/-- A read through a window. -/
def winRead (f : Nat) (spad : Bool) (off : Nat) (k : RdKind) (s : State) : State :=
  s.hostRun f true fun s =>
    if spad then s.orLate (.read f (off / 8 * 8) k) fun s => s.spadWinRead f (off / 8 * 8) k else s.regsWinRead f off k

/-! ### Writes (R254, R267, R379, R381) -/

def winErr (s : State) : State := s.setBit Fb.FAB_STATUS FabStatus.WIN_ERR true

/-- A LO write is staged in the function's write latch; one that replaces another word's sets WIN_ERR. -/
def stageLo (s : State) (f : Nat) (spad : Bool) (slot v : Nat) : State :=
  let lost := match (s.fnx f).wr with | some (w, o, _) => decide (w ≠ spad) || decide (o ≠ slot) | none => false
  (s.when lost winErr).modFn f fun n => { n with wr := some (spad, slot, v % 2 ^ 32) }

/-- A HI write commits the staged LO of its word; the value of `w` bits, or none: it is discarded. -/
def commitHi (s : State) (f : Nat) (spad : Bool) (slot w v : Nat) : State × Option Nat :=
  match (s.fnx f).wr with
  | some (b, o, lo) =>
    if b = spad ∧ o = slot then (s.modFn f fun n => { n with wr := none }, some ((v % 2 ^ (w - 32)) * 2 ^ 32 + lo)) else (s.winErr, none)
  | none => (s.winErr, none)

/-- A word is written through WIN_SPAD by the owner of its page, or discarded (R254, R393). -/
def spadWinWrite (s : State) (f a v : Nat) : State :=
  let sec := s.secHolder (f + 1)
  if 0x400000 ≤ a then s.urCount
  else if (s.memWriteAbort (f + 1) a sec).isSome then (s.when (sapphire a && !sec) fun s => s.sapViol).urCount
  else s.spadPut a (BitVec.ofNat 40 v)

/-- The same, behind a wipe. -/
def spadPosted (s : State) (f a v : Nat) : State := s.orLate (.write f a v) fun s => s.spadWinWrite f a v

/-- The effects of a refused direct write (R381). -/
def directRefused (s : State) (f off a : Nat) (t : Tick) : State :=
  let s := s.set (Fn.DIRECT_ABORT f) (off % 2 ^ 26 * 2 ^ 32 + a)
  ((s.satInc (Fn.DIRECT_ERR f) 32 1).raiseErr f t).urCount

/-- A direct write of an entry's value by a function; what the checks refuse is reported as R381 states. -/
def directEntry (s : State) (f off key v : Nat) (t : Tick) : State :=
  let s := odWrite (f + 1) key (odBytes key v) t { s with resp := none, od := { s.od with origin := .direct } }
  match s.resp with
  | some r => if r.abort = 0 then s else s.directRefused f off r.abort t
  | none => s

/-- A direct write of `n` bytes of an entry of at most 32 bits. -/
def directSmall (s : State) (f off key n v : Nat) (t : Tick) : State :=
  let w := imageBits key
  if imageFits key w n v then s.directEntry f off key (v % 2 ^ w) t
  else
    let a := orElse' (s.ownerAbort (f + 1) key) (some (Abort.valueRange (key % 256)))
    s.directRefused f off (a.getD 0) t

/-! #### The mailbox (R383-R385) -/

/-- The longest body that a mailbox buffer holds. -/
def mbMax : Nat := 4088

/-- The access of mailbox `f` has completed with a response body. -/
def mbDone (s : State) (f : Nat) (body : List Byte) : State := s.modMb f fun m => { m with ready := some body }

def mbAbortWith (s : State) (f key a : Nat) : State := (s.refuse (f + 1) key a).mbDone f (leBytes 4 a)

/-- Make an access for the mailbox of a function; a held one completes later. -/
def mbAccess (s : State) (f typ : Nat) (eff : State → State) : State :=
  let s := eff { s with resp := none, od := { s.od with origin := .mb f } }
  let s := { s with od := { s.od with origin := .direct } }
  match s.resp with
  | some r => s.mbDone f (respBody typ r)
  | none => s

/-- One address in each page of a range of words. -/
def pagesOf (a n : Nat) : List Nat := a :: (List.range ((a + n - 1) / 4096 - a / 4096)).map fun k => (a / 4096 + 1 + k) * 4096

/-- The words of a range as the host layout of R388 carries them. -/
def hostBytes (wide : Bool) (w : List Nat) : List Byte :=
  w.flatMap fun x => if wide then leBytes 8 (x + (if bitOf x 39 then 2 ^ 64 - 2 ^ 40 else 0)) else leBytes 5 x

/-- The words that host bytes carry. -/
def hostWords (wide : Bool) (n : Nat) (b : List Byte) : List Nat :=
  (List.range n).map fun k => leNat ((b.drop ((if wide then 8 else 5) * k)).take 5)

/-- SPAD_COPY (R384). `host`: the bytes that the host's memory returns; none: the read ends in a timeout, UR or CA. -/
def spadCopy (s : State) (f : Nat) (b : List Byte) (host : Option (List Byte)) : State :=
  let dir := fieldAt b 0 1
  let wide := decide (fieldAt b 1 1 = 1)
  let addr := fieldAt b 4 8
  let a := fieldAt b 12 4
  let n := fieldAt b 16 4
  let sec := s.secHolder (f + 1)
  if 1 < dir ∨ 1 < fieldAt b 1 1 ∨ addr % 64 ≠ 0 ∨ n = 0 ∨ 1048576 < n ∨ 0x400000 < a + n then s.mbAbortWith f 0 (Abort.valueRange 0)
  else
    let chk := fun x => if dir = 0 then s.memWriteAbort (f + 1) x sec else s.memReadAbort (f + 1) x sec
    match (pagesOf a n).findSome? chk with
    | some e => (s.when ((pagesOf a n).any sapphire && !sec) fun s => s.sapViol).mbAbortWith f 0 e
    | none =>
      if dir = 0 then
        let s := s.out (.hostRead f addr ((if wide then 8 else 5) * n))
        match host with
        | none => s.mbAbortWith f 0 Abort.hardware
        | some d => (s.spadPutAll a (hostWords wide n d)).mbDone f (leBytes 4 0)
      else
        let x := s.spadReadAll a n
        let s := (x.1.out (.hostWrite f addr (hostBytes wide x.2.1) x.2.2)).when x.2.2 fun s => s.satInc Pe.POISON_TX 32 1
        s.mbDone f (leBytes 4 0)

/-- The request that a mailbox holds is carried out. -/
def mbRequest (s : State) (f id typ : Nat) (b : List Byte) (host : Option (List Byte)) (t : Tick) : State :=
  let blk := (s.fnx f).mb.block
  if !(decide (typ ∈ [2, 3, 4, 5, 8, 9])) then s.mbAbortWith f 0 (Abort.transport 2 0)
  else if mbMax < b.length ∨ (if typ = 9 then decide (b.length = 20) else bodyOk typ b) = false then s.mbAbortWith f 0 (Abort.transport 3 4)
  else if typ = 2 then
    s.mbAccess f 2 fun s =>
      if isDomain (bodyKey b) then s.refuse (f + 1) (bodyKey b) (Abort.valueRange (bodyKey b % 256)) else odRead (f + 1) (bodyKey b) s
  else if typ = 3 then s.mbAccess f 3 fun s => typedWrite (f + 1) (bodyKey b) (fieldAt b 3 1) (b.drop 8) t s
  else if typ = 4 then
    let x := s.blockRead (f + 1) id 4072 12 b blk t
    (x.1.modMb f fun m => { m with block := x.2.1 }).mbDone f x.2.2
  else if typ = 5 then
    match blockWrite id 16 b blk t with
    | .refused a => (s.modMb f fun m => { m with block := none }).mbAbortWith f (bodyKey b) a
    | .more x => (s.modMb f fun m => { m with block := some x }).mbDone f (leBytes 4 0)
    | .whole d => (s.modMb f fun m => { m with block := none }).mbAccess f 5 fun s => odWrite (f + 1) (bodyKey b) d t s
  else if typ = 8 then
    if fieldAt b 0 4 = 0 then s.mbAbortWith f 0 (Abort.valueRange 0)
    else
      let hit := match blk with | some x => decide (x.reqId = fieldAt b 0 4) | none => false
      (s.modMb f fun m => { m with block := if hit then none else m.block }).mbDone f (leBytes 4 0)
  else s.orLate (.copy f b host) fun s => s.spadCopy f b host

/-- In recovery the mailbox of PF0 serves as well (R426). -/
def mbServes (s : State) (f : Nat) : Bool := s.fnUp f && (s.served || (s.bit Fw.FW_STATUS FwStatus.RECOVERY && decide (f = 0)))

/-- A doorbell write with the REQ_ID of a request (R384, R385). -/
def mbSubmit (f id typ : Nat) (b : List Byte) (host : Option (List Byte)) (t : Tick) (s : State) : State :=
  if !s.mbServes f then s
  else if id = 0 then s.modMb f fun m => { m with discarded := true }
  else if (s.fnx f).mb.st = 1 then s.modMb f fun m => { m with overrun := true }
  else (s.modMb f fun m => { m with st := 1, cur := id, curTyp := typ, ready := none }).mbRequest f id typ b host t

/-- The request in MB_REQ: TYPE and body; a LENGTH above the buffer leaves a body that is too long. -/
def mbLayout (s : State) (f : Nat) : Nat × List Byte :=
  let w := fun k => Tab.get (fun _ => 0) (s.fnx f).mb.req k
  let n := w 1 % 65536
  (w 0 % 256, ((List.range (min n (mbMax + 1) / 4 + 1)).flatMap fun k => leBytes 4 (w (k + 2))).take (min n (mbMax + 1)))

/-- A 4-byte write of a mailbox register. -/
def mbWrite4 (s : State) (f off v : Nat) (t : Tick) : State :=
  if off = 0 then
    let x := s.mbLayout f
    mbSubmit f v x.1 x.2 none t s
  else if off = 12 then s.modMb f fun m => { m with overrun := m.overrun && !bitOf v 0, discarded := m.discarded && !bitOf v 1 }
  else if 0x1000 ≤ off ∧ off < 0x2000 then s.modMb f fun m => { m with req := Tab.set (fun _ => 0) m.req ((off - 0x1000) / 4) (v % 2 ^ 32) }
  else s.directRefused f off Abort.writeDenied t

/-- The access completes: the response stands in MB_RSP, and MB_VECTOR is raised (R384). -/
def mbRespond (f : Nat) (t : Tick) (s : State) : State :=
  match (s.fnx f).mb.ready with
  | none => s
  | some b =>
    let m := (s.fnx f).mb
    let rsp := leBytes 1 (m.curTyp + 0x80) ++ leBytes 3 0 ++ leBytes 2 b.length ++ leBytes 2 0 ++ b
    (s.modMb f fun m => { m with rsp := rsp, doneId := m.cur, st := 2, ready := none }).raise f (s.rN (Fn.MB_VECTOR f)) t

/-! #### Direct writes -/

/-- A 4-byte LO write of a WIN_REGS slot. -/
def regsWriteLo (s : State) (f off v : Nat) (t : Tick) : State :=
  match winSlot f off with
  | .mailbox => s.mbWrite4 f off v t
  | .fire key => s.directSmall f off key 4 v t
  | .entry key =>
    if 32 < imageBits key then
      (if accOf key = some .ro ∨ accOf key = some .const then s.directRefused f off Abort.writeDenied t else s.stageLo f false off v)
    else s.directSmall f off key 4 v t
  | .spadAlias => s.urCount
  | .unmapped => s.directRefused f off Abort.noIndex t

/-- A 4-byte HI write of a WIN_REGS slot. -/
def regsWriteHi (s : State) (f off v : Nat) (t : Tick) : State :=
  match winSlot f off with
  | .mailbox => s.mbWrite4 f (off + 4) v t
  | .entry key =>
    if 32 < imageBits key then
      (if accOf key = some .ro ∨ accOf key = some .const then s.directRefused f off Abort.writeDenied t
       else
         match s.commitHi f false off (imageBits key) v with
         | (s, some x) => s.directEntry f off key x t
         | (s, none) => s)
    else s.directRefused f off (Abort.typeLength ((imageBits key + 7) / 8)) t
  | .fire _ => s.directRefused f off (Abort.typeLength 1) t
  | .spadAlias => s.urCount
  | .unmapped => s.directRefused f off Abort.noIndex t

/-- An 8-byte write of a WIN_REGS slot. -/
def regsWriteWhole (s : State) (f off v : Nat) (t : Tick) : State :=
  match winSlot f off with
  | .mailbox => (s.mbWrite4 f off (v % 2 ^ 32) t).mbWrite4 f (off + 4) (v / 2 ^ 32) t
  | .fire key => s.directSmall f off key 8 v t
  | .entry key =>
    if 32 < imageBits key then s.directEntry f off key (v % 2 ^ imageBits key) t else s.directSmall f off key 8 v t
  | .spadAlias => s.urCount
  | .unmapped => s.directRefused f off Abort.noIndex t

/-- A write whose byte enables cover neither a whole LO dword nor a whole slot (R379). -/
def regsWritePart (s : State) (f off : Nat) (t : Tick) : State :=
  match winSlot f off with
  | .spadAlias => s.urCount
  | .unmapped => s.directRefused f off Abort.noIndex t
  | .entry key => s.directRefused f off (Abort.typeLength ((imageBits key + 7) / 8)) t
  | .fire _ => s.directRefused f off (Abort.typeLength 1) t
  | .mailbox => s.directRefused f off (Abort.typeLength 4) t

/-- A direct write of WIN_REGS. -/
def directWriteReq (f off : Nat) (k : WrKind) (v : Nat) (t : Tick) (s : State) : State :=
  s.hostRun f false fun s =>
    match k with
    | .lo => if off % 8 = 4 then s.regsWriteHi f (off - 4) (v % 2 ^ 32) t else s.regsWriteLo f (off / 8 * 8) (v % 2 ^ 32) t
    | .whole => s.regsWriteWhole f (off / 8 * 8) v t
    | .part => s.regsWritePart f (off / 8 * 8) t

/-- A LO write through a window. -/
def winLoWriteReq (f : Nat) (spad : Bool) (off v : Nat) (t : Tick) (s : State) : State :=
  s.hostRun f false fun s => if spad then s.stageLo f true (off / 8 * 8) v else s.regsWriteLo f (off / 8 * 8) v t

/-- A HI write through a window. -/
def winHiWriteReq (f : Nat) (spad : Bool) (off v : Nat) (t : Tick) (s : State) : State :=
  s.hostRun f false fun s =>
    if spad then
      match s.commitHi f true (off / 8 * 8) 40 v with
      | (s, some x) => s.spadPosted f (off / 8) x
      | (s, none) => s
    else s.regsWriteHi f (off / 8 * 8) v t

/-! ### AtomicOps (R382) -/

/-- An atomic on a word: the old value, sign-extended, is returned. A poisoned word stays poisoned. -/
def spadAtomic (s : State) (f a : Nat) (op : FabOp) (x : W40) : State :=
  let sec := s.secHolder (f + 1)
  if 0x400000 ≤ a then s.answerUR f
  else if (s.memWriteAbort (f + 1) a sec).isSome || (s.memReadAbort (f + 1) a sec).isSome then
    (s.when (sapphire a && !sec) fun s => s.sapViol).answerUR f
  else
    let r := s.spadRead a
    let new := fabNew op r.2.1 x
    let s := if r.2.2 then r.1.poisonWord a new else r.1.spadPut a new
    s.complete f r.2.2 (leBytes 8 (r.2.1.signExtend 64).toNat)

/-- The same, behind a wipe. -/
def atomicPosted (s : State) (f a : Nat) (op : FabOp) (x : W40) : State := s.orLate (.atomic f a op x) fun s => s.spadAtomic f a op x

/-- A FetchAdd or Swap at an offset of a window. -/
def atomicReq (f : Nat) (spad : Bool) (off : Nat) (swp : Bool) (x : Nat) (s : State) : State :=
  s.hostRun f true fun s =>
    let w := BitVec.ofNat 40 x
    if off % 8 ≠ 0 then s.answerUR f
    else if spad then s.atomicPosted f (off / 8) (if swp then .swap else .addWrap) w
    else if 0x2000000 ≤ off ∧ off < 0x4000000 then s.atomicPosted f ((off - 0x2000000) / 8) (if swp then .swap else .addSat) w
    else s.answerUR f

/-! ### DMA (R387-R389) -/

/-- The words of the next block that a channel sends, and whether one of them is poisoned. -/
def dmaBlock (s : State) (r : Nat) : State × List Nat × Bool :=
  let n := (s.rN (Rn.CONS_HOST r) + (s.dmx r).flying) % 2 ^ s.rN (Rn.SIZE_LOG2 r)
  s.spadReadAll (4096 * s.rN (Rn.BASE_PAGE r) + 64 * n) 64

/-- Write one block into the current descriptor, which completes when it is full (R389). -/
def dmaPut (s : State) (r f : Nat) (t : Tick) : State :=
  let d := s.dmx r
  let wide := decide (s.rN (Dm.FORMAT r) = 1)
  let x := s.dmaBlock r
  let s := x.1.out (.hostWrite f (d.addr + d.filled * (if wide then 512 else 320)) (hostBytes wide x.2.1) x.2.2)
  let s := s.when x.2.2 fun s => (s.satInc Pe.POISON_TX 32 1).setBit (Dm.DMA_STATUS r) DmaStatus.POISON true
  let s := s.modDm r fun d => { d with filled := d.filled + 1, flying := d.flying + 1, first := if d.filled = 0 then t else d.first,
                                       poison := d.poison || x.2.2 }
  (s.when (decide (d.filled + 1 = d.cap)) fun s => s.descBack r false false f t).syncDma r

/-- The descriptor is within its limits (R387). -/
def descOk (d : Desc) : Bool := decide (d.addr % 64 = 0) && decide (1 ≤ d.cap ∧ d.cap ≤ 1048576)

/-- A channel takes the next descriptor. -/
def descOpen (s : State) (r f : Nat) (d : Desc) (t : Tick) : State :=
  let s := s.out (.hostRead f (s.rN (Dm.DESC_BASE r) + 16 * (s.rN (Dm.DESC_HEAD r) % 2 ^ s.rN (Dm.DESC_LOG2 r))) 16)
  let s := s.modDm r fun x => { x with open_ := true, addr := d.addr, cap := d.cap, irq := d.irq, filled := 0, poison := false }
  if descOk d then s
  else (((s.descBack r false true f t).setBit (Dm.DMA_STATUS r) DmaStatus.DMA_ERR true).raiseErr f t).syncDma r

/-- A committed block and a posted descriptor are available (R389). -/
def dmaTransfer (r : Nat) (d : Desc) (t : Tick) (s : State) : State :=
  match s.dmaFn r with
  | none => s
  | some f =>
    if !s.dmaOn r || !s.winUp f || !s.bit (Rn.RING_EN r) 0 || !s.dmaWaiting r then s
    else if (s.dmx r).open_ then (if (s.dmx r).filled < (s.dmx r).cap then s.dmaPut r f t else s)
    else if s.descPosted r then
      (if descOk d then (s.descOpen r f d t).dmaPut r f t else s.descOpen r f d t)
    else s

/-- The same, behind a wipe (R257). -/
def dmaNext (r : Nat) (d : Desc) (t : Tick) (s : State) : State := s.orLate (.dma r d) fun s => dmaTransfer r d t s

/-- An access that waited for the end of a wipe. -/
def lateDo (s : State) (x : Late) (t : Tick) : State :=
  match x with
  | .read f off k => s.spadWinRead f off k
  | .write f a v => s.spadWinWrite f a v
  | .atomic f a op x => s.spadAtomic f a op x
  | .copy f b host => s.spadCopy f b host
  | .dma r d => dmaTransfer r d t s

/-- Every TLP of a block is acknowledged: it is consumed (R389). -/
def dmaAcked (r : Nat) (s : State) : State :=
  if (s.dmx r).flying = 0 then s
  else
    let s := s.modDm r fun d => { d with flying := d.flying - 1 }
    let s := if diff40 (s.rN (Rn.WR_COUNT r)) (s.rN (Rn.CONS_HOST r)) = 0 then s
      else (s.set (Rn.CONS_HOST r) ((s.rN (Rn.CONS_HOST r) + 1) % 2 ^ 40)).syncRing r
    (s.wrapInc (Dm.BLOCKS_SENT r) 40 1).syncDma r

/-- DMA_FLUSH has elapsed since a descriptor's first block. -/
def dmaFlush (r : Nat) (t : Tick) (s : State) : State :=
  let d := s.dmx r
  match s.dmaFn r with
  | none => s
  | some f =>
    if s.dmaOn r && d.open_ && decide (0 < d.filled) && decide (d.filled < d.cap) && decide (d.first + s.rN (Dm.DMA_FLUSH r) * us ≤ t) then
      (s.descBack r true false f t).syncDma r
    else s

/-- A descriptor fetch fails. -/
def descFail (r : Nat) (t : Tick) (s : State) : State :=
  match s.dmaFn r with
  | none => s
  | some f => if s.dmaOn r && !(s.dmx r).open_ && s.descPosted r then s.dmaStop r f .error t else s

/-! ### Notification queues (R391) and vectors (R392) -/

/-- The bytes of an entry. -/
def nqEntry (s : State) (i : Intake) (lost : Bool) : List Byte :=
  leBytes 2 i.chan ++ leBytes 1 i.gen ++ leBytes 1 lost.toNat ++ leBytes 4 0 ++ leBytes 8 i.tick ++ leBytes 8 (s.timeNs i.tick) ++ leBytes 8 0

/-- The oldest event at the intake of a function is written to its queue, or lost. -/
def nqWrite (f : Nat) (t : Tick) (s : State) : State :=
  match s.pcie.intake.find? (fun i => decide (i.fn = f)) with
  | none => s
  | some i =>
    let s := { s with pcie := { s.pcie with intake := s.pcie.intake.erase i } }
    if !s.bit (Fn.NQ_EN f) 0 || !s.fnUp f then s
    else
      let head := s.rN (Fn.NQ_HEAD f)
      let tail := s.rN (Fn.NQ_TAIL f)
      let n := 2 ^ s.rN (Fn.NQ_LOG2 f)
      if (tail + 2 ^ 32 - head) % 2 ^ 32 < n then
        let s := s.out (.hostWrite f (s.rN (Fn.NQ_BASE f) + 32 * (tail % n)) (s.nqEntry i (s.fnx f).nqLost) false)
        ((s.modFn f fun x => { x with nqLost := false }).set (Fn.NQ_TAIL f) ((tail + 1) % 2 ^ 32)).raise f (s.rN (Fn.NQ_VECTOR f)) t
      else
        let rose := decide (s.rN (Fn.NQ_LOST f) < 2 ^ 32 - 1)
        ((s.satInc (Fn.NQ_LOST f) 32 1).modFn f fun x => { x with nqLost := true }).when rose fun s => s.raiseErr f t

/-- The holdoff of a vector ends: a source raised meanwhile sends its message. -/
def holdoffEnd (f v : Nat) (t : Tick) (s : State) : State :=
  let x := s.fnx f
  if Tab.get (fun _ => false) x.owed v && decide (Tab.get (fun _ => 0) x.hold v ≤ t) then
    (s.modFn f fun x => { x with owed := Tab.set (fun _ => false) x.owed v false }).vecSend f v t
  else s

/-- The host unmasks a vector. -/
def unmask (f v : Nat) (t : Tick) (s : State) : State :=
  if v < vectorsOf f ∧ s.fnLive f = true then
    let was := Tab.get (fun _ => false) (s.fnx f).pend v
    let s := s.modFn f fun x => { x with unmasked := Tab.set (fun _ => false) x.unmasked v true, pend := Tab.set (fun _ => false) x.pend v false }
    if was then s.vecSend f v t else s
  else s

/-! ### Held accesses (R13) -/

/-- A held access ends with `abort`, or completes where that is 0: its answer goes where the access came from. -/
def answerHeld (s : State) (c : GcCmd) (abort : Nat) : State :=
  let s := if abort = 0 then s.accept c.who c.key [] else s.refuse c.who c.key abort
  let s := (s.set Dv.OD_HELD (s.rN Dv.OD_HELD - 1))
  let r : Resp := { who := c.who, key := c.key, abort := abort, data := [] }
  match c.origin with
  | .mb f => s.mbDone f (respBody 3 r)
  | .cop k reqId typ => s.respond k reqId typ (respBody typ r)
  | .leg => s.legResume abort s.now
  | .direct => s

/-- A change of owner that waits behind held writes (R17). -/
def isOwn (h : Nat × Nat × GcCmd) : Bool := match h.2.2.op with | .own _ => true | _ => false

/-- The changes of owner at the head of the held commands follow the last write before them into the queue. -/
def ownsEnter (s : State) (g : Nat) : State :=
  let l := (s.gx g).held
  (l.takeWhile isOwn).foldl (fun s h => s.gcPush h.2.2) (s.modGx g fun x => { x with held := l.dropWhile isOwn })

/-- Room in a group controller's queue: held commands enter it in the order of their arrival. -/
def heldEnter (s : State) (g : Nat) : State :=
  match (s.gx g).held with
  | [] => s
  | (_, _, c) :: l =>
    if (s.gx g).queue.length < gcDepth then (((s.modGx g fun x => { x with held := l }).gcPush c).answerHeld c 0).ownsEnter g else s

/-- The core of the OD service has failed: the accesses in flight end with the device-state abort (R331). -/
def heldAbort (s : State) : State :=
  (List.range 16).foldl (fun s g =>
    let l := (s.gx g).held
    let s := s.modGx g fun x => { x with held := [] }
    let s := (l.filter isOwn).foldl (fun s h => s.gcPush h.2.2) s
    (l.filter fun h => !isOwn h).foldl (fun s h => s.answerHeld h.2.2 (Abort.deviceState 11)) s) s

end State
end Sys2Proof.Machine
end

