-- ==== Sys2Proof/Machine/Advance.lean ====
section
/-!
DEFINITION. Time and what follows from it: the effects that fall due between two commands, and what the block does of its own accord once a
command has acted. `run` puts a command's own effect between the two. Also the tick boundary of a port (R107).
-/

namespace Sys2Proof.Machine
namespace State

/-! ### Effects that fall due -/

/-- The selections that a tick computed come into force, and the setpoint-apply instant follows (R107 step 5, R115). -/
def tickStrikeAt (s : State) (p s0 s1 : Nat) (t : Tick) : State :=
  let s := s.modLoopY p fun y => { y with selF0 := s0, selF1 := s1 }
  s.when (s.portOn p) fun s => s.applyInstant p t

/-- The level of an aborted train returns to base (R160). -/
def levelToBase (s : State) (p : Nat) : State := (s.modPgen p fun x => { x with level := false }).syncPort p

/-- An effect that falls due at `t`. -/
def runMicro (m : Micro) (t : Tick) (s : State) : State :=
  match m with
  | .loopWrite p u0 u1 => s.loopWrite p u0 u1 t
  | .tickStrike p s0 s1 => s.tickStrikeAt p s0 s1 t
  | .strike p => s.strike p t
  | .setSafe p => s.setSafe p t
  | .levelBase p => s.levelToBase p
  | .recOut p => s.recordOut p t
  | .winOpen p => s.openDue p t
  | .trainCut p => s.trainCut p t
  | .select p => (s.select p t).syncPort p
  | .rot g => s.rotKick g t
  | .standby => s.standbyQuiet
  | .pfw on => if on then s.pfwActions t else s.pfwOver t
  | .reset cause => s.deviceReset cause t
  | .wipe => s.wipeStart t
  | .fabCycle => s.fabCycle t
  | .own a => s.assignNow a t

/-- What happens once its tick has passed: the end of a cut train, which gives way to a trip of that tick (R168), and a selection, in which every
START of that tick takes part (R200). -/
def microLate : Micro → Bool
  | .trainCut _ => true
  | .select _ => true
  | _ => false

/-- Run the effects due by `t`, in the order of their ticks. -/
def runDue (s : State) (t : Tick) : Nat → State
  | 0 => s
  | n + 1 =>
    match s.micro.find? (fun e => decide (e.1 < t) || (decide (e.1 = t) && !microLate e.2)) with
    | none => s
    | some e => (runMicro e.2 e.1 { s with micro := s.micro.erase e, now := max s.now e.1 }).runDue t n

/-- Effects of one advance: more than any set of waiting effects calls for. -/
def microFuel : Nat := 65536

/-- Time reaches `t`: the outputs and the answer of the command before are dropped, and what falls due by `t` happens, and background test has
read what it comes to. A delivery not taken
at its tick has found no target (R222). -/
def advance (s : State) (t : Tick) : State :=
  let t := max s.now t
  let s := (({ s with tx := [], resp := none } : State).runDue t microFuel).bgTo t
  { s with now := max s.now t, fab := { s.fab with flights := s.fab.flights.filter fun f => decide (t ≤ f.due) } }

/-- What the block does of its own accord after a command: effects due now, ended switching sequences, slices to be marked WORN, the reference
vote, the next commit, the next drive command, load shedding, full notifications, the entry into STANDBY, and a waiting power request. -/
def settle (s : State) : State :=
  let s := s.runDue s.now microFuel
  let s := s.railFinish s.now 32
  let s := s.wornReview
  let s := s.voteStart s.now
  let s := s.standbyTry s.now
  let s := s.powerRetry s.now
  let s := s.fwHand
  let s := s.commitKick
  let s := s.recKick s.now
  let s := s.shedCheck s.now
  let s := s.notifyFlush s.now
  s.runDue s.now microFuel

end State

/-- A command at the tick `t` with the effect `eff`: time reaches `t`, the command acts at the tick
then reached, and the block settles. -/
def run (t : Tick) (eff : Tick → State → State) (s : State) : Out := .next (eff (s.advance t).now (s.advance t)).settle

namespace State

/-! ### The tick boundary of a port (R107) -/

/-- The pattern of the tick is driven: of the step in progress, or of the ranges in force (R48, R132). -/
def tickPattern (s : State) (p : Nat) : State :=
  match (s.px p).range.step with
  | some st =>
    if st.phase ≤ 2 then s.drivePattern p (s.overlapPat p st.qv st.a st.b)
    else s.drivePattern p (s.steadyPat p (s.rN (Pt.VRNG_ACTIVE p)) (s.rangeI p))
  | none => s.drivePattern p (s.steadyPat p (s.rN (Pt.VRNG_ACTIVE p)) (s.rangeI p))

/-- Configuration accepted before the tick takes effect; while the queues are held it waits (R24, R331). -/
def tickConfig (s : State) (p : Nat) (t : Tick) : State := if s.queuesHeld then s else s.gcRun p t gcDepth

/-- BREAK ends at `t3`; a disable chain that stands in the OFF state reaches OFF there (R143). -/
def breakEnd (s : State) (p : Nat) (t : Tick) : State :=
  let due := match (s.px p).range.step with | some st => decide (st.phase = 3 ∧ st.t3 ≤ t) | none => false
  if due then
    let s := s.stepBreakEnd p t
    if (s.px p).range.toOff && s.atOffRange p then s.portOff p t else s
  else s

/-- Range steps that end, the divisor, the context, the span and new range steps at a tick boundary. -/
def tickRanges (s : State) (p : Nat) (t : Tick) : State :=
  let s := (s.breakEnd p t).stepGuardEnd p t
  let s := ((s.planApply p).divApply p t).seqAtBoundary p t
  let s := s.spanStart p t
  if (s.px p).seqn = .disRange then s.rangeToOff p t else s.seekStart p t

/-- The boundary `t` of the port is one whose step 2 is still to be taken. -/
def stepTwoDue (s : State) (p : Nat) (t : Tick) : Bool := !s.gated p && s.isBoundary p t && decide ((s.px p).loop.stepTwo ≠ some t)

/-- A disable of the port takes effect at `t`: the re-scale of a step that reaches `t2` there is not applied (R143). -/
def disableNear (s : State) (p : Nat) (t : Tick) : Bool :=
  !s.inTransfer p && (s.gcOf p).any fun c => decide (c.since < t) && (decide (c.op = .disable) || decide (c.op = .quiesce))

/-- The ranges in force of a port at its boundary `t` stand before any configuration takes effect there (R129). -/
def rangesFirst (s : State) (p : Nat) (t : Tick) : State :=
  if s.stepTwoDue p t then
    (s.when (s.disableNear p t) fun s => s.modRange p fun r => { r with step := r.step.map fun x => { x with rescale := false } }).stepToBreak p t
  else s

/-- Step 2 of R107: configuration accepted before `t` takes effect, range steps move on, and the range pattern is driven. On an OFF port
configuration and the divisor take effect too (R105, R124, R145). The ranges of this port and of a port it links to come first (R129, R139). -/
def stepTwo (s : State) (p : Nat) (t : Tick) : State :=
  if s.stepTwoDue p t then
    let s := [p, s.live p (Pt.LINK_PORT p), s.rN (Pt.LINK_PORT p)].foldl (fun s q => if q < 128 then s.rangesFirst q t else s) s
    let s := (s.modLoop p fun l => { l with stepTwo := some t }).tickConfig p t
    if !s.ticking p then (s.planApply p).divApply p t
    else
      let s := (s.tickRanges p t).rotBoundary p t
      if s.ticking p then s.tickPattern p else s
  else s

/-- A tick boundary: step 2 of this port, and of the port it links to if that one's boundary is the same tick, then step 3 (R107, R118). -/
def loopTick (p : Nat) (t : Tick) (s : State) : State :=
  if !s.served || !(s.isBoundary p t || decide ((s.px p).loop.stepTwo = some t)) then s
  else if s.gated p then s.windowNext p t
  else
    let s := s.stepTwo p t
    let q := s.live p (Pt.LINK_PORT p)
    let s := s.when (decide (q < 128)) fun s => s.stepTwo q t
    if s.ticking p then s.tickUpdate p t else s.tickIdle p t

/-! ### The estimator's visit (R106, R119, R123) -/

/-- LM_UPD of the record of the tick that the visit used, while its block is open. -/
def markUpdated (s : State) (p : Nat) : State :=
  let x := s.px p
  match x.loopY.recBlock.getLast? with
  | some w =>
    if x.loopY.recStart + 320 * (w / 2 ^ 20) = x.loop.lastTick then
      s.modLoopY p fun y => { y with recBlock := y.recBlock.dropLast ++ [putBit w 11 true] }
    else s
  | none => s

/-- The visit of a frame. -/
def lmVisitAt (k : Nat) (t : Tick) (s : State) : State :=
  if !s.served || decide (t % 320 ≠ 0) then s
  else
    match nextVisit (s.visitPorts k) (Tab.get (fun _ => 0) s.lm k) with
    | none => s
    | some p =>
      let s := { s with lm := Tab.set (fun _ => 0) s.lm k (p + 1) }
      if (s.px p).loopY.tickDone && decide ((s.px p).loop.lastTick < t) then
        ((s.modLoopY p fun y => { y with tickDone := false }).modelUpdate p).markUpdated p
      else s.modLoopY p fun y => { y with tickDone := y.tickDone && decide (t ≤ (s.px p).loop.lastTick) }

end State
end Sys2Proof.Machine
end

