-- ==== Sys2Proof/Machine/MeasureCmd.lean ====
section
/-!
DEFINITION. Measure path and ranging commands (R76-R103, R127-R146).
-/

namespace Sys2Proof.Machine
namespace State

/-- The slices of a port convert: service runs and the group is powered. To the end of a force transfer the samples are those of the slice that
held the port at its start (R33, R304). -/
def converts (s : State) (p : Nat) : Bool :=
  s.served && !s.gated p && (decide (s.roleOf (s.rN (Pt.DRIVE_SLICE p)) = 0) || s.inTransfer p)

/-- A fast conversion at a CLK_FAST edge (R83). -/
def conversion (s : State) (p : Nat) (cv ci : Int) (t : Tick) : State :=
  if s.converts p && decide (t % 32 = 0) then s.fastConv p cv ci t else s

/-- An open window has taken its base words (R79). -/
def windowDue (s : State) (p : Nat) (xv xi : List W40) (t : Tick) : State :=
  match (s.px p).meas.win with
  | some w => if t = w.open_ + 625 * w.n ∧ xv.length = w.n ∧ xi.length = w.n then s.closeWindow p w xv xi t else s
  | none => s

/-- PREC_FLUSH has elapsed since the first record entered the PREC block (R97). -/
def precFlush (s : State) (p : Nat) (t : Tick) : State :=
  match (s.px p).meas.prec with
  | some b => if b.firstIn + s.live p (Pt.PREC_FLUSH p) * us ≤ t then s.closePrec p else s
  | none => s

/-- A detector asserts (R89, R90); a common-mode excursion counts for every converter of the port. -/
def ovrAssertAt (s : State) (p : Nat) (v neg common : Bool) (t : Tick) : State :=
  if s.converts p then (s.ovrStart p v neg t).when common fun s => s.ovrStart p (!v) neg t else s

def ovrReleaseAt (s : State) (p : Nat) (v common : Bool) (t : Tick) : State :=
  (s.ovrEnd p v t).when common fun s => s.ovrEnd p (!v) t

/-- GUARD ends at a tick boundary: a held divisor change and the next step of the chain follow (R142, R143). -/
def guardDue (s : State) (p : Nat) (t : Tick) : State :=
  match (s.px p).range.step with
  | some st =>
    if st.phase = 4 ∧ st.guardEnd ≤ t then
      let s := (s.stepGuardEnd p t).divApply p t
      if (s.px p).seqn = .disRange then s.rangeToOff p t else if s.isBoundary p t then s.seekStart p t else s
    else s
  | none => s

/-- Whether the quantity is V. -/
def isV : Qty → Bool
  | .v => true
  | .i => false

end State

open State

def execFastConversion (t : Tick) (p : PortId) (cv ci : BitVec 18) (s : State) : Out := run t (fun t s => s.conversion p cv.toInt ci.toInt t) s
def execPrecWindowClose (t : Tick) (p : PortId) (xv xi : List W40) (s : State) : Out := run t (fun t s => s.windowDue p xv xi t) s
def execPrecFlushExpiry (t : Tick) (p : PortId) (s : State) : Out := run t (fun t s => s.precFlush p t) s
def execOvrAssert (t : Tick) (p : PortId) (q : Qty) (neg common : Bool) (s : State) : Out := run t (fun t s => s.ovrAssertAt p (isV q) neg common t) s
def execOvrRelease (t : Tick) (p : PortId) (q : Qty) (common : Bool) (s : State) : Out := run t (fun t s => s.ovrReleaseAt p (isV q) common t) s
def execRangeMakeEnd (t : Tick) (p : PortId) (s : State) : Out := run t (fun t s => s.stepMakeEnd p t) s
def execRangeParallelEnd (t : Tick) (p : PortId) (s : State) : Out := run t (fun t s => s.stepParEnd p t) s
def execRangeBreakEnd (t : Tick) (p : PortId) (s : State) : Out := run t (fun t s => s.breakEnd p t) s
def execRangeGuardEnd (t : Tick) (p : PortId) (s : State) : Out := run t (fun t s => s.guardDue p t) s

end Sys2Proof.Machine
end

