-- ==== Sys2Proof/Machine/ComparatorCmd.lean ====
section
/-!
DEFINITION. Comparator commands: transitions, first decisions and the strobes of the sampled mode (R147-R158).
-/

namespace Sys2Proof.Machine
namespace State

/-- A pin voltage in nV times 8,192 (R148), with the error of R151. Thresholds are numbered 0 I_LO, 1 I_HI, 2 V_LO, 3 V_HI. -/
def pinThreshold (s : State) (p i n : Nat) (t : Tick) : Int :=
  let code := field (s.rN (Pt.TH_CODES p)) (16 * (if 2 ≤ n then n - 2 else n + 2)) 16
  ((code : Int) - 8192) * 2500000000 + 8192 * satTo (Config.thError i n t) (-1000000) 1000000

/-- The hysteresis at the pins in the same unit (R150, R151): 0 while HYS_OFF. -/
def pinHyst (s : State) (p i : Nat) (v : Bool) (t : Tick) : Int :=
  if s.bit (Pt.CMP_STATUS p) (if v then CmpStatus.HYS_OFF_V else CmpStatus.HYS_OFF_I) then 0
  else 8192 * (field (s.live p (Pt.CMP_HYST p)) (if v then 0 else 4) 4 : Nat) * satTo (Config.hystStep i v t) 1800000 2200000

/-- The state of a comparator of slice `i` for an input of `x` nV (R147). With `bare`: a first decision, against the bare thresholds (R154). -/
def cmpEval (s : State) (p i : Nat) (v : Bool) (state : Nat) (x : Int) (bare : Bool) (t : Tick) : Nat :=
  let n := if v then 2 else 0
  cmpNext (if bare then 0 else state) (8192 * x) (s.pinThreshold p i n t) (s.pinThreshold p i (n + 1) t) (if bare then 0 else s.pinHyst p i v t)

/-- The output of the port's comparator is live at `t` (R154, R157). -/
def cmpLive (s : State) (p : Nat) (v : Bool) (t : Tick) : Bool := s.enabled p && (s.cmpOf p v).liveAt t

/-- A comparator of the slice besides DRIVE_SLICE stands in a new state: in SHADOW an enabled excursion sets that slice's own latch, which the health
record notes; in a transfer overlap it trips the port (R30, R163). -/
def otherTrip (s : State) (p i : Nat) (v : Bool) (was : Nat) (t : Tick) : State :=
  let m := s.shadowCauses p i t
  let c := s.cmpAt i v
  if m = 0 ∨ c.state = was ∨ c.state = 0 then s
  else if (s.gx (groupOf p)).overlap = some p then (s.trip p m t 0).syncPort p
  else if (s.sx i).shadowTrip then s
  else (s.modSx i fun x => { x with shadowTrip := true }).note i Note.shadowTrip t

/-- The same input at the comparator of the slice in SHADOW. -/
def otherChange (s : State) (p : Nat) (v : Bool) (x : Int) (t : Tick) : State :=
  match s.otherSlice p with
  | none => s
  | some i =>
    let c := s.cmpAt i v
    if c.liveAt t then (s.modCmpAt i v fun c => { c with state := s.cmpEval p i v c.state x false t }).otherTrip p i v c.state t else s

/-- The input of a comparator crosses to `x` nV: a live output follows R147 (R158). -/
def cmpChange (s : State) (p : Nat) (v : Bool) (x : Int) (t : Tick) : State :=
  let s' := s.otherChange p v x t
  if s.cmpLive p v t then s'.cmpMove p v (s.cmpEval p (s.rN (Pt.DRIVE_SLICE p)) v (s.cmpOf p v).state x false t) t else s'

/-- A pending mode change follows a start that has ended (R155). -/
def cmpPending (s : State) (p : Nat) (v : Bool) (e : Tick) : State :=
  if s.bit (Pt.CMP_STATUS p) (pendBit v) then
    ((s.setBit (Pt.CMP_STATUS p) (pendBit v) false).cmpModeChange p v e).syncPort p
  else s

/-- The first decision of the comparator of the slice in SHADOW, whose start ends at `e`; a mode that the port has taken meanwhile follows. -/
def otherDecide (s : State) (p : Nat) (v sm : Bool) (x : Int) (t : Tick) : State :=
  match s.otherSlice p with
  | none => s
  | some i =>
    let c := s.cmpAt i v
    match c.startEnd with
    | some e =>
      if e ≤ t ∧ decide (c.mode = 5) = sm then
        let s := (s.modCmpAt i v fun c => { c with state := s.cmpEval p i v 0 x true e, startEnd := none, decided := true }).otherTrip p i v 0 e
        if s.cmpActive p v = c.mode then s else s.modCmpAt i v fun _ => Cmp.begin (s.cmpActive p v) e
      else s
    | none => s

/-- t_EN of a starting comparator has expired: its first decision, on an input of `x` nV (R154). -/
def cmpFirst (s : State) (p : Nat) (v : Bool) (x : Int) (t : Tick) : State :=
  let s := s.otherDecide p v false x t
  match (s.cmpOf p v).startEnd with
  | some e =>
    if s.cmpActive p v ≠ 5 ∧ e ≤ t then
      ((s.cmpDecide p v (s.cmpEval p (s.rN (Pt.DRIVE_SLICE p)) v 0 x true e) false e).armWaitDone p e).cmpPending p v e
    else s
  | none => s

/-- `t` is an SM tick of the port (R157). -/
def smTickAt (s : State) (p : Nat) (t : Tick) : Bool :=
  let n := s.live p (Pt.SM_TICK p)
  decide (t % 640 = 0) && decide ((t / 640 + n - s.live p (Pt.SM_PHASE p) % n) % n = 0)

/-- The grid of the strobes in force (R157). -/
def smGrid (s : State) (p : Nat) : Nat × Nat := (s.live p (Pt.SM_TICK p), s.live p (Pt.SM_PHASE p))

/-- The valid interval of a strobe of the slice in SHADOW ends. -/
def otherEnd (s : State) (p : Nat) (v : Bool) (t : Tick) : State :=
  match s.otherSlice p with
  | some i => s.modCmpAt i v fun c =>
      if c.mode = 5 && c.strobe.isSome && c.startEnd.isNone && decide (c.strobeEnd ≤ t) then { c with state := 0, strobe := none } else c
  | none => s

/-- A strobe of the slice in SHADOW starts. -/
def otherStrobe (s : State) (p : Nat) (v : Bool) (t : Tick) : State :=
  match s.otherSlice p with
  | some i => s.modCmpAt i v fun c => if c.mode = 5 then c.strobeAt (s.smGrid p) t else c
  | none => s

/-- The valid interval of a strobe ends: the output reads INSIDE (R157, R158). -/
def smEnd (s : State) (p : Nat) (v : Bool) (t : Tick) : State :=
  let s := s.otherEnd p v t
  let c := s.cmpOf p v
  if c.strobe.isSome && c.startEnd.isNone && decide (c.strobeEnd ≤ t) then
    ((s.cmpMove p v 0 c.strobeEnd).modCmp p v fun c => { c with strobe := none }).syncPort p
  else s

/-- A strobe starts, unless one of another grid is in progress; with SM_TICK 1 the comparator stays powered from the first strobe on, and each further
strobe only moves the end of its interval (R157). -/
def smStart (s : State) (p : Nat) (v : Bool) (t : Tick) : State :=
  if !(s.enabled p && s.smTickAt p t) then s
  else
    let s := (s.smEnd p v t).otherStrobe p v t
    if s.cmpActive p v = 5 then (s.modCmp p v fun c => c.strobeAt (s.smGrid p) t).syncPort p else s

/-- The first decision of a strobe, on an input of `x` nV (R157, R158). -/
def smDecide (s : State) (p : Nat) (v : Bool) (x : Int) (t : Tick) : State :=
  let s := s.otherDecide p v true x t
  match (s.cmpOf p v).strobe, (s.cmpOf p v).startEnd with
  | some b, some _ =>
    if b + 384 ≤ t then
      ((s.cmpDecide p v (s.cmpEval p (s.rN (Pt.DRIVE_SLICE p)) v 0 x true (b + 384)) true (b + 384)).armWaitDone p (b + 384)).cmpPending p v (b + 384)
    else s
  | _, _ => s

end State

open State

def execCmpTransition (t : Tick) (p : PortId) (q : Qty) (x : Int) (s : State) : Out := run t (fun t s => s.cmpChange p (isV q) x t) s
def execCmpFirstDecision (t : Tick) (p : PortId) (q : Qty) (x : Int) (s : State) : Out := run t (fun t s => s.cmpFirst p (isV q) x t) s
def execSmStrobeStart (t : Tick) (p : PortId) (q : Qty) (s : State) : Out := run t (fun t s => s.smStart p (isV q) t) s
def execSmStrobeDecision (t : Tick) (p : PortId) (q : Qty) (x : Int) (s : State) : Out := run t (fun t s => s.smDecide p (isV q) x t) s
def execSmStrobeEnd (t : Tick) (p : PortId) (q : Qty) (s : State) : Out := run t (fun t s => s.smEnd p (isV q) t) s

end Sys2Proof.Machine
end

