-- ==== Sys2Proof/Machine/PgenCmd.lean ====
section
/-!
DEFINITION. Pulse trains, and deliveries to the task inputs of a port (R159-R174, R220-R224, R227).
-/

namespace Sys2Proof.Machine
namespace State

/-- A rise of the train is due (R164). -/
def riseAt (s : State) (p : Nat) (t : Tick) : State := match s.riseDue p t with | some (tr, e) => s.pulseRise p tr e | none => s
def fallAt (s : State) (p : Nat) (t : Tick) : State := match s.fallDue p t with | some (tr, e) => s.pulseFall p tr e | none => s

/-- PG_GATE follows a level change by GATE_DELAY edges (R166). -/
def gateEdge (s : State) (p : Nat) (t : Tick) : State :=
  match (s.px p).pgen.gateQ with
  | (e, b) :: r => if e ≤ t then (s.modPgen p fun x => { x with gateLvl := b, gateQ := r }).syncPort p else s
  | [] => s

/-- A start delivered to a port with START_SRC 1; while a train runs it is dropped as overrun (R167, R168, R224). -/
def startTask (s : State) (p : Nat) (l : List (Nat × Nat)) (t : Tick) : State :=
  if s.startSrc p ≠ 1 then s
  else
    (s.eventStart p t (topGen l + 1) l).1.syncPort p

/-- A re-arm by an event (R162). -/
def rearmTask (s : State) (p : Nat) (t : Tick) : State :=
  if !s.tripped p then s
  else if (s.rearmReason p t).isSome then s.setBit (Pt.PGEN_STATUS p) PgenStatus.REARM_REFUSED true
  else s.rearm p t

/-- An event strikes the DAC at the first suitable CLK_FAST edge (R55). -/
def strikeTask (s : State) (p : Nat) (t : Tick) : State :=
  if s.live p (Pt.UPD_SRC p) = 1 ∨ s.live p (Pt.UPD_SRC p) = 2 then s.later (strikeEdge t) (.strike p) else s

/-- What a task of a port does with an accepted trigger `l` at `t`. -/
def portTaskDo (s : State) (p kind : Nat) (l : List (Nat × Nat)) (t : Tick) : State :=
  if kind = Task.start then s.startTask p l t
  else if kind = Task.stop then (s.trainStop p (s.stopMode p) t).syncPort p
  else if kind = Task.rearm then s.rearmTask p t
  else if kind = Task.trip then s.trip p Cause.event t (topGen l + 1)
  else if kind = Task.arm then s.armPoint p t (topGen l)
  else if kind = Task.strike then s.strikeTask p t
  else s

/-- The deliveries of the tick `t` to a task input of a port (R220-R223, R227). -/
def portTask (s : State) (p kind : Nat) (t : Tick) : State :=
  let r := s.takePort p kind t
  if r.1 = [] then r.2 else r.2.portTaskDo p kind r.1 t

end State

open State

def execPgenCtrlStart (t : Tick) (who : Principal) (p : PortId) (s : State) : Out := run t (fun t s => pgenCtrl who p 1 t s) s
def execPgenCtrlStop (t : Tick) (who : Principal) (p : PortId) (s : State) : Out := run t (fun t s => pgenCtrl who p 2 t s) s
def execPgenCtrlRearm (t : Tick) (who : Principal) (p : PortId) (s : State) : Out := run t (fun t s => pgenCtrl who p 4 t s) s
def execPgenCtrlTrip (t : Tick) (who : Principal) (p : PortId) (s : State) : Out := run t (fun t s => pgenCtrl who p 8 t s) s
def execPgenRiseEdge (t : Tick) (p : PortId) (s : State) : Out := run t (fun t s => s.riseAt p t) s
def execPgenFallEdge (t : Tick) (p : PortId) (s : State) : Out := run t (fun t s => s.fallAt p t) s
def execPgenGateEdge (t : Tick) (p : PortId) (s : State) : Out := run t (fun t s => s.gateEdge p t) s
def execPgenStart (t : Tick) (p : PortId) (s : State) : Out := run t (fun t s => s.portTask p Task.start t) s
def execPgenStop (t : Tick) (p : PortId) (s : State) : Out := run t (fun t s => s.portTask p Task.stop t) s
def execPgenRearm (t : Tick) (p : PortId) (s : State) : Out := run t (fun t s => s.portTask p Task.rearm t) s
def execPgenTripIn (t : Tick) (p : PortId) (s : State) : Out := run t (fun t s => s.portTask p Task.trip t) s
def execDacStrike (t : Tick) (p : PortId) (s : State) : Out := run t (fun t s => s.portTask p Task.strike t) s

end Sys2Proof.Machine
end

