-- ==== Sys2Proof/Machine/SequencerCmd.lean ====
section
/-!
DEFINITION. Contexts, sweep lists and the scanner bus (R175-R201).
-/

namespace Sys2Proof.Machine
namespace State

/-- The point instant is reached (R186 step 6). -/
def instantDue (s : State) (p : Nat) (t : Tick) : State :=
  match s.runOf p, s.instantAt p with
  | some q, some tp => if tp ≤ t then (s.pointInstant p q tp).syncPort p else s
  | _, _ => s

/-- t_done is reached; the next selection follows the end of a pass (R186-R188). -/
def doneDue (s : State) (p : Nat) (t : Tick) : State :=
  match s.runOf p, s.doneAt p with
  | some q, some td => if td ≤ t then ((s.pointDone p q td).selectAt p td).syncPort p else s
  | _, _ => s

/-- STALL_AGE of the running point of a port at a millisecond boundary (R193). -/
def stallPort (t : Tick) (p : Nat) (s : State) : State :=
  match s.runOf p with
  | none => s
  | some q =>
    let age := min ((t - q.tps) / 640000) (2 ^ 40 - 1)
    let n := s.rN (Cx.STALL_NOTIFY q.ctx)
    let s := s.set (Cx.STALL_AGE q.ctx) age
    if n ≠ 0 ∧ n ≤ age ∧ q.stalled = false then
      ((s.modPoint p fun q => { q with stalled := true }).setBit (Cx.SEQ_STATUS q.ctx) SeqStatus.STALL_SEEN true).produce 0x1F p t 0
    else s

def stallAll (s : State) (t : Tick) : State := if t % 640000 = 0 then s.forAll 128 (stallPort t) else s

/-- The bus is free: the oldest requested frame drives its select low, with the next frame number of that select (R194-R196). A QUERY keeps
the number of the ROUTE frame that it verifies. -/
def frameStart (s : State) (t : Tick) : State :=
  match s.scan.busy, s.scan.queue with
  | none, f :: r =>
    if s.scan.freeAt ≤ t then
      let n := Tab.get (fun _ => 0) s.scan.seqs f.sel
      let g : SFrame := if f.op = 0xC2 then f else { f with seqn := n }
      let sent := frameWord { f with seqn := n }
      ({ s with scan := { s.scan with queue := r, busy := some (g, t + s.frameTicks), seqs := Tab.set (fun _ => 0) s.scan.seqs f.sel ((n + 1) % 256) } } :
        State).out (.scanFrame f.sel sent 64)
    else s
  | _, _ => s

/-- The select rises (R194). -/
def frameDue (s : State) (miso : Nat) (t : Tick) : State :=
  match s.scan.busy with
  | some (f, e) => if e ≤ t then s.frameEnd f miso e else s
  | none => s

/-- SCN_RETRY after a failed QUERY the ROUTE frame is requested again, while the point runs (R194). -/
def retryDue (s : State) (p : Nat) (t : Tick) : State :=
  match Tab.get (fun _ => none) s.scan.retries p with
  | some (e, f) =>
    if e ≤ t then
      let s : State := { s with scan := { s.scan with retries := Tab.set (fun _ => none) s.scan.retries p none } }
      if s.askedBy f then s.requestFrame { f with op := 0xC1, req := e } else s
    else s
  | none => s

end State

open State

def execRunStateStart (t : Tick) (who : Principal) (c : CtxId) (s : State) : Out := run t (fun t s => runStateWrite who c 1 t s) s
def execRunStateStop (t : Tick) (who : Principal) (c : CtxId) (s : State) : Out := run t (fun t s => runStateWrite who c 2 t s) s
def execRunStateAbort (t : Tick) (who : Principal) (c : CtxId) (s : State) : Out := run t (fun t s => runStateWrite who c 3 t s) s
def execQueueSelection (t : Tick) (p : PortId) (s : State) : Out := run t (fun t s => s.selectAt p t) s
def execSeqHold (t : Tick) (who : Principal) (p : PortId) (v : Nat) (s : State) : Out := run t (fun t s => seqHoldWrite who p v t s) s
def execSeqArm (t : Tick) (p : PortId) (s : State) : Out := run t (fun t s => s.portTask p Task.arm t) s
def execPointInstant (t : Tick) (p : PortId) (s : State) : Out := run t (fun t s => s.instantDue p t) s
def execPointDone (t : Tick) (p : PortId) (s : State) : Out := run t (fun t s => s.doneDue p t) s
def execStallAgeUpdate (t : Tick) (s : State) : Out := run t (fun t s => s.stallAll t) s
def execScanFrameStart (t : Tick) (s : State) : Out := run t (fun t s => s.frameStart t) s
def execScanFrameEnd (t : Tick) (miso : BitVec 64) (s : State) : Out := run t (fun t s => s.frameDue miso.toNat t) s
def execScnRetryExpiry (t : Tick) (p : PortId) (s : State) : Out := run t (fun t s => s.retryDue p t) s
def execScanSettleEnd (t : Tick) (p : PortId) (s : State) : Out := run t (fun t s => s.scanEnds p t) s
def execCommit (t : Tick) (who : Principal) (l : ListId) (s : State) : Out := run t (fun _ s => commitWrite who l 1 s) s

end Sys2Proof.Machine
end

