-- ==== Sys2Proof/Machine/TimebaseCmd.lean ====
section
/-!
DEFINITION. Clocks, time counter and synchronisation (R202-R217).
-/

namespace Sys2Proof.Machine
namespace State

/-- A new segment may begin only on a millisecond boundary (R206). -/
def segmentBoundary (s : State) (t : Tick) : State := if t % 640000 = 0 then s.segmentDue t else s

/-- PPS_OUT rises at the first tick at or after a whole TAI second (R211). -/
def ppsRise (s : State) (t : Tick) : State :=
  let sec := s.timeNs t / 1000000000
  if s.secondAt t && decide (s.tb.ppsOutLast ≠ sec) then
    let s := s.modTb fun b => { b with ppsOutHigh := some t, ppsOutLast := sec }
    (s.out (.pin "PPS_OUT" true)).produce 0x07 0 t 0
  else s

/-- PPS_OUT falls after PPS_OUT_WIDTH (R211). -/
def ppsFall (s : State) (t : Tick) : State :=
  match s.tb.ppsOutHigh with
  | some r => if r + 640 * s.rN Tb.PPS_OUT_WIDTH ≤ t then (s.modTb fun b => { b with ppsOutHigh := none }).out (.pin "PPS_OUT" false) else s
  | none => s

/-- A PTP message is not the client's: another port, transport or domain, or no PTP source (R212). -/
def ptpIgnores (s : State) (port via domain : Nat) : Bool :=
  decide (port ≠ s.rN Tb.PTP_PORT) || decide (via ≠ s.rN Tb.PTP_TRANSPORT) || decide (domain ≠ s.rN Tb.PTP_DOMAIN) || !s.srcPtp

/-- A Sync in PTP_DOMAIN on PTP_PORT by PTP_TRANSPORT: a two-step Sync is discarded; a one-step Sync is timestamped and a Delay_Req is sent (R212). -/
def ptpSyncRx (s : State) (port via : Nat) (twoStep : Bool) (domain origin : Nat) (corr : Int) (t : Tick) : State :=
  if s.ptpIgnores port via domain then s
  else if twoStep then s.satInc Tb.PTP_TWOSTEP_DROP 32 1
  else (s.modTb fun b => { b with ptpSync := some (t, origin, corr) }).out (.ptpDelayReq port via)

/-- The Delay_Resp to that Delay_Req completes the measurement (R209, R212). -/
def ptpDelayRx (s : State) (port via domain recv : Nat) (corr : Int) : State :=
  match s.tb.ptpSync with
  | some (rx, origin, c1) =>
    if s.ptpIgnores port via domain then s
    else (s.modTb fun b => { b with ptpSync := none }).ptpMeasured rx origin c1 recv corr
  | none => s

/-- Two seconds have passed without a measurement: RATE is frozen (R209). -/
def disciplineLost (s : State) (t : Tick) : State :=
  let since := s.tb.lastMeas.getD 0
  if (s.srcPps || s.srcPtp) && decide (since + 2 * Sys2Proof.sec ≤ t) then (s.modTb fun b => { b with rateHold := true }).syncTb else s

/-- A leader's frame carries T and the segment in force (R213). -/
def syncSend (s : State) (t : Tick) : State :=
  if s.tb.role = 1 ∧ t % 2 ^ 20 = 0 then
    let g := s.segNow
    s.out (.syncFrame [t, g.t0, g.n0, g.rate, (s.bit Tb.TB_STATUS TbStatus.TAI_VALID).toNat])
  else s

/-- A follower receives a frame; one with a bad CRC is ignored (R213). -/
def syncReceive (s : State) (T : Tick) (g : Seg) (tai crcOk : Bool) (t : Tick) : State :=
  if s.follows && crcOk then s.syncFrame T g tai t else s

def syncGone (s : State) : State := if s.follows then s.syncLost else s

/-- A follower that has lost the stream finds it again (R214). -/
def syncFound (s : State) (T t : Tick) : State :=
  if s.follows && s.tb.acquired && !s.bit Tb.TB_STATUS TbStatus.SYNC_LOCK then s.syncMarker T t else s

end State

open State

def execPllLockLoss (t : Tick) (s : State) : Out := run t (fun t s => s.pllLost t) s
def execRefclkLost (t : Tick) (s : State) : Out := run t (fun _ s => s.refLost) s
def execRefclkReturn (t : Tick) (s : State) : Out := run t (fun _ s => s.refBack) s
def execTaiSet (t : Tick) (who : Principal) (v : Nat) (s : State) : Out := run t (fun t s => taiSetWrite who v t s) s
def execSegmentBegin (t : Tick) (s : State) : Out := run t (fun t s => s.segmentBoundary t) s
def execPpsIn (t : Tick) (s : State) : Out := run t (fun t s => s.ppsEdge t) s
def execPpsOutRise (t : Tick) (s : State) : Out := run t (fun t s => s.ppsRise t) s
def execPpsOutFall (t : Tick) (s : State) : Out := run t (fun t s => s.ppsFall t) s
def execPtpSync (t : Tick) (port : PtpPath) (twoStep : Bool) (domain origin : Nat) (corr : Int) (s : State) : Out :=
  run t (fun t s => s.ptpSyncRx port.port port.via twoStep domain origin corr t) s
def execPtpDelayResp (t : Tick) (port : PtpPath) (domain recv : Nat) (corr : Int) (s : State) : Out :=
  run t (fun _ s => s.ptpDelayRx port.port port.via domain recv corr) s
def execDisciplineTimeout (t : Tick) (s : State) : Out := run t (fun t s => s.disciplineLost t) s
def execSyncFrameTx (t : Tick) (s : State) : Out := run t (fun t s => s.syncSend t) s
def execSyncFrameRx (t : Tick) (T t0 n0 rate : Nat) (tai crcOk : Bool) (s : State) : Out :=
  run t (fun t s => s.syncReceive T { t0 := t0, n0 := n0, rate := rate } tai crcOk t) s
def execSyncStreamLoss (t : Tick) (s : State) : Out := run t (fun _ s => s.syncGone) s
def execSyncReacquire (t : Tick) (T : Nat) (s : State) : Out := run t (fun t s => s.syncFound T t) s
def execResync (t : Tick) (who : Principal) (v : Nat) (s : State) : Out := run t (fun _ s => resyncWrite who v s) s

end Sys2Proof.Machine
end

