-- ==== Sys2Proof/Machine/FabricCmd.lean ====
section
/-!
DEFINITION. Carillon: trigger pins, counters, delay units, timers, the Gong, and channels (R218-R240).
-/

namespace Sys2Proof.Machine

/-- Mark of an event whose Gong delivery has been counted (R227). -/
def gongCounted : Nat := 2 ^ 25

namespace State

def trigCfg (s : State) (n : Nat) : Nat := s.rN (Ev.TRIG_CFG_0 + n)
def trigDir (s : State) (n : Nat) : Nat := field (s.trigCfg n) 0 2

/-- An edge on a pin that is no output, after INV: the level is kept for TRIG_LEVEL (R238), and an input pin produces its event (R228). -/
def trigEdge (s : State) (n : Nat) (rise : Bool) (t : Tick) : State :=
  if s.trigDir n = 2 then s
  else
    let s := s.modFab fun f => { f with trigIn := Tab.set (fun _ => false) f.trigIn n (rise != bitOf (s.trigCfg n) 3) }
    if s.trigDir n ≠ 1 then s else (s.jEdge 0x500 (if rise then 9 else 10) n t).produce (if rise then 0x01 else 0x02) n t 0

/-- The CLK_FAST edge `t` matches a timer's period and phase (R230). -/
def timerDue (s : State) (k : Nat) (t : Tick) : Bool :=
  let n := s.rN (Tm.TMR_PERIOD k)
  decide (t % 32 = 0) && decide (n ≠ 0) && decide ((t / 32 + n - s.rN (Tm.TMR_PHASE k) % n) % n = 0)

def timerFire (s : State) (k : Nat) (t : Tick) : State := if s.timerDue k t then s.produce 0x04 k t 0 else s

/-! ### Delay units (R230) -/

def dlyRun (s : State) (k : Nat) : Option DlyRun := Tab.get (fun _ => none) s.fab.delays k
def setDly (s : State) (k : Nat) (r : Option DlyRun) : State :=
  (s.modFab fun f => { f with delays := Tab.set (fun _ => none) f.delays k r }).setBit (Dl.DLY_STATUS k) 0 r.isSome

/-- DELAY after an accepted fire. -/
def dlyDone (s : State) (k : Nat) (t : Tick) : State :=
  match s.dlyRun k with
  | some r => if r.due ≤ t then (s.setDly k none).produce 0x06 k r.due r.gen else s
  | none => s

/-- A delivery on FIRE_EVENT: accepted, or dropped as overrun while the unit is busy (R220, R224, R230). -/
def dlyFire (s : State) (k : Nat) (t : Tick) : State :=
  let s := s.dlyDone k t
  let mark := prodCode Task.dly k
  let ch := s.rN (Dl.FIRE_EVENT k)
  let l := s.dueFrom t ch mark
  let s := s.markFrom t ch mark
  if l = [] then s
  else if (s.dlyRun k).isSome then (s.setBit (Dl.DLY_STATUS k) 1 true).flagChannels ChStatus.TARGET_OVR l
  else
    let d := s.rN (Dl.DELAY k)
    if d = 0 then s.produce 0x06 k t (topGen l + 1) else s.setDly k (some { due := t + d, gen := topGen l + 1 })

/-! ### Counters (R229) -/

/-- CLR deliveries of the tick set the count to 0. -/
def ecClear (s : State) (k : Nat) (t : Tick) : State :=
  let mark := prodCode Task.ecClr k
  let ch := s.rN (Ec.CLR_EVENT k)
  let l := s.dueFrom t ch mark
  let s := s.markFrom t ch mark
  if l = [] then s
  else (s.set (Ec.EC_COUNT k) 0).modFab fun f => { f with ecDone := Tab.set (fun _ => false) f.ecDone k false }

/-- The channels bound to EC_INC, each once. -/
def incChannels (s : State) (k : Nat) : List Nat := uniq ((List.range 4).map fun j => s.rN (Ec.INC_EVENT_0 k + j))

/-- `n` counts at `t`, with the highest generation `g` of their deliveries. -/
def ecAdd (s : State) (k n g : Nat) (t : Tick) : State :=
  let old := s.rN (Ec.EC_COUNT k)
  let cmp := s.rN (Ec.EC_COMPARE k)
  if s.rN (Ec.EC_RELOAD k) = 1 then
    let new := old + n
    if cmp ≤ new then (s.set (Ec.EC_COUNT k) (new - cmp)).produce 0x05 k t (g + 1) else s.set (Ec.EC_COUNT k) new
  else
    let new := satAdd 32 old n
    let s := s.set (Ec.EC_COUNT k) new
    if old < cmp ∧ cmp ≤ new ∧ Tab.get (fun _ => false) s.fab.ecDone k = false then
      (s.modFab fun f => { f with ecDone := Tab.set (fun _ => false) f.ecDone k true }).produce 0x05 k t (g + 1)
    else s

/-- The INC deliveries of the tick, after its CLR: each counts in COUNT mode; in EDGE mode they merge into one (R223, R229). -/
def ecInc (s : State) (k : Nat) (t : Tick) : State :=
  let s := s.ecClear k t
  let mark := prodCode Task.ecInc k
  let chs := s.incChannels k
  let l := chs.flatMap fun ch => s.dueFrom t ch mark
  let s := chs.foldl (fun (s : State) ch => s.markFrom t ch mark) s
  if l = [] then s
  else if s.rN (Ec.EC_MODE k) = 0 then s.ecAdd k l.length (topGen l) t
  else
    let s := if 2 ≤ l.length then (s.satInc (Ec.EC_COINCIDE k) 32 1).flagChannels ChStatus.MERGED l else s
    s.ecAdd k 1 (topGen l) t

/-! ### Output pins (R228) -/

/-- A trigger of an output pin: a pulse, or an inversion; dropped as overrun during a pulse (R224, R228). -/
def trigFire (s : State) (n : Nat) (t : Tick) : State :=
  let cfg := s.trigCfg n
  let mark := prodCode Task.trig n
  let ch := field cfg 16 16
  let l := s.dueFrom t ch mark
  let s := s.markFrom t ch mark
  if l = [] ∨ s.trigDir n ≠ 2 then s
  else if bitOf cfg 2 then (s.setTrigOut n (!Tab.get (fun _ => false) s.fab.trigOut n)).trigDrive n
  else if t < Tab.get (fun _ => 0) s.fab.trigBusy n then (s.setBit Ev.TRIG_OVR n true).flagChannels ChStatus.TARGET_OVR l
  else ((s.setTrigOut n true).setTrigBusy n (t + 32 * field cfg 8 8)).trigDrive n

/-- A pulse ends: the pin returns inactive. -/
def trigPulseDone (s : State) (n : Nat) (t : Tick) : State :=
  if s.trigDir n = 2 ∧ bitOf (s.trigCfg n) 2 = false ∧ Tab.get (fun _ => false) s.fab.trigOut n = true ∧ Tab.get (fun _ => 0) s.fab.trigBusy n ≤ t then
    (s.setTrigOut n false).trigDrive n
  else s

/-! ### The Gong (R227) -/

/-- The task that a port's GONG_ACTION names. -/
def gongTask (a : Nat) : Option Nat :=
  match a with
  | 1 => some Task.stop
  | 2 => some Task.trip
  | 3 => some Task.start
  | 4 => some Task.rearm
  | 5 => some Task.strike
  | 6 => some Task.arm
  | _ => none

/-- A port acts on the Gong. -/
def gongPort (t : Tick) (p : Nat) (s : State) : State :=
  match gongTask (s.live p (Pt.GONG_ACTION p)) with | some kind => s.portTask p kind t | none => s

/-- An event of the Gong source reaches all 128 ports. -/
def gongAll (s : State) (t : Tick) : State :=
  let src := s.rN Ev.GONG_SRC
  let l := s.dueFrom t src gongCounted
  if l = [] then s
  else ((s.markFrom t src gongCounted).wrapInc Ev.GONG_COUNT 32 l.length).forAll 128 (gongPort t)

end State

open State

def execTrigRise (t : Tick) (n : PinId) (s : State) : Out := run t (fun t s => s.trigEdge n true t) s
def execTrigFall (t : Tick) (n : PinId) (s : State) : Out := run t (fun t s => s.trigEdge n false t) s
def execFire (t : Tick) (who : Principal) (e : ChanId) (s : State) : Out := run t (fun t s => fireWrite who e 1 t s) s
def execTmr (t : Tick) (k : TimerId) (s : State) : Out := run t (fun t s => s.timerFire k t) s
def execDlyOut (t : Tick) (k : DelayId) (s : State) : Out := run t (fun t s => s.dlyDone k t) s
def execDlyFire (t : Tick) (k : DelayId) (s : State) : Out := run t (fun t s => s.dlyFire k t) s
def execEcInc (t : Tick) (k : CounterId) (s : State) : Out := run t (fun t s => s.ecInc k t) s
def execEcClr (t : Tick) (k : CounterId) (s : State) : Out := run t (fun t s => s.ecClear k t) s
def execTrigOut (t : Tick) (n : PinId) (s : State) : Out := run t (fun t s => s.trigFire n t) s
def execTrigPulseEnd (t : Tick) (n : PinId) (s : State) : Out := run t (fun t s => s.trigPulseDone n t) s
def execGongDelivery (t : Tick) (s : State) : Out := run t (fun t s => s.gongAll t) s
def execChEn (t : Tick) (who : Principal) (e : ChanId) (v : Nat) (s : State) : Out := run t (fun _ s => chEnWrite who e v s) s

end Sys2Proof.Machine
end

