-- ==== Sys2Proof/Machine/SpadCmd.lean ====
section
/-!
DEFINITION. Scratchpad, stream rings and background test (R241-R271).
-/

namespace Sys2Proof.Machine
namespace State

/-- A corrected word is written back (R251). -/
def eccBack (s : State) (a : Nat) : State := if s.banksFree && decide (a ∈ s.mem.fix) then s.modMem fun m => { m with fix := m.fix.erase a, soft := m.soft.erase a } else s

/-- The zero fill of a region is complete (R253). -/
def regionReady (s : State) (r : Nat) : State :=
  if s.banksFree && decide (s.rN (Rg.REGION_STATE r) = 1) then s.set (Rg.REGION_STATE r) 2 else s

/-- The words of a closed block have reached its slot (R263). -/
def blockReady (s : State) (r : Nat) : State := if s.banksFree then s.ringCommit r else s

/-- The wipe ends, and what waited for it is done in the order of its arrival (R257). -/
def wipeDue (s : State) (t : Tick) : State :=
  if s.wiping && decide (s.mem.wipeEnd ≤ t) then
    let s := s.wipeOver
    s.mem.late.foldl (fun s x => s.lateDo x t) (s.modMem fun m => { m with late := [] })
  else s

/-- A step of a borrow is due (R259): `st` is the BT_STATE that it ends. -/
def btDueIn (s : State) (st : Nat) (t : Tick) : Bool := decide (s.rN Fb.BT_STATE = st) && decide (s.mem.btDue ≤ t)

def borrowAt (s : State) (t : Tick) : State := if s.served then s.borrowStart t else s
def copyAt (s : State) (t : Tick) : State := if s.btDueIn 1 t then s.copyEnd else s
def testAt (s : State) (pass : Bool) (t : Tick) : State := if s.btDueIn 2 t then s.testEnd pass t else s
def writebackAt (s : State) (t : Tick) : State := if s.btDueIn 3 t then s.writebackEnd else s

end State

open State

def execFabricAccess (t : Tick) (rs : FabLoad) (s : State) : Out :=
  run t (fun t s => (rs.hits.foldl (fun s h => s.upset h.1 h.2) s).fabAccess rs.reqs t) s
def execEccWriteback (t : Tick) (a : Nat) (s : State) : Out := run t (fun _ s => s.eccBack a) s
def execRegionEn (t : Tick) (who : Principal) (r : RegionId) (v : Nat) (s : State) : Out := run t (fun _ s => regionEnWrite who r v s) s
def execRegionZeroDone (t : Tick) (r : RegionId) (s : State) : Out := run t (fun _ s => s.regionReady r) s
def execRingEn (t : Tick) (who : Principal) (r : RingId) (v : Nat) (s : State) : Out := run t (fun _ s => ringEnWrite who r v s) s
def execRingBlockCommit (t : Tick) (r : RingId) (s : State) : Out := run t (fun _ s => s.blockReady r) s
def execConsHost (t : Tick) (who : Principal) (r : RingId) (v : Nat) (s : State) : Out := run t (fun _ s => consHostWrite who r v s) s
def execSapphireWipeEnd (t : Tick) (s : State) : Out := run t (fun t s => s.wipeDue t) s
def execBtBorrowStart (t : Tick) (s : State) : Out := run t (fun t s => s.borrowAt t) s
def execBtCopyEnd (t : Tick) (s : State) : Out := run t (fun t s => s.copyAt t) s
def execBtTestEnd (t : Tick) (pass : Bool) (s : State) : Out := run t (fun t s => s.testAt pass t) s
def execBtWritebackEnd (t : Tick) (s : State) : Out := run t (fun t s => s.writebackAt t) s
def execBtRequest (t : Tick) (who : Principal) (v : Nat) (s : State) : Out := run t (fun _ s => btRequestWrite who v s) s

end Sys2Proof.Machine
end

