-- ==== Sys2Proof/Machine/MonitorCmd.lean ====
section
/-!
DEFINITION. Monitor converter and supervision (R272-R287).
-/

namespace Sys2Proof.Machine
namespace State

/-- A supervised input falls due: a scheduled request, and its next due tick (R275, R279). Read-backs fall due by the port's
READBACK_INTERVAL, and the self-check through ZERO. -/
def supervise (s : State) (i : Nat) (alt : Bool) (t : Tick) : State :=
  let key := mcKey i alt
  let due := Tab.get (fun _ => 0) s.mc.next key
  let gap := s.mcInterval i alt
  if !s.served || !s.supvOn || decide (1023 ≤ i) || (alt && !mcHasAlt i) || decide (mcClass i alt = 1) || decide (t < due) || !s.mcActive i alt then s
  else
    let d := if due + gap ≤ t then t else due
    (s.modMc fun m => { m with next := Tab.set (fun _ => 0) m.next key (d + gap) }).mcSchedule { input := i, alt := alt, cls := mcClass i alt, due := d } t

/-- The start-up of a cycle ends: its input is sampled (R274). -/
def sampleDue (s : State) (t : Tick) : State :=
  match s.mc.cyc.phase, s.mc.cyc.req with
  | 1, some q => if s.mc.cyc.due ≤ t then s.mcSample q else s
  | _, _ => s

/-- The code of a result outside the range of its node is the extreme one (R274). -/
def mcCode (code : Int) (ovf : Bool) : Int := if !ovf then code else if code < 0 then -32768 else 32767

/-- The conversion is complete (R274, R277, R279). -/
def conversionDue (s : State) (code : Int) (ovf : Bool) (t : Tick) : State :=
  match s.mc.cyc.phase, s.mc.cyc.req with
  | 2, some q => if s.mc.cyc.due ≤ t then s.mcDone s.mc.cyc q (mcCode code ovf) ovf s.mc.cyc.due else s
  | _, _ => s

/-- The over-range pause ends (R274). -/
def pauseDue (s : State) (t : Tick) : State :=
  if s.mc.cyc.phase = 3 ∧ s.mc.cyc.due ≤ t then (s.modMc fun m => { m with cyc := {} }).mcKick s.mc.cyc.due else s

end State

open State

def execSupervisionDue (t : Tick) (i : McInput) (alt : Bool) (s : State) : Out := run t (fun t s => s.supervise i alt t) s
def execMcReq (t : Tick) (who : Principal) (v : Nat) (s : State) : Out := run t (fun t s => mcReqWrite who v t s) s
def execMcSamplingInstant (t : Tick) (s : State) : Out := run t (fun t s => s.sampleDue t) s
def execMcConversionDone (t : Tick) (code : BitVec 16) (ovf : Bool) (s : State) : Out := run t (fun t s => s.conversionDue code.toInt ovf t) s
def execMcPauseEnd (t : Tick) (s : State) : Out := run t (fun t s => s.pauseDue t) s
def execMcQueueSpace (t : Tick) (r : Fin 3) (s : State) : Out := run t (fun t s => (s.mcRead r).mcKick t) s

end Sys2Proof.Machine
end

