-- ==== Sys2Proof/Machine/CalCmd.lean ====
section
/-!
DEFINITION. Calibration and the reference chain (R288-R317).
-/

namespace Sys2Proof.Machine
namespace State

/-- REF_XFER_INTERVAL has elapsed (R290). -/
def xferInterval (s : State) (t : Tick) : State :=
  let n := s.rN Ca.REF_XFER_INTERVAL
  if s.served && decide (n ≠ 0) && decide (s.cal.lastXfer + n * Sys2Proof.sec ≤ t) then
    State.xferRequest { s with cal := { s.cal with lastXfer := t } } t
  else s

/-- CAL_RETRY_INTERVAL has elapsed: deferred or aborted transfer work is tried again, unless REFX_VALUE was set to 0 meanwhile (R291, R313). -/
def calRetry (s : State) (t : Tick) : State :=
  match s.cal.retryAt with
  | some r =>
    if r ≤ t then
      let s : State := { s with cal := { s.cal with retryAt := none } }
      if s.cal.cellWant.isNone && decide (s.rQ Ca.REFX_VALUE = 0) then s.refxGone else s.xferTry t
    else s
  | none => s

/-- A timed step of a reference transfer ends (R292). -/
def xferDueStep (s : State) (d : XferData) (t : Tick) : State :=
  match s.cal.xfer with
  | some x => if x.step ≤ 3 ∧ x.due ≤ t then s.xferStep d else s
  | none => s

/-- A timed step of a slice run ends (R298). -/
def runDueStep (s : State) (g : Nat) (d : CalData) (t : Tick) : State :=
  match (s.rot g).run with
  | some r => if r.step ≤ 7 ∧ r.due ≤ t then s.runStep g d else s
  | none => s

/-- The group temperature has moved by more than DT_CAL_EFF, or ROT_INTERVAL has elapsed (R308). -/
def rotTriggered (s : State) (g : Nat) (t : Tick) : Bool :=
  let n := s.rN (Gr.ROT_INTERVAL g)
  decide (s.rQ (Gr.DT_CAL_EFF g) < absR (s.rQ (Gr.GROUP_TEMP g) - s.rQ (Gr.CAL_LAST_TEMP g))) ||
    (decide (n ≠ 0) && decide (s.rN (Gr.ROT_LAST_START g) + n * 1000000000 ≤ s.timeNs t))

def rotCondition (s : State) (g : Nat) (t : Tick) : State := if s.full && s.rotTriggered g t then s.rotTrigger g t else s

/-- ROT_MIN_GAP has elapsed and a rotation waits (R309). -/
def gapOver (s : State) (g : Nat) (t : Tick) : State :=
  if s.bit (Gr.ROT_STATUS g) RotStatus.ROT_PENDING && !s.inGap g t then (s.rotBit g RotStatus.GAP_HOLD false).rotKick g t else s

/-- A timed sub-step of the rotation of `g` is due in step `a` or `b` of R302. -/
def rotTimed (s : State) (g a b : Nat) (t : Tick) : Bool :=
  let r := s.rot g
  decide (r.st = 2) && decide (s.rN (Gr.WIN_STATE g) = 0) && (decide (r.step = a) || decide (r.step = b)) && !r.wait && decide (r.due ≤ t)

/-- The slice in SHADOW has stood for 100 ns and its longest t_EN: the agreement span begins (R302, R303). -/
def shadowDue (s : State) (g : Nat) (t : Tick) : State :=
  if s.rotTimed g 1 5 t then ((s.modRot g fun r => { r with step := r.step + 1 }).agreeSpan g (s.rot g).due).syncRot g else s

/-- The agreement span ends. A trip that only the slice in SHADOW saw fails the test; its latch is then re-armed, unless a comparator of it is still
outside its window (R163). -/
def agreeDue (s : State) (g : Nat) (dV dI : Int) (trip : Bool) (t : Tick) : State :=
  if s.rotTimed g 2 6 t then ((s.when trip fun s => s.shadowSaw g t).agreeEnd g dV dI).shadowRearm (s.rot g).port (s.incoming g) t else s

/-- A force transfer of `g` is in its overlap, its sub-steps up to `n` are done, and `d` ticks from its start have passed (R304). -/
def transferAt (s : State) (g n d : Nat) (t : Tick) : Bool :=
  let r := s.rot g
  (s.gx g).overlap.isSome && decide (r.done = n) && decide (r.tx + d ≤ t)

/-- SWAP: the force-sense lines pass to the incoming slice (R304). -/
def swapDue (s : State) (g : Nat) (t : Tick) : State :=
  if s.transferAt g 0 640 t then s.modRot g fun r => { r with done := 1 } else s

/-- RELEASE: the outgoing slice disconnects and enters CAL (R304). -/
def releaseDue (s : State) (g : Nat) (t : Tick) : State :=
  if s.transferAt g 1 1280 t then (s.setRole (s.outgoing g) 2 0xFF).modRot g fun r => { r with done := 2 } else s

/-- The overlap ends (R304). -/
def overlapDue (s : State) (g : Nat) (t : Tick) : State :=
  if s.transferAt g 2 1344 t then s.transferOver g ((s.rot g).tx + 1344) else s

end State

open State

def execRefXferReq (t : Tick) (who : Principal) (v : Nat) (s : State) : Out := run t (fun t s => refXferWrite who v t s) s
def execRefXferIntervalExpiry (t : Tick) (s : State) : Out := run t (fun t s => s.xferInterval t) s
def execCalRetryExpiry (t : Tick) (s : State) : Out := run t (fun t s => s.calRetry t) s
def execXferStepEnd (t : Tick) (d : XferData) (s : State) : Out := run t (fun t s => s.xferDueStep d t) s
def execCalRunStepEnd (t : Tick) (g : GroupId) (d : CalData) (s : State) : Out := run t (fun t s => s.runDueStep g d t) s
def execRecordCommitDone (t : Tick) (ok : Bool) (s : State) : Out := run t (fun t s => s.commitEnd ok t) s
def execRotTrigger (t : Tick) (g : GroupId) (s : State) : Out := run t (fun t s => s.rotCondition g t) s
def execRotRequest (t : Tick) (who : Principal) (g : GroupId) (v : Nat) (s : State) : Out := run t (fun t s => rotRequestWrite who g v t s) s
def execRotMinGapEnd (t : Tick) (g : GroupId) (s : State) : Out := run t (fun t s => s.gapOver g t) s
def execRotShadowEnd (t : Tick) (g : GroupId) (s : State) : Out := run t (fun t s => s.shadowDue g t) s
def execAgreeTestEnd (t : Tick) (g : GroupId) (dV dI : Int) (trip : Bool) (s : State) : Out := run t (fun t s => s.agreeDue g dV dI trip t) s
def execTransferSwap (t : Tick) (g : GroupId) (s : State) : Out := run t (fun t s => s.swapDue g t) s
def execTransferRelease (t : Tick) (g : GroupId) (s : State) : Out := run t (fun t s => s.releaseDue g t) s
def execTransferEnd (t : Tick) (g : GroupId) (s : State) : Out := run t (fun t s => s.overlapDue g t) s

end Sys2Proof.Machine
end

