-- ==== Sys2Proof/Machine/AgeCmd.lean ====
section
/-!
DEFINITION. Ageing, margins and in-service repair (R318-R338).
-/

namespace Sys2Proof.Machine
namespace State

/-- A second has passed since stress was last accrued (R319, R320). -/
def stressDue (s : State) (t : Tick) : State :=
  if s.served && decide (s.age.stressAt + Sys2Proof.sec ≤ t) then
    let s := (List.range 144).foldl stressSlice s
    ({ s with age := { s.age with stressAt := s.age.stressAt + Sys2Proof.sec } } : State).lifeUsed
  else s

/-- The measurement of a slice's ring oscillator: RO_DRIFT is the rise in delay since baseline, in percent (R318). -/
def ringOsc (s : State) (i ro : Nat) : State :=
  let h := (s.sx i).health
  let s := s.modSx i fun x => { x with health := { x.health with ro := ro } }
  if h.hasBase && decide (h.baseRo ≠ 0) then s.setQ (Sl.RO_DRIFT i) (mkRat (((ro : Int) - h.baseRo) * 100) h.baseRo) else s

/-- EVAL_INTERVAL has elapsed: every slice is evaluated, and the plans of the groups follow (R323-R325). `ro`: the ring-oscillator delays. -/
def healthDue (s : State) (ro : List Nat) (t : Tick) : State :=
  if s.served && decide (s.age.evalAt + s.rN Ag.EVAL_INTERVAL * Sys2Proof.sec ≤ t) then
    let s := (List.range 144).foldl (fun (s : State) i => if s.roleOf i = 4 then s else (match ro[i]? with | some r => s.ringOsc i r | none => s).evaluate i) s
    let s := (List.range 16).foldl (fun (s : State) g => s.groupPlan g) s
    { s with age := { s.age with evalAt := t } }
  else s

/-- 24 hours have passed without another commit of a slice record (R321). -/
def healthCommit (s : State) (i : Nat) (t : Tick) : State :=
  if s.served && decide ((s.sx i).lastCommit + 86400 * Sys2Proof.sec ≤ t) && !s.committing (.health i) then s.requestCommit i (.health i) else s

/-- WIN_NOTICE of an announced window has elapsed (R327). -/
def noticeDue (s : State) (g : Nat) (t : Tick) : State :=
  let r := s.rot g
  if s.rN (Gr.WIN_STATE g) = 1 ∧ r.winDue ≤ t then
    let s := s.set (Gr.WIN_STATE g) 2
    if s.live r.port (Pt.WIN_POLICY r.port) = 0 then s.winAlign g r.winDue else s
  else s

/-- A spare cell has warmed for 600 s, and a relief slice in CAL reads the ratios (R330). -/
def voteDue (s : State) (d0 d1 : Int) (t : Tick) : State :=
  match s.age.vote with
  | some (_, e) => if e ≤ t ∧ s.voteReady = true then s.voteEnd d0 d1 t else s
  | none => s

/-- A core has failed (R331). Where it serves the object dictionary and a spare takes its role, the accesses in flight end. -/
def coreLost (s : State) (c : Nat) (t : Tick) : State :=
  if s.served then
    (s.coreFailed c t).when (decide (0 ∈ s.rolesOf c) && decide (c ∉ s.age.deadCores) && s.coreSpare) heldAbort
  else s

/-- CP_5 has loaded a failed core's role (R331). -/
def takeoverDone (s : State) (t : Tick) : State := match s.age.takeover with | some (r, _) => s.coreTaken r t | none => s

end State

open State

def execStressAccrue (t : Tick) (s : State) : Out := run t (fun t s => s.stressDue t) s
def execHealthEval (t : Tick) (ro : List Nat) (s : State) : Out := run t (fun t s => s.healthDue ro t) s
def execHealthCommitDue (t : Tick) (i : SliceId) (s : State) : Out := run t (fun t s => s.healthCommit i t) s
def execWornReq (t : Tick) (who : Principal) (i : SliceId) (v : Nat) (s : State) : Out := run t (fun _ s => wornReqWrite who i v s) s
def execWinNoticeEnd (t : Tick) (g : GroupId) (s : State) : Out := run t (fun t s => s.noticeDue g t) s
def execGo (t : Tick) (who : Principal) (p : PortId) (s : State) : Out := run t (fun t s => winCtrl who p 1 t s) s
def execWinAbort (t : Tick) (who : Principal) (p : PortId) (s : State) : Out := run t (fun t s => winCtrl who p 2 t s) s
def execVoteWarmupEnd (t : Tick) (d0 d1 : Int) (s : State) : Out := run t (fun t s => s.voteDue d0 d1 t) s
def execHeartbeatMiss (t : Tick) (c : Fin 6) (s : State) : Out := run t (fun t s => s.coreLost c t) s
def execCoreFault (t : Tick) (c : Fin 6) (s : State) : Out := run t (fun t s => s.coreLost c t) s
def execCoreTakeoverDone (t : Tick) (s : State) : Out := run t (fun t s => s.takeoverDone t) s

end Sys2Proof.Machine
end

