-- ==== Sys2Proof/Machine/PcieCmd.lean ====
section
/-!
DEFINITION. The host's accesses over PCIe, the mailbox, DMA, notification queues and vectors (R254, R266, R267, R376, R377,
R381-R396).
-/

namespace Sys2Proof.Machine
namespace State

/-- A function-level reset (R376): that of PF0 takes every VF with it. -/
def fnFlr (s : State) (f : Nat) (t : Tick) : State :=
  if f = 0 then (s.vfOff t).fnReset 0 t else if s.fnLive f then s.fnReset f t else s

/-- A function enters D3hot. -/
def fnDown (s : State) (f : Nat) (t : Tick) : State := if s.fnLive f && !(s.fnx f).d3 then s.fnSleep f t else s

/-- A function returns to D0. -/
def fnWake (s : State) (f : Nat) : State := if s.fnLive f then s.modFn f fun x => { x with d3 := false } else s

/-- Link training completes (R374, R394): `speed` is what the partner offers, and TARGET_SPEED limits it. -/
def linkUp (s : State) (speed width : Nat) : State :=
  if decide (s.pwr.boot ≠ 0) && decide (width ∈ [1, 2, 4, 8, 16]) then
    (s.set Pe.LINK_SPEED (min (speed + 1) (s.rN Pe.TARGET_SPEED))).set Pe.LINK_WIDTH width
  else s

/-- VF Enable is written with NumVFs `n` while the link is up (R377): the VFs of a smaller earlier number are reset. -/
def vfSet (s : State) (n : Nat) (t : Tick) : State :=
  if s.rN Pe.LINK_SPEED = 0 then s
  else if n = 0 then s.vfOff t
  else ((if s.rN Pe.NUM_VF = 0 then s else s.vfOff t)).set Pe.NUM_VF n

end State

open State

def execWinLoRead (t : Tick) (f : FnId) (spad : Bool) (off : Nat) (k : RdKind) (s : State) : Out := run t (fun _ s => winRead f spad off k s) s
def execWinLoWrite (t : Tick) (f : FnId) (spad : Bool) (off : Nat) (v : BitVec 32) (s : State) : Out :=
  run t (fun t s => winLoWriteReq f spad off v.toNat t s) s
def execWinHiWrite (t : Tick) (f : FnId) (spad : Bool) (off : Nat) (v : BitVec 32) (s : State) : Out :=
  run t (fun t s => winHiWriteReq f spad off v.toNat t s) s
def execWinSpadWrite (t : Tick) (f : FnId) (a : Nat) (v : W64) (s : State) : Out :=
  run t (fun _ s => s.hostRun f false fun s => s.spadPosted f a v.toNat) s
def execDirectWrite (t : Tick) (f : FnId) (off : Nat) (k : WrKind) (v : W64) (s : State) : Out :=
  run t (fun t s => directWriteReq f off k v.toNat t s) s
def execFetchadd (t : Tick) (f : FnId) (spad : Bool) (off : Nat) (x : W64) (s : State) : Out :=
  run t (fun _ s => atomicReq f spad off false x.toNat s) s
def execSwap (t : Tick) (f : FnId) (spad : Bool) (off : Nat) (x : W64) (s : State) : Out :=
  run t (fun _ s => atomicReq f spad off true x.toNat s) s

def execPcieReset (t : Tick) (s : State) : Out := run t (fun t s => s.pcieDown t) s
def execFlr (t : Tick) (f : FnId) (s : State) : Out := run t (fun t s => s.fnFlr f t) s
def execD3hot (t : Tick) (f : FnId) (s : State) : Out := run t (fun t s => s.fnDown f t) s
def execD0Entry (t : Tick) (f : FnId) (s : State) : Out := run t (fun _ s => s.fnWake f) s
def execPcieLinkUp (t : Tick) (speed : Fin 4) (width : Nat) (s : State) : Out := run t (fun _ s => s.linkUp speed width) s
def execVfEnable (t : Tick) (n : Fin 17) (s : State) : Out := run t (fun t s => s.vfSet n t) s

def execMbRead (t : Tick) (f : FnId) (id : Nat) (body : List Byte) (s : State) : Out := run t (fun t s => mbSubmit f id Cop.read body none t s) s
def execMbWrite (t : Tick) (f : FnId) (id : Nat) (body : List Byte) (s : State) : Out := run t (fun t s => mbSubmit f id Cop.write body none t s) s
def execMbReadBlock (t : Tick) (f : FnId) (id : Nat) (body : List Byte) (s : State) : Out :=
  run t (fun t s => mbSubmit f id Cop.readBlock body none t s) s
def execMbWriteBlock (t : Tick) (f : FnId) (id : Nat) (body : List Byte) (s : State) : Out :=
  run t (fun t s => mbSubmit f id Cop.writeBlock body none t s) s
def execMbAbort (t : Tick) (f : FnId) (id : Nat) (body : List Byte) (s : State) : Out := run t (fun t s => mbSubmit f id Cop.abort body none t s) s
def execSpadCopy (t : Tick) (f : FnId) (id : Nat) (body : List Byte) (host : Option (List Byte)) (s : State) : Out :=
  run t (fun t s => mbSubmit f id 9 body host t s) s
def execMbResponse (t : Tick) (f : FnId) (s : State) : Out := run t (fun t s => mbRespond f t s) s

def execDmaEn (t : Tick) (who : Principal) (r : RingId) (v : Nat) (s : State) : Out := run t (fun t s => dmaEnWrite who r v t s) s
def execDescTail (t : Tick) (who : Principal) (r : RingId) (v : Nat) (s : State) : Out := run t (fun _ s => descTailWrite who r v s) s
def execDmaBlockTransfer (t : Tick) (r : RingId) (d : Desc) (s : State) : Out := run t (fun t s => dmaNext r d t s) s
def execDmaBlockAcked (t : Tick) (r : RingId) (s : State) : Out := run t (fun _ s => dmaAcked r s) s
def execDmaFlushExpiry (t : Tick) (r : RingId) (s : State) : Out := run t (fun t s => dmaFlush r t s) s
def execDescFetchError (t : Tick) (r : RingId) (s : State) : Out := run t (fun t s => descFail r t s) s
def execNqEntryWrite (t : Tick) (f : FnId) (s : State) : Out := run t (fun t s => nqWrite f t s) s
def execIrqHoldoffEnd (t : Tick) (f : FnId) (vec : Nat) (s : State) : Out := run t (fun t s => holdoffEnd f vec t s) s
def execVectorUnmask (t : Tick) (f : FnId) (vec : Nat) (s : State) : Out := run t (fun t s => unmask f vec t s) s

end Sys2Proof.Machine
end

