-- ==== Sys2Proof/Machine/FieldCmd.lean ====
section
/-!
DEFINITION. The field ports: frames at the bridge, CAN FD segments, COP messages and sessions, and the legacy port (R356-R373).
-/

namespace Sys2Proof.Machine
namespace State

/-- Auto-negotiation ends or the link is lost (R358). -/
def linkAt (s : State) (port : Nat) (up : Bool) : State := if s.pwr.boot ≠ 0 then s.linkChange port up else s

/-- No segment has arrived for 100 ms (R360). -/
def canQuiet (s : State) (t : Tick) : State :=
  match s.net.can with
  | some x => if x.since + 100 * ms ≤ t then s.canDrop else s
  | none => s

/-- The controller enters bus-off, or has recovered from it (R359). -/
def busOff (s : State) (recovered : Bool) : State :=
  if !s.bit Cn.CAN_EN 0 then s
  else if recovered then (if s.rN Cn.CAN_STATE = 2 then s.set Cn.CAN_STATE 0 else s)
  else if s.rN Cn.CAN_STATE = 2 then s
  else (s.set Cn.CAN_STATE 2).satInc Cn.CAN_BUSOFF 32 1

/-- No segment of a block transfer has come for 10 s (R363). -/
def blockStale (b : Option BlockXfer) (t : Tick) : Bool := match b with | some x => decide (x.since + 10 * Sys2Proof.sec ≤ t) | none => false

/-- The transfer of a mailbox, or of a session, is abandoned. -/
def blockQuiet (s : State) (mb : Bool) (n : Nat) (t : Tick) : State :=
  if mb then (if blockStale (s.fnx n).mb.block t then s.modMb n fun m => { m with block := none } else s)
  else
    match s.session n with
    | some x => if blockStale x.block t then s.setBlock n none else s
    | none => s

/-- SESSION_TIMEOUT has passed without an authenticated message (R367). -/
def sessQuiet (s : State) (k : Nat) (t : Tick) : State :=
  match s.session k with
  | some x => if x.lastMsg + s.rN (Ss.SESSION_TIMEOUT k) * Sys2Proof.sec ≤ t then s.sessClose k else s
  | none => s

/-- NOTIFY_HOLDOFF has passed since gathering began (R369). -/
def notifyDue (s : State) (k : Nat) (t : Tick) : State :=
  match s.session k with
  | some x => if x.items ≠ [] ∧ x.itemAt + s.rN (Ss.NOTIFY_HOLDOFF k) * ms ≤ t then s.notifySend k t else s
  | none => s

/-- A legacy frame whose FUNC the row carries; a FUNC that is no WRITE is taken by the READ row. -/
def legRow (wr : Bool) (frame : List Byte) (t : Tick) (s : State) : State :=
  if decide (legFunc frame = 2) = wr then s.legRx frame t else s

end State

open State

def execEthFrameRx (t : Tick) (port : Fin 2) (f : EthFrame) (s : State) : Out := run t (fun t s => s.ethRx port f t) s
def execBridgeBufferedSend (t : Tick) (port : Fin 2) (s : State) : Out := run t (fun t s => s.bridgeSend port t) s
def execT1lLinkChange (t : Tick) (port : Fin 2) (up : Bool) (s : State) : Out := run t (fun _ s => s.linkAt port up) s
def execCanSegmentRx (t : Tick) (id : Nat) (data : List Byte) (s : State) : Out := run t (fun t s => s.canRx id data t) s
def execCanSegmentTimeout (t : Tick) (s : State) : Out := run t (fun t s => s.canQuiet t) s
def execCanBusoff (t : Tick) (recovered : Bool) (s : State) : Out := run t (fun _ s => s.busOff recovered) s

def execSessionOpen (t : Tick) (peer : Peer) (msg : List Byte) (s : State) : Out := run t (fun t s => copRow Cop.open_ peer msg t s) s
def execCopRead (t : Tick) (peer : Peer) (msg : List Byte) (s : State) : Out := run t (fun t s => copRow Cop.read peer msg t s) s
def execCopWrite (t : Tick) (peer : Peer) (msg : List Byte) (s : State) : Out := run t (fun t s => copRow Cop.write peer msg t s) s
def execCopReadBlock (t : Tick) (peer : Peer) (msg : List Byte) (s : State) : Out := run t (fun t s => copRow Cop.readBlock peer msg t s) s
def execCopWriteBlock (t : Tick) (peer : Peer) (msg : List Byte) (s : State) : Out := run t (fun t s => copRow Cop.writeBlock peer msg t s) s
def execSubscribe (t : Tick) (peer : Peer) (msg : List Byte) (s : State) : Out := run t (fun t s => copRow Cop.subscribe peer msg t s) s
def execCopAbort (t : Tick) (peer : Peer) (msg : List Byte) (s : State) : Out := run t (fun t s => copRow Cop.abort peer msg t s) s

def execBlockTransferTimeout (t : Tick) (mb : Bool) (n : FnId) (s : State) : Out := run t (fun t s => s.blockQuiet mb n t) s
def execSessionTimeout (t : Tick) (k : SessionId) (s : State) : Out := run t (fun t s => s.sessQuiet k t) s
def execClose (t : Tick) (who : Principal) (k : SessionId) (v : Nat) (s : State) : Out := run t (fun _ s => closeWrite who k v s) s
def execSubscriptionRead (t : Tick) (k : SessionId) (num : Nat) (s : State) : Out := run t (fun t s => s.subRead k num t) s
def execNotify (t : Tick) (k : SessionId) (s : State) : Out := run t (fun t s => s.notifyDue k t) s

def execLegRead (t : Tick) (frame : List Byte) (s : State) : Out := run t (fun t s => legRow false frame t s) s
def execLegWrite (t : Tick) (frame : List Byte) (s : State) : Out := run t (fun t s => legRow true frame t s) s

end Sys2Proof.Machine
end

