-- ==== Sys2Proof/Machine/OdService.lean ====
section
/-!
DEFINITION. The OD service (R13, R345, R352): held commands, writes of entries without a row of their own, and CFG_SAVE.
-/

namespace Sys2Proof.Machine
open State

def execHeldCommandEnqueue (t : Tick) (g : GroupId) (s : State) : Out := run t (fun _ s => s.heldEnter g) s
def execOdWrite (t : Tick) (who : Principal) (key : Nat) (data : List Byte) (s : State) : Out := run t (fun t s => odWrite who key data t s) s
def execCfgSave (t : Tick) (who : Principal) (v : Nat) (s : State) : Out := run t (fun _ s => cfgSaveWrite who v s) s

end Sys2Proof.Machine
end

