-- ==== Sys2Proof/Machine/PortCmd.lean ====
section
/-!
DEFINITION. Port commands: enable, disable, spans, ramps, clears, faults and read-back (R45, R55, R58-R75, R430, R431).
-/

namespace Sys2Proof.Machine
namespace State

/-- The track-and-hold of enable step 1 ends (R64). -/
def enableHoldEnd (s : State) (p : Nat) (t : Tick) : State :=
  match (s.px p).seqn with
  | .enSpanHold due => if due ≤ t then ((s.spanSwitch p due).enableStep2 p due).syncPort p else s
  | _ => s

/-- Enable step 3 ends: the gate permission takes effect, the loop starts, and the ramp to its first output begins (R64). After a clear
the core does not follow the ramp, whose end is still that of a ramp from SAFE_VALUE. -/
def gatePermitAt (s : State) (p : Nat) (t : Tick) : State :=
  match (s.px p).seqn with
  | .enGate due =>
    if due ≤ t then
      let s := s.modPx p fun x => { x with seqn := .enRamp, pgen := { x.pgen with permit := true } }
      let s := (s.coldStart p).syncPort p
      if (s.px p).force.clearCore.isSome then s.rampFrom p .enable (s.safeCode p (s.rN (Pt.SPAN_ACTIVE p))) (s.nextCode p) due
      else s.rampStart p .enable (s.nextCode p) due
    else s
  | _ => s

/-- DISCHARGE_TIME expires (R431). -/
def dischargeDue (s : State) (p : Nat) (t : Tick) : State :=
  match (s.px p).seqn with
  | .discharge due => if due ≤ t then s.dischargeEnd p due else s
  | _ => s

/-- The track-and-hold of a span change ends, on a port that is enabled or OFF (R60). -/
def spanHoldDue (s : State) (p : Nat) (t : Tick) : State :=
  match (s.px p).seqn with
  | .offSpan due =>
    if due ≤ t then
      let s := (s.modPx p fun x => { x with seqn := .idle }).spanSwitch p due
      ((s.setFld (Pt.FORCE_STATUS p) ForceStatus.SPAN_STEP 2 0).syncPort p).offSpan p due
    else s
  | _ => if s.spanStep p = 2 ∧ (s.px p).force.holdEnd ≤ t then s.spanRelease p (s.px p).force.holdEnd else s

/-- CLR_N falls: every port whose output stage is on takes its clear code (R65). -/
def clrFall (s : State) (t : Tick) : State :=
  if s.pwr.clrLow then s
  else ((s.modPwr fun p => { p with clrLow := true }).jEdge 0x500 7 0 t).forAll 128 fun p s => s.clearPort p t

/-- CLR_N rises (R66, R67). -/
def clrRise (s : State) (t : Tick) : State :=
  if s.pwr.clrLow then ((s.modPwr fun p => { p with clrLow := false }).jEdge 0x500 8 0 t).forAll 128 fun p s => s.clearEnds p t else s

/-- An accepted FLT_IN fault (R45): from reset on the PGEN reads the pin (R49). In a GATED group only the level is recorded. -/
def fltRise (s : State) (p : Nat) (t : Tick) : State :=
  if (s.px p).flt then s
  else ((s.modPx p fun x => { x with flt := true }).jEdge p 5 0 t).fltActs p t

def fltFall (s : State) (p : Nat) (t : Tick) : State :=
  if (s.px p).flt then ((s.modPx p fun x => { x with flt := false }).jEdge p 6 0 t).clearEnds p t else s

/-- READBACK_INTERVAL expires (R69): the read-back of the port's slices is requested, or waits for the end of the blanking. With 0 the
port is not read back (R72). -/
def readbackExpiry (s : State) (p : Nat) (t : Tick) : State :=
  if s.served ∧ s.live p (Pt.READBACK_INTERVAL p) ≠ 0 ∧ (s.px p).force.rbDue ≤ t then
    let s := s.modForce p fun f => { f with rbDue := t + s.live p (Pt.READBACK_INTERVAL p) * us }
    s.rbRequest p t
  else s

/-- A read-back that fell due while its slice was blanked is made at the end of the interval, an urgent one as such (R69, R75). -/
def readbackDeferred (s : State) (p : Nat) (t : Tick) : State :=
  if s.rbBlocked p t then s
  else
    let f := (s.px p).force
    let s := s.modForce p fun f => { f with rbDeferred := false, rbUrgent := false }
    let s := if f.rbUrgent then s.readbackNow p t else s
    if f.rbDeferred ∧ s.live p (Pt.READBACK_INTERVAL p) ≠ 0 then s.rbRequest p t else s

/-- A CLK_FAST edge that UPD_PERIOD and UPD_PHASE select (R55). -/
def timerEdge (s : State) (p : Nat) (t : Tick) : Bool :=
  let n := s.live p (Pt.UPD_PERIOD p)
  decide (t % 32 = 0) && decide (n ≠ 0) && decide ((t / 32 + n - s.live p (Pt.UPD_PHASE p) % n) % n = 0) &&
    (decide (s.live p (Pt.UPD_SRC p) ≠ 1) || (s.px p).force.fallback)

def timerStrikeAt (s : State) (p : Nat) (t : Tick) : State := if s.timerEdge p t then s.strike p t else s

end State

open State

def execEnable (t : Tick) (who : Principal) (p : PortId) (s : State) : Out := run t (fun t s => portCtrl who p 1 t s) s
def execEnableSpanHoldEnd (t : Tick) (p : PortId) (s : State) : Out := run t (fun t s => s.enableHoldEnd p t) s
def execGatePermit (t : Tick) (p : PortId) (s : State) : Out := run t (fun t s => s.gatePermitAt p t) s
def execDisable (t : Tick) (who : Principal) (p : PortId) (s : State) : Out := run t (fun t s => portCtrl who p 2 t s) s
def execDischargeEnd (t : Tick) (p : PortId) (s : State) : Out := run t (fun t s => s.dischargeDue p t) s
def execRampDone (t : Tick) (p : PortId) (s : State) : Out := run t (fun t s => s.rampFinish p t) s
def execSpan (t : Tick) (who : Principal) (p : PortId) (v : Nat) (s : State) : Out := run t (fun t s => spanWrite who p v t s) s
def execSpanHoldEnd (t : Tick) (p : PortId) (s : State) : Out := run t (fun t s => s.spanHoldDue p t) s
def execClrNFall (t : Tick) (s : State) : Out := run t (fun t s => s.clrFall t) s
def execClrNRise (t : Tick) (s : State) : Out := run t (fun t s => s.clrRise t) s
def execFltInRise (t : Tick) (p : PortId) (s : State) : Out := run t (fun t s => s.fltRise p t) s
def execFltInFall (t : Tick) (p : PortId) (s : State) : Out := run t (fun t s => s.fltFall p t) s
def execClearRelease (t : Tick) (who : Principal) (p : PortId) (s : State) : Out := run t (fun t s => forceCtrl who p 1 t s) s
def execReadbackNow (t : Tick) (who : Principal) (p : PortId) (s : State) : Out := run t (fun t s => forceCtrl who p 2 t s) s
def execReadbackDue (t : Tick) (p : PortId) (s : State) : Out := run t (fun t s => s.readbackExpiry p t) s
def execDeferredReadback (t : Tick) (p : PortId) (s : State) : Out := run t (fun t s => s.readbackDeferred p t) s
def execTimerStrike (t : Tick) (p : PortId) (s : State) : Out := run t (fun t s => s.timerStrikeAt p t) s

end Sys2Proof.Machine
end

