-- ==== Sys2Proof/Machine/Replay.lean ====
section
/-!
DEFINITION. The replay engine (R408-R412): reading chunks, the sandbox that re-runs the digital pipelines of the ports from the journal, the
comparison of what it makes with what the device recorded, and the session. The sandbox is worked on as a state of its own (`Sandbox.state`): the
units in it are those of the block, and nothing of it reaches the block (R409).
-/

namespace Sys2Proof.Machine

/-! ### Reading the journal (R401-R403) -/

/-- The pairs of words of a PREC record. -/
def wordPairs : List Nat → List (Nat × Nat)
  | a :: b :: r => (a, b) :: wordPairs r
  | _ => []

/-- A record in the parts that are replayed one by one: the records of a PREC, the words of a FAST (R403). -/
def RpUnit.parts (u : RpUnit) : List RpUnit :=
  if u.rtype = 6 then (wordPairs u.words).map fun w => { u with tick := u.tick + 625 * (w.2 / 2 ^ 22), words := [w.1, w.2 % 2 ^ 22] }
  else if u.rtype = 8 then u.words.zipIdx.map fun e => { u with tick := u.tick + 32 * e.2, words := [e.1] }
  else [u]

/-- The records in the words of a chunk (R402): `base` is the current base, `ck` tells that a checkpoint is open. -/
def readWords (no : Nat) : Nat → Tick → Bool → List Nat → List RpUnit × Bool
  | 0, _, ck, _ => ([], ck)
  | _ + 1, _, ck, [] => ([], ck)
  | n + 1, base, ck, h :: r =>
    let w := r.take (field h 29 6)
    let rest := r.drop (field h 29 6)
    let ty := field h 35 5
    if ty = 0 then readWords no n (w.headD 0 + w.getD 1 0 % 2 ^ 24 * 2 ^ 40) ck rest
    else
      let open_ := if ty = 13 then !bitOf (w.headD 0) 0 else ck
      let u : RpUnit := { tick := base + field h 0 18, src := field h 18 11, rtype := ty, words := w, chunk := no, ck := ck || open_ }
      let k := readWords no n base open_ rest
      (u.parts ++ k.1, k.2)

/-- Records are ordered by (timestamp, SRC), and those of one source as they were written (R402). -/
def unitInsert (u : RpUnit) : List RpUnit → List RpUnit
  | [] => [u]
  | v :: r => if u.tick < v.tick ∨ (u.tick = v.tick ∧ u.src < v.src) then u :: v :: r else v :: unitInsert u r

/-- The begin tick of the latest checkpoint at or before a tick, among records read (R408 step 1). -/
def seekMark (start : Tick) (l : List RpUnit) : Option Tick :=
  ((l.filter fun u => decide (u.rtype = 13) && !bitOf (u.words.headD 0) 0 && decide (u.tick ≤ start)).map (·.tick)).getLast?

/-! ### The entry of a CONFIG record (R403) -/

def cfgKey (w : List Nat) : Nat := field (w.headD 0) 24 16 * 256 + field (w.headD 0) 16 8
def cfgWho (w : List Nat) : Nat := field (w.headD 0) 8 8
def cfgVal (w : List Nat) : Nat := w.getD 1 0 + w.getD 2 0 * 2 ^ 40

/-- The subindices of the derived values that replay reproduces, and 0x9F of the factors (R410). -/
def rpDerived (p : Nat) : List Nat := [Pt.KSTAGE p, Pt.COMPL_HI_EFF p, Pt.COMPL_LO_EFF p, Pt.TH_CODES p, (0x4000 + p) * 256 + 0x9F]

/-- A scanner's correct answer to a QUERY (R194). -/
def goodMiso (f : SFrame) : Nat := let w := f.route * 2 ^ 8 + f.seqn; w * 2 ^ 8 + crc8 w 40 0

/-- A precision record of the journal: port, tick and quantity. -/
def RpUnit.isPrec (u : RpUnit) (p : Nat) (v : Bool) (t : Tick) : Bool :=
  decide (u.src = p) && decide (u.tick = t) && decide (decide (8 ≤ field (u.words.getD 1 0) 18 4) = v)

namespace State

/-! ### Inputs (R410) -/

/-- An entry takes the value of a CONFIG record. -/
def loadEntry (s : State) (w : List Nat) : State :=
  if 14 ≤ field (w.headD 0) 0 7 then s.setBlob (cfgKey w) ((wordBytes (w.drop 1)).take (octLen (cfgKey w))) else s.set (cfgKey w) (cfgVal w)

/-- A GROUP_CTRL write. Gating and ungating are taken as made. -/
def rpGroup (s : State) (g v : Nat) (t : Tick) : State :=
  if v = 4 then s.set (Gr.GROUP_STATE g) 3 else if v = 8 then s.set (Gr.GROUP_STATE g) 2 else s.groupCtrlDo g v t

/-- A RUN_STATE write. -/
def rpRunState (s : State) (c v : Nat) (t : Tick) : State :=
  if v = 1 then (s.enqueue c t).selectAt (s.ctxPort c) t
  else if v = 3 then s.abortCtx (s.ctxPort c) c t
  else if s.rs c = 1 then s.leaveQueue (s.ctxPort c) c 4
  else s.set (Cx.RUN_STATE c) 6

/-- An accepted write takes effect at `t` (R13). Enables, trips and re-arms come with their PORT records, software events with their EVENT records. -/
def rpWrite (s : State) (w : List Nat) (t : Tick) : State :=
  let key := cfgKey w
  let v := cfgVal w
  match recOf (key / 256) with
  | some (.pt, p) =>
    if key = Pt.PORT_CTRL p then (if v = 2 then s.gcApply { port := p, op := .disable, since := t } t else s)
    else if key = Pt.FORCE_CTRL p then s.forceCtrlDo p (v % 2) t
    else if key = Pt.PGEN_CTRL p then s.gcApply { port := p, op := .pgen (v % 4), since := t } t
    else if key = Pt.WIN_CTRL p then s
    else match (odRow key).map Row.lim with
      | some (.w1c m) => s.clearBits key m v
      | _ => (s.loadEntry w).applyEntry p key t
  | some (.gr, g) => if key = Gr.GROUP_CTRL g then s.rpGroup g v t else s.loadEntry w
  | some (.ch, e) => if key = Ch.FIRE e then s else s.loadEntry w
  | some (.cx, c) => if key = Cx.RUN_STATE c then s.rpRunState c v t else s.putValue key v
  | some (.ls, l) => if key = Ls.COMMIT l then s.set (Ls.LIST_STATE l) 2 else s.putValue key v
  | some (.rp, _) => s
  | _ => s.loadEntry w

/-- A value that the device derived: an input where replay does not reproduce it. Below J_2 the KSTAGE of a span change shows that the span was
switched. -/
def rpDerive (s : State) (lv : Nat) (w : List Nat) (t : Tick) : State :=
  let key := cfgKey w
  match recOf (key / 256) with
  | some (.pt, p) =>
    if key ∈ rpDerived p then
      (if lv < 2 ∧ key = Pt.KSTAGE p ∧ s.spanStep p ≠ 0 ∧ (s.px p).force.spanTo ≠ s.rN (Pt.SPAN_ACTIVE p) then s.spanSwitch p t else s)
    else s.loadEntry w
  | _ => s.loadEntry w

/-- A port that is shown to be enabled, though no record told when it became so. -/
def rpOn (s : State) (p : Nat) : State :=
  if s.portState p ≠ 0 then s
  else
    (((s.set (Pt.PORT_STATE p) 2).set (Pt.DRIVE_SLICE p) (s.servingSlice p)).modPx p fun x => { x with
      force := { x.force with everEnabled := true }, pgen := { x.pgen with permit := true },
      range := { x.range with chainOk := true }, loopY := { x.loopY with cold := false } }).syncPort p

/-- RESUME below J_2: what held the port is over, a ramp among it. -/
def rpResume (s : State) (p : Nat) (t : Tick) : State :=
  let s := (s.modLoopY p fun y => { y with lastHold := 0 }).rampStop p t
  if s.portState p = 1 then s.portReachesOn p t
  else if s.portState p = 3 then (if (s.px p).seqn = .disRamp then s.gateOff p t else s)
  else if s.spanStep p = 0 then s
  else ((if (s.px p).force.spanTo ≠ s.rN (Pt.SPAN_ACTIVE p) then s.spanSwitch p t else s).spanDone p).syncPort p

/-- A phase of a range step below J_2 (R403 OP 8). -/
def rpRange (s : State) (p d : Nat) (t : Tick) : State :=
  let v := bitOf d 2
  let a := field d 4 4
  let at_ := fun (f : RStep → RStep) (s : State) => s.modRange p fun r => { r with step := r.step.map f }
  match d % 4 with
  | 1 => ((s.set (if v then Pt.VRNG_ACTIVE p else Pt.IRNG_ACTIVE p) a).modRange p fun r => { r with step := none }).stepStart p v a (field d 8 4) t
  | 2 => (at_ (fun st => { st with t1 := t }) s).stepMakeEnd p t
  | 3 => (at_ (fun st => { st with t2 := t }) s).stepParEnd p t
  | _ => (at_ (fun st => { st with t3 := t }) s).stepBreakEnd p t

/-- A role change (R403 OP 9). -/
def rpRole (s : State) (src d : Nat) : State :=
  let i := d % 256
  let s := (s.set (Sl.SLICE_ROLE i) (field d 8 4)).set (Sl.SLICE_PORT i) (if src < 128 then src else 0xFF)
  if src < 128 ∧ field d 8 4 = 0 then s.set (Pt.DRIVE_SLICE src) i else s

/-- A PORT record at the level at which the port is replayed. Trip latch sets are inputs at every level. -/
def rpPort (s : State) (lv src w : Nat) (t : Tick) : State :=
  let d := w % 2 ^ 35
  match w / 2 ^ 35 with
  | 0 => if s.portState src = 0 then s.enableNow src t else s
  | 1 => if s.portState src = 0 then s else s.portOff src t
  | 2 => let r := s.takePort src Task.trip t; r.2.trip src (d % 512) t (topGen r.1 + 1)
  | 3 => s.rearm src t
  | 6 => if lv < 2 then s.modLoopY src fun y => { y with lastHold := d % 16 } else s
  | 7 => if lv < 2 then s.rpResume src t else s
  | 8 => if lv < 2 then s.rpRange src d t else s
  | 9 => s.rpRole src d
  | _ => s

/-- An EDGE record. The sign of an over-range, which it does not hold, bears on values only. -/
def rpEdge (s : State) (src w : Nat) (t : Tick) : State :=
  match w / 2 ^ 32 with
  | 1 => s.ovrStart src true false t
  | 2 => s.ovrEnd src true t
  | 3 => s.ovrStart src false false t
  | 4 => s.ovrEnd src false t
  | 5 => s.fltRise src t
  | 6 => s.fltFall src t
  | 7 => s.clrFall t
  | 8 => s.clrRise t
  | 9 => s.trigEdge (w % 16) true t
  | 10 => s.trigEdge (w % 16) false t
  | 12 => s.gndStart src t
  | 13 => s.gndEnd src t
  | _ => s

/-- A LIST record: the points enter their slots. -/
def rpList (s : State) (w : List Nat) : State :=
  let l := field (w.headD 0) 30 10
  s.spadPutAll (slotAddr (s.rN (Ls.FIRST_SLOT l) + field (w.headD 0) 14 16)) (w.drop 1)

/-- A SEGMENT record. -/
def rpSegment (s : State) (w : List Nat) : State :=
  let n := fun k => w.getD k 0 + w.getD (k + 1) 0 * 2 ^ 40
  s.pushSeg { t0 := n 0, n0 := n 2, rate := n 4 }

/-- A producer whose events replay makes itself (R410): PGEN, counters, delay units and timers at every level; of a port at J_2 its compliance and its
sequencer too. -/
def rpMakes (lv : Nat → Nat) (blind : List Nat) (code : Nat) : Bool :=
  let kind := code / 2 ^ 16
  let i := code % 2 ^ 16
  decide (kind = 4 ∨ kind = 5 ∨ kind = 6) || (decide (0x14 ≤ kind ∧ kind ≤ 0x17) && decide (i ∉ blind)) ||
    (decide (0x18 ≤ kind ∧ kind ≤ 0x1F) && decide (lv i = 2))

/-- An EVENT record of a producer that replay does not make. SEQ_DONE of a point below J_2 completes it. -/
def rpEvent (s : State) (e w : Nat) (t : Tick) : State :=
  let code := s.rN (Ch.PRODUCER e)
  let s := channelEvent t (field w 36 4) e s
  if code / 2 ^ 16 = 0x1C then
    (match s.runOf (code % 2 ^ 16) with
     | some q => (s.pointDone (code % 2 ^ 16) q t).selectAt (code % 2 ^ 16) t
     | none => s)
  else s

/-- A record other than a sample, a check or a mark is applied at `t`. -/
def rpInput (lv : Nat → Nat) (blind : List Nat) (start t : Tick) (s : State) (u : RpUnit) : State :=
  match u.rtype with
  | 1 =>
    if u.ck then (if u.tick = start then s.loadEntry u.words else s)
    else if cfgWho u.words = 0xFF then s.rpDerive (lv (cfgKey u.words / 256 - 0x4000)) u.words t
    else s.rpWrite u.words t
  | 2 => if rpMakes lv blind (s.rN (Ch.PRODUCER (u.src - 0x100))) then s else s.rpEvent (u.src - 0x100) (u.words.headD 0) t
  | 3 => s.rpEdge u.src (u.words.headD 0) t
  | 4 => if u.ck ∧ u.tick ≠ start then s else s.rpPort (if u.ck then 0 else lv u.src) u.src (u.words.headD 0) t
  | 5 => s.rpSegment u.words
  | 12 => if u.ck ∧ u.tick ≠ start then s else (s.rpList u.words).set (Ls.LIST_STATE (field (u.words.headD 0) 30 10)) 2
  | _ => s

/-- A fast sample of a J_2 port enters the window of its loop (R107 step 1, R108). -/
def rpFast (t : Tick) (s : State) (u : RpUnit) : State :=
  let half := fun (h : Nat) => (toSigned 18 (h / 4), bitOf h 1)
  let v := half (field (u.words.headD 0) 20 20)
  let i := half (field (u.words.headD 0) 0 20)
  let ov := fun (x : Int × Bool) => if x.2 then some (decide (x.1 < 0)) else none
  s.windowSample u.src v.1 i.1 (ov v) (ov i) t

/-- Loop reproduction starts from a SNAP (R408 step 2). -/
def rpSnap (s : State) (p : Nat) (w : List Nat) (t : Tick) : State :=
  let s := s.rpOn p
  let n := fun k => w.getD k 0
  let i := fun k => toSigned 40 (n k)
  let wide := fun k => toSigned 80 (n k * 2 ^ 40 + n (k + 1))
  let st := n 21
  let sel := field st 18 2
  let osel := field st 8 2
  let k := s.rI (Pt.KSTAGE p)
  let s := s.modLoop p fun l => { l with
    r0 := i 0, r1 := i 1, x0 := { pri := i 2, hi := i 3, lo := i 4 }, x1 := { pri := i 5, hi := i 6, lo := i 7 }, w0 := i 8, w1 := i 9,
    yv := i 10, yi := i 11, z := i 12, mi := i 15, mv := i 16, sii := wide 17, siv := wide 19, status := st,
    u0 := mul40 (i 8) k, u1 := mul40 (i 9) k,
    sel0 := if bitOf st 17 then osel else sel, sel1 := if bitOf st 17 then sel else osel,
    lastTick := n 22 + n 23 * 2 ^ 40, edge := t }
  let s := (s.set (Pt.LM_R p) (n 13)).set (Pt.LM_V0 p) (n 14)
  let c := s.loopCfg p
  s.modLoopY p fun y => { y with cold := false, warm := decide (y.lastHold ≠ 0), lastMode := c.mode, lastCfg := s.trackKey p }

/-! ### What falls due in a port (R410) -/

/-- The first decisions of the comparators, which replay takes as INSIDE: their inputs are not journalled, and what follows from them comes as records. -/
def rpCmp (s : State) (p : Nat) (v : Bool) (t : Tick) : State :=
  let c := s.cmpOf p v
  match c.startEnd with
  | some e => if e ≤ t then ((s.cmpDecide p v 0 false e).armWaitDone p e).cmpPending p v e else s
  | none =>
    if s.enabled p && decide (s.cmpActive p v = 5) && !c.decided && decide (384 ≤ t) && s.smTickAt p (t - 384) then
      (s.cmpDecide p v 0 false t).armWaitDone p t
    else s

/-- A window closes with the values that the journal holds for it (R410: they are inputs). -/
def rpWindow (precs : List RpUnit) (s : State) (p : Nat) (t : Tick) : State :=
  match (s.px p).meas.win with
  | some w =>
    if t ≠ w.open_ + 625 * w.n then s
    else
      let val := fun (v : Bool) (x : Int) =>
        match precs.find? (fun u => u.isPrec p v w.open_) with | some u => toSigned 40 (u.words.headD 0) | none => x
      (s.closeWindow p w [] [] t).modMeas p fun m => { m with closing := m.closing.map fun r =>
        if r.tClose = t then { r with valV := val true r.valV, valI := val false r.valI } else r }
  | none => s

/-- Below J_2 the windows of a port open where the journal has records of them: a point loads and reaches its instant there. -/
def rpOpen (precs : List RpUnit) (s : State) (p : Nat) (t : Tick) : State :=
  if !precs.any (fun u => decide (u.src = p) && decide (u.tick = t)) then s
  else
    let s := s.rpOn p
    match s.runOf p with
    | none => if (s.px p).meas.win.isSome then s else s.openWin p t (s.live p (Pt.PREC_INT p)) (s.live p (Pt.IDLE_CTX p))
    | some q =>
      if q.phase = Ph.measure then (if (s.px p).meas.win.isSome then s else s.openWin p t q.spec q.ctx)
      else
        let s := if q.phase < Ph.settle then s.pointLoad p q t else s
        match s.runOf p with
        | some q => s.pointInstant p q t
        | none => s

/-- A tick boundary of a port below J_2: its loop is not reproduced. -/
def rpSlowTick (s : State) (p : Nat) (t : Tick) : State :=
  if !s.isBoundary p t || s.gated p then s
  else ((((s.tickConfig p t).stepGuardEnd p t).divApply p t).seqAtBoundary p t).windowNext p t

/-- The deliveries of `t` to the tasks of a port (R220-R223). A trip and a re-arm are taken from the journal. -/
def rpTask (p : Nat) (t : Tick) (s : State) (kind : Nat) : State :=
  let r := s.takePort p kind t
  if r.1 = [] ∨ kind = Task.rearm ∨ kind = Task.trip then r.2 else r.2.portTaskDo p kind r.1 t

/-- Everything of a port that falls due at `t`. -/
def rpPortTick (lv : Nat → Nat) (precs : List RpUnit) (t : Tick) (p : Nat) (s : State) : State :=
  let s := (((s.enableHoldEnd p t).gatePermitAt p t).dischargeDue p t).spanHoldDue p t
  let s := (s.rpCmp p true t).rpCmp p false t
  let s := if lv p = 2 then (((s.rampFinish p t) |> loopTick p t).timerStrikeAt p t).instantDue p t
    else (s.rpSlowTick p t).rpOpen precs p t
  let s := ((s.scanEnds p t).rpWindow precs p t).doneDue p t
  let s := ((s.riseAt p t).fallAt p t).gateEdge p t
  [Task.strike, Task.start, Task.stop, Task.rearm, Task.trip, Task.arm].foldl (rpTask p t) s

/-- The scanner bus: the answers, which are not journalled, are taken as correct (R194). -/
def rpScan (s : State) (t : Tick) : State :=
  let s := s.frameStart t
  match s.scan.busy with
  | some (f, e) => if e ≤ t then s.frameEnd f (goodMiso f) e else s
  | none => s

/-- Timers, delay units and counters (R229, R230). -/
def rpCarillon (s : State) (t : Tick) : State :=
  ((s.forAll 16 fun k s => s.timerFire k t).forAll 16 fun k s => s.dlyFire k t).forAll 64 fun k s => s.ecInc k t

/-- The estimator's visits, where some loop is reproduced (R106). -/
def rpVisits (s : State) (any : Bool) (t : Tick) : State := if any then s.forAll 4 fun k s => lmVisitAt k t s else s

/-- The records that the units have made since the sandbox was set up. -/
def rpMade (s : State) : List JRec :=
  let s := s.forAll 128 fun p s => s.lchkFlush p
  (s.rcd.staged.flatMap (·.recs) ++ s.rcd.recs).filter fun r => decide (r.rtype ≠ 0)

end State

/-! ### Comparison (R410, R412) -/

/-- A difference found. -/
structure RpDiff where
  kind : Nat
  detail : Nat
  tick : Tick
  journal : Int := 0
  replay : Int := 0
  chunk : Nat
deriving DecidableEq, Repr

/-- One check of a port: what it found, if it did not match. -/
structure RpCheck where
  port : Nat
  diff : Option RpDiff
deriving DecidableEq, Repr

/-- Values of the journal, each with its chunk, against values replayed. DESIGN CHOICE (log entry 128): where one side has none, that side reads 0. -/
def rpMatch (p kind detail : Nat) (t : Tick) (last : Nat) : List (Int × Nat) → List Int → List RpCheck
  | [], [] => []
  | (j, c) :: js, m :: ms =>
    { port := p, diff := if j = m then none else some { kind := kind, detail := detail, tick := t, journal := j, replay := m, chunk := c } } ::
      rpMatch p kind detail t last js ms
  | (j, c) :: js, [] => { port := p, diff := some { kind := kind, detail := detail, tick := t, journal := j, chunk := c } } :: rpMatch p kind detail t last js []
  | [], m :: ms => { port := p, diff := some { kind := kind, detail := detail, tick := t, replay := m, chunk := last } } :: rpMatch p kind detail t last [] ms

/-- The words of the records of one type and source among those read, and among those made. -/
def heads (l : List RpUnit) : List (Int × Nat) := l.map fun u => ((u.words.headD 0 : Nat), u.chunk)
def madeHeads (l : List JRec) : List Int := l.map fun r => (r.words.headD 0 : Nat)

/-- The PORT records of an OP: trains at every level, holds and range phases at J_2. -/
def checkPort (lv : Nat → Nat) (blind : List Nat) (last : Nat) (t : Tick) (due : List RpUnit) (made : List JRec) (p : Nat) : List RpCheck :=
  let ops := (if p ∈ blind then [] else [4, 5]) ++ (if lv p = 2 then [6, 7, 8] else [])
  ops.flatMap fun op =>
    rpMatch p (if op = 8 then 9 else 5) op t last
      (heads (due.filter fun u => decide (u.rtype = 4) && !u.ck && decide (u.src = p) && decide (u.words.headD 0 / 2 ^ 35 = op)))
      (madeHeads (made.filter fun r => decide (r.rtype = 4) && decide (r.src = p) && decide (r.words.headD 0 / 2 ^ 35 = op)))

/-- The events of the channels whose producers replay makes. DESIGN CHOICE (log entry 128): an event of a counter, a delay unit or a timer counts for
every port of the session. -/
def checkEvents (ps : List Nat) (lv : Nat → Nat) (blind : List Nat) (s : State) (last : Nat) (t : Tick) (due : List RpUnit) (made : List JRec) :
    List RpCheck :=
  let src := uniq (((due.filter fun u => decide (u.rtype = 2)).map (·.src)) ++ ((made.filter fun r => decide (r.rtype = 2)).map (·.src)))
  src.flatMap fun x =>
    let code := s.rN (Ch.PRODUCER (x - 0x100))
    if !State.rpMakes lv blind code then []
    else
      (if code / 2 ^ 16 < 0x10 then ps else ps.filter fun p => decide (p = code % 2 ^ 16)).flatMap fun p =>
        rpMatch p 6 (x - 0x100) t last (heads (due.filter fun u => decide (u.rtype = 2) && decide (u.src = x)))
          (madeHeads (made.filter fun r => decide (r.rtype = 2) && decide (r.src = x)))

/-- The check word of a loop tick at J_2: the code, then the state (R404). -/
def checkLoop (last : Nat) (t : Tick) (due : List RpUnit) (made : List JRec) (p : Nat) : List RpCheck :=
  let js := heads (due.filter fun u => decide (u.rtype = 9) && decide (u.src = p))
  let ms := madeHeads (made.filter fun r => decide (r.rtype = 9) && decide (r.src = p))
  if js = [] then []
  else
    rpMatch p 1 0 t last (js.map fun j => (j.1 / 2 ^ 16, j.2)) (ms.map (· / 2 ^ 16)) ++
      rpMatch p 2 0 t last (js.map fun j => (j.1 % 2 ^ 16, j.2)) (ms.map (· % 2 ^ 16))

/-- A SNAP at J_2, word by word. -/
def checkSnap (last : Nat) (t : Tick) (due : List RpUnit) (made : List JRec) (p : Nat) : List RpCheck :=
  match due.find? (fun u => decide (u.rtype = 10) && decide (u.src = p)), made.find? (fun r => decide (r.rtype = 10) && decide (r.src = p)) with
  | some u, some r => (List.range 24).flatMap fun k =>
      rpMatch p 3 k t last [(toSigned 40 (u.words.getD k 0), u.chunk)] [toSigned 40 (r.words.getD k 0)]
  | _, _ => []

/-- The derived values in a checkpoint after the one that was loaded. -/
def checkDerived (s : State) (start t : Tick) (due : List RpUnit) (p : Nat) : List RpCheck :=
  (due.filter fun u => decide (u.rtype = 1) && u.ck && decide (u.tick ≠ start) && decide (cfgKey u.words ∈ rpDerived p)).flatMap fun u =>
    if cfgKey u.words % 256 = 0x9F then
      rpMatch p 4 0x9F t u.chunk ((u.words.drop 1).map fun w => (toSigned 40 w, u.chunk)) ((s.scalePairs p).map fun e => s.factor p e.1 e.2)
    else
      let sg := fun (n : Nat) => if State.keyType (cfgKey u.words) = 10 then (n : Int) else toSigned 40 n
      rpMatch p 4 (cfgKey u.words % 256) t u.chunk [(sg (cfgVal u.words), u.chunk)] [sg (s.rN (cfgKey u.words))]

/-- The lowest tag bit that differs, of those that are compared: all but WORN and COMPL (R410). -/
def tagDiffers (a b : Nat) : Option Nat := (List.range 22).find? fun k => decide (k ≠ 3) && decide (k ≠ 5) && (bitOf a k != bitOf b k)

/-- A precision record made against that of the journal. -/
def checkPrec (precs : List RpUnit) (last : Nat) (r : JRec) : RpCheck :=
  let tag := r.words.getD 1 0
  match precs.find? (fun u => u.isPrec r.src (decide (8 ≤ field tag 18 4)) r.tick) with
  | none => { port := r.src, diff := some { kind := 7, detail := 0, tick := r.tick, replay := tag, chunk := last } }
  | some u =>
    { port := r.src, diff := (tagDiffers tag (u.words.getD 1 0)).map fun k =>
        { kind := 7, detail := k, tick := r.tick, journal := (u.words.getD 1 0 : Nat), replay := tag, chunk := u.chunk } }

/-- At J_2 a window of the port stands where the journal has a record of one. -/
def checkOpen (s : State) (precs : List RpUnit) (t : Tick) (p : Nat) : List RpCheck :=
  match precs.find? (fun u => decide (u.src = p) && decide (u.tick = t)) with
  | none => []
  | some u =>
    let here := match (s.px p).meas.win with | some w => decide (w.open_ = t) | none => false
    [{ port := p, diff := if here then none else
        some { kind := 7, detail := 0, tick := t, journal := (u.words.getD 1 0 : Nat), chunk := u.chunk } }]

/-- The supervision outcome of a MON record, with MON_ALL and but for read-back (R410). DESIGN CHOICE (log entry 128): its KIND is 0, as R412 has none
for it, and an input that serves no port counts for every port of the session. -/
def checkMon (ps : List Nat) (s : State) (t : Tick) (u : RpUnit) : List RpCheck :=
  let w := u.words.headD 0
  let i := field w 30 10
  let alt := bitOf w 8
  let cls := mcClass i alt
  let port := s.rN (Sl.SLICE_PORT (i / 7))
  let settled := decide (cls ≠ 2) || decide ((s.px port).thAt.getD (i % 7 - 1) 0 + 640 ≤ t)
  if !s.bit Rc.MON_ALL 0 || decide (cls ≤ 1) || decide (9 ≤ cls) || !settled || (decide (i = 1020) && decide (s.rQ Ca.REFX_VALUE = 0)) then []
  else
    let c : McCyc := { cls := cls, expV := s.thVolts port (i % 7 - 1), tol := s.rQ Mc.TH_TOL }
    let oot := s.mcOot c { input := i, alt := alt, cls := cls, due := t } (toSigned 16 (field w 14 16)) (bitOf w 9)
    (if i < 1008 then ps.filter fun p => decide (p = port) else ps).flatMap fun p =>
      rpMatch p 0 0 t u.chunk [(((bitOf w 11).toNat : Int), u.chunk)] [(oot.toNat : Int)]

/-- The result of a port after the checks of a tick (R412): its first difference ends its comparison; after a STATE_CRC difference the next SNAP fills
KIND and DETAIL. -/
def RpPort.after (e : RpPort) (lv : Nat) (t : Tick) (l : List RpCheck) : RpPort :=
  let l := l.filter fun c => decide (c.port = e.port)
  if e.outcome = 1 then
    (if e.kind = 2 then
       (match (l.filterMap (·.diff)).find? (fun d => decide (d.kind = 3)) with
        | some d => { e with kind := 3, detail := d.detail }
        | none => e)
     else e)
  else
    let e := { e with outcome := 0, fidelity := min e.fidelity lv }
    match l.findSome? (·.diff) with
    | some d => { e with outcome := 1, kind := d.kind, detail := d.detail, tick := d.tick, journal := d.journal, replay := d.replay, chunk := d.chunk }
    | none => if l = [] then e else { e with lastGood := t }

namespace Sandbox

/-! ### The sandbox (R409) -/

/-- The sandbox as a state: the units run as in service, and their records are kept for comparison. -/
def state (b : Sandbox) (full : Tick) : State :=
  let s : State := { now := b.now, regs := b.regs, blobs := b.blobs, ports := b.ports, groups := b.groups, micro := b.micro, fab := b.fab,
                     scan := b.scan, tb := b.tb, mc := b.mc, spad := b.spad, lm := b.lm, fresh := b.fresh,
                     pwr := { boot := 11, clrLow := b.clrLow } }
  let s := ((((s.set Pw.POWER_STATE 2).set Rc.J_STATUS 1).set Rc.J_LEVEL 2).set Rc.J2_PORTS_LO (2 ^ 64 - 1)).set Rc.J2_PORTS_HI (2 ^ 64 - 1)
  let s := s.setBit Pw.PWR_STATUS PwrStatus.FULL (decide (full ≤ b.now + 1))
  let s := s.forAll 128 fun p s => s.setBit (Pt.FORCE_STATUS p) ForceStatus.OE true
  { s with rcd := { s.rcd with snapDue := (List.range 128).map fun p => (p, true) } }

/-- An effect that falls due in a port; rotations, power and the fabric have none in the sandbox. -/
def ofPort : Micro → Bool
  | .loopWrite .. | .tickStrike .. | .strike _ | .setSafe _ | .levelBase _ | .recOut _ | .winOpen _ | .select _ | .trainCut _ => true
  | .rot _ | .standby | .pfw _ | .reset _ | .wipe | .fabCycle | .own _ => false

/-- Keep what the units have made of it. -/
def keep (b : Sandbox) (s : State) : Sandbox :=
  { b with now := s.now, regs := s.regs, blobs := s.blobs, ports := s.ports, groups := s.groups, micro := s.micro.filter fun e => ofPort e.2,
           fab := s.fab, scan := s.scan, tb := s.tb, mc := s.mc, spad := s.spad, lm := s.lm, fresh := s.fresh, clrLow := s.pwr.clrLow }

/-- J_2 data of a port is journalled. -/
def sampled (b : Sandbox) (p : Nat) : Bool := decide (b.jLevel = 2) && bitOf b.j2 p

/-- The level at which a port is replayed (R410, R411): J_2 needs the port and its LINK_PORT, each since a SNAP. -/
def level (b : Sandbox) (s : State) (p : Nat) : Nat :=
  let l := s.live p (Pt.LINK_PORT p)
  if p ∈ b.synced ∧ (128 ≤ l ∨ l ∈ b.synced) then 2 else min b.jLevel 1

/-- What a record tells of the journal itself: its level and its ports, gaps, and the trains of a checkpoint. -/
def mark (start : Tick) (b : Sandbox) (u : RpUnit) : Sandbox :=
  let key := cfgKey u.words
  let v := cfgVal u.words
  let op := u.words.headD 0 / 2 ^ 35
  let b :=
    if u.rtype = 1 ∧ (u.ck = false ∨ u.tick = start) then
      (if key = Rc.J_LEVEL then { b with jLevel := v }
       else if key = Rc.J2_PORTS_LO then { b with j2 := b.j2 / 2 ^ 64 * 2 ^ 64 + v }
       else if key = Rc.J2_PORTS_HI then { b with j2 := b.j2 % 2 ^ 64 + v * 2 ^ 64 }
       else b)
    else if u.rtype = 11 then { b with synced := b.synced.filter fun p => decide (p ≠ u.src) }
    else if u.rtype = 4 ∧ op = 4 ∧ u.ck then (if u.tick = start then { b with blind := u.src :: b.blind } else b)
    else if u.rtype = 4 ∧ (op = 4 ∨ op = 5) then { b with blind := b.blind.filter fun p => decide (p ≠ u.src) }
    else b
  { b with synced := b.synced.filter fun p => b.sampled p }

/-- The words of a LCHK after its first, which belong to the following ticks of the port (R403). -/
def nextCheck (s : State) (u : RpUnit) : Option RpUnit :=
  if u.rtype = 9 ∧ 1 < u.words.length then some { u with tick := u.tick + s.period u.src, words := u.words.drop 1 } else none

/-- Replay one tick: the inputs, everything that falls due, the checks, and the SNAPs from which loops start. -/
def step (ps : List Nat) (epoch first past : Nat) (x : Sandbox × List RpPort) : Sandbox × List RpPort :=
  let b := x.1
  let t := b.now + 1
  let start := b.start.getD 0
  let due := b.units.takeWhile fun u => decide (u.tick ≤ t)
  let b := due.foldl (mark start) { b with units := b.units.drop due.length }
  let last := (b.next.getD 1) - 1
  let s := (b.state (Config.fullFrom epoch)).advance t
  let lv := fun p => b.level s p
  let s := due.foldl (State.rpInput lv b.blind start t) s
  let s := s.forAll 128 (State.rpPortTick lv b.precs t)
  let s := (((due.filter fun u => decide (u.rtype = 8) && b.sampled u.src).foldl (State.rpFast t) s).rpScan t).rpCarillon t
  let s := s.rpVisits (decide (b.synced ≠ [])) t
  let made := s.rpMade
  -- a tick without its check word: the port's data was shed (R411)
  let shed := b.synced.filter fun p => made.any (fun r => decide (r.rtype = 9) && decide (r.src = p)) &&
    !due.any (fun u => decide (u.rtype = 9) && decide (u.src = p))
  let two := (b.synced.filter fun p => decide (p ∉ shed) && decide (lv p = 2))
  let recs := made.filter fun r => decide (r.rtype = 6) && decide (start ≤ r.tick)
  let checks :=
    ps.flatMap (checkPort lv b.blind last t due made) ++ checkEvents ps lv b.blind s last t due made ++
      (ps.filter fun p => decide (p ∈ two)).flatMap (fun p => checkLoop last t due made p ++ checkSnap last t due made p ++ checkOpen s b.precs t p) ++
      ps.flatMap (checkDerived s start t due) ++
      (recs.filter fun r => decide (1 ≤ lv r.src) && decide (first ≤ r.tick)).map (checkPrec b.precs last) ++
      (if b.jLevel = 0 then [] else (due.filter fun u => decide (u.rtype = 7)).flatMap (checkMon ps s t))
  let snaps := due.filter fun u => decide (u.rtype = 10) && b.sampled u.src && (decide (u.src ∉ b.synced) || decide (u.src ∈ shed))
  let s := snaps.foldl (fun s u => s.rpSnap u.src u.words t) s
  let b := b.keep s
  let b := { b with
    synced := (b.synced.filter fun p => decide (p ∉ shed)) ++ snaps.map (·.src),
    precs := b.precs.filter fun u => !recs.any fun r => u.isPrec r.src (decide (8 ≤ field (r.words.getD 1 0) 18 4)) r.tick,
    units := (due.filterMap (nextCheck s)).foldl (fun l u => unitInsert u l) b.units }
  (b, if first ≤ t ∧ t < past then x.2.map fun e => e.after (lv e.port) t checks else x.2)

/-- Replay `n` ticks. -/
def steps (ps : List Nat) (epoch first past : Nat) : Nat → Sandbox × List RpPort → Sandbox × List RpPort
  | 0, x => x
  | n + 1, x => steps ps epoch first past n (step ps epoch first past x)

/-! ### The session (R408, R411) -/

/-- Records read join those that wait; before the checkpoint of the seek is found there are none. Where it is found, the sandbox starts at it. -/
def take (b : Sandbox) (c : RpChunk) (first : Tick) : Sandbox :=
  let r := readWords c.no c.data.length c.base b.inCk (c.data.map (·.toNat))
  let b := { b with inCk := r.2, next := some (c.no + 1) }
  let b := match b.start with
    | some _ => b
    | none => match seekMark first r.1 with
      | some m => { b with start := some m, now := m - 1, lm := (List.range 4).foldl (fun l k => Tab.set (fun _ => 0) l k (Config.visitAt k m)) b.lm }
      | none => b
  match b.start with
  | none => b
  | some m =>
    let l := r.1.filter fun u => decide (m ≤ u.tick)
    let gap := (l.find? fun u => decide (u.rtype = 11) && decide (u.src = 0x504)).map (·.tick)
    { b with top := (l.filter fun u => decide (u.rtype ≠ 5)).foldl (fun n u => max n u.tick) b.top,
             stop := match b.stop with | some g => some g | none => gap,
             units := (l.filter fun u => decide (u.rtype ≠ 6)).foldl (fun l u => unitInsert u l) b.units,
             precs := b.precs ++ l.filter fun u => decide (u.rtype = 6) }

/-- How long after its beginning a record of a port may still be written, besides J_FLUSH: the longest window that it may open, and the check words
and samples gathered in one record. -/
def delay (b : Sandbox) (s : State) (p : Nat) : Nat :=
  let ctx := (s.onQueue p).flatMap fun c => (s.ctxPoints c).map fun k => s.mergedSpec c k
  let win := ((s.live p (Pt.PREC_INT p)) :: ctx).foldl (fun n v => max n (State.specWords (s.specInForce v))) 0
  max (625 * win + 8192) (if b.synced = [] then 0 else 61 * s.period p)

/-- The tick up to which every record has been read (R411: the session follows the journal with a lag). -/
def known (b : Sandbox) (ps : List Nat) (epoch flush : Nat) : Tick :=
  match b.stop with
  | some g => g - 1
  | none => let s := b.state (Config.fullFrom epoch); b.top - flush - ps.foldl (fun n p => max n (b.delay s p)) 0

end Sandbox

namespace State

/-- The session replays what it has read, up to RP_END (R408, R411, R412). -/
def rpRun (s : State) (b : Sandbox) : State :=
  let first := s.rN Rp.RP_START
  let past := s.rN Rp.RP_END
  let epoch := s.rN Rp.RP_EPOCH
  let goal := min (b.known s.rpPorts epoch (s.rN Rc.J_FLUSH * ms)) (past - 1)
  let r := if b.start.isSome then Sandbox.steps s.rpPorts epoch first past (goal - b.now) (b, s.rcd.rp) else (b, s.rcd.rp)
  let gap := match b.stop with | some g => decide (g ≤ r.1.now + 1) && decide (g < past) | none => false
  let rp := if gap then r.2.map fun e => if e.outcome = 1 then e else { e with outcome := 2 } else r.2
  let s := (s.modRec fun x => { x with rp := rp, box := r.1 }).set Rp.RP_TICK (max (s.rN Rp.RP_TICK) r.1.now)
  if gap then s.rpEnd 2 else if past ≤ r.1.now + 1 then s.rpEnd s.rpVerdict else s

/-- A chunk is at hand (R408, R411): one that is not the chunk needed next, or is no longer held, has been overwritten; one of another epoch shows that
the session's epoch has ended. -/
def rpChunk (s : State) (c : RpChunk) : State :=
  let b := s.rcd.box
  if (b.next.isSome && decide (b.next ≠ some c.no)) || decide (c.no < s.rN Rc.CHUNK_OLDEST) then s.rpEnd 3
  else if c.epoch ≠ s.rN Rp.RP_EPOCH then s.rpRun { b with stop := some (b.stop.getD (b.top + 1)) }
  else s.rpRun (b.take c (s.rN Rp.RP_START))

end State
end Sys2Proof.Machine
end

