-- ==== Sys2Proof/Machine/RecorderCmd.lean ====
section
/-!
DEFINITION. Recorder and replay commands (R397-R413): what the drives answer, and what they hold, are operands.
-/

namespace Sys2Proof.Machine
namespace State

/-- J_FLUSH has elapsed since the open chunk's first record (R401). -/
def flushDue (s : State) (t : Tick) : State :=
  if s.rcd.recs ≠ [] ∧ s.rcd.openSince + s.rN Rc.J_FLUSH * ms ≤ t then s.closeChunk.recKick t else s

/-- The command on the drive ends (R406); one that waits for its retry is not on the drive. -/
def nvEnd (s : State) (ok : Bool) (t : Tick) : State :=
  match s.rcd.cmd with
  | some c => if c.retryAt.isSome then s else if ok then s.cmdOk c t else s.cmdBad c t
  | none => s

/-- The command on the drive has taken 1 s. -/
def nvLate (s : State) (t : Tick) : State :=
  match s.rcd.cmd with
  | some c => if c.retryAt.isNone && decide (c.issued + Sys2Proof.sec ≤ t) then s.cmdBad c t else s
  | none => s

/-- 1 ms after a failure the command is issued again. -/
def nvRetry (s : State) (t : Tick) : State :=
  match s.rcd.cmd with
  | some c => match c.retryAt with
    | some r => if r ≤ t then s.issue { c with issued := r, retryAt := none } else s
    | none => s
  | none => s

/-- A commit of the store header is due (R399). -/
def headerAtDue (s : State) (t : Tick) : State :=
  if 0 < s.rcd.sinceHeader ∧ (s.rcd.headerAt + 10 * Sys2Proof.sec ≤ t ∨ 1024 ≤ s.rcd.sinceHeader) then s.headerDue.recKick t else s

/-- The boot scan ends (R400): `next` is the first chunk that is not a valid continuation. A store without a header is laid out only
for a recorder that is enabled. -/
def scanDone (s : State) (d : DriveInfo) (next : Nat) (t : Tick) : State :=
  if s.bit Rc.J_STATUS JStatus.SCAN then
    let s := (s.driveSeen d).setBit Rc.J_STATUS JStatus.SCAN false
    let s := if !s.bit Rc.J_EN 0 && s.rcd.hdr.isNone && decide (storeChunks s.rcd.caps ≠ 0) then s else s.storeOpen next
    let s := s.when (s.bit Rc.J_STATUS JStatus.NO_STORE) fun s => s.setBit Rc.J_STATUS JStatus.RUN false
    let s := if s.rcd.shedOn || s.rcd.pfwShed then s else s.shedEnd t
    s.recKick t
  else s

/-- CKPT_INTERVAL has elapsed (R404). -/
def ckptDue (s : State) (t : Tick) : State := if s.recRun && decide (s.rcd.ckptAt ≤ t) then s.checkpoint t else s

/-- J2_SNAP_INTERVAL has elapsed: each selected port takes a SNAP at its next tick boundary. -/
def snapDueAll (s : State) (t : Tick) : State :=
  if s.recRun && decide (s.rcd.snapAt ≤ t) then
    (s.j2Ports.foldl (fun s p => s.snapWant p) s).modRec fun r => { r with snapAt := r.snapAt + s.rN Rc.J2_SNAP_INTERVAL * ms }
  else s

/-- The SEEK ends (R408): NO_START where no checkpoint stands at or before RP_START. -/
def seekDone (s : State) (found : Bool) : State :=
  if s.rN Rp.RP_STATE = 1 then (if found then s.set Rp.RP_STATE 2 else s.rpEnd 4) else s

/-- A chunk that the session waits for is at hand. -/
def rpNext (s : State) (c : RpChunk) : State := if s.rN Rp.RP_STATE = 2 then s.rpChunk c else s

end State

open State

def execJEn (t : Tick) (who : Principal) (v : Nat) (d : DriveInfo) (s : State) : Out := run t (fun t s => jEnWrite who v (some d) t s) s
def execStoreInit (t : Tick) (who : Principal) (v : Nat) (d : DriveInfo) (s : State) : Out := run t (fun t s => storeInitWrite who v (some d) t s) s
def execJFlushExpiry (t : Tick) (s : State) : Out := run t (fun t s => s.flushDue t) s
def execNvmeCmdComplete (t : Tick) (ok : Bool) (s : State) : Out := run t (fun t s => s.nvEnd ok t) s
def execNvmeCmdTimeout (t : Tick) (s : State) : Out := run t (fun t s => s.nvLate t) s
def execNvmeRetry (t : Tick) (s : State) : Out := run t (fun t s => s.nvRetry t) s
def execHeaderCommitDue (t : Tick) (s : State) : Out := run t (fun t s => s.headerAtDue t) s
def execJournalScanDone (t : Tick) (d : DriveInfo) (next : Nat) (s : State) : Out := run t (fun t s => s.scanDone d next t) s
def execCheckpointDue (t : Tick) (s : State) : Out := run t (fun t s => s.ckptDue t) s
def execJ2SnapDue (t : Tick) (s : State) : Out := run t (fun t s => s.snapDueAll t) s
def execOffloaded (t : Tick) (who : Principal) (v : Nat) (s : State) : Out := run t (fun t s => offloadedWrite who v t s) s
def execRpCtrlStart (t : Tick) (who : Principal) (s : State) : Out := run t (fun t s => rpCtrlWrite who 1 t s) s
def execRpCtrlStop (t : Tick) (who : Principal) (s : State) : Out := run t (fun t s => rpCtrlWrite who 2 t s) s
def execReplaySeekDone (t : Tick) (found : Bool) (s : State) : Out := run t (fun _ s => s.seekDone found) s
def execReplayChunkAvailable (t : Tick) (c : RpChunk) (s : State) : Out := run t (fun _ s => s.rpNext c) s

end Sys2Proof.Machine
end

