-- ==== Sys2Proof/Machine/RailsCmd.lean ====
section
/-!
DEFINITION. External rails over PMBus (R438, R439).
-/

namespace Sys2Proof.Machine
namespace State

/-- The rails' configuration is in force from step 8 of the boot on (R421). -/
def railsServed (s : State) : Bool := decide (8 ≤ s.pwr.boot)

def pollDue (s : State) (t : Tick) : State := if s.railsServed && decide (s.rail.pollAt ≤ t) then s.pmbPoll t else s
def alertAt (s : State) : State := if s.railsServed then s.pmbAlert else s

end State

open State

def execPmbPoll (t : Tick) (s : State) : Out := run t (fun t s => s.pollDue t) s
def execPmbAlert (t : Tick) (s : State) : Out := run t (fun _ s => s.alertAt) s
def execPmbTransactionDone (t : Tick) (ok : Bool) (data : Nat) (s : State) : Out := run t (fun t s => s.pmbDone ok data t) s
def execRailOn (t : Tick) (who : Principal) (n : RailId) (v : Nat) (s : State) : Out := run t (fun t s => railOnWrite who n v t s) s
def execRailPgTimeout (t : Tick) (n : RailId) (s : State) : Out := run t (fun t s => s.railTimeout n t) s
def execRailDelayEnd (t : Tick) (n : RailId) (s : State) : Out := run t (fun t s => s.seqDelayEnd n t) s

end Sys2Proof.Machine
end

