-- ==== Sys2Proof/Machine/FirmwareCmd.lean ====
section
/-!
DEFINITION. Firmware update (R427).
-/

namespace Sys2Proof.Machine
namespace State

/-- A core finishes its restart into the new image. -/
def coreRestarted (s : State) (t : Tick) : State := if s.rN Fw.FW_STATE = 3 ∧ s.fwx.restarting.isSome = true then s.fwCoreDone t else s

end State

open State

def execFwImage (t : Tick) (who : Principal) (img : FwImage) (s : State) : Out := run t (fun _ s => fwImageWrite who img s) s
def execFwStoreDone (t : Tick) (ok : Bool) (s : State) : Out := run t (fun t s => s.fwStored ok t) s
def execActivate (t : Tick) (who : Principal) (s : State) : Out := run t (fun t s => fwCtrlWrite who 1 t s) s
def execResetActivate (t : Tick) (who : Principal) (s : State) : Out := run t (fun t s => fwCtrlWrite who 2 t s) s
def execCoreRestartDone (t : Tick) (s : State) : Out := run t (fun t s => s.coreRestarted t) s

end Sys2Proof.Machine
end

