-- ==== Sys2Proof/Machine/LoopCmd.lean ====
section
/-!
DEFINITION. The loop tick, the estimator and the loop's records (R104-R126).
-/

namespace Sys2Proof.Machine
namespace State

/-- PREC_FLUSH has elapsed since the first record entered the LOOP block (R123). -/
def loopFlush (s : State) (p : Nat) (t : Tick) : State :=
  let y := (s.px p).loopY
  if y.recBlock ≠ [] ∧ y.recStart + s.live p (Pt.PREC_FLUSH p) * us ≤ t then s.closeLoop p else s

end State

open State

def execLoopTick (t : Tick) (p : PortId) (s : State) : Out := run t (fun t s => loopTick p t s) s
def execLoopFlushExpiry (t : Tick) (p : PortId) (s : State) : Out := run t (fun t s => s.loopFlush p t) s
def execLmVisit (t : Tick) (pipe : Fin 4) (s : State) : Out := run t (fun t s => lmVisitAt pipe t s) s

end Sys2Proof.Machine
end

