-- ==== Sys2Proof/Machine/Power.lean ====
section
/-!
DEFINITION. Power, reset, boot and group commands (R22, R63, R258, R416-R424, R433-R437, R440).
-/

namespace Sys2Proof.Machine
namespace State

/-- The supplies rise from OFF (R420): the output stages wait for the analog supplies (R63). -/
def supplyRise (s : State) (t : Tick) : State :=
  let s := ({ s with pwr := { s.pwr with anaLost := true, anaWait := none, psuEn := true, standby := false } } : State)
  s.deviceReset 0 t

/-- A low pulse on RESET_N: 1 µs or more resets the device, or wakes it from STANDBY (R419, R420). -/
def resetPulse (s : State) (width : Nat) (t : Tick) : State :=
  if width < us then s else if s.pwr.standby then s.standbyWake else s.deviceReset 1 t

/-- A brown-out resets the device (R436); in STANDBY the core supplies are off. -/
def brownOutReset (s : State) (t : Tick) : State := if s.pwr.standby then s else s.deviceReset 6 t

/-- The last of VAP, VAN and VDDA becomes valid: the start-up wait of R63 step 2 begins. -/
def analogValid (s : State) (t : Tick) : State :=
  if s.pwr.anaLost then s.modPwr fun p => { p with anaWait := some t } else s

/-- The start-up wait ends, 10 µs at the earliest. -/
def stageWaitEnd (s : State) (t : Tick) : State :=
  match s.pwr.anaWait with
  | some a => if a + 10 * us ≤ t then s.analogOn t else s
  | none => s

/-- RESET_N rises: time 0 of the boot (R421). -/
def resetRise (s : State) (sel : Bool) (t : Tick) : State :=
  if s.pwr.boot = 0 ∧ s.pwr.standby = false ∧ s.pwr.wakeWait = false then
    (s.modPwr fun p => { p with refSel := sel }).bootStart s.pwr.cause t
  else s

/-- The internal reset is released, after a wake or a brown-out. -/
def innerRelease (s : State) (t : Tick) : State :=
  if s.pwr.wakeWait then s.bootStart 2 t
  else if s.pwr.boot = 0 ∧ s.pwr.cause = 6 ∧ s.pwr.standby = false then s.bootStart 6 t
  else s

/-- The PLLs lock in step 2 of the boot. -/
def lockNow (s : State) (t : Tick) : State := if s.pwr.boot = 2 then s.bootLock t else s

/-- The start-up clear ends 65,536 ticks after its start (R258). -/
def clearNow (s : State) (t : Tick) : State :=
  if s.bit Fb.FAB_STATUS FabStatus.CLEARING && decide (s.pwr.clearDue ≤ t) then s.clearEnd t else s

/-- WAKE (R418, R419). -/
def wakeUp (s : State) (t : Tick) : State :=
  if s.pwr.standby then s.standbyWake else if s.rN Pw.POWER_STATE = 4 then s.idleWake t else s

/-- PFW_N falls (R440). -/
def pfwFall (s : State) (t : Tick) : State :=
  if s.pwr.pfwLow then s
  else
    let s := (s.modPwr fun p => { p with pfwLow := true }).setBit Pw.PWR_STATUS PwrStatus.PFW true
    if s.pwr.boot ≠ 0 then s.pfwActions t else s

def pfwRise (s : State) (t : Tick) : State :=
  if s.pwr.pfwLow then ((s.modPwr fun p => { p with pfwLow := false }).setBit Pw.PWR_STATUS PwrStatus.PFW false).pfwOver t else s

/-- A step of the gating or ungating sequence falls due (R433). -/
def gateStepDue (s : State) (g : Nat) (bad : Bool) (t : Tick) : State :=
  if s.served ∧ (s.gx g).gateStep ≠ 0 ∧ (s.gx g).gateDue ≤ t then s.gateStepEnd g bad else s

end State

open State

def execPowerOn (t : Tick) (s : State) : Out := run t (fun t s => s.supplyRise t) s
def execResetNLow (t : Tick) (width : Nat) (s : State) : Out := run t (fun t s => s.resetPulse width t) s
def execBrownOut (t : Tick) (s : State) : Out := run t (fun t s => s.brownOutReset t) s
def execAnalogSupplyLoss (t : Tick) (s : State) : Out := run t (fun t s => s.analogLoss t) s
def execAnalogSupplyValid (t : Tick) (s : State) : Out := run t (fun t s => s.analogValid t) s
def execOutputStageOn (t : Tick) (s : State) : Out := run t (fun t s => s.stageWaitEnd t) s
def execBootStepComplete (t : Tick) (bad : List SliceId) (s : State) : Out := run t (fun t s => s.bootStep (bad.map (·.val)) t) s
def execPllLock (t : Tick) (s : State) : Out := run t (fun t s => s.lockNow t) s
def execScratchpadClearEnd (t : Tick) (s : State) : Out := run t (fun t s => s.clearNow t) s
def execPowerReqRun (t : Tick) (who : Principal) (s : State) : Out := run t (fun t s => powerReq who 1 t s) s
def execPowerReqIdle (t : Tick) (who : Principal) (s : State) : Out := run t (fun t s => powerReq who 2 t s) s
def execPowerReqStandby (t : Tick) (who : Principal) (s : State) : Out := run t (fun t s => powerReq who 3 t s) s
def execPowerReqReset (t : Tick) (who : Principal) (s : State) : Out := run t (fun t s => powerReq who 4 t s) s
def execWake (t : Tick) (s : State) : Out := run t (fun t s => s.wakeUp t) s
def execPfwNFall (t : Tick) (s : State) : Out := run t (fun t s => s.pfwFall t) s
def execPfwNRise (t : Tick) (s : State) : Out := run t (fun t s => s.pfwRise t) s
def execResetNRise (t : Tick) (refclkSel : Bool) (s : State) : Out := run t (fun t s => s.resetRise refclkSel t) s
def execInternalResetRelease (t : Tick) (s : State) : Out := run t (fun t s => s.innerRelease t) s

def execQuiesce (t : Tick) (who : Principal) (g : GroupId) (s : State) : Out := run t (fun t s => groupCtrl who g 1 t s) s
def execRelease (t : Tick) (who : Principal) (g : GroupId) (s : State) : Out := run t (fun t s => groupCtrl who g 2 t s) s
def execGate (t : Tick) (who : Principal) (g : GroupId) (s : State) : Out := run t (fun t s => groupCtrl who g 4 t s) s
def execUngate (t : Tick) (who : Principal) (g : GroupId) (s : State) : Out := run t (fun t s => groupCtrl who g 8 t s) s
def execGateStepEnd (t : Tick) (g : GroupId) (bad : Bool) (s : State) : Out := run t (fun t s => s.gateStepDue g bad t) s

end Sys2Proof.Machine
end

