-- ==== Sys2Proof/Machine/SecurityCmd.lean ====
section
/-!
DEFINITION. Security and life cycle (R446-R460).
-/

namespace Sys2Proof.Machine
namespace State

/-- The entropy source fails a health test (R453). -/
def rngFail (s : State) : State := if s.pwr.boot ≠ 0 then s.setBit Se.SEC_STATUS SecStatus.RNG_FAIL true else s

/-- A tamper source is detected (R454, R456): a pin acts while it is enabled, a detector always; in STANDBY the always-on domain latches
an enabled pin. -/
def tamperAt (s : State) (src : Nat) (t : Tick) : State :=
  let armed := decide (2 ≤ src) || s.bit Se.TAMP_EN src
  if !armed then s
  else if s.pwr.standby then
    (if src < 2 then { s with sec := { s.sec with tampLatch := s.sec.tampLatch ||| 2 ^ src } } else s)
  else if s.pwr.boot ≠ 0 then s.tamper src t
  else s

/-- 10 s have passed since LC_REQ without a confirm (R459). -/
def lcReqLate (s : State) (t : Tick) : State :=
  match s.sec.lcReq with
  | some (_, due) => if due ≤ t then s.lcCancel else s
  | none => s

/-- The step of a transition under way ends; step 2 ends with its wipe. -/
def lcStepAt (s : State) (t : Tick) : State :=
  if s.sec.lcStep = 2 ∧ (s.wiping || s.micro.any fun m => decide (m.2 = Micro.wipe)) = true then s else s.lcStepEnd t

end State

open State

def execSecHolders (t : Tick) (who : Principal) (v : Nat) (s : State) : Out := run t (fun _ s => secHoldersWrite who v s) s
def execOwnAssign (t : Tick) (who : Principal) (v : Nat) (s : State) : Out := run t (fun t s => ownAssignWrite who v t s) s
def execDeviceClaim (t : Tick) (who : Principal) (v : Nat) (s : State) : Out := run t (fun t s => claimWrite who v t s) s
def execSvnLock (t : Tick) (who : Principal) (v : Nat) (s : State) : Out := run t (fun _ s => svnLockWrite who v s) s
def execKey (t : Tick) (who : Principal) (k : KeyId) (key : List Byte) (s : State) : Out := run t (fun _ s => keyWriteReq who k key s) s
def execKeyRevoke (t : Tick) (who : Principal) (k : KeyId) (v : Nat) (s : State) : Out := run t (fun _ s => keyRevokeWrite who k v s) s
def execRngHealthFail (t : Tick) (s : State) : Out := run t (fun _ s => s.rngFail) s
def execTamper (t : Tick) (src : TamperSrc) (s : State) : Out := run t (fun t s => s.tamperAt src t) s
def execLcReq (t : Tick) (who : Principal) (v : Nat) (s : State) : Out := run t (fun t s => lcReqWrite who v t s) s
def execLcConfirm (t : Tick) (who : Principal) (v : Nat) (s : State) : Out := run t (fun t s => lcConfirmWrite who v t s) s
def execLcReqTimeout (t : Tick) (s : State) : Out := run t (fun t s => s.lcReqLate t) s
def execLcStepEnd (t : Tick) (s : State) : Out := run t (fun t s => s.lcStepAt t) s

end Sys2Proof.Machine
end

