-- ==== Sys2Proof/Machine/Dispatch.lean ====
section
/-!
DEFINITION. One arm per command: a direct call of its meaning.
-/

namespace Sys2Proof.Machine

def exec (i : Instr) (s : State) : Host.Outcome State Fault Refusal :=
  match i with
  | .powerOn t => Sys2Proof.Machine.execPowerOn t s
  | .resetNLow t width => Sys2Proof.Machine.execResetNLow t width s
  | .brownOut t => Sys2Proof.Machine.execBrownOut t s
  | .analogSupplyLoss t => Sys2Proof.Machine.execAnalogSupplyLoss t s
  | .analogSupplyValid t => Sys2Proof.Machine.execAnalogSupplyValid t s
  | .outputStageOn t => Sys2Proof.Machine.execOutputStageOn t s
  | .bootStepComplete t bad => Sys2Proof.Machine.execBootStepComplete t bad s
  | .pllLock t => Sys2Proof.Machine.execPllLock t s
  | .scratchpadClearEnd t => Sys2Proof.Machine.execScratchpadClearEnd t s
  | .powerReqRun t who => Sys2Proof.Machine.execPowerReqRun t who s
  | .powerReqIdle t who => Sys2Proof.Machine.execPowerReqIdle t who s
  | .powerReqStandby t who => Sys2Proof.Machine.execPowerReqStandby t who s
  | .powerReqReset t who => Sys2Proof.Machine.execPowerReqReset t who s
  | .wake t => Sys2Proof.Machine.execWake t s
  | .pfwNFall t => Sys2Proof.Machine.execPfwNFall t s
  | .pfwNRise t => Sys2Proof.Machine.execPfwNRise t s
  | .quiesce t who g => Sys2Proof.Machine.execQuiesce t who g s
  | .release t who g => Sys2Proof.Machine.execRelease t who g s
  | .gate t who g => Sys2Proof.Machine.execGate t who g s
  | .ungate t who g => Sys2Proof.Machine.execUngate t who g s
  | .gateStepEnd t g bad => Sys2Proof.Machine.execGateStepEnd t g bad s
  | .enable t who p => Sys2Proof.Machine.execEnable t who p s
  | .enableSpanHoldEnd t p => Sys2Proof.Machine.execEnableSpanHoldEnd t p s
  | .gatePermit t p => Sys2Proof.Machine.execGatePermit t p s
  | .disable t who p => Sys2Proof.Machine.execDisable t who p s
  | .dischargeEnd t p => Sys2Proof.Machine.execDischargeEnd t p s
  | .rampDone t p => Sys2Proof.Machine.execRampDone t p s
  | .span t who p v => Sys2Proof.Machine.execSpan t who p v s
  | .spanHoldEnd t p => Sys2Proof.Machine.execSpanHoldEnd t p s
  | .clrNFall t => Sys2Proof.Machine.execClrNFall t s
  | .clrNRise t => Sys2Proof.Machine.execClrNRise t s
  | .fltInRise t p => Sys2Proof.Machine.execFltInRise t p s
  | .fltInFall t p => Sys2Proof.Machine.execFltInFall t p s
  | .clearRelease t who p => Sys2Proof.Machine.execClearRelease t who p s
  | .readbackNow t who p => Sys2Proof.Machine.execReadbackNow t who p s
  | .readbackDue t p => Sys2Proof.Machine.execReadbackDue t p s
  | .timerStrike t p => Sys2Proof.Machine.execTimerStrike t p s
  | .dacStrike t p => Sys2Proof.Machine.execDacStrike t p s
  | .loopTick t p => Sys2Proof.Machine.execLoopTick t p s
  | .loopFlushExpiry t p => Sys2Proof.Machine.execLoopFlushExpiry t p s
  | .lmVisit t pipe => Sys2Proof.Machine.execLmVisit t pipe s
  | .fastConversion t p cv ci => Sys2Proof.Machine.execFastConversion t p cv ci s
  | .precWindowClose t p xv xi => Sys2Proof.Machine.execPrecWindowClose t p xv xi s
  | .precFlushExpiry t p => Sys2Proof.Machine.execPrecFlushExpiry t p s
  | .ovrAssert t p q neg common => Sys2Proof.Machine.execOvrAssert t p q neg common s
  | .ovrRelease t p q common => Sys2Proof.Machine.execOvrRelease t p q common s
  | .rangeMakeEnd t p => Sys2Proof.Machine.execRangeMakeEnd t p s
  | .rangeParallelEnd t p => Sys2Proof.Machine.execRangeParallelEnd t p s
  | .rangeBreakEnd t p => Sys2Proof.Machine.execRangeBreakEnd t p s
  | .rangeGuardEnd t p => Sys2Proof.Machine.execRangeGuardEnd t p s
  | .cmpTransition t p q v => Sys2Proof.Machine.execCmpTransition t p q v s
  | .cmpFirstDecision t p q v => Sys2Proof.Machine.execCmpFirstDecision t p q v s
  | .smStrobeStart t p q => Sys2Proof.Machine.execSmStrobeStart t p q s
  | .smStrobeDecision t p q v => Sys2Proof.Machine.execSmStrobeDecision t p q v s
  | .smStrobeEnd t p q => Sys2Proof.Machine.execSmStrobeEnd t p q s
  | .pgenCtrlStart t who p => Sys2Proof.Machine.execPgenCtrlStart t who p s
  | .pgenCtrlStop t who p => Sys2Proof.Machine.execPgenCtrlStop t who p s
  | .pgenCtrlRearm t who p => Sys2Proof.Machine.execPgenCtrlRearm t who p s
  | .pgenCtrlTrip t who p => Sys2Proof.Machine.execPgenCtrlTrip t who p s
  | .pgenRiseEdge t p => Sys2Proof.Machine.execPgenRiseEdge t p s
  | .pgenFallEdge t p => Sys2Proof.Machine.execPgenFallEdge t p s
  | .pgenGateEdge t p => Sys2Proof.Machine.execPgenGateEdge t p s
  | .pgenStart t p => Sys2Proof.Machine.execPgenStart t p s
  | .pgenStop t p => Sys2Proof.Machine.execPgenStop t p s
  | .pgenRearm t p => Sys2Proof.Machine.execPgenRearm t p s
  | .pgenTripIn t p => Sys2Proof.Machine.execPgenTripIn t p s
  | .runStateStart t who c => Sys2Proof.Machine.execRunStateStart t who c s
  | .runStateStop t who c => Sys2Proof.Machine.execRunStateStop t who c s
  | .runStateAbort t who c => Sys2Proof.Machine.execRunStateAbort t who c s
  | .queueSelection t p => Sys2Proof.Machine.execQueueSelection t p s
  | .seqHold t who p v => Sys2Proof.Machine.execSeqHold t who p v s
  | .seqArm t p => Sys2Proof.Machine.execSeqArm t p s
  | .pointInstant t p => Sys2Proof.Machine.execPointInstant t p s
  | .pointDone t p => Sys2Proof.Machine.execPointDone t p s
  | .stallAgeUpdate t => Sys2Proof.Machine.execStallAgeUpdate t s
  | .scanFrameStart t => Sys2Proof.Machine.execScanFrameStart t s
  | .scanFrameEnd t miso => Sys2Proof.Machine.execScanFrameEnd t miso s
  | .scnRetryExpiry t p => Sys2Proof.Machine.execScnRetryExpiry t p s
  | .scanSettleEnd t p => Sys2Proof.Machine.execScanSettleEnd t p s
  | .commit t who l => Sys2Proof.Machine.execCommit t who l s
  | .pllLockLoss t => Sys2Proof.Machine.execPllLockLoss t s
  | .refclkLost t => Sys2Proof.Machine.execRefclkLost t s
  | .refclkReturn t => Sys2Proof.Machine.execRefclkReturn t s
  | .taiSet t who v => Sys2Proof.Machine.execTaiSet t who v s
  | .segmentBegin t => Sys2Proof.Machine.execSegmentBegin t s
  | .ppsIn t => Sys2Proof.Machine.execPpsIn t s
  | .ppsOutRise t => Sys2Proof.Machine.execPpsOutRise t s
  | .ppsOutFall t => Sys2Proof.Machine.execPpsOutFall t s
  | .ptpSync t port twoStep domain origin corr => Sys2Proof.Machine.execPtpSync t port twoStep domain origin corr s
  | .ptpDelayResp t port domain recv corr => Sys2Proof.Machine.execPtpDelayResp t port domain recv corr s
  | .disciplineTimeout t => Sys2Proof.Machine.execDisciplineTimeout t s
  | .syncFrameTx t => Sys2Proof.Machine.execSyncFrameTx t s
  | .syncFrameRx t T t0 n0 rate tai crcOk => Sys2Proof.Machine.execSyncFrameRx t T t0 n0 rate tai crcOk s
  | .syncStreamLoss t => Sys2Proof.Machine.execSyncStreamLoss t s
  | .syncReacquire t T => Sys2Proof.Machine.execSyncReacquire t T s
  | .resync t who v => Sys2Proof.Machine.execResync t who v s
  | .trigRise t n => Sys2Proof.Machine.execTrigRise t n s
  | .trigFall t n => Sys2Proof.Machine.execTrigFall t n s
  | .fire t who e => Sys2Proof.Machine.execFire t who e s
  | .tmr t k => Sys2Proof.Machine.execTmr t k s
  | .dlyOut t k => Sys2Proof.Machine.execDlyOut t k s
  | .dlyFire t k => Sys2Proof.Machine.execDlyFire t k s
  | .ecInc t k => Sys2Proof.Machine.execEcInc t k s
  | .ecClr t k => Sys2Proof.Machine.execEcClr t k s
  | .trigOut t n => Sys2Proof.Machine.execTrigOut t n s
  | .trigPulseEnd t n => Sys2Proof.Machine.execTrigPulseEnd t n s
  | .gongDelivery t => Sys2Proof.Machine.execGongDelivery t s
  | .chEn t who e v => Sys2Proof.Machine.execChEn t who e v s
  | .fabricAccess t rs => Sys2Proof.Machine.execFabricAccess t rs s
  | .eccWriteback t a => Sys2Proof.Machine.execEccWriteback t a s
  | .regionEn t who r v => Sys2Proof.Machine.execRegionEn t who r v s
  | .regionZeroDone t r => Sys2Proof.Machine.execRegionZeroDone t r s
  | .ringEn t who r v => Sys2Proof.Machine.execRingEn t who r v s
  | .ringBlockCommit t r => Sys2Proof.Machine.execRingBlockCommit t r s
  | .consHost t who r v => Sys2Proof.Machine.execConsHost t who r v s
  | .sapphireWipeEnd t => Sys2Proof.Machine.execSapphireWipeEnd t s
  | .btBorrowStart t => Sys2Proof.Machine.execBtBorrowStart t s
  | .btCopyEnd t => Sys2Proof.Machine.execBtCopyEnd t s
  | .btTestEnd t pass => Sys2Proof.Machine.execBtTestEnd t pass s
  | .btWritebackEnd t => Sys2Proof.Machine.execBtWritebackEnd t s
  | .btRequest t who v => Sys2Proof.Machine.execBtRequest t who v s
  | .winLoRead t f spad off k => Sys2Proof.Machine.execWinLoRead t f spad off k s
  | .winLoWrite t f spad off v => Sys2Proof.Machine.execWinLoWrite t f spad off v s
  | .winHiWrite t f spad off v => Sys2Proof.Machine.execWinHiWrite t f spad off v s
  | .winSpadWrite t f a v => Sys2Proof.Machine.execWinSpadWrite t f a v s
  | .directWrite t f off k v => Sys2Proof.Machine.execDirectWrite t f off k v s
  | .fetchadd t f spad off x => Sys2Proof.Machine.execFetchadd t f spad off x s
  | .swap t f spad off x => Sys2Proof.Machine.execSwap t f spad off x s
  | .supervisionDue t i0 alt => Sys2Proof.Machine.execSupervisionDue t i0 alt s
  | .mcReq t who v => Sys2Proof.Machine.execMcReq t who v s
  | .mcSamplingInstant t => Sys2Proof.Machine.execMcSamplingInstant t s
  | .mcConversionDone t code ovf => Sys2Proof.Machine.execMcConversionDone t code ovf s
  | .mcPauseEnd t => Sys2Proof.Machine.execMcPauseEnd t s
  | .mcQueueSpace t r => Sys2Proof.Machine.execMcQueueSpace t r s
  | .refXferReq t who v => Sys2Proof.Machine.execRefXferReq t who v s
  | .refXferIntervalExpiry t => Sys2Proof.Machine.execRefXferIntervalExpiry t s
  | .calRetryExpiry t => Sys2Proof.Machine.execCalRetryExpiry t s
  | .xferStepEnd t d => Sys2Proof.Machine.execXferStepEnd t d s
  | .calRunStepEnd t g d => Sys2Proof.Machine.execCalRunStepEnd t g d s
  | .recordCommitDone t ok => Sys2Proof.Machine.execRecordCommitDone t ok s
  | .rotTrigger t g => Sys2Proof.Machine.execRotTrigger t g s
  | .rotRequest t who g v => Sys2Proof.Machine.execRotRequest t who g v s
  | .rotMinGapEnd t g => Sys2Proof.Machine.execRotMinGapEnd t g s
  | .rotShadowEnd t g => Sys2Proof.Machine.execRotShadowEnd t g s
  | .agreeTestEnd t g dV dI trip => Sys2Proof.Machine.execAgreeTestEnd t g dV dI trip s
  | .transferSwap t g => Sys2Proof.Machine.execTransferSwap t g s
  | .transferRelease t g => Sys2Proof.Machine.execTransferRelease t g s
  | .transferEnd t g => Sys2Proof.Machine.execTransferEnd t g s
  | .stressAccrue t => Sys2Proof.Machine.execStressAccrue t s
  | .healthEval t ro => Sys2Proof.Machine.execHealthEval t ro s
  | .healthCommitDue t i0 => Sys2Proof.Machine.execHealthCommitDue t i0 s
  | .wornReq t who i0 v => Sys2Proof.Machine.execWornReq t who i0 v s
  | .winNoticeEnd t g => Sys2Proof.Machine.execWinNoticeEnd t g s
  | .go t who p => Sys2Proof.Machine.execGo t who p s
  | .winAbort t who p => Sys2Proof.Machine.execWinAbort t who p s
  | .voteWarmupEnd t d0 d1 => Sys2Proof.Machine.execVoteWarmupEnd t d0 d1 s
  | .heartbeatMiss t c => Sys2Proof.Machine.execHeartbeatMiss t c s
  | .coreFault t c => Sys2Proof.Machine.execCoreFault t c s
  | .coreTakeoverDone t => Sys2Proof.Machine.execCoreTakeoverDone t s
  | .heldCommandEnqueue t g => Sys2Proof.Machine.execHeldCommandEnqueue t g s
  | .odWrite t who key data => Sys2Proof.Machine.execOdWrite t who key data s
  | .cfgSave t who v => Sys2Proof.Machine.execCfgSave t who v s
  | .ethFrameRx t port f => Sys2Proof.Machine.execEthFrameRx t port f s
  | .bridgeBufferedSend t port => Sys2Proof.Machine.execBridgeBufferedSend t port s
  | .t1lLinkChange t port up => Sys2Proof.Machine.execT1lLinkChange t port up s
  | .canSegmentRx t id data => Sys2Proof.Machine.execCanSegmentRx t id data s
  | .canSegmentTimeout t => Sys2Proof.Machine.execCanSegmentTimeout t s
  | .canBusoff t recovered => Sys2Proof.Machine.execCanBusoff t recovered s
  | .sessionOpen t peer msg => Sys2Proof.Machine.execSessionOpen t peer msg s
  | .copRead t peer msg => Sys2Proof.Machine.execCopRead t peer msg s
  | .copWrite t peer msg => Sys2Proof.Machine.execCopWrite t peer msg s
  | .copReadBlock t peer msg => Sys2Proof.Machine.execCopReadBlock t peer msg s
  | .copWriteBlock t peer msg => Sys2Proof.Machine.execCopWriteBlock t peer msg s
  | .subscribe t peer msg => Sys2Proof.Machine.execSubscribe t peer msg s
  | .copAbort t peer msg => Sys2Proof.Machine.execCopAbort t peer msg s
  | .blockTransferTimeout t mb n => Sys2Proof.Machine.execBlockTransferTimeout t mb n s
  | .sessionTimeout t k => Sys2Proof.Machine.execSessionTimeout t k s
  | .close t who k v => Sys2Proof.Machine.execClose t who k v s
  | .subscriptionRead t k num => Sys2Proof.Machine.execSubscriptionRead t k num s
  | .notify t k => Sys2Proof.Machine.execNotify t k s
  | .legRead t frame => Sys2Proof.Machine.execLegRead t frame s
  | .legWrite t frame => Sys2Proof.Machine.execLegWrite t frame s
  | .pcieReset t => Sys2Proof.Machine.execPcieReset t s
  | .flr t f => Sys2Proof.Machine.execFlr t f s
  | .d3hot t f => Sys2Proof.Machine.execD3hot t f s
  | .mbRead t f id body => Sys2Proof.Machine.execMbRead t f id body s
  | .mbWrite t f id body => Sys2Proof.Machine.execMbWrite t f id body s
  | .mbReadBlock t f id body => Sys2Proof.Machine.execMbReadBlock t f id body s
  | .mbWriteBlock t f id body => Sys2Proof.Machine.execMbWriteBlock t f id body s
  | .mbAbort t f id body => Sys2Proof.Machine.execMbAbort t f id body s
  | .spadCopy t f id body host => Sys2Proof.Machine.execSpadCopy t f id body host s
  | .mbResponse t f => Sys2Proof.Machine.execMbResponse t f s
  | .dmaEn t who r v => Sys2Proof.Machine.execDmaEn t who r v s
  | .descTail t who r v => Sys2Proof.Machine.execDescTail t who r v s
  | .dmaBlockTransfer t r d => Sys2Proof.Machine.execDmaBlockTransfer t r d s
  | .dmaBlockAcked t r => Sys2Proof.Machine.execDmaBlockAcked t r s
  | .dmaFlushExpiry t r => Sys2Proof.Machine.execDmaFlushExpiry t r s
  | .descFetchError t r => Sys2Proof.Machine.execDescFetchError t r s
  | .nqEntryWrite t f => Sys2Proof.Machine.execNqEntryWrite t f s
  | .irqHoldoffEnd t f vec => Sys2Proof.Machine.execIrqHoldoffEnd t f vec s
  | .jEn t who v d => Sys2Proof.Machine.execJEn t who v d s
  | .storeInit t who v d => Sys2Proof.Machine.execStoreInit t who v d s
  | .jFlushExpiry t => Sys2Proof.Machine.execJFlushExpiry t s
  | .nvmeCmdComplete t ok => Sys2Proof.Machine.execNvmeCmdComplete t ok s
  | .nvmeCmdTimeout t => Sys2Proof.Machine.execNvmeCmdTimeout t s
  | .headerCommitDue t => Sys2Proof.Machine.execHeaderCommitDue t s
  | .journalScanDone t d next => Sys2Proof.Machine.execJournalScanDone t d next s
  | .checkpointDue t => Sys2Proof.Machine.execCheckpointDue t s
  | .j2SnapDue t => Sys2Proof.Machine.execJ2SnapDue t s
  | .offloaded t who v => Sys2Proof.Machine.execOffloaded t who v s
  | .rpCtrlStart t who => Sys2Proof.Machine.execRpCtrlStart t who s
  | .rpCtrlStop t who => Sys2Proof.Machine.execRpCtrlStop t who s
  | .replaySeekDone t found => Sys2Proof.Machine.execReplaySeekDone t found s
  | .replayChunkAvailable t c => Sys2Proof.Machine.execReplayChunkAvailable t c s
  | .pmbPoll t => Sys2Proof.Machine.execPmbPoll t s
  | .pmbAlert t => Sys2Proof.Machine.execPmbAlert t s
  | .pmbTransactionDone t ok data => Sys2Proof.Machine.execPmbTransactionDone t ok data s
  | .railOn t who n v => Sys2Proof.Machine.execRailOn t who n v s
  | .railPgTimeout t n => Sys2Proof.Machine.execRailPgTimeout t n s
  | .railDelayEnd t n => Sys2Proof.Machine.execRailDelayEnd t n s
  | .fwImage t who img => Sys2Proof.Machine.execFwImage t who img s
  | .fwStoreDone t ok => Sys2Proof.Machine.execFwStoreDone t ok s
  | .activate t who => Sys2Proof.Machine.execActivate t who s
  | .resetActivate t who => Sys2Proof.Machine.execResetActivate t who s
  | .coreRestartDone t => Sys2Proof.Machine.execCoreRestartDone t s
  | .secHolders t who v => Sys2Proof.Machine.execSecHolders t who v s
  | .ownAssign t who v => Sys2Proof.Machine.execOwnAssign t who v s
  | .deviceClaim t who v => Sys2Proof.Machine.execDeviceClaim t who v s
  | .svnLock t who v => Sys2Proof.Machine.execSvnLock t who v s
  | .key t who k key => Sys2Proof.Machine.execKey t who k key s
  | .keyRevoke t who k v => Sys2Proof.Machine.execKeyRevoke t who k v s
  | .rngHealthFail t => Sys2Proof.Machine.execRngHealthFail t s
  | .tamper t src => Sys2Proof.Machine.execTamper t src s
  | .lcReq t who v => Sys2Proof.Machine.execLcReq t who v s
  | .lcConfirm t who v => Sys2Proof.Machine.execLcConfirm t who v s
  | .lcReqTimeout t => Sys2Proof.Machine.execLcReqTimeout t s
  | .lcStepEnd t => Sys2Proof.Machine.execLcStepEnd t s
  | .resetNRise t refclkSel => Sys2Proof.Machine.execResetNRise t refclkSel s
  | .internalResetRelease t => Sys2Proof.Machine.execInternalResetRelease t s
  | .pcieLinkUp t speed width => Sys2Proof.Machine.execPcieLinkUp t speed width s
  | .vfEnable t n => Sys2Proof.Machine.execVfEnable t n s
  | .d0Entry t f => Sys2Proof.Machine.execD0Entry t f s
  | .nvmeRetry t => Sys2Proof.Machine.execNvmeRetry t s
  | .deferredReadback t p => Sys2Proof.Machine.execDeferredReadback t p s
  | .vectorUnmask t f vec => Sys2Proof.Machine.execVectorUnmask t f vec s

end Sys2Proof.Machine
end

