-- ==== Sys2Proof/Safety.lean ====
section
/-!
DEFINITION. The terms in which statements speak of a run: the canonical form of the tables, the grant and the completion of an access
(R343, R345), and the footprint of a command: the part of the state outside which it changes nothing.
-/

namespace Sys2Proof

open Machine in
/-- A row that is a write of a command entry which only the owner of the entry's scope may make: the tick, the writer, and the entry. -/
def Instr.request : Instr → Option (Tick × Nat × Nat)
  | .powerReqRun t w => some (t, w, Pw.POWER_REQ)
  | .powerReqIdle t w => some (t, w, Pw.POWER_REQ)
  | .powerReqStandby t w => some (t, w, Pw.POWER_REQ)
  | .powerReqReset t w => some (t, w, Pw.POWER_REQ)
  | .quiesce t w g => some (t, w, Gr.GROUP_CTRL g)
  | .release t w g => some (t, w, Gr.GROUP_CTRL g)
  | .gate t w g => some (t, w, Gr.GROUP_CTRL g)
  | .ungate t w g => some (t, w, Gr.GROUP_CTRL g)
  | .enable t w p => some (t, w, Pt.PORT_CTRL p)
  | .disable t w p => some (t, w, Pt.PORT_CTRL p)
  | .span t w p _ => some (t, w, Pt.SPAN p)
  | .clearRelease t w p => some (t, w, Pt.FORCE_CTRL p)
  | .readbackNow t w p => some (t, w, Pt.FORCE_CTRL p)
  | .pgenCtrlStart t w p => some (t, w, Pt.PGEN_CTRL p)
  | .pgenCtrlStop t w p => some (t, w, Pt.PGEN_CTRL p)
  | .pgenCtrlRearm t w p => some (t, w, Pt.PGEN_CTRL p)
  | .pgenCtrlTrip t w p => some (t, w, Pt.PGEN_CTRL p)
  | .go t w p => some (t, w, Pt.WIN_CTRL p)
  | .winAbort t w p => some (t, w, Pt.WIN_CTRL p)
  | .runStateStart t w c => some (t, w, Cx.RUN_STATE c)
  | .runStateStop t w c => some (t, w, Cx.RUN_STATE c)
  | .seqHold t w p _ => some (t, w, Pt.SEQ_HOLD p)
  | .commit t w l => some (t, w, Ls.COMMIT l)
  | .taiSet t w _ => some (t, w, Tb.TAI_SET)
  | .resync t w _ => some (t, w, Tb.RESYNC)
  | .fire t w e => some (t, w, Ch.FIRE e)
  | .chEn t w e _ => some (t, w, Ch.CH_EN e)
  | .regionEn t w r _ => some (t, w, Rg.REGION_EN r)
  | .ringEn t w r _ => some (t, w, Rn.RING_EN r)
  | .consHost t w r _ => some (t, w, Rn.CONS_HOST r)
  | .btRequest t w _ => some (t, w, Fb.BT_REQUEST)
  | .mcReq t w _ => some (t, w, Mc.MC_REQ)
  | .refXferReq t w _ => some (t, w, Ca.REF_XFER_REQ)
  | .rotRequest t w g _ => some (t, w, Gr.ROT_REQUEST g)
  | .wornReq t w i _ => some (t, w, Sl.WORN_REQ i)
  | .close t w k _ => some (t, w, Ss.CLOSE k)
  | .dmaEn t w r _ => some (t, w, Dm.DMA_EN r)
  | .descTail t w r _ => some (t, w, Dm.DESC_TAIL r)
  | .cfgSave t w _ => some (t, w, Dv.CFG_SAVE)
  | .jEn t w _ _ => some (t, w, Rc.J_EN)
  | .storeInit t w _ _ => some (t, w, Rc.STORE_INIT)
  | .offloaded t w _ => some (t, w, Rc.OFFLOADED)
  | .rpCtrlStart t w => some (t, w, Rp.RP_CTRL)
  | .rpCtrlStop t w => some (t, w, Rp.RP_CTRL)
  | .railOn t w n _ => some (t, w, Rl.RAIL_ON n)
  | .fwImage t w _ => some (t, w, Fw.FW_IMAGE)
  | .activate t w => some (t, w, Fw.FW_CTRL)
  | .resetActivate t w => some (t, w, Fw.FW_CTRL)
  | .secHolders t w _ => some (t, w, Se.SEC_HOLDERS)
  | .ownAssign t w _ => some (t, w, Se.OWN_ASSIGN)
  | .svnLock t w _ => some (t, w, Se.SVN_LOCK)
  | .keyRevoke t w k _ => some (t, w, Ky.KEY_REVOKE k)
  | .lcReq t w _ => some (t, w, Se.LC_REQ)
  | .lcConfirm t w _ => some (t, w, Se.LC_CONFIRM)
  | _ => none

end Sys2Proof

namespace Sys2Proof.Machine.State

/-- Every sparse table that software addresses is in its canonical form: the object dictionary and the scratchpad. -/
def tablesOk (s : State) : Bool := Tab.wf dfltReg s.regs && Tab.wf (fun _ => (0 : W40)) s.spad

/-- Checks 3 to 6 of R345 pass for a write of `key` by the principal `who`: the device serves the access, the writer owns the scope, the
object is not in use, the life-cycle state does not lock the entry, and the entry is accessible in the present power state. -/
def grants (s : State) (who key : Nat) : Bool :=
  s.reaches who key && (s.ownerAbort who key).isNone && !s.inUse key && !s.lcLocked who key && !s.idleKey key

/-- A write of the value `v` completes with the effect `eff`: it is journalled (R404), acts, and is answered OK (R343). -/
def completes (s : State) (who key v : Nat) (eff : State → State) : State := (eff (s.jConfig key who v)).accept who key []

/-- The answer OK to a write of `key` by `who`. -/
def okFor (who key : Nat) : Option Resp := some { who := who, key := key, abort := 0, data := [] }

end Sys2Proof.Machine.State

/-! ### Footprints -/

namespace Sys2Proof.Machine

/-- The fields of State beside the entries and the queue, by their names. -/
inductive Part where
  | now | blobs | ports | groups | slices | micro | fab | scan | tb | spad | mem | mc | cal | age
  | od | net | pcie | rcd | pwr | fwx | rail | lm | sec | nv | tx | resp | fresh
deriving DecidableEq, Repr

def Part.all : List Part :=
  [.now, .blobs, .ports, .groups, .slices, .micro, .fab, .scan, .tb, .spad, .mem, .mc, .cal, .age,
   .od, .net, .pcie, .rcd, .pwr, .fwx, .rail, .lm, .sec, .nv, .tx, .resp, .fresh]

/-- What a command may change. Of the entries: those of the records `recs`, and of every record from `lo` on; a record is numbered by the
index of its entries in the object dictionary (R339), and 0x10000 lies above the last. Of the other fields: `parts`. -/
structure Foot where
  lo : Nat
  recs : List Nat
  parts : List Part
deriving DecidableEq, Repr

namespace Foot

/-- The records of the four sessions, where an event counts that a subscription could not be served. -/
def sessions : List Nat := [0x1220, 0x1221, 0x1222, 0x1223]

def allBut (l : List Part) : List Part := Part.all.filter fun p => !l.contains p

/-- Everything but the queue. -/
def any : Foot := ⟨0, [], Part.all⟩

/-- The record `n` lies in the footprint. -/
def covers (F : Foot) (n : Nat) : Prop := F.lo ≤ n ∨ n ∈ F.recs

def has (F : Foot) (p : Part) : Prop := p ∈ F.parts

/-- From `a` to `u` nothing changes outside the footprint: not the queue, no entry of a record that is not covered, no field of State that
is not among the parts; and tables in their canonical form stay so. -/
structure leaves (F : Foot) (a u : State) : Prop where
  queue : u.pending = a.pending
  tables : a.tablesOk = true → u.tablesOk = true
  regs : ∀ k, ¬F.covers (k / 256) → u.reg k = a.reg k
  now : F.has .now ∨ u.now = a.now
  blobs : F.has .blobs ∨ u.blobs = a.blobs
  ports : F.has .ports ∨ u.ports = a.ports
  groups : F.has .groups ∨ u.groups = a.groups
  slices : F.has .slices ∨ u.slices = a.slices
  micro : F.has .micro ∨ u.micro = a.micro
  fab : F.has .fab ∨ u.fab = a.fab
  scan : F.has .scan ∨ u.scan = a.scan
  tb : F.has .tb ∨ u.tb = a.tb
  spad : F.has .spad ∨ u.spad = a.spad
  mem : F.has .mem ∨ u.mem = a.mem
  mc : F.has .mc ∨ u.mc = a.mc
  cal : F.has .cal ∨ u.cal = a.cal
  age : F.has .age ∨ u.age = a.age
  od : F.has .od ∨ u.od = a.od
  net : F.has .net ∨ u.net = a.net
  pcie : F.has .pcie ∨ u.pcie = a.pcie
  rcd : F.has .rcd ∨ u.rcd = a.rcd
  pwr : F.has .pwr ∨ u.pwr = a.pwr
  fwx : F.has .fwx ∨ u.fwx = a.fwx
  rail : F.has .rail ∨ u.rail = a.rail
  lm : F.has .lm ∨ u.lm = a.lm
  sec : F.has .sec ∨ u.sec = a.sec
  nv : F.has .nv ∨ u.nv = a.nv
  tx : F.has .tx ∨ u.tx = a.tx
  resp : F.has .resp ∨ u.resp = a.resp
  fresh : F.has .fresh ∨ u.fresh = a.fresh

end Foot

end Sys2Proof.Machine

namespace Sys2Proof

open Machine

/-- What a command of the ports: force, measure, comparators, pulse generators, loops and sequencers may change, and the tick at which it acts. -/
def Instr.portFoot : Instr → Option (Tick × Foot)
  | .enable t _ _ => some (t, ⟨0x2380, Foot.sessions ++ [0x2000, 0x2001], (Foot.allBut [.now, .tb, .age, .fwx, .rail, .lm, .sec, .fresh])⟩)
  | .enableSpanHoldEnd t p => some (t, ⟨0x10000, [0x8000, 0x4000 + (p : Nat)], [.ports, .micro, .rcd, .tx]⟩)
  | .gatePermit t _ => some (t, ⟨0x3000, [0x2000, 0x2001], [.ports, .groups, .slices, .micro, .cal, .rcd, .pwr, .nv, .tx]⟩)
  | .disable t _ _ => some (t, ⟨0x2380, Foot.sessions ++ [0x2000, 0x2001], (Foot.allBut [.now, .tb, .age, .fwx, .rail, .lm, .sec, .fresh])⟩)
  | .dischargeEnd t _ => some (t, ⟨0x3000, [0x2000, 0x2001], [.ports, .groups, .slices, .micro, .cal, .rcd, .pwr, .nv, .tx]⟩)
  | .rampDone t _ => some (t, ⟨0x3000, [0x2000, 0x2001], [.ports, .groups, .slices, .micro, .cal, .rcd, .pwr, .nv, .tx]⟩)
  | .span t _ _ _ => some (t, ⟨0x2380, Foot.sessions ++ [0x2000, 0x2001], (Foot.allBut [.now, .tb, .age, .fwx, .rail, .lm, .sec, .fresh])⟩)
  | .spanHoldEnd t _ => some (t, ⟨0x3000, [0x2000, 0x2001], [.ports, .groups, .slices, .micro, .cal, .rcd, .pwr, .nv, .tx]⟩)
  | .clrNFall t => some (t, ⟨0x3000, [0x2000, 0x2001], [.ports, .groups, .slices, .micro, .cal, .rcd, .pwr, .nv, .tx]⟩)
  | .clrNRise t => some (t, ⟨0x4000, [], [.ports, .rcd, .pwr, .tx]⟩)
  | .fltInRise t _ => some (t, ⟨0x3000, Foot.sessions ++ [0x2000, 0x2001], [.ports, .groups, .slices, .micro, .fab, .cal, .net, .pcie, .rcd, .pwr, .nv, .tx]⟩)
  | .fltInFall t p => some (t, ⟨0x10000, [0x8000, 0x4000 + (p : Nat)], [.ports, .rcd, .tx]⟩)
  | .clearRelease t _ _ => some (t, ⟨0x2380, Foot.sessions ++ [0x2000, 0x2001], (Foot.allBut [.now, .tb, .age, .fwx, .rail, .lm, .sec, .fresh])⟩)
  | .readbackNow t _ _ => some (t, ⟨0x2380, Foot.sessions ++ [0x2000, 0x2001], (Foot.allBut [.now, .tb, .age, .fwx, .rail, .lm, .sec, .fresh])⟩)
  | .readbackDue t _ => some (t, ⟨0x10000, [0x2500], [.ports, .mc]⟩)
  | .deferredReadback t _ => some (t, ⟨0x10000, [0x2500], [.ports, .mc]⟩)
  | .timerStrike t p => some (t, ⟨0x5000, Foot.sessions ++ [0x4000 + (p : Nat)], [.ports, .fab, .net, .pcie, .rcd]⟩)
  | .loopTick t _ => some (t, ⟨0x2380, Foot.sessions ++ [0x2000, 0x2001], (Foot.allBut [.now, .tb, .age, .fwx, .rail, .lm, .sec, .resp, .fresh])⟩)
  | .loopFlushExpiry t _ => some (t, ⟨0x2380, [], [.ports, .groups, .spad, .mem]⟩)
  | .lmVisit t _ => some (t, ⟨0x4000, [], [.ports, .lm]⟩)
  | .fastConversion t _ _ _ => some (t, ⟨0x2380, [], [.ports, .groups, .spad, .mem, .rcd]⟩)
  | .precWindowClose t p _ _ => some (t, ⟨0x6000, [0x4000 + (p : Nat)], [.ports, .micro]⟩)
  | .precFlushExpiry t _ => some (t, ⟨0x2380, [], [.ports, .groups, .spad, .mem]⟩)
  | .ovrAssert t _ _ _ _ => some (t, ⟨0x4000, [], [.ports, .rcd]⟩)
  | .ovrRelease t _ _ _ => some (t, ⟨0x10000, [0x8000], [.ports, .rcd]⟩)
  | .rangeMakeEnd t p => some (t, ⟨0x10000, [0x8000, 0x4000 + (p : Nat)], [.ports, .rcd]⟩)
  | .rangeParallelEnd t _ => some (t, ⟨0x2380, [], [.ports, .groups, .spad, .mem, .rcd, .tx]⟩)
  | .rangeBreakEnd t _ => some (t, ⟨0x3000, [0x2000, 0x2001], [.ports, .groups, .slices, .micro, .cal, .rcd, .pwr, .nv, .tx]⟩)
  | .rangeGuardEnd t _ => some (t, ⟨0x3000, [0x2000, 0x2001], [.ports, .groups, .slices, .micro, .cal, .rcd, .pwr, .nv, .tx]⟩)
  | .cmpTransition t p _ _ => some (t, ⟨0x5000, Foot.sessions ++ [0x4000 + (p : Nat)], [.ports, .slices, .micro, .fab, .net, .pcie, .rcd, .tx]⟩)
  | .cmpFirstDecision t p _ _ => some (t, ⟨0x5000, Foot.sessions ++ [0x4000 + (p : Nat)], [.ports, .slices, .micro, .fab, .net, .pcie, .rcd, .tx]⟩)
  | .smStrobeStart t p _ => some (t, ⟨0x5000, Foot.sessions ++ [0x4000 + (p : Nat)], [.ports, .slices, .micro, .fab, .net, .pcie, .rcd, .tx]⟩)
  | .smStrobeDecision t p _ _ => some (t, ⟨0x5000, Foot.sessions ++ [0x4000 + (p : Nat)], [.ports, .slices, .micro, .fab, .net, .pcie, .rcd, .tx]⟩)
  | .smStrobeEnd t p _ => some (t, ⟨0x5000, Foot.sessions ++ [0x4000 + (p : Nat)], [.ports, .slices, .micro, .fab, .net, .pcie, .rcd, .tx]⟩)
  | .pgenCtrlStart t _ _ => some (t, ⟨0x10000, [0x2000], [.groups, .resp]⟩)
  | .pgenCtrlStop t _ _ => some (t, ⟨0x10000, [0x2000], [.groups, .resp]⟩)
  | .pgenCtrlRearm t _ _ => some (t, ⟨0x10000, [0x2000], [.groups, .resp]⟩)
  | .pgenCtrlTrip t _ _ => some (t, ⟨0x10000, [0x2000], [.groups, .resp]⟩)
  | .pgenRiseEdge t p => some (t, ⟨0x5000, Foot.sessions ++ [0x4000 + (p : Nat)], [.ports, .fab, .net, .pcie, .rcd, .tx]⟩)
  | .pgenFallEdge t p => some (t, ⟨0x5000, Foot.sessions ++ [0x4000 + (p : Nat)], [.ports, .fab, .net, .pcie, .rcd, .tx]⟩)
  | .pgenGateEdge t p => some (t, ⟨0x10000, [0x4000 + (p : Nat)], [.ports, .tx]⟩)
  | .pgenStart t p => some (t, ⟨0x5000, Foot.sessions ++ [0x4000 + (p : Nat)], [.ports, .micro, .fab, .net, .pcie, .rcd, .tx]⟩)
  | .pgenStop t p => some (t, ⟨0x5000, Foot.sessions ++ [0x4000 + (p : Nat)], [.ports, .micro, .fab, .net, .pcie, .rcd, .tx]⟩)
  | .pgenRearm t p => some (t, ⟨0x5000, Foot.sessions ++ [0x4000 + (p : Nat)], [.ports, .micro, .fab, .net, .pcie, .rcd, .tx]⟩)
  | .pgenTripIn t p => some (t, ⟨0x5000, Foot.sessions ++ [0x4000 + (p : Nat)], [.ports, .micro, .fab, .net, .pcie, .rcd, .tx]⟩)
  | .dacStrike t p => some (t, ⟨0x5000, Foot.sessions ++ [0x4000 + (p : Nat)], [.ports, .micro, .fab, .net, .pcie, .rcd, .tx]⟩)
  | .runStateStart t _ _ => some (t, ⟨0x4000, [0x2000, 0x2400], [.ports, .groups, .micro, .od, .rcd, .nv, .resp]⟩)
  | .runStateStop t _ _ => some (t, ⟨0x4000, [0x2000, 0x2400], [.ports, .groups, .micro, .od, .rcd, .nv, .resp]⟩)
  | .runStateAbort t _ _ => some (t, ⟨0x4000, [0x2000, 0x2400], [.ports, .groups, .micro, .od, .rcd, .nv, .resp]⟩)
  | .queueSelection t _ => some (t, ⟨0x10000, [], [.micro]⟩)
  | .seqHold t _ _ _ => some (t, ⟨0x2380, Foot.sessions ++ [0x2000, 0x2001], (Foot.allBut [.now, .tb, .age, .fwx, .rail, .lm, .sec, .fresh])⟩)
  | .seqArm t p => some (t, ⟨0x5000, Foot.sessions ++ [0x4000 + (p : Nat)], [.ports, .micro, .fab, .net, .pcie, .rcd, .tx]⟩)
  | .pointInstant t p => some (t, ⟨0x5000, Foot.sessions ++ [0x4000 + (p : Nat)], [.ports, .fab, .net, .pcie, .rcd, .tx]⟩)
  | .pointDone t _ => some (t, ⟨0x4000, Foot.sessions ++ [0x2000, 0x2400], [.ports, .micro, .fab, .scan, .od, .net, .pcie, .rcd, .nv, .tx]⟩)
  | .stallAgeUpdate t => some (t, ⟨0x5000, Foot.sessions, [.ports, .fab, .net, .pcie, .rcd]⟩)
  | .scanFrameStart t => some (t, ⟨0x10000, [], [.scan, .tx]⟩)
  | .scanFrameEnd t _ => some (t, ⟨0x4000, [0x2400], [.ports, .scan]⟩)
  | .scnRetryExpiry t _ => some (t, ⟨0x10000, [], [.scan]⟩)
  | .scanSettleEnd t _ => some (t, ⟨0x6000, [], [.ports]⟩)
  | .commit t _ l => some (t, ⟨0x10000, [0x2000, 0x8000, 0x7000 + (l : Nat)], [.spad, .mem, .rcd, .resp]⟩)
  | _ => none

/-- What a command of the units that serve them: time base, Carillon, monitor, rails and firmware may change, and the tick at which it acts. -/
def Instr.unitFoot : Instr → Option (Tick × Foot)
  | .pllLockLoss t => some (t, ⟨0x10000, [0x2100, 0x9000], [.blobs, .micro, .tb, .nv]⟩)
  | .refclkLost t => some (t, ⟨0x10000, [0x2100], [.tb]⟩)
  | .refclkReturn t => some (t, ⟨0x10000, [0x2100], [.tb]⟩)
  | .taiSet t _ _ => some (t, ⟨0x10000, [0x2000, 0x8000], [.tb, .rcd, .resp]⟩)
  | .segmentBegin t => some (t, ⟨0x5000, Foot.sessions ++ [0x2100], [.fab, .tb, .net, .pcie, .rcd, .fresh]⟩)
  | .ppsIn t => some (t, ⟨0x10000, [0x2100, 0x8000], [.tb, .rcd]⟩)
  | .ppsOutRise t => some (t, ⟨0x5000, Foot.sessions, [.fab, .tb, .net, .pcie, .rcd, .tx]⟩)
  | .ppsOutFall t => some (t, ⟨0x10000, [], [.tb, .tx]⟩)
  | .ptpSync t _ _ _ _ _ => some (t, ⟨0x10000, [0x2100], [.tb, .tx]⟩)
  | .ptpDelayResp t _ _ _ _ => some (t, ⟨0x10000, [0x2100], [.tb]⟩)
  | .disciplineTimeout t => some (t, ⟨0x10000, [0x2100], [.tb]⟩)
  | .syncFrameTx t => some (t, ⟨0x10000, [], [.tx]⟩)
  | .syncFrameRx t _ _ _ _ _ _ => some (t, ⟨0x10000, [0x2100, 0x8000], [.now, .tb, .rcd]⟩)
  | .syncStreamLoss t => some (t, ⟨0x10000, [0x2100], [.tb]⟩)
  | .syncReacquire t _ => some (t, ⟨0x10000, [0x2100], [.now, .tb]⟩)
  | .resync t _ _ => some (t, ⟨0x10000, [0x2000, 0x2100, 0x8000], [.now, .tb, .rcd, .resp]⟩)
  | .trigRise t _ => some (t, ⟨0x5000, Foot.sessions, [.fab, .net, .pcie, .rcd]⟩)
  | .trigFall t _ => some (t, ⟨0x5000, Foot.sessions, [.fab, .net, .pcie, .rcd]⟩)
  | .fire t _ e => some (t, ⟨0x10000, Foot.sessions ++ [0x2000, 0x8000, 0x5000 + (e : Nat)], [.fab, .net, .pcie, .rcd, .resp]⟩)
  | .tmr t _ => some (t, ⟨0x5000, Foot.sessions, [.fab, .net, .pcie, .rcd]⟩)
  | .dlyOut t k => some (t, ⟨0x5000, Foot.sessions ++ [0x2280 + (k : Nat)], [.fab, .net, .pcie, .rcd]⟩)
  | .dlyFire t k => some (t, ⟨0x5000, Foot.sessions ++ [0x2280 + (k : Nat)], [.fab, .net, .pcie, .rcd]⟩)
  | .ecInc t k => some (t, ⟨0x5000, Foot.sessions ++ [0x2240 + (k : Nat)], [.fab, .net, .pcie, .rcd]⟩)
  | .ecClr t k => some (t, ⟨0x10000, [0x2240 + (k : Nat)], [.fab]⟩)
  | .trigOut t _ => some (t, ⟨0x5000, [0x2200], [.fab, .tx]⟩)
  | .trigPulseEnd t _ => some (t, ⟨0x10000, [], [.fab, .tx]⟩)
  | .gongDelivery t => some (t, ⟨0x4000, Foot.sessions ++ [0x2200], [.ports, .micro, .fab, .net, .pcie, .rcd, .tx]⟩)
  | .chEn t _ e _ => some (t, ⟨0x10000, [0x2000, 0x8000, 0x5000 + (e : Nat)], [.od, .rcd, .nv, .resp]⟩)
  | .supervisionDue t _ _ => some (t, ⟨0x10000, [0x2500], [.mc]⟩)
  | .mcReq t _ _ => some (t, ⟨0x10000, [0x2000, 0x2500, 0x8000], [.mc, .rcd, .resp]⟩)
  | .mcSamplingInstant t => some (t, ⟨0x10000, [], [.ports, .mc]⟩)
  | .mcConversionDone t _ _ => some (t, ⟨0x2500, Foot.sessions ++ [0x2000, 0x2001], [.blobs, .ports, .groups, .slices, .micro, .fab, .mc, .cal, .age, .net, .pcie, .rcd, .pwr, .nv, .tx]⟩)
  | .mcPauseEnd t => some (t, ⟨0x10000, [0x2500], [.mc]⟩)
  | .mcQueueSpace t _ => some (t, ⟨0x10000, [0x2500, 0x8000], [.mc, .rcd]⟩)
  | .pmbPoll t => some (t, ⟨0x10000, [], [.rail, .tx]⟩)
  | .pmbAlert t => some (t, ⟨0x10000, [], [.rail, .tx]⟩)
  | .pmbTransactionDone t _ _ => some (t, ⟨0x2010, [0x2001], [.groups, .rail, .tx]⟩)
  | .railOn t _ n _ => some (t, ⟨0x10000, [0x2000, 0x8000, 0x2010 + (n : Nat)], [.rcd, .rail, .tx, .resp]⟩)
  | .railPgTimeout t _ => some (t, ⟨0x2010, [0x2001], [.groups, .rail, .tx]⟩)
  | .railDelayEnd t _ => some (t, ⟨0x2010, [], [.rail, .tx]⟩)
  | .fwImage t _ _ => some (t, ⟨0x10000, [0x2000, 0x2002], [.fwx, .resp]⟩)
  | .fwStoreDone t _ => some (t, ⟨0x10000, [0x2002, 0x2700], [.micro, .fwx, .tx]⟩)
  | .activate t _ => some (t, ⟨0x10000, [0x2000, 0x2002, 0x8000], [.micro, .rcd, .fwx, .resp]⟩)
  | .resetActivate t _ => some (t, ⟨0x10000, [0x2000, 0x2002, 0x8000], [.micro, .rcd, .fwx, .resp]⟩)
  | .coreRestartDone t => some (t, ⟨0x1000, [], [.age, .fwx]⟩)
  | _ => none

/-- What a command of what keeps data: the scratchpad, the recorder, the object dictionary, calibration and ageing may change, and the tick at which it acts. -/
def Instr.storeFoot : Instr → Option (Tick × Foot)
  | .fabricAccess t _ => some (t, ⟨0x2300, [], [.micro, .spad, .mem, .tx]⟩)
  | .eccWriteback t _ => some (t, ⟨0x10000, [], [.mem]⟩)
  | .regionEn t _ r _ => some (t, ⟨0x10000, [0x2000, 0x8000, 0x2340 + (r : Nat)], [.spad, .mem, .od, .rcd, .nv, .resp]⟩)
  | .regionZeroDone t r => some (t, ⟨0x10000, [0x2340 + (r : Nat)], []⟩)
  | .ringEn t _ r _ => some (t, ⟨0x10000, [0x2000, 0x8000, 0x2380 + (r : Nat)], [.groups, .spad, .mem, .od, .rcd, .nv, .resp]⟩)
  | .ringBlockCommit t r => some (t, ⟨0x10000, [0x2380 + (r : Nat)], [.groups, .spad, .mem]⟩)
  | .consHost t _ r _ => some (t, ⟨0x10000, [0x2000, 0x8000, 0x2380 + (r : Nat)], [.spad, .mem, .rcd, .resp]⟩)
  | .sapphireWipeEnd t => some (t, ⟨0x1110, [0x1100], [.spad, .mem, .pcie, .tx, .resp]⟩)
  | .btBorrowStart t => some (t, ⟨0x10000, [0x2300], [.mem]⟩)
  | .btCopyEnd t => some (t, ⟨0x10000, [0x2300], [.blobs, .mem]⟩)
  | .btTestEnd t _ => some (t, ⟨0x10000, [0x2300, 0x9000], [.blobs, .mem, .nv]⟩)
  | .btWritebackEnd t => some (t, ⟨0x10000, [0x2300], [.blobs, .mem]⟩)
  | .btRequest t _ _ => some (t, ⟨0x10000, [0x2000, 0x8000], [.mem, .rcd, .resp]⟩)
  | .jEn t _ _ _ => some (t, ⟨0x10000, [0x2000, 0x8000], [.tb, .rcd, .tx, .resp]⟩)
  | .storeInit t _ _ _ => some (t, ⟨0x10000, [0x2000, 0x8000], [.tb, .rcd, .tx, .resp]⟩)
  | .jFlushExpiry t => some (t, ⟨0x10000, [0x8000], [.rcd, .tx]⟩)
  | .nvmeCmdComplete t _ => some (t, ⟨0x10000, [0x8000], [.rcd, .tx]⟩)
  | .nvmeCmdTimeout t => some (t, ⟨0x10000, [0x8000], [.rcd]⟩)
  | .nvmeRetry t => some (t, ⟨0x10000, [], [.rcd, .tx]⟩)
  | .headerCommitDue t => some (t, ⟨0x10000, [0x8000], [.rcd, .tx]⟩)
  | .journalScanDone t _ _ => some (t, ⟨0x10000, [0x8000], [.rcd, .tx]⟩)
  | .checkpointDue t => some (t, ⟨0x10000, [0x8000], [.rcd]⟩)
  | .j2SnapDue t => some (t, ⟨0x10000, [], [.rcd]⟩)
  | .offloaded t _ _ => some (t, ⟨0x10000, [0x2000, 0x8000], [.rcd, .tx, .resp]⟩)
  | .rpCtrlStart t _ => some (t, ⟨0x10000, [0x2000, 0x8000, 0x8001], [.rcd, .resp]⟩)
  | .rpCtrlStop t _ => some (t, ⟨0x10000, [0x2000, 0x8000, 0x8001], [.rcd, .resp]⟩)
  | .replaySeekDone t _ => some (t, ⟨0x10000, [0x8001], []⟩)
  | .replayChunkAvailable t _ => some (t, ⟨0x10000, [0x8001], [.rcd]⟩)
  | .heldCommandEnqueue t _ => some (t, ⟨0x0, [], (Foot.allBut [.age, .lm, .fresh])⟩)
  | .odWrite t _ _ _ => some (t, ⟨0x0, [], (Foot.allBut [.age, .lm, .fresh])⟩)
  | .cfgSave t _ _ => some (t, ⟨0x10000, [0x2000, 0x8000], [.rcd, .nv, .resp]⟩)
  | .refXferReq t _ _ => some (t, ⟨0x10000, [0x2000, 0x2600, 0x8000], [.cal, .rcd, .resp]⟩)
  | .refXferIntervalExpiry t => some (t, ⟨0x10000, [0x2600], [.cal]⟩)
  | .calRetryExpiry t => some (t, ⟨0x10000, [0x2600], [.cal]⟩)
  | .xferStepEnd t _ => some (t, ⟨0x3000, [0x2000, 0x2001, 0x2600], [.ports, .groups, .slices, .micro, .cal, .rcd, .pwr, .nv, .tx]⟩)
  | .calRunStepEnd t _ _ => some (t, ⟨0x3000, [0x2000, 0x2001, 0x2600], [.blobs, .ports, .groups, .slices, .micro, .cal, .rcd, .pwr, .nv, .tx]⟩)
  | .recordCommitDone t _ => some (t, ⟨0x3000, [0x2000, 0x2001, 0x2600], [.blobs, .ports, .groups, .slices, .micro, .cal, .age, .rcd, .pwr, .nv, .tx]⟩)
  | .rotTrigger t _ => some (t, ⟨0x3000, [0x2000, 0x2001, 0x2600], [.ports, .groups, .slices, .micro, .cal, .rcd, .pwr, .nv, .tx]⟩)
  | .rotRequest t _ _ _ => some (t, ⟨0x3000, [0x2000, 0x2001, 0x2600], [.ports, .groups, .slices, .micro, .cal, .rcd, .pwr, .nv, .tx, .resp]⟩)
  | .rotMinGapEnd t _ => some (t, ⟨0x3000, [0x2000, 0x2001, 0x2600], [.blobs, .ports, .groups, .slices, .micro, .cal, .rcd, .pwr, .nv, .tx]⟩)
  | .rotShadowEnd t g => some (t, ⟨0x10000, [0x3000 + (g : Nat)], [.cal]⟩)
  | .agreeTestEnd t _ _ _ _ => some (t, ⟨0x3000, [0x2000, 0x2001, 0x2600], [.ports, .groups, .slices, .micro, .cal, .rcd, .pwr, .nv, .tx]⟩)
  | .transferSwap t _ => some (t, ⟨0x10000, [], [.cal]⟩)
  | .transferRelease t _ => some (t, ⟨0x3000, [], [.slices, .cal, .rcd]⟩)
  | .transferEnd t _ => some (t, ⟨0x3000, [0x2000, 0x2001, 0x2600], [.blobs, .ports, .groups, .slices, .micro, .cal, .rcd, .pwr, .nv, .tx]⟩)
  | .stressAccrue t => some (t, ⟨0x4100, [], [.slices, .age]⟩)
  | .healthEval t _ => some (t, ⟨0x3000, [], [.slices, .age, .rcd]⟩)
  | .healthCommitDue t _ => some (t, ⟨0x10000, [], [.nv]⟩)
  | .wornReq t _ _ _ => some (t, ⟨0x10000, [0x2000, 0x8000], [.slices, .rcd, .resp]⟩)
  | .winNoticeEnd t _ => some (t, ⟨0x3000, [], [.ports, .groups, .slices, .micro, .cal, .rcd, .tx]⟩)
  | .go t _ _ => some (t, ⟨0x2380, Foot.sessions ++ [0x2000, 0x2001], (Foot.allBut [.now, .tb, .age, .fwx, .rail, .lm, .sec, .fresh])⟩)
  | .winAbort t _ _ => some (t, ⟨0x2380, Foot.sessions ++ [0x2000, 0x2001], (Foot.allBut [.now, .tb, .age, .fwx, .rail, .lm, .sec, .fresh])⟩)
  | .voteWarmupEnd t _ _ => some (t, ⟨0x3000, [0x2000, 0x2001, 0x2600], [.blobs, .ports, .groups, .slices, .micro, .cal, .age, .rcd, .pwr, .nv, .tx]⟩)
  | .heartbeatMiss t _ => some (t, ⟨0x0, [], (Foot.allBut [.lm, .fresh])⟩)
  | .coreFault t _ => some (t, ⟨0x0, [], (Foot.allBut [.lm, .fresh])⟩)
  | .coreTakeoverDone t => some (t, ⟨0x10000, [0x9000], [.blobs, .age, .nv]⟩)
  | _ => none

/-- What a command of the links to the outside: PCIe, the two Ethernet ports, CAN and the sessions may change, and the tick at which it acts. -/
def Instr.linkFoot : Instr → Option (Tick × Foot)
  | .winLoRead t _ _ _ _ => some (t, ⟨0x10000, [0x1100, 0x2300], [.mem, .pcie, .tx]⟩)
  | .winLoWrite t _ _ _ _ => some (t, ⟨0x0, [], (Foot.allBut [.age, .lm, .fresh])⟩)
  | .winHiWrite t _ _ _ _ => some (t, ⟨0x0, [], (Foot.allBut [.age, .lm, .fresh])⟩)
  | .winSpadWrite t _ _ _ => some (t, ⟨0x10000, [0x1100, 0x2300], [.spad, .mem, .tx]⟩)
  | .directWrite t _ _ _ _ => some (t, ⟨0x0, [], (Foot.allBut [.age, .lm, .fresh])⟩)
  | .fetchadd t _ _ _ _ => some (t, ⟨0x10000, [0x1100, 0x2300], [.spad, .mem, .tx]⟩)
  | .swap t _ _ _ _ => some (t, ⟨0x10000, [0x1100, 0x2300], [.spad, .mem, .tx]⟩)
  | .pcieReset t => some (t, ⟨0x1110, [0x1100], [.groups, .mem, .pcie, .tx]⟩)
  | .flr t _ => some (t, ⟨0x1110, [0x1100], [.groups, .mem, .pcie, .tx]⟩)
  | .d3hot t _ => some (t, ⟨0x1110, [], [.pcie, .tx]⟩)
  | .d0Entry t _ => some (t, ⟨0x10000, [], [.pcie]⟩)
  | .pcieLinkUp t _ _ => some (t, ⟨0x10000, [0x1100], []⟩)
  | .vfEnable t _ => some (t, ⟨0x1110, [0x1100], [.groups, .mem, .pcie, .tx]⟩)
  | .mbRead t _ _ _ => some (t, ⟨0x0, [], (Foot.allBut [.age, .lm, .fresh])⟩)
  | .mbWrite t _ _ _ => some (t, ⟨0x0, [], (Foot.allBut [.age, .lm, .fresh])⟩)
  | .mbReadBlock t _ _ _ => some (t, ⟨0x0, [], (Foot.allBut [.age, .lm, .fresh])⟩)
  | .mbWriteBlock t _ _ _ => some (t, ⟨0x0, [], (Foot.allBut [.age, .lm, .fresh])⟩)
  | .mbAbort t _ _ _ => some (t, ⟨0x0, [], (Foot.allBut [.age, .lm, .fresh])⟩)
  | .spadCopy t _ _ _ _ => some (t, ⟨0x0, [], (Foot.allBut [.age, .lm, .fresh])⟩)
  | .mbResponse t _ => some (t, ⟨0x10000, [], [.pcie, .tx]⟩)
  | .dmaEn t _ r _ => some (t, ⟨0x10000, [0x2000, 0x8000, 0x1110 + (r : Nat)], [.pcie, .rcd, .tx, .resp]⟩)
  | .descTail t _ r _ => some (t, ⟨0x10000, [0x2000, 0x8000, 0x1110 + (r : Nat)], [.rcd, .resp]⟩)
  | .dmaBlockTransfer t r _ => some (t, ⟨0x10000, [0x1100, 0x2300, 0x1110 + (r : Nat)], [.mem, .pcie, .tx]⟩)
  | .dmaBlockAcked t r => some (t, ⟨0x10000, [0x2380 + (r : Nat), 0x1110 + (r : Nat)], [.spad, .mem, .pcie]⟩)
  | .dmaFlushExpiry t r => some (t, ⟨0x10000, [0x1110 + (r : Nat)], [.pcie, .tx]⟩)
  | .descFetchError t r => some (t, ⟨0x10000, [0x1110 + (r : Nat)], [.pcie, .tx]⟩)
  | .nqEntryWrite t f => some (t, ⟨0x10000, [0x1140 + (f : Nat)], [.pcie, .tx]⟩)
  | .irqHoldoffEnd t _ _ => some (t, ⟨0x10000, [], [.pcie, .tx]⟩)
  | .vectorUnmask t _ _ => some (t, ⟨0x10000, [], [.pcie, .tx]⟩)
  | .ethFrameRx t _ _ => some (t, ⟨0x0, [], (Foot.allBut [.age, .lm])⟩)
  | .bridgeBufferedSend t _ => some (t, ⟨0x10000, [0x1201], [.net, .tx, .fresh]⟩)
  | .t1lLinkChange t _ _ => some (t, ⟨0x10000, [0x1200], [.net]⟩)
  | .canSegmentRx t _ _ => some (t, ⟨0x0, [], (Foot.allBut [.age, .lm])⟩)
  | .canSegmentTimeout t => some (t, ⟨0x10000, [0x1210], [.net]⟩)
  | .canBusoff t _ => some (t, ⟨0x10000, [0x1210], []⟩)
  | .sessionOpen t _ _ => some (t, ⟨0x0, [], (Foot.allBut [.age, .lm])⟩)
  | .copRead t _ _ => some (t, ⟨0x0, [], (Foot.allBut [.age, .lm])⟩)
  | .copWrite t _ _ => some (t, ⟨0x0, [], (Foot.allBut [.age, .lm])⟩)
  | .copReadBlock t _ _ => some (t, ⟨0x0, [], (Foot.allBut [.age, .lm])⟩)
  | .copWriteBlock t _ _ => some (t, ⟨0x0, [], (Foot.allBut [.age, .lm])⟩)
  | .subscribe t _ _ => some (t, ⟨0x0, [], (Foot.allBut [.age, .lm])⟩)
  | .copAbort t _ _ => some (t, ⟨0x0, [], (Foot.allBut [.age, .lm])⟩)
  | .blockTransferTimeout t _ _ => some (t, ⟨0x10000, [], [.net, .pcie]⟩)
  | .sessionTimeout t k => some (t, ⟨0x10000, [0x1220 + (k : Nat)], [.groups, .net, .tx]⟩)
  | .close t _ k _ => some (t, ⟨0x10000, [0x2000, 0x8000, 0x1220 + (k : Nat)], [.groups, .net, .rcd, .tx, .resp]⟩)
  | .subscriptionRead t k _ => some (t, ⟨0x10000, [0x2000, 0x2300, 0x1220 + (k : Nat)], [.mem, .net, .resp]⟩)
  | .notify t _ => some (t, ⟨0x10000, [], [.net, .tx]⟩)
  | .legRead t _ => some (t, ⟨0x0, [], (Foot.allBut [.age, .lm, .fresh])⟩)
  | .legWrite t _ => some (t, ⟨0x0, [], (Foot.allBut [.age, .lm, .fresh])⟩)
  | _ => none

/-- What a command of power, reset, boot, ownership, keys and the life cycle may change, and the tick at which it acts. -/
def Instr.guardFoot : Instr → Option (Tick × Foot)
  | .powerOn t => some (t, ⟨0x0, [], (Foot.allBut [.fresh])⟩)
  | .resetNLow t _ => some (t, ⟨0x0, [], (Foot.allBut [.fresh])⟩)
  | .brownOut t => some (t, ⟨0x0, [], (Foot.allBut [.fresh])⟩)
  | .analogSupplyLoss t => some (t, ⟨0x3000, [0x2000, 0x2001], [.ports, .groups, .slices, .micro, .cal, .rcd, .pwr, .nv, .tx]⟩)
  | .analogSupplyValid t => some (t, ⟨0x10000, [], [.pwr]⟩)
  | .outputStageOn t => some (t, ⟨0x4000, [], [.ports, .rcd, .pwr, .tx]⟩)
  | .bootStepComplete t _ => some (t, ⟨0x0, [], (Foot.allBut [.now, .scan, .mc, .od, .lm, .resp, .fresh])⟩)
  | .pllLock t => some (t, ⟨0x10000, [0x2100, 0x8000], [.now, .tb, .rcd, .pwr]⟩)
  | .scratchpadClearEnd t => some (t, ⟨0x0, [], [.blobs, .ports, .slices, .micro, .scan, .tb, .spad, .mem, .mc, .cal, .od, .rcd, .pwr, .sec, .nv, .tx]⟩)
  | .powerReqRun t _ => some (t, ⟨0x3000, [0x2000, 0x2001, 0x2600], [.blobs, .ports, .groups, .slices, .micro, .scan, .cal, .rcd, .pwr, .nv, .tx, .resp]⟩)
  | .powerReqIdle t _ => some (t, ⟨0x3000, [0x2000, 0x2001, 0x2600], [.blobs, .ports, .groups, .slices, .micro, .scan, .cal, .rcd, .pwr, .nv, .tx, .resp]⟩)
  | .powerReqStandby t _ => some (t, ⟨0x3000, [0x2000, 0x2001, 0x2600], [.blobs, .ports, .groups, .slices, .micro, .scan, .cal, .rcd, .pwr, .nv, .tx, .resp]⟩)
  | .powerReqReset t _ => some (t, ⟨0x3000, [0x2000, 0x2001, 0x2600], [.blobs, .ports, .groups, .slices, .micro, .scan, .cal, .rcd, .pwr, .nv, .tx, .resp]⟩)
  | .wake t => some (t, ⟨0x3000, [0x2000, 0x2001], [.ports, .groups, .slices, .micro, .rcd, .pwr, .nv, .tx]⟩)
  | .pfwNFall t => some (t, ⟨0x3000, [0x2000, 0x2001], [.ports, .groups, .slices, .micro, .cal, .rcd, .pwr, .nv, .tx]⟩)
  | .pfwNRise t => some (t, ⟨0x4000, [0x2001], [.ports, .rcd, .pwr, .tx]⟩)
  | .resetNRise t _ => some (t, ⟨0x10000, [0x2001], [.pwr]⟩)
  | .internalResetRelease t => some (t, ⟨0x10000, [0x2001], [.pwr]⟩)
  | .quiesce t _ _ => some (t, ⟨0x2010, [0x2000, 0x2001], [.blobs, .ports, .groups, .slices, .micro, .scan, .cal, .rcd, .pwr, .rail, .nv, .tx, .resp]⟩)
  | .release t _ _ => some (t, ⟨0x2010, [0x2000, 0x2001], [.blobs, .ports, .groups, .slices, .micro, .scan, .cal, .rcd, .pwr, .rail, .nv, .tx, .resp]⟩)
  | .gate t _ _ => some (t, ⟨0x2010, [0x2000, 0x2001], [.blobs, .ports, .groups, .slices, .micro, .scan, .cal, .rcd, .pwr, .rail, .nv, .tx, .resp]⟩)
  | .ungate t _ _ => some (t, ⟨0x2010, [0x2000, 0x2001], [.blobs, .ports, .groups, .slices, .micro, .scan, .cal, .rcd, .pwr, .rail, .nv, .tx, .resp]⟩)
  | .gateStepEnd t _ _ => some (t, ⟨0x2010, [0x2000, 0x2001], [.ports, .groups, .slices, .micro, .cal, .rcd, .pwr, .rail, .nv, .tx]⟩)
  | .secHolders t _ _ => some (t, ⟨0x10000, [0x2000, 0x2700, 0x8000], [.rcd, .resp]⟩)
  | .ownAssign t _ _ => some (t, ⟨0x0, [], [.ports, .groups, .spad, .mem, .pcie, .rcd, .sec, .tx, .resp]⟩)
  | .deviceClaim t _ _ => some (t, ⟨0x0, [], [.ports, .spad, .mem, .pcie, .rcd, .sec, .tx, .resp]⟩)
  | .svnLock t _ _ => some (t, ⟨0x10000, [0x2000, 0x2700, 0x8000], [.rcd, .resp]⟩)
  | .key t _ k _ => some (t, ⟨0x10000, [0x2000, 0x2710 + (k : Nat)], [.sec, .resp]⟩)
  | .keyRevoke t _ k _ => some (t, ⟨0x10000, [0x2000, 0x8000, 0x2710 + (k : Nat)], [.rcd, .sec, .resp]⟩)
  | .rngHealthFail t => some (t, ⟨0x10000, [0x2700], []⟩)
  | .tamper t _ => some (t, ⟨0x2710, [0x2700], [.micro, .rcd, .sec]⟩)
  | .lcReq t _ _ => some (t, ⟨0x10000, [0x2000, 0x2700, 0x8000], [.rcd, .sec, .resp]⟩)
  | .lcConfirm t _ _ => some (t, ⟨0x1220, [], [.groups, .net, .rcd, .sec, .tx, .resp]⟩)
  | .lcReqTimeout t => some (t, ⟨0x10000, [0x2700], [.sec]⟩)
  | .lcStepEnd t => some (t, ⟨0x0, [], [.slices, .micro, .sec, .nv]⟩)
  | _ => none

end Sys2Proof
end

