-- ==== Sys2Proof/Certificates/Slice0/Obligations.lean ====
section
/-!
DEFINITION. The statements for the provers: what the block does as a whole, and for every command of the table where it completes and with what.
Throughout, `a` is the state in which a command of tick `t` acts: the state advanced to `t`.
-/

section

open Sys2Proof Sys2Proof.Machine Sys2Proof.Machine.State

/-! ### The block as a whole -/

/-- The contract of a step: the command at the front of the queue runs on the state with the rest of the queue. -/
def Obligations.StepRunsFrontCommand : Prop :=
  ∀ (c : Instr) (s : State) (rest : List Instr), s.pending = c :: rest → step s = exec c { s with pending := rest }

/-- With no command waiting the block idles (the model's choice, assumption 3). -/
def Obligations.EmptyQueueIdles : Prop := ∀ s : State, s.pending = [] → step s = .next s

/-- After reset every entry reads its reset value, the scratchpad reads zero, the tables are in their canonical form, no command waits, and the block
does not serve its interfaces yet. -/
def Obligations.ResetHoldsItsValues : Prop :=
  (∀ key, State.reset.reg key = dfltReg key) ∧ (∀ a, State.reset.spadAt a = 0) ∧ State.reset.tablesOk = true ∧ State.reset.pending = [] ∧
    State.reset.served = false

/-- Every step keeps the tables of the object dictionary and of the scratchpad in their canonical form, from any state in which they are so. -/
def Obligations.EveryStepKeepsTheTables : Prop :=
  ∀ s u : State, s.tablesOk = true → step s = .next u → u.tablesOk = true

/-- A step takes exactly one command: whatever the command does, the commands behind it wait as before, first in, first out. -/
def Obligations.StepTakesOneCommand : Prop := ∀ s u : State, step s = .next u → u.pending = s.pending.tail

/-! ### Accesses (R343, R345) -/

/-- R343, R345: a refusal changes no entry but the record of aborts, and nothing else in the device. It writes the abort and the entry into LAST_ABORT and
LAST_ABORT_ENTRY, sets ABORT_SEEN, counts the access, and answers the abort. -/
def Obligations.RefusalChangesOnlyTheAbortRecord : Prop :=
  ∀ (s : State) (who key e : Nat), who < 256 → key < 16777216 → e < 4294967296 → let u := s.refuse who key e;
    (∀ k, k ≠ Dv.LAST_ABORT → k ≠ Dv.LAST_ABORT_ENTRY → k ≠ Dv.OD_STATUS → k ≠ Dv.OD_ACCESSES → u.reg k = s.reg k) ∧
    u.rN Dv.LAST_ABORT = e ∧ u.rN Dv.LAST_ABORT_ENTRY = key / 256 * 65536 + key % 256 * 256 + who ∧
    u.bit Dv.OD_STATUS OdStatus.ABORT_SEEN = true ∧ (∀ i, i ≠ OdStatus.ABORT_SEEN → u.bit Dv.OD_STATUS i = s.bit Dv.OD_STATUS i) ∧
    u.rN Dv.OD_ACCESSES = (s.rN Dv.OD_ACCESSES + 1) % 4294967296 ∧
    u.resp = some { who := who, key := key, abort := e, data := [] } ∧
    u.blobs = s.blobs ∧ u.ports = s.ports ∧ u.groups = s.groups ∧ u.slices = s.slices ∧ u.micro = s.micro ∧ u.fab = s.fab ∧ u.scan = s.scan ∧
    u.tb = s.tb ∧ u.spad = s.spad ∧ u.mem = s.mem ∧ u.mc = s.mc ∧ u.cal = s.cal ∧ u.age = s.age ∧ u.net = s.net ∧ u.pcie = s.pcie ∧
    u.rcd = s.rcd ∧ u.pwr = s.pwr ∧ u.sec = s.sec ∧ u.nv = s.nv ∧ u.tx = s.tx ∧ u.now = s.now ∧ u.pending = s.pending

/-- R344, R345: a command entry is written by the owner of its scope alone. Every row that is such a write, sent by another principal to a device that
serves it, is refused with the ownership abort that names the owner, whatever its value and the state of its object. -/
def Obligations.OnlyTheOwnerCommands : Prop :=
  ∀ (c : Instr) (s : State) (t : Tick) (who key : Nat), c.request = some (t, who, key) → let a := s.advance t;
    a.reaches who key = true → ∀ e, a.ownerAbort who key = some e →
      e = 0x04010000 + a.ownerOf key ∧ exec c s = .next (a.refuse who key e).settle

/-- R421, R426: a command entry of a device that does not serve its interfaces does nothing. -/
def Obligations.UnservedCommandsDoNothing : Prop :=
  ∀ (c : Instr) (s : State) (t : Tick) (who key : Nat), c.request = some (t, who, key) → let a := s.advance t;
    a.reaches who key = false → exec c s = .next a.settle

/-- R449: while P_SUP owns the device, PF0, and NET_k with session k open, become the device owner with SEC 0, and CLAIMED is set; any other
writer, and every writer while another principal owns the device, is refused with the ownership abort; in DECOMMISSIONED every claim is refused with the
LIFE_CYCLE abort. -/
def Obligations.DeviceClaimRule : Prop :=
  ∀ (s : State) (t : Tick) (who : Principal), let a := s.advance t; let key := Se.DEVICE_CLAIM;
    let may := who.val = 1 ∨ (18 ≤ who.val ∧ who.val ≤ 21 ∧ (a.session (who.val - 18)).isSome = true);
    a.reaches who key = true → a.inUse key = false → a.idleKey key = false →
    (a.rN Id.LIFE_CYCLE ≠ 4 → a.rN Dv.OWNER = 0 → may →
      ∃ u : State, exec (.deviceClaim t who 1) s = .next (u.accept who key []).settle ∧ u.rN Dv.OWNER = who ∧ u.rN Dv.SEC = 0 ∧
        u.bit Se.SEC_STATUS SecStatus.CLAIMED = true) ∧
    (a.rN Id.LIFE_CYCLE ≠ 4 → a.rN Dv.OWNER = 0 → ¬may → who.val ≠ 0 → exec (.deviceClaim t who 1) s = .next (a.refuse who key 0x04010000).settle) ∧
    (a.rN Id.LIFE_CYCLE ≠ 4 → a.rN Dv.OWNER ≠ 0 →
      exec (.deviceClaim t who 1) s = .next (a.refuse who key (0x04010000 + a.rN Dv.OWNER)).settle) ∧
    (a.rN Id.LIFE_CYCLE = 4 → exec (.deviceClaim t who 1) s = .next (a.refuse who key 0x05030004).settle)

/-- R446: SEC_HOLDERS gives the secure attribute by its bits. A granted write stores its bit map with bit 0 set; one that sets bit 22 stores nothing; one that clears the bit of a
principal that owns an S scope is refused with the object-in-use abort; only the device owner writes, and not in DEPLOYED or DECOMMISSIONED. -/
def Obligations.SecHoldersRule : Prop :=
  ∀ (s : State) (t : Tick) (who : Principal) (v : Nat), let a := s.advance t; let key := Se.SEC_HOLDERS;
    let takes := fun (k : Nat) => 0 < k ∧ k < 22 ∧ bitOf (a.rN key) k = true ∧ bitOf v k = false ∧ a.ownsSecure k = true;
    (∀ k, a.secHolder k = a.bit key k) ∧
    (a.grants who key = true → v < 4194304 → (∀ k, ¬takes k) →
      ∃ u : State, exec (.secHolders t who v) s = .next (u.accept who key []).settle ∧ u.rN key = v ||| 1 ∧ bitOf (u.rN key) 0 = true ∧
        bitOf (u.rN key) 22 = false) ∧
    (a.grants who key = true → (∀ k, ¬takes k) → v < 4294967296 → bitOf v 22 = true →
      exec (.secHolders t who v) s = .next (a.refuse who key 0x06010001).settle) ∧
    (a.grants who key = true → (∃ k, takes k) → exec (.secHolders t who v) s = .next (a.refuse who key 0x05010000).settle) ∧
    (a.reaches who key = true → a.bit Fw.FW_STATUS FwStatus.RECOVERY = false → a.ownerOf key ≠ who →
      exec (.secHolders t who v) s = .next (a.refuse who key (0x04010000 + a.ownerOf key)).settle) ∧
    (a.reaches who key = true → a.inUse key = false → a.ownerOf key = who → a.rN Id.LIFE_CYCLE = 2 ∨ a.rN Id.LIFE_CYCLE = 4 →
      exec (.secHolders t who v) s = .next (a.refuse who key (0x05030000 + a.rN Id.LIFE_CYCLE)).settle)

/-! ### Numbering, time, arithmetic, memory, events -/

/-- R25: port Pp belongs to group p / 8 with local index p mod 8; its home slice is 9g + k and the group's relief slice 9g + 8. A home slice is no other
port's, and no relief slice is a home slice. -/
def Obligations.PortsAndSlicesNumbered : Prop :=
  ∀ p q : Nat, p < 128 → q < 128 →
    groupOf p = p / 8 ∧ localOf p = p % 8 ∧ homeSlice p = 9 * (p / 8) + p % 8 ∧ reliefSlice (groupOf p) = 9 * (p / 8) + 8 ∧
    homeSlice p < 144 ∧ reliefSlice (groupOf p) < 144 ∧ (homeSlice p = homeSlice q → p = q) ∧ homeSlice p ≠ reliefSlice (groupOf q)

/-- R206: the time of a tick in its segment is N0 + floor(((T - T0) RATE + 2^31) / 2^32), with the nominal RATE 0x1_9000_0000; a segment covers
the ticks from its T0 up to the T0 of the next one; and no segment begins off a millisecond boundary. -/
def Obligations.TimeOfATick : Prop :=
  (∀ (g : Seg) (t : Tick), g.t0 ≤ t → g.n0 + ((t - g.t0) * g.rate + 2147483648) / 4294967296 < 18446744073709551616 →
    segTime g t = g.n0 + ((t - g.t0) * g.rate + 2147483648) / 4294967296) ∧
  ({} : Seg).rate = 0x190000000 ∧
  (∀ (g h : Seg) (r : List Seg) (t : Tick), (g.t0 ≤ t → segOf (g :: h :: r) t = g) ∧ (t < g.t0 → segOf (g :: h :: r) t = segOf (h :: r) t)) ∧
  (∀ (s : State) (t : Tick), s.timeNs t = segTime (segOf s.tb.segs t) t) ∧
  (∀ (s : State) (t : Tick), (s.advance t).now % 640000 ≠ 0 → exec (.segmentBegin t) s = .next (s.advance t).settle)

/-- R112: a product in Q7.32 is the nearest integer, with ties towards plus infinity, limited to the INTEGER40 range. -/
def Obligations.LoopProductsRoundToNearest : Prop :=
  ∀ a k : Int,
    -(2147483648 : Int) < mulQ a k * 4294967296 - a * k ∧ mulQ a k * 4294967296 - a * k ≤ 2147483648 ∧
    -549755813888 ≤ mul40 a k ∧ mul40 a k ≤ 549755813887 ∧
    (-549755813888 ≤ mulQ a k → mulQ a k ≤ 549755813887 → mul40 a k = mulQ a k) ∧
    (mulQ a k < -549755813888 → mul40 a k = -549755813888) ∧ (549755813887 < mulQ a k → mul40 a k = 549755813887)

/-- R52: the code of a force output: offset binary on the bipolar spans S_0 and S_1 and straight binary on S_2 and S_3, rounded to nearest with ties
upward, and limited to 0 to 2^24 - 16 with FCLIP. -/
def Obligations.ForceCodes : Prop :=
  ∀ (span : Nat) (u : Int), span < 4 →
    let d := if span ≤ 1 then 8388608 + (u + 8192) / 16384 else (u + 4096) / 8192;
    (0 ≤ d → d ≤ 16777200 → codeOf span u = (d.toNat, false)) ∧ (d < 0 → codeOf span u = (0, true)) ∧
    (16777200 < d → codeOf span u = (16777200, true)) ∧ (codeOf span u).1 ≤ 16777200

/-- R243, R251, R258, R250: a word of the scratchpad reads what was last written to it, and every other word reads as before; the reserved words of
page 0 read zero as long as they do so, and writes to them change nothing. A word of WIN_SPAD written by the owner of its page while no wipe runs is
so written. The three atomics of the banks on a 40-bit word. -/
def Obligations.ScratchpadReadsWhatWasWritten : Prop :=
  (∀ (s : State) (a b : Nat) (v : W40),
      (reservedWord a = false → (s.spadPut a v).spadAt a = v) ∧
      (b ≠ a → (s.spadPut a v).spadAt b = s.spadAt b) ∧ (reservedWord a = true → s.spadPut a v = s) ∧
      (reservedWord a = true ↔ 0xC00 ≤ a ∧ a < 0x1000) ∧ (s.spadPut a v).regs = s.regs ∧
      (∀ (t : Tick) (f : FnId) (w : W64), let x := s.advance t;
        x.winUp f = true → x.wiping = false → a < 4194304 → reservedWord a = false → x.memWriteAbort (f + 1) a (x.secHolder (f + 1)) = none →
          ∃ u : State, exec (.winSpadWrite t f a w) s = .next u.settle ∧ u.spadAt a = BitVec.ofNat 40 w.toNat ∧
            (b ≠ a → u.spadAt b = x.spadAt b) ∧ u.regs = x.regs)) ∧
  (∀ v x : W40,
      (fabNew .addWrap v x).toNat = (v.toNat + x.toNat) % 1099511627776 ∧
      (fabNew .addSat v x).toInt = max (-549755813888) (min 549755813887 (v.toInt + x.toInt)) ∧
      fabNew .swap v x = x)

/-- R218, R222, R225: a channel takes one event per tick, the first; a second one of the same tick changes nothing. An event that a channel takes at a tick is on its way to arrive 9 ticks later with its generation, and is counted, timed and journalled; at
GEN_LIMIT it is dropped, LOOP is set and LOOP_COUNT counts, and nothing is on its way. -/
def Obligations.EventsTakeNineTicks : Prop :=
  ∀ (s : State) (t : Tick) (gen : Nat) (e : ChanId), let u := channelEvent t gen e s; let g := min gen 15;
    let taken := Tab.get (fun _ => none) s.fab.eventAt (e : Nat) = some t;
    (taken → u = s) ∧
    (¬taken → s.rN (Ch.GEN_LIMIT e) ≤ g →
      u.fab.flights = s.fab.flights ∧ u.bit (Ch.CH_STATUS e) ChStatus.LOOP = true ∧
        u.rN (Ch.LOOP_COUNT e) = min (s.rN (Ch.LOOP_COUNT e) + 1) 4294967295 ∧ u.rN (Ch.FIRE_COUNT e) = s.rN (Ch.FIRE_COUNT e)) ∧
    (¬taken → g < s.rN (Ch.GEN_LIMIT e) → t < 18446744073709551616 →
      u.fab.flights = s.fab.flights ++ [{ due := t + 9, chan := e, gen := g, done := [] }] ∧
        u.rN (Ch.FIRE_COUNT e) = (s.rN (Ch.FIRE_COUNT e) + 1) % 4294967296 ∧ u.rN (Ch.LAST_TICK e) = t ∧ u.rN (Ch.LAST_GEN e) = g ∧
        u.bit (Ch.CH_STATUS e) ChStatus.FIRED = true)

/-! ### Frames -/

/-- The frame of the commands of the ports: force, measure, comparators, pulse generators, loops and sequencers. In every state each of them
completes, and before the block settles it has changed, from the state advanced to its tick, no entry and no field outside its footprint: it leaves the
queue alone, the entries of every record that the footprint does not cover, and every field of the state that is not among its parts. -/
def Obligations.FrameOfPorts : Prop :=
  ∀ (c : Instr) (t : Tick) (F : Foot) (s : State), c.portFoot = some (t, F) → ∃ u, exec c s = .next u.settle ∧ F.leaves (s.advance t) u

/-- The frame of the commands of the time base, Carillon, the monitor, the rails and the firmware: each completes, and before the
block settles it has changed nothing outside its footprint. -/
def Obligations.FrameOfUnits : Prop :=
  ∀ (c : Instr) (t : Tick) (F : Foot) (s : State), c.unitFoot = some (t, F) → ∃ u, exec c s = .next u.settle ∧ F.leaves (s.advance t) u

/-- The frame of the commands of the scratchpad, the recorder, the object dictionary, calibration and ageing: each
completes, and before the block settles it has changed nothing outside its footprint. -/
def Obligations.FrameOfStores : Prop :=
  ∀ (c : Instr) (t : Tick) (F : Foot) (s : State), c.storeFoot = some (t, F) → ∃ u, exec c s = .next u.settle ∧ F.leaves (s.advance t) u

/-- The frame of the commands of PCIe, the Ethernet ports, CAN and the sessions: each completes, and before the block settles it has
changed nothing outside its footprint. -/
def Obligations.FrameOfLinks : Prop :=
  ∀ (c : Instr) (t : Tick) (F : Foot) (s : State), c.linkFoot = some (t, F) → ∃ u, exec c s = .next u.settle ∧ F.leaves (s.advance t) u

/-- The frame of the commands of power, reset, boot, ownership, keys and the life cycle: each completes, and before the block
settles it has changed nothing outside its footprint. -/
def Obligations.FrameOfPowerAndSecurity : Prop :=
  ∀ (c : Instr) (t : Tick) (F : Foot) (s : State), c.guardFoot = some (t, F) → ∃ u, exec c s = .next u.settle ∧ F.leaves (s.advance t) u

/-! ### Power, resets and boot (R417-R424, R436, R440) -/

/-- R417, R419, R440: what an accepted power request does. RUN wakes the device from IDLE and is remembered in TO_IDLE; RESET resets it with cause
SW; IDLE and STANDBY begin the lowering of the power state. A request that the present state does not take is refused with the reason STATE. WAKE
wakes the device from STANDBY and from IDLE; a power-fail warning sets PFW, and while the device serves PFW_SEEN, and the end of the warning clears
PFW. -/
def Obligations.PowerRequestsComplete : Prop :=
  (∀ (s : State) (t : Tick) (who : Principal), let a := s.advance t; let key := Pw.POWER_REQ
      a.grants who key = true →
        (a.rN Pw.POWER_STATE = 4 →
          exec (.powerReqRun t who) s = .next (a.completes who key 1 fun x => x.idleWake a.now).settle) ∧
        (a.rN Pw.POWER_STATE = 3 →
          exec (.powerReqRun t who) s = .next (a.completes who key 1 fun x => x.setBit Pw.PWR_STATUS PwrStatus.WAKE_PENDING true).settle) ∧
        (a.rN Pw.POWER_STATE ∉ [3, 4] → exec (.powerReqRun t who) s = .next (a.refuse who key 0x05020006).settle) ∧
        (a.rN Pw.POWER_STATE ∈ [2, 3] →
          exec (.powerReqIdle t who) s = .next (a.completes who key 2 fun x => x.powerLower 2 a.now).settle) ∧
        (a.rN Pw.POWER_STATE ∉ [2, 3] → exec (.powerReqIdle t who) s = .next (a.refuse who key 0x05020006).settle) ∧
        (a.rN Pw.POWER_STATE ∈ [2, 3, 4] →
          exec (.powerReqStandby t who) s = .next (a.completes who key 3 fun x => x.powerLower 3 a.now).settle) ∧
        (a.rN Pw.POWER_STATE ∉ [2, 3, 4] → exec (.powerReqStandby t who) s = .next (a.refuse who key 0x05020006).settle) ∧
        exec (.powerReqReset t who) s = .next (a.completes who key 4 fun x => x.later a.now (.reset 3)).settle) ∧
  (∀ (s : State) (t : Tick), let a := s.advance t
      (a.pwr.standby = true → exec (.wake t) s = .next a.standbyWake.settle) ∧
      (a.pwr.standby = false → a.rN Pw.POWER_STATE = 4 → exec (.wake t) s = .next (a.idleWake a.now).settle) ∧
      (a.pwr.pfwLow = false → a.pwr.boot ≠ 0 →
        exec (.pfwNFall t) s =
          .next (((a.modPwr fun p => { p with pfwLow := true }).setBit Pw.PWR_STATUS PwrStatus.PFW true).pfwActions a.now).settle) ∧
      (a.pwr.pfwLow = true →
        exec (.pfwNRise t) s =
          .next (((a.modPwr fun p => { p with pfwLow := false }).setBit Pw.PWR_STATUS PwrStatus.PFW false).pfwOver a.now).settle))

/-- R420, R421, R436: the resets from outside. POWER_ON and a brown-out reset the device with their causes; a pulse of 1 µs or more on RESET_N
resets it with cause RESET_N, or wakes it from STANDBY, and a shorter one does nothing; the rise of RESET_N and the release of the internal
reset latch the cause in RESET_CAUSE and begin the boot in state BOOT. -/
def Obligations.ResetsComplete : Prop :=
  ∀ (s : State) (t : Tick) (width : Nat) (sel : Bool), let a := s.advance t
    (∃ u : State, exec (.powerOn t) s = .next (u.deviceReset 0 a.now).settle ∧ u.pwr.anaLost = true ∧ u.pwr.standby = false ∧ u.regs = a.regs) ∧
    (width < us → exec (.resetNLow t width) s = .next a.settle) ∧
    (us ≤ width → a.pwr.standby = false → exec (.resetNLow t width) s = .next (a.deviceReset 1 a.now).settle) ∧
    (us ≤ width → a.pwr.standby = true →
      ∃ u : State, exec (.resetNLow t width) s = .next u.settle ∧ u.pwr.standby = false ∧ u.pwr.wakeWait = true ∧ u.regs = a.regs ∧ u.ports = a.ports) ∧
    (a.pwr.standby = false → exec (.brownOut t) s = .next (a.deviceReset 6 a.now).settle) ∧
    (a.pwr.boot = 0 → a.pwr.standby = false → a.pwr.wakeWait = false → a.pwr.cause < 9 →
      ∃ u : State, exec (.resetNRise t sel) s = .next u.settle ∧ u.rN Pw.RESET_CAUSE = a.pwr.cause ∧ u.rN Pw.POWER_STATE = 0 ∧ u.pwr.boot = 2 ∧
        u.pwr.refSel = sel ∧ u.pwr.time0 = a.now ∧ u.ports = a.ports) ∧
    (a.pwr.wakeWait = true →
      ∃ u : State, exec (.internalResetRelease t) s = .next u.settle ∧ u.rN Pw.RESET_CAUSE = 2 ∧ u.rN Pw.POWER_STATE = 0 ∧ u.pwr.boot = 2 ∧
        u.pwr.wakeWait = false ∧ u.ports = a.ports)

/-- R63, R258, R421: the boot sequence and the output stages. The lock of the PLLs starts the counter at 0; the end of the start-up clear
clears CLEARING; each step of the boot is the one that BOOT stands at; the loss and the return of an analog supply, and the end of the
start-up wait of 10 µs, turn the output stages off and on. -/
def Obligations.BootCommandsComplete : Prop :=
  ∀ (s : State) (t : Tick) (bad : List SliceId), let a := s.advance t
    (a.pwr.boot = 2 → ∃ u : State, exec (.pllLock t) s = .next u.settle ∧ u = a.bootLock a.now ∧ u.now = 0 ∧ u.pwr.boot = 3) ∧
    (a.bit Fb.FAB_STATUS FabStatus.CLEARING = true → a.pwr.clearDue ≤ a.now → exec (.scratchpadClearEnd t) s = .next (a.clearEnd a.now).settle) ∧
    (a.pwr.boot = 3 → exec (.bootStepComplete t bad) s = .next (a.bootThree a.now).settle) ∧
    (a.pwr.boot = 5 → a.bit Fw.FW_STATUS FwStatus.RECOVERY = false → exec (.bootStepComplete t bad) s = .next (a.bootFive a.now).settle) ∧
    (a.pwr.boot = 6 → exec (.bootStepComplete t bad) s = .next (a.bootSix a.now).settle) ∧
    (a.pwr.boot = 7 → exec (.bootStepComplete t bad) s = .next (a.bootSeven a.now).settle) ∧
    (a.pwr.boot = 10 → exec (.bootStepComplete t bad) s = .next (a.bootEleven (bad.map (·.val)) a.now).settle) ∧
    exec (.analogSupplyLoss t) s =
      .next ((a.modPwr fun p => { p with anaLost := true, anaWait := none }).forAll 128 fun p x => x.stageOff p a.now).settle ∧
    (a.pwr.anaLost = true →
      exec (.analogSupplyValid t) s = .next (a.modPwr fun p => { p with anaWait := some a.now }).settle) ∧
    (∀ w, a.pwr.anaWait = some w → w + 10 * us ≤ a.now → exec (.outputStageOn t) s = .next (a.analogOn a.now).settle)

/-- R22, R347, R433, R434: the requests on a group. QUIESCE takes a group in RUN to QUIESCING; RELEASE leaves CONFIG if the checks of R346
pass, is remembered in QUIESCING, and otherwise is refused with COMMIT_FAIL; GATE and UNGATE begin their sequences or are remembered. -/
def Obligations.GroupRequestsComplete : Prop :=
  ∀ (s : State) (t : Tick) (who : Principal) (g : GroupId), let a := s.advance t; let key := Gr.GROUP_CTRL g
    a.grants who key = true →
      exec (.quiesce t who g) s = .next (a.completes who key 1 fun x => x.groupQuiesce g a.now).settle ∧
      (a.groupState g = 2 → a.groupCheck g = none →
        exec (.release t who g) s = .next (a.completes who key 2 fun x => x.groupLeave g a.now).settle) ∧
      (∀ e, a.groupState g = 2 → a.groupCheck g = some e → e / 2 ^ 16 = 0x0601 →
        exec (.release t who g) s =
          .next ((a.setBit (Gr.GROUP_STATUS g) GroupStatus.COMMIT_FAIL true).refuse who key e).settle) ∧
      (a.groupState g = 1 →
        exec (.release t who g) s =
          .next (a.completes who key 2 fun x => x.setBit (Gr.GROUP_STATUS g) GroupStatus.RELEASE_PENDING true).settle) ∧
      (a.groupState g = 3 → exec (.release t who g) s = .next (a.refuse who key 0x05020004).settle) ∧
      (a.groupState g = 2 →
        exec (.gate t who g) s = .next (a.completes who key 4 fun x => (x.gateStart g a.now).quietCheck a.now).settle) ∧
      (a.groupState g = 3 → (a.gx g).gateStep = 0 →
        exec (.ungate t who g) s = .next (a.completes who key 8 fun x => x.ungateStart g a.now).settle) ∧
      (a.groupState g = 3 → 1 ≤ (a.gx g).gateStep → (a.gx g).gateStep ≤ 3 →
        exec (.ungate t who g) s =
          .next (a.completes who key 8 fun x => x.setBit (Gr.GROUP_STATUS g) GroupStatus.UNGATE_PENDING true).settle) ∧
      (∀ bad, a.served = true → (a.gx g).gateStep ≠ 0 → (a.gx g).gateDue ≤ a.now →
        exec (.gateStepEnd t g bad) s = .next (a.gateStepEnd g bad).settle)

/-! ### Ports (R45, R55-R69, R430-R432) -/

/-- R13, R348, R431, R432: what a PORT_CTRL write does. A write for a port that no earlier command waits for is carried out and answered at once; behind
one that waits, or at a full queue, it goes to the group controller. An ENABLE of an OFF port enables it, of a port in its disable sequence it is remembered
in ENABLE_PENDING, and of a port that is enabled it has no effect; a refusal sets REFUSED. A DISABLE of an enabled port goes to the group controller
for the port's tick boundary, and of a port in its disable sequence it clears ENABLE_PENDING. -/
def Obligations.EnableAndDisableComplete : Prop :=
  ∀ (s : State) (t : Tick) (who : Principal) (p : PortId), let a := s.advance t; let key := Pt.PORT_CTRL p
    a.grants who key = true →
      (a.groupState (groupOf p) = 0 → (a.portState p = 0 → a.winHolds p = false → a.enableReason p = none) →
        (a.queueFree p = true → exec (.enable t who p) s = .next (a.completes who key 1 fun x => x.enableReq p a.now).settle) ∧
        (a.queueFree p = false →
          exec (.enable t who p) s = .next (a.gcSubmit who key 1 { port := p, op := .enable, since := a.now }).settle)) ∧
      (∀ r, a.groupState (groupOf p) = 0 → a.portState p = 0 → a.winHolds p = false → a.enableReason p = some r → r < 13 →
        exec (.enable t who p) s =
          .next ((a.setBit (Pt.PORT_STATUS p) PortStatus.REFUSED true).refuse who key (0x05020000 + r)).settle) ∧
      (∀ (x : State) (e : Tick), x.groupState (groupOf p) = 0 →
        (x.portState p = 0 → x.winHolds p = false → x.enableReason p = none → x.enableReq p e = (x.rotPreempt p e).enableNow p e) ∧
        (x.portState p = 3 → x.enableReq p e = x.setBit (Pt.PORT_STATUS p) PortStatus.ENABLE_PENDING true) ∧
        (x.portState p = 1 ∨ x.portState p = 2 → x.enableReq p e = x)) ∧
      (let b := a.rotDisable p a.now;
        (b.portState p = 1 ∨ b.portState p = 2 →
          exec (.disable t who p) s = .next (b.gcSubmit who key 2 { port := p, op := .disable, since := a.now }).settle) ∧
        (b.queueFree p = true → b.portState p = 3 →
          exec (.disable t who p) s =
            .next (b.completes who key 2 fun x => x.setBit (Pt.PORT_STATUS p) PortStatus.ENABLE_PENDING false).settle) ∧
        (b.queueFree p = true → b.portState p = 0 → exec (.disable t who p) s = .next (b.completes who key 2 fun x => x).settle) ∧
        (b.queueFree p = false →
          exec (.disable t who p) s = .next (b.gcSubmit who key 2 { port := p, op := .disable, since := a.now }).settle))

/-- R14, R59, R60, R62, R66, R75: a SPAN write to a port that has been enabled waits for its tick boundary, and is stored and applied at once before
that; a span that does not contain SAFE_VALUE, or does not exist, is refused. A CLEAR_RELEASE is accepted under the conditions of R66 and otherwise
refused with its reason, and a READBACK_NOW is accepted: for the tick boundary of a port whose loop runs, and at once on a port that is OFF. -/
def Obligations.SpanAndForceRequestsComplete : Prop :=
  ∀ (s : State) (t : Tick) (who : Principal) (p : PortId) (v : Nat), let a := s.advance t
    (a.grants who (Pt.SPAN p) = true →
      (v ≤ 3 → a.spanSafe p v = true → (a.px p).force.everEnabled = true →
        exec (.span t who p v) s =
          .next ((a.markDirty.gcSubmit who (Pt.SPAN p) v { port := p, op := .setEntry (Pt.SPAN p) 0 v, since := a.now }).spanAwaits p v).settle) ∧
      (v ≤ 3 → a.spanSafe p v = true → (a.px p).force.everEnabled = false →
        exec (.span t who p v) s =
          .next (if a.queueFree p then (a.markDirty.set (Pt.SPAN p) v).completes who (Pt.SPAN p) v fun x => x.applyEntry p (Pt.SPAN p) a.now
            else a.markDirty.gcSubmit who (Pt.SPAN p) v { port := p, op := .setEntry (Pt.SPAN p) 0 v, since := a.now }).settle) ∧
      (3 < v → exec (.span t who p v) s = .next (a.refuse who (Pt.SPAN p) 0x06010030).settle) ∧
      (v ≤ 3 → a.spanSafe p v = false → exec (.span t who p v) s = .next (a.refuse who (Pt.SPAN p) 0x06010032).settle)) ∧
    (a.grants who (Pt.FORCE_CTRL p) = true →
      (∀ e, a.releaseCheck p = some e → exec (.clearRelease t who p) s = .next (a.refuse who (Pt.FORCE_CTRL p) e).settle) ∧
      (a.ticking p = true ∨ a.queueFree p = false →
        (a.releaseCheck p = none →
          exec (.clearRelease t who p) s =
            .next (a.gcSubmit who (Pt.FORCE_CTRL p) 1 { port := p, op := .forceCtrl 1, since := a.now }).settle) ∧
        exec (.readbackNow t who p) s =
          .next (a.gcSubmit who (Pt.FORCE_CTRL p) 2 { port := p, op := .forceCtrl 2, since := a.now }).settle) ∧
      (a.ticking p = false → a.queueFree p = true →
        (a.releaseCheck p = none →
          exec (.clearRelease t who p) s = .next (a.completes who (Pt.FORCE_CTRL p) 1 fun x => x.releaseApply p a.now).settle) ∧
        exec (.readbackNow t who p) s = .next (a.completes who (Pt.FORCE_CTRL p) 2 fun x => x.readbackNow p a.now).settle))

/-- R58, R60, R64, R69, R431: the timed steps of a port's sequences, each at the tick `e` at which it falls due: the span switch of an enable,
the gate permission (after a clear the ramp is timed from SAFE_VALUE), the end of DISCHARGE, the end of a ramp and of a track-and-hold, and the read-backs. -/
def Obligations.PortStepsComplete : Prop :=
  ∀ (s : State) (t : Tick) (p : PortId), let a := s.advance t; let x := a.px p
    (∀ e, x.seqn = .enSpanHold e → e ≤ a.now →
      exec (.enableSpanHoldEnd t p) s = .next (((a.spanSwitch p e).enableStep2 p e).syncPort p).settle) ∧
    (∀ e, x.seqn = .enGate e → e ≤ a.now →
      ∃ u : State, u = ((a.modPx p fun x => { x with seqn := .enRamp, pgen := { x.pgen with permit := true } }).coldStart p).syncPort p ∧
        ((u.px p).force.clearCore = none → exec (.gatePermit t p) s = .next (u.rampStart p .enable (u.nextCode p) e).settle) ∧
        ((u.px p).force.clearCore.isSome = true →
          exec (.gatePermit t p) s = .next (u.rampFrom p .enable (u.safeCode p (u.rN (Pt.SPAN_ACTIVE p))) (u.nextCode p) e).settle)) ∧
    (∀ e, x.seqn = .discharge e → e ≤ a.now → exec (.dischargeEnd t p) s = .next (a.dischargeEnd p e).settle) ∧
    (∀ r, x.force.ramp = some r → r.finish ≤ a.now →
      exec (.rampDone t p) s = .next (((a.rampStop p r.finish).rampEnd p r.kind r.finish).jHold p a.now).settle) ∧
    (∀ e, x.seqn = .offSpan e → e ≤ a.now →
      exec (.spanHoldEnd t p) s =
        .next ((((((a.modPx p fun x => { x with seqn := .idle }).spanSwitch p e).setFld (Pt.FORCE_STATUS p) ForceStatus.SPAN_STEP 2 0).syncPort
          p).offSpan p e)).settle) ∧
    (x.seqn = .idle → a.spanStep p = 2 → x.force.holdEnd ≤ a.now →
      exec (.spanHoldEnd t p) s = .next (a.spanRelease p x.force.holdEnd).settle) ∧
    (a.served = true → a.live p (Pt.READBACK_INTERVAL p) ≠ 0 → x.force.rbDue ≤ a.now →
      exec (.readbackDue t p) s =
        .next ((a.modForce p fun f => { f with rbDue := a.now + a.live p (Pt.READBACK_INTERVAL p) * us }).rbRequest p a.now).settle) ∧
    (a.rbBlocked p a.now = false → let b := a.modForce p fun f => { f with rbDeferred := false, rbUrgent := false };
      (x.force.rbUrgent = false → x.force.rbDeferred = true → a.live p (Pt.READBACK_INTERVAL p) ≠ 0 →
        exec (.deferredReadback t p) s = .next (b.rbRequest p a.now).settle) ∧
      (x.force.rbUrgent = true → x.force.rbDeferred = false →
        exec (.deferredReadback t p) s = .next (b.readbackNow p a.now).settle)) ∧
    (a.timerEdge p a.now = true → exec (.timerStrike t p) s = .next (a.strike p a.now).settle)

/-- R45, R65-R67: the clear pin and the fault pin of a port. A fall of CLR_N forces every port; a fault sets the trip latch with cause FLT
and forces the port's clear code, but in a GATED group only the level is recorded; the end of a cause re-arms nothing and lets an OFF port
go to SAFE_VALUE. -/
def Obligations.ClearsAndFaultsComplete : Prop :=
  ∀ (s : State) (t : Tick) (p : PortId), let a := s.advance t
    (a.pwr.clrLow = false →
      exec (.clrNFall t) s =
        .next (((a.modPwr fun w => { w with clrLow := true }).jEdge 0x500 7 0 a.now).forAll 128 fun q x => x.clearPort q a.now).settle) ∧
    (a.pwr.clrLow = true →
      exec (.clrNRise t) s =
        .next (((a.modPwr fun w => { w with clrLow := false }).jEdge 0x500 8 0 a.now).forAll 128 fun q x => x.clearEnds q a.now).settle) ∧
    ((a.px p).flt = false → a.gated p = false →
      exec (.fltInRise t p) s =
        .next ((((a.modPx p fun x => { x with flt := true }).jEdge p 5 0 a.now).trip p Cause.flt a.now 0).clearPort p a.now).settle) ∧
    ((a.px p).flt = false → a.gated p = true →
      exec (.fltInRise t p) s = .next (((a.modPx p fun x => { x with flt := true }).jEdge p 5 0 a.now).syncPort p).settle) ∧
    ((a.px p).flt = true →
      exec (.fltInFall t p) s = .next (((a.modPx p fun x => { x with flt := false }).jEdge p 6 0 a.now).clearEnds p a.now).settle)

/-! ### The loop, the measure path and ranging (R79-R97, R106, R107, R119-R123, R132-R143) -/

/-- R83, R90, R97, R106, R107, R118, R123: a tick boundary of a port takes step 2 of the port, and of the port that it links to if the boundary is that
one's too, and then runs its tick if its loop runs; step 2 is taken once at a boundary: accepted configuration and the range steps, on an OFF port
configuration alone. An estimator visit updates the model of the port that is next in the round if a qualifying tick completed; a conversion
goes through the measure path; the blocks close when PREC_FLUSH has elapsed; the detectors begin and end their intervals. -/
def Obligations.LoopAndMeasureComplete : Prop :=
  ∀ (s : State) (t : Tick) (p : PortId) (pipe : Fin 4) (cv ci : BitVec 18) (neg common : Bool), let a := s.advance t
    (let b := a.stepTwo p a.now; let q := b.live p (Pt.LINK_PORT p); let d := if q < 128 then b.stepTwo q a.now else b
      a.served = true → a.gated p = false → a.isBoundary p a.now = true ∨ (a.px p).loop.stepTwo = some a.now →
        (d.ticking p = false → exec (.loopTick t p) s = .next (d.tickIdle p a.now).settle) ∧
        (d.ticking p = true → exec (.loopTick t p) s = .next (d.tickUpdate p a.now).settle)) ∧
    (∀ (x : State) (e : Tick), x.stepTwoDue p e = false → x.stepTwo p e = x) ∧
    (∀ (x : State) (e : Tick), x.stepTwoDue p e = true →
      let b := [(p : Nat), x.live p (Pt.LINK_PORT p), x.rN (Pt.LINK_PORT p)].foldl (fun x q => if q < 128 then x.rangesFirst q e else x) x
      let c := (b.modLoop p fun l => { l with stepTwo := some e }).tickConfig p e; let d := (c.tickRanges p e).rotBoundary p e
      (c.ticking p = false → x.stepTwo p e = (c.planApply p).divApply p e) ∧
      (c.ticking p = true → d.ticking p = true → x.stepTwo p e = d.tickPattern p)) ∧
    (∀ q, a.served = true → a.now % 320 = 0 → nextVisit (a.visitPorts pipe) (Tab.get (fun _ => 0) a.lm pipe) = some q →
      (a.px q).loopY.tickDone = true → (a.px q).loop.lastTick < a.now →
      exec (.lmVisit t pipe) s =
        .next (((({ a with lm := Tab.set (fun _ => 0) a.lm pipe (q + 1) } : State).modLoopY q fun y => { y with tickDone := false }).modelUpdate
          q).markUpdated q).settle) ∧
    (a.converts p = true → a.now % 32 = 0 →
      exec (.fastConversion t p cv ci) s = .next (a.fastConv p cv.toInt ci.toInt a.now).settle) ∧
    (∀ w xv xi, (a.px p).meas.win = some w → a.now = w.open_ + 625 * w.n → xv.length = w.n → xi.length = w.n →
      exec (.precWindowClose t p xv xi) s = .next (a.closeWindow p w xv xi a.now).settle) ∧
    (∀ b, (a.px p).meas.prec = some b → b.firstIn + a.live p (Pt.PREC_FLUSH p) * us ≤ a.now →
      exec (.precFlushExpiry t p) s = .next (a.closePrec p).settle) ∧
    ((a.px p).loopY.recBlock ≠ [] → (a.px p).loopY.recStart + a.live p (Pt.PREC_FLUSH p) * us ≤ a.now →
      exec (.loopFlushExpiry t p) s = .next (a.closeLoop p).settle) ∧
    (a.converts p = true →
      exec (.ovrAssert t p .v neg false) s = .next (a.ovrStart p true neg a.now).settle ∧
      exec (.ovrAssert t p .i neg true) s = .next ((a.ovrStart p false neg a.now).ovrStart p true neg a.now).settle) ∧
    (a.ovrOn p true = true →
      exec (.ovrRelease t p .v false) s =
        .next (((a.modOvr p true fun l => l.map fun o => if o.tr.isNone then { o with tr := some a.now } else o).jEdge p 2 0 a.now)).settle) ∧
    (a.ovrOn p false = true →
      exec (.ovrRelease t p .i common) s =
        .next (((a.modOvr p false fun l => l.map fun o => if o.tr.isNone then { o with tr := some a.now } else o).jEdge p 4 0 a.now).when common
          fun x => x.ovrEnd p true a.now).settle)

/-- R132-R134, R142, R143: the four ends of the phases of a make-before-break step. MAKE ends in PARALLEL, PARALLEL at t2 in BREAK with the
state re-scaled, BREAK at t3 in GUARD or, at the end of a disable chain, in OFF; when GUARD ends, the next step of the chain may start. -/
def Obligations.RangePhasesComplete : Prop :=
  ∀ (s : State) (t : Tick) (p : PortId) (st : RStep), let a := s.advance t
    (a.px p).range.step = some st →
      (st.phase = 1 → st.t1 ≤ a.now →
        exec (.rangeMakeEnd t p) s =
          .next (((((a.modRange p fun r => { r with step := some { st with phase := 2 } }).setFld (Pt.RNG_STATUS p) RngStatus.PHASE 2
            2).loadThresholds p st.t1).jPort p 8 (2 + 4 * st.qv.toNat + 16 * st.a + 256 * st.b) st.t1)).settle) ∧
      (st.phase ≠ 1 ∨ a.now < st.t1 → exec (.rangeMakeEnd t p) s = .next a.settle) ∧
      (st.phase = 2 → st.t2 ≤ a.now → exec (.rangeParallelEnd t p) s = .next (a.stepParEnd p a.now).settle) ∧
      (st.phase ≠ 2 ∨ a.now < st.t2 → exec (.rangeParallelEnd t p) s = .next a.settle) ∧
      (st.phase = 3 → st.t3 ≤ a.now → let b := a.stepBreakEnd p a.now
        exec (.rangeBreakEnd t p) s = .next (if (b.px p).range.toOff && b.atOffRange p then b.portOff p a.now else b).settle) ∧
      (st.phase = 4 → st.guardEnd ≤ a.now → let b := (a.stepGuardEnd p a.now).divApply p a.now
        exec (.rangeGuardEnd t p) s =
          .next (if (b.px p).seqn = .disRange then b.rangeToOff p a.now else if b.isBoundary p a.now then b.seekStart p a.now else b).settle)

/-! ### Comparators (R147-R158) -/

/-- R147, R154, R157: from INSIDE a comparator goes to ABOVE above the upper threshold and to BELOW below the lower one; it returns once its input has
come back by more than the hysteresis. An input's change moves a live output so; the end of t_EN makes the first decision, on the bare thresholds, at
that tick; a strobe starts on an SM tick, decides 384 ticks after its start, and ends its valid interval 768 ticks after it with the output back
INSIDE. The comparator of a slice in SHADOW follows the same input. -/
def Obligations.ComparatorsComplete : Prop :=
  (∀ x lo hi h : Int, lo ≤ hi → 0 ≤ h →
    (hi < x → cmpNext 0 x lo hi h = 1) ∧ (x < lo → cmpNext 0 x lo hi h = 2) ∧ (lo ≤ x → x ≤ hi → cmpNext 0 x lo hi h = 0) ∧
    (hi - h ≤ x → cmpNext 1 x lo hi h = 1) ∧ (lo ≤ x → x < hi - h → cmpNext 1 x lo hi h = 0) ∧
    (x ≤ lo + h → cmpNext 2 x lo hi h = 2) ∧ (lo + h < x → x ≤ hi → cmpNext 2 x lo hi h = 0)) ∧
  ∀ (s : State) (t : Tick) (p : PortId) (q : Qty) (x : Int), let a := s.advance t; let v := isV q; let c := a.cmpOf p v
    let i := fun (y : State) => y.rN (Pt.DRIVE_SLICE p)
    (a.cmpLive p v a.now = true →
      exec (.cmpTransition t p q x) s =
        .next ((a.otherChange p v x a.now).cmpMove p v (a.cmpEval p (i a) v c.state x false a.now) a.now).settle) ∧
    (a.cmpLive p v a.now = false → exec (.cmpTransition t p q x) s = .next (a.otherChange p v x a.now).settle) ∧
    (let b := a.otherDecide p v false x a.now;
      ∀ e, (b.cmpOf p v).startEnd = some e → b.cmpActive p v ≠ 5 → e ≤ a.now →
        exec (.cmpFirstDecision t p q x) s =
          .next (((b.cmpDecide p v (b.cmpEval p (i b) v 0 x true e) false e).armWaitDone p e).cmpPending p v e).settle) ∧
    (let b := (a.smEnd p v a.now).otherStrobe p v a.now;
      a.enabled p = true → a.smTickAt p a.now = true → b.cmpActive p v = 5 →
        exec (.smStrobeStart t p q) s = .next ((b.modCmp p v fun c => c.strobeAt (b.smGrid p) a.now).syncPort p).settle) ∧
    (∀ (k : Cmp) grid e, k.strobe = none →
      k.strobeAt grid e = { k with strobe := some e, strobeEnd := e + 768, grid := grid, state := 0, startEnd := some (e + 384) }) ∧
    (let b := a.otherDecide p v true x a.now;
      ∀ n e, (b.cmpOf p v).strobe = some n → (b.cmpOf p v).startEnd = some e → n + 384 ≤ a.now →
        exec (.smStrobeDecision t p q x) s =
          .next (((b.cmpDecide p v (b.cmpEval p (i b) v 0 x true (n + 384)) true (n + 384)).armWaitDone p (n + 384)).cmpPending p v
            (n + 384)).settle) ∧
    (let b := a.otherEnd p v a.now; let d := b.cmpOf p v;
      ∀ n, d.strobe = some n → d.startEnd = none → d.strobeEnd ≤ a.now →
        exec (.smStrobeEnd t p q) s =
          .next (((b.cmpMove p v 0 d.strobeEnd).modCmp p v fun c => { c with strobe := none }).syncPort p).settle)

/-! ### Pulse trains (R159-R174) -/

/-- R159, R162, R168, R172, R164, R166: a PGEN_CTRL write is accepted for the port's next tick boundary, START and REARM under their conditions, and
is refused with the reason of R355 otherwise. The scheduled edges of a train, each at its own tick: a rise, a fall, and the gate edge that follows
it in GATED mode. -/
def Obligations.PgenRequestsComplete : Prop :=
  (∀ (s : State) (t : Tick) (who : Principal) (p : PortId), let a := s.advance t; let key := Pt.PGEN_CTRL p
      let at_ := fun (v w : Nat) => a.gcSubmit who key v { port := p, op := .pgen w, since := a.now }
      a.grants who key = true →
        (a.startSrc p = 0 → a.startReason p a.now = none → exec (.pgenCtrlStart t who p) s = .next (at_ 1 1).settle) ∧
        (∀ r, a.startSrc p = 0 → a.startReason p a.now = some r →
          exec (.pgenCtrlStart t who p) s = .next (a.refuse who key (0x05020000 + r)).settle) ∧
        (a.startSrc p ≠ 0 → exec (.pgenCtrlStart t who p) s = .next (at_ 1 0).settle) ∧
        exec (.pgenCtrlStop t who p) s = .next (at_ 2 2).settle ∧
        (a.tripped p = true → a.rearmReason p a.now = none → exec (.pgenCtrlRearm t who p) s = .next (at_ 4 4).settle) ∧
        (∀ r, a.tripped p = true → a.rearmReason p a.now = some r →
          exec (.pgenCtrlRearm t who p) s = .next (a.refuse who key (0x05020000 + r)).settle) ∧
        (a.tripped p = false → exec (.pgenCtrlRearm t who p) s = .next (at_ 4 4).settle) ∧
        exec (.pgenCtrlTrip t who p) s = .next (at_ 8 8).settle) ∧
  (∀ (s : State) (t : Tick) (p : PortId), let a := s.advance t
      (∀ tr e, a.riseDue p a.now = some (tr, e) → exec (.pgenRiseEdge t p) s = .next (a.pulseRise p tr e).settle) ∧
      (∀ tr e, a.fallDue p a.now = some (tr, e) → exec (.pgenFallEdge t p) s = .next (a.pulseFall p tr e).settle) ∧
      (∀ e b r, (a.px p).pgen.gateQ = (e, b) :: r → e ≤ a.now →
        exec (.pgenGateEdge t p) s = .next ((a.modPgen p fun x => { x with gateLvl := b, gateQ := r }).syncPort p).settle))

/-- R55, R159, R162, R167, R185, R220-R224: deliveries of this tick to a task input of a port. With none, only the deliveries' marks change;
with some, the task acts: STOP by STOP_MODE, TRIP with cause EVENT, ARM, a strike, a re-arm or its refusal, and START while START_SRC is 1. -/
def Obligations.PortTasksComplete : Prop :=
  ∀ (s : State) (t : Tick) (p : PortId), let a := s.advance t
    let got := fun (k : Nat) => (a.takePort p k a.now).1
    let b := fun (k : Nat) => (a.takePort p k a.now).2
    (got Task.start = [] → exec (.pgenStart t p) s = .next (b Task.start).settle) ∧
    (got Task.start ≠ [] → exec (.pgenStart t p) s = .next ((b Task.start).startTask p (got Task.start) a.now).settle) ∧
    (got Task.stop ≠ [] →
      exec (.pgenStop t p) s =
        .next (((b Task.stop).trainStop p ((b Task.stop).stopMode p) a.now).syncPort p).settle) ∧
    (got Task.rearm ≠ [] → exec (.pgenRearm t p) s = .next ((b Task.rearm).rearmTask p a.now).settle) ∧
    (got Task.trip ≠ [] →
      exec (.pgenTripIn t p) s = .next ((b Task.trip).trip p Cause.event a.now (topGen (got Task.trip) + 1)).settle) ∧
    (got Task.strike ≠ [] → exec (.dacStrike t p) s = .next ((b Task.strike).strikeTask p a.now).settle) ∧
    (got Task.arm ≠ [] → exec (.seqArm t p) s = .next ((b Task.arm).armPoint p a.now (topGen (got Task.arm))).settle)

/-! ### The sequencer (R175-R201) -/

/-- R180-R182, R191, R198, R200: the sequencer's requests. START queues a context that its checks accept; STOP removes a queued one and lets the
running one complete its point; ABORT waits for the port's tick boundary; SEQ_HOLD takes effect there too, and at once on an OFF port; COMMIT makes its list
VALID, or is refused by its first failing check. -/
def Obligations.SequencerRequestsComplete : Prop :=
  ∀ (s : State) (t : Tick) (who : Principal) (c : CtxId) (p : PortId) (l : ListId) (v : Nat), let a := s.advance t; let key := Cx.RUN_STATE c
    (a.grants who key = true → a.startCheck c who = none →
      exec (.runStateStart t who c) s = .next (a.completes who key 1 fun x => (x.enqueue c a.now).selectAt (a.ctxPort c) a.now).settle) ∧
    (∀ e, a.grants who key = true → a.startCheck c who = some e → exec (.runStateStart t who c) s = .next (a.refuse who key e).settle) ∧
    (a.grants who key = true → a.rs c = 1 → a.abortWaits c = false →
      exec (.runStateStop t who c) s = .next (a.completes who key 2 fun x => x.leaveQueue (a.ctxPort c) c 4).settle) ∧
    (a.grants who key = true → a.rs c = 2 → a.abortWaits c = false →
      exec (.runStateStop t who c) s = .next (a.completes who key 2 fun x => x.set key 6).settle) ∧
    (a.grants who key = true → a.rs c ∈ [1, 2, 6] →
      exec (.runStateAbort t who c) s =
        .next (a.gcSubmit who key 3 { port := a.ctxPort c, op := .abortCtx c, since := a.now }).settle) ∧
    (a.grants who key = true → a.rs c ∉ [1, 2, 6] → exec (.runStateAbort t who c) s = .next (a.refuse who key 0x05020006).settle) ∧
    (a.grants who (Pt.SEQ_HOLD p) = true → v ≤ 1 → a.ticking p = true ∨ a.queueFree p = false →
      exec (.seqHold t who p v) s =
        .next (a.gcSubmit who (Pt.SEQ_HOLD p) v { port := p, op := .setEntry (Pt.SEQ_HOLD p) 0 v, since := a.now }).settle) ∧
    (a.grants who (Pt.SEQ_HOLD p) = true → v ≤ 1 → a.ticking p = false → a.queueFree p = true →
      exec (.seqHold t who p v) s =
        .next ((a.set (Pt.SEQ_HOLD p) v).completes who (Pt.SEQ_HOLD p) v fun x => x.applyEntry p (Pt.SEQ_HOLD p) a.now).settle) ∧
    (a.grants who (Pt.SEQ_HOLD p) = true → 1 < v → exec (.seqHold t who p v) s = .next (a.refuse who (Pt.SEQ_HOLD p) 0x060100E4).settle) ∧
    (a.grants who (Ls.COMMIT l) = true → a.commitCheck l 1 = none →
      exec (.commit t who l) s = .next (a.completes who (Ls.COMMIT l) 1 fun x => x.commitDo l).settle) ∧
    (∀ e, a.grants who (Ls.COMMIT l) = true → a.commitCheck l 1 = some e →
      exec (.commit t who l) s = .next (a.refuse who (Ls.COMMIT l) e).settle)

/-- R186-R188, R193-R196, R200: the sequencer's own events: a selection, made once the tick is over, the point instant and its end, STALL_AGE on millisecond boundaries only, and
the frames of the scanner bus: the oldest requested frame goes out with the next number of its select. -/
def Obligations.SequencerEventsComplete : Prop :=
  ∀ (s : State) (t : Tick) (p : PortId) (miso : BitVec 64), let a := s.advance t
    exec (.queueSelection t p) s = .next (a.later a.now (.select p)).settle ∧
    (∀ (x : State) (e : Tick), (x.px p).seq.run.isSome = true ∨ x.live p (Pt.SEQ_HOLD p) = 1 → x.select p e = x) ∧
    (∀ (x : State) (e : Tick) q, (x.px p).seq.run = none → x.live p (Pt.SEQ_HOLD p) ≠ 1 →
      x.bestOf ((x.px p).seq.queue.filter fun q => decide (q.release ≤ e)) = some q →
      let k := if x.rN (Cx.PASS_COUNT q.ctx) = 0 ∧ x.ctxList q.ctx < 1024 then x.fld (Cx.SWEEP q.ctx) 0 16 else 0;
      let b := x.modSeq p fun y => { y with queue := y.queue.filter fun f => decide (f.ctx ≠ q.ctx), backDue := false };
      x.select p e = ((b.set (Cx.RUN_STATE q.ctx) 2).pointBegin p q.ctx k e e true).syncQueue p) ∧
    (∀ q e, a.runOf p = some q → a.instantAt p = some e → e ≤ a.now →
      exec (.pointInstant t p) s = .next ((a.pointInstant p q e).syncPort p).settle) ∧
    (∀ q e, a.runOf p = some q → a.doneAt p = some e → e ≤ a.now →
      exec (.pointDone t p) s = .next (((a.pointDone p q e).selectAt p e).syncPort p).settle) ∧
    (a.now % 640000 = 0 → exec (.stallAgeUpdate t) s = .next (a.forAll 128 (stallPort a.now)).settle) ∧
    (a.now % 640000 ≠ 0 → exec (.stallAgeUpdate t) s = .next a.settle) ∧
    (∀ f r, a.scan.busy = none → a.scan.queue = f :: r → a.scan.freeAt ≤ a.now → let n := Tab.get (fun _ => 0) a.scan.seqs f.sel
      ∃ u : State, exec (.scanFrameStart t) s = .next u.settle ∧ u.scan.queue = r ∧
        u.scan.busy = some (if f.op = 0xC2 then f else { f with seqn := n }, a.now + a.frameTicks) ∧
        u.tx = a.tx ++ [.scanFrame f.sel (frameWord { f with seqn := n }) 64] ∧ Tab.get (fun _ => 0) u.scan.seqs f.sel = (n + 1) % 256 ∧
        u.regs = a.regs ∧ u.ports = a.ports) ∧
    (∀ f e, a.scan.busy = some (f, e) → e ≤ a.now → exec (.scanFrameEnd t miso) s = .next (a.frameEnd f miso.toNat e).settle) ∧
    (∀ e f, Tab.get (fun _ => none) a.scan.retries p = some (e, f) → e ≤ a.now →
      let b : State := { a with scan := { a.scan with retries := Tab.set (fun _ => none) a.scan.retries p none } };
      (b.askedBy f = true → exec (.scnRetryExpiry t p) s = .next (b.requestFrame { f with op := 0xC1, req := e }).settle) ∧
      (b.askedBy f = false → exec (.scnRetryExpiry t p) s = .next b.settle)) ∧
    (∀ q d, a.runOf p = some q → q.phase = Ph.scan → q.scanOk = true → q.scanDue = some d → d ≤ a.now →
      exec (.scanSettleEnd t p) s =
        .next ((a.modPoint p fun q => { q with loadWait := true, from_ := a.now }).setPhase p Ph.load).settle)

/-! ### The timebase (R202-R217) -/

/-- R206-R210, R213: on a millisecond boundary the segment that is due begins: a TAI_SET value where no PPS edge is awaited, else a measurement
as a step or through the servo, else the return to the nominal rate; a follower takes the segment of the SYNC stream and no other. Between
boundaries nothing begins. -/
def Obligations.SegmentsComplete : Prop :=
  ∀ (s : State) (t : Tick), let a := s.advance t; let g := a.segNow; let n := segTime g a.now
    (a.now % 640000 ≠ 0 → exec (.segmentBegin t) s = .next a.settle) ∧
    (∀ v w, a.now % 640000 = 0 → a.follows = false → a.tb.taiSet = some (v, w) → a.srcPps = false → w < a.now →
      exec (.segmentBegin t) s =
        .next ((((a.modTb fun b => { b with taiSet := none, theta := none, ppsFirst := true }).pushSeg
          { t0 := a.now, n0 := v, rate := g.rate }).stepped true a.now).settle)) ∧
    (∀ l, a.now % 640000 = 0 → a.follows = true → a.tb.nextSeg = some l → l.t0 ≤ a.now →
      exec (.segmentBegin t) s = .next ((a.modTb fun b => { b with nextSeg := none }).pushSeg l).settle) ∧
    (a.follows = true → (∀ l, a.tb.nextSeg = some l → a.now < l.t0) → exec (.segmentBegin t) s = .next a.settle) ∧
    (∀ th, a.now % 640000 = 0 → a.follows = false → a.taiDue a.now = none → a.tb.theta = some th →
      th.force = true ∨ (a.rN Tb.STEP_NS : Int) ≤ absI th.ns →
      exec (.segmentBegin t) s =
        .next ((((a.modTb fun b => { b with theta := none }).pushSeg
          { t0 := a.now, n0 := (((n : Int) + th.ns) % 2 ^ 64).toNat, rate := g.rate }).stepped th.force a.now).settle)) ∧
    (∀ th, a.now % 640000 = 0 → a.follows = false → a.taiDue a.now = none → a.tb.theta = some th → th.force = false →
      absI th.ns < a.rN Tb.STEP_NS →
      let r := a.rateLimit (Config.servoRate g.rate th.ns (a.rN Tb.TB_TAU) a.fresh);
      exec (.segmentBegin t) s =
        .next ({ ((a.modTb fun b => { b with theta := none }).pushSeg { t0 := a.now, n0 := n, rate := r }) with fresh := a.fresh + 1 } :
          State).settle) ∧
    (a.now % 640000 = 0 → a.follows = false → a.taiDue a.now = none → a.tb.theta = none → a.rN Tb.TIME_SRC = 0 → g.rate ≠ nomRate →
      exec (.segmentBegin t) s = .next (a.pushSeg { t0 := a.now, n0 := n, rate := nomRate }).settle)

/-- R209-R212: the sources. A PPS_IN edge is journalled, and with PPS selected measures, against the value of a TAI_SET that waits for it, and
unless it lies outside the window while locked; a PTP message of another port, transport or domain is ignored; PPS_OUT
rises at the first tick at or after a whole second and falls after its width; a one-step Sync is answered by a Delay_Req and a two-step one is
counted and dropped; the Delay_Resp completes the measurement; two seconds without one freeze RATE. -/
def Obligations.TimeSourcesComplete : Prop :=
  ∀ (s : State) (t : Tick) (port : Fin 2) (via : Fin 3) (two : Bool) (domain origin recv : Nat) (corr : Int), let a := s.advance t
    let off := fun (x : State) => (nearSecond (x.timeNs a.now) : Int) - x.timeNs a.now;
    (a.srcPps = false → exec (.ppsIn t) s = .next (a.jEdge 0x500 11 0 a.now).settle) ∧
    (let b := a.jEdge 0x500 11 0 a.now;
      b.srcPps = true → b.tb.taiSet = none → b.tb.ppsFirst = false → lockedAt b.tb.ppsTick a.now = true →
        absI (off b) ≤ b.rN Tb.PPS_WINDOW * 1000 →
        exec (.ppsIn t) s = .next (((b.modTb fun x => { x with ppsFirst := false }).measured 1 (off b) false true a.now).settle)) ∧
    (let b := a.jEdge 0x500 11 0 a.now;
      ∀ v w, b.srcPps = true → b.tb.taiSet = some (v, w) → w < a.now →
        exec (.ppsIn t) s =
          .next (((b.modTb fun x => { x with taiSet := none, ppsFirst := false }).measured 1 ((v : Int) - b.timeNs a.now) true true a.now).settle)) ∧
    (let b := a.jEdge 0x500 11 0 a.now;
      b.srcPps = true → b.tb.taiSet = none → b.tb.ppsFirst = false → lockedAt b.tb.ppsTick a.now = true →
        (b.rN Tb.PPS_WINDOW * 1000 : Int) < absI (off b) →
        exec (.ppsIn t) s = .next ((b.satInc Tb.PPS_REJECT 32 1).setBit Tb.TB_STATUS TbStatus.PPS_REJ true).settle) ∧
    (let sec := a.timeNs a.now / 1000000000;
      a.secondAt a.now = true → a.tb.ppsOutLast ≠ sec →
        exec (.ppsOutRise t) s =
          .next (((a.modTb fun b => { b with ppsOutHigh := some a.now, ppsOutLast := sec }).out (.pin "PPS_OUT" true)).produce 0x07 0 a.now 0).settle) ∧
    (∀ r, a.tb.ppsOutHigh = some r → r + 640 * a.rN Tb.PPS_OUT_WIDTH ≤ a.now →
      exec (.ppsOutFall t) s = .next ((a.modTb fun b => { b with ppsOutHigh := none }).out (.pin "PPS_OUT" false)).settle) ∧
    (a.rN Tb.PTP_PORT ≠ port ∨ a.rN Tb.PTP_TRANSPORT ≠ via ∨ a.rN Tb.PTP_DOMAIN ≠ domain ∨ a.srcPtp = false →
      exec (.ptpSync t ⟨port, via⟩ two domain origin corr) s = .next a.settle ∧
      exec (.ptpDelayResp t ⟨port, via⟩ domain recv corr) s = .next a.settle) ∧
    (a.rN Tb.PTP_PORT = port → a.rN Tb.PTP_TRANSPORT = via → a.rN Tb.PTP_DOMAIN = domain → a.srcPtp = true → two = true →
      exec (.ptpSync t ⟨port, via⟩ two domain origin corr) s = .next (a.satInc Tb.PTP_TWOSTEP_DROP 32 1).settle) ∧
    (a.rN Tb.PTP_PORT = port → a.rN Tb.PTP_TRANSPORT = via → a.rN Tb.PTP_DOMAIN = domain → a.srcPtp = true → two = false →
      exec (.ptpSync t ⟨port, via⟩ two domain origin corr) s =
        .next ((a.modTb fun b => { b with ptpSync := some (a.now, origin, corr) }).out (.ptpDelayReq port via)).settle) ∧
    (∀ rx o c, a.tb.ptpSync = some (rx, o, c) → a.rN Tb.PTP_PORT = port → a.rN Tb.PTP_TRANSPORT = via → a.rN Tb.PTP_DOMAIN = domain →
      a.srcPtp = true →
      exec (.ptpDelayResp t ⟨port, via⟩ domain recv corr) s =
        .next ((a.modTb fun b => { b with ptpSync := none }).ptpMeasured rx o c recv corr).settle) ∧
    (a.srcPps = true ∨ a.srcPtp = true → a.tb.lastMeas.getD 0 + 1280000000 ≤ a.now →
      exec (.disciplineTimeout t) s = .next (a.modTb fun b => { b with rateHold := true }).syncTb.settle)

/-- R203, R204, R210, R213, R214: TAI_SET is remembered with its tick; the PLL in use is replaced or the device resets with cause CLK_LOSS; the
reference is lost and returns; the leader sends a frame each 2^20 ticks and a follower takes frames with a good CRC, loses and finds the stream;
RESYNC loads the counter on a quiet device and is refused otherwise. -/
def Obligations.ClocksAndSyncComplete : Prop :=
  ∀ (s : State) (t : Tick) (who : Principal) (v : Nat) (T t0 n0 rate : Nat) (tai crc : Bool), let a := s.advance t
    (a.grants who Tb.TAI_SET = true →
      exec (.taiSet t who v) s = .next (a.completes who Tb.TAI_SET v fun x => x.modTb fun b => { b with taiSet := some (v, a.now) }).settle) ∧
    (a.rN Tb.PLL_ACTIVE = 0 → a.tb.pll1 = true →
      exec (.pllLockLoss t) s =
        .next (((((a.set Tb.PLL_ACTIVE 1).setBit Tb.TB_STATUS TbStatus.PLL_SWITCHED true).modTb fun b => { b with pll0 := false }).garnet 8 Gk.pll
          1 0 a.now).syncTb).settle) ∧
    (a.rN Tb.PLL_ACTIVE = 1 ∨ a.tb.pll1 = false → exec (.pllLockLoss t) s = .next (a.later a.now (.reset 4)).settle) ∧
    exec (.refclkLost t) s =
      .next ((a.setBit Tb.TB_STATUS TbStatus.REF_LOST true).modTb fun b => { b with pllHold := true }).syncTb.settle ∧
    exec (.refclkReturn t) s =
      .next ((a.setBit Tb.TB_STATUS TbStatus.REF_LOST false).modTb fun b => { b with pllHold := false }).syncTb.settle ∧
    (a.tb.role = 1 → a.now % 1048576 = 0 →
      exec (.syncFrameTx t) s =
        .next (a.out (.syncFrame [a.now, a.segNow.t0, a.segNow.n0, a.segNow.rate, (a.bit Tb.TB_STATUS TbStatus.TAI_VALID).toNat])).settle) ∧
    (a.follows = true → crc = true →
      exec (.syncFrameRx t T t0 n0 rate tai crc) s = .next (a.syncFrame T { t0 := t0, n0 := n0, rate := rate } tai a.now).settle) ∧
    (a.follows = false ∨ crc = false → exec (.syncFrameRx t T t0 n0 rate tai crc) s = .next a.settle) ∧
    (a.follows = true → a.tb.acquired = true →
      exec (.syncStreamLoss t) s =
        .next ((a.setBit Tb.TB_STATUS TbStatus.SYNC_LOCK false).modTb fun b => { b with syncHold := true, announced := none }).syncTb.settle) ∧
    (let b := (a.modTb fun b => { b with announced := some (T, a.now), syncHold := false }).syncTb;
      a.follows = true → a.tb.acquired = true → a.bit Tb.TB_STATUS TbStatus.SYNC_LOCK = false →
        (b.agrees T a.now = true → exec (.syncReacquire t T) s = .next b.syncLocked.settle) ∧
        (b.agrees T a.now = false → a.anyEnabled = true →
          exec (.syncReacquire t T) s = .next (b.setBit Tb.TB_STATUS TbStatus.SLIP true).settle) ∧
        (b.agrees T a.now = false → a.anyEnabled = false →
          exec (.syncReacquire t T) s = .next (b.setBit Tb.TB_STATUS TbStatus.SLIP true).syncLoad.settle)) ∧
    (a.grants who Tb.RESYNC = true → a.allQuiet = true →
      exec (.resync t who 1) s = .next (a.completes who Tb.RESYNC 1 fun x => x.syncLoad).settle) ∧
    (a.grants who Tb.RESYNC = true → a.allQuiet = false → a.anyEnabled = true →
      exec (.resync t who v) s = .next (a.refuse who Tb.RESYNC 0x05020008).settle)

/-! ### Carillon (R218-R240) -/

/-- R226, R228, R230, R233, R238: an edge on an input pin is an event after INV, on an OFF pin it changes the level alone, and on an output pin
nothing; a timer's match is an event; FIRE on an
enabled channel of an SW producer is an event of generation 0 and is refused otherwise; CH_EN enables a channel unless a zero-delay cycle would
close, and disables it. -/
def Obligations.CarillonSourcesComplete : Prop :=
  ∀ (s : State) (t : Tick) (who : Principal) (n : PinId) (k : TimerId) (e : ChanId), let a := s.advance t
    (let level := fun v : Bool => a.modFab fun f => { f with trigIn := Tab.set (fun _ => false) f.trigIn n (v != bitOf (a.trigCfg n) 3) };
      (a.trigDir n = 1 →
        exec (.trigRise t n) s = .next (((level true).jEdge 0x500 9 n a.now).produce 0x01 n a.now 0).settle ∧
        exec (.trigFall t n) s = .next (((level false).jEdge 0x500 10 n a.now).produce 0x02 n a.now 0).settle) ∧
      (a.trigDir n ≠ 1 → a.trigDir n ≠ 2 →
        exec (.trigRise t n) s = .next (level true).settle ∧ exec (.trigFall t n) s = .next (level false).settle) ∧
      (a.trigDir n = 2 → exec (.trigRise t n) s = .next a.settle ∧ exec (.trigFall t n) s = .next a.settle)) ∧
    (a.timerDue k a.now = true → exec (.tmr t k) s = .next (a.produce 0x04 k a.now 0).settle) ∧
    (a.grants who (Ch.FIRE e) = true → a.bit (Ch.CH_EN e) 0 = true → a.rN (Ch.PRODUCER e) / 65536 = 3 →
      exec (.fire t who e) s = .next (a.completes who (Ch.FIRE e) 1 fun x => channelEvent a.now 0 e x).settle) ∧
    (a.grants who (Ch.FIRE e) = true → a.bit (Ch.CH_EN e) 0 = false ∨ a.rN (Ch.PRODUCER e) / 65536 ≠ 3 →
      exec (.fire t who e) s = .next (a.refuse who (Ch.FIRE e) 0x05020006).settle) ∧
    (a.grants who (Ch.CH_EN e) = true → a.bit (Ch.CH_EN e) 0 = false → (a.set (Ch.CH_EN e) 1).zeroCycle e = false →
      exec (.chEn t who e 1) s =
        .next (a.completes who (Ch.CH_EN e) 1 fun x => ((x.set (Ch.CH_EN e) 1).markDirty).leaveConfig (0x5000 + e)).settle) ∧
    (a.grants who (Ch.CH_EN e) = true → a.bit (Ch.CH_EN e) 0 = false → (a.set (Ch.CH_EN e) 1).zeroCycle e = true →
      exec (.chEn t who e 1) s = .next (a.refuse who (Ch.CH_EN e) 0x06010005).settle) ∧
    (a.grants who (Ch.CH_EN e) = true →
      exec (.chEn t who e 0) s = .next (a.completes who (Ch.CH_EN e) 0 fun x => (x.set (Ch.CH_EN e) 0).markDirty).settle)

/-- R220, R223, R224, R227-R230: what deliveries of this tick do at the fabric's units. A delay unit starts, passes the event on at once for a
DELAY of 0, or drops it while busy, and ends with an event one generation on; CLR zeroes a counter; INC deliveries count each in COUNT mode, and
merge in EDGE mode; an output pin pulses, inverts, or drops a trigger during a pulse, and its pulse ends; the Gong counts and reaches all ports. -/
def Obligations.CarillonUnitsComplete : Prop :=
  ∀ (s : State) (t : Tick) (k : DelayId) (c : CounterId) (n : PinId), let a := s.advance t;
    (∀ r, a.dlyRun k = some r → r.due ≤ a.now → exec (.dlyOut t k) s = .next ((a.setDly k none).produce 0x06 k r.due r.gen).settle) ∧
    (let l := a.dueFrom a.now (a.rN (Dl.FIRE_EVENT k)) (prodCode Task.dly k);
      let b := a.markFrom a.now (a.rN (Dl.FIRE_EVENT k)) (prodCode Task.dly k);
      a.dlyRun k = none → l ≠ [] →
        exec (.dlyFire t k) s =
          .next (if b.rN (Dl.DELAY k) = 0 then b.produce 0x06 k a.now (topGen l + 1)
            else b.setDly k (some { due := a.now + b.rN (Dl.DELAY k), gen := topGen l + 1 })).settle) ∧
    (let l := a.dueFrom a.now (a.rN (Dl.FIRE_EVENT k)) (prodCode Task.dly k);
      let b := a.markFrom a.now (a.rN (Dl.FIRE_EVENT k)) (prodCode Task.dly k);
      ∀ r, a.dlyRun k = some r → a.now < r.due → b.dlyRun k = some r → l ≠ [] →
        exec (.dlyFire t k) s = .next ((b.setBit (Dl.DLY_STATUS k) 1 true).flagChannels ChStatus.TARGET_OVR l).settle) ∧
    (let ch := a.rN (Ec.CLR_EVENT c);
      a.dueFrom a.now ch (prodCode Task.ecClr c) ≠ [] →
        exec (.ecClr t c) s =
          .next (((a.markFrom a.now ch (prodCode Task.ecClr c)).set (Ec.EC_COUNT c) 0).modFab fun f =>
            { f with ecDone := Tab.set (fun _ => false) f.ecDone c false }).settle) ∧
    (let x := a.ecClear c a.now;
      let l := (x.incChannels c).flatMap fun ch => x.dueFrom a.now ch (prodCode Task.ecInc c);
      let b := (x.incChannels c).foldl (fun (y : State) ch => y.markFrom a.now ch (prodCode Task.ecInc c)) x;
      l ≠ [] → b.rN (Ec.EC_MODE c) = 0 → exec (.ecInc t c) s = .next (b.ecAdd c l.length (topGen l) a.now).settle) ∧
    (let x := a.ecClear c a.now;
      let l := (x.incChannels c).flatMap fun ch => x.dueFrom a.now ch (prodCode Task.ecInc c);
      let b := (x.incChannels c).foldl (fun (y : State) ch => y.markFrom a.now ch (prodCode Task.ecInc c)) x;
      2 ≤ l.length → b.rN (Ec.EC_MODE c) ≠ 0 →
        exec (.ecInc t c) s =
          .next ((((b.satInc (Ec.EC_COINCIDE c) 32 1).flagChannels ChStatus.MERGED l).ecAdd c 1 (topGen l) a.now).settle)) ∧
    (let cfg := a.trigCfg n; let l := a.dueFrom a.now (field cfg 16 16) (prodCode Task.trig n);
      let b := a.markFrom a.now (field cfg 16 16) (prodCode Task.trig n);
      l ≠ [] → b.trigDir n = 2 → bitOf cfg 2 = false → Tab.get (fun _ => 0) b.fab.trigBusy n ≤ a.now →
        exec (.trigOut t n) s =
          .next (((b.setTrigOut n true).setTrigBusy n (a.now + 32 * field cfg 8 8)).trigDrive n).settle) ∧
    (let cfg := a.trigCfg n; let l := a.dueFrom a.now (field cfg 16 16) (prodCode Task.trig n);
      let b := a.markFrom a.now (field cfg 16 16) (prodCode Task.trig n);
      l ≠ [] → b.trigDir n = 2 → bitOf cfg 2 = true →
        exec (.trigOut t n) s = .next ((b.setTrigOut n (!Tab.get (fun _ => false) b.fab.trigOut n)).trigDrive n).settle) ∧
    (a.trigDir n = 2 → bitOf (a.trigCfg n) 2 = false → Tab.get (fun _ => false) a.fab.trigOut n = true →
      Tab.get (fun _ => 0) a.fab.trigBusy n ≤ a.now →
      exec (.trigPulseEnd t n) s = .next ((a.setTrigOut n false).trigDrive n).settle) ∧
    (let l := a.dueFrom a.now (a.rN Ev.GONG_SRC) gongCounted;
      l ≠ [] →
        exec (.gongDelivery t) s =
          .next (((a.markFrom a.now (a.rN Ev.GONG_SRC) gongCounted).wrapInc Ev.GONG_COUNT 32 l.length).forAll 128 (gongPort a.now)).settle)

/-! ### Scratchpad, regions, rings and background test (R241-R271) -/

/-- R242, R251, R257: after the disturbances of the stored bits, requests of the masters join those that wait, and the bank cycle that begins at
this tick or the next is run; a corrected word is written back unless the banks are being cleared or wiped; the wipe ends after its 4096 ticks and
is counted, and the accesses that waited for its end are made, in their order. -/
def Obligations.FabricAccessesComplete : Prop :=
  ∀ (s : State) (t : Tick) (rs : List FabReq) (hits : List (Nat × Upset)) (addr : Nat), let a := s.advance t;
    let b := (hits.foldl (fun x h => x.upset h.1 h.2) a).fabRequest rs;
    (b.micro.any (fun m => decide (m.2 = Micro.fabCycle)) = false → a.now % 2 = 0 →
      exec (.fabricAccess t ⟨rs, hits⟩) s = .next (b.fabCycle a.now).settle) ∧
    (b.micro.any (fun m => decide (m.2 = Micro.fabCycle)) = false → a.now % 2 = 1 →
      exec (.fabricAccess t ⟨rs, hits⟩) s = .next (b.later (a.now + 1) .fabCycle).settle) ∧
    (b.micro.any (fun m => decide (m.2 = Micro.fabCycle)) = true → exec (.fabricAccess t ⟨rs, hits⟩) s = .next b.settle) ∧
    (a.banksFree = true → addr ∈ a.mem.fix →
      exec (.eccWriteback t addr) s = .next (a.modMem fun m => { m with fix := m.fix.erase addr, soft := m.soft.erase addr }).settle) ∧
    (a.banksFree = false ∨ addr ∉ a.mem.fix → exec (.eccWriteback t addr) s = .next a.settle) ∧
    (a.wiping = true → a.mem.wipeEnd ≤ a.now →
      let c := ((a.setBit Fb.FAB_STATUS FabStatus.WIPING false).satInc Fb.SAPPHIRE_WIPES 32 1).modMem fun m => { m with cells := [] };
      let d := a.mem.cells.foldl (fun x w => x.cellWrite w.1 w.2) c;
      exec (.sapphireWipeEnd t) s = .next (d.mem.late.foldl (fun x w => x.lateDo w a.now) (d.modMem fun m => { m with late := [] })).settle) ∧
    (a.wiping = false ∨ a.now < a.mem.wipeEnd → exec (.sapphireWipeEnd t) s = .next a.settle)

/-- R252, R253, R259-R265: the requests of this chapter. A region is enabled if its pages are in range and clear of every enabled region, and
disabled unless an enabled ring lies in it; a ring is enabled if it is placed, with its counts at 0, and disabled; CONS_HOST takes a value up to
WR_COUNT; BT_REQUEST is remembered; and the zero fill and the commit of a block end. -/
def Obligations.RegionsAndRingsComplete : Prop :=
  ∀ (s : State) (t : Tick) (who : Principal) (r : RegionId) (q : RingId) (v : Nat), let a := s.advance t;
    (a.grants who (Rg.REGION_EN r) = true → a.bit (Rg.REGION_EN r) 0 = false → a.regionGeometryOk r = true →
      exec (.regionEn t who r 1) s =
        .next (a.completes who (Rg.REGION_EN r) 1 fun x => (x.markDirty.regionOn r).leaveConfig (0x2340 + r)).settle) ∧
    (a.grants who (Rg.REGION_EN r) = true → a.bit (Rg.REGION_EN r) 0 = false → a.regionGeometryOk r = false →
      exec (.regionEn t who r 1) s = .next (a.refuse who (Rg.REGION_EN r) 0x06010003).settle) ∧
    (a.grants who (Rg.REGION_EN r) = true → a.bit (Rg.REGION_EN r) 0 = true → a.ringIn r = false →
      exec (.regionEn t who r 0) s = .next (a.completes who (Rg.REGION_EN r) 0 fun x => x.markDirty.regionOff r).settle) ∧
    (a.grants who (Rg.REGION_EN r) = true → a.bit (Rg.REGION_EN r) 0 = true → a.ringIn r = true →
      exec (.regionEn t who r 0) s = .next (a.refuse who (Rg.REGION_EN r) 0x05010000).settle) ∧
    (a.banksFree = true → a.rN (Rg.REGION_STATE r) = 1 → exec (.regionZeroDone t r) s = .next (a.set (Rg.REGION_STATE r) 2).settle) ∧
    (a.grants who (Rn.RING_EN q) = true → a.bit (Rn.RING_EN q) 0 = false → a.ringPlaced q = true →
      exec (.ringEn t who q 1) s =
        .next (a.completes who (Rn.RING_EN q) 1 fun x => (x.markDirty.ringOn q).leaveConfig (0x2380 + q)).settle) ∧
    (a.grants who (Rn.RING_EN q) = true → a.bit (Rn.RING_EN q) 0 = true →
      exec (.ringEn t who q 0) s = .next (a.completes who (Rn.RING_EN q) 0 fun x => x.markDirty.ringOff q).settle) ∧
    (∀ b l, a.banksFree = true → a.ringQ q = b :: l → (a.setRingQ q l).ringFull q = false → a.rN (Rn.RING_MODE q) = 0 →
      exec (.ringBlockCommit t q) s = .next ((a.setRingQ q l).ringPut q b.2).settle) ∧
    (∀ b l, a.banksFree = true → a.ringQ q = b :: l → (a.setRingQ q l).ringFull q = true → a.rN (Rn.RING_MODE q) = 0 →
      exec (.ringBlockCommit t q) s =
        .next ((((a.setRingQ q l).dropBlock q b.2).setBit (Rn.RING_STATUS q) RingStatus.OVF true).syncRing q).settle) ∧
    (a.grants who (Rn.CONS_HOST q) = true → a.dmaOn q = false → a.consOk q v = true →
      exec (.consHost t who q v) s = .next (a.completes who (Rn.CONS_HOST q) v fun x => x.consSet q v).settle) ∧
    (a.grants who (Rn.CONS_HOST q) = true → a.dmaOn q = true →
      exec (.consHost t who q v) s = .next (a.refuse who (Rn.CONS_HOST q) 0x05020006).settle) ∧
    (a.grants who Fb.BT_REQUEST = true → v ≤ 63 →
      exec (.btRequest t who v) s = .next (a.completes who Fb.BT_REQUEST v fun x => x.modMem fun m => { m with btReq := some v }).settle) ∧
    (a.served = true → exec (.btBorrowStart t) s = .next (a.borrowStart a.now).settle) ∧
    (a.rN Fb.BT_STATE = 1 → a.mem.btDue ≤ a.now → exec (.btCopyEnd t) s = .next a.copyEnd.settle) ∧
    (∀ pass, a.rN Fb.BT_STATE = 2 → a.mem.btDue ≤ a.now → exec (.btTestEnd t pass) s = .next (a.testEnd pass a.now).settle) ∧
    (a.rN Fb.BT_STATE = 3 → a.mem.btDue ≤ a.now → exec (.btWritebackEnd t) s = .next a.writebackEnd.settle)

/-! ### The monitor converter (R272-R287) -/

/-- R274, R275, R277-R280: an accepted software request takes the unit, with its class of request; the start-up of a cycle ends with its sampling
instant, and the conversion takes 640 ticks from it; a conversion ends in the next cycle or an over-range pause; a supervised input that falls due
schedules its request and its next due tick; a read of the queue lets a stalled cycle start. -/
def Obligations.MonitorConverterComplete : Prop :=
  ∀ (s : State) (t : Tick) (who : Principal) (v : Nat) (i : McInput) (alt : Bool) (code : BitVec 16) (ovf : Bool) (r : Fin 3), let a := s.advance t;
    (a.grants who Mc.MC_REQ = true → a.mcReqCheck v = none → bitOf v 15 = false →
      exec (.mcReq t who v) s =
        .next (a.completes who Mc.MC_REQ v fun x => (x.modMc fun m => { m with softBusy := true }).mcSchedule
          { input := field v 0 10, alt := bitOf v 14, cls := 0, due := a.now, soft := true } a.now).settle) ∧
    (a.grants who Mc.MC_REQ = true → a.mcReqCheck v = none → bitOf v 15 = true →
      exec (.mcReq t who v) s =
        .next (a.completes who Mc.MC_REQ v fun x => (x.modMc fun m => { m with softBusy := true }).mcUrgent
          { input := field v 0 10, alt := bitOf v 14, cls := 0, due := a.now, soft := true } a.now).settle) ∧
    (∀ e, a.grants who Mc.MC_REQ = true → a.mcReqCheck v = some e → exec (.mcReq t who v) s = .next (a.refuse who Mc.MC_REQ e).settle) ∧
    (∀ q, a.mc.cyc.phase = 1 → a.mc.cyc.req = some q → a.mc.cyc.due ≤ a.now →
      ∃ u : State, exec (.mcSamplingInstant t) s = .next u.settle ∧ u = a.mcSample q ∧ u.mc.cyc.phase = 2 ∧ u.mc.cyc.at_ = a.mc.cyc.due ∧
        u.mc.cyc.due = a.mc.cyc.due + 640 ∧ (q.cls = 9 ∨ mcClass q.input q.alt ≠ 1 → u.regs = a.regs)) ∧
    (∀ q, a.mc.cyc.phase = 2 → a.mc.cyc.req = some q → a.mc.cyc.due ≤ a.now →
      exec (.mcConversionDone t code ovf) s = .next (a.mcDone a.mc.cyc q (mcCode code.toInt ovf) ovf a.mc.cyc.due).settle) ∧
    (a.mc.cyc.phase = 3 → a.mc.cyc.due ≤ a.now →
      exec (.mcPauseEnd t) s = .next ((a.modMc fun m => { m with cyc := {} }).mcKick a.mc.cyc.due).settle) ∧
    (∀ e, a.mcReads r = true → a.mc.queue[a.mcPtr r - a.mc.base]? = some e →
      exec (.mcQueueSpace t r) s =
        .next (((((if r.val = 2 then a.mcJournal e else a).mcSetPtr r (a.mcPtr r + 1)).mcTrim).mcKick a.now)).settle) ∧
    (let due := Tab.get (fun _ => 0) a.mc.next (mcKey i alt); let gap := a.mcInterval i alt;
      a.served = true → a.supvOn = true → i.val < 1023 → (alt = true → mcHasAlt i = true) → mcClass i alt ≠ 1 → a.mcActive i alt = true →
      due ≤ a.now → a.now < due + gap →
      exec (.supervisionDue t i alt) s =
        .next ((a.modMc fun m => { m with next := Tab.set (fun _ => 0) m.next (mcKey i alt) (due + gap) }).mcSchedule
          { input := i, alt := alt, cls := mcClass i alt, due := due } a.now).settle)

/-! ### Calibration and the reference chain (R288-R317) -/

/-- R290-R292, R298, R299, R302-R304, R308, R309: reference transfers and slice runs. A request starts a transfer, or waits, unless one is under
way; so does the lapse of REF_XFER_INTERVAL; deferred work is tried again at CAL_RETRY_INTERVAL; the timed steps end with what was measured, and a
commit ends. Rotation. A request and a trigger start the rotation of the group or leave it pending; the minimum gap ends; the shadow stands for its
time and the agreement span begins; the span ends in the test, before which a trip that only the incoming slice saw sets its latch; and the three
moments of a force transfer, 640, 1280 and 1344 ticks after its start, in order. -/
def Obligations.CalibrationRunsComplete : Prop :=
  (∀ (s : State) (t : Tick) (who : Principal) (g : GroupId) (dx : XferData) (dc : CalData) (ok : Bool), let a := s.advance t;
      (a.grants who Ca.REF_XFER_REQ = true →
        exec (.refXferReq t who 1) s = .next (a.completes who Ca.REF_XFER_REQ 1 fun x => x.xferRequest a.now).settle) ∧
      (a.served = true → a.rN Ca.REF_XFER_INTERVAL ≠ 0 → a.cal.lastXfer + a.rN Ca.REF_XFER_INTERVAL * 640000000 ≤ a.now →
        exec (.refXferIntervalExpiry t) s =
          .next (State.xferRequest { a with cal := { a.cal with lastXfer := a.now } } a.now).settle) ∧
      (∀ r, a.cal.retryAt = some r → r ≤ a.now → a.cal.cellWant.isSome = true ∨ a.rQ Ca.REFX_VALUE ≠ 0 →
        ∃ u : State, exec (.calRetryExpiry t) s = .next (u.xferTry a.now).settle ∧ u.cal.retryAt = none ∧ u.regs = a.regs) ∧
      (∀ x, a.cal.xfer = some x → x.step ≤ 3 → x.due ≤ a.now → exec (.xferStepEnd t dx) s = .next (a.xferStep dx).settle) ∧
      (∀ r, (a.rot g).run = some r → r.step ≤ 7 → r.due ≤ a.now → exec (.calRunStepEnd t g dc) s = .next (a.runStep g dc).settle) ∧
      (∀ c r, a.nv.started = true → a.nv.cmds = c :: r →
        let b : State := { a with nv := { a.nv with cmds := r, started := false } };
        exec (.recordCommitDone t ok) s =
          .next (if ok then (b.commitDone c a.now).out (.flash c.pair (((b.commitDone c a.now).nvPair c.pair).best.map (·.seq) |>.getD 0))
            else b.commitFail c a.now).settle)) ∧
  (∀ (s : State) (t : Tick) (who : Principal) (g : GroupId) (dV dI : Int) (trip : Bool), let a := s.advance t;
      (a.grants who (Gr.ROT_REQUEST g) = true →
        exec (.rotRequest t who g 1) s = .next (a.completes who (Gr.ROT_REQUEST g) 1 fun x => x.rotTrigger g a.now).settle) ∧
      (a.full = true → a.rQ (Gr.DT_CAL_EFF g) < absR (a.rQ (Gr.GROUP_TEMP g) - a.rQ (Gr.CAL_LAST_TEMP g)) →
        exec (.rotTrigger t g) s = .next (a.rotTrigger g a.now).settle) ∧
      (a.full = true → a.rN (Gr.ROT_INTERVAL g) ≠ 0 →
        a.rN (Gr.ROT_LAST_START g) + a.rN (Gr.ROT_INTERVAL g) * 1000000000 ≤ a.timeNs a.now →
        exec (.rotTrigger t g) s = .next (a.rotTrigger g a.now).settle) ∧
      (a.bit (Gr.ROT_STATUS g) RotStatus.ROT_PENDING = true → a.inGap g a.now = false →
        exec (.rotMinGapEnd t g) s = .next ((a.rotBit g RotStatus.GAP_HOLD false).rotKick g a.now).settle) ∧
      (a.rotTimed g 1 5 a.now = true →
        exec (.rotShadowEnd t g) s =
          .next (((a.modRot g fun r => { r with step := r.step + 1 }).agreeSpan g (a.rot g).due).syncRot g).settle) ∧
      (a.rotTimed g 2 6 a.now = true →
        exec (.agreeTestEnd t g dV dI trip) s =
            .next (((a.when trip fun x => x.shadowSaw g a.now).agreeEnd g dV dI).shadowRearm (a.rot g).port (a.incoming g) a.now).settle) ∧
      (a.rotTimed g 2 6 a.now = false → exec (.agreeTestEnd t g dV dI trip) s = .next a.settle) ∧
      ((a.gx g).overlap.isSome = true → (a.rot g).done = 0 → (a.rot g).tx + 640 ≤ a.now →
        exec (.transferSwap t g) s = .next (a.modRot g fun r => { r with done := 1 }).settle) ∧
      ((a.gx g).overlap.isSome = true → (a.rot g).done = 1 → (a.rot g).tx + 1280 ≤ a.now →
        exec (.transferRelease t g) s = .next ((a.setRole (a.outgoing g) 2 0xFF).modRot g fun r => { r with done := 2 }).settle) ∧
      ((a.gx g).overlap.isSome = true → (a.rot g).done = 2 → (a.rot g).tx + 1344 ≤ a.now →
        exec (.transferEnd t g) s = .next (a.transferOver g ((a.rot g).tx + 1344)).settle))

/-! ### Ageing and in-service repair (R318-R338) -/

/-- R318-R325: the stress of every slice and LIFE_USED are accrued for a second that has ended; when EVAL_INTERVAL has passed, every slice that is
not RETIRED is evaluated on its new ring-oscillator delay and then every group is planned; a health record without a commit for 24 hours is
committed; WORN_REQ asks for the replacement of its slice; and before their time the four clocked commands do nothing. -/
def Obligations.HealthComplete : Prop :=
  ∀ (s : State) (t : Tick) (who : Principal) (i : SliceId) (ro : List Nat), let a := s.advance t;
    (a.served = true → a.age.stressAt + 640000000 ≤ a.now →
      let b := (List.range 144).foldl (fun x k => x.stressSlice k) a;
      exec (.stressAccrue t) s =
        .next ({ b with age := { b.age with stressAt := b.age.stressAt + 640000000 } } : State).lifeUsed.settle) ∧
    (a.served = false ∨ a.now < a.age.stressAt + 640000000 → exec (.stressAccrue t) s = .next a.settle) ∧
    (a.served = true → a.age.evalAt + a.rN Ag.EVAL_INTERVAL * 640000000 ≤ a.now →
      let b := (List.range 144).foldl (fun (x : State) k =>
        if x.roleOf k = 4 then x else ((ro[k]?).elim x fun d => x.ringOsc k d).evaluate k) a;
      let c := (List.range 16).foldl (fun (x : State) g => x.groupPlan g) b;
      exec (.healthEval t ro) s = .next ({ c with age := { c.age with evalAt := a.now } } : State).settle) ∧
    (a.served = false ∨ a.now < a.age.evalAt + a.rN Ag.EVAL_INTERVAL * 640000000 → exec (.healthEval t ro) s = .next a.settle) ∧
    (a.served = true → (a.sx i).lastCommit + 55296000000000 ≤ a.now → a.committing (.health i) = false →
      exec (.healthCommitDue t i) s = .next (a.requestCommit i (.health i)).settle) ∧
    (a.served = false ∨ a.now < (a.sx i).lastCommit + 55296000000000 ∨ a.committing (.health i) = true →
      exec (.healthCommitDue t i) s = .next a.settle) ∧
    (a.grants who (Sl.WORN_REQ i) = true →
      exec (.wornReq t who i 1) s =
        .next (a.completes who (Sl.WORN_REQ i) 1 fun x => x.modSx i fun y => { y with wornWant := y.wornWant ||| 32 }).settle) ∧
    (∀ v, a.grants who (Sl.WORN_REQ i) = true → v ≠ 1 →
      exec (.wornReq t who i v) s = .next (a.refuse who (Sl.WORN_REQ i) 0x06010061).settle)

/-- R327-R331: a window opens when its notice has elapsed and waits for GO if its policy says so; GO aligns it and ABORT ends it; a warmed-up
spare cell decides the vote; a core that misses its heartbeat or faults is replaced, and its successor takes over. -/
def Obligations.WindowsAndFailuresComplete : Prop :=
  ∀ (s : State) (t : Tick) (who : Principal) (p : PortId) (g : GroupId) (d0 d1 : Int) (c : Fin 6), let a := s.advance t;
    (a.rN (Gr.WIN_STATE g) = 1 → (a.rot g).winDue ≤ a.now →
      let b := a.set (Gr.WIN_STATE g) 2;
      exec (.winNoticeEnd t g) s =
        .next (if b.live (a.rot g).port (Pt.WIN_POLICY (a.rot g).port) = 0 then b.winAlign g (a.rot g).winDue else b).settle) ∧
    (let key := Pt.WIN_CTRL p;
      a.grants who key = true → a.ticking p = false → a.queueFree p = true →
        exec (.go t who p) s = .next (a.completes who key 1 fun x => x.winGo p a.now).settle ∧
        exec (.winAbort t who p) s = .next (a.completes who key 2 fun x => x.winAbortReq p a.now).settle) ∧
    (let key := Pt.WIN_CTRL p;
      a.grants who key = true → a.ticking p = true ∨ a.queueFree p = false →
        exec (.go t who p) s = .next (a.gcSubmit who key 1 { port := p, op := .winCtrl 1, since := a.now }).settle ∧
        exec (.winAbort t who p) s = .next (a.gcSubmit who key 2 { port := p, op := .winCtrl 2, since := a.now }).settle) ∧
    (∀ k e, a.age.vote = some (k, e) → e ≤ a.now → a.voteReady = true →
      exec (.voteWarmupEnd t d0 d1) s = .next (a.voteEnd d0 d1 a.now).settle) ∧
    (let b := if 0 ∈ a.rolesOf c ∧ c.val ∉ a.age.deadCores ∧ a.coreSpare = true then (a.coreFailed c a.now).heldAbort else a.coreFailed c a.now;
      a.served = true → exec (.heartbeatMiss t c) s = .next b.settle ∧ exec (.coreFault t c) s = .next b.settle) ∧
    (∀ r d, a.age.takeover = some (r, d) → exec (.coreTakeoverDone t) s = .next (a.coreTaken r a.now).settle)

/-! ### The OD service (R13, R345, R352) -/

/-- R13, R345, R352: a held command enters its group's queue when there is room and is answered; a write of an entry runs the checks of its type
before its own; CFG_SAVE requests the commit of the configuration image. -/
def Obligations.OdServiceComplete : Prop :=
  ∀ (s : State) (t : Tick) (who : Principal) (g : GroupId) (key : Nat) (data : List Byte), let a := s.advance t;
    (∀ w k c l, (a.gx g).held = (w, k, c) :: l → (a.gx g).queue.length < 64 →
      exec (.heldCommandEnqueue t g) s = .next ((((a.modGx g fun x => { x with held := l }).gcPush c).answerHeld c 0).ownsEnter g).settle) ∧
    (a.reaches who key = true → a.writeFirst key data.length = none → ((entryRow key).bind fun r => tyBytes r.ty).isSome = true →
      exec (.odWrite t who key data) s = .next (numWrite who key (leNat data) a.now a).settle) ∧
    (a.reaches who key = true → a.writeFirst key data.length = none → ((entryRow key).bind fun r => tyBytes r.ty) = none →
      exec (.odWrite t who key data) s = .next (blobWrite who key data a).settle) ∧
    (∀ e, a.reaches who key = true → a.writeFirst key data.length = some e →
      exec (.odWrite t who key data) s = .next (a.refuse who key e).settle) ∧
    (a.grants who Dv.CFG_SAVE = true →
      exec (.cfgSave t who 1) s = .next (a.completes who Dv.CFG_SAVE 1 fun x => x.requestSave).settle)

/-! ### Recorder and replay (R397-R413) -/

/-- R399-R407, R408-R413: the requests on the recorder, and the events of its store: an open chunk is flushed, a command on the drive ends, is
overdue, or is issued again, a header commit, a checkpoint and a snapshot fall due, and the boot scan ends. A replay session. START is accepted only
in IDLE or DONE, with one to eight ports, a range, and an epoch of which something is held; its SEEK finds a checkpoint or ends with NO_START; each
chunk advances it; STOP ends it with STOPPED. -/
def Obligations.RecorderComplete : Prop :=
  (∀ (s : State) (t : Tick) (who : Principal) (v next : Nat) (d : DriveInfo) (ok : Bool), let a := s.advance t;
      (a.grants who Rc.J_EN = true → v ≤ 1 →
        exec (.jEn t who v d) s = .next (a.completes who Rc.J_EN v fun x => x.jEnDo v (some d) a.now).settle) ∧
      (a.grants who Rc.STORE_INIT = true →
        exec (.storeInit t who 1 d) s = .next (a.completes who Rc.STORE_INIT 1 fun x => x.storeInitDo (some d) a.now).settle) ∧
      (a.grants who Rc.OFFLOADED = true → a.rN Rc.OFFLOADED ≤ v → v ≤ a.rN Rc.CHUNK_NEXT →
        exec (.offloaded t who v) s = .next (a.completes who Rc.OFFLOADED v fun x => x.offloadedDo v a.now).settle) ∧
      (a.grants who Rc.OFFLOADED = true → v < a.rN Rc.OFFLOADED ∨ a.rN Rc.CHUNK_NEXT < v →
        ∃ e, e / 65536 = 0x0601 ∧ exec (.offloaded t who v) s = .next (a.refuse who Rc.OFFLOADED e).settle) ∧
      (a.rcd.recs ≠ [] → a.rcd.openSince + a.rN Rc.J_FLUSH * 640000 ≤ a.now →
        exec (.jFlushExpiry t) s = .next (a.closeChunk.recKick a.now).settle) ∧
      (∀ c, a.rcd.cmd = some c → c.retryAt = none →
        exec (.nvmeCmdComplete t ok) s = .next (if ok then a.cmdOk c a.now else a.cmdBad c a.now).settle) ∧
      (∀ c, a.rcd.cmd = some c → c.retryAt = none → c.issued + 640000000 ≤ a.now →
        exec (.nvmeCmdTimeout t) s = .next (a.cmdBad c a.now).settle) ∧
      (∀ c r, a.rcd.cmd = some c → c.retryAt = some r → r ≤ a.now →
        exec (.nvmeRetry t) s = .next (a.issue { c with issued := r, retryAt := none }).settle) ∧
      (0 < a.rcd.sinceHeader → a.rcd.headerAt + 6400000000 ≤ a.now ∨ 1024 ≤ a.rcd.sinceHeader →
        exec (.headerCommitDue t) s = .next (a.headerDue.recKick a.now).settle) ∧
      (a.recRun = true → a.rcd.ckptAt ≤ a.now → exec (.checkpointDue t) s = .next (a.checkpoint a.now).settle) ∧
      (a.recRun = true → a.rcd.snapAt ≤ a.now →
        exec (.j2SnapDue t) s =
          .next ((a.j2Ports.foldl (fun x p => x.snapWant p) a).modRec fun r =>
            { r with snapAt := r.snapAt + a.rN Rc.J2_SNAP_INTERVAL * 640000 }).settle) ∧
      (a.bit Rc.J_STATUS JStatus.SCAN = true → exec (.journalScanDone t d next) s = .next (a.scanDone d next a.now).settle)) ∧
  (∀ (s : State) (t : Tick) (who : Principal) (c : RpChunk), let a := s.advance t;
      (a.grants who Rp.RP_CTRL = true → a.provisional = false → a.rN Rp.RP_STATE = 0 ∨ a.rN Rp.RP_STATE = 3 → 1 ≤ a.rpPorts.length →
        a.rpPorts.length ≤ 8 → a.rN Rp.RP_START < a.rN Rp.RP_END →
        exec (.rpCtrlStart t who) s =
          .next (if a.epochHeld then a.completes who Rp.RP_CTRL 1 fun x => x.rpCtrlDo 1 a.now else a.refuse who Rp.RP_CTRL 0x06010003).settle ∧
        ∃ u : State, u = a.rpCtrlDo 1 a.now ∧ u.rN Rp.RP_STATE = 1 ∧ u.rcd.rp.map (·.port) = a.rpPorts ∧ u.rcd.rpSeek = a.now) ∧
      (a.grants who Rp.RP_CTRL = true → a.rN Rp.RP_STATE = 1 ∨ a.rN Rp.RP_STATE = 2 →
        exec (.rpCtrlStart t who) s = .next (a.refuse who Rp.RP_CTRL 0x05020006).settle ∧
        exec (.rpCtrlStop t who) s =
          .next (a.completes who Rp.RP_CTRL 2 fun x => (x.set Rp.RP_STATE 3).set Rp.RP_RESULT 5).settle) ∧
      (a.grants who Rp.RP_CTRL = true → a.rN Rp.RP_STATE = 0 ∨ a.rN Rp.RP_STATE = 3 →
        exec (.rpCtrlStop t who) s = .next (a.refuse who Rp.RP_CTRL 0x05020006).settle) ∧
      (a.rN Rp.RP_STATE = 1 → exec (.replaySeekDone t true) s = .next (a.set Rp.RP_STATE 2).settle ∧
        exec (.replaySeekDone t false) s = .next ((a.set Rp.RP_STATE 3).set Rp.RP_RESULT 4).settle) ∧
      (a.rN Rp.RP_STATE = 2 → (∃ n, a.rcd.box.next = some n ∧ n ≠ c.no) ∨ c.no < a.rN Rc.CHUNK_OLDEST →
        exec (.replayChunkAvailable t c) s = .next ((a.set Rp.RP_STATE 3).set Rp.RP_RESULT 3).settle) ∧
      (a.rN Rp.RP_STATE = 2 → (∀ n, a.rcd.box.next = some n → n = c.no) → a.rN Rc.CHUNK_OLDEST ≤ c.no →
        let b := if c.epoch = a.rN Rp.RP_EPOCH then a.rcd.box.take c (a.rN Rp.RP_START)
          else { a.rcd.box with stop := some (a.rcd.box.stop.getD (a.rcd.box.top + 1)) };
        exec (.replayChunkAvailable t c) s = .next (a.rpRun b).settle) ∧
      (a.rN Rp.RP_STATE ≠ 2 → exec (.replayChunkAvailable t c) s = .next a.settle))

/-! ### Rails, firmware, security (R427, R438, R439, R446-R460) -/

/-- R438, R439: the PMBus rails. A poll and an alert read the enabled rails; the transaction on the bus ends; RAIL_ON switches a USER rail; a rail
that does not become power-good in 100 ms faults; and when a rail's delay has ended its sequence goes on. -/
def Obligations.RailsComplete : Prop :=
  ∀ (s : State) (t : Tick) (who : Principal) (n : RailId) (v dat : Nat), let a := s.advance t;
    (a.railsServed = true → a.rail.pollAt ≤ a.now → exec (.pmbPoll t) s = .next (a.pmbPoll a.now).settle) ∧
    (a.railsServed = true →
      exec (.pmbAlert t) s = .next (a.railsOn.foldl (fun x n => x.pmbRead n [0x79]) a).settle) ∧
    (∀ q l, a.rail.bus = q :: l →
      exec (.pmbTransactionDone t true dat) s =
        .next ((a.pmbOk q dat a.now).pmbNext ((a.pmbOk q dat a.now).rail.bus.drop 1)).settle) ∧
    (∀ q l, a.rail.bus = q :: l → q.tries < 2 →
      exec (.pmbTransactionDone t false dat) s = .next (a.pmbNext ({ q with tries := q.tries + 1 } :: l)).settle) ∧
    (a.grants who (Rl.RAIL_ON n) = true → a.rN (Rl.RAIL_ROLE n) = 0 → 1 ≤ v → v ≤ 2 →
      exec (.railOn t who n v) s = .next (a.completes who (Rl.RAIL_ON n) v fun x => x.railUser n v a.now).settle) ∧
    (a.bit (Rl.RAIL_EN n) 0 = true → a.railUser n 1 a.now = a.railTurnOn n a.now ∧ a.railUser n 2 a.now = a.railTurnOff n) ∧
    (a.bit (Rl.RAIL_EN n) 0 = false → a.railUser n v a.now = a) ∧
    (∀ b, a.railPgBy n = some b → b ≤ a.now → a.railState n = 1 →
      exec (.railPgTimeout t n) s = .next ((a.pmbDrop n).railFault n b).settle) ∧
    (∀ q e, a.rail.seqs = [q] → q.rail = n → q.due = some e → e ≤ a.now →
      ∃ u : State, exec (.railDelayEnd t n) s = .next (u.seqNext q.job q.left e).settle ∧ u.rail.seqs = [] ∧ u.regs = a.regs)

/-- R423, R427: a firmware image is taken when none is being stored or activated; its storing ends; FW_CTRL activates a ready image at run time if
it is compatible, and with a reset of cause FW_ACTIVATE; a restarted core runs the new image. -/
def Obligations.FirmwareComplete : Prop :=
  ∀ (s : State) (t : Tick) (who : Principal) (img : FwImage) (ok : Bool), let a := s.advance t;
    (a.grants who Fw.FW_IMAGE = true → a.rN Fw.FW_STATE = 0 ∨ a.rN Fw.FW_STATE = 2 →
      a.rN Pw.POWER_STATE = 2 ∨ a.bit Fw.FW_STATUS FwStatus.RECOVERY = true →
      exec (.fwImage t who img) s =
        .next (((a.set Fw.FW_STATE 1).modFw fun x => { x with storing := some img, ready := none }).accept who Fw.FW_IMAGE []).settle) ∧
    (a.grants who Fw.FW_IMAGE = true → a.rN Fw.FW_STATE = 1 ∨ a.rN Fw.FW_STATE = 3 →
      exec (.fwImage t who img) s = .next (a.refuse who Fw.FW_IMAGE 0x05020005).settle) ∧
    (∀ i, a.fwx.storing = some i → a.bit Fw.FW_STATUS FwStatus.RECOVERY = false →
      let b := a.modFw fun x => { x with storing := none };
      exec (.fwStoreDone t false) s =
        .next (((((b.modFw fun x => { fwPut x none with ready := none }).fwSeqs).set Fw.FW_STATE 0).setBit Fw.FW_STATUS FwStatus.STORE_FAIL true)).settle) ∧
    (∀ i, a.fwx.storing = some i → exec (.fwStoreDone t ok) s = .next (a.fwStored ok a.now).settle) ∧
    (∀ x y, a.grants who Fw.FW_CTRL = true → a.provisional = false → a.rN Fw.FW_STATE = 2 → a.fwx.ready = some x → a.fwx.running = some y →
      x.compat = y.compat → exec (.activate t who) s = .next (a.completes who Fw.FW_CTRL 1 fun x => x.fwActivate).settle) ∧
    (a.grants who Fw.FW_CTRL = true → a.rN Fw.FW_STATE ≠ 2 →
      exec (.activate t who) s = .next (a.refuse who Fw.FW_CTRL 0x05020006).settle ∧
      exec (.resetActivate t who) s = .next (a.refuse who Fw.FW_CTRL 0x05020006).settle) ∧
    (a.grants who Fw.FW_CTRL = true → a.provisional = false → a.rN Fw.FW_STATE = 2 →
      exec (.resetActivate t who) s = .next (a.completes who Fw.FW_CTRL 2 fun x => x.later a.now (.reset 7)).settle) ∧
    (a.rN Fw.FW_STATE = 3 → a.fwx.restarting.isSome = true → exec (.coreRestartDone t) s = .next (a.fwCoreDone a.now).settle) ∧
    (a.rN Fw.FW_STATE ≠ 3 ∨ a.fwx.restarting = none → exec (.coreRestartDone t) s = .next a.settle)

/-- R446-R453: security. SEC_HOLDERS keeps P_SUP; an assignment of a scope and a claim change the owner; SVN_MIN takes the SVN of the running image
and never falls; KEY programs the next free row of its slot while one is left, and KEY_REVOKE invalidates the row in use. -/
def Obligations.SecurityComplete : Prop :=
  ∀ (s : State) (t : Tick) (who : Principal) (k : KeyId) (key : List Byte) (v : Nat), let a := s.advance t;
    (a.grants who Se.SEC_HOLDERS = true → a.holdersAbort v = none →
      exec (.secHolders t who v) s =
        .next (a.completes who Se.SEC_HOLDERS v fun x => (x.set Se.SEC_HOLDERS (v ||| 1)).markDirty).settle) ∧
    (a.grants who Se.OWN_ASSIGN = true → a.assignAbort v = none →
      exec (.ownAssign t who v) s = .next (a.completes who Se.OWN_ASSIGN v fun x => x.assign' v who a.now).settle) ∧
    (∀ e, a.grants who Se.OWN_ASSIGN = true → a.assignAbort v = some e →
      exec (.ownAssign t who v) s = .next (a.refuse who Se.OWN_ASSIGN e).settle) ∧
    (a.reaches who Se.DEVICE_CLAIM = true → a.inUse Se.DEVICE_CLAIM = false → a.lcLocked who Se.DEVICE_CLAIM = false →
      a.idleKey Se.DEVICE_CLAIM = false → a.rN Id.LIFE_CYCLE ≠ 4 →
      who.val = 1 ∨ (18 ≤ who.val ∧ who.val ≤ 21 ∧ (a.session (who.val - 18)).isSome = true) → a.rN Dv.OWNER = 0 →
      exec (.deviceClaim t who 1) s =
        .next (a.completes who Se.DEVICE_CLAIM 1 fun x => (x.ownSet 0x2000 who false a.now).setBit Se.SEC_STATUS SecStatus.CLAIMED true).settle) ∧
    (a.grants who Se.SVN_LOCK = true → a.rN Fw.FW_STATE = 0 → a.bit Fw.FW_STATUS FwStatus.MIXED = false →
      exec (.svnLock t who 1) s =
        .next (a.completes who Se.SVN_LOCK 1 fun x => x.set Se.SVN_MIN (max (x.rN Se.SVN_MIN) ((x.fwx.running.map (·.svn)).getD 0))).settle) ∧
    (a.grants who (Ky.KEY k) = true → key.length = 32 → a.rN (Ky.KEY_ROWS_LEFT k) ≠ 0 →
      exec (.key t who k key) s =
        .next (((((a.setKeyRow k key).set (Ky.KEY_STATE k) 1).set (Ky.KEY_ROWS_LEFT k) (a.rN (Ky.KEY_ROWS_LEFT k) - 1))).accept who (Ky.KEY k) []).settle) ∧
    (a.grants who (Ky.KEY k) = true → key.length = 32 → a.rN (Ky.KEY_ROWS_LEFT k) = 0 →
      exec (.key t who k key) s = .next (a.refuse who (Ky.KEY k) 0x05020006).settle) ∧
    (a.grants who (Ky.KEY_REVOKE k) = true →
      exec (.keyRevoke t who k 1) s = .next (a.completes who (Ky.KEY_REVOKE k) 1 fun x => x.keyRevoke k).settle) ∧
    (a.pwr.boot ≠ 0 → exec (.rngHealthFail t) s = .next (a.setBit Se.SEC_STATUS SecStatus.RNG_FAIL true).settle)

/-- R454-R459: an armed tamper source acts; a life-cycle request stands for 10 s if R457 lists the transition, the same code confirms it on a quiet
device and another code cancels it, and the steps of the transition end in order, step 2 with its wipe. -/
def Obligations.TamperAndLifeCycleComplete : Prop :=
  ∀ (s : State) (t : Tick) (who : Principal) (src : TamperSrc) (v : Nat), let a := s.advance t;
    (2 ≤ src.val ∨ a.bit Se.TAMP_EN src = true → a.pwr.standby = false → a.pwr.boot ≠ 0 →
      exec (.tamper t src) s = .next (a.tamper src a.now).settle) ∧
    (src.val < 2 → a.bit Se.TAMP_EN src = true → a.pwr.standby = true →
      exec (.tamper t src) s = .next ({ a with sec := { a.sec with tampLatch := a.sec.tampLatch ||| 2 ^ src.val } } : State).settle) ∧
    (src.val < 2 → a.bit Se.TAMP_EN src = false → exec (.tamper t src) s = .next a.settle) ∧
    (a.grants who Se.LC_REQ = true → a.lcAllowed v = true →
      ∃ u : State, exec (.lcReq t who v) s = .next (a.completes who Se.LC_REQ v fun x => x.lcRequest v a.now).settle ∧
        u = a.lcRequest v a.now ∧ u.sec.lcReq = some (v, a.now + 6400000000)) ∧
    (a.grants who Se.LC_REQ = true → a.lcAllowed v = false →
      ∃ e, e / 65536 = 0x0601 ∧ exec (.lcReq t who v) s = .next (a.refuse who Se.LC_REQ e).settle) ∧
    (∀ w d, a.grants who Se.LC_CONFIRM = true → a.sec.lcReq = some (w, d) → a.now < d → v ≠ w →
      exec (.lcConfirm t who v) s = .next (a.completes who Se.LC_CONFIRM v fun x => x.lcConfirm v a.now).settle ∧ a.lcConfirm v a.now = a.lcCancel) ∧
    (∀ d, a.grants who Se.LC_CONFIRM = true → a.sec.lcReq = some (v, d) → a.now < d → a.allQuiet = true → a.rN Fw.FW_STATE ≠ 1 →
      a.rN Fw.FW_STATE ≠ 3 →
      exec (.lcConfirm t who v) s = .next (a.completes who Se.LC_CONFIRM v fun x => x.lcConfirm v a.now).settle ∧
        (a.lcConfirm v a.now).sec.lcStep = 1 ∧ (a.lcConfirm v a.now).sec.lcTo = v) ∧
    (∀ d, a.grants who Se.LC_CONFIRM = true → a.sec.lcReq = some (v, d) → a.now < d → a.allQuiet = false →
      exec (.lcConfirm t who v) s = .next (a.refuse who Se.LC_CONFIRM 0x05020004).settle) ∧
    (a.grants who Se.LC_CONFIRM = true → (∀ w d, a.sec.lcReq = some (w, d) → d ≤ a.now) →
      exec (.lcConfirm t who v) s = .next (a.refuse who Se.LC_CONFIRM 0x05020006).settle) ∧
    (∀ w d, a.sec.lcReq = some (w, d) → d ≤ a.now →
      exec (.lcReqTimeout t) s =
        .next (({ a with sec := { a.sec with lcReq := none } } : State).setBit Se.SEC_STATUS SecStatus.LC_PENDING false).settle) ∧
    (a.sec.lcStep = 1 →
      exec (.lcStepEnd t) s =
        .next ({ a.wipeTrigger a.now with sec := { (a.wipeTrigger a.now).sec with lcStep := 2, lcDue := a.now } } : State).settle) ∧
    (a.sec.lcStep = 3 →
      exec (.lcStepEnd t) s = .next ({ a.lcFuse with sec := { a.lcFuse.sec with lcStep := 4, lcDue := a.now } } : State).settle) ∧
    (a.sec.lcStep = 4 → exec (.lcStepEnd t) s = .next (a.lcFinish a.now).settle)

/-! ### The host over PCIe (R374-R396) -/

/-- R254, R257, R266, R267, R379-R382, R393: the windows of a function that is served. A LO write stages its word in the function's one write latch,
and one that replaces another word's sets WIN_ERR; a HI write of the staged word commits 40 bits of the two halves; another HI write changes nothing but
WIN_ERR; a write of the owner of the page stores and another principal's is discarded; reads, direct writes and atomics follow the slot of the window;
and during a wipe the accesses to the scratchpad wait. A function whose windows do not serve changes nothing in the registers it addresses: below D0 a
read and an atomic are answered with Unsupported Request. -/
def Obligations.WindowAccessesComplete : Prop :=
  ∀ (s : State) (t : Tick) (f : FnId) (off addr : Nat) (v : BitVec 32) (w : W64) (k : RdKind), let a := s.advance t;
    let slot := off / 8 * 8;
    let waits := fun (x : State) (l : Late) => x.modMem fun m => { m with late := m.late ++ [l] };
    (a.winUp f = true → (a.fnx f).wr = none →
      ∃ u : State, exec (.winLoWrite t f true off v) s = .next u.settle ∧ (u.fnx f).wr = some (true, slot, v.toNat) ∧ u.spad = a.spad ∧
        u.regs = a.regs) ∧
    (∀ b o lo, a.winUp f = true → (a.fnx f).wr = some (b, o, lo) → b = false ∨ o ≠ slot →
      ∃ u : State, exec (.winLoWrite t f true off v) s = .next u.settle ∧ (u.fnx f).wr = some (true, slot, v.toNat) ∧ u.spad = a.spad ∧
        u.regs = (a.setBit Fb.FAB_STATUS FabStatus.WIN_ERR true).regs) ∧
    (∀ lo, a.winUp f = true → (a.fnx f).wr = some (true, slot, lo) →
      let b := a.modFn f fun n => { n with wr := none };
      let word := v.toNat % 256 * 4294967296 + lo;
      exec (.winHiWrite t f true off v) s =
        .next (if a.wiping = true then waits b (.write f (off / 8) word) else b.spadWinWrite f (off / 8) word).settle) ∧
    (∀ b o lo, a.winUp f = true → (a.fnx f).wr = some (b, o, lo) → b = false ∨ o ≠ slot →
      exec (.winHiWrite t f true off v) s = .next (a.setBit Fb.FAB_STATUS FabStatus.WIN_ERR true).settle) ∧
    (a.winUp f = true → (a.fnx f).wr = none →
      exec (.winHiWrite t f true off v) s = .next (a.setBit Fb.FAB_STATUS FabStatus.WIN_ERR true).settle) ∧
    (a.winUp f = true → a.wiping = false → addr < 4194304 → a.memWriteAbort (f + 1) addr (a.secHolder (f + 1)) = none →
      exec (.winSpadWrite t f addr w) s = .next (a.spadPut addr (BitVec.ofNat 40 w.toNat)).settle) ∧
    (∀ e, a.winUp f = true → a.wiping = false → addr < 4194304 → sapphire addr = false →
      a.memWriteAbort (f + 1) addr (a.secHolder (f + 1)) = some e →
      exec (.winSpadWrite t f addr w) s = .next a.urCount.settle) ∧
    (a.winUp f = true → a.wiping = false → exec (.winLoRead t f true off k) s = .next (a.spadWinRead f slot k).settle) ∧
    (a.winUp f = true → a.wiping = true →
      exec (.winLoRead t f true off k) s = .next (waits a (.read f slot k)).settle ∧
      exec (.winSpadWrite t f addr w) s = .next (waits a (.write f addr w.toNat)).settle) ∧
    (a.winUp f = true → exec (.winLoRead t f false off k) s = .next (a.regsWinRead f off k).settle) ∧
    (a.winUp f = true → exec (.directWrite t f off .whole w) s = .next (a.regsWriteWhole f slot w.toNat a.now).settle) ∧
    (a.winUp f = true → a.wiping = true → off % 8 = 0 →
      exec (.fetchadd t f true off w) s = .next (waits a (.atomic f (off / 8) .addWrap (BitVec.ofNat 40 w.toNat))).settle ∧
      exec (.swap t f true off w) s = .next (waits a (.atomic f (off / 8) .swap (BitVec.ofNat 40 w.toNat))).settle) ∧
    (a.winUp f = true → a.wiping = false → off % 8 = 0 →
      exec (.fetchadd t f true off w) s = .next (a.spadAtomic f (off / 8) .addWrap (BitVec.ofNat 40 w.toNat)).settle ∧
      exec (.swap t f true off w) s = .next (a.spadAtomic f (off / 8) .swap (BitVec.ofNat 40 w.toNat)).settle) ∧
    (a.winUp f = false → a.fnLive f = true → a.served = true →
      exec (.winLoRead t f true off k) s = .next (a.answerUR f).settle ∧ exec (.swap t f true off w) s = .next (a.answerUR f).settle ∧
      exec (.winSpadWrite t f addr w) s = .next a.urCount.settle)

/-- R374-R377, R392: the functions and the link. A reset of the link takes every function down; a function-level reset of PF0 takes the VFs with it;
D3hot and D0 change a live function's windows; training sets the speed, limited by TARGET_SPEED, and the width; VF Enable sets NUM_VF; the end of a
holdoff and the unmasking of a vector send what waits. -/
def Obligations.PcieFunctionsComplete : Prop :=
  ∀ (s : State) (t : Tick) (f : FnId) (speed : Fin 4) (width vec : Nat) (n : Fin 17), let a := s.advance t;
    exec (.pcieReset t) s = .next ((((a.vfOff a.now).fnReset 0 a.now).set Pe.LINK_SPEED 0).set Pe.LINK_WIDTH 0).settle ∧
    (f.val = 0 → exec (.flr t f) s = .next ((a.vfOff a.now).fnReset 0 a.now).settle) ∧
    (f.val ≠ 0 → a.fnLive f = true → exec (.flr t f) s = .next (a.fnReset f a.now).settle) ∧
    (a.fnLive f = true → (a.fnx f).d3 = false → exec (.d3hot t f) s = .next (a.fnSleep f a.now).settle) ∧
    (a.fnLive f = true → exec (.d0Entry t f) s = .next (a.modFn f fun x => { x with d3 := false }).settle) ∧
    (a.pwr.boot ≠ 0 → width = 1 ∨ width = 2 ∨ width = 4 ∨ width = 8 ∨ width = 16 →
      exec (.pcieLinkUp t speed width) s =
        .next ((a.set Pe.LINK_SPEED (min (speed + 1) (a.rN Pe.TARGET_SPEED))).set Pe.LINK_WIDTH width).settle) ∧
    (a.rN Pe.LINK_SPEED ≠ 0 → a.rN Pe.NUM_VF = 0 → 0 < n.val → exec (.vfEnable t n) s = .next (a.set Pe.NUM_VF n).settle) ∧
    (a.rN Pe.LINK_SPEED ≠ 0 → n.val = 0 → exec (.vfEnable t n) s = .next (a.vfOff a.now).settle) ∧
    (Tab.get (fun _ => false) (a.fnx f).owed vec = true → Tab.get (fun _ => 0) (a.fnx f).hold vec ≤ a.now →
      exec (.irqHoldoffEnd t f vec) s =
        .next ((a.modFn f fun x => { x with owed := Tab.set (fun _ => false) x.owed vec false }).vecSend f vec a.now).settle) ∧
    (vec < vectorsOf f → a.fnLive f = true → Tab.get (fun _ => false) (a.fnx f).pend vec = true →
      exec (.vectorUnmask t f vec) s =
        .next ((a.modFn f fun x =>
          { x with unmasked := Tab.set (fun _ => false) x.unmasked vec true, pend := Tab.set (fun _ => false) x.pend vec false }).vecSend f vec
            a.now).settle)

/-- R383-R385: the mailbox. A request with an identifier that is not zero, on a mailbox that is not BUSY, makes it BUSY and is carried out by its
TYPE; identifier 0 is discarded and a request on a BUSY mailbox is an overrun; a completed access leaves its response and raises MB_VECTOR. -/
def Obligations.MailboxComplete : Prop :=
  ∀ (s : State) (t : Tick) (f : FnId) (id : Nat) (body : List Byte) (host : Option (List Byte)), let a := s.advance t;
    let busy := fun (typ : Nat) => a.modMb f fun m => { m with st := 1, cur := id, curTyp := typ, ready := none };
    (a.mbServes f = true → id ≠ 0 → (a.fnx f).mb.st ≠ 1 →
      exec (.mbRead t f id body) s = .next ((busy 2).mbRequest f id 2 body none a.now).settle ∧
      exec (.mbWrite t f id body) s = .next ((busy 3).mbRequest f id 3 body none a.now).settle ∧
      exec (.mbReadBlock t f id body) s = .next ((busy 4).mbRequest f id 4 body none a.now).settle ∧
      exec (.mbWriteBlock t f id body) s = .next ((busy 5).mbRequest f id 5 body none a.now).settle ∧
      exec (.mbAbort t f id body) s = .next ((busy 8).mbRequest f id 8 body none a.now).settle ∧
      exec (.spadCopy t f id body host) s = .next ((busy 9).mbRequest f id 9 body host a.now).settle) ∧
    (a.mbServes f = true → id = 0 →
      exec (.mbRead t f id body) s = .next (a.modMb f fun m => { m with discarded := true }).settle) ∧
    (a.mbServes f = true → id ≠ 0 → (a.fnx f).mb.st = 1 →
      exec (.mbWrite t f id body) s = .next (a.modMb f fun m => { m with overrun := true }).settle) ∧
    (∀ b, (a.fnx f).mb.ready = some b →
      let m := (a.fnx f).mb;
      let rsp := leBytes 1 (m.curTyp + 0x80) ++ leBytes 3 0 ++ leBytes 2 b.length ++ leBytes 2 0 ++ b;
      exec (.mbResponse t f) s =
        .next ((a.modMb f fun x => { x with rsp := rsp, doneId := m.cur, st := 2, ready := none }).raise f (a.rN (Fn.MB_VECTOR f)) a.now).settle)

/-- R386-R391: DMA and the notification queues. DMA_EN needs the consumer bit of the ring; DESC_TAIL goes forward within the posted limit; a
committed block goes to the open descriptor; an acknowledged one is consumed and counted; a partly filled descriptor is flushed; a failed fetch stops the
channel; and the oldest event of a function goes to its queue, or is counted as lost when the queue is full. -/
def Obligations.DmaAndNotificationsComplete : Prop :=
  ∀ (s : State) (t : Tick) (who : Principal) (r : RingId) (f : FnId) (v : Nat) (d : Desc), let a := s.advance t;
    (a.grants who (Dm.DMA_EN r) = true → (a.dmaFn r).isSome = true → a.bit (Rn.CONSUMERS r) 0 = true → a.dmaOn r = false →
      exec (.dmaEn t who r 1) s =
        .next (a.completes who (Dm.DMA_EN r) 1 fun x => (x.markDirty.set (Dm.DMA_EN r) 1).syncDma r).settle) ∧
    (a.grants who (Dm.DESC_TAIL r) = true → (a.dmaFn r).isSome = true → a.descTailOk r v = true →
      exec (.descTail t who r v) s =
        .next (a.completes who (Dm.DESC_TAIL r) v fun x => (x.set (Dm.DESC_TAIL r) v).markDirty.syncDma r).settle) ∧
    (∀ g, a.dmaFn r = some g → a.dmaOn r = true → a.winUp g = true → a.bit (Rn.RING_EN r) 0 = true → a.dmaWaiting r = true →
      a.wiping = false → (a.dmx r).open_ = true → (a.dmx r).filled < (a.dmx r).cap →
      exec (.dmaBlockTransfer t r d) s = .next (a.dmaPut r g a.now).settle) ∧
    (∀ g, a.dmaFn r = some g → a.dmaOn r = true → a.winUp g = true → a.bit (Rn.RING_EN r) 0 = true → a.dmaWaiting r = true →
      a.wiping = false → (a.dmx r).open_ = false → a.descPosted r = true → descOk d = true →
      exec (.dmaBlockTransfer t r d) s = .next ((a.descOpen r g d a.now).dmaPut r g a.now).settle) ∧
    (a.wiping = true → exec (.dmaBlockTransfer t r d) s = .next (a.modMem fun m => { m with late := m.late ++ [.dma r d] }).settle) ∧
    ((a.dmx r).flying ≠ 0 → (a.dmx r).flying ≠ 1 → diff40 (a.rN (Rn.WR_COUNT r)) (a.rN (Rn.CONS_HOST r)) ≠ 0 →
      let b := a.modDm r fun x => { x with flying := x.flying - 1 };
      ∃ u : State, u = (b.set (Rn.CONS_HOST r) ((b.rN (Rn.CONS_HOST r) + 1) % 1099511627776)).syncRing r ∧
        exec (.dmaBlockAcked t r) s =
          .next (let c := u.wrapInc (Dm.BLOCKS_SENT r) 40 1
            (if (c.dmx r).open_ && decide ((c.dmx r).filled = (c.dmx r).cap) && decide ((c.dmx r).flying = 0)
              then c.descBack r false false ((c.dmaFn r).getD 0) a.now else c).syncDma r).settle) ∧
    (∀ g, a.dmaFn r = some g → a.dmaOn r = true → (a.dmx r).open_ = true → 0 < (a.dmx r).filled → (a.dmx r).filled < (a.dmx r).cap →
      (a.dmx r).first + a.rN (Dm.DMA_FLUSH r) * 640 ≤ a.now →
      exec (.dmaFlushExpiry t r) s = .next ((a.descBack r true false g a.now).syncDma r).settle) ∧
    (∀ g, a.dmaFn r = some g → a.dmaOn r = true → (a.dmx r).open_ = false → a.descPosted r = true →
      exec (.descFetchError t r) s = .next (a.dmaStop r g .error a.now).settle) ∧
    (∀ i, a.pcie.intake.find? (fun i => decide (i.fn = f.val)) = some i →
      let b : State := { a with pcie := { a.pcie with intake := a.pcie.intake.erase i } };
      let size := 2 ^ b.rN (Fn.NQ_LOG2 f);
      b.bit (Fn.NQ_EN f) 0 = true → b.fnUp f = true → (b.rN (Fn.NQ_TAIL f) + 4294967296 - b.rN (Fn.NQ_HEAD f)) % 4294967296 < size →
      exec (.nqEntryWrite t f) s =
        .next ((((b.out (.hostWrite f (b.rN (Fn.NQ_BASE f) + 32 * (b.rN (Fn.NQ_TAIL f) % size)) (b.nqEntry i (b.fnx f).nqLost) false)).modFn f
          fun x => { x with nqLost := false }).set (Fn.NQ_TAIL f) ((b.rN (Fn.NQ_TAIL f) + 1) % 4294967296)).raise f (b.rN (Fn.NQ_VECTOR f))
          a.now).settle)

/-! ### The field ports (R356-R373) -/

/-- R362-R368: COP requests. In normal service an authenticated message of a session, with a higher SEQ and a REQ_ID that is not kept, is carried out
by its TYPE for the session, which takes its SEQ and its peer; a kept REQ_ID is answered with the kept response, a SEQ that is not higher is
dropped and counted, and a wrong tag is counted. -/
def Obligations.CopRequestsComplete : Prop :=
  ∀ (s : State) (t : Tick) (peer : Peer) (m : List Byte) (k : Nat) (x : Session), let a := s.advance t;
    let b := (a.setSession k (some { x with rx := copSeq m, peer := peer, lastMsg := a.now })).set (Ss.SESSION_STATE k) (peerState peer);
    a.served = true → 32 ≤ m.length →
    (copSid m = 0 → copTyp m = Cop.open_ → exec (.sessionOpen t peer m) s = .next (a.sessionOpenRx peer m a.now).settle) ∧
    (copSid m ≠ 0 → a.sessionOf (copSid m) = some k → a.session k = some x → copTagOk x.ks m = true → x.rx < copSeq m →
      (b.session k).bind (fun y => y.kept.find? fun e => decide (e.1 = copReq m)) = none → transportAbort (peerMax peer) m = none →
      (copTyp m = Cop.read → exec (.copRead t peer m) s = .next (b.readReq k (copReq m) (copBody m)).settle) ∧
      (copTyp m = Cop.write → exec (.copWrite t peer m) s = .next (b.writeReq k (copReq m) (copBody m) a.now).settle) ∧
      (copTyp m = Cop.readBlock → exec (.copReadBlock t peer m) s = .next (b.readBlockReq k (copReq m) peer (copBody m) a.now).settle) ∧
      (copTyp m = Cop.writeBlock → exec (.copWriteBlock t peer m) s = .next (b.writeBlockReq k (copReq m) (copBody m) a.now).settle) ∧
      (copTyp m = Cop.subscribe → exec (.subscribe t peer m) s = .next (b.subscribeReq k (copReq m) (copBody m) a.now).settle) ∧
      (copTyp m = Cop.abort → exec (.copAbort t peer m) s = .next (b.abortReq k (copReq m) (copBody m)).settle)) ∧
    (copSid m ≠ 0 → a.sessionOf (copSid m) = some k → a.session k = some x → copTagOk x.ks m = true → copSeq m ≤ x.rx → copTyp m = Cop.read →
      exec (.copRead t peer m) s = .next (a.satInc (Ss.REPLAY_DROP k) 32 1).settle) ∧
    (copSid m ≠ 0 → a.sessionOf (copSid m) = some k → a.session k = some x → copTagOk x.ks m = false → copTyp m = Cop.read →
      exec (.copRead t peer m) s = .next (a.satInc (Ss.AUTH_FAIL k) 32 1).settle)

/-- R363, R367-R369: what happens to a session in time. A block transfer without a segment for 10 s is abandoned; a session without an authenticated
message for SESSION_TIMEOUT closes, as it does on CLOSE; a subscription's read that is due takes its next due tick, and gathers an item where the data changed or the mode is
PERIODIC; one refused for ownership cancels the subscription; gathered items are sent when NOTIFY_HOLDOFF has passed. -/
def Obligations.SessionTimingComplete : Prop :=
  ∀ (s : State) (t : Tick) (who : Principal) (k : SessionId) (f : FnId) (x : Session), let a := s.advance t;
    (∀ b, a.session k = some x → x.block = some b → b.since + 6400000000 ≤ a.now →
      exec (.blockTransferTimeout t false ⟨k.val, by omega⟩) s = .next (a.setSession k (some { x with block := none })).settle) ∧
    (∀ b, (a.fnx f).mb.block = some b → b.since + 6400000000 ≤ a.now →
      exec (.blockTransferTimeout t true f) s = .next (a.modMb f fun m => { m with block := none }).settle) ∧
    (a.session k = some x → x.lastMsg + a.rN (Ss.SESSION_TIMEOUT k) * 640000000 ≤ a.now →
      exec (.sessionTimeout t k) s = .next (a.sessClose k).settle) ∧
    (a.grants who (Ss.CLOSE k) = true → exec (.close t who k 1) s = .next (a.completes who (Ss.CLOSE k) 1 fun y => y.sessClose k).settle) ∧
    (∀ u, a.session k = some x → x.subs.find? (fun v => decide (v.num = u.num) && decide (v.next ≤ a.now)) = some u →
      let who := 18 + k.val;
      let b : State := { a with resp := none };
      let taken := fun (z : State) (data : Option (List Byte)) => z.setSubs k (x.subs.map fun v =>
        if v.num = u.num then { v with next := u.next + u.period * 640000, last := if data.isSome then data else v.last } else v);
      (b.reaches who u.key = false → exec (.subscriptionRead t k u.num) s = .next b.settle) ∧
      (∀ e, b.reaches who u.key = true → b.readAbort who u.key = some e → e / 65536 = 0x0401 →
        exec (.subscriptionRead t k u.num) s =
          .next (((b.refuse who u.key e).setSubs k (x.subs.filter fun v => decide (v.num ≠ u.num))).addItem k (.cancelled u.num e) u.next).settle) ∧
      (∀ e, b.reaches who u.key = true → b.readAbort who u.key = some e → e / 65536 ≠ 0x0401 → e ≠ 0 →
        exec (.subscriptionRead t k u.num) s = .next (taken (b.refuse who u.key e) none).settle) ∧
      (b.reaches who u.key = true → b.readAbort who u.key = none → (b.readEntry u.key).2 = none →
        exec (.subscriptionRead t k u.num) s = .next (taken ((b.readEntry u.key).1.refuse who u.key 0x07010000) none).settle) ∧
      (∀ data, b.reaches who u.key = true → b.readAbort who u.key = none → (b.readEntry u.key).2 = some data →
        let z := (b.readEntry u.key).1.accept who u.key data;
        (u.mode ≠ 2 → u.last = some data → exec (.subscriptionRead t k u.num) s = .next (taken z none).settle) ∧
        (u.mode = 2 ∨ u.last ≠ some data →
          let w := taken z (if x.items.length < 64 then some data else none);
          exec (.subscriptionRead t k u.num) s = .next (w.addItem k (.value u.num (w.timeNs u.next) data) u.next).settle))) ∧
    (a.session k = none → ∀ n, exec (.subscriptionRead t k n) s = .next a.settle) ∧
    (a.session k = some x → x.items ≠ [] → x.itemAt + a.rN (Ss.NOTIFY_HOLDOFF k) * 640000 ≤ a.now →
      exec (.notify t k) s = .next (a.notifySend k a.now).settle)

/-- R356-R360, R370-R372: the field ports. A frame on a port with a link is learned, forwarded unless it is for the device, and taken if it is for the
device or a group and its FCS is right; a stored frame goes when its port is free; a link comes up and goes down; a CAN segment addressed to the node
joins its message, which 100 ms of silence drops; bus-off is entered once and left on recovery; a legacy request acts by its FUNC. -/
def Obligations.FieldPortsComplete : Prop :=
  ∀ (s : State) (t : Tick) (port : Fin 2) (g : EthFrame) (id : Nat) (h : Byte) (seg frame : List Byte), let a := s.advance t;
    (a.served = true → a.bit Ne.LINK port = true →
      let b := a.learn g.src port;
      g.dst ≠ b.macAddr → groupAddr g.dst = false → exec (.ethFrameRx t port g) s = .next (b.forward (1 - port) g a.now).settle) ∧
    (a.served = true → a.bit Ne.LINK port = true →
      let b := a.learn g.src port;
      g.dst = b.macAddr → g.fcsOk = true → exec (.ethFrameRx t port g) s = .next (b.takeFrame g a.now).settle) ∧
    (∀ q, a.net.stored.find? (fun e => decide (e.1 = port.val)) = some (port.val, q) → a.localEnd port ≤ a.now → a.fwdEnd port ≤ a.now →
      ∃ u : State, exec (.bridgeBufferedSend t port) s = .next (u.sendForward port q a.now).settle ∧
        u.net.stored = a.net.stored.erase (port.val, q) ∧ u.regs = a.regs) ∧
    (a.pwr.boot ≠ 0 →
      exec (.t1lLinkChange t port true) s = .next (a.setBit Ne.LINK port true).settle ∧
      ∃ u : State, exec (.t1lLinkChange t port false) s = .next u.settle ∧ u.regs = (a.setBit Ne.LINK port false).regs ∧
        ∀ e ∈ u.net.stored, e.1 ≠ port.val) ∧
    (a.served = true → a.bit Cn.CAN_EN 0 = true → a.rN Cn.CAN_STATE ≠ 2 → id = 0x500 + a.rN Cn.CAN_NODE →
      exec (.canSegmentRx t id (h :: seg)) s = .next (a.canSegment h.toNat seg a.now).settle) ∧
    (∀ x, a.net.can = some x → x.since + 64000000 ≤ a.now → exec (.canSegmentTimeout t) s = .next a.canDrop.settle) ∧
    (a.bit Cn.CAN_EN 0 = true → a.rN Cn.CAN_STATE ≠ 2 →
      exec (.canBusoff t false) s = .next ((a.set Cn.CAN_STATE 2).satInc Cn.CAN_BUSOFF 32 1).settle) ∧
    (a.bit Cn.CAN_EN 0 = true → a.rN Cn.CAN_STATE = 2 → exec (.canBusoff t true) s = .next (a.set Cn.CAN_STATE 0).settle) ∧
    (legFunc frame ≠ 2 → exec (.legRead t frame) s = .next (a.legRx frame a.now).settle) ∧
    (legFunc frame = 2 → exec (.legWrite t frame) s = .next (a.legRx frame a.now).settle)

end
end

