-- ==== Sys2Proof/Decode.lean ====
section
/-!
DEFINITION. Commands that a word spells. Every row of spec/opcode_table.json has an empty field list and gives no bits, so
no word spells a command.
-/

namespace Sys2Proof

/-- No row of the opcode table gives bits: every word is refused. -/
def decodeTableWord (_nbits _w : Nat) : Option Instr := none

end Sys2Proof
end

