-- ==== Sys2Proof/Laws/Table.lean ====
section
/-!
SUPPORT. Laws of the sparse tables: a read after a write, and the canonical form, which every write keeps.
-/

namespace Sys2Proof.Machine

variable {α : Type}

@[simp] theorem Tab.find?_erase_same (t : Tab α) (k : Nat) : (t.erase k).find? k = none := by
  induction t with
  | nil => rfl
  | cons e t ih =>
    obtain ⟨j, w⟩ := e
    by_cases h : j = k <;> simp [Tab.erase, Tab.find?, h, ih]

theorem Tab.find?_erase_ne (t : Tab α) {k j : Nat} (h : j ≠ k) : (t.erase k).find? j = t.find? j := by
  induction t with
  | nil => rfl
  | cons e t ih =>
    obtain ⟨i, w⟩ := e
    by_cases hi : i = k
    · simp [Tab.erase, Tab.find?, hi, ih, h.symm]
    · simp [Tab.erase, Tab.find?, hi, ih]

theorem Tab.find?_insert_ne (t : Tab α) {k j : Nat} (v : α) (h : j ≠ k) : (t.insert k v).find? j = t.find? j := by
  induction t with
  | nil => simp [Tab.insert, Tab.find?, h.symm]
  | cons e t ih =>
    obtain ⟨i, w⟩ := e
    by_cases hi : k < i <;> simp [Tab.insert, Tab.find?, hi, ih, h.symm]

theorem Tab.find?_insert_same (t : Tab α) (k : Nat) (v : α) (h : t.find? k = none) : (t.insert k v).find? k = some v := by
  induction t with
  | nil => simp [Tab.insert, Tab.find?]
  | cons e t ih =>
    obtain ⟨i, w⟩ := e
    by_cases hi : i = k
    · simp [Tab.find?, hi] at h
    · simp only [Tab.find?, hi, if_false] at h
      by_cases hk : k < i <;> simp [Tab.insert, Tab.find?, hk, hi, ih h]

/-- Reading the key just written gives the value written. -/
@[simp] theorem Tab.get_set_same [DecidableEq α] (d : Nat → α) (t : Tab α) (k : Nat) (v : α) : Tab.get d (Tab.set d t k v) k = v := by
  by_cases h : v = d k
  · simp [Tab.get, Tab.set, h]
  · simp [Tab.get, Tab.set, h, Tab.find?_insert_same]

/-- A write leaves every other key alone. -/
theorem Tab.get_set_ne [DecidableEq α] (d : Nat → α) (t : Tab α) {k j : Nat} (v : α) (h : j ≠ k) :
    Tab.get d (Tab.set d t k v) j = Tab.get d t j := by
  by_cases hv : v = d k
  · simp [Tab.get, Tab.set, hv, Tab.find?_erase_ne _ h]
  · simp [Tab.get, Tab.set, hv, Tab.find?_insert_ne _ _ h, Tab.find?_erase_ne _ h]

/-! ### The canonical form -/

/-- Keys strictly rising, as a pairwise relation. -/
theorem Tab.sorted_iff (t : Tab α) : t.sorted = true ↔ (t.map (·.1)).Pairwise (· < ·) := by
  induction t with
  | nil => simp [Tab.sorted]
  | cons e t ih =>
    cases t with
    | nil => simp [Tab.sorted]
    | cons f t =>
      obtain ⟨i, w⟩ := e
      obtain ⟨j, x⟩ := f
      simp only [Tab.sorted, Bool.and_eq_true, decide_eq_true_eq, ih]
      constructor
      · rintro ⟨h, hp⟩
        refine List.pairwise_cons.2 ⟨fun a ha => ?_, hp⟩
        rcases List.mem_cons.1 ha with rfl | ha
        · exact h
        · exact lt_trans h ((List.pairwise_cons.1 hp).1 a ha)
      · intro h
        exact ⟨(List.pairwise_cons.1 h).1 j (by simp), (List.pairwise_cons.1 h).2⟩

theorem Tab.erase_eq_filter (t : Tab α) (k : Nat) : t.erase k = t.filter (fun e => e.1 ≠ k) := by
  induction t with
  | nil => rfl
  | cons e t ih =>
    obtain ⟨i, w⟩ := e
    by_cases h : i = k <;> simp [Tab.erase, h, ih]

/-- Dropping entries keeps the canonical form. -/
theorem Tab.wf_filter [DecidableEq α] (d : Nat → α) (t : Tab α) (f : Nat × α → Bool) (h : Tab.wf d t = true) :
    Tab.wf d (t.filter f) = true := by
  simp only [Tab.wf, Bool.and_eq_true, Tab.sorted_iff] at h ⊢
  refine ⟨h.1.sublist (List.Sublist.map _ List.filter_sublist), ?_⟩
  rw [List.all_eq_true] at h ⊢
  exact fun e he => h.2 e (List.mem_filter.1 he).1

theorem Tab.mem_insert (t : Tab α) (k : Nat) (v : α) (e : Nat × α) : e ∈ t.insert k v ↔ e = (k, v) ∨ e ∈ t := by
  induction t with
  | nil => simp [Tab.insert]
  | cons f t ih =>
    obtain ⟨i, w⟩ := f
    by_cases h : k < i
    · simp [Tab.insert, h]
    · simp only [Tab.insert, h, if_false, List.mem_cons, ih]
      tauto

theorem Tab.pairwise_insert (t : Tab α) (k : Nat) (v : α) (hk : ∀ e ∈ t, e.1 ≠ k) (h : (t.map (·.1)).Pairwise (· < ·)) :
    ((t.insert k v).map (·.1)).Pairwise (· < ·) := by
  induction t with
  | nil => simp [Tab.insert]
  | cons f t ih =>
    obtain ⟨i, w⟩ := f
    have hi : i ≠ k := hk (i, w) (by simp)
    obtain ⟨h1, h2⟩ := List.pairwise_cons.1 h
    by_cases hlt : k < i
    · simp only [Tab.insert, hlt, if_true, List.map_cons]
      refine List.pairwise_cons.2 ⟨fun a ha => ?_, h⟩
      rcases List.mem_cons.1 ha with rfl | ha
      · exact hlt
      · exact lt_trans hlt (h1 a ha)
    · simp only [Tab.insert, hlt, if_false, List.map_cons]
      refine List.pairwise_cons.2 ⟨fun a ha => ?_, ih (fun e he => hk e (List.mem_cons_of_mem _ he)) h2⟩
      obtain ⟨e, he, rfl⟩ := List.mem_map.1 ha
      rcases (Tab.mem_insert t k v e).1 he with rfl | he
      · show i < k
        omega
      · exact h1 _ (List.mem_map_of_mem he)

/-- A write keeps the canonical form. -/
theorem Tab.wf_set [DecidableEq α] (d : Nat → α) (t : Tab α) (k : Nat) (v : α) (h : Tab.wf d t = true) :
    Tab.wf d (Tab.set d t k v) = true := by
  have he : Tab.wf d (t.erase k) = true := by rw [Tab.erase_eq_filter]; exact Tab.wf_filter d t _ h
  by_cases hv : v = d k
  · simpa [Tab.set, hv] using he
  · simp only [Tab.set, hv, if_false]
    simp only [Tab.wf, Bool.and_eq_true, Tab.sorted_iff, List.all_eq_true] at he ⊢
    refine ⟨Tab.pairwise_insert _ k v (fun e hm => ?_) he.1, fun e hm => ?_⟩
    · rw [Tab.erase_eq_filter] at hm
      simpa using (List.mem_filter.1 hm).2
    · rcases (Tab.mem_insert _ k v e).1 hm with rfl | hm
      · simpa using hv
      · exact he.2 e hm

end Sys2Proof.Machine
end

