-- ==== Sys2Proof/Laws/State.lean ====
section
/-!
SUPPORT. For every update of the state: each field that it leaves alone, and each accessor that reads such a field. All by rfl.
-/

namespace Sys2Proof.Machine.State

variable (s : State)

/-! ### setReg -/

@[simp] theorem setReg_now (k : Nat) (v : W64) : (s.setReg k v).now = s.now := rfl
@[simp] theorem setReg_blobs (k : Nat) (v : W64) : (s.setReg k v).blobs = s.blobs := rfl
@[simp] theorem setReg_ports (k : Nat) (v : W64) : (s.setReg k v).ports = s.ports := rfl
@[simp] theorem setReg_groups (k : Nat) (v : W64) : (s.setReg k v).groups = s.groups := rfl
@[simp] theorem setReg_slices (k : Nat) (v : W64) : (s.setReg k v).slices = s.slices := rfl
@[simp] theorem setReg_micro (k : Nat) (v : W64) : (s.setReg k v).micro = s.micro := rfl
@[simp] theorem setReg_fab (k : Nat) (v : W64) : (s.setReg k v).fab = s.fab := rfl
@[simp] theorem setReg_scan (k : Nat) (v : W64) : (s.setReg k v).scan = s.scan := rfl
@[simp] theorem setReg_tb (k : Nat) (v : W64) : (s.setReg k v).tb = s.tb := rfl
@[simp] theorem setReg_spad (k : Nat) (v : W64) : (s.setReg k v).spad = s.spad := rfl
@[simp] theorem setReg_mem (k : Nat) (v : W64) : (s.setReg k v).mem = s.mem := rfl
@[simp] theorem setReg_mc (k : Nat) (v : W64) : (s.setReg k v).mc = s.mc := rfl
@[simp] theorem setReg_cal (k : Nat) (v : W64) : (s.setReg k v).cal = s.cal := rfl
@[simp] theorem setReg_age (k : Nat) (v : W64) : (s.setReg k v).age = s.age := rfl
@[simp] theorem setReg_od (k : Nat) (v : W64) : (s.setReg k v).od = s.od := rfl
@[simp] theorem setReg_net (k : Nat) (v : W64) : (s.setReg k v).net = s.net := rfl
@[simp] theorem setReg_pcie (k : Nat) (v : W64) : (s.setReg k v).pcie = s.pcie := rfl
@[simp] theorem setReg_rcd (k : Nat) (v : W64) : (s.setReg k v).rcd = s.rcd := rfl
@[simp] theorem setReg_pwr (k : Nat) (v : W64) : (s.setReg k v).pwr = s.pwr := rfl
@[simp] theorem setReg_fwx (k : Nat) (v : W64) : (s.setReg k v).fwx = s.fwx := rfl
@[simp] theorem setReg_rail (k : Nat) (v : W64) : (s.setReg k v).rail = s.rail := rfl
@[simp] theorem setReg_lm (k : Nat) (v : W64) : (s.setReg k v).lm = s.lm := rfl
@[simp] theorem setReg_sec (k : Nat) (v : W64) : (s.setReg k v).sec = s.sec := rfl
@[simp] theorem setReg_nv (k : Nat) (v : W64) : (s.setReg k v).nv = s.nv := rfl
@[simp] theorem setReg_tx (k : Nat) (v : W64) : (s.setReg k v).tx = s.tx := rfl
@[simp] theorem setReg_resp (k : Nat) (v : W64) : (s.setReg k v).resp = s.resp := rfl
@[simp] theorem setReg_fresh (k : Nat) (v : W64) : (s.setReg k v).fresh = s.fresh := rfl
@[simp] theorem setReg_pending (k : Nat) (v : W64) : (s.setReg k v).pending = s.pending := rfl
@[simp] theorem setReg_blob_frame (k : Nat) (v : W64) (j : Nat) : (s.setReg k v).blob j = s.blob j := rfl
@[simp] theorem setReg_px_frame (k : Nat) (v : W64) (q : Nat) : (s.setReg k v).px q = s.px q := rfl
@[simp] theorem setReg_gx_frame (k : Nat) (v : W64) (q : Nat) : (s.setReg k v).gx q = s.gx q := rfl
@[simp] theorem setReg_sx_frame (k : Nat) (v : W64) (q : Nat) : (s.setReg k v).sx q = s.sx q := rfl
@[simp] theorem setReg_rot_frame (k : Nat) (v : W64) (q : Nat) : (s.setReg k v).rot q = s.rot q := rfl
@[simp] theorem setReg_spadAt_frame (k : Nat) (v : W64) (a : Nat) : (s.setReg k v).spadAt a = s.spadAt a := rfl
@[simp] theorem setReg_session_frame (k : Nat) (v : W64) (j : Nat) : (s.setReg k v).session j = s.session j := rfl
@[simp] theorem setReg_fnx_frame (k : Nat) (v : W64) (j : Nat) : (s.setReg k v).fnx j = s.fnx j := rfl
@[simp] theorem setReg_dmx_frame (k : Nat) (v : W64) (j : Nat) : (s.setReg k v).dmx j = s.dmx j := rfl

/-! ### setBlob -/

@[simp] theorem setBlob_now (k : Nat) (b : List Byte) : (s.setBlob k b).now = s.now := rfl
@[simp] theorem setBlob_regs (k : Nat) (b : List Byte) : (s.setBlob k b).regs = s.regs := rfl
@[simp] theorem setBlob_ports (k : Nat) (b : List Byte) : (s.setBlob k b).ports = s.ports := rfl
@[simp] theorem setBlob_groups (k : Nat) (b : List Byte) : (s.setBlob k b).groups = s.groups := rfl
@[simp] theorem setBlob_slices (k : Nat) (b : List Byte) : (s.setBlob k b).slices = s.slices := rfl
@[simp] theorem setBlob_micro (k : Nat) (b : List Byte) : (s.setBlob k b).micro = s.micro := rfl
@[simp] theorem setBlob_fab (k : Nat) (b : List Byte) : (s.setBlob k b).fab = s.fab := rfl
@[simp] theorem setBlob_scan (k : Nat) (b : List Byte) : (s.setBlob k b).scan = s.scan := rfl
@[simp] theorem setBlob_tb (k : Nat) (b : List Byte) : (s.setBlob k b).tb = s.tb := rfl
@[simp] theorem setBlob_spad (k : Nat) (b : List Byte) : (s.setBlob k b).spad = s.spad := rfl
@[simp] theorem setBlob_mem (k : Nat) (b : List Byte) : (s.setBlob k b).mem = s.mem := rfl
@[simp] theorem setBlob_mc (k : Nat) (b : List Byte) : (s.setBlob k b).mc = s.mc := rfl
@[simp] theorem setBlob_cal (k : Nat) (b : List Byte) : (s.setBlob k b).cal = s.cal := rfl
@[simp] theorem setBlob_age (k : Nat) (b : List Byte) : (s.setBlob k b).age = s.age := rfl
@[simp] theorem setBlob_od (k : Nat) (b : List Byte) : (s.setBlob k b).od = s.od := rfl
@[simp] theorem setBlob_net (k : Nat) (b : List Byte) : (s.setBlob k b).net = s.net := rfl
@[simp] theorem setBlob_pcie (k : Nat) (b : List Byte) : (s.setBlob k b).pcie = s.pcie := rfl
@[simp] theorem setBlob_rcd (k : Nat) (b : List Byte) : (s.setBlob k b).rcd = s.rcd := rfl
@[simp] theorem setBlob_pwr (k : Nat) (b : List Byte) : (s.setBlob k b).pwr = s.pwr := rfl
@[simp] theorem setBlob_fwx (k : Nat) (b : List Byte) : (s.setBlob k b).fwx = s.fwx := rfl
@[simp] theorem setBlob_rail (k : Nat) (b : List Byte) : (s.setBlob k b).rail = s.rail := rfl
@[simp] theorem setBlob_lm (k : Nat) (b : List Byte) : (s.setBlob k b).lm = s.lm := rfl
@[simp] theorem setBlob_sec (k : Nat) (b : List Byte) : (s.setBlob k b).sec = s.sec := rfl
@[simp] theorem setBlob_nv (k : Nat) (b : List Byte) : (s.setBlob k b).nv = s.nv := rfl
@[simp] theorem setBlob_tx (k : Nat) (b : List Byte) : (s.setBlob k b).tx = s.tx := rfl
@[simp] theorem setBlob_resp (k : Nat) (b : List Byte) : (s.setBlob k b).resp = s.resp := rfl
@[simp] theorem setBlob_fresh (k : Nat) (b : List Byte) : (s.setBlob k b).fresh = s.fresh := rfl
@[simp] theorem setBlob_pending (k : Nat) (b : List Byte) : (s.setBlob k b).pending = s.pending := rfl
@[simp] theorem setBlob_reg_frame (k : Nat) (b : List Byte) (j : Nat) : (s.setBlob k b).reg j = s.reg j := rfl
@[simp] theorem setBlob_rN_frame (k : Nat) (b : List Byte) (j : Nat) : (s.setBlob k b).rN j = s.rN j := rfl
@[simp] theorem setBlob_rI_frame (k : Nat) (b : List Byte) (j : Nat) : (s.setBlob k b).rI j = s.rI j := rfl
@[simp] theorem setBlob_rQ_frame (k : Nat) (b : List Byte) (j : Nat) : (s.setBlob k b).rQ j = s.rQ j := rfl
@[simp] theorem setBlob_bit_frame (k : Nat) (b : List Byte) (j i : Nat) : (s.setBlob k b).bit j i = s.bit j i := rfl
@[simp] theorem setBlob_fld_frame (k : Nat) (b : List Byte) (j lo w : Nat) : (s.setBlob k b).fld j lo w = s.fld j lo w := rfl
@[simp] theorem setBlob_px_frame (k : Nat) (b : List Byte) (q : Nat) : (s.setBlob k b).px q = s.px q := rfl
@[simp] theorem setBlob_gx_frame (k : Nat) (b : List Byte) (q : Nat) : (s.setBlob k b).gx q = s.gx q := rfl
@[simp] theorem setBlob_sx_frame (k : Nat) (b : List Byte) (q : Nat) : (s.setBlob k b).sx q = s.sx q := rfl
@[simp] theorem setBlob_rot_frame (k : Nat) (b : List Byte) (q : Nat) : (s.setBlob k b).rot q = s.rot q := rfl
@[simp] theorem setBlob_spadAt_frame (k : Nat) (b : List Byte) (a : Nat) : (s.setBlob k b).spadAt a = s.spadAt a := rfl
@[simp] theorem setBlob_session_frame (k : Nat) (b : List Byte) (j : Nat) : (s.setBlob k b).session j = s.session j := rfl
@[simp] theorem setBlob_fnx_frame (k : Nat) (b : List Byte) (j : Nat) : (s.setBlob k b).fnx j = s.fnx j := rfl
@[simp] theorem setBlob_dmx_frame (k : Nat) (b : List Byte) (j : Nat) : (s.setBlob k b).dmx j = s.dmx j := rfl

/-! ### setPx -/

@[simp] theorem setPx_now (p : Nat) (x : PortX) : (s.setPx p x).now = s.now := rfl
@[simp] theorem setPx_regs (p : Nat) (x : PortX) : (s.setPx p x).regs = s.regs := rfl
@[simp] theorem setPx_blobs (p : Nat) (x : PortX) : (s.setPx p x).blobs = s.blobs := rfl
@[simp] theorem setPx_groups (p : Nat) (x : PortX) : (s.setPx p x).groups = s.groups := rfl
@[simp] theorem setPx_slices (p : Nat) (x : PortX) : (s.setPx p x).slices = s.slices := rfl
@[simp] theorem setPx_micro (p : Nat) (x : PortX) : (s.setPx p x).micro = s.micro := rfl
@[simp] theorem setPx_fab (p : Nat) (x : PortX) : (s.setPx p x).fab = s.fab := rfl
@[simp] theorem setPx_scan (p : Nat) (x : PortX) : (s.setPx p x).scan = s.scan := rfl
@[simp] theorem setPx_tb (p : Nat) (x : PortX) : (s.setPx p x).tb = s.tb := rfl
@[simp] theorem setPx_spad (p : Nat) (x : PortX) : (s.setPx p x).spad = s.spad := rfl
@[simp] theorem setPx_mem (p : Nat) (x : PortX) : (s.setPx p x).mem = s.mem := rfl
@[simp] theorem setPx_mc (p : Nat) (x : PortX) : (s.setPx p x).mc = s.mc := rfl
@[simp] theorem setPx_cal (p : Nat) (x : PortX) : (s.setPx p x).cal = s.cal := rfl
@[simp] theorem setPx_age (p : Nat) (x : PortX) : (s.setPx p x).age = s.age := rfl
@[simp] theorem setPx_od (p : Nat) (x : PortX) : (s.setPx p x).od = s.od := rfl
@[simp] theorem setPx_net (p : Nat) (x : PortX) : (s.setPx p x).net = s.net := rfl
@[simp] theorem setPx_pcie (p : Nat) (x : PortX) : (s.setPx p x).pcie = s.pcie := rfl
@[simp] theorem setPx_rcd (p : Nat) (x : PortX) : (s.setPx p x).rcd = s.rcd := rfl
@[simp] theorem setPx_pwr (p : Nat) (x : PortX) : (s.setPx p x).pwr = s.pwr := rfl
@[simp] theorem setPx_fwx (p : Nat) (x : PortX) : (s.setPx p x).fwx = s.fwx := rfl
@[simp] theorem setPx_rail (p : Nat) (x : PortX) : (s.setPx p x).rail = s.rail := rfl
@[simp] theorem setPx_lm (p : Nat) (x : PortX) : (s.setPx p x).lm = s.lm := rfl
@[simp] theorem setPx_sec (p : Nat) (x : PortX) : (s.setPx p x).sec = s.sec := rfl
@[simp] theorem setPx_nv (p : Nat) (x : PortX) : (s.setPx p x).nv = s.nv := rfl
@[simp] theorem setPx_tx (p : Nat) (x : PortX) : (s.setPx p x).tx = s.tx := rfl
@[simp] theorem setPx_resp (p : Nat) (x : PortX) : (s.setPx p x).resp = s.resp := rfl
@[simp] theorem setPx_fresh (p : Nat) (x : PortX) : (s.setPx p x).fresh = s.fresh := rfl
@[simp] theorem setPx_pending (p : Nat) (x : PortX) : (s.setPx p x).pending = s.pending := rfl
@[simp] theorem setPx_reg_frame (p : Nat) (x : PortX) (j : Nat) : (s.setPx p x).reg j = s.reg j := rfl
@[simp] theorem setPx_rN_frame (p : Nat) (x : PortX) (j : Nat) : (s.setPx p x).rN j = s.rN j := rfl
@[simp] theorem setPx_rI_frame (p : Nat) (x : PortX) (j : Nat) : (s.setPx p x).rI j = s.rI j := rfl
@[simp] theorem setPx_rQ_frame (p : Nat) (x : PortX) (j : Nat) : (s.setPx p x).rQ j = s.rQ j := rfl
@[simp] theorem setPx_bit_frame (p : Nat) (x : PortX) (j i : Nat) : (s.setPx p x).bit j i = s.bit j i := rfl
@[simp] theorem setPx_fld_frame (p : Nat) (x : PortX) (j lo w : Nat) : (s.setPx p x).fld j lo w = s.fld j lo w := rfl
@[simp] theorem setPx_blob_frame (p : Nat) (x : PortX) (j : Nat) : (s.setPx p x).blob j = s.blob j := rfl
@[simp] theorem setPx_gx_frame (p : Nat) (x : PortX) (q : Nat) : (s.setPx p x).gx q = s.gx q := rfl
@[simp] theorem setPx_sx_frame (p : Nat) (x : PortX) (q : Nat) : (s.setPx p x).sx q = s.sx q := rfl
@[simp] theorem setPx_rot_frame (p : Nat) (x : PortX) (q : Nat) : (s.setPx p x).rot q = s.rot q := rfl
@[simp] theorem setPx_spadAt_frame (p : Nat) (x : PortX) (a : Nat) : (s.setPx p x).spadAt a = s.spadAt a := rfl
@[simp] theorem setPx_session_frame (p : Nat) (x : PortX) (j : Nat) : (s.setPx p x).session j = s.session j := rfl
@[simp] theorem setPx_fnx_frame (p : Nat) (x : PortX) (j : Nat) : (s.setPx p x).fnx j = s.fnx j := rfl
@[simp] theorem setPx_dmx_frame (p : Nat) (x : PortX) (j : Nat) : (s.setPx p x).dmx j = s.dmx j := rfl

/-! ### modGx -/

@[simp] theorem modGx_now (g : Nat) (f : GroupX → GroupX) : (s.modGx g f).now = s.now := rfl
@[simp] theorem modGx_regs (g : Nat) (f : GroupX → GroupX) : (s.modGx g f).regs = s.regs := rfl
@[simp] theorem modGx_blobs (g : Nat) (f : GroupX → GroupX) : (s.modGx g f).blobs = s.blobs := rfl
@[simp] theorem modGx_ports (g : Nat) (f : GroupX → GroupX) : (s.modGx g f).ports = s.ports := rfl
@[simp] theorem modGx_slices (g : Nat) (f : GroupX → GroupX) : (s.modGx g f).slices = s.slices := rfl
@[simp] theorem modGx_micro (g : Nat) (f : GroupX → GroupX) : (s.modGx g f).micro = s.micro := rfl
@[simp] theorem modGx_fab (g : Nat) (f : GroupX → GroupX) : (s.modGx g f).fab = s.fab := rfl
@[simp] theorem modGx_scan (g : Nat) (f : GroupX → GroupX) : (s.modGx g f).scan = s.scan := rfl
@[simp] theorem modGx_tb (g : Nat) (f : GroupX → GroupX) : (s.modGx g f).tb = s.tb := rfl
@[simp] theorem modGx_spad (g : Nat) (f : GroupX → GroupX) : (s.modGx g f).spad = s.spad := rfl
@[simp] theorem modGx_mem (g : Nat) (f : GroupX → GroupX) : (s.modGx g f).mem = s.mem := rfl
@[simp] theorem modGx_mc (g : Nat) (f : GroupX → GroupX) : (s.modGx g f).mc = s.mc := rfl
@[simp] theorem modGx_cal (g : Nat) (f : GroupX → GroupX) : (s.modGx g f).cal = s.cal := rfl
@[simp] theorem modGx_age (g : Nat) (f : GroupX → GroupX) : (s.modGx g f).age = s.age := rfl
@[simp] theorem modGx_od (g : Nat) (f : GroupX → GroupX) : (s.modGx g f).od = s.od := rfl
@[simp] theorem modGx_net (g : Nat) (f : GroupX → GroupX) : (s.modGx g f).net = s.net := rfl
@[simp] theorem modGx_pcie (g : Nat) (f : GroupX → GroupX) : (s.modGx g f).pcie = s.pcie := rfl
@[simp] theorem modGx_rcd (g : Nat) (f : GroupX → GroupX) : (s.modGx g f).rcd = s.rcd := rfl
@[simp] theorem modGx_pwr (g : Nat) (f : GroupX → GroupX) : (s.modGx g f).pwr = s.pwr := rfl
@[simp] theorem modGx_fwx (g : Nat) (f : GroupX → GroupX) : (s.modGx g f).fwx = s.fwx := rfl
@[simp] theorem modGx_rail (g : Nat) (f : GroupX → GroupX) : (s.modGx g f).rail = s.rail := rfl
@[simp] theorem modGx_lm (g : Nat) (f : GroupX → GroupX) : (s.modGx g f).lm = s.lm := rfl
@[simp] theorem modGx_sec (g : Nat) (f : GroupX → GroupX) : (s.modGx g f).sec = s.sec := rfl
@[simp] theorem modGx_nv (g : Nat) (f : GroupX → GroupX) : (s.modGx g f).nv = s.nv := rfl
@[simp] theorem modGx_tx (g : Nat) (f : GroupX → GroupX) : (s.modGx g f).tx = s.tx := rfl
@[simp] theorem modGx_resp (g : Nat) (f : GroupX → GroupX) : (s.modGx g f).resp = s.resp := rfl
@[simp] theorem modGx_fresh (g : Nat) (f : GroupX → GroupX) : (s.modGx g f).fresh = s.fresh := rfl
@[simp] theorem modGx_pending (g : Nat) (f : GroupX → GroupX) : (s.modGx g f).pending = s.pending := rfl
@[simp] theorem modGx_reg_frame (g : Nat) (f : GroupX → GroupX) (j : Nat) : (s.modGx g f).reg j = s.reg j := rfl
@[simp] theorem modGx_rN_frame (g : Nat) (f : GroupX → GroupX) (j : Nat) : (s.modGx g f).rN j = s.rN j := rfl
@[simp] theorem modGx_rI_frame (g : Nat) (f : GroupX → GroupX) (j : Nat) : (s.modGx g f).rI j = s.rI j := rfl
@[simp] theorem modGx_rQ_frame (g : Nat) (f : GroupX → GroupX) (j : Nat) : (s.modGx g f).rQ j = s.rQ j := rfl
@[simp] theorem modGx_bit_frame (g : Nat) (f : GroupX → GroupX) (j i : Nat) : (s.modGx g f).bit j i = s.bit j i := rfl
@[simp] theorem modGx_fld_frame (g : Nat) (f : GroupX → GroupX) (j lo w : Nat) : (s.modGx g f).fld j lo w = s.fld j lo w := rfl
@[simp] theorem modGx_blob_frame (g : Nat) (f : GroupX → GroupX) (j : Nat) : (s.modGx g f).blob j = s.blob j := rfl
@[simp] theorem modGx_px_frame (g : Nat) (f : GroupX → GroupX) (q : Nat) : (s.modGx g f).px q = s.px q := rfl
@[simp] theorem modGx_sx_frame (g : Nat) (f : GroupX → GroupX) (q : Nat) : (s.modGx g f).sx q = s.sx q := rfl
@[simp] theorem modGx_rot_frame (g : Nat) (f : GroupX → GroupX) (q : Nat) : (s.modGx g f).rot q = s.rot q := rfl
@[simp] theorem modGx_spadAt_frame (g : Nat) (f : GroupX → GroupX) (a : Nat) : (s.modGx g f).spadAt a = s.spadAt a := rfl
@[simp] theorem modGx_session_frame (g : Nat) (f : GroupX → GroupX) (j : Nat) : (s.modGx g f).session j = s.session j := rfl
@[simp] theorem modGx_fnx_frame (g : Nat) (f : GroupX → GroupX) (j : Nat) : (s.modGx g f).fnx j = s.fnx j := rfl
@[simp] theorem modGx_dmx_frame (g : Nat) (f : GroupX → GroupX) (j : Nat) : (s.modGx g f).dmx j = s.dmx j := rfl

/-! ### modSx -/

@[simp] theorem modSx_now (n : Nat) (f : SliceX → SliceX) : (s.modSx n f).now = s.now := rfl
@[simp] theorem modSx_regs (n : Nat) (f : SliceX → SliceX) : (s.modSx n f).regs = s.regs := rfl
@[simp] theorem modSx_blobs (n : Nat) (f : SliceX → SliceX) : (s.modSx n f).blobs = s.blobs := rfl
@[simp] theorem modSx_ports (n : Nat) (f : SliceX → SliceX) : (s.modSx n f).ports = s.ports := rfl
@[simp] theorem modSx_groups (n : Nat) (f : SliceX → SliceX) : (s.modSx n f).groups = s.groups := rfl
@[simp] theorem modSx_micro (n : Nat) (f : SliceX → SliceX) : (s.modSx n f).micro = s.micro := rfl
@[simp] theorem modSx_fab (n : Nat) (f : SliceX → SliceX) : (s.modSx n f).fab = s.fab := rfl
@[simp] theorem modSx_scan (n : Nat) (f : SliceX → SliceX) : (s.modSx n f).scan = s.scan := rfl
@[simp] theorem modSx_tb (n : Nat) (f : SliceX → SliceX) : (s.modSx n f).tb = s.tb := rfl
@[simp] theorem modSx_spad (n : Nat) (f : SliceX → SliceX) : (s.modSx n f).spad = s.spad := rfl
@[simp] theorem modSx_mem (n : Nat) (f : SliceX → SliceX) : (s.modSx n f).mem = s.mem := rfl
@[simp] theorem modSx_mc (n : Nat) (f : SliceX → SliceX) : (s.modSx n f).mc = s.mc := rfl
@[simp] theorem modSx_cal (n : Nat) (f : SliceX → SliceX) : (s.modSx n f).cal = s.cal := rfl
@[simp] theorem modSx_age (n : Nat) (f : SliceX → SliceX) : (s.modSx n f).age = s.age := rfl
@[simp] theorem modSx_od (n : Nat) (f : SliceX → SliceX) : (s.modSx n f).od = s.od := rfl
@[simp] theorem modSx_net (n : Nat) (f : SliceX → SliceX) : (s.modSx n f).net = s.net := rfl
@[simp] theorem modSx_pcie (n : Nat) (f : SliceX → SliceX) : (s.modSx n f).pcie = s.pcie := rfl
@[simp] theorem modSx_rcd (n : Nat) (f : SliceX → SliceX) : (s.modSx n f).rcd = s.rcd := rfl
@[simp] theorem modSx_pwr (n : Nat) (f : SliceX → SliceX) : (s.modSx n f).pwr = s.pwr := rfl
@[simp] theorem modSx_fwx (n : Nat) (f : SliceX → SliceX) : (s.modSx n f).fwx = s.fwx := rfl
@[simp] theorem modSx_rail (n : Nat) (f : SliceX → SliceX) : (s.modSx n f).rail = s.rail := rfl
@[simp] theorem modSx_lm (n : Nat) (f : SliceX → SliceX) : (s.modSx n f).lm = s.lm := rfl
@[simp] theorem modSx_sec (n : Nat) (f : SliceX → SliceX) : (s.modSx n f).sec = s.sec := rfl
@[simp] theorem modSx_nv (n : Nat) (f : SliceX → SliceX) : (s.modSx n f).nv = s.nv := rfl
@[simp] theorem modSx_tx (n : Nat) (f : SliceX → SliceX) : (s.modSx n f).tx = s.tx := rfl
@[simp] theorem modSx_resp (n : Nat) (f : SliceX → SliceX) : (s.modSx n f).resp = s.resp := rfl
@[simp] theorem modSx_fresh (n : Nat) (f : SliceX → SliceX) : (s.modSx n f).fresh = s.fresh := rfl
@[simp] theorem modSx_pending (n : Nat) (f : SliceX → SliceX) : (s.modSx n f).pending = s.pending := rfl
@[simp] theorem modSx_reg_frame (n : Nat) (f : SliceX → SliceX) (j : Nat) : (s.modSx n f).reg j = s.reg j := rfl
@[simp] theorem modSx_rN_frame (n : Nat) (f : SliceX → SliceX) (j : Nat) : (s.modSx n f).rN j = s.rN j := rfl
@[simp] theorem modSx_rI_frame (n : Nat) (f : SliceX → SliceX) (j : Nat) : (s.modSx n f).rI j = s.rI j := rfl
@[simp] theorem modSx_rQ_frame (n : Nat) (f : SliceX → SliceX) (j : Nat) : (s.modSx n f).rQ j = s.rQ j := rfl
@[simp] theorem modSx_bit_frame (n : Nat) (f : SliceX → SliceX) (j i : Nat) : (s.modSx n f).bit j i = s.bit j i := rfl
@[simp] theorem modSx_fld_frame (n : Nat) (f : SliceX → SliceX) (j lo w : Nat) : (s.modSx n f).fld j lo w = s.fld j lo w := rfl
@[simp] theorem modSx_blob_frame (n : Nat) (f : SliceX → SliceX) (j : Nat) : (s.modSx n f).blob j = s.blob j := rfl
@[simp] theorem modSx_px_frame (n : Nat) (f : SliceX → SliceX) (q : Nat) : (s.modSx n f).px q = s.px q := rfl
@[simp] theorem modSx_gx_frame (n : Nat) (f : SliceX → SliceX) (q : Nat) : (s.modSx n f).gx q = s.gx q := rfl
@[simp] theorem modSx_rot_frame (n : Nat) (f : SliceX → SliceX) (q : Nat) : (s.modSx n f).rot q = s.rot q := rfl
@[simp] theorem modSx_spadAt_frame (n : Nat) (f : SliceX → SliceX) (a : Nat) : (s.modSx n f).spadAt a = s.spadAt a := rfl
@[simp] theorem modSx_session_frame (n : Nat) (f : SliceX → SliceX) (j : Nat) : (s.modSx n f).session j = s.session j := rfl
@[simp] theorem modSx_fnx_frame (n : Nat) (f : SliceX → SliceX) (j : Nat) : (s.modSx n f).fnx j = s.fnx j := rfl
@[simp] theorem modSx_dmx_frame (n : Nat) (f : SliceX → SliceX) (j : Nat) : (s.modSx n f).dmx j = s.dmx j := rfl

/-! ### modRot -/

@[simp] theorem modRot_now (g : Nat) (f : RotX → RotX) : (s.modRot g f).now = s.now := rfl
@[simp] theorem modRot_regs (g : Nat) (f : RotX → RotX) : (s.modRot g f).regs = s.regs := rfl
@[simp] theorem modRot_blobs (g : Nat) (f : RotX → RotX) : (s.modRot g f).blobs = s.blobs := rfl
@[simp] theorem modRot_ports (g : Nat) (f : RotX → RotX) : (s.modRot g f).ports = s.ports := rfl
@[simp] theorem modRot_groups (g : Nat) (f : RotX → RotX) : (s.modRot g f).groups = s.groups := rfl
@[simp] theorem modRot_slices (g : Nat) (f : RotX → RotX) : (s.modRot g f).slices = s.slices := rfl
@[simp] theorem modRot_micro (g : Nat) (f : RotX → RotX) : (s.modRot g f).micro = s.micro := rfl
@[simp] theorem modRot_fab (g : Nat) (f : RotX → RotX) : (s.modRot g f).fab = s.fab := rfl
@[simp] theorem modRot_scan (g : Nat) (f : RotX → RotX) : (s.modRot g f).scan = s.scan := rfl
@[simp] theorem modRot_tb (g : Nat) (f : RotX → RotX) : (s.modRot g f).tb = s.tb := rfl
@[simp] theorem modRot_spad (g : Nat) (f : RotX → RotX) : (s.modRot g f).spad = s.spad := rfl
@[simp] theorem modRot_mem (g : Nat) (f : RotX → RotX) : (s.modRot g f).mem = s.mem := rfl
@[simp] theorem modRot_mc (g : Nat) (f : RotX → RotX) : (s.modRot g f).mc = s.mc := rfl
@[simp] theorem modRot_age (g : Nat) (f : RotX → RotX) : (s.modRot g f).age = s.age := rfl
@[simp] theorem modRot_od (g : Nat) (f : RotX → RotX) : (s.modRot g f).od = s.od := rfl
@[simp] theorem modRot_net (g : Nat) (f : RotX → RotX) : (s.modRot g f).net = s.net := rfl
@[simp] theorem modRot_pcie (g : Nat) (f : RotX → RotX) : (s.modRot g f).pcie = s.pcie := rfl
@[simp] theorem modRot_rcd (g : Nat) (f : RotX → RotX) : (s.modRot g f).rcd = s.rcd := rfl
@[simp] theorem modRot_pwr (g : Nat) (f : RotX → RotX) : (s.modRot g f).pwr = s.pwr := rfl
@[simp] theorem modRot_fwx (g : Nat) (f : RotX → RotX) : (s.modRot g f).fwx = s.fwx := rfl
@[simp] theorem modRot_rail (g : Nat) (f : RotX → RotX) : (s.modRot g f).rail = s.rail := rfl
@[simp] theorem modRot_lm (g : Nat) (f : RotX → RotX) : (s.modRot g f).lm = s.lm := rfl
@[simp] theorem modRot_sec (g : Nat) (f : RotX → RotX) : (s.modRot g f).sec = s.sec := rfl
@[simp] theorem modRot_nv (g : Nat) (f : RotX → RotX) : (s.modRot g f).nv = s.nv := rfl
@[simp] theorem modRot_tx (g : Nat) (f : RotX → RotX) : (s.modRot g f).tx = s.tx := rfl
@[simp] theorem modRot_resp (g : Nat) (f : RotX → RotX) : (s.modRot g f).resp = s.resp := rfl
@[simp] theorem modRot_fresh (g : Nat) (f : RotX → RotX) : (s.modRot g f).fresh = s.fresh := rfl
@[simp] theorem modRot_pending (g : Nat) (f : RotX → RotX) : (s.modRot g f).pending = s.pending := rfl
@[simp] theorem modRot_reg_frame (g : Nat) (f : RotX → RotX) (j : Nat) : (s.modRot g f).reg j = s.reg j := rfl
@[simp] theorem modRot_rN_frame (g : Nat) (f : RotX → RotX) (j : Nat) : (s.modRot g f).rN j = s.rN j := rfl
@[simp] theorem modRot_rI_frame (g : Nat) (f : RotX → RotX) (j : Nat) : (s.modRot g f).rI j = s.rI j := rfl
@[simp] theorem modRot_rQ_frame (g : Nat) (f : RotX → RotX) (j : Nat) : (s.modRot g f).rQ j = s.rQ j := rfl
@[simp] theorem modRot_bit_frame (g : Nat) (f : RotX → RotX) (j i : Nat) : (s.modRot g f).bit j i = s.bit j i := rfl
@[simp] theorem modRot_fld_frame (g : Nat) (f : RotX → RotX) (j lo w : Nat) : (s.modRot g f).fld j lo w = s.fld j lo w := rfl
@[simp] theorem modRot_blob_frame (g : Nat) (f : RotX → RotX) (j : Nat) : (s.modRot g f).blob j = s.blob j := rfl
@[simp] theorem modRot_px_frame (g : Nat) (f : RotX → RotX) (q : Nat) : (s.modRot g f).px q = s.px q := rfl
@[simp] theorem modRot_gx_frame (g : Nat) (f : RotX → RotX) (q : Nat) : (s.modRot g f).gx q = s.gx q := rfl
@[simp] theorem modRot_sx_frame (g : Nat) (f : RotX → RotX) (q : Nat) : (s.modRot g f).sx q = s.sx q := rfl
@[simp] theorem modRot_spadAt_frame (g : Nat) (f : RotX → RotX) (a : Nat) : (s.modRot g f).spadAt a = s.spadAt a := rfl
@[simp] theorem modRot_session_frame (g : Nat) (f : RotX → RotX) (j : Nat) : (s.modRot g f).session j = s.session j := rfl
@[simp] theorem modRot_fnx_frame (g : Nat) (f : RotX → RotX) (j : Nat) : (s.modRot g f).fnx j = s.fnx j := rfl
@[simp] theorem modRot_dmx_frame (g : Nat) (f : RotX → RotX) (j : Nat) : (s.modRot g f).dmx j = s.dmx j := rfl

/-! ### modFab -/

@[simp] theorem modFab_now (f : FabX → FabX) : (s.modFab f).now = s.now := rfl
@[simp] theorem modFab_regs (f : FabX → FabX) : (s.modFab f).regs = s.regs := rfl
@[simp] theorem modFab_blobs (f : FabX → FabX) : (s.modFab f).blobs = s.blobs := rfl
@[simp] theorem modFab_ports (f : FabX → FabX) : (s.modFab f).ports = s.ports := rfl
@[simp] theorem modFab_groups (f : FabX → FabX) : (s.modFab f).groups = s.groups := rfl
@[simp] theorem modFab_slices (f : FabX → FabX) : (s.modFab f).slices = s.slices := rfl
@[simp] theorem modFab_micro (f : FabX → FabX) : (s.modFab f).micro = s.micro := rfl
@[simp] theorem modFab_scan (f : FabX → FabX) : (s.modFab f).scan = s.scan := rfl
@[simp] theorem modFab_tb (f : FabX → FabX) : (s.modFab f).tb = s.tb := rfl
@[simp] theorem modFab_spad (f : FabX → FabX) : (s.modFab f).spad = s.spad := rfl
@[simp] theorem modFab_mem (f : FabX → FabX) : (s.modFab f).mem = s.mem := rfl
@[simp] theorem modFab_mc (f : FabX → FabX) : (s.modFab f).mc = s.mc := rfl
@[simp] theorem modFab_cal (f : FabX → FabX) : (s.modFab f).cal = s.cal := rfl
@[simp] theorem modFab_age (f : FabX → FabX) : (s.modFab f).age = s.age := rfl
@[simp] theorem modFab_od (f : FabX → FabX) : (s.modFab f).od = s.od := rfl
@[simp] theorem modFab_net (f : FabX → FabX) : (s.modFab f).net = s.net := rfl
@[simp] theorem modFab_pcie (f : FabX → FabX) : (s.modFab f).pcie = s.pcie := rfl
@[simp] theorem modFab_rcd (f : FabX → FabX) : (s.modFab f).rcd = s.rcd := rfl
@[simp] theorem modFab_pwr (f : FabX → FabX) : (s.modFab f).pwr = s.pwr := rfl
@[simp] theorem modFab_fwx (f : FabX → FabX) : (s.modFab f).fwx = s.fwx := rfl
@[simp] theorem modFab_rail (f : FabX → FabX) : (s.modFab f).rail = s.rail := rfl
@[simp] theorem modFab_lm (f : FabX → FabX) : (s.modFab f).lm = s.lm := rfl
@[simp] theorem modFab_sec (f : FabX → FabX) : (s.modFab f).sec = s.sec := rfl
@[simp] theorem modFab_nv (f : FabX → FabX) : (s.modFab f).nv = s.nv := rfl
@[simp] theorem modFab_tx (f : FabX → FabX) : (s.modFab f).tx = s.tx := rfl
@[simp] theorem modFab_resp (f : FabX → FabX) : (s.modFab f).resp = s.resp := rfl
@[simp] theorem modFab_fresh (f : FabX → FabX) : (s.modFab f).fresh = s.fresh := rfl
@[simp] theorem modFab_pending (f : FabX → FabX) : (s.modFab f).pending = s.pending := rfl
@[simp] theorem modFab_reg_frame (f : FabX → FabX) (j : Nat) : (s.modFab f).reg j = s.reg j := rfl
@[simp] theorem modFab_rN_frame (f : FabX → FabX) (j : Nat) : (s.modFab f).rN j = s.rN j := rfl
@[simp] theorem modFab_rI_frame (f : FabX → FabX) (j : Nat) : (s.modFab f).rI j = s.rI j := rfl
@[simp] theorem modFab_rQ_frame (f : FabX → FabX) (j : Nat) : (s.modFab f).rQ j = s.rQ j := rfl
@[simp] theorem modFab_bit_frame (f : FabX → FabX) (j i : Nat) : (s.modFab f).bit j i = s.bit j i := rfl
@[simp] theorem modFab_fld_frame (f : FabX → FabX) (j lo w : Nat) : (s.modFab f).fld j lo w = s.fld j lo w := rfl
@[simp] theorem modFab_blob_frame (f : FabX → FabX) (j : Nat) : (s.modFab f).blob j = s.blob j := rfl
@[simp] theorem modFab_px_frame (f : FabX → FabX) (q : Nat) : (s.modFab f).px q = s.px q := rfl
@[simp] theorem modFab_gx_frame (f : FabX → FabX) (q : Nat) : (s.modFab f).gx q = s.gx q := rfl
@[simp] theorem modFab_sx_frame (f : FabX → FabX) (q : Nat) : (s.modFab f).sx q = s.sx q := rfl
@[simp] theorem modFab_rot_frame (f : FabX → FabX) (q : Nat) : (s.modFab f).rot q = s.rot q := rfl
@[simp] theorem modFab_spadAt_frame (f : FabX → FabX) (a : Nat) : (s.modFab f).spadAt a = s.spadAt a := rfl
@[simp] theorem modFab_session_frame (f : FabX → FabX) (j : Nat) : (s.modFab f).session j = s.session j := rfl
@[simp] theorem modFab_fnx_frame (f : FabX → FabX) (j : Nat) : (s.modFab f).fnx j = s.fnx j := rfl
@[simp] theorem modFab_dmx_frame (f : FabX → FabX) (j : Nat) : (s.modFab f).dmx j = s.dmx j := rfl

/-! ### modTb -/

@[simp] theorem modTb_now (f : TbX → TbX) : (s.modTb f).now = s.now := rfl
@[simp] theorem modTb_regs (f : TbX → TbX) : (s.modTb f).regs = s.regs := rfl
@[simp] theorem modTb_blobs (f : TbX → TbX) : (s.modTb f).blobs = s.blobs := rfl
@[simp] theorem modTb_ports (f : TbX → TbX) : (s.modTb f).ports = s.ports := rfl
@[simp] theorem modTb_groups (f : TbX → TbX) : (s.modTb f).groups = s.groups := rfl
@[simp] theorem modTb_slices (f : TbX → TbX) : (s.modTb f).slices = s.slices := rfl
@[simp] theorem modTb_micro (f : TbX → TbX) : (s.modTb f).micro = s.micro := rfl
@[simp] theorem modTb_fab (f : TbX → TbX) : (s.modTb f).fab = s.fab := rfl
@[simp] theorem modTb_scan (f : TbX → TbX) : (s.modTb f).scan = s.scan := rfl
@[simp] theorem modTb_spad (f : TbX → TbX) : (s.modTb f).spad = s.spad := rfl
@[simp] theorem modTb_mem (f : TbX → TbX) : (s.modTb f).mem = s.mem := rfl
@[simp] theorem modTb_mc (f : TbX → TbX) : (s.modTb f).mc = s.mc := rfl
@[simp] theorem modTb_cal (f : TbX → TbX) : (s.modTb f).cal = s.cal := rfl
@[simp] theorem modTb_age (f : TbX → TbX) : (s.modTb f).age = s.age := rfl
@[simp] theorem modTb_od (f : TbX → TbX) : (s.modTb f).od = s.od := rfl
@[simp] theorem modTb_net (f : TbX → TbX) : (s.modTb f).net = s.net := rfl
@[simp] theorem modTb_pcie (f : TbX → TbX) : (s.modTb f).pcie = s.pcie := rfl
@[simp] theorem modTb_rcd (f : TbX → TbX) : (s.modTb f).rcd = s.rcd := rfl
@[simp] theorem modTb_pwr (f : TbX → TbX) : (s.modTb f).pwr = s.pwr := rfl
@[simp] theorem modTb_fwx (f : TbX → TbX) : (s.modTb f).fwx = s.fwx := rfl
@[simp] theorem modTb_rail (f : TbX → TbX) : (s.modTb f).rail = s.rail := rfl
@[simp] theorem modTb_lm (f : TbX → TbX) : (s.modTb f).lm = s.lm := rfl
@[simp] theorem modTb_sec (f : TbX → TbX) : (s.modTb f).sec = s.sec := rfl
@[simp] theorem modTb_nv (f : TbX → TbX) : (s.modTb f).nv = s.nv := rfl
@[simp] theorem modTb_tx (f : TbX → TbX) : (s.modTb f).tx = s.tx := rfl
@[simp] theorem modTb_resp (f : TbX → TbX) : (s.modTb f).resp = s.resp := rfl
@[simp] theorem modTb_fresh (f : TbX → TbX) : (s.modTb f).fresh = s.fresh := rfl
@[simp] theorem modTb_pending (f : TbX → TbX) : (s.modTb f).pending = s.pending := rfl
@[simp] theorem modTb_reg_frame (f : TbX → TbX) (j : Nat) : (s.modTb f).reg j = s.reg j := rfl
@[simp] theorem modTb_rN_frame (f : TbX → TbX) (j : Nat) : (s.modTb f).rN j = s.rN j := rfl
@[simp] theorem modTb_rI_frame (f : TbX → TbX) (j : Nat) : (s.modTb f).rI j = s.rI j := rfl
@[simp] theorem modTb_rQ_frame (f : TbX → TbX) (j : Nat) : (s.modTb f).rQ j = s.rQ j := rfl
@[simp] theorem modTb_bit_frame (f : TbX → TbX) (j i : Nat) : (s.modTb f).bit j i = s.bit j i := rfl
@[simp] theorem modTb_fld_frame (f : TbX → TbX) (j lo w : Nat) : (s.modTb f).fld j lo w = s.fld j lo w := rfl
@[simp] theorem modTb_blob_frame (f : TbX → TbX) (j : Nat) : (s.modTb f).blob j = s.blob j := rfl
@[simp] theorem modTb_px_frame (f : TbX → TbX) (q : Nat) : (s.modTb f).px q = s.px q := rfl
@[simp] theorem modTb_gx_frame (f : TbX → TbX) (q : Nat) : (s.modTb f).gx q = s.gx q := rfl
@[simp] theorem modTb_sx_frame (f : TbX → TbX) (q : Nat) : (s.modTb f).sx q = s.sx q := rfl
@[simp] theorem modTb_rot_frame (f : TbX → TbX) (q : Nat) : (s.modTb f).rot q = s.rot q := rfl
@[simp] theorem modTb_spadAt_frame (f : TbX → TbX) (a : Nat) : (s.modTb f).spadAt a = s.spadAt a := rfl
@[simp] theorem modTb_session_frame (f : TbX → TbX) (j : Nat) : (s.modTb f).session j = s.session j := rfl
@[simp] theorem modTb_fnx_frame (f : TbX → TbX) (j : Nat) : (s.modTb f).fnx j = s.fnx j := rfl
@[simp] theorem modTb_dmx_frame (f : TbX → TbX) (j : Nat) : (s.modTb f).dmx j = s.dmx j := rfl

/-! ### modMem -/

@[simp] theorem modMem_now (f : MemX → MemX) : (s.modMem f).now = s.now := rfl
@[simp] theorem modMem_regs (f : MemX → MemX) : (s.modMem f).regs = s.regs := rfl
@[simp] theorem modMem_blobs (f : MemX → MemX) : (s.modMem f).blobs = s.blobs := rfl
@[simp] theorem modMem_ports (f : MemX → MemX) : (s.modMem f).ports = s.ports := rfl
@[simp] theorem modMem_groups (f : MemX → MemX) : (s.modMem f).groups = s.groups := rfl
@[simp] theorem modMem_slices (f : MemX → MemX) : (s.modMem f).slices = s.slices := rfl
@[simp] theorem modMem_micro (f : MemX → MemX) : (s.modMem f).micro = s.micro := rfl
@[simp] theorem modMem_fab (f : MemX → MemX) : (s.modMem f).fab = s.fab := rfl
@[simp] theorem modMem_scan (f : MemX → MemX) : (s.modMem f).scan = s.scan := rfl
@[simp] theorem modMem_tb (f : MemX → MemX) : (s.modMem f).tb = s.tb := rfl
@[simp] theorem modMem_spad (f : MemX → MemX) : (s.modMem f).spad = s.spad := rfl
@[simp] theorem modMem_mc (f : MemX → MemX) : (s.modMem f).mc = s.mc := rfl
@[simp] theorem modMem_cal (f : MemX → MemX) : (s.modMem f).cal = s.cal := rfl
@[simp] theorem modMem_age (f : MemX → MemX) : (s.modMem f).age = s.age := rfl
@[simp] theorem modMem_od (f : MemX → MemX) : (s.modMem f).od = s.od := rfl
@[simp] theorem modMem_net (f : MemX → MemX) : (s.modMem f).net = s.net := rfl
@[simp] theorem modMem_pcie (f : MemX → MemX) : (s.modMem f).pcie = s.pcie := rfl
@[simp] theorem modMem_rcd (f : MemX → MemX) : (s.modMem f).rcd = s.rcd := rfl
@[simp] theorem modMem_pwr (f : MemX → MemX) : (s.modMem f).pwr = s.pwr := rfl
@[simp] theorem modMem_fwx (f : MemX → MemX) : (s.modMem f).fwx = s.fwx := rfl
@[simp] theorem modMem_rail (f : MemX → MemX) : (s.modMem f).rail = s.rail := rfl
@[simp] theorem modMem_lm (f : MemX → MemX) : (s.modMem f).lm = s.lm := rfl
@[simp] theorem modMem_sec (f : MemX → MemX) : (s.modMem f).sec = s.sec := rfl
@[simp] theorem modMem_nv (f : MemX → MemX) : (s.modMem f).nv = s.nv := rfl
@[simp] theorem modMem_tx (f : MemX → MemX) : (s.modMem f).tx = s.tx := rfl
@[simp] theorem modMem_resp (f : MemX → MemX) : (s.modMem f).resp = s.resp := rfl
@[simp] theorem modMem_fresh (f : MemX → MemX) : (s.modMem f).fresh = s.fresh := rfl
@[simp] theorem modMem_pending (f : MemX → MemX) : (s.modMem f).pending = s.pending := rfl
@[simp] theorem modMem_reg_frame (f : MemX → MemX) (j : Nat) : (s.modMem f).reg j = s.reg j := rfl
@[simp] theorem modMem_rN_frame (f : MemX → MemX) (j : Nat) : (s.modMem f).rN j = s.rN j := rfl
@[simp] theorem modMem_rI_frame (f : MemX → MemX) (j : Nat) : (s.modMem f).rI j = s.rI j := rfl
@[simp] theorem modMem_rQ_frame (f : MemX → MemX) (j : Nat) : (s.modMem f).rQ j = s.rQ j := rfl
@[simp] theorem modMem_bit_frame (f : MemX → MemX) (j i : Nat) : (s.modMem f).bit j i = s.bit j i := rfl
@[simp] theorem modMem_fld_frame (f : MemX → MemX) (j lo w : Nat) : (s.modMem f).fld j lo w = s.fld j lo w := rfl
@[simp] theorem modMem_blob_frame (f : MemX → MemX) (j : Nat) : (s.modMem f).blob j = s.blob j := rfl
@[simp] theorem modMem_px_frame (f : MemX → MemX) (q : Nat) : (s.modMem f).px q = s.px q := rfl
@[simp] theorem modMem_gx_frame (f : MemX → MemX) (q : Nat) : (s.modMem f).gx q = s.gx q := rfl
@[simp] theorem modMem_sx_frame (f : MemX → MemX) (q : Nat) : (s.modMem f).sx q = s.sx q := rfl
@[simp] theorem modMem_rot_frame (f : MemX → MemX) (q : Nat) : (s.modMem f).rot q = s.rot q := rfl
@[simp] theorem modMem_spadAt_frame (f : MemX → MemX) (a : Nat) : (s.modMem f).spadAt a = s.spadAt a := rfl
@[simp] theorem modMem_session_frame (f : MemX → MemX) (j : Nat) : (s.modMem f).session j = s.session j := rfl
@[simp] theorem modMem_fnx_frame (f : MemX → MemX) (j : Nat) : (s.modMem f).fnx j = s.fnx j := rfl
@[simp] theorem modMem_dmx_frame (f : MemX → MemX) (j : Nat) : (s.modMem f).dmx j = s.dmx j := rfl

/-! ### modMc -/

@[simp] theorem modMc_now (f : McX → McX) : (s.modMc f).now = s.now := rfl
@[simp] theorem modMc_regs (f : McX → McX) : (s.modMc f).regs = s.regs := rfl
@[simp] theorem modMc_blobs (f : McX → McX) : (s.modMc f).blobs = s.blobs := rfl
@[simp] theorem modMc_ports (f : McX → McX) : (s.modMc f).ports = s.ports := rfl
@[simp] theorem modMc_groups (f : McX → McX) : (s.modMc f).groups = s.groups := rfl
@[simp] theorem modMc_slices (f : McX → McX) : (s.modMc f).slices = s.slices := rfl
@[simp] theorem modMc_micro (f : McX → McX) : (s.modMc f).micro = s.micro := rfl
@[simp] theorem modMc_fab (f : McX → McX) : (s.modMc f).fab = s.fab := rfl
@[simp] theorem modMc_scan (f : McX → McX) : (s.modMc f).scan = s.scan := rfl
@[simp] theorem modMc_tb (f : McX → McX) : (s.modMc f).tb = s.tb := rfl
@[simp] theorem modMc_spad (f : McX → McX) : (s.modMc f).spad = s.spad := rfl
@[simp] theorem modMc_mem (f : McX → McX) : (s.modMc f).mem = s.mem := rfl
@[simp] theorem modMc_cal (f : McX → McX) : (s.modMc f).cal = s.cal := rfl
@[simp] theorem modMc_age (f : McX → McX) : (s.modMc f).age = s.age := rfl
@[simp] theorem modMc_od (f : McX → McX) : (s.modMc f).od = s.od := rfl
@[simp] theorem modMc_net (f : McX → McX) : (s.modMc f).net = s.net := rfl
@[simp] theorem modMc_pcie (f : McX → McX) : (s.modMc f).pcie = s.pcie := rfl
@[simp] theorem modMc_rcd (f : McX → McX) : (s.modMc f).rcd = s.rcd := rfl
@[simp] theorem modMc_pwr (f : McX → McX) : (s.modMc f).pwr = s.pwr := rfl
@[simp] theorem modMc_fwx (f : McX → McX) : (s.modMc f).fwx = s.fwx := rfl
@[simp] theorem modMc_rail (f : McX → McX) : (s.modMc f).rail = s.rail := rfl
@[simp] theorem modMc_lm (f : McX → McX) : (s.modMc f).lm = s.lm := rfl
@[simp] theorem modMc_sec (f : McX → McX) : (s.modMc f).sec = s.sec := rfl
@[simp] theorem modMc_nv (f : McX → McX) : (s.modMc f).nv = s.nv := rfl
@[simp] theorem modMc_tx (f : McX → McX) : (s.modMc f).tx = s.tx := rfl
@[simp] theorem modMc_resp (f : McX → McX) : (s.modMc f).resp = s.resp := rfl
@[simp] theorem modMc_fresh (f : McX → McX) : (s.modMc f).fresh = s.fresh := rfl
@[simp] theorem modMc_pending (f : McX → McX) : (s.modMc f).pending = s.pending := rfl
@[simp] theorem modMc_reg_frame (f : McX → McX) (j : Nat) : (s.modMc f).reg j = s.reg j := rfl
@[simp] theorem modMc_rN_frame (f : McX → McX) (j : Nat) : (s.modMc f).rN j = s.rN j := rfl
@[simp] theorem modMc_rI_frame (f : McX → McX) (j : Nat) : (s.modMc f).rI j = s.rI j := rfl
@[simp] theorem modMc_rQ_frame (f : McX → McX) (j : Nat) : (s.modMc f).rQ j = s.rQ j := rfl
@[simp] theorem modMc_bit_frame (f : McX → McX) (j i : Nat) : (s.modMc f).bit j i = s.bit j i := rfl
@[simp] theorem modMc_fld_frame (f : McX → McX) (j lo w : Nat) : (s.modMc f).fld j lo w = s.fld j lo w := rfl
@[simp] theorem modMc_blob_frame (f : McX → McX) (j : Nat) : (s.modMc f).blob j = s.blob j := rfl
@[simp] theorem modMc_px_frame (f : McX → McX) (q : Nat) : (s.modMc f).px q = s.px q := rfl
@[simp] theorem modMc_gx_frame (f : McX → McX) (q : Nat) : (s.modMc f).gx q = s.gx q := rfl
@[simp] theorem modMc_sx_frame (f : McX → McX) (q : Nat) : (s.modMc f).sx q = s.sx q := rfl
@[simp] theorem modMc_rot_frame (f : McX → McX) (q : Nat) : (s.modMc f).rot q = s.rot q := rfl
@[simp] theorem modMc_spadAt_frame (f : McX → McX) (a : Nat) : (s.modMc f).spadAt a = s.spadAt a := rfl
@[simp] theorem modMc_session_frame (f : McX → McX) (j : Nat) : (s.modMc f).session j = s.session j := rfl
@[simp] theorem modMc_fnx_frame (f : McX → McX) (j : Nat) : (s.modMc f).fnx j = s.fnx j := rfl
@[simp] theorem modMc_dmx_frame (f : McX → McX) (j : Nat) : (s.modMc f).dmx j = s.dmx j := rfl

/-! ### modRec -/

@[simp] theorem modRec_now (f : RecX → RecX) : (s.modRec f).now = s.now := rfl
@[simp] theorem modRec_regs (f : RecX → RecX) : (s.modRec f).regs = s.regs := rfl
@[simp] theorem modRec_blobs (f : RecX → RecX) : (s.modRec f).blobs = s.blobs := rfl
@[simp] theorem modRec_ports (f : RecX → RecX) : (s.modRec f).ports = s.ports := rfl
@[simp] theorem modRec_groups (f : RecX → RecX) : (s.modRec f).groups = s.groups := rfl
@[simp] theorem modRec_slices (f : RecX → RecX) : (s.modRec f).slices = s.slices := rfl
@[simp] theorem modRec_micro (f : RecX → RecX) : (s.modRec f).micro = s.micro := rfl
@[simp] theorem modRec_fab (f : RecX → RecX) : (s.modRec f).fab = s.fab := rfl
@[simp] theorem modRec_scan (f : RecX → RecX) : (s.modRec f).scan = s.scan := rfl
@[simp] theorem modRec_tb (f : RecX → RecX) : (s.modRec f).tb = s.tb := rfl
@[simp] theorem modRec_spad (f : RecX → RecX) : (s.modRec f).spad = s.spad := rfl
@[simp] theorem modRec_mem (f : RecX → RecX) : (s.modRec f).mem = s.mem := rfl
@[simp] theorem modRec_mc (f : RecX → RecX) : (s.modRec f).mc = s.mc := rfl
@[simp] theorem modRec_cal (f : RecX → RecX) : (s.modRec f).cal = s.cal := rfl
@[simp] theorem modRec_age (f : RecX → RecX) : (s.modRec f).age = s.age := rfl
@[simp] theorem modRec_od (f : RecX → RecX) : (s.modRec f).od = s.od := rfl
@[simp] theorem modRec_net (f : RecX → RecX) : (s.modRec f).net = s.net := rfl
@[simp] theorem modRec_pcie (f : RecX → RecX) : (s.modRec f).pcie = s.pcie := rfl
@[simp] theorem modRec_pwr (f : RecX → RecX) : (s.modRec f).pwr = s.pwr := rfl
@[simp] theorem modRec_fwx (f : RecX → RecX) : (s.modRec f).fwx = s.fwx := rfl
@[simp] theorem modRec_rail (f : RecX → RecX) : (s.modRec f).rail = s.rail := rfl
@[simp] theorem modRec_lm (f : RecX → RecX) : (s.modRec f).lm = s.lm := rfl
@[simp] theorem modRec_sec (f : RecX → RecX) : (s.modRec f).sec = s.sec := rfl
@[simp] theorem modRec_nv (f : RecX → RecX) : (s.modRec f).nv = s.nv := rfl
@[simp] theorem modRec_tx (f : RecX → RecX) : (s.modRec f).tx = s.tx := rfl
@[simp] theorem modRec_resp (f : RecX → RecX) : (s.modRec f).resp = s.resp := rfl
@[simp] theorem modRec_fresh (f : RecX → RecX) : (s.modRec f).fresh = s.fresh := rfl
@[simp] theorem modRec_pending (f : RecX → RecX) : (s.modRec f).pending = s.pending := rfl
@[simp] theorem modRec_reg_frame (f : RecX → RecX) (j : Nat) : (s.modRec f).reg j = s.reg j := rfl
@[simp] theorem modRec_rN_frame (f : RecX → RecX) (j : Nat) : (s.modRec f).rN j = s.rN j := rfl
@[simp] theorem modRec_rI_frame (f : RecX → RecX) (j : Nat) : (s.modRec f).rI j = s.rI j := rfl
@[simp] theorem modRec_rQ_frame (f : RecX → RecX) (j : Nat) : (s.modRec f).rQ j = s.rQ j := rfl
@[simp] theorem modRec_bit_frame (f : RecX → RecX) (j i : Nat) : (s.modRec f).bit j i = s.bit j i := rfl
@[simp] theorem modRec_fld_frame (f : RecX → RecX) (j lo w : Nat) : (s.modRec f).fld j lo w = s.fld j lo w := rfl
@[simp] theorem modRec_blob_frame (f : RecX → RecX) (j : Nat) : (s.modRec f).blob j = s.blob j := rfl
@[simp] theorem modRec_px_frame (f : RecX → RecX) (q : Nat) : (s.modRec f).px q = s.px q := rfl
@[simp] theorem modRec_gx_frame (f : RecX → RecX) (q : Nat) : (s.modRec f).gx q = s.gx q := rfl
@[simp] theorem modRec_sx_frame (f : RecX → RecX) (q : Nat) : (s.modRec f).sx q = s.sx q := rfl
@[simp] theorem modRec_rot_frame (f : RecX → RecX) (q : Nat) : (s.modRec f).rot q = s.rot q := rfl
@[simp] theorem modRec_spadAt_frame (f : RecX → RecX) (a : Nat) : (s.modRec f).spadAt a = s.spadAt a := rfl
@[simp] theorem modRec_session_frame (f : RecX → RecX) (j : Nat) : (s.modRec f).session j = s.session j := rfl
@[simp] theorem modRec_fnx_frame (f : RecX → RecX) (j : Nat) : (s.modRec f).fnx j = s.fnx j := rfl
@[simp] theorem modRec_dmx_frame (f : RecX → RecX) (j : Nat) : (s.modRec f).dmx j = s.dmx j := rfl

/-! ### modPwr -/

@[simp] theorem modPwr_now (f : PwrX → PwrX) : (s.modPwr f).now = s.now := rfl
@[simp] theorem modPwr_regs (f : PwrX → PwrX) : (s.modPwr f).regs = s.regs := rfl
@[simp] theorem modPwr_blobs (f : PwrX → PwrX) : (s.modPwr f).blobs = s.blobs := rfl
@[simp] theorem modPwr_ports (f : PwrX → PwrX) : (s.modPwr f).ports = s.ports := rfl
@[simp] theorem modPwr_groups (f : PwrX → PwrX) : (s.modPwr f).groups = s.groups := rfl
@[simp] theorem modPwr_slices (f : PwrX → PwrX) : (s.modPwr f).slices = s.slices := rfl
@[simp] theorem modPwr_micro (f : PwrX → PwrX) : (s.modPwr f).micro = s.micro := rfl
@[simp] theorem modPwr_fab (f : PwrX → PwrX) : (s.modPwr f).fab = s.fab := rfl
@[simp] theorem modPwr_scan (f : PwrX → PwrX) : (s.modPwr f).scan = s.scan := rfl
@[simp] theorem modPwr_tb (f : PwrX → PwrX) : (s.modPwr f).tb = s.tb := rfl
@[simp] theorem modPwr_spad (f : PwrX → PwrX) : (s.modPwr f).spad = s.spad := rfl
@[simp] theorem modPwr_mem (f : PwrX → PwrX) : (s.modPwr f).mem = s.mem := rfl
@[simp] theorem modPwr_mc (f : PwrX → PwrX) : (s.modPwr f).mc = s.mc := rfl
@[simp] theorem modPwr_cal (f : PwrX → PwrX) : (s.modPwr f).cal = s.cal := rfl
@[simp] theorem modPwr_age (f : PwrX → PwrX) : (s.modPwr f).age = s.age := rfl
@[simp] theorem modPwr_od (f : PwrX → PwrX) : (s.modPwr f).od = s.od := rfl
@[simp] theorem modPwr_net (f : PwrX → PwrX) : (s.modPwr f).net = s.net := rfl
@[simp] theorem modPwr_pcie (f : PwrX → PwrX) : (s.modPwr f).pcie = s.pcie := rfl
@[simp] theorem modPwr_rcd (f : PwrX → PwrX) : (s.modPwr f).rcd = s.rcd := rfl
@[simp] theorem modPwr_fwx (f : PwrX → PwrX) : (s.modPwr f).fwx = s.fwx := rfl
@[simp] theorem modPwr_rail (f : PwrX → PwrX) : (s.modPwr f).rail = s.rail := rfl
@[simp] theorem modPwr_lm (f : PwrX → PwrX) : (s.modPwr f).lm = s.lm := rfl
@[simp] theorem modPwr_sec (f : PwrX → PwrX) : (s.modPwr f).sec = s.sec := rfl
@[simp] theorem modPwr_nv (f : PwrX → PwrX) : (s.modPwr f).nv = s.nv := rfl
@[simp] theorem modPwr_tx (f : PwrX → PwrX) : (s.modPwr f).tx = s.tx := rfl
@[simp] theorem modPwr_resp (f : PwrX → PwrX) : (s.modPwr f).resp = s.resp := rfl
@[simp] theorem modPwr_fresh (f : PwrX → PwrX) : (s.modPwr f).fresh = s.fresh := rfl
@[simp] theorem modPwr_pending (f : PwrX → PwrX) : (s.modPwr f).pending = s.pending := rfl
@[simp] theorem modPwr_reg_frame (f : PwrX → PwrX) (j : Nat) : (s.modPwr f).reg j = s.reg j := rfl
@[simp] theorem modPwr_rN_frame (f : PwrX → PwrX) (j : Nat) : (s.modPwr f).rN j = s.rN j := rfl
@[simp] theorem modPwr_rI_frame (f : PwrX → PwrX) (j : Nat) : (s.modPwr f).rI j = s.rI j := rfl
@[simp] theorem modPwr_rQ_frame (f : PwrX → PwrX) (j : Nat) : (s.modPwr f).rQ j = s.rQ j := rfl
@[simp] theorem modPwr_bit_frame (f : PwrX → PwrX) (j i : Nat) : (s.modPwr f).bit j i = s.bit j i := rfl
@[simp] theorem modPwr_fld_frame (f : PwrX → PwrX) (j lo w : Nat) : (s.modPwr f).fld j lo w = s.fld j lo w := rfl
@[simp] theorem modPwr_blob_frame (f : PwrX → PwrX) (j : Nat) : (s.modPwr f).blob j = s.blob j := rfl
@[simp] theorem modPwr_px_frame (f : PwrX → PwrX) (q : Nat) : (s.modPwr f).px q = s.px q := rfl
@[simp] theorem modPwr_gx_frame (f : PwrX → PwrX) (q : Nat) : (s.modPwr f).gx q = s.gx q := rfl
@[simp] theorem modPwr_sx_frame (f : PwrX → PwrX) (q : Nat) : (s.modPwr f).sx q = s.sx q := rfl
@[simp] theorem modPwr_rot_frame (f : PwrX → PwrX) (q : Nat) : (s.modPwr f).rot q = s.rot q := rfl
@[simp] theorem modPwr_spadAt_frame (f : PwrX → PwrX) (a : Nat) : (s.modPwr f).spadAt a = s.spadAt a := rfl
@[simp] theorem modPwr_session_frame (f : PwrX → PwrX) (j : Nat) : (s.modPwr f).session j = s.session j := rfl
@[simp] theorem modPwr_fnx_frame (f : PwrX → PwrX) (j : Nat) : (s.modPwr f).fnx j = s.fnx j := rfl
@[simp] theorem modPwr_dmx_frame (f : PwrX → PwrX) (j : Nat) : (s.modPwr f).dmx j = s.dmx j := rfl

/-! ### modFw -/

@[simp] theorem modFw_now (f : FwX → FwX) : (s.modFw f).now = s.now := rfl
@[simp] theorem modFw_regs (f : FwX → FwX) : (s.modFw f).regs = s.regs := rfl
@[simp] theorem modFw_blobs (f : FwX → FwX) : (s.modFw f).blobs = s.blobs := rfl
@[simp] theorem modFw_ports (f : FwX → FwX) : (s.modFw f).ports = s.ports := rfl
@[simp] theorem modFw_groups (f : FwX → FwX) : (s.modFw f).groups = s.groups := rfl
@[simp] theorem modFw_slices (f : FwX → FwX) : (s.modFw f).slices = s.slices := rfl
@[simp] theorem modFw_micro (f : FwX → FwX) : (s.modFw f).micro = s.micro := rfl
@[simp] theorem modFw_fab (f : FwX → FwX) : (s.modFw f).fab = s.fab := rfl
@[simp] theorem modFw_scan (f : FwX → FwX) : (s.modFw f).scan = s.scan := rfl
@[simp] theorem modFw_tb (f : FwX → FwX) : (s.modFw f).tb = s.tb := rfl
@[simp] theorem modFw_spad (f : FwX → FwX) : (s.modFw f).spad = s.spad := rfl
@[simp] theorem modFw_mem (f : FwX → FwX) : (s.modFw f).mem = s.mem := rfl
@[simp] theorem modFw_mc (f : FwX → FwX) : (s.modFw f).mc = s.mc := rfl
@[simp] theorem modFw_cal (f : FwX → FwX) : (s.modFw f).cal = s.cal := rfl
@[simp] theorem modFw_age (f : FwX → FwX) : (s.modFw f).age = s.age := rfl
@[simp] theorem modFw_od (f : FwX → FwX) : (s.modFw f).od = s.od := rfl
@[simp] theorem modFw_net (f : FwX → FwX) : (s.modFw f).net = s.net := rfl
@[simp] theorem modFw_pcie (f : FwX → FwX) : (s.modFw f).pcie = s.pcie := rfl
@[simp] theorem modFw_rcd (f : FwX → FwX) : (s.modFw f).rcd = s.rcd := rfl
@[simp] theorem modFw_pwr (f : FwX → FwX) : (s.modFw f).pwr = s.pwr := rfl
@[simp] theorem modFw_rail (f : FwX → FwX) : (s.modFw f).rail = s.rail := rfl
@[simp] theorem modFw_lm (f : FwX → FwX) : (s.modFw f).lm = s.lm := rfl
@[simp] theorem modFw_sec (f : FwX → FwX) : (s.modFw f).sec = s.sec := rfl
@[simp] theorem modFw_nv (f : FwX → FwX) : (s.modFw f).nv = s.nv := rfl
@[simp] theorem modFw_tx (f : FwX → FwX) : (s.modFw f).tx = s.tx := rfl
@[simp] theorem modFw_resp (f : FwX → FwX) : (s.modFw f).resp = s.resp := rfl
@[simp] theorem modFw_fresh (f : FwX → FwX) : (s.modFw f).fresh = s.fresh := rfl
@[simp] theorem modFw_pending (f : FwX → FwX) : (s.modFw f).pending = s.pending := rfl
@[simp] theorem modFw_reg_frame (f : FwX → FwX) (j : Nat) : (s.modFw f).reg j = s.reg j := rfl
@[simp] theorem modFw_rN_frame (f : FwX → FwX) (j : Nat) : (s.modFw f).rN j = s.rN j := rfl
@[simp] theorem modFw_rI_frame (f : FwX → FwX) (j : Nat) : (s.modFw f).rI j = s.rI j := rfl
@[simp] theorem modFw_rQ_frame (f : FwX → FwX) (j : Nat) : (s.modFw f).rQ j = s.rQ j := rfl
@[simp] theorem modFw_bit_frame (f : FwX → FwX) (j i : Nat) : (s.modFw f).bit j i = s.bit j i := rfl
@[simp] theorem modFw_fld_frame (f : FwX → FwX) (j lo w : Nat) : (s.modFw f).fld j lo w = s.fld j lo w := rfl
@[simp] theorem modFw_blob_frame (f : FwX → FwX) (j : Nat) : (s.modFw f).blob j = s.blob j := rfl
@[simp] theorem modFw_px_frame (f : FwX → FwX) (q : Nat) : (s.modFw f).px q = s.px q := rfl
@[simp] theorem modFw_gx_frame (f : FwX → FwX) (q : Nat) : (s.modFw f).gx q = s.gx q := rfl
@[simp] theorem modFw_sx_frame (f : FwX → FwX) (q : Nat) : (s.modFw f).sx q = s.sx q := rfl
@[simp] theorem modFw_rot_frame (f : FwX → FwX) (q : Nat) : (s.modFw f).rot q = s.rot q := rfl
@[simp] theorem modFw_spadAt_frame (f : FwX → FwX) (a : Nat) : (s.modFw f).spadAt a = s.spadAt a := rfl
@[simp] theorem modFw_session_frame (f : FwX → FwX) (j : Nat) : (s.modFw f).session j = s.session j := rfl
@[simp] theorem modFw_fnx_frame (f : FwX → FwX) (j : Nat) : (s.modFw f).fnx j = s.fnx j := rfl
@[simp] theorem modFw_dmx_frame (f : FwX → FwX) (j : Nat) : (s.modFw f).dmx j = s.dmx j := rfl

/-! ### modRail -/

@[simp] theorem modRail_now (f : RailX → RailX) : (s.modRail f).now = s.now := rfl
@[simp] theorem modRail_regs (f : RailX → RailX) : (s.modRail f).regs = s.regs := rfl
@[simp] theorem modRail_blobs (f : RailX → RailX) : (s.modRail f).blobs = s.blobs := rfl
@[simp] theorem modRail_ports (f : RailX → RailX) : (s.modRail f).ports = s.ports := rfl
@[simp] theorem modRail_groups (f : RailX → RailX) : (s.modRail f).groups = s.groups := rfl
@[simp] theorem modRail_slices (f : RailX → RailX) : (s.modRail f).slices = s.slices := rfl
@[simp] theorem modRail_micro (f : RailX → RailX) : (s.modRail f).micro = s.micro := rfl
@[simp] theorem modRail_fab (f : RailX → RailX) : (s.modRail f).fab = s.fab := rfl
@[simp] theorem modRail_scan (f : RailX → RailX) : (s.modRail f).scan = s.scan := rfl
@[simp] theorem modRail_tb (f : RailX → RailX) : (s.modRail f).tb = s.tb := rfl
@[simp] theorem modRail_spad (f : RailX → RailX) : (s.modRail f).spad = s.spad := rfl
@[simp] theorem modRail_mem (f : RailX → RailX) : (s.modRail f).mem = s.mem := rfl
@[simp] theorem modRail_mc (f : RailX → RailX) : (s.modRail f).mc = s.mc := rfl
@[simp] theorem modRail_cal (f : RailX → RailX) : (s.modRail f).cal = s.cal := rfl
@[simp] theorem modRail_age (f : RailX → RailX) : (s.modRail f).age = s.age := rfl
@[simp] theorem modRail_od (f : RailX → RailX) : (s.modRail f).od = s.od := rfl
@[simp] theorem modRail_net (f : RailX → RailX) : (s.modRail f).net = s.net := rfl
@[simp] theorem modRail_pcie (f : RailX → RailX) : (s.modRail f).pcie = s.pcie := rfl
@[simp] theorem modRail_rcd (f : RailX → RailX) : (s.modRail f).rcd = s.rcd := rfl
@[simp] theorem modRail_pwr (f : RailX → RailX) : (s.modRail f).pwr = s.pwr := rfl
@[simp] theorem modRail_fwx (f : RailX → RailX) : (s.modRail f).fwx = s.fwx := rfl
@[simp] theorem modRail_lm (f : RailX → RailX) : (s.modRail f).lm = s.lm := rfl
@[simp] theorem modRail_sec (f : RailX → RailX) : (s.modRail f).sec = s.sec := rfl
@[simp] theorem modRail_nv (f : RailX → RailX) : (s.modRail f).nv = s.nv := rfl
@[simp] theorem modRail_tx (f : RailX → RailX) : (s.modRail f).tx = s.tx := rfl
@[simp] theorem modRail_resp (f : RailX → RailX) : (s.modRail f).resp = s.resp := rfl
@[simp] theorem modRail_fresh (f : RailX → RailX) : (s.modRail f).fresh = s.fresh := rfl
@[simp] theorem modRail_pending (f : RailX → RailX) : (s.modRail f).pending = s.pending := rfl
@[simp] theorem modRail_reg_frame (f : RailX → RailX) (j : Nat) : (s.modRail f).reg j = s.reg j := rfl
@[simp] theorem modRail_rN_frame (f : RailX → RailX) (j : Nat) : (s.modRail f).rN j = s.rN j := rfl
@[simp] theorem modRail_rI_frame (f : RailX → RailX) (j : Nat) : (s.modRail f).rI j = s.rI j := rfl
@[simp] theorem modRail_rQ_frame (f : RailX → RailX) (j : Nat) : (s.modRail f).rQ j = s.rQ j := rfl
@[simp] theorem modRail_bit_frame (f : RailX → RailX) (j i : Nat) : (s.modRail f).bit j i = s.bit j i := rfl
@[simp] theorem modRail_fld_frame (f : RailX → RailX) (j lo w : Nat) : (s.modRail f).fld j lo w = s.fld j lo w := rfl
@[simp] theorem modRail_blob_frame (f : RailX → RailX) (j : Nat) : (s.modRail f).blob j = s.blob j := rfl
@[simp] theorem modRail_px_frame (f : RailX → RailX) (q : Nat) : (s.modRail f).px q = s.px q := rfl
@[simp] theorem modRail_gx_frame (f : RailX → RailX) (q : Nat) : (s.modRail f).gx q = s.gx q := rfl
@[simp] theorem modRail_sx_frame (f : RailX → RailX) (q : Nat) : (s.modRail f).sx q = s.sx q := rfl
@[simp] theorem modRail_rot_frame (f : RailX → RailX) (q : Nat) : (s.modRail f).rot q = s.rot q := rfl
@[simp] theorem modRail_spadAt_frame (f : RailX → RailX) (a : Nat) : (s.modRail f).spadAt a = s.spadAt a := rfl
@[simp] theorem modRail_session_frame (f : RailX → RailX) (j : Nat) : (s.modRail f).session j = s.session j := rfl
@[simp] theorem modRail_fnx_frame (f : RailX → RailX) (j : Nat) : (s.modRail f).fnx j = s.fnx j := rfl
@[simp] theorem modRail_dmx_frame (f : RailX → RailX) (j : Nat) : (s.modRail f).dmx j = s.dmx j := rfl

/-! ### modFn -/

@[simp] theorem modFn_now (n : Nat) (f : FnX → FnX) : (s.modFn n f).now = s.now := rfl
@[simp] theorem modFn_regs (n : Nat) (f : FnX → FnX) : (s.modFn n f).regs = s.regs := rfl
@[simp] theorem modFn_blobs (n : Nat) (f : FnX → FnX) : (s.modFn n f).blobs = s.blobs := rfl
@[simp] theorem modFn_ports (n : Nat) (f : FnX → FnX) : (s.modFn n f).ports = s.ports := rfl
@[simp] theorem modFn_groups (n : Nat) (f : FnX → FnX) : (s.modFn n f).groups = s.groups := rfl
@[simp] theorem modFn_slices (n : Nat) (f : FnX → FnX) : (s.modFn n f).slices = s.slices := rfl
@[simp] theorem modFn_micro (n : Nat) (f : FnX → FnX) : (s.modFn n f).micro = s.micro := rfl
@[simp] theorem modFn_fab (n : Nat) (f : FnX → FnX) : (s.modFn n f).fab = s.fab := rfl
@[simp] theorem modFn_scan (n : Nat) (f : FnX → FnX) : (s.modFn n f).scan = s.scan := rfl
@[simp] theorem modFn_tb (n : Nat) (f : FnX → FnX) : (s.modFn n f).tb = s.tb := rfl
@[simp] theorem modFn_spad (n : Nat) (f : FnX → FnX) : (s.modFn n f).spad = s.spad := rfl
@[simp] theorem modFn_mem (n : Nat) (f : FnX → FnX) : (s.modFn n f).mem = s.mem := rfl
@[simp] theorem modFn_mc (n : Nat) (f : FnX → FnX) : (s.modFn n f).mc = s.mc := rfl
@[simp] theorem modFn_cal (n : Nat) (f : FnX → FnX) : (s.modFn n f).cal = s.cal := rfl
@[simp] theorem modFn_age (n : Nat) (f : FnX → FnX) : (s.modFn n f).age = s.age := rfl
@[simp] theorem modFn_od (n : Nat) (f : FnX → FnX) : (s.modFn n f).od = s.od := rfl
@[simp] theorem modFn_net (n : Nat) (f : FnX → FnX) : (s.modFn n f).net = s.net := rfl
@[simp] theorem modFn_rcd (n : Nat) (f : FnX → FnX) : (s.modFn n f).rcd = s.rcd := rfl
@[simp] theorem modFn_pwr (n : Nat) (f : FnX → FnX) : (s.modFn n f).pwr = s.pwr := rfl
@[simp] theorem modFn_fwx (n : Nat) (f : FnX → FnX) : (s.modFn n f).fwx = s.fwx := rfl
@[simp] theorem modFn_rail (n : Nat) (f : FnX → FnX) : (s.modFn n f).rail = s.rail := rfl
@[simp] theorem modFn_lm (n : Nat) (f : FnX → FnX) : (s.modFn n f).lm = s.lm := rfl
@[simp] theorem modFn_sec (n : Nat) (f : FnX → FnX) : (s.modFn n f).sec = s.sec := rfl
@[simp] theorem modFn_nv (n : Nat) (f : FnX → FnX) : (s.modFn n f).nv = s.nv := rfl
@[simp] theorem modFn_tx (n : Nat) (f : FnX → FnX) : (s.modFn n f).tx = s.tx := rfl
@[simp] theorem modFn_resp (n : Nat) (f : FnX → FnX) : (s.modFn n f).resp = s.resp := rfl
@[simp] theorem modFn_fresh (n : Nat) (f : FnX → FnX) : (s.modFn n f).fresh = s.fresh := rfl
@[simp] theorem modFn_pending (n : Nat) (f : FnX → FnX) : (s.modFn n f).pending = s.pending := rfl
@[simp] theorem modFn_reg_frame (n : Nat) (f : FnX → FnX) (j : Nat) : (s.modFn n f).reg j = s.reg j := rfl
@[simp] theorem modFn_rN_frame (n : Nat) (f : FnX → FnX) (j : Nat) : (s.modFn n f).rN j = s.rN j := rfl
@[simp] theorem modFn_rI_frame (n : Nat) (f : FnX → FnX) (j : Nat) : (s.modFn n f).rI j = s.rI j := rfl
@[simp] theorem modFn_rQ_frame (n : Nat) (f : FnX → FnX) (j : Nat) : (s.modFn n f).rQ j = s.rQ j := rfl
@[simp] theorem modFn_bit_frame (n : Nat) (f : FnX → FnX) (j i : Nat) : (s.modFn n f).bit j i = s.bit j i := rfl
@[simp] theorem modFn_fld_frame (n : Nat) (f : FnX → FnX) (j lo w : Nat) : (s.modFn n f).fld j lo w = s.fld j lo w := rfl
@[simp] theorem modFn_blob_frame (n : Nat) (f : FnX → FnX) (j : Nat) : (s.modFn n f).blob j = s.blob j := rfl
@[simp] theorem modFn_px_frame (n : Nat) (f : FnX → FnX) (q : Nat) : (s.modFn n f).px q = s.px q := rfl
@[simp] theorem modFn_gx_frame (n : Nat) (f : FnX → FnX) (q : Nat) : (s.modFn n f).gx q = s.gx q := rfl
@[simp] theorem modFn_sx_frame (n : Nat) (f : FnX → FnX) (q : Nat) : (s.modFn n f).sx q = s.sx q := rfl
@[simp] theorem modFn_rot_frame (n : Nat) (f : FnX → FnX) (q : Nat) : (s.modFn n f).rot q = s.rot q := rfl
@[simp] theorem modFn_spadAt_frame (n : Nat) (f : FnX → FnX) (a : Nat) : (s.modFn n f).spadAt a = s.spadAt a := rfl
@[simp] theorem modFn_session_frame (n : Nat) (f : FnX → FnX) (j : Nat) : (s.modFn n f).session j = s.session j := rfl

/-! ### modDm -/

@[simp] theorem modDm_now (n : Nat) (f : DmaX → DmaX) : (s.modDm n f).now = s.now := rfl
@[simp] theorem modDm_regs (n : Nat) (f : DmaX → DmaX) : (s.modDm n f).regs = s.regs := rfl
@[simp] theorem modDm_blobs (n : Nat) (f : DmaX → DmaX) : (s.modDm n f).blobs = s.blobs := rfl
@[simp] theorem modDm_ports (n : Nat) (f : DmaX → DmaX) : (s.modDm n f).ports = s.ports := rfl
@[simp] theorem modDm_groups (n : Nat) (f : DmaX → DmaX) : (s.modDm n f).groups = s.groups := rfl
@[simp] theorem modDm_slices (n : Nat) (f : DmaX → DmaX) : (s.modDm n f).slices = s.slices := rfl
@[simp] theorem modDm_micro (n : Nat) (f : DmaX → DmaX) : (s.modDm n f).micro = s.micro := rfl
@[simp] theorem modDm_fab (n : Nat) (f : DmaX → DmaX) : (s.modDm n f).fab = s.fab := rfl
@[simp] theorem modDm_scan (n : Nat) (f : DmaX → DmaX) : (s.modDm n f).scan = s.scan := rfl
@[simp] theorem modDm_tb (n : Nat) (f : DmaX → DmaX) : (s.modDm n f).tb = s.tb := rfl
@[simp] theorem modDm_spad (n : Nat) (f : DmaX → DmaX) : (s.modDm n f).spad = s.spad := rfl
@[simp] theorem modDm_mem (n : Nat) (f : DmaX → DmaX) : (s.modDm n f).mem = s.mem := rfl
@[simp] theorem modDm_mc (n : Nat) (f : DmaX → DmaX) : (s.modDm n f).mc = s.mc := rfl
@[simp] theorem modDm_cal (n : Nat) (f : DmaX → DmaX) : (s.modDm n f).cal = s.cal := rfl
@[simp] theorem modDm_age (n : Nat) (f : DmaX → DmaX) : (s.modDm n f).age = s.age := rfl
@[simp] theorem modDm_od (n : Nat) (f : DmaX → DmaX) : (s.modDm n f).od = s.od := rfl
@[simp] theorem modDm_net (n : Nat) (f : DmaX → DmaX) : (s.modDm n f).net = s.net := rfl
@[simp] theorem modDm_rcd (n : Nat) (f : DmaX → DmaX) : (s.modDm n f).rcd = s.rcd := rfl
@[simp] theorem modDm_pwr (n : Nat) (f : DmaX → DmaX) : (s.modDm n f).pwr = s.pwr := rfl
@[simp] theorem modDm_fwx (n : Nat) (f : DmaX → DmaX) : (s.modDm n f).fwx = s.fwx := rfl
@[simp] theorem modDm_rail (n : Nat) (f : DmaX → DmaX) : (s.modDm n f).rail = s.rail := rfl
@[simp] theorem modDm_lm (n : Nat) (f : DmaX → DmaX) : (s.modDm n f).lm = s.lm := rfl
@[simp] theorem modDm_sec (n : Nat) (f : DmaX → DmaX) : (s.modDm n f).sec = s.sec := rfl
@[simp] theorem modDm_nv (n : Nat) (f : DmaX → DmaX) : (s.modDm n f).nv = s.nv := rfl
@[simp] theorem modDm_tx (n : Nat) (f : DmaX → DmaX) : (s.modDm n f).tx = s.tx := rfl
@[simp] theorem modDm_resp (n : Nat) (f : DmaX → DmaX) : (s.modDm n f).resp = s.resp := rfl
@[simp] theorem modDm_fresh (n : Nat) (f : DmaX → DmaX) : (s.modDm n f).fresh = s.fresh := rfl
@[simp] theorem modDm_pending (n : Nat) (f : DmaX → DmaX) : (s.modDm n f).pending = s.pending := rfl
@[simp] theorem modDm_reg_frame (n : Nat) (f : DmaX → DmaX) (j : Nat) : (s.modDm n f).reg j = s.reg j := rfl
@[simp] theorem modDm_rN_frame (n : Nat) (f : DmaX → DmaX) (j : Nat) : (s.modDm n f).rN j = s.rN j := rfl
@[simp] theorem modDm_rI_frame (n : Nat) (f : DmaX → DmaX) (j : Nat) : (s.modDm n f).rI j = s.rI j := rfl
@[simp] theorem modDm_rQ_frame (n : Nat) (f : DmaX → DmaX) (j : Nat) : (s.modDm n f).rQ j = s.rQ j := rfl
@[simp] theorem modDm_bit_frame (n : Nat) (f : DmaX → DmaX) (j i : Nat) : (s.modDm n f).bit j i = s.bit j i := rfl
@[simp] theorem modDm_fld_frame (n : Nat) (f : DmaX → DmaX) (j lo w : Nat) : (s.modDm n f).fld j lo w = s.fld j lo w := rfl
@[simp] theorem modDm_blob_frame (n : Nat) (f : DmaX → DmaX) (j : Nat) : (s.modDm n f).blob j = s.blob j := rfl
@[simp] theorem modDm_px_frame (n : Nat) (f : DmaX → DmaX) (q : Nat) : (s.modDm n f).px q = s.px q := rfl
@[simp] theorem modDm_gx_frame (n : Nat) (f : DmaX → DmaX) (q : Nat) : (s.modDm n f).gx q = s.gx q := rfl
@[simp] theorem modDm_sx_frame (n : Nat) (f : DmaX → DmaX) (q : Nat) : (s.modDm n f).sx q = s.sx q := rfl
@[simp] theorem modDm_rot_frame (n : Nat) (f : DmaX → DmaX) (q : Nat) : (s.modDm n f).rot q = s.rot q := rfl
@[simp] theorem modDm_spadAt_frame (n : Nat) (f : DmaX → DmaX) (a : Nat) : (s.modDm n f).spadAt a = s.spadAt a := rfl
@[simp] theorem modDm_session_frame (n : Nat) (f : DmaX → DmaX) (j : Nat) : (s.modDm n f).session j = s.session j := rfl

/-! ### setSession -/

@[simp] theorem setSession_now (k : Nat) (x : Option Session) : (s.setSession k x).now = s.now := rfl
@[simp] theorem setSession_regs (k : Nat) (x : Option Session) : (s.setSession k x).regs = s.regs := rfl
@[simp] theorem setSession_blobs (k : Nat) (x : Option Session) : (s.setSession k x).blobs = s.blobs := rfl
@[simp] theorem setSession_ports (k : Nat) (x : Option Session) : (s.setSession k x).ports = s.ports := rfl
@[simp] theorem setSession_groups (k : Nat) (x : Option Session) : (s.setSession k x).groups = s.groups := rfl
@[simp] theorem setSession_slices (k : Nat) (x : Option Session) : (s.setSession k x).slices = s.slices := rfl
@[simp] theorem setSession_micro (k : Nat) (x : Option Session) : (s.setSession k x).micro = s.micro := rfl
@[simp] theorem setSession_fab (k : Nat) (x : Option Session) : (s.setSession k x).fab = s.fab := rfl
@[simp] theorem setSession_scan (k : Nat) (x : Option Session) : (s.setSession k x).scan = s.scan := rfl
@[simp] theorem setSession_tb (k : Nat) (x : Option Session) : (s.setSession k x).tb = s.tb := rfl
@[simp] theorem setSession_spad (k : Nat) (x : Option Session) : (s.setSession k x).spad = s.spad := rfl
@[simp] theorem setSession_mem (k : Nat) (x : Option Session) : (s.setSession k x).mem = s.mem := rfl
@[simp] theorem setSession_mc (k : Nat) (x : Option Session) : (s.setSession k x).mc = s.mc := rfl
@[simp] theorem setSession_cal (k : Nat) (x : Option Session) : (s.setSession k x).cal = s.cal := rfl
@[simp] theorem setSession_age (k : Nat) (x : Option Session) : (s.setSession k x).age = s.age := rfl
@[simp] theorem setSession_od (k : Nat) (x : Option Session) : (s.setSession k x).od = s.od := rfl
@[simp] theorem setSession_pcie (k : Nat) (x : Option Session) : (s.setSession k x).pcie = s.pcie := rfl
@[simp] theorem setSession_rcd (k : Nat) (x : Option Session) : (s.setSession k x).rcd = s.rcd := rfl
@[simp] theorem setSession_pwr (k : Nat) (x : Option Session) : (s.setSession k x).pwr = s.pwr := rfl
@[simp] theorem setSession_fwx (k : Nat) (x : Option Session) : (s.setSession k x).fwx = s.fwx := rfl
@[simp] theorem setSession_rail (k : Nat) (x : Option Session) : (s.setSession k x).rail = s.rail := rfl
@[simp] theorem setSession_lm (k : Nat) (x : Option Session) : (s.setSession k x).lm = s.lm := rfl
@[simp] theorem setSession_sec (k : Nat) (x : Option Session) : (s.setSession k x).sec = s.sec := rfl
@[simp] theorem setSession_nv (k : Nat) (x : Option Session) : (s.setSession k x).nv = s.nv := rfl
@[simp] theorem setSession_tx (k : Nat) (x : Option Session) : (s.setSession k x).tx = s.tx := rfl
@[simp] theorem setSession_resp (k : Nat) (x : Option Session) : (s.setSession k x).resp = s.resp := rfl
@[simp] theorem setSession_fresh (k : Nat) (x : Option Session) : (s.setSession k x).fresh = s.fresh := rfl
@[simp] theorem setSession_pending (k : Nat) (x : Option Session) : (s.setSession k x).pending = s.pending := rfl
@[simp] theorem setSession_reg_frame (k : Nat) (x : Option Session) (j : Nat) : (s.setSession k x).reg j = s.reg j := rfl
@[simp] theorem setSession_rN_frame (k : Nat) (x : Option Session) (j : Nat) : (s.setSession k x).rN j = s.rN j := rfl
@[simp] theorem setSession_rI_frame (k : Nat) (x : Option Session) (j : Nat) : (s.setSession k x).rI j = s.rI j := rfl
@[simp] theorem setSession_rQ_frame (k : Nat) (x : Option Session) (j : Nat) : (s.setSession k x).rQ j = s.rQ j := rfl
@[simp] theorem setSession_bit_frame (k : Nat) (x : Option Session) (j i : Nat) : (s.setSession k x).bit j i = s.bit j i := rfl
@[simp] theorem setSession_fld_frame (k : Nat) (x : Option Session) (j lo w : Nat) : (s.setSession k x).fld j lo w = s.fld j lo w := rfl
@[simp] theorem setSession_blob_frame (k : Nat) (x : Option Session) (j : Nat) : (s.setSession k x).blob j = s.blob j := rfl
@[simp] theorem setSession_px_frame (k : Nat) (x : Option Session) (q : Nat) : (s.setSession k x).px q = s.px q := rfl
@[simp] theorem setSession_gx_frame (k : Nat) (x : Option Session) (q : Nat) : (s.setSession k x).gx q = s.gx q := rfl
@[simp] theorem setSession_sx_frame (k : Nat) (x : Option Session) (q : Nat) : (s.setSession k x).sx q = s.sx q := rfl
@[simp] theorem setSession_rot_frame (k : Nat) (x : Option Session) (q : Nat) : (s.setSession k x).rot q = s.rot q := rfl
@[simp] theorem setSession_spadAt_frame (k : Nat) (x : Option Session) (a : Nat) : (s.setSession k x).spadAt a = s.spadAt a := rfl
@[simp] theorem setSession_fnx_frame (k : Nat) (x : Option Session) (j : Nat) : (s.setSession k x).fnx j = s.fnx j := rfl
@[simp] theorem setSession_dmx_frame (k : Nat) (x : Option Session) (j : Nat) : (s.setSession k x).dmx j = s.dmx j := rfl

/-! ### requestCommit -/

@[simp] theorem requestCommit_now (n : Nat) (x : CommitJob) : (s.requestCommit n x).now = s.now := rfl
@[simp] theorem requestCommit_regs (n : Nat) (x : CommitJob) : (s.requestCommit n x).regs = s.regs := rfl
@[simp] theorem requestCommit_blobs (n : Nat) (x : CommitJob) : (s.requestCommit n x).blobs = s.blobs := rfl
@[simp] theorem requestCommit_ports (n : Nat) (x : CommitJob) : (s.requestCommit n x).ports = s.ports := rfl
@[simp] theorem requestCommit_groups (n : Nat) (x : CommitJob) : (s.requestCommit n x).groups = s.groups := rfl
@[simp] theorem requestCommit_slices (n : Nat) (x : CommitJob) : (s.requestCommit n x).slices = s.slices := rfl
@[simp] theorem requestCommit_micro (n : Nat) (x : CommitJob) : (s.requestCommit n x).micro = s.micro := rfl
@[simp] theorem requestCommit_fab (n : Nat) (x : CommitJob) : (s.requestCommit n x).fab = s.fab := rfl
@[simp] theorem requestCommit_scan (n : Nat) (x : CommitJob) : (s.requestCommit n x).scan = s.scan := rfl
@[simp] theorem requestCommit_tb (n : Nat) (x : CommitJob) : (s.requestCommit n x).tb = s.tb := rfl
@[simp] theorem requestCommit_spad (n : Nat) (x : CommitJob) : (s.requestCommit n x).spad = s.spad := rfl
@[simp] theorem requestCommit_mem (n : Nat) (x : CommitJob) : (s.requestCommit n x).mem = s.mem := rfl
@[simp] theorem requestCommit_mc (n : Nat) (x : CommitJob) : (s.requestCommit n x).mc = s.mc := rfl
@[simp] theorem requestCommit_cal (n : Nat) (x : CommitJob) : (s.requestCommit n x).cal = s.cal := rfl
@[simp] theorem requestCommit_age (n : Nat) (x : CommitJob) : (s.requestCommit n x).age = s.age := rfl
@[simp] theorem requestCommit_od (n : Nat) (x : CommitJob) : (s.requestCommit n x).od = s.od := rfl
@[simp] theorem requestCommit_net (n : Nat) (x : CommitJob) : (s.requestCommit n x).net = s.net := rfl
@[simp] theorem requestCommit_pcie (n : Nat) (x : CommitJob) : (s.requestCommit n x).pcie = s.pcie := rfl
@[simp] theorem requestCommit_rcd (n : Nat) (x : CommitJob) : (s.requestCommit n x).rcd = s.rcd := rfl
@[simp] theorem requestCommit_pwr (n : Nat) (x : CommitJob) : (s.requestCommit n x).pwr = s.pwr := rfl
@[simp] theorem requestCommit_fwx (n : Nat) (x : CommitJob) : (s.requestCommit n x).fwx = s.fwx := rfl
@[simp] theorem requestCommit_rail (n : Nat) (x : CommitJob) : (s.requestCommit n x).rail = s.rail := rfl
@[simp] theorem requestCommit_lm (n : Nat) (x : CommitJob) : (s.requestCommit n x).lm = s.lm := rfl
@[simp] theorem requestCommit_sec (n : Nat) (x : CommitJob) : (s.requestCommit n x).sec = s.sec := rfl
@[simp] theorem requestCommit_tx (n : Nat) (x : CommitJob) : (s.requestCommit n x).tx = s.tx := rfl
@[simp] theorem requestCommit_resp (n : Nat) (x : CommitJob) : (s.requestCommit n x).resp = s.resp := rfl
@[simp] theorem requestCommit_fresh (n : Nat) (x : CommitJob) : (s.requestCommit n x).fresh = s.fresh := rfl
@[simp] theorem requestCommit_pending (n : Nat) (x : CommitJob) : (s.requestCommit n x).pending = s.pending := rfl
@[simp] theorem requestCommit_reg_frame (n : Nat) (x : CommitJob) (j : Nat) : (s.requestCommit n x).reg j = s.reg j := rfl
@[simp] theorem requestCommit_rN_frame (n : Nat) (x : CommitJob) (j : Nat) : (s.requestCommit n x).rN j = s.rN j := rfl
@[simp] theorem requestCommit_rI_frame (n : Nat) (x : CommitJob) (j : Nat) : (s.requestCommit n x).rI j = s.rI j := rfl
@[simp] theorem requestCommit_rQ_frame (n : Nat) (x : CommitJob) (j : Nat) : (s.requestCommit n x).rQ j = s.rQ j := rfl
@[simp] theorem requestCommit_bit_frame (n : Nat) (x : CommitJob) (j i : Nat) : (s.requestCommit n x).bit j i = s.bit j i := rfl
@[simp] theorem requestCommit_fld_frame (n : Nat) (x : CommitJob) (j lo w : Nat) : (s.requestCommit n x).fld j lo w = s.fld j lo w := rfl
@[simp] theorem requestCommit_blob_frame (n : Nat) (x : CommitJob) (j : Nat) : (s.requestCommit n x).blob j = s.blob j := rfl
@[simp] theorem requestCommit_px_frame (n : Nat) (x : CommitJob) (q : Nat) : (s.requestCommit n x).px q = s.px q := rfl
@[simp] theorem requestCommit_gx_frame (n : Nat) (x : CommitJob) (q : Nat) : (s.requestCommit n x).gx q = s.gx q := rfl
@[simp] theorem requestCommit_sx_frame (n : Nat) (x : CommitJob) (q : Nat) : (s.requestCommit n x).sx q = s.sx q := rfl
@[simp] theorem requestCommit_rot_frame (n : Nat) (x : CommitJob) (q : Nat) : (s.requestCommit n x).rot q = s.rot q := rfl
@[simp] theorem requestCommit_spadAt_frame (n : Nat) (x : CommitJob) (a : Nat) : (s.requestCommit n x).spadAt a = s.spadAt a := rfl
@[simp] theorem requestCommit_session_frame (n : Nat) (x : CommitJob) (j : Nat) : (s.requestCommit n x).session j = s.session j := rfl
@[simp] theorem requestCommit_fnx_frame (n : Nat) (x : CommitJob) (j : Nat) : (s.requestCommit n x).fnx j = s.fnx j := rfl
@[simp] theorem requestCommit_dmx_frame (n : Nat) (x : CommitJob) (j : Nat) : (s.requestCommit n x).dmx j = s.dmx j := rfl

/-! ### out -/

@[simp] theorem out_now (x : Tx) : (s.out x).now = s.now := rfl
@[simp] theorem out_regs (x : Tx) : (s.out x).regs = s.regs := rfl
@[simp] theorem out_blobs (x : Tx) : (s.out x).blobs = s.blobs := rfl
@[simp] theorem out_ports (x : Tx) : (s.out x).ports = s.ports := rfl
@[simp] theorem out_groups (x : Tx) : (s.out x).groups = s.groups := rfl
@[simp] theorem out_slices (x : Tx) : (s.out x).slices = s.slices := rfl
@[simp] theorem out_micro (x : Tx) : (s.out x).micro = s.micro := rfl
@[simp] theorem out_fab (x : Tx) : (s.out x).fab = s.fab := rfl
@[simp] theorem out_scan (x : Tx) : (s.out x).scan = s.scan := rfl
@[simp] theorem out_tb (x : Tx) : (s.out x).tb = s.tb := rfl
@[simp] theorem out_spad (x : Tx) : (s.out x).spad = s.spad := rfl
@[simp] theorem out_mem (x : Tx) : (s.out x).mem = s.mem := rfl
@[simp] theorem out_mc (x : Tx) : (s.out x).mc = s.mc := rfl
@[simp] theorem out_cal (x : Tx) : (s.out x).cal = s.cal := rfl
@[simp] theorem out_age (x : Tx) : (s.out x).age = s.age := rfl
@[simp] theorem out_od (x : Tx) : (s.out x).od = s.od := rfl
@[simp] theorem out_net (x : Tx) : (s.out x).net = s.net := rfl
@[simp] theorem out_pcie (x : Tx) : (s.out x).pcie = s.pcie := rfl
@[simp] theorem out_rcd (x : Tx) : (s.out x).rcd = s.rcd := rfl
@[simp] theorem out_pwr (x : Tx) : (s.out x).pwr = s.pwr := rfl
@[simp] theorem out_fwx (x : Tx) : (s.out x).fwx = s.fwx := rfl
@[simp] theorem out_rail (x : Tx) : (s.out x).rail = s.rail := rfl
@[simp] theorem out_lm (x : Tx) : (s.out x).lm = s.lm := rfl
@[simp] theorem out_sec (x : Tx) : (s.out x).sec = s.sec := rfl
@[simp] theorem out_nv (x : Tx) : (s.out x).nv = s.nv := rfl
@[simp] theorem out_resp (x : Tx) : (s.out x).resp = s.resp := rfl
@[simp] theorem out_fresh (x : Tx) : (s.out x).fresh = s.fresh := rfl
@[simp] theorem out_pending (x : Tx) : (s.out x).pending = s.pending := rfl
@[simp] theorem out_reg_frame (x : Tx) (j : Nat) : (s.out x).reg j = s.reg j := rfl
@[simp] theorem out_rN_frame (x : Tx) (j : Nat) : (s.out x).rN j = s.rN j := rfl
@[simp] theorem out_rI_frame (x : Tx) (j : Nat) : (s.out x).rI j = s.rI j := rfl
@[simp] theorem out_rQ_frame (x : Tx) (j : Nat) : (s.out x).rQ j = s.rQ j := rfl
@[simp] theorem out_bit_frame (x : Tx) (j i : Nat) : (s.out x).bit j i = s.bit j i := rfl
@[simp] theorem out_fld_frame (x : Tx) (j lo w : Nat) : (s.out x).fld j lo w = s.fld j lo w := rfl
@[simp] theorem out_blob_frame (x : Tx) (j : Nat) : (s.out x).blob j = s.blob j := rfl
@[simp] theorem out_px_frame (x : Tx) (q : Nat) : (s.out x).px q = s.px q := rfl
@[simp] theorem out_gx_frame (x : Tx) (q : Nat) : (s.out x).gx q = s.gx q := rfl
@[simp] theorem out_sx_frame (x : Tx) (q : Nat) : (s.out x).sx q = s.sx q := rfl
@[simp] theorem out_rot_frame (x : Tx) (q : Nat) : (s.out x).rot q = s.rot q := rfl
@[simp] theorem out_spadAt_frame (x : Tx) (a : Nat) : (s.out x).spadAt a = s.spadAt a := rfl
@[simp] theorem out_session_frame (x : Tx) (j : Nat) : (s.out x).session j = s.session j := rfl
@[simp] theorem out_fnx_frame (x : Tx) (j : Nat) : (s.out x).fnx j = s.fnx j := rfl
@[simp] theorem out_dmx_frame (x : Tx) (j : Nat) : (s.out x).dmx j = s.dmx j := rfl

/-! ### later -/

@[simp] theorem later_now (t : Tick) (m : Micro) : (s.later t m).now = s.now := rfl
@[simp] theorem later_regs (t : Tick) (m : Micro) : (s.later t m).regs = s.regs := rfl
@[simp] theorem later_blobs (t : Tick) (m : Micro) : (s.later t m).blobs = s.blobs := rfl
@[simp] theorem later_ports (t : Tick) (m : Micro) : (s.later t m).ports = s.ports := rfl
@[simp] theorem later_groups (t : Tick) (m : Micro) : (s.later t m).groups = s.groups := rfl
@[simp] theorem later_slices (t : Tick) (m : Micro) : (s.later t m).slices = s.slices := rfl
@[simp] theorem later_fab (t : Tick) (m : Micro) : (s.later t m).fab = s.fab := rfl
@[simp] theorem later_scan (t : Tick) (m : Micro) : (s.later t m).scan = s.scan := rfl
@[simp] theorem later_tb (t : Tick) (m : Micro) : (s.later t m).tb = s.tb := rfl
@[simp] theorem later_spad (t : Tick) (m : Micro) : (s.later t m).spad = s.spad := rfl
@[simp] theorem later_mem (t : Tick) (m : Micro) : (s.later t m).mem = s.mem := rfl
@[simp] theorem later_mc (t : Tick) (m : Micro) : (s.later t m).mc = s.mc := rfl
@[simp] theorem later_cal (t : Tick) (m : Micro) : (s.later t m).cal = s.cal := rfl
@[simp] theorem later_age (t : Tick) (m : Micro) : (s.later t m).age = s.age := rfl
@[simp] theorem later_od (t : Tick) (m : Micro) : (s.later t m).od = s.od := rfl
@[simp] theorem later_net (t : Tick) (m : Micro) : (s.later t m).net = s.net := rfl
@[simp] theorem later_pcie (t : Tick) (m : Micro) : (s.later t m).pcie = s.pcie := rfl
@[simp] theorem later_rcd (t : Tick) (m : Micro) : (s.later t m).rcd = s.rcd := rfl
@[simp] theorem later_pwr (t : Tick) (m : Micro) : (s.later t m).pwr = s.pwr := rfl
@[simp] theorem later_fwx (t : Tick) (m : Micro) : (s.later t m).fwx = s.fwx := rfl
@[simp] theorem later_rail (t : Tick) (m : Micro) : (s.later t m).rail = s.rail := rfl
@[simp] theorem later_lm (t : Tick) (m : Micro) : (s.later t m).lm = s.lm := rfl
@[simp] theorem later_sec (t : Tick) (m : Micro) : (s.later t m).sec = s.sec := rfl
@[simp] theorem later_nv (t : Tick) (m : Micro) : (s.later t m).nv = s.nv := rfl
@[simp] theorem later_tx (t : Tick) (m : Micro) : (s.later t m).tx = s.tx := rfl
@[simp] theorem later_resp (t : Tick) (m : Micro) : (s.later t m).resp = s.resp := rfl
@[simp] theorem later_fresh (t : Tick) (m : Micro) : (s.later t m).fresh = s.fresh := rfl
@[simp] theorem later_pending (t : Tick) (m : Micro) : (s.later t m).pending = s.pending := rfl
@[simp] theorem later_reg_frame (t : Tick) (m : Micro) (j : Nat) : (s.later t m).reg j = s.reg j := rfl
@[simp] theorem later_rN_frame (t : Tick) (m : Micro) (j : Nat) : (s.later t m).rN j = s.rN j := rfl
@[simp] theorem later_rI_frame (t : Tick) (m : Micro) (j : Nat) : (s.later t m).rI j = s.rI j := rfl
@[simp] theorem later_rQ_frame (t : Tick) (m : Micro) (j : Nat) : (s.later t m).rQ j = s.rQ j := rfl
@[simp] theorem later_bit_frame (t : Tick) (m : Micro) (j i : Nat) : (s.later t m).bit j i = s.bit j i := rfl
@[simp] theorem later_fld_frame (t : Tick) (m : Micro) (j lo w : Nat) : (s.later t m).fld j lo w = s.fld j lo w := rfl
@[simp] theorem later_blob_frame (t : Tick) (m : Micro) (j : Nat) : (s.later t m).blob j = s.blob j := rfl
@[simp] theorem later_px_frame (t : Tick) (m : Micro) (q : Nat) : (s.later t m).px q = s.px q := rfl
@[simp] theorem later_gx_frame (t : Tick) (m : Micro) (q : Nat) : (s.later t m).gx q = s.gx q := rfl
@[simp] theorem later_sx_frame (t : Tick) (m : Micro) (q : Nat) : (s.later t m).sx q = s.sx q := rfl
@[simp] theorem later_rot_frame (t : Tick) (m : Micro) (q : Nat) : (s.later t m).rot q = s.rot q := rfl
@[simp] theorem later_spadAt_frame (t : Tick) (m : Micro) (a : Nat) : (s.later t m).spadAt a = s.spadAt a := rfl
@[simp] theorem later_session_frame (t : Tick) (m : Micro) (j : Nat) : (s.later t m).session j = s.session j := rfl
@[simp] theorem later_fnx_frame (t : Tick) (m : Micro) (j : Nat) : (s.later t m).fnx j = s.fnx j := rfl
@[simp] theorem later_dmx_frame (t : Tick) (m : Micro) (j : Nat) : (s.later t m).dmx j = s.dmx j := rfl

end Sys2Proof.Machine.State
end

