-- ==== Sys2Proof/Laws/Ops.lean ====
section
/-!
SUPPORT. Laws of the named operations: what an entry, a port, a group or a slice reads as after a write, what the journal and the answer
to an access leave alone, and the scratchpad's read after write.
-/

namespace Sys2Proof.Machine.State

/-! ### Entries -/

theorem reg_setReg (s : State) (k : Nat) (v : W64) (j : Nat) : (s.setReg k v).reg j = if j = k then v else s.reg j := by
  by_cases h : j = k
  · subst h
    simp [reg, setReg]
  · simp [reg, setReg, Tab.get_set_ne _ _ _ h, h]

@[simp] theorem reg_setReg_same (s : State) (k : Nat) (v : W64) : (s.setReg k v).reg k = v := by simp [reg_setReg]

theorem reg_setReg_ne (s : State) (k : Nat) (v : W64) {j : Nat} (h : j ≠ k) : (s.setReg k v).reg j = s.reg j := by simp [reg_setReg, h]

/-- What an entry reads as after a write of an entry. -/
theorem rN_set (s : State) (k v j : Nat) : (s.set k v).rN j = if j = k then v % 2 ^ 64 else s.rN j := by
  by_cases h : j = k
  · simp [rN, set, h]
  · simp [rN, set, reg_setReg, h]

theorem rN_set_same (s : State) {k v : Nat} (h : v < 2 ^ 64) : (s.set k v).rN k = v := by
  rw [rN_set, if_pos rfl, Nat.mod_eq_of_lt h]

theorem rN_set_ne (s : State) (v : Nat) {k j : Nat} (h : j ≠ k) : (s.set k v).rN j = s.rN j := by rw [rN_set, if_neg h]

theorem reg_set_ne (s : State) (v : Nat) {k j : Nat} (h : j ≠ k) : (s.set k v).reg j = s.reg j := by simp [set, reg_setReg, h]

theorem bit_set_ne (s : State) (v i : Nat) {k j : Nat} (h : j ≠ k) : (s.set k v).bit j i = s.bit j i := by simp [bit, reg_set_ne s v h]

theorem rN_lt (s : State) (k : Nat) : s.rN k < 2 ^ 64 := (s.reg k).isLt

theorem reg_setBit_ne (s : State) (i : Nat) (b : Bool) {k j : Nat} (h : j ≠ k) : (s.setBit k i b).reg j = s.reg j := by
  simp [setBit, reg_setReg, h]

theorem rN_setBit_ne (s : State) (i : Nat) (b : Bool) {k j : Nat} (h : j ≠ k) : (s.setBit k i b).rN j = s.rN j := by
  simp [rN, reg_setBit_ne s i b h]

/-- Setting a bit makes it read so, and leaves the entry's other bits alone. -/
theorem bit_setBit_same (s : State) (k : Nat) {i : Nat} (b : Bool) (h : i < 64) : (s.setBit k i b).bit k i = b := by
  cases b <;> simp [bit, setBit, h]

theorem bit_setBit_other (s : State) (k : Nat) {i j : Nat} (b : Bool) (h : j ≠ i) : (s.setBit k i b).bit k j = s.bit k j := by
  rcases lt_or_ge j 64 with hj | hj
  · cases b
    · simp only [bit, setBit, Bool.false_eq_true, if_false, reg_setReg_same, BitVec.getLsbD_and, BitVec.getLsbD_not,
        BitVec.getLsbD_shiftLeft, hj, decide_true, Bool.true_and]
      rcases lt_or_gt_of_ne h with h | h
      · simp [h]
      · have : j - i ≠ 0 := by omega
        simp [Nat.not_lt.2 h.le, BitVec.getLsbD_one, this]
    · simp only [bit, setBit, if_true, reg_setReg_same, BitVec.getLsbD_or, BitVec.getLsbD_shiftLeft, hj, decide_true, Bool.true_and]
      rcases lt_or_gt_of_ne h with h | h
      · simp [h]
      · have : j - i ≠ 0 := by omega
        simp [Nat.not_lt.2 h.le, BitVec.getLsbD_one, this]
  · simp [bit, BitVec.getLsbD_of_ge _ _ hj]

theorem bit_setBit_ne (s : State) (i n : Nat) (b : Bool) {k j : Nat} (h : j ≠ k) : (s.setBit k i b).bit j n = s.bit j n := by
  simp [bit, reg_setBit_ne s i b h]

theorem rN_setFld_ne (s : State) (lo w v : Nat) {k j : Nat} (h : j ≠ k) : (s.setFld k lo w v).rN j = s.rN j := rN_set_ne s _ h

theorem reg_setFld_ne (s : State) (lo w v : Nat) {k j : Nat} (h : j ≠ k) : (s.setFld k lo w v).reg j = s.reg j := reg_set_ne s _ h

theorem rN_setBits_ne (l : List (Nat × Bool)) {k j : Nat} (h : j ≠ k) (s : State) : (s.setBits k l).rN j = s.rN j := by
  induction l generalizing s with
  | nil => rfl
  | cons e l ih => exact (ih (s.setBit k e.1 e.2)).trans (rN_setBit_ne s _ _ h)

/-- Writing status bits changes entries only. -/
theorem setBits_px (l : List (Nat × Bool)) (k : Nat) (s : State) : (s.setBits k l).ports = s.ports := by
  induction l generalizing s with
  | nil => rfl
  | cons e l ih => exact ih (s.setBit k e.1 e.2)

/-! ### Ports, groups, slices -/

theorem px_setPx (s : State) (p q : Nat) (x : PortX) : (s.setPx p x).px q = if q = p then x else s.px q := by
  by_cases h : q = p
  · subst h
    simp [px, setPx]
  · simp [px, setPx, Tab.get_set_ne _ _ _ h, h]

@[simp] theorem px_setPx_same (s : State) (p : Nat) (x : PortX) : (s.setPx p x).px p = x := by simp [px_setPx]

@[simp] theorem px_modPx_same (s : State) (p : Nat) (f : PortX → PortX) : (s.modPx p f).px p = f (s.px p) := by simp [modPx]

theorem px_modPx_ne (s : State) (p : Nat) (f : PortX → PortX) {q : Nat} (h : q ≠ p) : (s.modPx p f).px q = s.px q := by
  simp [modPx, px_setPx, h]

@[simp] theorem gx_modGx_same (s : State) (g : Nat) (f : GroupX → GroupX) : (s.modGx g f).gx g = f (s.gx g) := by simp [gx, modGx]

theorem gx_modGx_ne (s : State) (g : Nat) (f : GroupX → GroupX) {h : Nat} (hn : h ≠ g) : (s.modGx g f).gx h = s.gx h := by
  simp [gx, modGx, Tab.get_set_ne _ _ _ hn]

@[simp] theorem sx_modSx_same (s : State) (i : Nat) (f : SliceX → SliceX) : (s.modSx i f).sx i = f (s.sx i) := by simp [sx, modSx]

@[simp] theorem rot_modRot_same (s : State) (g : Nat) (f : RotX → RotX) : (s.modRot g f).rot g = f (s.rot g) := by simp [rot, modRot]

/-! ### The scratchpad -/

/-- A word of page 0 that discards writes keeps its value; every other word reads as written (R243, R251). -/
theorem spadAt_spadPut (s : State) (a : Nat) (v : W40) (b : Nat) :
    (s.spadPut a v).spadAt b = if b = a ∧ reservedWord a = false then v else s.spadAt b := by
  unfold spadPut
  by_cases hr : reservedWord a = true
  · simp [hr]
  · simp only [hr, Bool.false_eq_true, if_false]
    by_cases h : b = a
    · subst h
      simp [spadAt]
    · simp [spadAt, Tab.get_set_ne _ _ _ h, h]

/-- A store keeps the scratchpad's canonical form. -/
theorem spad_wf_spadPut (s : State) (a : Nat) (v : W40) (h : Tab.wf (fun _ => (0 : W40)) s.spad = true) :
    Tab.wf (fun _ => (0 : W40)) (s.spadPut a v).spad = true := by
  unfold spadPut
  split
  · exact h
  · exact Tab.wf_set _ _ _ _ h

/-- A write of an entry keeps the dictionary's canonical form. -/
theorem regs_wf_setReg (s : State) (k : Nat) (v : W64) (h : Tab.wf dfltReg s.regs = true) : Tab.wf dfltReg (s.setReg k v).regs = true :=
  Tab.wf_set _ _ _ _ h

/-! ### The journal -/

/-- Closing the open chunk changes the recorder's own state only. -/
theorem closeChunk_eq (s : State) : s.closeChunk = { s with rcd := s.closeChunk.rcd } := by
  unfold closeChunk
  split <;> rfl

/-- A record put into the open chunk changes the recorder's own state only. -/
theorem putRec_eq (s : State) (r : JRec) : s.putRec r = { s with rcd := (s.putRec r).rcd } := by
  unfold putRec
  extract_lets fresh needBase need s1
  have h1 : s1 = { s with rcd := s1.rcd } := by
    simp only [s1]
    split
    · exact closeChunk_eq s
    · rfl
  clear_value s1
  split
  · rw [h1]
  · split
    · rw [h1]
    · rw [h1]

theorem putGap_eq (s : State) (src cause : Nat) (start dur : Tick) :
    s.putGap src cause start dur = { s with rcd := (s.putGap src cause start dur).rcd, regs := (s.putGap src cause start dur).regs } := by
  unfold putGap
  rw [putRec_eq]
  rfl

theorem reg_putGap (s : State) (src cause : Nat) (start dur : Tick) {j : Nat} (h1 : j ≠ Rc.GAP_COUNT) (h2 : j ≠ Rc.J_STATUS) :
    (s.putGap src cause start dur).reg j = s.reg j := by
  simp only [putGap, satInc]
  rw [reg_setBit_ne _ _ _ h2, reg_set_ne _ _ h1]
  simp only [reg]
  rw [putRec_eq]

/-- Journalling changes the recorder's own state and its counts in the dictionary, nothing else (R404, R405). -/
theorem journal_eq (s : State) (level rtype src : Nat) (tick : Tick) (w : List Nat) :
    s.journal level rtype src tick w =
      { s with rcd := (s.journal level rtype src tick w).rcd, regs := (s.journal level rtype src tick w).regs } := by
  unfold journal
  split
  · rfl
  · split
    · rfl
    · cases h : s.rcd.gapCause with
      | none => simp only; rw [putRec_eq]
      | some c => simp only; rw [putRec_eq, putGap_eq]

theorem reg_journal (s : State) (level rtype src : Nat) (tick : Tick) (w : List Nat) {j : Nat} (h1 : j ≠ Rc.GAP_COUNT) (h2 : j ≠ Rc.J_STATUS) :
    (s.journal level rtype src tick w).reg j = s.reg j := by
  unfold journal
  split
  · rfl
  · split
    · simpa only [reg] using reg_setBit_ne s JStatus.STAGE_FULL true h2
    · cases h : s.rcd.gapCause with
      | none => simp only [reg]; rw [putRec_eq]
      | some c =>
        simp only [reg]
        rw [putRec_eq]
        simpa only [reg] using reg_putGap s _ _ _ _ h1 h2

theorem rN_journal (s : State) (level rtype src : Nat) (tick : Tick) (w : List Nat) {j : Nat} (h1 : j ≠ Rc.GAP_COUNT) (h2 : j ≠ Rc.J_STATUS) :
    (s.journal level rtype src tick w).rN j = s.rN j := by simp only [rN, reg_journal s _ _ _ _ _ h1 h2]

@[simp] theorem journal_now (s : State) (level rtype src : Nat) (tick : Tick) (w : List Nat) : (s.journal level rtype src tick w).now = s.now := by rw [journal_eq]
@[simp] theorem journal_blobs (s : State) (level rtype src : Nat) (tick : Tick) (w : List Nat) : (s.journal level rtype src tick w).blobs = s.blobs := by rw [journal_eq]
@[simp] theorem journal_ports (s : State) (level rtype src : Nat) (tick : Tick) (w : List Nat) : (s.journal level rtype src tick w).ports = s.ports := by rw [journal_eq]
@[simp] theorem journal_groups (s : State) (level rtype src : Nat) (tick : Tick) (w : List Nat) : (s.journal level rtype src tick w).groups = s.groups := by rw [journal_eq]
@[simp] theorem journal_slices (s : State) (level rtype src : Nat) (tick : Tick) (w : List Nat) : (s.journal level rtype src tick w).slices = s.slices := by rw [journal_eq]
@[simp] theorem journal_micro (s : State) (level rtype src : Nat) (tick : Tick) (w : List Nat) : (s.journal level rtype src tick w).micro = s.micro := by rw [journal_eq]
@[simp] theorem journal_fab (s : State) (level rtype src : Nat) (tick : Tick) (w : List Nat) : (s.journal level rtype src tick w).fab = s.fab := by rw [journal_eq]
@[simp] theorem journal_scan (s : State) (level rtype src : Nat) (tick : Tick) (w : List Nat) : (s.journal level rtype src tick w).scan = s.scan := by rw [journal_eq]
@[simp] theorem journal_tb (s : State) (level rtype src : Nat) (tick : Tick) (w : List Nat) : (s.journal level rtype src tick w).tb = s.tb := by rw [journal_eq]
@[simp] theorem journal_spad (s : State) (level rtype src : Nat) (tick : Tick) (w : List Nat) : (s.journal level rtype src tick w).spad = s.spad := by rw [journal_eq]
@[simp] theorem journal_mem (s : State) (level rtype src : Nat) (tick : Tick) (w : List Nat) : (s.journal level rtype src tick w).mem = s.mem := by rw [journal_eq]
@[simp] theorem journal_mc (s : State) (level rtype src : Nat) (tick : Tick) (w : List Nat) : (s.journal level rtype src tick w).mc = s.mc := by rw [journal_eq]
@[simp] theorem journal_cal (s : State) (level rtype src : Nat) (tick : Tick) (w : List Nat) : (s.journal level rtype src tick w).cal = s.cal := by rw [journal_eq]
@[simp] theorem journal_age (s : State) (level rtype src : Nat) (tick : Tick) (w : List Nat) : (s.journal level rtype src tick w).age = s.age := by rw [journal_eq]
@[simp] theorem journal_od (s : State) (level rtype src : Nat) (tick : Tick) (w : List Nat) : (s.journal level rtype src tick w).od = s.od := by rw [journal_eq]
@[simp] theorem journal_net (s : State) (level rtype src : Nat) (tick : Tick) (w : List Nat) : (s.journal level rtype src tick w).net = s.net := by rw [journal_eq]
@[simp] theorem journal_pcie (s : State) (level rtype src : Nat) (tick : Tick) (w : List Nat) : (s.journal level rtype src tick w).pcie = s.pcie := by rw [journal_eq]
@[simp] theorem journal_pwr (s : State) (level rtype src : Nat) (tick : Tick) (w : List Nat) : (s.journal level rtype src tick w).pwr = s.pwr := by rw [journal_eq]
@[simp] theorem journal_fwx (s : State) (level rtype src : Nat) (tick : Tick) (w : List Nat) : (s.journal level rtype src tick w).fwx = s.fwx := by rw [journal_eq]
@[simp] theorem journal_rail (s : State) (level rtype src : Nat) (tick : Tick) (w : List Nat) : (s.journal level rtype src tick w).rail = s.rail := by rw [journal_eq]
@[simp] theorem journal_lm (s : State) (level rtype src : Nat) (tick : Tick) (w : List Nat) : (s.journal level rtype src tick w).lm = s.lm := by rw [journal_eq]
@[simp] theorem journal_sec (s : State) (level rtype src : Nat) (tick : Tick) (w : List Nat) : (s.journal level rtype src tick w).sec = s.sec := by rw [journal_eq]
@[simp] theorem journal_nv (s : State) (level rtype src : Nat) (tick : Tick) (w : List Nat) : (s.journal level rtype src tick w).nv = s.nv := by rw [journal_eq]
@[simp] theorem journal_tx (s : State) (level rtype src : Nat) (tick : Tick) (w : List Nat) : (s.journal level rtype src tick w).tx = s.tx := by rw [journal_eq]
@[simp] theorem journal_resp (s : State) (level rtype src : Nat) (tick : Tick) (w : List Nat) : (s.journal level rtype src tick w).resp = s.resp := by rw [journal_eq]
@[simp] theorem journal_fresh (s : State) (level rtype src : Nat) (tick : Tick) (w : List Nat) : (s.journal level rtype src tick w).fresh = s.fresh := by rw [journal_eq]
@[simp] theorem journal_pending (s : State) (level rtype src : Nat) (tick : Tick) (w : List Nat) : (s.journal level rtype src tick w).pending = s.pending := by rw [journal_eq]

@[simp] theorem journal_px (s : State) (level rtype src : Nat) (tick : Tick) (w : List Nat) (p : Nat) : (s.journal level rtype src tick w).px p = s.px p := by
  simp only [px, journal_ports]
@[simp] theorem journal_gx (s : State) (level rtype src : Nat) (tick : Tick) (w : List Nat) (g : Nat) : (s.journal level rtype src tick w).gx g = s.gx g := by
  simp only [gx, journal_groups]

/-! ### Answers -/

/-- A completed access answers OK with its data, and counts in OD_ACCESSES; nothing else changes (R343). -/
theorem accept_eq (s : State) (who key : Nat) (data : List Byte) :
    s.accept who key data = { s with regs := (s.wrapInc Dv.OD_ACCESSES 32 1).regs, resp := some { who := who, key := key, abort := 0, data := data } } := rfl

@[simp] theorem accept_resp (s : State) (who key : Nat) (data : List Byte) :
    (s.accept who key data).resp = some { who := who, key := key, abort := 0, data := data } := rfl

theorem rN_accept (s : State) (who key : Nat) (data : List Byte) {j : Nat} (h : j ≠ Dv.OD_ACCESSES) : (s.accept who key data).rN j = s.rN j :=
  rN_set_ne s _ h

/-- A refused access answers with its abort code (R343, R354). -/
@[simp] theorem refuse_resp (s : State) (who key a : Nat) : (s.refuse who key a).resp = some { who := who, key := key, abort := a, data := [] } := rfl

theorem rN_refuse (s : State) (who key a : Nat) {j : Nat} (h1 : j ≠ Dv.OD_ACCESSES) (h2 : j ≠ Dv.LAST_ABORT) (h3 : j ≠ Dv.LAST_ABORT_ENTRY)
    (h4 : j ≠ Dv.OD_STATUS) : (s.refuse who key a).rN j = s.rN j := by
  have : (s.refuse who key a).rN j =
      ((((s.set Dv.LAST_ABORT a).set Dv.LAST_ABORT_ENTRY (key / 256 * 2 ^ 16 + key % 256 * 2 ^ 8 + who)).setBit Dv.OD_STATUS OdStatus.ABORT_SEEN
        true).wrapInc Dv.OD_ACCESSES 32 1).rN j := rfl
  rw [this, wrapInc, rN_set_ne _ _ h1, rN_setBit_ne _ _ _ h4, rN_set_ne _ _ h3, rN_set_ne _ _ h2]

/-! ### An access in the order of R345 -/

/-- A write that a check refuses answers with that check's abort. -/
theorem cmdRun_refused {who key : Nat} {own chk : State → Option Nat} {mark : Nat → State → State} {eff : State → State} {s : State} {a : Nat}
    (hr : s.reaches who key = true) (h : s.writeAbort who key (own s) (chk s) = some a) :
    cmdRun who key own chk mark eff s = (mark a s).refuse who key a := by simp [cmdRun, hr, h]

/-- A write that every check passes has its effect. -/
theorem cmdRun_done {who key : Nat} {own chk : State → Option Nat} {mark : Nat → State → State} {eff : State → State} {s : State}
    (hr : s.reaches who key = true) (h : s.writeAbort who key (own s) (chk s) = none) : cmdRun who key own chk mark eff s = eff s := by
  simp [cmdRun, hr, h]

/-- While the device does not serve it, an access does nothing (R421, R426). -/
theorem cmdRun_unserved {who key : Nat} {own chk : State → Option Nat} {mark : Nat → State → State} {eff : State → State} {s : State}
    (hr : s.reaches who key = false) : cmdRun who key own chk mark eff s = s := by simp [cmdRun, hr]

end Sys2Proof.Machine.State
end

