-- ==== Sys2Proof/Laws/Access.lean ====
section
/-!
SUPPORT. Laws of accesses: a granted write whose own conditions hold completes with its effect.
-/

namespace Sys2Proof.Machine.State

/-- A granted access passes checks 3 to 7 if its entry's own conditions hold. -/
theorem writeAbort_of_grants {s : State} {who key : Nat} (h : s.grants who key = true) :
    s.reaches who key = true ∧ s.writeAbort who key (s.ownerAbort who key) none = none := by
  simp only [grants, Bool.and_eq_true, Bool.not_eq_true', Option.isNone_iff_eq_none] at h
  obtain ⟨⟨⟨⟨h1, h2⟩, h3⟩, h4⟩, h5⟩ := h
  exact ⟨h1, by simp [writeAbort, orElse', h2, useAbort, h3, lockAbort, h4, stateAbort, h5]⟩

/-- A granted access whose entry's own conditions fail is refused with their abort. -/
theorem writeAbort_of_check {s : State} {who key a : Nat} (h : s.grants who key = true) :
    s.writeAbort who key (s.ownerAbort who key) (some a) = some a := by
  simp only [grants, Bool.and_eq_true, Bool.not_eq_true', Option.isNone_iff_eq_none] at h
  obtain ⟨⟨⟨⟨-, h2⟩, h3⟩, h4⟩, h5⟩ := h
  simp [writeAbort, orElse', h2, useAbort, h3, lockAbort, h4, stateAbort, h5]

theorem cmdSubmit_done {who key : Nat} {chk : State → Option Nat} {mark : Nat → State → State} {eff : State → State} {s : State}
    (h : s.grants who key = true) (hc : chk s = none) : cmdSubmit who key chk mark eff s = eff s := by
  obtain ⟨h1, h2⟩ := writeAbort_of_grants h
  exact cmdRun_done h1 (by simpa only [hc] using h2)

theorem cmdSubmit_refused {who key a : Nat} {chk : State → Option Nat} {mark : Nat → State → State} {eff : State → State} {s : State}
    (h : s.grants who key = true) (hc : chk s = some a) : cmdSubmit who key chk mark eff s = (mark a s).refuse who key a := by
  obtain ⟨h1, -⟩ := writeAbort_of_grants h
  exact cmdRun_refused h1 (by simpa only [hc] using writeAbort_of_check h)

theorem cmdWrite_done {who key v : Nat} {chk : State → Option Nat} {mark : Nat → State → State} {eff : State → State} {s : State}
    (h : s.grants who key = true) (hc : chk s = none) : cmdWrite who key v chk mark eff s = s.completes who key v eff :=
  cmdSubmit_done (mark := mark) (eff := fun s => (eff (s.jConfig key who v)).accept who key []) h hc

theorem cmdWrite_refused {who key v a : Nat} {chk : State → Option Nat} {mark : Nat → State → State} {eff : State → State} {s : State}
    (h : s.grants who key = true) (hc : chk s = some a) : cmdWrite who key v chk mark eff s = (mark a s).refuse who key a :=
  cmdSubmit_refused (mark := mark) (eff := fun s => (eff (s.jConfig key who v)).accept who key []) h hc

/-- A command that waits for no tick boundary completes at once, if nothing of its port waits before it (R13). -/
theorem gcSend_now {s : State} {who key v : Nat} {c : GcCmd} {t : Tick} (h : s.queueFree c.port = true) (hk : key ≠ 0)
    (ho : ∀ k o x, c.op ≠ .setEntry k o x) :
    s.gcSend who key v c false t = s.completes who key v fun x => x.gcApply { c with who := who, key := 0, val := v } t := by
  obtain ⟨p, op, t0, w, k, x, o⟩ := c
  cases op <;> simp_all [gcSend, gcApply, completes]

/-- A command that waits for a tick boundary goes to the queue. -/
theorem gcSend_waits (s : State) (who key v : Nat) (c : GcCmd) (t : Tick) : s.gcSend who key v c true t = s.gcSubmit who key v c := by
  simp [gcSend]

/-- So does every command behind others of its port, or at a full queue. -/
theorem gcSend_behind {s : State} {who key v : Nat} {c : GcCmd} {w : Bool} {t : Tick} (h : s.queueFree c.port = false) :
    s.gcSend who key v c w t = s.gcSubmit who key v c := by
  simp [gcSend, h]

@[simp] theorem completes_resp (s : State) (who key v : Nat) (eff : State → State) : (s.completes who key v eff).resp = okFor who key := rfl

end Sys2Proof.Machine.State
end

