-- ==== Sys2Proof/Laws/FrameBase.lean ====
section
/-!
SUPPORT. Laws of footprints: one footprint within another, the records that a footprint covers, and that each way of building a state
from another keeps to a footprint: an update of one field, a write of an entry, a conditional, a fold.
-/

section

set_option linter.all false
set_option Elab.async false

namespace Sys2Proof.Machine


/-- The footprint `A` lies within `F`. -/
def Foot.le (A F : Foot) : Bool :=
  decide (F.lo ≤ A.lo) && A.recs.all (fun r => decide (F.lo ≤ r) || F.recs.contains r) && A.parts.all F.parts.contains

theorem Foot.le_trans {A B F : Foot} (h : Foot.le A B = true) (h2 : Foot.le B F = true) : Foot.le A F = true := by
  simp only [Foot.le, Bool.and_eq_true, decide_eq_true_eq, List.all_eq_true, Bool.or_eq_true, List.contains_iff_mem] at *
  refine ⟨⟨by omega, fun r hr => ?_⟩, fun p hp => h2.2 p (h.2 p hp)⟩
  rcases h.1.2 r hr with h1 | h1
  · left; omega
  · exact h2.1.2 r h1

theorem Foot.le_refl (A : Foot) : Foot.le A A = true := by
  simp only [Foot.le, Bool.and_eq_true, decide_eq_true_eq, List.all_eq_true, Bool.or_eq_true, List.contains_iff_mem]
  exact ⟨⟨Nat.le_refl _, fun r hr => .inr hr⟩, fun p hp => hp⟩

theorem Foot.part {A F : Foot} (hF : Foot.le A F = true) {p : Part} (h : A.parts.contains p = true) : F.has p := by
  simp only [Foot.le, Bool.and_eq_true, List.all_eq_true, List.contains_iff_mem] at *
  exact hF.2 p h

theorem Foot.rec_floor {A F : Foot} (hF : Foot.le A F = true) {b n : Nat} (h : A.lo ≤ b) : F.covers (b + n) := by
  simp only [Foot.le, Bool.and_eq_true, decide_eq_true_eq] at hF
  left; omega

theorem Foot.rec_const {A F : Foot} (hF : Foot.le A F = true) {n : Nat} (h : (decide (A.lo ≤ n) || A.recs.contains n) = true) : F.covers n := by
  simp only [Foot.le, Bool.and_eq_true, decide_eq_true_eq, List.all_eq_true, Bool.or_eq_true, List.contains_iff_mem] at *
  rcases h with h | h
  · left; omega
  · exact hF.1.2 n h

theorem Foot.rec_any {A F : Foot} (hF : Foot.le A F = true) {n : Nat} (h : A.lo = 0) : F.covers n := by
  simp only [Foot.le, Bool.and_eq_true, decide_eq_true_eq] at hF
  left; omega

theorem Foot.rec_key {F : Foot} {n sub : Nat} (h : F.covers n) (hs : sub < 256 := by decide) : F.covers ((n * 256 + sub) / 256) := by
  have : (n * 256 + sub) / 256 = n := by omega
  rwa [this]

theorem Foot.rec_floorAdd {A F : Foot} (hF : Foot.le A F = true) {b n sub i : Nat} (h : A.lo ≤ b) : F.covers (((b + n) * 256 + sub + i) / 256) := by
  simp only [Foot.le, Bool.and_eq_true, decide_eq_true_eq] at hF
  left; omega

theorem Foot.rec_constAdd {A F : Foot} (hF : Foot.le A F = true) {k i : Nat} (h : A.lo * 256 ≤ k) : F.covers ((k + i) / 256) := by
  simp only [Foot.le, Bool.and_eq_true, decide_eq_true_eq] at hF
  left; omega

theorem Foot.rec_cmpActiveKey {F : Foot} {p : Nat} {v : Bool} (h : F.covers (0x4000 + p)) : F.covers (State.cmpActiveKey p v / 256) := by
  cases v <;> exact Foot.rec_key h

theorem Foot.rec_ite {F : Foot} {c : Prop} [Decidable c] {x y : Nat} (hx : F.covers (x / 256)) (hy : F.covers (y / 256)) :
    F.covers ((if c then x else y) / 256) := by
  split
  · exact hx
  · exact hy

theorem Foot.rec_devKey {F : Foot} {n : Nat} (h : F.covers 0x2600) : F.covers (State.devKey n / 256) := by
  unfold State.devKey
  split <;> exact h

theorem Foot.leaves.refl {F : Foot} {a : State} : F.leaves a a where
  queue := rfl
  tables := id
  regs _ _ := rfl
  now := .inr rfl
  blobs := .inr rfl
  ports := .inr rfl
  groups := .inr rfl
  slices := .inr rfl
  micro := .inr rfl
  fab := .inr rfl
  scan := .inr rfl
  tb := .inr rfl
  spad := .inr rfl
  mem := .inr rfl
  mc := .inr rfl
  cal := .inr rfl
  age := .inr rfl
  od := .inr rfl
  net := .inr rfl
  pcie := .inr rfl
  rcd := .inr rfl
  pwr := .inr rfl
  fwx := .inr rfl
  rail := .inr rfl
  lm := .inr rfl
  sec := .inr rfl
  nv := .inr rfl
  tx := .inr rfl
  resp := .inr rfl
  fresh := .inr rfl

theorem Foot.foldl_leaves {F : Foot} {a : State} {α : Type} {f : State → α → State} {l : List α} {s : State} (h : F.leaves a s)
    (hf : ∀ z i, F.leaves a z → F.leaves a (f z i)) : F.leaves a (l.foldl f s) := by
  induction l generalizing s with
  | nil => exact h
  | cons x l ih => exact ih (hf s x h)

theorem Foot.leaves_now {F : Foot} {a s : State} {v : Tick} (h : F.leaves a s) (hp : F.has .now) : F.leaves a { s with now := v } :=
  { h with now := .inl hp }
theorem Foot.leaves_blobs {F : Foot} {a s : State} {v : Tab (List Byte)} (h : F.leaves a s) (hp : F.has .blobs) : F.leaves a { s with blobs := v } :=
  { h with blobs := .inl hp }
theorem Foot.leaves_ports {F : Foot} {a s : State} {v : Tab PortX} (h : F.leaves a s) (hp : F.has .ports) : F.leaves a { s with ports := v } :=
  { h with ports := .inl hp }
theorem Foot.leaves_groups {F : Foot} {a s : State} {v : Tab GroupX} (h : F.leaves a s) (hp : F.has .groups) : F.leaves a { s with groups := v } :=
  { h with groups := .inl hp }
theorem Foot.leaves_slices {F : Foot} {a s : State} {v : Tab SliceX} (h : F.leaves a s) (hp : F.has .slices) : F.leaves a { s with slices := v } :=
  { h with slices := .inl hp }
theorem Foot.leaves_micro {F : Foot} {a s : State} {v : List (Tick × Micro)} (h : F.leaves a s) (hp : F.has .micro) : F.leaves a { s with micro := v } :=
  { h with micro := .inl hp }
theorem Foot.leaves_fab {F : Foot} {a s : State} {v : FabX} (h : F.leaves a s) (hp : F.has .fab) : F.leaves a { s with fab := v } :=
  { h with fab := .inl hp }
theorem Foot.leaves_scan {F : Foot} {a s : State} {v : ScanX} (h : F.leaves a s) (hp : F.has .scan) : F.leaves a { s with scan := v } :=
  { h with scan := .inl hp }
theorem Foot.leaves_tb {F : Foot} {a s : State} {v : TbX} (h : F.leaves a s) (hp : F.has .tb) : F.leaves a { s with tb := v } :=
  { h with tb := .inl hp }
theorem Foot.leaves_mem {F : Foot} {a s : State} {v : MemX} (h : F.leaves a s) (hp : F.has .mem) : F.leaves a { s with mem := v } :=
  { h with mem := .inl hp }
theorem Foot.leaves_mc {F : Foot} {a s : State} {v : McX} (h : F.leaves a s) (hp : F.has .mc) : F.leaves a { s with mc := v } :=
  { h with mc := .inl hp }
theorem Foot.leaves_cal {F : Foot} {a s : State} {v : CalX} (h : F.leaves a s) (hp : F.has .cal) : F.leaves a { s with cal := v } :=
  { h with cal := .inl hp }
theorem Foot.leaves_age {F : Foot} {a s : State} {v : AgeX} (h : F.leaves a s) (hp : F.has .age) : F.leaves a { s with age := v } :=
  { h with age := .inl hp }
theorem Foot.leaves_od {F : Foot} {a s : State} {v : OdX} (h : F.leaves a s) (hp : F.has .od) : F.leaves a { s with od := v } :=
  { h with od := .inl hp }
theorem Foot.leaves_net {F : Foot} {a s : State} {v : NetX} (h : F.leaves a s) (hp : F.has .net) : F.leaves a { s with net := v } :=
  { h with net := .inl hp }
theorem Foot.leaves_pcie {F : Foot} {a s : State} {v : PcieX} (h : F.leaves a s) (hp : F.has .pcie) : F.leaves a { s with pcie := v } :=
  { h with pcie := .inl hp }
theorem Foot.leaves_rcd {F : Foot} {a s : State} {v : RecX} (h : F.leaves a s) (hp : F.has .rcd) : F.leaves a { s with rcd := v } :=
  { h with rcd := .inl hp }
theorem Foot.leaves_pwr {F : Foot} {a s : State} {v : PwrX} (h : F.leaves a s) (hp : F.has .pwr) : F.leaves a { s with pwr := v } :=
  { h with pwr := .inl hp }
theorem Foot.leaves_fwx {F : Foot} {a s : State} {v : FwX} (h : F.leaves a s) (hp : F.has .fwx) : F.leaves a { s with fwx := v } :=
  { h with fwx := .inl hp }
theorem Foot.leaves_rail {F : Foot} {a s : State} {v : RailX} (h : F.leaves a s) (hp : F.has .rail) : F.leaves a { s with rail := v } :=
  { h with rail := .inl hp }
theorem Foot.leaves_lm {F : Foot} {a s : State} {v : Tab Nat} (h : F.leaves a s) (hp : F.has .lm) : F.leaves a { s with lm := v } :=
  { h with lm := .inl hp }
theorem Foot.leaves_sec {F : Foot} {a s : State} {v : SecX} (h : F.leaves a s) (hp : F.has .sec) : F.leaves a { s with sec := v } :=
  { h with sec := .inl hp }
theorem Foot.leaves_nv {F : Foot} {a s : State} {v : NvX} (h : F.leaves a s) (hp : F.has .nv) : F.leaves a { s with nv := v } :=
  { h with nv := .inl hp }
theorem Foot.leaves_tx {F : Foot} {a s : State} {v : List Tx} (h : F.leaves a s) (hp : F.has .tx) : F.leaves a { s with tx := v } :=
  { h with tx := .inl hp }
theorem Foot.leaves_resp {F : Foot} {a s : State} {v : Option Resp} (h : F.leaves a s) (hp : F.has .resp) : F.leaves a { s with resp := v } :=
  { h with resp := .inl hp }
theorem Foot.leaves_fresh {F : Foot} {a s : State} {v : Nat} (h : F.leaves a s) (hp : F.has .fresh) : F.leaves a { s with fresh := v } :=
  { h with fresh := .inl hp }

theorem Foot.ite_leaves {F : Foot} {a x y : State} {c : Prop} [Decidable c] (hx : F.leaves a x) (hy : F.leaves a y) :
    F.leaves a (if c then x else y) := by
  split
  · exact hx
  · exact hy

namespace State

variable {F : Foot} {a s : State}

theorem setReg_leaves {k : Nat} {v : W64} (h : F.leaves a s) (hk : F.covers (k / 256)) : F.leaves a (s.setReg k v) where
  __ := h
  tables ha := by
    have := h.tables ha
    simp only [tablesOk, Bool.and_eq_true] at *
    exact ⟨Tab.wf_set _ _ _ _ this.1, this.2⟩
  regs j hj := by
    have hjk : j ≠ k := fun e => hj (e ▸ hk)
    rw [reg_setReg_ne s k v hjk]; exact h.regs j hj

theorem set_leaves {k v : Nat} (h : F.leaves a s) (hk : F.covers (k / 256)) : F.leaves a (s.set k v) := setReg_leaves h hk
theorem setI_leaves {k : Nat} {v : Int} (h : F.leaves a s) (hk : F.covers (k / 256)) : F.leaves a (s.setI k v) := setReg_leaves h hk
theorem setQ_leaves {k : Nat} {v : Rat} (h : F.leaves a s) (hk : F.covers (k / 256)) : F.leaves a (s.setQ k v) := setReg_leaves h hk
theorem setBit_leaves {k i : Nat} {v : Bool} (h : F.leaves a s) (hk : F.covers (k / 256)) : F.leaves a (s.setBit k i v) := setReg_leaves h hk
theorem setFld_leaves {k lo w v : Nat} (h : F.leaves a s) (hk : F.covers (k / 256)) : F.leaves a (s.setFld k lo w v) := setReg_leaves h hk
theorem satInc_leaves {k bits n : Nat} (h : F.leaves a s) (hk : F.covers (k / 256)) : F.leaves a (s.satInc k bits n) := setReg_leaves h hk
theorem wrapInc_leaves {k bits n : Nat} (h : F.leaves a s) (hk : F.covers (k / 256)) : F.leaves a (s.wrapInc k bits n) := setReg_leaves h hk
theorem clearBits_leaves {k m v : Nat} (h : F.leaves a s) (hk : F.covers (k / 256)) : F.leaves a (s.clearBits k m v) := setReg_leaves h hk

theorem when_leaves {c : Bool} {f : State → State} (h : F.leaves a s) (hf : ∀ z, F.leaves a z → F.leaves a (f z)) : F.leaves a (when c f s) := by
  unfold when
  split
  · exact hf s h
  · exact h

theorem forAll_leaves {n : Nat} {f : Nat → State → State} (h : F.leaves a s) (hf : ∀ i z, F.leaves a z → F.leaves a (f i z)) :
    F.leaves a (s.forAll n f) := Foot.foldl_leaves h fun z i hz => hf i z hz

end State
end Sys2Proof.Machine

end
end

