-- ==== Sys2Proof/Laws/FrameOps.lean ====
section
/-!
SUPPORT. What each operation may change, as footprints (Safety.lean): the operations on entries, ports, groups, loops, sequencers and the event
fabric.
-/

section

set_option linter.all false
set_option Elab.async false

namespace Sys2Proof.Machine.State
open Sys2Proof Sys2Proof.Machine

/-! ### Ops -/

theorem setBlob_leaves {F : Foot} {a₀ : State} {s : State} {k : Nat} {b : List Byte} (h : F.leaves a₀ s) (hF : Foot.le ⟨0x10000, [], [.blobs]⟩ F = true) :
    F.leaves a₀ (setBlob s k b) := by
  unfold setBlob
  exact { h with blobs := .inl (Foot.part hF (by decide)) }

theorem setPx_leaves {F : Foot} {a₀ : State} {s : State} {p : Nat} {x : PortX} (h : F.leaves a₀ s) (hF : Foot.le ⟨0x10000, [], [.ports]⟩ F = true) :
    F.leaves a₀ (setPx s p x) := by
  unfold setPx
  exact { h with ports := .inl (Foot.part hF (by decide)) }

theorem modPx_leaves {F : Foot} {a₀ : State} {s : State} {p : Nat} {f : PortX → PortX} (h : F.leaves a₀ s) (hF : Foot.le ⟨0x10000, [], [.ports]⟩ F = true) :
    F.leaves a₀ (modPx s p f) := by
  unfold modPx
  refine setPx_leaves ?_ (Foot.le_trans (by decide) hF)
  exact h

theorem modGx_leaves {F : Foot} {a₀ : State} {s : State} {g : Nat} {f : GroupX → GroupX} (h : F.leaves a₀ s) (hF : Foot.le ⟨0x10000, [], [.groups]⟩ F = true) :
    F.leaves a₀ (modGx s g f) := by
  unfold modGx
  exact { h with groups := .inl (Foot.part hF (by decide)) }

theorem modSx_leaves {F : Foot} {a₀ : State} {s : State} {i : Nat} {f : SliceX → SliceX} (h : F.leaves a₀ s) (hF : Foot.le ⟨0x10000, [], [.slices]⟩ F = true) :
    F.leaves a₀ (modSx s i f) := by
  unfold modSx
  exact { h with slices := .inl (Foot.part hF (by decide)) }

theorem modRot_leaves {F : Foot} {a₀ : State} {s : State} {g : Nat} {f : RotX → RotX} (h : F.leaves a₀ s) (hF : Foot.le ⟨0x10000, [], [.cal]⟩ F = true) :
    F.leaves a₀ (modRot s g f) := by
  unfold modRot
  exact { h with cal := .inl (Foot.part hF (by decide)) }

theorem modForce_leaves {F : Foot} {a₀ : State} {s : State} {p : Nat} {f : ForceX → ForceX} (h : F.leaves a₀ s) (hF : Foot.le ⟨0x10000, [], [.ports]⟩ F = true) :
    F.leaves a₀ (modForce s p f) := by
  unfold modForce
  refine modPx_leaves ?_ (Foot.le_trans (by decide) hF)
  exact h

theorem modLoop_leaves {F : Foot} {a₀ : State} {s : State} {p : Nat} {f : LoopX → LoopX} (h : F.leaves a₀ s) (hF : Foot.le ⟨0x10000, [], [.ports]⟩ F = true) :
    F.leaves a₀ (modLoop s p f) := by
  unfold modLoop
  refine modPx_leaves ?_ (Foot.le_trans (by decide) hF)
  exact h

theorem modLoopY_leaves {F : Foot} {a₀ : State} {s : State} {p : Nat} {f : LoopY → LoopY} (h : F.leaves a₀ s) (hF : Foot.le ⟨0x10000, [], [.ports]⟩ F = true) :
    F.leaves a₀ (modLoopY s p f) := by
  unfold modLoopY
  refine modPx_leaves ?_ (Foot.le_trans (by decide) hF)
  exact h

theorem modRange_leaves {F : Foot} {a₀ : State} {s : State} {p : Nat} {f : RangeX → RangeX} (h : F.leaves a₀ s) (hF : Foot.le ⟨0x10000, [], [.ports]⟩ F = true) :
    F.leaves a₀ (modRange s p f) := by
  unfold modRange
  refine modPx_leaves ?_ (Foot.le_trans (by decide) hF)
  exact h

theorem modPgen_leaves {F : Foot} {a₀ : State} {s : State} {p : Nat} {f : PgenX → PgenX} (h : F.leaves a₀ s) (hF : Foot.le ⟨0x10000, [], [.ports]⟩ F = true) :
    F.leaves a₀ (modPgen s p f) := by
  unfold modPgen
  refine modPx_leaves ?_ (Foot.le_trans (by decide) hF)
  exact h

theorem modMeas_leaves {F : Foot} {a₀ : State} {s : State} {p : Nat} {f : MeasX → MeasX} (h : F.leaves a₀ s) (hF : Foot.le ⟨0x10000, [], [.ports]⟩ F = true) :
    F.leaves a₀ (modMeas s p f) := by
  unfold modMeas
  refine modPx_leaves ?_ (Foot.le_trans (by decide) hF)
  exact h

theorem modSeq_leaves {F : Foot} {a₀ : State} {s : State} {p : Nat} {f : SeqP → SeqP} (h : F.leaves a₀ s) (hF : Foot.le ⟨0x10000, [], [.ports]⟩ F = true) :
    F.leaves a₀ (modSeq s p f) := by
  unfold modSeq
  refine modPx_leaves ?_ (Foot.le_trans (by decide) hF)
  exact h

theorem modFab_leaves {F : Foot} {a₀ : State} {s : State} {f : FabX → FabX} (h : F.leaves a₀ s) (hF : Foot.le ⟨0x10000, [], [.fab]⟩ F = true) :
    F.leaves a₀ (modFab s f) := by
  unfold modFab
  exact { h with fab := .inl (Foot.part hF (by decide)) }

theorem spadPut_leaves {F : Foot} {a₀ : State} {s : State} {p : Nat} {v : W40} (h : F.leaves a₀ s)
    (hF : Foot.le ⟨0x10000, [], [.spad, .mem]⟩ F = true) : F.leaves a₀ (s.spadPut p v) := by
  unfold spadPut
  split
  · exact h
  · exact { h with
      spad := .inl (Foot.part hF (by decide))
      mem := .inl (Foot.part hF (by decide))
      tables := fun ha => by
        have := h.tables ha
        simp only [tablesOk, Bool.and_eq_true] at *
        exact ⟨this.1, Tab.wf_set _ _ _ _ this.2⟩ }

theorem spadPutAll_leaves {F : Foot} {a₀ : State} {s : State} {p : Nat} {l : List Nat} (h : F.leaves a₀ s)
    (hF : Foot.le ⟨0x10000, [], [.spad, .mem]⟩ F = true) : F.leaves a₀ (s.spadPutAll p l) := by
  induction l generalizing s p with
  | nil => exact h
  | cons w r ih => exact ih (spadPut_leaves h hF)

theorem out_leaves {F : Foot} {a₀ : State} {s : State} {x : Tx} (h : F.leaves a₀ s) (hF : Foot.le ⟨0x10000, [], [.tx]⟩ F = true) :
    F.leaves a₀ (out s x) := by
  unfold out
  exact { h with tx := .inl (Foot.part hF (by decide)) }

theorem later_leaves {F : Foot} {a₀ : State} {s : State} {t : Tick} {m : Micro} (h : F.leaves a₀ s) (hF : Foot.le ⟨0x10000, [], [.micro]⟩ F = true) :
    F.leaves a₀ (later s t m) := by
  unfold later
  exact { h with micro := .inl (Foot.part hF (by decide)) }

theorem closeChunk_leaves {F : Foot} {a₀ : State} {s : State} (h : F.leaves a₀ s) (hF : Foot.le ⟨0x10000, [], [.rcd]⟩ F = true) :
    F.leaves a₀ (closeChunk s) := by
  unfold closeChunk
  refine Foot.ite_leaves ?_ ?_
  · exact h
  · extract_lets +onlyGivenNames -merge -useContext -underBinder y0
    try clear_value y0
    exact { h with rcd := .inl (Foot.part hF (by decide)) }

theorem putRec_leaves {F : Foot} {a₀ : State} {s : State} {r : JRec} (h : F.leaves a₀ s) (hF : Foot.le ⟨0x10000, [], [.rcd]⟩ F = true) :
    F.leaves a₀ (putRec s r) := by
  unfold putRec
  extract_lets +onlyGivenNames -merge -useContext -underBinder y0
  try clear_value y0
  extract_lets +onlyGivenNames -merge -useContext -underBinder y1
  try clear_value y1
  extract_lets +onlyGivenNames -merge -useContext -underBinder y2
  extract_lets +onlyGivenNames -merge -useContext -underBinder y3
  have h3 : F.leaves a₀ y3 := by
    refine Foot.ite_leaves ?_ ?_
    · refine closeChunk_leaves ?_ (Foot.le_trans (by decide) hF)
      exact h
    · exact h
  try clear_value y3
  refine Foot.ite_leaves ?_ ?_
  · exact { h3 with rcd := .inl (Foot.part hF (by decide)) }
  · refine Foot.ite_leaves ?_ ?_
    · extract_lets +onlyGivenNames -merge -useContext -underBinder y4
      try clear_value y4
      exact { h3 with rcd := .inl (Foot.part hF (by decide)) }
    · exact { h3 with rcd := .inl (Foot.part hF (by decide)) }

theorem putGap_leaves {F : Foot} {a₀ : State} {s : State} {src : Nat} {cause : Nat} {start : Tick} {dur : Tick} (h : F.leaves a₀ s) (hF : Foot.le ⟨0x10000, [0x8000], [.rcd]⟩ F = true) :
    F.leaves a₀ (putGap s src cause start dur) := by
  unfold putGap
  extract_lets +onlyGivenNames -merge -useContext -underBinder y0
  have h0 : F.leaves a₀ y0 := by
    refine putRec_leaves ?_ (Foot.le_trans (by decide) hF)
    exact h
  try clear_value y0
  refine setBit_leaves ?_ (Foot.rec_const hF (by decide))
  refine satInc_leaves ?_ (Foot.rec_const hF (by decide))
  exact h0

theorem journal_leaves {F : Foot} {a₀ : State} {s : State} {level : Nat} {rtype : Nat} {src : Nat} {tick : Tick} {words : List Nat} (h : F.leaves a₀ s) (hF : Foot.le ⟨0x10000, [0x8000], [.rcd]⟩ F = true) :
    F.leaves a₀ (journal s level rtype src tick words) := by
  unfold journal
  refine Foot.ite_leaves ?_ ?_
  · exact h
  · refine Foot.ite_leaves ?_ ?_
    · extract_lets +onlyGivenNames -merge -useContext -underBinder y0
      have h0 : F.leaves a₀ y0 := by
        refine setBit_leaves ?_ (Foot.rec_const hF (by decide))
        exact h
      try clear_value y0
      exact { h0 with rcd := .inl (Foot.part hF (by decide)) }
    · extract_lets +onlyGivenNames -merge -useContext -underBinder y1
      have h1 : F.leaves a₀ y1 := by
        unfold y1
        split
        · extract_lets +onlyGivenNames -merge -useContext -underBinder y2
          have h2 : F.leaves a₀ y2 := by
            refine putGap_leaves ?_ (Foot.le_trans (by decide) hF)
            exact h
          try clear_value y2
          exact { h2 with rcd := .inl (Foot.part hF (by decide)) }
        · exact h
      try clear_value y1
      refine putRec_leaves ?_ (Foot.le_trans (by decide) hF)
      exact h1

theorem jConfig_leaves {F : Foot} {a₀ : State} {s : State} {key : Nat} {who : Nat} {v : Nat} (h : F.leaves a₀ s) (hF : Foot.le ⟨0x10000, [0x8000], [.rcd]⟩ F = true) :
    F.leaves a₀ (jConfig s key who v) := by
  unfold jConfig
  extract_lets +onlyGivenNames -merge -useContext -underBinder y0
  extract_lets +onlyGivenNames -merge -useContext -underBinder y1
  extract_lets +onlyGivenNames -merge -useContext -underBinder y2
  try clear_value y2
  refine journal_leaves ?_ (Foot.le_trans (by decide) hF)
  exact h

theorem derived_leaves {F : Foot} {a₀ : State} {s : State} {key : Nat} {v : Nat} (h : F.leaves a₀ s) (hF : Foot.le ⟨0x10000, [0x8000], [.rcd]⟩ F = true) (r0 : F.covers ((key) / 256)) :
    F.leaves a₀ (derived s key v) := by
  unfold derived
  refine Foot.ite_leaves ?_ ?_
  · exact h
  · refine jConfig_leaves ?_ (Foot.le_trans (by decide) hF)
    refine set_leaves ?_ r0
    exact h

theorem derivedQ_leaves {F : Foot} {a₀ : State} {s : State} {key : Nat} {v : Rat} (h : F.leaves a₀ s) (hF : Foot.le ⟨0x10000, [0x8000], [.rcd]⟩ F = true) (r0 : F.covers ((key) / 256)) :
    F.leaves a₀ (derivedQ s key v) := by
  unfold derivedQ
  refine derived_leaves ?_ (Foot.le_trans (by decide) hF) r0
  exact h

theorem jBytes_leaves {F : Foot} {a₀ : State} {s : State} {key : Nat} {who : Nat} {ckpt : Bool} {b : List Byte} (h : F.leaves a₀ s) (hF : Foot.le ⟨0x10000, [0x8000], [.rcd]⟩ F = true) :
    F.leaves a₀ (jBytes s key who ckpt b) := by
  unfold jBytes
  extract_lets +onlyGivenNames -merge -useContext -underBinder y0
  refine journal_leaves ?_ (Foot.le_trans (by decide) hF)
  exact h

theorem derivedBytes_leaves {F : Foot} {a₀ : State} {s : State} {key : Nat} {b : List Byte} (h : F.leaves a₀ s) (hF : Foot.le ⟨0x10000, [0x8000], [.blobs, .rcd]⟩ F = true) :
    F.leaves a₀ (derivedBytes s key b) := by
  unfold derivedBytes
  refine Foot.ite_leaves ?_ ?_
  · exact h
  · refine jBytes_leaves ?_ (Foot.le_trans (by decide) hF)
    refine setBlob_leaves ?_ (Foot.le_trans (by decide) hF)
    exact h

theorem jSegment_leaves {F : Foot} {a₀ : State} {s : State} {g : Seg} (h : F.leaves a₀ s) (hF : Foot.le ⟨0x10000, [0x8000], [.tb, .rcd]⟩ F = true) :
    F.leaves a₀ (jSegment s g) := by
  unfold jSegment
  extract_lets +onlyGivenNames -merge -useContext -underBinder y0
  try clear_value y0
  refine Foot.ite_leaves ?_ ?_
  · refine journal_leaves ?_ (Foot.le_trans (by decide) hF)
    exact h
  · exact { h with tb := .inl (Foot.part hF (by decide)) }

theorem jOwed_leaves {F : Foot} {a₀ : State} {s : State} (h : F.leaves a₀ s) (hF : Foot.le ⟨0x10000, [0x8000], [.tb, .rcd]⟩ F = true) :
    F.leaves a₀ (jOwed s) := by
  unfold jOwed
  refine Foot.foldl_leaves ?_ fun z0 i0 h0 => ?_
  · exact { h with tb := .inl (Foot.part hF (by decide)) }
  · refine jSegment_leaves ?_ (Foot.le_trans (by decide) hF)
    exact h0

theorem jEdge_leaves {F : Foot} {a₀ : State} {s : State} {src : Nat} {kind : Nat} {n : Nat} {t : Tick} (h : F.leaves a₀ s) (hF : Foot.le ⟨0x10000, [0x8000], [.rcd]⟩ F = true) :
    F.leaves a₀ (jEdge s src kind n t) := by
  unfold jEdge
  refine journal_leaves ?_ (Foot.le_trans (by decide) hF)
  exact h

theorem jPort_leaves {F : Foot} {a₀ : State} {s : State} {p : Nat} {op : Nat} {detail : Nat} {t : Tick} (h : F.leaves a₀ s) (hF : Foot.le ⟨0x10000, [0x8000], [.rcd]⟩ F = true) :
    F.leaves a₀ (jPort s p op detail t) := by
  unfold jPort
  refine journal_leaves ?_ (Foot.le_trans (by decide) hF)
  exact h

theorem setSession_leaves {F : Foot} {a₀ : State} {s : State} {k : Nat} {x : Option Session} (h : F.leaves a₀ s) (hF : Foot.le ⟨0x10000, [], [.net]⟩ F = true) :
    F.leaves a₀ (setSession s k x) := by
  unfold setSession
  exact { h with net := .inl (Foot.part hF (by decide)) }

theorem addItem_leaves {F : Foot} {a₀ : State} {s : State} {k : Nat} {i : Item} {t : Tick} (h : F.leaves a₀ s) (hF : Foot.le ⟨0x10000, [], [.net]⟩ F = true) (r0 : F.covers (0x1220 + k)) :
    F.leaves a₀ (addItem s k i t) := by
  unfold addItem
  split
  · exact h
  · refine Foot.ite_leaves ?_ ?_
    · refine setSession_leaves ?_ (Foot.le_trans (by decide) hF)
      refine satInc_leaves ?_ (Foot.rec_key r0)
      exact h
    · refine setSession_leaves ?_ (Foot.le_trans (by decide) hF)
      exact h

theorem notifyEvent_leaves {F : Foot} {a₀ : State} {s : State} {e : Nat} {gen : Nat} {t : Tick} (h : F.leaves a₀ s)
    (hF : Foot.le ⟨0x10000, [0x1220, 0x1221, 0x1222, 0x1223], [.net, .pcie]⟩ F = true) : F.leaves a₀ (notifyEvent s e gen t) := by
  unfold notifyEvent
  extract_lets o
  split
  · exact h
  · split
    · split
      · exact { h with pcie := .inl (Foot.part hF (by decide)) }
      · exact h
    · split
      · rename_i ho
        have ho : o - 18 = 0 ∨ o - 18 = 1 ∨ o - 18 = 2 ∨ o - 18 = 3 := by omega
        refine addItem_leaves h (Foot.le_trans (by decide) hF) ?_
        rcases ho with ho | ho | ho | ho <;> rw [ho] <;> exact Foot.rec_const hF (by decide)
      · exact h

theorem channelTake_leaves {F : Foot} {a₀ : State} {t : Tick} {gen : Nat} {e : Nat} {s : State} (h : F.leaves a₀ s) (hF : Foot.le ⟨0x10000, [0x8000, 0x1220, 0x1221, 0x1222, 0x1223], [.fab, .net, .pcie, .rcd]⟩ F = true) (r0 : F.covers (0x5000 + e)) :
    F.leaves a₀ (channelTake t gen e s) := by
  unfold channelTake
  extract_lets +onlyGivenNames -merge -useContext -underBinder y0
  extract_lets +onlyGivenNames -merge -useContext -underBinder y1
  try clear_value y1
  refine Foot.ite_leaves ?_ ?_
  · extract_lets +onlyGivenNames -merge -useContext -underBinder y2
    have h2 : F.leaves a₀ y2 := by
      refine satInc_leaves ?_ (Foot.rec_key r0)
      refine setBit_leaves ?_ (Foot.rec_key r0)
      exact h
    try clear_value y2
    refine journal_leaves ?_ (Foot.le_trans (by decide) hF)
    exact h2
  · extract_lets +onlyGivenNames -merge -useContext -underBinder y3
    have h3 : F.leaves a₀ y3 := by
      refine wrapInc_leaves ?_ (Foot.rec_key r0)
      refine setBit_leaves ?_ (Foot.rec_key r0)
      exact h
    try clear_value y3
    extract_lets +onlyGivenNames -merge -useContext -underBinder y4
    have h4 : F.leaves a₀ y4 := by
      refine set_leaves ?_ (Foot.rec_key r0)
      refine set_leaves ?_ (Foot.rec_key r0)
      refine set_leaves ?_ (Foot.rec_key r0)
      exact h3
    try clear_value y4
    extract_lets +onlyGivenNames -merge -useContext -underBinder y5
    have h5 : F.leaves a₀ y5 := by
      refine modFab_leaves ?_ (Foot.le_trans (by decide) hF)
      exact h4
    try clear_value y5
    extract_lets +onlyGivenNames -merge -useContext -underBinder y6
    have h6 : F.leaves a₀ y6 := by
      refine notifyEvent_leaves ?_ (Foot.le_trans (by decide) hF)
      exact h5
    try clear_value y6
    refine journal_leaves ?_ (Foot.le_trans (by decide) hF)
    exact h6

theorem channelEvent_leaves {F : Foot} {a₀ : State} {t : Tick} {gen : Nat} {e : Nat} {s : State} (h : F.leaves a₀ s) (hF : Foot.le ⟨0x10000, [0x8000, 0x1220, 0x1221, 0x1222, 0x1223], [.fab, .net, .pcie, .rcd]⟩ F = true) (r0 : F.covers (0x5000 + e)) :
    F.leaves a₀ (channelEvent t gen e s) := by
  unfold channelEvent
  refine Foot.ite_leaves ?_ ?_
  · exact h
  · refine channelTake_leaves ?_ (Foot.le_trans (by decide) hF) r0
    exact { h with fab := .inl (Foot.part hF (by decide)) }

theorem produce_leaves {F : Foot} {a₀ : State} {s : State} {kind : Nat} {index : Nat} {t : Tick} {gen : Nat} (h : F.leaves a₀ s) (hF : Foot.le ⟨0x5000, [0x1220, 0x1221, 0x1222, 0x1223], [.fab, .net, .pcie, .rcd]⟩ F = true) :
    F.leaves a₀ (produce s kind index t gen) := by
  unfold produce
  refine Foot.ite_leaves ?_ ?_
  · exact h
  · refine Foot.foldl_leaves ?_ fun z0 i0 h0 => ?_
    · exact h
    · refine channelEvent_leaves ?_ (Foot.le_trans (by decide) hF) (Foot.rec_floor hF (by decide))
      exact h0

theorem refuse_leaves {F : Foot} {a₀ : State} {s : State} {who : Nat} {key : Nat} {a : Nat} (h : F.leaves a₀ s) (hF : Foot.le ⟨0x10000, [0x2000], [.resp]⟩ F = true) :
    F.leaves a₀ (refuse s who key a) := by
  unfold refuse
  extract_lets +onlyGivenNames -merge -useContext -underBinder y0
  have h0 : F.leaves a₀ y0 := by
    refine setBit_leaves ?_ (Foot.rec_const hF (by decide))
    refine set_leaves ?_ (Foot.rec_const hF (by decide))
    refine set_leaves ?_ (Foot.rec_const hF (by decide))
    exact h
  try clear_value y0
  extract_lets +onlyGivenNames -merge -useContext -underBinder y1
  have h1 : F.leaves a₀ y1 := by
    refine wrapInc_leaves ?_ (Foot.rec_const hF (by decide))
    exact h0
  try clear_value y1
  exact { h1 with resp := .inl (Foot.part hF (by decide)) }

theorem accept_leaves {F : Foot} {a₀ : State} {s : State} {who : Nat} {key : Nat} {data : List Byte} (h : F.leaves a₀ s) (hF : Foot.le ⟨0x10000, [0x2000], [.resp]⟩ F = true) :
    F.leaves a₀ (accept s who key data) := by
  unfold accept
  extract_lets +onlyGivenNames -merge -useContext -underBinder y0
  have h0 : F.leaves a₀ y0 := by
    refine wrapInc_leaves ?_ (Foot.rec_const hF (by decide))
    exact h
  try clear_value y0
  exact { h0 with resp := .inl (Foot.part hF (by decide)) }

theorem requestCommit_leaves {F : Foot} {a₀ : State} {s : State} {j : Nat} {job : CommitJob} (h : F.leaves a₀ s) (hF : Foot.le ⟨0x10000, [], [.nv]⟩ F = true) :
    F.leaves a₀ (requestCommit s j job) := by
  unfold requestCommit
  exact { h with nv := .inl (Foot.part hF (by decide)) }

theorem forgetOrigin_leaves {F : Foot} {a₀ : State} {s : State} {o : Origin → Bool} (h : F.leaves a₀ s) (hF : Foot.le ⟨0x10000, [], [.groups]⟩ F = true) :
    F.leaves a₀ (forgetOrigin s o) := by
  unfold forgetOrigin
  refine Foot.foldl_leaves ?_ fun z0 i0 h0 => ?_
  · exact h
  · refine Foot.ite_leaves ?_ ?_
    · exact h0
    · refine modGx_leaves ?_ (Foot.le_trans (by decide) hF)
      exact h0

/-! ### Operands -/

theorem cmdRun_leaves {F : Foot} {a₀ : State} {who key : Nat} {own chk : State → Option Nat} {mark : Nat → State → State} {eff : State → State}
    {s : State} (h : F.leaves a₀ s) (hF : Foot.le ⟨0x10000, [0x2000], [.resp]⟩ F = true) (hm : ∀ i z, F.leaves a₀ z → F.leaves a₀ (mark i z))
    (he : ∀ z, F.leaves a₀ z → F.leaves a₀ (eff z)) : F.leaves a₀ (cmdRun who key own chk mark eff s) := by
  unfold cmdRun
  split
  · split
    · exact refuse_leaves (hm _ _ h) (Foot.le_trans (by decide) hF)
    · exact he _ h
  · exact h

theorem cmdWriteBy_leaves {F : Foot} {a₀ : State} {who key v : Nat} {own chk : State → Option Nat} {mark : Nat → State → State}
    {eff : State → State} {s : State} (h : F.leaves a₀ s) (hF : Foot.le ⟨0x10000, [0x2000, 0x8000], [.rcd, .resp]⟩ F = true)
    (hm : ∀ i z, F.leaves a₀ z → F.leaves a₀ (mark i z)) (he : ∀ z, F.leaves a₀ z → F.leaves a₀ (eff z)) :
    F.leaves a₀ (cmdWriteBy who key v own chk mark eff s) :=
  cmdRun_leaves h (Foot.le_trans (by decide) hF) hm fun z hz =>
    accept_leaves (he _ (jConfig_leaves hz (Foot.le_trans (by decide) hF))) (Foot.le_trans (by decide) hF)

theorem cmdWrite_leaves {F : Foot} {a₀ : State} {who key v : Nat} {chk : State → Option Nat} {mark : Nat → State → State} {eff : State → State}
    {s : State} (h : F.leaves a₀ s) (hF : Foot.le ⟨0x10000, [0x2000, 0x8000], [.rcd, .resp]⟩ F = true)
    (hm : ∀ i z, F.leaves a₀ z → F.leaves a₀ (mark i z)) (he : ∀ z, F.leaves a₀ z → F.leaves a₀ (eff z)) :
    F.leaves a₀ (cmdWrite who key v chk mark eff s) := cmdWriteBy_leaves h hF hm he

theorem cmdSubmit_leaves {F : Foot} {a₀ : State} {who key : Nat} {chk : State → Option Nat} {mark : Nat → State → State} {eff : State → State}
    {s : State} (h : F.leaves a₀ s) (hF : Foot.le ⟨0x10000, [0x2000], [.resp]⟩ F = true) (hm : ∀ i z, F.leaves a₀ z → F.leaves a₀ (mark i z))
    (he : ∀ z, F.leaves a₀ z → F.leaves a₀ (eff z)) : F.leaves a₀ (cmdSubmit who key chk mark eff s) := cmdRun_leaves h hF hm he

theorem noMark_leaves {F : Foot} {a₀ : State} {x : Nat} {s : State} (h : F.leaves a₀ s) (hF : Foot.le ⟨0x10000, [], []⟩ F = true) :
    F.leaves a₀ (noMark x s) := by
  unfold noMark
  exact h

theorem markDirty_leaves {F : Foot} {a₀ : State} {s : State} (h : F.leaves a₀ s) (hF : Foot.le ⟨0x10000, [0x2000], []⟩ F = true) :
    F.leaves a₀ (markDirty s) := by
  unfold markDirty
  refine when_leaves ?_ fun z0 h0 => ?_
  · exact h
  · refine set_leaves ?_ (Foot.rec_const hF (by decide))
    exact h0

theorem dirty_leaves {F : Foot} {a₀ : State} {s : State} {who : Nat} {key : Nat} {v : Nat} (h : F.leaves a₀ s) (hF : Foot.le ⟨0x10000, [0x2000, 0x8000], [.rcd]⟩ F = true) :
    F.leaves a₀ (dirty s who key v) := by
  unfold dirty
  refine jConfig_leaves ?_ (Foot.le_trans (by decide) hF)
  refine markDirty_leaves ?_ (Foot.le_trans (by decide) hF)
  exact h

theorem gcPush_leaves {F : Foot} {a₀ : State} {s : State} {c : GcCmd} (h : F.leaves a₀ s) (hF : Foot.le ⟨0x10000, [], [.groups]⟩ F = true)
    (hk : ∀ k o v, c.op = .setEntry k o v → F.covers (k / 256) := by simp) : F.leaves a₀ (gcPush s c) := by
  unfold gcPush
  extract_lets c' y
  have hy : F.leaves a₀ y := modGx_leaves h (Foot.le_trans (by decide) hF)
  have hc : ∀ k o v, c'.op = .setEntry k o v → F.covers (k / 256) := by
    intro k o v e
    unfold c' at e
    split at e
    · rename_i k' o' v' e'
      simp only [GcOp.setEntry.injEq] at e
      exact e.1 ▸ hk _ _ _ e'
    · exact hk _ _ _ e
  clear_value y c'
  split
  · exact set_leaves hy (hc _ _ _ (by assumption))
  · exact hy

theorem gcSubmit_leaves {F : Foot} {a₀ : State} {s : State} {who key v : Nat} {c : GcCmd} (h : F.leaves a₀ s)
    (hF : Foot.le ⟨0x10000, [0x2000], [.groups, .resp]⟩ F = true)
    (hk : ∀ k o v, c.op = .setEntry k o v → F.covers (k / 256) := by simp) : F.leaves a₀ (gcSubmit s who key v c) := by
  unfold gcSubmit
  extract_lets c'
  split
  · exact accept_leaves (gcPush_leaves h (Foot.le_trans (by decide) hF) hk) (Foot.le_trans (by decide) hF)
  · refine setBit_leaves ?_ (Foot.rec_const hF (by decide))
    refine wrapInc_leaves ?_ (Foot.rec_const hF (by decide))
    exact modGx_leaves h (Foot.le_trans (by decide) hF)

/-! ### Flags -/

theorem setBits_leaves {F : Foot} {a₀ : State} {s : State} {k : Nat} {l : List (Nat × Bool)} (h : F.leaves a₀ s) (hk : F.covers (k / 256)) :
    F.leaves a₀ (s.setBits k l) := Foot.foldl_leaves h fun _ _ hz => setBit_leaves hz hk

theorem syncPortStatus_leaves {F : Foot} {a₀ : State} {s : State} {p : Nat} (h : F.leaves a₀ s) (hF : Foot.le ⟨0x10000, [], []⟩ F = true) (r0 : F.covers (0x4000 + p)) :
    F.leaves a₀ (syncPortStatus s p) := by
  unfold syncPortStatus
  refine setBits_leaves ?_ (Foot.rec_key r0)
  exact h

theorem syncForceStatus_leaves {F : Foot} {a₀ : State} {s : State} {p : Nat} (h : F.leaves a₀ s) (hF : Foot.le ⟨0x10000, [], []⟩ F = true) (r0 : F.covers (0x4000 + p)) :
    F.leaves a₀ (syncForceStatus s p) := by
  unfold syncForceStatus
  refine setBits_leaves ?_ (Foot.rec_key r0)
  exact h

theorem syncGate_leaves {F : Foot} {a₀ : State} {s : State} {p : Nat} (h : F.leaves a₀ s) (hF : Foot.le ⟨0x10000, [], [.ports, .tx]⟩ F = true) (r0 : F.covers (0x4000 + p)) :
    F.leaves a₀ (syncGate s p) := by
  unfold syncGate
  extract_lets +onlyGivenNames -merge -useContext -underBinder y0
  try clear_value y0
  extract_lets +onlyGivenNames -merge -useContext -underBinder y1
  have h1 : F.leaves a₀ y1 := by
    refine Foot.ite_leaves ?_ ?_
    · exact h
    · refine out_leaves ?_ (Foot.le_trans (by decide) hF)
      refine modPgen_leaves ?_ (Foot.le_trans (by decide) hF)
      exact h
  try clear_value y1
  refine setBit_leaves ?_ (Foot.rec_key r0)
  exact h1

theorem syncPgenStatus_leaves {F : Foot} {a₀ : State} {s : State} {p : Nat} (h : F.leaves a₀ s) (hF : Foot.le ⟨0x10000, [], []⟩ F = true) (r0 : F.covers (0x4000 + p)) :
    F.leaves a₀ (syncPgenStatus s p) := by
  unfold syncPgenStatus
  extract_lets +onlyGivenNames -merge -useContext -underBinder y0
  try clear_value y0
  extract_lets +onlyGivenNames -merge -useContext -underBinder y1
  try clear_value y1
  extract_lets +onlyGivenNames -merge -useContext -underBinder y2
  try clear_value y2
  extract_lets +onlyGivenNames -merge -useContext -underBinder y3
  try clear_value y3
  refine setBits_leaves ?_ (Foot.rec_key r0)
  exact h

theorem syncCmpStatus_leaves {F : Foot} {a₀ : State} {s : State} {p : Nat} (h : F.leaves a₀ s) (hF : Foot.le ⟨0x10000, [], []⟩ F = true) (r0 : F.covers (0x4000 + p)) :
    F.leaves a₀ (syncCmpStatus s p) := by
  unfold syncCmpStatus
  extract_lets +onlyGivenNames -merge -useContext -underBinder y0
  try clear_value y0
  refine setBits_leaves ?_ (Foot.rec_key r0)
  refine setFld_leaves ?_ (Foot.rec_key r0)
  refine setFld_leaves ?_ (Foot.rec_key r0)
  exact h

theorem syncLoopStatus_leaves {F : Foot} {a₀ : State} {s : State} {p : Nat} (h : F.leaves a₀ s) (hF : Foot.le ⟨0x10000, [], []⟩ F = true) (r0 : F.covers (0x4000 + p)) :
    F.leaves a₀ (syncLoopStatus s p) := by
  unfold syncLoopStatus
  refine setBits_leaves ?_ (Foot.rec_key r0)
  exact h

theorem syncMeasStatus_leaves {F : Foot} {a₀ : State} {s : State} {p : Nat} (h : F.leaves a₀ s) (hF : Foot.le ⟨0x10000, [], []⟩ F = true) (r0 : F.covers (0x4000 + p)) :
    F.leaves a₀ (syncMeasStatus s p) := by
  unfold syncMeasStatus
  refine setBits_leaves ?_ (Foot.rec_key r0)
  exact h

theorem syncPort_leaves {F : Foot} {a₀ : State} {s : State} {p : Nat} (h : F.leaves a₀ s) (hF : Foot.le ⟨0x10000, [], [.ports, .tx]⟩ F = true) (r0 : F.covers (0x4000 + p)) :
    F.leaves a₀ (syncPort s p) := by
  unfold syncPort
  refine syncMeasStatus_leaves ?_ (Foot.le_trans (by decide) hF) r0
  refine syncLoopStatus_leaves ?_ (Foot.le_trans (by decide) hF) r0
  refine syncCmpStatus_leaves ?_ (Foot.le_trans (by decide) hF) r0
  refine syncPgenStatus_leaves ?_ (Foot.le_trans (by decide) hF) r0
  refine syncForceStatus_leaves ?_ (Foot.le_trans (by decide) hF) r0
  refine syncPortStatus_leaves ?_ (Foot.le_trans (by decide) hF) r0
  refine syncGate_leaves ?_ (Foot.le_trans (by decide) hF) r0
  exact h

theorem syncAll_leaves {F : Foot} {a₀ : State} {s : State} (h : F.leaves a₀ s) (hF : Foot.le ⟨0x4000, [], [.ports, .tx]⟩ F = true) :
    F.leaves a₀ (syncAll s) := by
  unfold syncAll
  refine forAll_leaves ?_ fun i0 z0 h0 => ?_
  · exact h
  · refine syncPort_leaves ?_ (Foot.le_trans (by decide) hF) (Foot.rec_floor hF (by decide))
    exact h0

/-! ### Force -/

theorem shaperTo_leaves {F : Foot} {a₀ : State} {s : State} {p : Nat} {t : Tick} (h : F.leaves a₀ s) (hF : Foot.le ⟨0x10000, [], [.ports]⟩ F = true) :
    F.leaves a₀ (shaperTo s p t) := by
  unfold shaperTo
  refine Foot.ite_leaves ?_ ?_
  · exact h
  · extract_lets +onlyGivenNames -merge -useContext -underBinder y0
    try clear_value y0
    refine modForce_leaves ?_ (Foot.le_trans (by decide) hF)
    exact h

theorem shaperReset_leaves {F : Foot} {a₀ : State} {s : State} {p : Nat} {t : Tick} (h : F.leaves a₀ s) (hF : Foot.le ⟨0x10000, [], [.ports]⟩ F = true) :
    F.leaves a₀ (shaperReset s p t) := by
  unfold shaperReset
  refine modForce_leaves ?_ (Foot.le_trans (by decide) hF)
  exact h

theorem setCode_leaves {F : Foot} {a₀ : State} {s : State} {p : Nat} {code : Nat} {t : Tick} (h : F.leaves a₀ s) (hF : Foot.le ⟨0x10000, [], [.ports]⟩ F = true) (r0 : F.covers (0x4000 + p)) :
    F.leaves a₀ (setCode s p code t) := by
  unfold setCode
  extract_lets +onlyGivenNames -merge -useContext -underBinder y0
  have h0 : F.leaves a₀ y0 := by
    refine shaperTo_leaves ?_ (Foot.le_trans (by decide) hF)
    exact h
  try clear_value y0
  extract_lets +onlyGivenNames -merge -useContext -underBinder y1
  refine modForce_leaves ?_ (Foot.le_trans (by decide) hF)
  refine set_leaves ?_ (Foot.rec_key r0)
  exact h0

theorem complExit_leaves {F : Foot} {a₀ : State} {s : State} {p : Nat} {t : Tick} (h : F.leaves a₀ s) (hF : Foot.le ⟨0x5000, [0x1220, 0x1221, 0x1222, 0x1223], [.ports, .fab, .net, .pcie, .rcd]⟩ F = true) :
    F.leaves a₀ (complExit s p t) := by
  unfold complExit
  refine Foot.ite_leaves ?_ ?_
  · refine produce_leaves ?_ (Foot.le_trans (by decide) hF)
    refine modMeas_leaves ?_ (Foot.le_trans (by decide) hF)
    refine modLoopY_leaves ?_ (Foot.le_trans (by decide) hF)
    exact h
  · exact h

theorem complEnter_leaves {F : Foot} {a₀ : State} {s : State} {p : Nat} {t : Tick} (h : F.leaves a₀ s) (hF : Foot.le ⟨0x5000, [0x1220, 0x1221, 0x1222, 0x1223], [.ports, .fab, .net, .pcie, .rcd]⟩ F = true) (r0 : F.covers (0x4000 + p)) :
    F.leaves a₀ (complEnter s p t) := by
  unfold complEnter
  extract_lets +onlyGivenNames -merge -useContext -underBinder y0
  have h0 : F.leaves a₀ y0 := by
    refine modMeas_leaves ?_ (Foot.le_trans (by decide) hF)
    refine modLoopY_leaves ?_ (Foot.le_trans (by decide) hF)
    exact h
  try clear_value y0
  extract_lets +onlyGivenNames -merge -useContext -underBinder y1
  have h1 : F.leaves a₀ y1 := by
    refine setBit_leaves ?_ (Foot.rec_key r0)
    refine satInc_leaves ?_ (Foot.rec_key r0)
    exact h0
  try clear_value y1
  refine produce_leaves ?_ (Foot.le_trans (by decide) hF)
  exact h1

theorem complUpdate_leaves {F : Foot} {a₀ : State} {s : State} {p : Nat} {t : Tick} (h : F.leaves a₀ s) (hF : Foot.le ⟨0x5000, [0x1220, 0x1221, 0x1222, 0x1223], [.ports, .fab, .net, .pcie, .rcd]⟩ F = true) (r0 : F.covers (0x4000 + p)) :
    F.leaves a₀ (complUpdate s p t) := by
  unfold complUpdate
  extract_lets +onlyGivenNames -merge -useContext -underBinder y0
  extract_lets +onlyGivenNames -merge -useContext -underBinder y1
  refine Foot.ite_leaves ?_ ?_
  · exact h
  · extract_lets +onlyGivenNames -merge -useContext -underBinder y2
    have h2 : F.leaves a₀ y2 := by
      refine modLoopY_leaves ?_ (Foot.le_trans (by decide) hF)
      exact h
    try clear_value y2
    extract_lets +onlyGivenNames -merge -useContext -underBinder y3
    have h3 : F.leaves a₀ y3 := by
      refine complExit_leaves ?_ (Foot.le_trans (by decide) hF)
      exact h2
    try clear_value y3
    refine Foot.ite_leaves ?_ ?_
    · exact h3
    · refine complEnter_leaves ?_ (Foot.le_trans (by decide) hF) r0
      exact h3

theorem complStop_leaves {F : Foot} {a₀ : State} {s : State} {p : Nat} {t : Tick} (h : F.leaves a₀ s) (hF : Foot.le ⟨0x5000, [0x1220, 0x1221, 0x1222, 0x1223], [.ports, .fab, .net, .pcie, .rcd]⟩ F = true) :
    F.leaves a₀ (complStop s p t) := by
  unfold complStop
  refine modLoopY_leaves ?_ (Foot.le_trans (by decide) hF)
  refine complExit_leaves ?_ (Foot.le_trans (by decide) hF)
  exact h

theorem takeIncoming_leaves {F : Foot} {a₀ : State} {s : State} {p : Nat} (h : F.leaves a₀ s) (hF : Foot.le ⟨0x10000, [], [.ports]⟩ F = true) (r0 : F.covers (0x4000 + p)) :
    F.leaves a₀ (takeIncoming s p) := by
  unfold takeIncoming
  split
  · exact h
  · extract_lets +onlyGivenNames -merge -useContext -underBinder y0
    try clear_value y0
    extract_lets +onlyGivenNames -merge -useContext -underBinder y1
    have h1 : F.leaves a₀ y1 := by
      refine modForce_leaves ?_ (Foot.le_trans (by decide) hF)
      exact h
    try clear_value y1
    refine when_leaves ?_ fun z2 h2 => ?_
    · exact h1
    · refine setBit_leaves ?_ (Foot.rec_key r0)
      refine satInc_leaves ?_ (Foot.rec_key r0)
      exact h2

theorem loopWrite_leaves {F : Foot} {a₀ : State} {s : State} {p : Nat} {u0 : Int} {u1 : Int} {t : Tick} (h : F.leaves a₀ s) (hF : Foot.le ⟨0x10000, [], [.ports]⟩ F = true) (r0 : F.covers (0x4000 + p)) :
    F.leaves a₀ (loopWrite s p u0 u1 t) := by
  unfold loopWrite
  refine Foot.ite_leaves ?_ ?_
  · exact h
  · extract_lets +onlyGivenNames -merge -useContext -underBinder y0
    have h0 : F.leaves a₀ y0 := by
      refine takeIncoming_leaves ?_ (Foot.le_trans (by decide) hF) r0
      exact h
    try clear_value y0
    extract_lets +onlyGivenNames -merge -useContext -underBinder y1
    extract_lets +onlyGivenNames -merge -useContext -underBinder y2
    try clear_value y2
    extract_lets +onlyGivenNames -merge -useContext -underBinder y3
    try clear_value y3
    extract_lets +onlyGivenNames -merge -useContext -underBinder y4
    have h4 : F.leaves a₀ y4 := by
      refine modForce_leaves ?_ (Foot.le_trans (by decide) hF)
      exact h0
    try clear_value y4
    extract_lets +onlyGivenNames -merge -useContext -underBinder y5
    have h5 : F.leaves a₀ y5 := by
      refine Foot.ite_leaves ?_ ?_
      · exact h4
      · refine takeIncoming_leaves ?_ (Foot.le_trans (by decide) hF) r0
        exact h4
    try clear_value y5
    refine when_leaves ?_ fun z6 h6 => ?_
    · exact h5
    · refine setBit_leaves ?_ (Foot.rec_key r0)
      exact h6

theorem strike_leaves {F : Foot} {a₀ : State} {s : State} {p : Nat} {t : Tick} (h : F.leaves a₀ s) (hF : Foot.le ⟨0x5000, [0x1220, 0x1221, 0x1222, 0x1223], [.ports, .fab, .net, .pcie, .rcd]⟩ F = true) (r0 : F.covers (0x4000 + p)) :
    F.leaves a₀ (strike s p t) := by
  unfold strike
  refine Foot.ite_leaves ?_ ?_
  · exact h
  · extract_lets +onlyGivenNames -merge -useContext -underBinder y0
    have h0 : F.leaves a₀ y0 := by
      unfold y0
      split
      · refine Foot.ite_leaves ?_ ?_
        · refine takeIncoming_leaves ?_ (Foot.le_trans (by decide) hF) r0
          exact h
        · exact h
      · exact h
    try clear_value y0
    extract_lets +onlyGivenNames -merge -useContext -underBinder y1
    try clear_value y1
    extract_lets +onlyGivenNames -merge -useContext -underBinder y2
    extract_lets +onlyGivenNames -merge -useContext -underBinder y3
    extract_lets +onlyGivenNames -merge -useContext -underBinder y4
    have h4 : F.leaves a₀ y4 := by
      refine Foot.ite_leaves ?_ ?_
      · exact h0
      · refine setCode_leaves ?_ (Foot.le_trans (by decide) hF) r0
        exact h0
    try clear_value y4
    refine complUpdate_leaves ?_ (Foot.le_trans (by decide) hF) r0
    refine modForce_leaves ?_ (Foot.le_trans (by decide) hF)
    exact h4

theorem applyInstant_leaves {F : Foot} {a₀ : State} {s : State} {p : Nat} {t : Tick} (h : F.leaves a₀ s) (hF : Foot.le ⟨0x5000, [0x1220, 0x1221, 0x1222, 0x1223], [.ports, .fab, .net, .pcie, .rcd]⟩ F = true) (r0 : F.covers (0x4000 + p)) :
    F.leaves a₀ (applyInstant s p t) := by
  unfold applyInstant
  extract_lets +onlyGivenNames -merge -useContext -underBinder y0
  have h0 : F.leaves a₀ y0 := by
    refine when_leaves ?_ fun z1 h1 => ?_
    · exact h
    · refine strike_leaves ?_ (Foot.le_trans (by decide) hF) r0
      exact h1
  try clear_value y0
  refine complUpdate_leaves ?_ (Foot.le_trans (by decide) hF) r0
  exact h0

theorem blankTo_leaves {F : Foot} {a₀ : State} {s : State} {p : Nat} {until_ : Tick} (h : F.leaves a₀ s) (hF : Foot.le ⟨0x10000, [], [.ports]⟩ F = true) :
    F.leaves a₀ (blankTo s p until_) := by
  unfold blankTo
  refine modForce_leaves ?_ (Foot.le_trans (by decide) hF)
  exact h

theorem coreClear_leaves {F : Foot} {a₀ : State} {s : State} {p : Nat} {t : Tick} (h : F.leaves a₀ s) (hF : Foot.le ⟨0x10000, [], [.ports]⟩ F = true) (r0 : F.covers (0x4000 + p)) :
    F.leaves a₀ (coreClear s p t) := by
  unfold coreClear
  extract_lets +onlyGivenNames -merge -useContext -underBinder y0
  extract_lets +onlyGivenNames -merge -useContext -underBinder y1
  have h1 : F.leaves a₀ y1 := by
    refine setCode_leaves ?_ (Foot.le_trans (by decide) hF) r0
    refine shaperTo_leaves ?_ (Foot.le_trans (by decide) hF)
    exact h
  try clear_value y1
  refine blankTo_leaves ?_ (Foot.le_trans (by decide) hF)
  refine modForce_leaves ?_ (Foot.le_trans (by decide) hF)
  exact h1

theorem jHold_leaves {F : Foot} {a₀ : State} {s : State} {p : Nat} {t : Tick} (h : F.leaves a₀ s) (hF : Foot.le ⟨0x10000, [0x8000], [.ports, .rcd]⟩ F = true) :
    F.leaves a₀ (jHold s p t) := by
  unfold jHold
  extract_lets +onlyGivenNames -merge -useContext -underBinder y0
  extract_lets +onlyGivenNames -merge -useContext -underBinder y1
  refine Foot.ite_leaves ?_ ?_
  · exact h
  · extract_lets +onlyGivenNames -merge -useContext -underBinder y2
    have h2 : F.leaves a₀ y2 := by
      refine modLoopY_leaves ?_ (Foot.le_trans (by decide) hF)
      exact h
    try clear_value y2
    refine Foot.ite_leaves ?_ ?_
    · refine jPort_leaves ?_ (Foot.le_trans (by decide) hF)
      exact h2
    · refine jPort_leaves ?_ (Foot.le_trans (by decide) hF)
      exact h2

/-! ### Scale -/

theorem jFactors_leaves {F : Foot} {a₀ : State} {s : State} {p : Nat} {ckpt : Bool} (h : F.leaves a₀ s) (hF : Foot.le ⟨0x10000, [0x8000], [.rcd]⟩ F = true) :
    F.leaves a₀ (jFactors s p ckpt) := by
  unfold jFactors
  extract_lets +onlyGivenNames -merge -useContext -underBinder y0
  refine journal_leaves ?_ (Foot.le_trans (by decide) hF)
  exact h

theorem loadKstage_leaves {F : Foot} {a₀ : State} {s : State} {p : Nat} (h : F.leaves a₀ s) (hF : Foot.le ⟨0x10000, [0x8000], [.rcd]⟩ F = true) (r0 : F.covers (0x4000 + p)) :
    F.leaves a₀ (loadKstage s p) := by
  unfold loadKstage
  refine derived_leaves ?_ (Foot.le_trans (by decide) hF) (Foot.rec_key r0)
  exact h

theorem deriveLimits_leaves {F : Foot} {a₀ : State} {s : State} {p : Nat} (h : F.leaves a₀ s) (hF : Foot.le ⟨0x10000, [0x8000], [.rcd]⟩ F = true) (r0 : F.covers (0x4000 + p)) :
    F.leaves a₀ (deriveLimits s p) := by
  unfold deriveLimits
  extract_lets +onlyGivenNames -merge -useContext -underBinder y0
  try clear_value y0
  extract_lets +onlyGivenNames -merge -useContext -underBinder y1
  try clear_value y1
  extract_lets +onlyGivenNames -merge -useContext -underBinder y2
  try clear_value y2
  extract_lets +onlyGivenNames -merge -useContext -underBinder y3
  try clear_value y3
  extract_lets +onlyGivenNames -merge -useContext -underBinder y4
  try clear_value y4
  extract_lets +onlyGivenNames -merge -useContext -underBinder y5
  have h5 : F.leaves a₀ y5 := by
    refine set_leaves ?_ (Foot.rec_key r0)
    refine derived_leaves ?_ (Foot.le_trans (by decide) hF) (Foot.rec_key r0)
    refine derived_leaves ?_ (Foot.le_trans (by decide) hF) (Foot.rec_key r0)
    exact h
  try clear_value y5
  extract_lets +onlyGivenNames -merge -useContext -underBinder y6
  have h6 : F.leaves a₀ y6 := by
    refine set_leaves ?_ (Foot.rec_key r0)
    refine set_leaves ?_ (Foot.rec_key r0)
    exact h5
  try clear_value y6
  extract_lets +onlyGivenNames -merge -useContext -underBinder y7
  have h7 : F.leaves a₀ y7 := by
    refine when_leaves ?_ fun z8 h8 => ?_
    · exact h6
    · refine setBit_leaves ?_ (Foot.rec_key r0)
      exact h8
  try clear_value y7
  refine when_leaves ?_ fun z9 h9 => ?_
  · exact h7
  · refine setBit_leaves ?_ (Foot.rec_key r0)
    exact h9

theorem loadThresholds_leaves {F : Foot} {a₀ : State} {s : State} {p : Nat} {t : Tick} (h : F.leaves a₀ s) (hF : Foot.le ⟨0x10000, [0x8000], [.ports, .rcd]⟩ F = true) (r0 : F.covers (0x4000 + p)) :
    F.leaves a₀ (loadThresholds s p t) := by
  unfold loadThresholds
  extract_lets +onlyGivenNames -merge -useContext -underBinder y0
  try clear_value y0
  extract_lets +onlyGivenNames -merge -useContext -underBinder y1
  try clear_value y1
  extract_lets +onlyGivenNames -merge -useContext -underBinder y2
  try clear_value y2
  extract_lets +onlyGivenNames -merge -useContext -underBinder y3
  try clear_value y3
  extract_lets +onlyGivenNames -merge -useContext -underBinder y4
  extract_lets +onlyGivenNames -merge -useContext -underBinder y5
  extract_lets +onlyGivenNames -merge -useContext -underBinder y6
  extract_lets +onlyGivenNames -merge -useContext -underBinder y7
  try clear_value y7
  extract_lets +onlyGivenNames -merge -useContext -underBinder y8
  have h8 : F.leaves a₀ y8 := by
    refine Foot.ite_leaves ?_ ?_
    · exact h
    · refine jConfig_leaves ?_ (Foot.le_trans (by decide) hF)
      refine set_leaves ?_ (Foot.rec_key r0)
      refine modPx_leaves ?_ (Foot.le_trans (by decide) hF)
      exact h
  try clear_value y8
  extract_lets +onlyGivenNames -merge -useContext -underBinder y9
  have h9 : F.leaves a₀ y9 := by
    refine when_leaves ?_ fun z10 h10 => ?_
    · exact h8
    · refine setBit_leaves ?_ (Foot.rec_key r0)
      exact h10
  try clear_value y9
  extract_lets +onlyGivenNames -merge -useContext -underBinder y11
  try clear_value y11
  refine setBits_leaves ?_ (Foot.rec_key r0)
  exact h9

theorem drivePattern_leaves {F : Foot} {a₀ : State} {s : State} {p : Nat} {pat : Nat} (h : F.leaves a₀ s) (hF : Foot.le ⟨0x10000, [], [.ports, .tx]⟩ F = true) :
    F.leaves a₀ (drivePattern s p pat) := by
  unfold drivePattern
  refine Foot.ite_leaves ?_ ?_
  · exact h
  · refine out_leaves ?_ (Foot.le_trans (by decide) hF)
    refine modRange_leaves ?_ (Foot.le_trans (by decide) hF)
    exact h

/-! ### Stream -/

theorem gbufRelease_leaves {F : Foot} {a₀ : State} {s : State} {g : Nat} {n : Nat} (h : F.leaves a₀ s) (hF : Foot.le ⟨0x10000, [], [.groups]⟩ F = true) :
    F.leaves a₀ (gbufRelease s g n) := by
  unfold gbufRelease
  refine modGx_leaves ?_ (Foot.le_trans (by decide) hF)
  exact h

theorem blockGone_leaves {F : Foot} {a₀ : State} {s : State} {words : List Nat} (h : F.leaves a₀ s) (hF : Foot.le ⟨0x10000, [], [.groups]⟩ F = true) :
    F.leaves a₀ (blockGone s words) := by
  unfold blockGone
  extract_lets +onlyGivenNames -merge -useContext -underBinder y0
  refine Foot.ite_leaves ?_ ?_
  · refine gbufRelease_leaves ?_ (Foot.le_trans (by decide) hF)
    exact h
  · exact h

theorem ringMirror_leaves {F : Foot} {a₀ : State} {s : State} {r : Nat} (h : F.leaves a₀ s) (hF : Foot.le ⟨0x10000, [], [.spad, .mem]⟩ F = true) :
    F.leaves a₀ (ringMirror s r) := by
  unfold ringMirror
  refine spadPutAll_leaves ?_ (Foot.le_trans (by decide) hF)
  exact h

theorem dropBlock_leaves {F : Foot} {a₀ : State} {s : State} {ring : Nat} {words : List Nat} (h : F.leaves a₀ s) (hF : Foot.le ⟨0x10000, [], [.groups, .spad, .mem]⟩ F = true) (r0 : F.covers (0x2380 + ring)) :
    F.leaves a₀ (dropBlock s ring words) := by
  unfold dropBlock
  refine blockGone_leaves ?_ (Foot.le_trans (by decide) hF)
  refine ringMirror_leaves ?_ (Foot.le_trans (by decide) hF)
  refine wrapInc_leaves ?_ (Foot.rec_key r0)
  exact h

theorem handBlock_leaves {F : Foot} {a₀ : State} {s : State} {ring : Nat} {words : List Nat} (h : F.leaves a₀ s) (hF : Foot.le ⟨0x10000, [], [.groups, .spad, .mem]⟩ F = true) (r0 : F.covers (0x2380 + ring)) :
    F.leaves a₀ (handBlock s ring words) := by
  unfold handBlock
  refine Foot.ite_leaves ?_ ?_
  · refine Foot.ite_leaves ?_ ?_
    · refine dropBlock_leaves ?_ (Foot.le_trans (by decide) hF) r0
      exact h
    · exact { h with mem := .inl (Foot.part hF (by decide)) }
  · exact h

theorem fastLost_leaves {F : Foot} {a₀ : State} {s : State} {p : Nat} (h : F.leaves a₀ s) (hF : Foot.le ⟨0x10000, [], [.ports]⟩ F = true) (r0 : F.covers (0x3000 + groupOf p)) (r1 : F.covers (0x4000 + p)) :
    F.leaves a₀ (fastLost s p) := by
  unfold fastLost
  extract_lets +onlyGivenNames -merge -useContext -underBinder y0
  have h0 : F.leaves a₀ y0 := by
    refine setBit_leaves ?_ (Foot.rec_key r0)
    refine satInc_leaves ?_ (Foot.rec_key r0)
    exact h
  try clear_value y0
  refine modMeas_leaves ?_ (Foot.le_trans (by decide) hF)
  refine setBit_leaves ?_ (Foot.rec_key r1)
  exact h0

theorem closeWords_leaves {F : Foot} {a₀ : State} {s : State} {p : Nat} {b : Blk} (h : F.leaves a₀ s) (hF : Foot.le ⟨0x2380, [], [.ports, .groups, .spad, .mem]⟩ F = true) :
    F.leaves a₀ (closeWords s p b) := by
  unfold closeWords
  extract_lets +onlyGivenNames -merge -useContext -underBinder y0
  try clear_value y0
  extract_lets +onlyGivenNames -merge -useContext -underBinder y1
  extract_lets +onlyGivenNames -merge -useContext -underBinder y2
  have h2 : F.leaves a₀ y2 := by
    refine modMeas_leaves ?_ (Foot.le_trans (by decide) hF)
    exact h
  try clear_value y2
  refine Foot.ite_leaves ?_ ?_
  · refine handBlock_leaves ?_ (Foot.le_trans (by decide) hF) (Foot.rec_floor hF (by decide))
    exact h2
  · refine gbufRelease_leaves ?_ (Foot.le_trans (by decide) hF)
    exact h2

theorem closeFast_leaves {F : Foot} {a₀ : State} {s : State} {p : Nat} (h : F.leaves a₀ s) (hF : Foot.le ⟨0x2380, [], [.ports, .groups, .spad, .mem]⟩ F = true) :
    F.leaves a₀ (closeFast s p) := by
  unfold closeFast
  extract_lets +onlyGivenNames -merge -useContext -underBinder y0
  try clear_value y0
  split
  · refine modMeas_leaves ?_ (Foot.le_trans (by decide) hF)
    exact h
  · split
    · refine closeWords_leaves ?_ (Foot.le_trans (by decide) hF)
      exact h
    · refine Foot.ite_leaves ?_ ?_
      · refine fastLost_leaves ?_ (Foot.le_trans (by decide) hF) (Foot.rec_floor hF (by decide)) (Foot.rec_floor hF (by decide))
        refine Foot.ite_leaves ?_ ?_
        · refine modMeas_leaves ?_ (Foot.le_trans (by decide) hF)
          exact h
        · refine closeWords_leaves ?_ (Foot.le_trans (by decide) hF)
          exact h
      · refine closeWords_leaves ?_ (Foot.le_trans (by decide) hF)
        refine modGx_leaves ?_ (Foot.le_trans (by decide) hF)
        exact h

theorem closePrec_leaves {F : Foot} {a₀ : State} {s : State} {p : Nat} (h : F.leaves a₀ s) (hF : Foot.le ⟨0x2380, [], [.ports, .groups, .spad, .mem]⟩ F = true) :
    F.leaves a₀ (closePrec s p) := by
  unfold closePrec
  extract_lets +onlyGivenNames -merge -useContext -underBinder y0
  try clear_value y0
  split
  · refine modMeas_leaves ?_ (Foot.le_trans (by decide) hF)
    exact h
  · extract_lets +onlyGivenNames -merge -useContext -underBinder y1
    refine handBlock_leaves ?_ (Foot.le_trans (by decide) hF) (Foot.rec_floor hF (by decide))
    refine modMeas_leaves ?_ (Foot.le_trans (by decide) hF)
    exact h

theorem closeLoop_leaves {F : Foot} {a₀ : State} {s : State} {p : Nat} (h : F.leaves a₀ s) (hF : Foot.le ⟨0x2380, [], [.ports, .groups, .spad, .mem]⟩ F = true) :
    F.leaves a₀ (closeLoop s p) := by
  unfold closeLoop
  extract_lets +onlyGivenNames -merge -useContext -underBinder y0
  try clear_value y0
  refine Foot.ite_leaves ?_ ?_
  · exact h
  · extract_lets +onlyGivenNames -merge -useContext -underBinder y1
    refine handBlock_leaves ?_ (Foot.le_trans (by decide) hF) (Foot.rec_floor hF (by decide))
    refine modLoopY_leaves ?_ (Foot.le_trans (by decide) hF)
    exact h

theorem fastWord_leaves {F : Foot} {a₀ : State} {s : State} {p : Nat} {w : Nat} {worn : Bool} {compl : Bool} (h : F.leaves a₀ s) (hF : Foot.le ⟨0x2380, [], [.ports, .groups, .spad, .mem]⟩ F = true) :
    F.leaves a₀ (fastWord s p w worn compl) := by
  unfold fastWord
  extract_lets +onlyGivenNames -merge -useContext -underBinder y0
  refine Foot.ite_leaves ?_ ?_
  · refine fastLost_leaves ?_ (Foot.le_trans (by decide) hF) (Foot.rec_floor hF (by decide)) (Foot.rec_floor hF (by decide))
    refine Foot.ite_leaves ?_ ?_
    · refine modMeas_leaves ?_ (Foot.le_trans (by decide) hF)
      exact h
    · refine closeFast_leaves ?_ (Foot.le_trans (by decide) hF)
      exact h
  · extract_lets +onlyGivenNames -merge -useContext -underBinder y1
    have h1 : F.leaves a₀ y1 := by
      refine modGx_leaves ?_ (Foot.le_trans (by decide) hF)
      exact h
    try clear_value y1
    extract_lets +onlyGivenNames -merge -useContext -underBinder y2
    have h2 : F.leaves a₀ y2 := by
      refine modMeas_leaves ?_ (Foot.le_trans (by decide) hF)
      exact h1
    try clear_value y2
    split
    · refine Foot.ite_leaves ?_ ?_
      · refine closeFast_leaves ?_ (Foot.le_trans (by decide) hF)
        exact h2
      · exact h2
    · exact h2

/-! ### SeqCore -/

theorem modPoint_leaves {F : Foot} {a₀ : State} {s : State} {p : Nat} {f : Point → Point} (h : F.leaves a₀ s) (hF : Foot.le ⟨0x10000, [], [.ports]⟩ F = true) :
    F.leaves a₀ (modPoint s p f) := by
  unfold modPoint
  refine modSeq_leaves ?_ (Foot.le_trans (by decide) hF)
  exact h

theorem setPhase_leaves {F : Foot} {a₀ : State} {s : State} {p : Nat} {ph : Nat} (h : F.leaves a₀ s) (hF : Foot.le ⟨0x6000, [], [.ports]⟩ F = true) :
    F.leaves a₀ (setPhase s p ph) := by
  unfold setPhase
  split
  · exact h
  · refine set_leaves ?_ (Foot.rec_key (Foot.rec_floor hF (by decide)))
    refine modPoint_leaves ?_ (Foot.le_trans (by decide) hF)
    exact h

theorem discardWin_leaves {F : Foot} {a₀ : State} {s : State} {p : Nat} (h : F.leaves a₀ s) (hF : Foot.le ⟨0x10000, [], [.ports]⟩ F = true) :
    F.leaves a₀ (discardWin s p) := by
  unfold discardWin
  refine modMeas_leaves ?_ (Foot.le_trans (by decide) hF)
  exact h

theorem resetCount_leaves {F : Foot} {a₀ : State} {s : State} {p : Nat} (h : F.leaves a₀ s) (hF : Foot.le ⟨0x10000, [], [.ports]⟩ F = true) :
    F.leaves a₀ (resetCount s p) := by
  unfold resetCount
  refine modPoint_leaves ?_ (Foot.le_trans (by decide) hF)
  exact h

theorem redoPoint_leaves {F : Foot} {a₀ : State} {s : State} {p : Nat} (h : F.leaves a₀ s) (hF : Foot.le ⟨0x6000, [], [.ports]⟩ F = true) :
    F.leaves a₀ (redoPoint s p) := by
  unfold redoPoint
  split
  · exact h
  · extract_lets +onlyGivenNames -merge -useContext -underBinder y0
    have h0 : F.leaves a₀ y0 := by
      refine setBit_leaves ?_ (Foot.rec_key (Foot.rec_floor hF (by decide)))
      exact h
    try clear_value y0
    extract_lets +onlyGivenNames -merge -useContext -underBinder y1
    have h1 : F.leaves a₀ y1 := by
      refine discardWin_leaves ?_ (Foot.le_trans (by decide) hF)
      exact h0
    try clear_value y1
    extract_lets +onlyGivenNames -merge -useContext -underBinder y2
    have h2 : F.leaves a₀ y2 := by
      refine modPoint_leaves ?_ (Foot.le_trans (by decide) hF)
      exact h1
    try clear_value y2
    refine setPhase_leaves ?_ (Foot.le_trans (by decide) hF)
    exact h2

theorem seqOnTrip_leaves {F : Foot} {a₀ : State} {s : State} {p : Nat} {aborted : Bool} {t : Tick} (h : F.leaves a₀ s) (hF : Foot.le ⟨0x6000, [], [.ports]⟩ F = true) :
    F.leaves a₀ (seqOnTrip s p aborted t) := by
  unfold seqOnTrip
  extract_lets +onlyGivenNames -merge -useContext -underBinder y0
  have h0 : F.leaves a₀ y0 := by
    refine modMeas_leaves ?_ (Foot.le_trans (by decide) hF)
    exact h
  try clear_value y0
  split
  · extract_lets +onlyGivenNames -merge -useContext -underBinder y1
    have h1 : F.leaves a₀ y1 := by
      refine Foot.ite_leaves ?_ ?_
      · refine modPoint_leaves ?_ (Foot.le_trans (by decide) hF)
        exact h0
      · exact h0
    try clear_value y1
    refine Foot.ite_leaves ?_ ?_
    · refine redoPoint_leaves ?_ (Foot.le_trans (by decide) hF)
      exact h1
    · refine resetCount_leaves ?_ (Foot.le_trans (by decide) hF)
      exact h1
  · exact h0

theorem seqPulseDone_leaves {F : Foot} {a₀ : State} {s : State} {p : Nat} {e : Tick} (h : F.leaves a₀ s) (hF : Foot.le ⟨0x10000, [], [.ports]⟩ F = true) :
    F.leaves a₀ (seqPulseDone s p e) := by
  unfold seqPulseDone
  refine modPoint_leaves ?_ (Foot.le_trans (by decide) hF)
  exact h

theorem seqStartVoid_leaves {F : Foot} {a₀ : State} {s : State} {p : Nat} (h : F.leaves a₀ s) (hF : Foot.le ⟨0x10000, [], [.ports]⟩ F = true) :
    F.leaves a₀ (seqStartVoid s p) := by
  unfold seqStartVoid
  refine modPoint_leaves ?_ (Foot.le_trans (by decide) hF)
  exact h

theorem requestFrame_leaves {F : Foot} {a₀ : State} {s : State} {f : SFrame} (h : F.leaves a₀ s) (hF : Foot.le ⟨0x10000, [], [.scan]⟩ F = true) :
    F.leaves a₀ (requestFrame s f) := by
  unfold requestFrame
  exact { h with scan := .inl (Foot.part hF (by decide)) }

theorem startScan_leaves {F : Foot} {a₀ : State} {s : State} {p : Nat} {t : Tick} (h : F.leaves a₀ s) (hF : Foot.le ⟨0x6000, [], [.ports, .scan]⟩ F = true) :
    F.leaves a₀ (startScan s p t) := by
  unfold startScan
  split
  · exact h
  · extract_lets +onlyGivenNames -merge -useContext -underBinder y0
    extract_lets +onlyGivenNames -merge -useContext -underBinder y1
    have h1 : F.leaves a₀ y1 := by
      refine setPhase_leaves ?_ (Foot.le_trans (by decide) hF)
      refine modPoint_leaves ?_ (Foot.le_trans (by decide) hF)
      exact h
    try clear_value y1
    refine requestFrame_leaves ?_ (Foot.le_trans (by decide) hF)
    exact h1

theorem seqOnLeave_leaves {F : Foot} {a₀ : State} {s : State} {p : Nat} {t : Tick} (h : F.leaves a₀ s) (hF : Foot.le ⟨0x6000, [], [.ports, .scan]⟩ F = true) :
    F.leaves a₀ (seqOnLeave s p t) := by
  unfold seqOnLeave
  extract_lets +onlyGivenNames -merge -useContext -underBinder y0
  have h0 : F.leaves a₀ y0 := by
    refine discardWin_leaves ?_ (Foot.le_trans (by decide) hF)
    exact h
  try clear_value y0
  split
  · exact h0
  · extract_lets +onlyGivenNames -merge -useContext -underBinder y1
    have h1 : F.leaves a₀ y1 := by
      refine setBit_leaves ?_ (Foot.rec_key (Foot.rec_floor hF (by decide)))
      exact h0
    try clear_value y1
    refine Foot.ite_leaves ?_ ?_
    · refine startScan_leaves ?_ (Foot.le_trans (by decide) hF)
      exact h1
    · refine Foot.ite_leaves ?_ ?_
      · exact h1
      · extract_lets +onlyGivenNames -merge -useContext -underBinder y2
        have h2 : F.leaves a₀ y2 := by
          refine modPoint_leaves ?_ (Foot.le_trans (by decide) hF)
          exact h1
        try clear_value y2
        refine setPhase_leaves ?_ (Foot.le_trans (by decide) hF)
        exact h2

/-! ### Pgen -/

theorem abortTrain_leaves {F : Foot} {a₀ : State} {s : State} {p : Nat} {t : Tick} (h : F.leaves a₀ s) (hF : Foot.le ⟨0x10000, [], [.ports, .micro]⟩ F = true) :
    F.leaves a₀ (abortTrain s p t) := by
  unfold abortTrain
  extract_lets +onlyGivenNames -merge -useContext -underBinder y0
  try clear_value y0
  extract_lets +onlyGivenNames -merge -useContext -underBinder y1
  have h1 : F.leaves a₀ y1 := by
    refine modPgen_leaves ?_ (Foot.le_trans (by decide) hF)
    exact h
  try clear_value y1
  refine when_leaves ?_ fun z2 h2 => ?_
  · exact h1
  · refine later_leaves ?_ (Foot.le_trans (by decide) hF)
    exact h2

theorem rearmUndo_leaves {F : Foot} {a₀ : State} {s : State} {p : Nat} {t : Tick} (h : F.leaves a₀ s) (hF : Foot.le ⟨0x10000, [0x8000], [.rcd]⟩ F = true) (r0 : F.covers (0x4000 + p)) :
    F.leaves a₀ (rearmUndo s p t) := by
  unfold rearmUndo
  refine Foot.ite_leaves ?_ ?_
  · refine jPort_leaves ?_ (Foot.le_trans (by decide) hF)
    refine setBits_leaves ?_ (Foot.rec_key r0)
    exact h
  · exact h

theorem trip_leaves {F : Foot} {a₀ : State} {s : State} {p : Nat} {mask : Nat} {t : Tick} {gen : Nat} (h : F.leaves a₀ s) (hF : Foot.le ⟨0x5000, [0x1220, 0x1221, 0x1222, 0x1223], [.ports, .micro, .fab, .net, .pcie, .rcd, .tx]⟩ F = true) (r0 : F.covers (0x4000 + p)) :
    F.leaves a₀ (trip s p mask t gen) := by
  unfold trip
  extract_lets +onlyGivenNames -merge -useContext -underBinder y0
  have h0 : F.leaves a₀ y0 := by
    refine rearmUndo_leaves ?_ (Foot.le_trans (by decide) hF) r0
    exact h
  try clear_value y0
  refine Foot.ite_leaves ?_ ?_
  · refine set_leaves ?_ (Foot.rec_key r0)
    exact h0
  · extract_lets +onlyGivenNames -merge -useContext -underBinder y1
    extract_lets +onlyGivenNames -merge -useContext -underBinder y2
    have h2 : F.leaves a₀ y2 := by
      refine modPgen_leaves ?_ (Foot.le_trans (by decide) hF)
      exact h0
    try clear_value y2
    extract_lets +onlyGivenNames -merge -useContext -underBinder y3
    try clear_value y3
    extract_lets +onlyGivenNames -merge -useContext -underBinder y4
    try clear_value y4
    extract_lets +onlyGivenNames -merge -useContext -underBinder y5
    have h5 : F.leaves a₀ y5 := by
      refine set_leaves ?_ (Foot.rec_key r0)
      refine set_leaves ?_ (Foot.rec_key r0)
      exact h2
    try clear_value y5
    extract_lets +onlyGivenNames -merge -useContext -underBinder y6
    have h6 : F.leaves a₀ y6 := by
      refine satInc_leaves ?_ (Foot.rec_key r0)
      exact h5
    try clear_value y6
    extract_lets +onlyGivenNames -merge -useContext -underBinder y7
    have h7 : F.leaves a₀ y7 := by
      refine setBits_leaves ?_ (Foot.rec_key r0)
      exact h6
    try clear_value y7
    extract_lets +onlyGivenNames -merge -useContext -underBinder y8
    have h8 : F.leaves a₀ y8 := by
      refine when_leaves ?_ fun z9 h9 => ?_
      · exact h7
      · refine abortTrain_leaves ?_ (Foot.le_trans (by decide) hF)
        exact h9
    try clear_value y8
    extract_lets +onlyGivenNames -merge -useContext -underBinder y10
    have h10 : F.leaves a₀ y10 := by
      refine when_leaves ?_ fun z11 h11 => ?_
      · exact h8
      · refine modPgen_leaves ?_ (Foot.le_trans (by decide) hF)
        exact h11
    try clear_value y10
    extract_lets +onlyGivenNames -merge -useContext -underBinder y12
    have h12 : F.leaves a₀ y12 := by
      refine seqOnTrip_leaves ?_ (Foot.le_trans (by decide) hF)
      exact h10
    try clear_value y12
    extract_lets +onlyGivenNames -merge -useContext -underBinder y13
    have h13 : F.leaves a₀ y13 := by
      refine modPx_leaves ?_ (Foot.le_trans (by decide) hF)
      exact h12
    try clear_value y13
    extract_lets +onlyGivenNames -merge -useContext -underBinder y14
    have h14 : F.leaves a₀ y14 := by
      refine jPort_leaves ?_ (Foot.le_trans (by decide) hF)
      exact h13
    try clear_value y14
    extract_lets +onlyGivenNames -merge -useContext -underBinder y15
    have h15 : F.leaves a₀ y15 := by
      refine produce_leaves ?_ (Foot.le_trans (by decide) hF)
      exact h14
    try clear_value y15
    refine syncPort_leaves ?_ (Foot.le_trans (by decide) hF) r0
    exact h15

theorem tripLevels_leaves {F : Foot} {a₀ : State} {s : State} {p : Nat} {t : Tick} (h : F.leaves a₀ s) (hF : Foot.le ⟨0x5000, [0x1220, 0x1221, 0x1222, 0x1223], [.ports, .micro, .fab, .net, .pcie, .rcd, .tx]⟩ F = true) (r0 : F.covers (0x4000 + p)) :
    F.leaves a₀ (tripLevels s p t) := by
  unfold tripLevels
  extract_lets +onlyGivenNames -merge -useContext -underBinder y0
  extract_lets +onlyGivenNames -merge -useContext -underBinder y1
  extract_lets +onlyGivenNames -merge -useContext -underBinder y2
  have h2 : F.leaves a₀ y2 := by
    refine modPgen_leaves ?_ (Foot.le_trans (by decide) hF)
    exact h
  try clear_value y2
  refine Foot.ite_leaves ?_ ?_
  · refine Foot.ite_leaves ?_ ?_
    · exact h2
    · refine trip_leaves ?_ (Foot.le_trans (by decide) hF) r0
      exact h2
  · refine Foot.ite_leaves ?_ ?_
    · exact h2
    · refine trip_leaves ?_ (Foot.le_trans (by decide) hF) r0
      exact h2

theorem rearm_leaves {F : Foot} {a₀ : State} {s : State} {p : Nat} {t : Tick} (h : F.leaves a₀ s) (hF : Foot.le ⟨0x10000, [0x8000], [.ports, .rcd, .tx]⟩ F = true) (r0 : F.covers (0x4000 + p)) :
    F.leaves a₀ (rearm s p t) := by
  unfold rearm
  refine Foot.ite_leaves ?_ ?_
  · extract_lets +onlyGivenNames -merge -useContext -underBinder y0
    have h0 : F.leaves a₀ y0 := by
      refine modLoopY_leaves ?_ (Foot.le_trans (by decide) hF)
      refine setBit_leaves ?_ (Foot.rec_key r0)
      exact h
    try clear_value y0
    extract_lets +onlyGivenNames -merge -useContext -underBinder y1
    have h1 : F.leaves a₀ y1 := by
      refine modPgen_leaves ?_ (Foot.le_trans (by decide) hF)
      exact h0
    try clear_value y1
    refine syncPort_leaves ?_ (Foot.le_trans (by decide) hF) r0
    refine jPort_leaves ?_ (Foot.le_trans (by decide) hF)
    exact h1
  · exact h

theorem trainDone_leaves {F : Foot} {a₀ : State} {s : State} {p : Nat} {e : Tick} (h : F.leaves a₀ s) (hF : Foot.le ⟨0x5000, [0x1220, 0x1221, 0x1222, 0x1223], [.ports, .fab, .net, .pcie, .rcd, .tx]⟩ F = true) (r0 : F.covers (0x4000 + p)) :
    F.leaves a₀ (trainDone s p e) := by
  unfold trainDone
  split
  · exact h
  · extract_lets +onlyGivenNames -merge -useContext -underBinder y0
    have h0 : F.leaves a₀ y0 := by
      refine modPgen_leaves ?_ (Foot.le_trans (by decide) hF)
      exact h
    try clear_value y0
    extract_lets +onlyGivenNames -merge -useContext -underBinder y1
    have h1 : F.leaves a₀ y1 := by
      refine produce_leaves ?_ (Foot.le_trans (by decide) hF)
      refine jPort_leaves ?_ (Foot.le_trans (by decide) hF)
      exact h0
    try clear_value y1
    refine syncPort_leaves ?_ (Foot.le_trans (by decide) hF) r0
    refine seqPulseDone_leaves ?_ (Foot.le_trans (by decide) hF)
    exact h1

theorem trainCutAt_leaves {F : Foot} {a₀ : State} {s : State} {p : Nat} {S' : Tick} (h : F.leaves a₀ s) (hF : Foot.le ⟨0x10000, [], [.ports, .micro]⟩ F = true) :
    F.leaves a₀ (trainCutAt s p S') := by
  unfold trainCutAt
  refine later_leaves ?_ (Foot.le_trans (by decide) hF)
  refine modPgen_leaves ?_ (Foot.le_trans (by decide) hF)
  exact h

theorem scheduleGate_leaves {F : Foot} {a₀ : State} {s : State} {p : Nat} {e : Tick} {lvl : Bool} (h : F.leaves a₀ s) (hF : Foot.le ⟨0x10000, [], [.ports]⟩ F = true) :
    F.leaves a₀ (scheduleGate s p e lvl) := by
  unfold scheduleGate
  refine Foot.ite_leaves ?_ ?_
  · refine modPgen_leaves ?_ (Foot.le_trans (by decide) hF)
    exact h
  · refine modPgen_leaves ?_ (Foot.le_trans (by decide) hF)
    exact h

theorem pulseRise_leaves {F : Foot} {a₀ : State} {s : State} {p : Nat} {tr : Train} {e : Tick} (h : F.leaves a₀ s) (hF : Foot.le ⟨0x5000, [0x1220, 0x1221, 0x1222, 0x1223], [.ports, .fab, .net, .pcie, .rcd, .tx]⟩ F = true) (r0 : F.covers (0x4000 + p)) :
    F.leaves a₀ (pulseRise s p tr e) := by
  unfold pulseRise
  extract_lets +onlyGivenNames -merge -useContext -underBinder y0
  have h0 : F.leaves a₀ y0 := by
    refine modPgen_leaves ?_ (Foot.le_trans (by decide) hF)
    exact h
  try clear_value y0
  extract_lets +onlyGivenNames -merge -useContext -underBinder y1
  have h1 : F.leaves a₀ y1 := by
    refine scheduleGate_leaves ?_ (Foot.le_trans (by decide) hF)
    refine set_leaves ?_ (Foot.rec_key r0)
    exact h0
  try clear_value y1
  refine syncPort_leaves ?_ (Foot.le_trans (by decide) hF) r0
  refine produce_leaves ?_ (Foot.le_trans (by decide) hF)
  exact h1

theorem pulseFall_leaves {F : Foot} {a₀ : State} {s : State} {p : Nat} {tr : Train} {e : Tick} (h : F.leaves a₀ s) (hF : Foot.le ⟨0x5000, [0x1220, 0x1221, 0x1222, 0x1223], [.ports, .fab, .net, .pcie, .rcd, .tx]⟩ F = true) (r0 : F.covers (0x4000 + p)) :
    F.leaves a₀ (pulseFall s p tr e) := by
  unfold pulseFall
  extract_lets +onlyGivenNames -merge -useContext -underBinder y0
  have h0 : F.leaves a₀ y0 := by
    refine modPgen_leaves ?_ (Foot.le_trans (by decide) hF)
    exact h
  try clear_value y0
  extract_lets +onlyGivenNames -merge -useContext -underBinder y1
  have h1 : F.leaves a₀ y1 := by
    refine produce_leaves ?_ (Foot.le_trans (by decide) hF)
    refine scheduleGate_leaves ?_ (Foot.le_trans (by decide) hF)
    exact h0
  try clear_value y1
  extract_lets +onlyGivenNames -merge -useContext -underBinder y2
  try clear_value y2
  refine Foot.ite_leaves ?_ ?_
  · refine trainDone_leaves ?_ (Foot.le_trans (by decide) hF) r0
    exact h1
  · refine syncPort_leaves ?_ (Foot.le_trans (by decide) hF) r0
    exact h1

theorem trainCut_leaves {F : Foot} {a₀ : State} {s : State} {p : Nat} {e : Tick} (h : F.leaves a₀ s) (hF : Foot.le ⟨0x5000, [0x1220, 0x1221, 0x1222, 0x1223], [.ports, .fab, .net, .pcie, .rcd, .tx]⟩ F = true) (r0 : F.covers (0x4000 + p)) :
    F.leaves a₀ (trainCut s p e) := by
  unfold trainCut
  split
  · refine Foot.ite_leaves ?_ ?_
    · extract_lets +onlyGivenNames -merge -useContext -underBinder y0
      have h0 : F.leaves a₀ y0 := by
        refine Foot.ite_leaves ?_ ?_
        · refine produce_leaves ?_ (Foot.le_trans (by decide) hF)
          refine scheduleGate_leaves ?_ (Foot.le_trans (by decide) hF)
          refine modPgen_leaves ?_ (Foot.le_trans (by decide) hF)
          exact h
        · exact h
      try clear_value y0
      refine trainDone_leaves ?_ (Foot.le_trans (by decide) hF) r0
      exact h0
    · exact h
  · exact h

theorem trainEnd_leaves {F : Foot} {a₀ : State} {s : State} {p : Nat} {t : Tick} (h : F.leaves a₀ s) (hF : Foot.le ⟨0x5000, [0x1220, 0x1221, 0x1222, 0x1223], [.ports, .fab, .net, .pcie, .rcd, .tx]⟩ F = true) (r0 : F.covers (0x4000 + p)) :
    F.leaves a₀ (trainEnd s p t) := by
  unfold trainEnd
  refine Foot.ite_leaves ?_ ?_
  · split
    · split
      · refine trainCut_leaves ?_ (Foot.le_trans (by decide) hF) r0
        exact h
      · split
        · refine pulseFall_leaves ?_ (Foot.le_trans (by decide) hF) r0
          exact h
        · exact h
    · exact h
  · exact h

theorem trainStart_leaves {F : Foot} {a₀ : State} {s : State} {p : Nat} {S : Tick} {gen : Nat} (h : F.leaves a₀ s) (hF : Foot.le ⟨0x5000, [0x1220, 0x1221, 0x1222, 0x1223], [.ports, .fab, .net, .pcie, .rcd, .tx]⟩ F = true) (r0 : F.covers (0x4000 + p)) :
    F.leaves a₀ (trainStart s p S gen) := by
  unfold trainStart
  extract_lets +onlyGivenNames -merge -useContext -underBinder y0
  have h0 : F.leaves a₀ y0 := by
    refine trainEnd_leaves ?_ (Foot.le_trans (by decide) hF) r0
    exact h
  try clear_value y0
  extract_lets +onlyGivenNames -merge -useContext -underBinder y1
  try clear_value y1
  extract_lets +onlyGivenNames -merge -useContext -underBinder y2
  try clear_value y2
  extract_lets +onlyGivenNames -merge -useContext -underBinder y3
  have h3 : F.leaves a₀ y3 := by
    refine set_leaves ?_ (Foot.rec_key r0)
    refine modPgen_leaves ?_ (Foot.le_trans (by decide) hF)
    exact h0
  try clear_value y3
  refine syncPort_leaves ?_ (Foot.le_trans (by decide) hF) r0
  refine jPort_leaves ?_ (Foot.le_trans (by decide) hF)
  exact h3

theorem startOverrun_leaves {F : Foot} {a₀ : State} {s : State} {p : Nat} {S : Tick} {l : List (Nat × Nat)} (h : F.leaves a₀ s) (hF : Foot.le ⟨0x5000, [], [.ports]⟩ F = true) (r0 : F.covers (0x4000 + p)) :
    F.leaves a₀ (startOverrun s p S l) := by
  unfold startOverrun
  extract_lets +onlyGivenNames -merge -useContext -underBinder y0
  try clear_value y0
  extract_lets +onlyGivenNames -merge -useContext -underBinder y1
  try clear_value y1
  extract_lets +onlyGivenNames -merge -useContext -underBinder y2
  have h2 : F.leaves a₀ y2 := by
    refine Foot.foldl_leaves ?_ fun z3 i3 h3 => ?_
    · exact h
    · refine setBit_leaves ?_ (Foot.rec_key (Foot.rec_floor hF (by decide)))
      exact h3
  try clear_value y2
  refine setBit_leaves ?_ (Foot.rec_key r0)
  refine modPgen_leaves ?_ (Foot.le_trans (by decide) hF)
  exact h2

theorem eventStart_leaves {F : Foot} {a₀ : State} {s : State} {p : Nat} {S : Tick} {gen : Nat} {l : List (Nat × Nat)} (h : F.leaves a₀ s) (hF : Foot.le ⟨0x5000, [0x1220, 0x1221, 0x1222, 0x1223], [.ports, .fab, .net, .pcie, .rcd, .tx]⟩ F = true) (r0 : F.covers (0x4000 + p)) :
    F.leaves a₀ (eventStart s p S gen l).1 := by
  unfold eventStart
  split
  · split
    · exact h
    · dsimp only
      refine trainStart_leaves ?_ (Foot.le_trans (by decide) hF) r0
      exact h
  · split
    · exact h
    · dsimp only
      refine startOverrun_leaves ?_ (Foot.le_trans (by decide) hF) r0
      exact h
  · dsimp only
    refine setBit_leaves ?_ (Foot.rec_key r0)
    exact h

theorem startVoid_leaves {F : Foot} {a₀ : State} {s : State} {p : Nat} {S' : Tick} (h : F.leaves a₀ s) (hF : Foot.le ⟨0x5000, [], [.ports, .rcd]⟩ F = true) (r0 : F.covers (0x4000 + p)) :
    F.leaves a₀ (startVoid s p S') := by
  unfold startVoid
  split
  · refine Foot.ite_leaves ?_ ?_
    · exact h
    · extract_lets +onlyGivenNames -merge -useContext -underBinder y0
      have h0 : F.leaves a₀ y0 := by
        refine modPgen_leaves ?_ (Foot.le_trans (by decide) hF)
        exact h
      try clear_value y0
      refine Foot.ite_leaves ?_ ?_
      · refine seqStartVoid_leaves ?_ (Foot.le_trans (by decide) hF)
        refine jPort_leaves ?_ (Foot.le_trans (by decide) hF)
        refine set_leaves ?_ (Foot.rec_key r0)
        exact h0
      · refine when_leaves ?_ fun z1 h1 => ?_
        · refine Foot.foldl_leaves ?_ fun z2 i2 h2 => ?_
          · exact h0
          · refine setBit_leaves ?_ (Foot.rec_key (Foot.rec_floor hF (by decide)))
            exact h2
        · refine setBit_leaves ?_ (Foot.rec_key r0)
          exact h1
  · exact h

theorem trainStop_leaves {F : Foot} {a₀ : State} {s : State} {p : Nat} {mode1 : Bool} {S' : Tick} (h : F.leaves a₀ s) (hF : Foot.le ⟨0x5000, [], [.ports, .micro, .rcd, .tx]⟩ F = true) (r0 : F.covers (0x4000 + p)) :
    F.leaves a₀ (trainStop s p mode1 S') := by
  unfold trainStop
  extract_lets +onlyGivenNames -merge -useContext -underBinder y0
  have h0 : F.leaves a₀ y0 := by
    refine modPgen_leaves ?_ (Foot.le_trans (by decide) hF)
    refine startVoid_leaves ?_ (Foot.le_trans (by decide) hF) r0
    exact h
  try clear_value y0
  split
  · exact h0
  · refine Foot.ite_leaves ?_ ?_
    · exact h0
    · refine Foot.ite_leaves ?_ ?_
      · refine syncPort_leaves ?_ (Foot.le_trans (by decide) hF) r0
        refine trainCutAt_leaves ?_ (Foot.le_trans (by decide) hF)
        exact h0
      · refine syncPort_leaves ?_ (Foot.le_trans (by decide) hF) r0
        refine modPgen_leaves ?_ (Foot.le_trans (by decide) hF)
        exact h0

theorem modCmp_leaves {F : Foot} {a₀ : State} {s : State} {p : Nat} {v : Bool} {f : Cmp → Cmp} (h : F.leaves a₀ s) (hF : Foot.le ⟨0x10000, [], [.ports]⟩ F = true) :
    F.leaves a₀ (modCmp s p v f) := by
  unfold modCmp
  refine modPx_leaves ?_ (Foot.le_trans (by decide) hF)
  exact h

theorem note_leaves {F : Foot} {a₀ : State} {s : State} {i : Nat} {kind : Nat} {t : Tick} (h : F.leaves a₀ s) (hF : Foot.le ⟨0x10000, [], [.slices]⟩ F = true) :
    F.leaves a₀ (note s i kind t) := by
  unfold note
  refine modSx_leaves ?_ (Foot.le_trans (by decide) hF)
  exact h

theorem cmpTake_leaves {F : Foot} {a₀ : State} {s : State} {p : Nat} {i : Nat} (h : F.leaves a₀ s) (hF : Foot.le ⟨0x10000, [], [.ports, .slices]⟩ F = true) :
    F.leaves a₀ (cmpTake s p i) := by
  unfold cmpTake
  extract_lets +onlyGivenNames -merge -useContext -underBinder y0
  try clear_value y0
  extract_lets +onlyGivenNames -merge -useContext -underBinder y1
  have h1 : F.leaves a₀ y1 := by
    refine modPx_leaves ?_ (Foot.le_trans (by decide) hF)
    exact h
  try clear_value y1
  refine modSx_leaves ?_ (Foot.le_trans (by decide) hF)
  refine modPgen_leaves ?_ (Foot.le_trans (by decide) hF)
  exact h1

theorem modCmpAt_leaves {F : Foot} {a₀ : State} {s : State} {i : Nat} {v : Bool} {f : Cmp → Cmp} (h : F.leaves a₀ s) (hF : Foot.le ⟨0x10000, [], [.slices]⟩ F = true) :
    F.leaves a₀ (modCmpAt s i v f) := by
  unfold modCmpAt
  refine modSx_leaves ?_ (Foot.le_trans (by decide) hF)
  exact h

theorem cmpShadow_leaves {F : Foot} {a₀ : State} {s : State} {p : Nat} {i : Nat} {t : Tick} (h : F.leaves a₀ s) (hF : Foot.le ⟨0x10000, [], [.slices]⟩ F = true) :
    F.leaves a₀ (cmpShadow s p i t) := by
  unfold cmpShadow
  refine modCmpAt_leaves ?_ (Foot.le_trans (by decide) hF)
  refine modCmpAt_leaves ?_ (Foot.le_trans (by decide) hF)
  exact h

theorem cmpStart_leaves {F : Foot} {a₀ : State} {s : State} {p : Nat} {v : Bool} {mode : Nat} {t : Tick} (h : F.leaves a₀ s) (hF : Foot.le ⟨0x10000, [], [.ports, .slices]⟩ F = true) (r0 : F.covers (0x4000 + p)) :
    F.leaves a₀ (cmpStart s p v mode t) := by
  unfold cmpStart
  extract_lets +onlyGivenNames -merge -useContext -underBinder y0
  have h0 : F.leaves a₀ y0 := by
    refine modCmp_leaves ?_ (Foot.le_trans (by decide) hF)
    refine set_leaves ?_ (Foot.rec_cmpActiveKey r0)
    exact h
  try clear_value y0
  extract_lets +onlyGivenNames -merge -useContext -underBinder y1
  have h1 : F.leaves a₀ y1 := by
    refine modPgen_leaves ?_ (Foot.le_trans (by decide) hF)
    exact h0
  try clear_value y1
  split
  · refine modCmpAt_leaves ?_ (Foot.le_trans (by decide) hF)
    exact h1
  · exact h1

theorem cmpPower_leaves {F : Foot} {a₀ : State} {s : State} {p : Nat} {t : Tick} (h : F.leaves a₀ s) (hF : Foot.le ⟨0x10000, [0x8000], [.ports, .slices, .rcd, .tx]⟩ F = true) (r0 : F.covers (0x4000 + p)) :
    F.leaves a₀ (cmpPower s p t) := by
  unfold cmpPower
  refine syncPort_leaves ?_ (Foot.le_trans (by decide) hF) r0
  refine loadThresholds_leaves ?_ (Foot.le_trans (by decide) hF) r0
  refine cmpStart_leaves ?_ (Foot.le_trans (by decide) hF) r0
  refine cmpStart_leaves ?_ (Foot.le_trans (by decide) hF) r0
  exact h

theorem cmpUnpower_leaves {F : Foot} {a₀ : State} {s : State} {p : Nat} (h : F.leaves a₀ s) (hF : Foot.le ⟨0x10000, [], [.ports, .slices]⟩ F = true) (r0 : F.covers (0x4000 + p)) :
    F.leaves a₀ (cmpUnpower s p) := by
  unfold cmpUnpower
  extract_lets +onlyGivenNames -merge -useContext -underBinder y0
  have h0 : F.leaves a₀ y0 := by
    refine modPx_leaves ?_ (Foot.le_trans (by decide) hF)
    refine set_leaves ?_ (Foot.rec_key r0)
    refine set_leaves ?_ (Foot.rec_key r0)
    exact h
  try clear_value y0
  extract_lets +onlyGivenNames -merge -useContext -underBinder y1
  have h1 : F.leaves a₀ y1 := by
    unfold y1
    split
    · refine modSx_leaves ?_ (Foot.le_trans (by decide) hF)
      exact h0
    · exact h0
  try clear_value y1
  refine setBits_leaves ?_ (Foot.rec_key r0)
  exact h1

theorem cmpModeChange_leaves {F : Foot} {a₀ : State} {s : State} {p : Nat} {v : Bool} {t : Tick} (h : F.leaves a₀ s) (hF : Foot.le ⟨0x10000, [], [.ports, .slices]⟩ F = true) (r0 : F.covers (0x4000 + p)) :
    F.leaves a₀ (cmpModeChange s p v t) := by
  unfold cmpModeChange
  extract_lets +onlyGivenNames -merge -useContext -underBinder y0
  refine Foot.ite_leaves ?_ ?_
  · exact h
  · refine Foot.ite_leaves ?_ ?_
    · refine setBit_leaves ?_ (Foot.rec_key r0)
      exact h
    · refine Foot.ite_leaves ?_ ?_
      · exact h
      · refine cmpStart_leaves ?_ (Foot.le_trans (by decide) hF) r0
        exact h

theorem cmpExit_leaves {F : Foot} {a₀ : State} {s : State} {p : Nat} {v : Bool} {t : Tick} (h : F.leaves a₀ s) (hF : Foot.le ⟨0x5000, [0x1220, 0x1221, 0x1222, 0x1223], [.fab, .net, .pcie, .rcd]⟩ F = true) (r0 : F.covers (0x4000 + p)) :
    F.leaves a₀ (cmpExit s p v t) := by
  unfold cmpExit
  refine produce_leaves ?_ (Foot.le_trans (by decide) hF)
  refine setBit_leaves ?_ (Foot.rec_key r0)
  exact h

theorem cmpEnter_leaves {F : Foot} {a₀ : State} {s : State} {p : Nat} {v : Bool} {t : Tick} (h : F.leaves a₀ s) (hF : Foot.le ⟨0x5000, [0x1220, 0x1221, 0x1222, 0x1223], [.fab, .net, .pcie, .rcd]⟩ F = true) :
    F.leaves a₀ (cmpEnter s p v t) := by
  unfold cmpEnter
  refine produce_leaves ?_ (Foot.le_trans (by decide) hF)
  exact h

theorem cmpMove_leaves {F : Foot} {a₀ : State} {s : State} {p : Nat} {v : Bool} {dst : Nat} {t : Tick} (h : F.leaves a₀ s) (hF : Foot.le ⟨0x5000, [0x1220, 0x1221, 0x1222, 0x1223], [.ports, .micro, .fab, .net, .pcie, .rcd, .tx]⟩ F = true) (r0 : F.covers (0x4000 + p)) :
    F.leaves a₀ (cmpMove s p v dst t) := by
  unfold cmpMove
  extract_lets +onlyGivenNames -merge -useContext -underBinder y0
  refine Foot.ite_leaves ?_ ?_
  · exact h
  · extract_lets +onlyGivenNames -merge -useContext -underBinder y1
    have h1 : F.leaves a₀ y1 := by
      refine modCmp_leaves ?_ (Foot.le_trans (by decide) hF)
      exact h
    try clear_value y1
    extract_lets +onlyGivenNames -merge -useContext -underBinder y2
    have h2 : F.leaves a₀ y2 := by
      refine when_leaves ?_ fun z3 h3 => ?_
      · exact h1
      · refine cmpEnter_leaves ?_ (Foot.le_trans (by decide) hF)
        exact h3
    try clear_value y2
    extract_lets +onlyGivenNames -merge -useContext -underBinder y4
    have h4 : F.leaves a₀ y4 := by
      refine when_leaves ?_ fun z5 h5 => ?_
      · exact h2
      · refine cmpExit_leaves ?_ (Foot.le_trans (by decide) hF) r0
        exact h5
    try clear_value y4
    refine syncPort_leaves ?_ (Foot.le_trans (by decide) hF) r0
    refine tripLevels_leaves ?_ (Foot.le_trans (by decide) hF) r0
    exact h4

theorem cmpDecide_leaves {F : Foot} {a₀ : State} {s : State} {p : Nat} {v : Bool} {dst : Nat} {event : Bool} {t : Tick} (h : F.leaves a₀ s) (hF : Foot.le ⟨0x5000, [0x1220, 0x1221, 0x1222, 0x1223], [.ports, .micro, .fab, .net, .pcie, .rcd, .tx]⟩ F = true) (r0 : F.covers (0x4000 + p)) :
    F.leaves a₀ (cmpDecide s p v dst event t) := by
  unfold cmpDecide
  extract_lets +onlyGivenNames -merge -useContext -underBinder y0
  have h0 : F.leaves a₀ y0 := by
    refine modCmp_leaves ?_ (Foot.le_trans (by decide) hF)
    exact h
  try clear_value y0
  extract_lets +onlyGivenNames -merge -useContext -underBinder y1
  have h1 : F.leaves a₀ y1 := by
    refine when_leaves ?_ fun z2 h2 => ?_
    · exact h0
    · refine cmpExit_leaves ?_ (Foot.le_trans (by decide) hF) r0
      exact h2
  try clear_value y1
  refine syncPort_leaves ?_ (Foot.le_trans (by decide) hF) r0
  refine tripLevels_leaves ?_ (Foot.le_trans (by decide) hF) r0
  exact h1

/-! ### LoopCore -/

theorem modelReset_leaves {F : Foot} {a₀ : State} {s : State} {p : Nat} (h : F.leaves a₀ s) (hF : Foot.le ⟨0x10000, [], [.ports]⟩ F = true) (r0 : F.covers (0x4000 + p)) :
    F.leaves a₀ (modelReset s p) := by
  unfold modelReset
  extract_lets +onlyGivenNames -merge -useContext -underBinder y0
  try clear_value y0
  refine modLoop_leaves ?_ (Foot.le_trans (by decide) hF)
  refine set_leaves ?_ (Foot.rec_key r0)
  refine set_leaves ?_ (Foot.rec_key r0)
  exact h

theorem coldStart_leaves {F : Foot} {a₀ : State} {s : State} {p : Nat} (h : F.leaves a₀ s) (hF : Foot.le ⟨0x10000, [], [.ports]⟩ F = true) (r0 : F.covers (0x4000 + p)) :
    F.leaves a₀ (coldStart s p) := by
  unfold coldStart
  extract_lets +onlyGivenNames -merge -useContext -underBinder y0
  try clear_value y0
  extract_lets +onlyGivenNames -merge -useContext -underBinder y1
  have h1 : F.leaves a₀ y1 := by
    refine modLoop_leaves ?_ (Foot.le_trans (by decide) hF)
    exact h
  try clear_value y1
  extract_lets +onlyGivenNames -merge -useContext -underBinder y2
  have h2 : F.leaves a₀ y2 := by
    refine modelReset_leaves ?_ (Foot.le_trans (by decide) hF) r0
    exact h1
  try clear_value y2
  extract_lets +onlyGivenNames -merge -useContext -underBinder y3
  try clear_value y3
  extract_lets +onlyGivenNames -merge -useContext -underBinder y4
  try clear_value y4
  extract_lets +onlyGivenNames -merge -useContext -underBinder y5
  try clear_value y5
  extract_lets +onlyGivenNames -merge -useContext -underBinder y6
  try clear_value y6
  extract_lets +onlyGivenNames -merge -useContext -underBinder y7
  have h7 : F.leaves a₀ y7 := by
    refine modLoop_leaves ?_ (Foot.le_trans (by decide) hF)
    exact h2
  try clear_value y7
  extract_lets +onlyGivenNames -merge -useContext -underBinder y8
  have h8 : F.leaves a₀ y8 := by
    refine modLoopY_leaves ?_ (Foot.le_trans (by decide) hF)
    exact h7
  try clear_value y8
  refine setI_leaves ?_ (Foot.rec_key r0)
  refine setI_leaves ?_ (Foot.rec_key r0)
  exact h8

theorem reloadPending_leaves {F : Foot} {a₀ : State} {s : State} {p : Nat} (h : F.leaves a₀ s) (hF : Foot.le ⟨0x10000, [], [.ports]⟩ F = true) :
    F.leaves a₀ (reloadPending s p) := by
  unfold reloadPending
  extract_lets +onlyGivenNames -merge -useContext -underBinder y0
  try clear_value y0
  extract_lets +onlyGivenNames -merge -useContext -underBinder y1
  try clear_value y1
  extract_lets +onlyGivenNames -merge -useContext -underBinder y2
  refine modForce_leaves ?_ (Foot.le_trans (by decide) hF)
  exact h

theorem modelUpdate_leaves {F : Foot} {a₀ : State} {s : State} {p : Nat} (h : F.leaves a₀ s) (hF : Foot.le ⟨0x10000, [], [.ports]⟩ F = true) (r0 : F.covers (0x4000 + p)) :
    F.leaves a₀ (modelUpdate s p) := by
  unfold modelUpdate
  extract_lets +onlyGivenNames -merge -useContext -underBinder y0
  try clear_value y0
  extract_lets +onlyGivenNames -merge -useContext -underBinder y1
  extract_lets +onlyGivenNames -merge -useContext -underBinder y2
  try clear_value y2
  extract_lets +onlyGivenNames -merge -useContext -underBinder y3
  try clear_value y3
  extract_lets +onlyGivenNames -merge -useContext -underBinder y4
  try clear_value y4
  extract_lets +onlyGivenNames -merge -useContext -underBinder y5
  try clear_value y5
  extract_lets +onlyGivenNames -merge -useContext -underBinder y6
  try clear_value y6
  extract_lets +onlyGivenNames -merge -useContext -underBinder y7
  try clear_value y7
  extract_lets +onlyGivenNames -merge -useContext -underBinder y8
  have h8 : F.leaves a₀ y8 := by
    refine modLoop_leaves ?_ (Foot.le_trans (by decide) hF)
    exact h
  try clear_value y8
  extract_lets +onlyGivenNames -merge -useContext -underBinder y9
  try clear_value y9
  refine Foot.ite_leaves ?_ ?_
  · extract_lets +onlyGivenNames -merge -useContext -underBinder y10
    try clear_value y10
    extract_lets +onlyGivenNames -merge -useContext -underBinder y11
    try clear_value y11
    extract_lets +onlyGivenNames -merge -useContext -underBinder y12
    try clear_value y12
    extract_lets +onlyGivenNames -merge -useContext -underBinder y13
    try clear_value y13
    extract_lets +onlyGivenNames -merge -useContext -underBinder y14
    try clear_value y14
    extract_lets +onlyGivenNames -merge -useContext -underBinder y15
    try clear_value y15
    extract_lets +onlyGivenNames -merge -useContext -underBinder y16
    have h16 : F.leaves a₀ y16 := by
      refine setI_leaves ?_ (Foot.rec_key r0)
      refine setI_leaves ?_ (Foot.rec_key r0)
      exact h8
    try clear_value y16
    refine when_leaves ?_ fun z17 h17 => ?_
    · refine setBit_leaves ?_ (Foot.rec_key r0)
      exact h16
    · refine setBit_leaves ?_ (Foot.rec_key r0)
      exact h17
  · refine setBit_leaves ?_ (Foot.rec_key r0)
    exact h8

/-! ### RangeOps -/

theorem openWin_leaves {F : Foot} {a₀ : State} {s : State} {p : Nat} {o : Tick} {spec : Nat} {ctx : Nat} (h : F.leaves a₀ s) (hF : Foot.le ⟨0x10000, [], [.ports]⟩ F = true) (r0 : F.covers (0x4000 + p)) :
    F.leaves a₀ (openWin s p o spec ctx) := by
  unfold openWin
  extract_lets +onlyGivenNames -merge -useContext -underBinder y0
  extract_lets +onlyGivenNames -merge -useContext -underBinder y1
  try clear_value y1
  refine set_leaves ?_ (Foot.rec_key r0)
  refine modMeas_leaves ?_ (Foot.le_trans (by decide) hF)
  exact h

theorem openFree_leaves {F : Foot} {a₀ : State} {s : State} {p : Nat} {t : Tick} (h : F.leaves a₀ s) (hF : Foot.le ⟨0x10000, [], [.ports, .micro]⟩ F = true) (r0 : F.covers (0x4000 + p)) :
    F.leaves a₀ (openFree s p t) := by
  unfold openFree
  refine Foot.ite_leaves ?_ ?_
  · exact h
  · refine Foot.ite_leaves ?_ ?_
    · refine openWin_leaves ?_ (Foot.le_trans (by decide) hF) r0
      exact h
    · refine later_leaves ?_ (Foot.le_trans (by decide) hF)
      refine modMeas_leaves ?_ (Foot.le_trans (by decide) hF)
      exact h

theorem openDue_leaves {F : Foot} {a₀ : State} {s : State} {p : Nat} {t : Tick} (h : F.leaves a₀ s) (hF : Foot.le ⟨0x10000, [], [.ports, .micro]⟩ F = true) (r0 : F.covers (0x4000 + p)) :
    F.leaves a₀ (openDue s p t) := by
  unfold openDue
  refine Foot.ite_leaves ?_ ?_
  · refine openFree_leaves ?_ (Foot.le_trans (by decide) hF) r0
    refine modMeas_leaves ?_ (Foot.le_trans (by decide) hF)
    exact h
  · exact h

theorem syncSought_leaves {F : Foot} {a₀ : State} {s : State} {p : Nat} (h : F.leaves a₀ s) (hF : Foot.le ⟨0x10000, [], []⟩ F = true) (r0 : F.covers (0x4000 + p)) :
    F.leaves a₀ (syncSought s p) := by
  unfold syncSought
  extract_lets +onlyGivenNames -merge -useContext -underBinder y0
  try clear_value y0
  refine setBits_leaves ?_ (Foot.rec_key r0)
  exact h

theorem rngEvent_leaves {F : Foot} {a₀ : State} {s : State} {p : Nat} (h : F.leaves a₀ s) (hF : Foot.le ⟨0x10000, [], []⟩ F = true) (r0 : F.covers (0x4000 + p)) :
    F.leaves a₀ (rngEvent s p) := by
  unfold rngEvent
  refine Foot.ite_leaves ?_ ?_
  · refine setBit_leaves ?_ (Foot.rec_key r0)
    exact h
  · exact h

theorem rangeRules_leaves {F : Foot} {a₀ : State} {s : State} {p : Nat} (h : F.leaves a₀ s) (hF : Foot.le ⟨0x10000, [], [.ports]⟩ F = true) :
    F.leaves a₀ (rangeRules s p) := by
  unfold rangeRules
  extract_lets +onlyGivenNames -merge -useContext -underBinder y0
  try clear_value y0
  extract_lets +onlyGivenNames -merge -useContext -underBinder y1
  try clear_value y1
  extract_lets +onlyGivenNames -merge -useContext -underBinder y2
  try clear_value y2
  refine modRange_leaves ?_ (Foot.le_trans (by decide) hF)
  exact h

theorem stepStart_leaves {F : Foot} {a₀ : State} {s : State} {p : Nat} {v : Bool} {a : Nat} {b : Nat} {t0 : Tick} (h : F.leaves a₀ s) (hF : Foot.le ⟨0x10000, [0x8000], [.ports, .rcd, .tx]⟩ F = true) (r0 : F.covers (0x4000 + p)) :
    F.leaves a₀ (stepStart s p v a b t0) := by
  unfold stepStart
  extract_lets +onlyGivenNames -merge -useContext -underBinder y0
  extract_lets +onlyGivenNames -merge -useContext -underBinder y1
  try clear_value y1
  extract_lets +onlyGivenNames -merge -useContext -underBinder y2
  try clear_value y2
  extract_lets +onlyGivenNames -merge -useContext -underBinder y3
  try clear_value y3
  extract_lets +onlyGivenNames -merge -useContext -underBinder y4
  try clear_value y4
  extract_lets +onlyGivenNames -merge -useContext -underBinder y5
  try clear_value y5
  extract_lets +onlyGivenNames -merge -useContext -underBinder y6
  have h6 : F.leaves a₀ y6 := by
    refine modRange_leaves ?_ (Foot.le_trans (by decide) hF)
    exact h
  try clear_value y6
  extract_lets +onlyGivenNames -merge -useContext -underBinder y7
  have h7 : F.leaves a₀ y7 := by
    refine modMeas_leaves ?_ (Foot.le_trans (by decide) hF)
    exact h6
  try clear_value y7
  extract_lets +onlyGivenNames -merge -useContext -underBinder y8
  have h8 : F.leaves a₀ y8 := by
    refine drivePattern_leaves ?_ (Foot.le_trans (by decide) hF)
    exact h7
  try clear_value y8
  extract_lets +onlyGivenNames -merge -useContext -underBinder y9
  have h9 : F.leaves a₀ y9 := by
    refine setBits_leaves ?_ (Foot.rec_key r0)
    refine setFld_leaves ?_ (Foot.rec_key r0)
    exact h8
  try clear_value y9
  extract_lets +onlyGivenNames -merge -useContext -underBinder y10
  have h10 : F.leaves a₀ y10 := by
    refine jPort_leaves ?_ (Foot.le_trans (by decide) hF)
    exact h9
  try clear_value y10
  refine syncSought_leaves ?_ (Foot.le_trans (by decide) hF) r0
  refine resetCount_leaves ?_ (Foot.le_trans (by decide) hF)
  refine loadThresholds_leaves ?_ (Foot.le_trans (by decide) hF) r0
  exact h10

theorem seekStart_leaves {F : Foot} {a₀ : State} {s : State} {p : Nat} {t : Tick} (h : F.leaves a₀ s) (hF : Foot.le ⟨0x10000, [0x8000], [.ports, .rcd, .tx]⟩ F = true) (r0 : F.covers (0x4000 + p)) :
    F.leaves a₀ (seekStart s p t) := by
  unfold seekStart
  extract_lets +onlyGivenNames -merge -useContext -underBinder y0
  try clear_value y0
  refine Foot.ite_leaves ?_ ?_
  · exact h
  · extract_lets +onlyGivenNames -merge -useContext -underBinder y1
    extract_lets +onlyGivenNames -merge -useContext -underBinder y2
    extract_lets +onlyGivenNames -merge -useContext -underBinder y3
    extract_lets +onlyGivenNames -merge -useContext -underBinder y4
    refine Foot.ite_leaves ?_ ?_
    · refine stepStart_leaves ?_ (Foot.le_trans (by decide) hF) r0
      exact h
    · refine Foot.ite_leaves ?_ ?_
      · refine stepStart_leaves ?_ (Foot.le_trans (by decide) hF) r0
        exact h
      · refine syncSought_leaves ?_ (Foot.le_trans (by decide) hF) r0
        exact h

theorem stepMakeEnd_leaves {F : Foot} {a₀ : State} {s : State} {p : Nat} {t : Tick} (h : F.leaves a₀ s) (hF : Foot.le ⟨0x10000, [0x8000], [.ports, .rcd]⟩ F = true) (r0 : F.covers (0x4000 + p)) :
    F.leaves a₀ (stepMakeEnd s p t) := by
  unfold stepMakeEnd
  split
  · refine Foot.ite_leaves ?_ ?_
    · extract_lets +onlyGivenNames -merge -useContext -underBinder y0
      have h0 : F.leaves a₀ y0 := by
        refine setFld_leaves ?_ (Foot.rec_key r0)
        refine modRange_leaves ?_ (Foot.le_trans (by decide) hF)
        exact h
      try clear_value y0
      refine jPort_leaves ?_ (Foot.le_trans (by decide) hF)
      refine loadThresholds_leaves ?_ (Foot.le_trans (by decide) hF) r0
      exact h0
    · exact h
  · exact h

theorem rescale_leaves {F : Foot} {a₀ : State} {s : State} {p : Nat} {v : Bool} {a : Nat} {b : Nat} (h : F.leaves a₀ s) (hF : Foot.le ⟨0x10000, [], [.ports]⟩ F = true) (r0 : F.covers (0x4000 + p)) :
    F.leaves a₀ (rescale s p v a b) := by
  unfold rescale
  extract_lets +onlyGivenNames -merge -useContext -underBinder y0
  extract_lets +onlyGivenNames -merge -useContext -underBinder y1
  extract_lets +onlyGivenNames -merge -useContext -underBinder y2
  try clear_value y2
  extract_lets +onlyGivenNames -merge -useContext -underBinder y3
  try clear_value y3
  extract_lets +onlyGivenNames -merge -useContext -underBinder y4
  try clear_value y4
  extract_lets +onlyGivenNames -merge -useContext -underBinder y5
  have h5 : F.leaves a₀ y5 := by
    refine modLoop_leaves ?_ (Foot.le_trans (by decide) hF)
    exact h
  try clear_value y5
  refine Foot.ite_leaves ?_ ?_
  · refine setI_leaves ?_ (Foot.rec_key r0)
    refine setI_leaves ?_ (Foot.rec_key r0)
    exact h5
  · extract_lets +onlyGivenNames -merge -useContext -underBinder y6
    try clear_value y6
    refine setI_leaves ?_ (Foot.rec_key r0)
    exact h5

theorem stepParEnd_leaves {F : Foot} {a₀ : State} {s : State} {p : Nat} {t : Tick} (h : F.leaves a₀ s) (hF : Foot.le ⟨0x2380, [], [.ports, .groups, .spad, .mem, .rcd, .tx]⟩ F = true) :
    F.leaves a₀ (stepParEnd s p t) := by
  unfold stepParEnd
  split
  · refine Foot.ite_leaves ?_ ?_
    · extract_lets +onlyGivenNames -merge -useContext -underBinder y0
      try clear_value y0
      extract_lets +onlyGivenNames -merge -useContext -underBinder y1
      have h1 : F.leaves a₀ y1 := by
        refine closeLoop_leaves ?_ (Foot.le_trans (by decide) hF)
        exact h
      try clear_value y1
      extract_lets +onlyGivenNames -merge -useContext -underBinder y2
      have h2 : F.leaves a₀ y2 := by
        refine Foot.ite_leaves ?_ ?_
        · refine set_leaves ?_ (Foot.rec_key (Foot.rec_floor hF (by decide)))
          exact h1
        · refine set_leaves ?_ (Foot.rec_key (Foot.rec_floor hF (by decide)))
          exact h1
      try clear_value y2
      extract_lets +onlyGivenNames -merge -useContext -underBinder y3
      have h3 : F.leaves a₀ y3 := by
        refine modRange_leaves ?_ (Foot.le_trans (by decide) hF)
        exact h2
      try clear_value y3
      extract_lets +onlyGivenNames -merge -useContext -underBinder y4
      have h4 : F.leaves a₀ y4 := by
        refine Foot.ite_leaves ?_ ?_
        · refine rescale_leaves ?_ (Foot.le_trans (by decide) hF) (Foot.rec_floor hF (by decide))
          exact h3
        · exact h3
      try clear_value y4
      extract_lets +onlyGivenNames -merge -useContext -underBinder y5
      have h5 : F.leaves a₀ y5 := by
        refine when_leaves ?_ fun z6 h6 => ?_
        · exact h4
        · refine loadKstage_leaves ?_ (Foot.le_trans (by decide) hF) (Foot.rec_floor hF (by decide))
          exact h6
      try clear_value y5
      extract_lets +onlyGivenNames -merge -useContext -underBinder y7
      have h7 : F.leaves a₀ y7 := by
        refine deriveLimits_leaves ?_ (Foot.le_trans (by decide) hF) (Foot.rec_floor hF (by decide))
        exact h5
      try clear_value y7
      extract_lets +onlyGivenNames -merge -useContext -underBinder y8
      try clear_value y8
      extract_lets +onlyGivenNames -merge -useContext -underBinder y9
      have h9 : F.leaves a₀ y9 := by
        refine modLoopY_leaves ?_ (Foot.le_trans (by decide) hF)
        exact h7
      try clear_value y9
      extract_lets +onlyGivenNames -merge -useContext -underBinder y10
      have h10 : F.leaves a₀ y10 := by
        refine drivePattern_leaves ?_ (Foot.le_trans (by decide) hF)
        exact h9
      try clear_value y10
      extract_lets +onlyGivenNames -merge -useContext -underBinder y11
      have h11 : F.leaves a₀ y11 := by
        refine setBit_leaves ?_ (Foot.rec_key (Foot.rec_floor hF (by decide)))
        refine setFld_leaves ?_ (Foot.rec_key (Foot.rec_floor hF (by decide)))
        exact h10
      try clear_value y11
      refine jPort_leaves ?_ (Foot.le_trans (by decide) hF)
      refine loadThresholds_leaves ?_ (Foot.le_trans (by decide) hF) (Foot.rec_floor hF (by decide))
      exact h11
    · exact h
  · exact h

theorem stepBreakEnd_leaves {F : Foot} {a₀ : State} {s : State} {p : Nat} {t : Tick} (h : F.leaves a₀ s) (hF : Foot.le ⟨0x10000, [0x8000], [.ports, .rcd]⟩ F = true) (r0 : F.covers (0x4000 + p)) :
    F.leaves a₀ (stepBreakEnd s p t) := by
  unfold stepBreakEnd
  split
  · refine Foot.ite_leaves ?_ ?_
    · extract_lets +onlyGivenNames -merge -useContext -underBinder y0
      try clear_value y0
      extract_lets +onlyGivenNames -merge -useContext -underBinder y1
      have h1 : F.leaves a₀ y1 := by
        refine modRange_leaves ?_ (Foot.le_trans (by decide) hF)
        exact h
      try clear_value y1
      extract_lets +onlyGivenNames -merge -useContext -underBinder y2
      have h2 : F.leaves a₀ y2 := by
        refine setBits_leaves ?_ (Foot.rec_key r0)
        refine setFld_leaves ?_ (Foot.rec_key r0)
        exact h1
      try clear_value y2
      extract_lets +onlyGivenNames -merge -useContext -underBinder y3
      have h3 : F.leaves a₀ y3 := by
        refine satInc_leaves ?_ (Foot.rec_key r0)
        exact h2
      try clear_value y3
      refine syncSought_leaves ?_ (Foot.le_trans (by decide) hF) r0
      refine jPort_leaves ?_ (Foot.le_trans (by decide) hF)
      refine loadThresholds_leaves ?_ (Foot.le_trans (by decide) hF) r0
      exact h3
    · exact h
  · exact h

theorem stepGuardEnd_leaves {F : Foot} {a₀ : State} {s : State} {p : Nat} {t : Tick} (h : F.leaves a₀ s) (hF : Foot.le ⟨0x10000, [], [.ports]⟩ F = true) (r0 : F.covers (0x4000 + p)) :
    F.leaves a₀ (stepGuardEnd s p t) := by
  unfold stepGuardEnd
  split
  · refine Foot.ite_leaves ?_ ?_
    · refine syncSought_leaves ?_ (Foot.le_trans (by decide) hF) r0
      refine setBit_leaves ?_ (Foot.rec_key r0)
      refine modRange_leaves ?_ (Foot.le_trans (by decide) hF)
      exact h
    · exact h
  · exact h

theorem stepToBreak_leaves {F : Foot} {a₀ : State} {s : State} {p : Nat} {t : Tick} (h : F.leaves a₀ s) (hF : Foot.le ⟨0x2380, [], [.ports, .groups, .spad, .mem, .rcd, .tx]⟩ F = true) :
    F.leaves a₀ (stepToBreak s p t) := by
  unfold stepToBreak
  refine stepParEnd_leaves ?_ (Foot.le_trans (by decide) hF)
  refine stepMakeEnd_leaves ?_ (Foot.le_trans (by decide) hF) (Foot.rec_floor hF (by decide))
  exact h

/-! ### PortCtl -/

theorem setRole_leaves {F : Foot} {a₀ : State} {s : State} {i : Nat} {role : Nat} {port : Nat} (h : F.leaves a₀ s) (hF : Foot.le ⟨0x10000, [0x8000], [.slices, .rcd]⟩ F = true) (r0 : F.covers (0x4100 + i)) (r1 : F.covers (0x3000 + i / 9)) :
    F.leaves a₀ (setRole s i role port) := by
  unfold setRole
  extract_lets +onlyGivenNames -merge -useContext -underBinder y0
  have h0 : F.leaves a₀ y0 := by
    refine set_leaves ?_ (Foot.rec_key r0)
    refine set_leaves ?_ (Foot.rec_key r0)
    exact h
  try clear_value y0
  extract_lets +onlyGivenNames -merge -useContext -underBinder y1
  have h1 : F.leaves a₀ y1 := by
    refine setFld_leaves ?_ (Foot.rec_key r1)
    exact h0
  try clear_value y1
  extract_lets +onlyGivenNames -merge -useContext -underBinder y2
  have h2 : F.leaves a₀ y2 := by
    refine Foot.ite_leaves ?_ ?_
    · exact h1
    · refine modSx_leaves ?_ (Foot.le_trans (by decide) hF)
      exact h1
  try clear_value y2
  refine journal_leaves ?_ (Foot.le_trans (by decide) hF)
  exact h2

theorem enableStep2_leaves {F : Foot} {a₀ : State} {s : State} {p : Nat} {t : Tick} (h : F.leaves a₀ s) (hF : Foot.le ⟨0x10000, [], [.ports, .micro]⟩ F = true) :
    F.leaves a₀ (enableStep2 s p t) := by
  unfold enableStep2
  refine later_leaves ?_ (Foot.le_trans (by decide) hF)
  refine modPx_leaves ?_ (Foot.le_trans (by decide) hF)
  exact h

theorem enableNow_leaves {F : Foot} {a₀ : State} {s : State} {p : Nat} {t : Tick} (h : F.leaves a₀ s) (hF : Foot.le ⟨0x3000, [], [.ports, .slices, .micro, .rcd, .tx]⟩ F = true) :
    F.leaves a₀ (enableNow s p t) := by
  unfold enableNow
  extract_lets +onlyGivenNames -merge -useContext -underBinder y0
  have h0 : F.leaves a₀ y0 := by
    refine set_leaves ?_ (Foot.rec_key (Foot.rec_floor hF (by decide)))
    exact h
  try clear_value y0
  extract_lets +onlyGivenNames -merge -useContext -underBinder y1
  extract_lets +onlyGivenNames -merge -useContext -underBinder y2
  have h2 : F.leaves a₀ y2 := by
    refine Foot.ite_leaves ?_ ?_
    · refine setRole_leaves ?_ (Foot.le_trans (by decide) hF) (Foot.rec_floor hF (by decide)) (Foot.rec_floor hF (by decide))
      exact h0
    · exact h0
  try clear_value y2
  extract_lets +onlyGivenNames -merge -useContext -underBinder y3
  have h3 : F.leaves a₀ y3 := by
    refine set_leaves ?_ (Foot.rec_key (Foot.rec_floor hF (by decide)))
    exact h2
  try clear_value y3
  extract_lets +onlyGivenNames -merge -useContext -underBinder y4
  have h4 : F.leaves a₀ y4 := by
    refine modPx_leaves ?_ (Foot.le_trans (by decide) hF)
    exact h3
  try clear_value y4
  extract_lets +onlyGivenNames -merge -useContext -underBinder y5
  have h5 : F.leaves a₀ y5 := by
    refine cmpPower_leaves ?_ (Foot.le_trans (by decide) hF) (Foot.rec_floor hF (by decide))
    refine jPort_leaves ?_ (Foot.le_trans (by decide) hF)
    exact h4
  try clear_value y5
  extract_lets +onlyGivenNames -merge -useContext -underBinder y6
  extract_lets +onlyGivenNames -merge -useContext -underBinder y7
  have h7 : F.leaves a₀ y7 := by
    refine setFld_leaves ?_ (Foot.rec_key (Foot.rec_floor hF (by decide)))
    exact h5
  try clear_value y7
  extract_lets +onlyGivenNames -merge -useContext -underBinder y8
  have h8 : F.leaves a₀ y8 := by
    refine Foot.ite_leaves ?_ ?_
    · refine setBit_leaves ?_ (Foot.rec_key (Foot.rec_floor hF (by decide)))
      refine blankTo_leaves ?_ (Foot.le_trans (by decide) hF)
      refine modPx_leaves ?_ (Foot.le_trans (by decide) hF)
      exact h7
    · refine enableStep2_leaves ?_ (Foot.le_trans (by decide) hF)
      refine setBit_leaves ?_ (Foot.rec_key (Foot.rec_floor hF (by decide)))
      exact h7
  try clear_value y8
  refine syncPort_leaves ?_ (Foot.le_trans (by decide) hF) (Foot.rec_floor hF (by decide))
  refine rangeRules_leaves ?_ (Foot.le_trans (by decide) hF)
  refine deriveLimits_leaves ?_ (Foot.le_trans (by decide) hF) (Foot.rec_floor hF (by decide))
  refine setBit_leaves ?_ (Foot.rec_key (Foot.rec_floor hF (by decide)))
  exact h8

theorem enableTry_leaves {F : Foot} {a₀ : State} {s : State} {p : Nat} {t : Tick} (h : F.leaves a₀ s) (hF : Foot.le ⟨0x3000, [], [.ports, .slices, .micro, .rcd, .tx]⟩ F = true) :
    F.leaves a₀ (enableTry s p t) := by
  unfold enableTry
  refine Foot.ite_leaves ?_ ?_
  · split
    · refine setBit_leaves ?_ (Foot.rec_key (Foot.rec_floor hF (by decide)))
      exact h
    · refine enableNow_leaves ?_ (Foot.le_trans (by decide) hF)
      exact h
  · exact h

theorem setSafe_leaves {F : Foot} {a₀ : State} {s : State} {p : Nat} {t : Tick} (h : F.leaves a₀ s) (hF : Foot.le ⟨0x10000, [], [.ports]⟩ F = true) (r0 : F.covers (0x4000 + p)) :
    F.leaves a₀ (setSafe s p t) := by
  unfold setSafe
  split
  · refine Foot.ite_leaves ?_ ?_
    · extract_lets +onlyGivenNames -merge -useContext -underBinder y0
      have h0 : F.leaves a₀ y0 := by
        refine Foot.ite_leaves ?_ ?_
        · exact h
        · refine setCode_leaves ?_ (Foot.le_trans (by decide) hF) r0
          exact h
      try clear_value y0
      extract_lets +onlyGivenNames -merge -useContext -underBinder y1
      have h1 : F.leaves a₀ y1 := by
        refine shaperReset_leaves ?_ (Foot.le_trans (by decide) hF)
        exact h0
      try clear_value y1
      extract_lets +onlyGivenNames -merge -useContext -underBinder y2
      try clear_value y2
      refine Foot.ite_leaves ?_ ?_
      · refine modPx_leaves ?_ (Foot.le_trans (by decide) hF)
        exact h1
      · exact h1
    · exact h
  · exact h

theorem armWaitDone_leaves {F : Foot} {a₀ : State} {s : State} {p : Nat} {t : Tick} (h : F.leaves a₀ s) (hF : Foot.le ⟨0x10000, [], [.ports]⟩ F = true) :
    F.leaves a₀ (armWaitDone s p t) := by
  unfold armWaitDone
  refine Foot.ite_leaves ?_ ?_
  · refine modPx_leaves ?_ (Foot.le_trans (by decide) hF)
    exact h
  · exact h

theorem groupRun_leaves {F : Foot} {a₀ : State} {s : State} {g : Nat} {t : Tick} (h : F.leaves a₀ s) (hF : Foot.le ⟨0x3000, [], [.ports, .slices, .micro, .rcd, .tx]⟩ F = true) :
    F.leaves a₀ (groupRun s g t) := by
  unfold groupRun
  extract_lets +onlyGivenNames -merge -useContext -underBinder y0
  extract_lets +onlyGivenNames -merge -useContext -underBinder y1
  have h1 : F.leaves a₀ y1 := by
    refine setBit_leaves ?_ (Foot.rec_key (Foot.rec_floor hF (by decide)))
    refine set_leaves ?_ (Foot.rec_key (Foot.rec_floor hF (by decide)))
    exact h
  try clear_value y1
  extract_lets +onlyGivenNames -merge -useContext -underBinder y2
  have h2 : F.leaves a₀ y2 := by
    refine Foot.foldl_leaves ?_ fun z3 i3 h3 => ?_
    · exact h1
    · refine Foot.ite_leaves ?_ ?_
      · refine enableTry_leaves ?_ (Foot.le_trans (by decide) hF)
        exact h3
      · exact h3
  try clear_value y2
  refine later_leaves ?_ (Foot.le_trans (by decide) hF)
  refine set_leaves ?_ (Foot.rec_key (Foot.rec_floor hF (by decide)))
  exact h2

theorem syncDeviceConfig_leaves {F : Foot} {a₀ : State} {s : State} (h : F.leaves a₀ s) (hF : Foot.le ⟨0x10000, [0x2000], []⟩ F = true) :
    F.leaves a₀ (syncDeviceConfig s) := by
  unfold syncDeviceConfig
  refine set_leaves ?_ (Foot.rec_const hF (by decide))
  exact h

theorem commitPort_leaves {F : Foot} {a₀ : State} {s : State} {p : Nat} (h : F.leaves a₀ s) (hF : Foot.le ⟨0x10000, [0x8000], [.ports, .rcd, .tx]⟩ F = true) (r0 : F.covers (0x4000 + p)) :
    F.leaves a₀ (commitPort s p) := by
  unfold commitPort
  extract_lets +onlyGivenNames -merge -useContext -underBinder y0
  have h0 : F.leaves a₀ y0 := by
    refine modRange_leaves ?_ (Foot.le_trans (by decide) hF)
    exact h
  try clear_value y0
  extract_lets +onlyGivenNames -merge -useContext -underBinder y1
  have h1 : F.leaves a₀ y1 := by
    refine jFactors_leaves ?_ (Foot.le_trans (by decide) hF)
    refine set_leaves ?_ (Foot.rec_key r0)
    refine set_leaves ?_ (Foot.rec_key r0)
    exact h0
  try clear_value y1
  extract_lets +onlyGivenNames -merge -useContext -underBinder y2
  have h2 : F.leaves a₀ y2 := by
    refine drivePattern_leaves ?_ (Foot.le_trans (by decide) hF)
    exact h1
  try clear_value y2
  refine rangeRules_leaves ?_ (Foot.le_trans (by decide) hF)
  refine loadThresholds_leaves ?_ (Foot.le_trans (by decide) hF) r0
  refine deriveLimits_leaves ?_ (Foot.le_trans (by decide) hF) r0
  refine loadKstage_leaves ?_ (Foot.le_trans (by decide) hF) r0
  exact h2

theorem requestSave_leaves {F : Foot} {a₀ : State} {s : State} (h : F.leaves a₀ s) (hF : Foot.le ⟨0x10000, [0x2000], [.nv]⟩ F = true) :
    F.leaves a₀ (requestSave s) := by
  unfold requestSave
  refine Foot.ite_leaves ?_ ?_
  · extract_lets +onlyGivenNames -merge -useContext -underBinder y0
    have h0 : F.leaves a₀ y0 := by
      refine setBit_leaves ?_ (Foot.rec_const hF (by decide))
      exact h
    try clear_value y0
    refine Foot.ite_leaves ?_ ?_
    · exact h0
    · refine requestCommit_leaves ?_ (Foot.le_trans (by decide) hF)
      exact h0
  · refine requestCommit_leaves ?_ (Foot.le_trans (by decide) hF)
    refine set_leaves ?_ (Foot.rec_const hF (by decide))
    exact h

theorem leaveConfig_leaves {F : Foot} {a₀ : State} {s : State} {idx : Nat} (h : F.leaves a₀ s) (hF : Foot.le ⟨0x10000, [0x2000], [.od, .nv]⟩ F = true) :
    F.leaves a₀ (leaveConfig s idx) := by
  unfold leaveConfig
  refine Foot.ite_leaves ?_ ?_
  · refine requestSave_leaves ?_ (Foot.le_trans (by decide) hF)
    exact { h with od := .inl (Foot.part hF (by decide)) }
  · exact h

theorem groupLeave_leaves {F : Foot} {a₀ : State} {s : State} {g : Nat} {t : Tick} (h : F.leaves a₀ s) (hF : Foot.le ⟨0x3000, [0x2000], [.ports, .groups, .slices, .micro, .rcd, .nv, .tx]⟩ F = true) :
    F.leaves a₀ (groupLeave s g t) := by
  unfold groupLeave
  extract_lets +onlyGivenNames -merge -useContext -underBinder y0
  have h0 : F.leaves a₀ y0 := by
    refine Foot.foldl_leaves ?_ fun z1 i1 h1 => ?_
    · exact h
    · refine commitPort_leaves ?_ (Foot.le_trans (by decide) hF) (Foot.rec_floor hF (by decide))
      exact h1
  try clear_value y0
  extract_lets +onlyGivenNames -merge -useContext -underBinder y2
  have h2 : F.leaves a₀ y2 := by
    refine Foot.ite_leaves ?_ ?_
    · refine requestSave_leaves ?_ (Foot.le_trans (by decide) hF)
      refine modGx_leaves ?_ (Foot.le_trans (by decide) hF)
      exact h0
    · exact h0
  try clear_value y2
  refine syncDeviceConfig_leaves ?_ (Foot.le_trans (by decide) hF)
  refine groupRun_leaves ?_ (Foot.le_trans (by decide) hF)
  exact h2

theorem idleWake_leaves {F : Foot} {a₀ : State} {s : State} {t : Tick} (h : F.leaves a₀ s) (hF : Foot.le ⟨0x3000, [0x2001, 0x2000], [.ports, .groups, .slices, .micro, .rcd, .pwr, .nv, .tx]⟩ F = true) :
    F.leaves a₀ (idleWake s t) := by
  unfold idleWake
  extract_lets +onlyGivenNames -merge -useContext -underBinder y0
  try clear_value y0
  extract_lets +onlyGivenNames -merge -useContext -underBinder u1_0 y1
  have h1 : F.leaves a₀ y1 := by
    exact { h with pwr := .inl (Foot.part hF (by decide)) }
  try clear_value y1
  extract_lets +onlyGivenNames -merge -useContext -underBinder y2
  have h2 : F.leaves a₀ y2 := by
    refine setBit_leaves ?_ (Foot.rec_const hF (by decide))
    refine set_leaves ?_ (Foot.rec_const hF (by decide))
    exact h1
  try clear_value y2
  refine Foot.foldl_leaves ?_ fun z3 i3 h3 => ?_
  · exact h2
  · refine Foot.ite_leaves ?_ ?_
    · split
      · refine setBit_leaves ?_ (Foot.rec_key (Foot.rec_floor hF (by decide)))
        exact h3
      · refine groupLeave_leaves ?_ (Foot.le_trans (by decide) hF)
        exact h3
    · exact h3

theorem quietCheck_leaves {F : Foot} {a₀ : State} {s : State} {t : Tick} (h : F.leaves a₀ s) (hF : Foot.le ⟨0x3000, [0x2001, 0x2000], [.ports, .groups, .slices, .micro, .rcd, .pwr, .nv, .tx]⟩ F = true) :
    F.leaves a₀ (quietCheck s t) := by
  unfold quietCheck
  refine Foot.ite_leaves ?_ ?_
  · refine Foot.ite_leaves ?_ ?_
    · extract_lets +onlyGivenNames -merge -useContext -underBinder y0
      have h0 : F.leaves a₀ y0 := by
        refine set_leaves ?_ (Foot.rec_const hF (by decide))
        exact h
      try clear_value y0
      refine Foot.ite_leaves ?_ ?_
      · refine idleWake_leaves ?_ (Foot.le_trans (by decide) hF)
        exact h0
      · exact h0
    · refine Foot.ite_leaves ?_ ?_
      · refine later_leaves ?_ (Foot.le_trans (by decide) hF)
        exact h
      · exact h
  · exact h

theorem enterConfig_leaves {F : Foot} {a₀ : State} {s : State} {g : Nat} {t : Tick} (h : F.leaves a₀ s) (hF : Foot.le ⟨0x3000, [0x2000, 0x2001], [.ports, .groups, .slices, .micro, .rcd, .pwr, .nv, .tx]⟩ F = true) :
    F.leaves a₀ (enterConfig s g t) := by
  unfold enterConfig
  refine Foot.ite_leaves ?_ ?_
  · extract_lets +onlyGivenNames -merge -useContext -underBinder y0
    have h0 : F.leaves a₀ y0 := by
      refine syncDeviceConfig_leaves ?_ (Foot.le_trans (by decide) hF)
      refine set_leaves ?_ (Foot.rec_key (Foot.rec_floor hF (by decide)))
      exact h
    try clear_value y0
    extract_lets +onlyGivenNames -merge -useContext -underBinder y1
    have h1 : F.leaves a₀ y1 := by
      refine later_leaves ?_ (Foot.le_trans (by decide) hF)
      exact h0
    try clear_value y1
    refine Foot.ite_leaves ?_ ?_
    · split
      · refine quietCheck_leaves ?_ (Foot.le_trans (by decide) hF)
        refine setBit_leaves ?_ (Foot.rec_key (Foot.rec_floor hF (by decide)))
        refine setBit_leaves ?_ (Foot.rec_key (Foot.rec_floor hF (by decide)))
        exact h1
      · refine groupLeave_leaves ?_ (Foot.le_trans (by decide) hF)
        exact h1
    · refine quietCheck_leaves ?_ (Foot.le_trans (by decide) hF)
      exact h1
  · exact h

theorem offOutput_leaves {F : Foot} {a₀ : State} {s : State} {p : Nat} {t : Tick} (h : F.leaves a₀ s) (hF : Foot.le ⟨0x10000, [], [.ports]⟩ F = true) (r0 : F.covers (0x4000 + p)) :
    F.leaves a₀ (offOutput s p t) := by
  unfold offOutput
  extract_lets +onlyGivenNames -merge -useContext -underBinder y0
  extract_lets +onlyGivenNames -merge -useContext -underBinder y1
  refine setCode_leaves ?_ (Foot.le_trans (by decide) hF) r0
  refine modForce_leaves ?_ (Foot.le_trans (by decide) hF)
  exact h

theorem offSpan_leaves {F : Foot} {a₀ : State} {s : State} {p : Nat} {t : Tick} (h : F.leaves a₀ s) (hF : Foot.le ⟨0x10000, [], [.ports]⟩ F = true) (r0 : F.covers (0x4000 + p)) :
    F.leaves a₀ (offSpan s p t) := by
  unfold offSpan
  refine Foot.ite_leaves ?_ ?_
  · extract_lets +onlyGivenNames -merge -useContext -underBinder y0
    have h0 : F.leaves a₀ y0 := by
      refine modPx_leaves ?_ (Foot.le_trans (by decide) hF)
      exact h
    try clear_value y0
    extract_lets +onlyGivenNames -merge -useContext -underBinder y1
    have h1 : F.leaves a₀ y1 := by
      refine blankTo_leaves ?_ (Foot.le_trans (by decide) hF)
      exact h0
    try clear_value y1
    refine setBit_leaves ?_ (Foot.rec_key r0)
    refine setFld_leaves ?_ (Foot.rec_key r0)
    refine setBit_leaves ?_ (Foot.rec_key r0)
    exact h1
  · exact h

theorem homeReturn_leaves {F : Foot} {a₀ : State} {s : State} {p : Nat} (h : F.leaves a₀ s) (hF : Foot.le ⟨0x3000, [], [.groups, .slices, .rcd]⟩ F = true) :
    F.leaves a₀ (homeReturn s p) := by
  unfold homeReturn
  extract_lets +onlyGivenNames -merge -useContext -underBinder y0
  extract_lets +onlyGivenNames -merge -useContext -underBinder y1
  extract_lets +onlyGivenNames -merge -useContext -underBinder y2
  have h2 : F.leaves a₀ y2 := by
    refine modGx_leaves ?_ (Foot.le_trans (by decide) hF)
    exact h
  try clear_value y2
  refine Foot.ite_leaves ?_ ?_
  · exact h2
  · extract_lets +onlyGivenNames -merge -useContext -underBinder y3
    extract_lets +onlyGivenNames -merge -useContext -underBinder y4
    have h4 : F.leaves a₀ y4 := by
      refine set_leaves ?_ (Foot.rec_key (Foot.rec_floor hF (by decide)))
      refine setRole_leaves ?_ (Foot.le_trans (by decide) hF) (Foot.rec_floor hF (by decide)) (Foot.rec_floor hF (by decide))
      exact h2
    try clear_value y4
    refine Foot.ite_leaves ?_ ?_
    · refine setRole_leaves ?_ (Foot.le_trans (by decide) hF) (Foot.rec_floor hF (by decide)) (Foot.rec_floor hF (by decide))
      exact h4
    · exact h4

theorem portOff_leaves {F : Foot} {a₀ : State} {s : State} {p : Nat} {t : Tick} (h : F.leaves a₀ s) (hF : Foot.le ⟨0x3000, [0x2000, 0x2001], [.ports, .groups, .slices, .micro, .cal, .rcd, .pwr, .nv, .tx]⟩ F = true) :
    F.leaves a₀ (portOff s p t) := by
  unfold portOff
  extract_lets +onlyGivenNames -merge -useContext -underBinder y0
  have h0 : F.leaves a₀ y0 := by
    refine set_leaves ?_ (Foot.rec_key (Foot.rec_floor hF (by decide)))
    refine takeIncoming_leaves ?_ (Foot.le_trans (by decide) hF) (Foot.rec_floor hF (by decide))
    exact h
  try clear_value y0
  extract_lets +onlyGivenNames -merge -useContext -underBinder y1
  have h1 : F.leaves a₀ y1 := by
    refine modPx_leaves ?_ (Foot.le_trans (by decide) hF)
    exact h0
  try clear_value y1
  extract_lets +onlyGivenNames -merge -useContext -underBinder y2
  have h2 : F.leaves a₀ y2 := by
    refine setBit_leaves ?_ (Foot.rec_key (Foot.rec_floor hF (by decide)))
    refine cmpUnpower_leaves ?_ (Foot.le_trans (by decide) hF) (Foot.rec_floor hF (by decide))
    exact h1
  try clear_value y2
  extract_lets +onlyGivenNames -merge -useContext -underBinder y3
  have h3 : F.leaves a₀ y3 := by
    refine setBits_leaves ?_ (Foot.rec_key (Foot.rec_floor hF (by decide)))
    refine setFld_leaves ?_ (Foot.rec_key (Foot.rec_floor hF (by decide)))
    exact h2
  try clear_value y3
  extract_lets +onlyGivenNames -merge -useContext -underBinder y4
  have h4 : F.leaves a₀ y4 := by
    refine Foot.ite_leaves ?_ ?_
    · refine offOutput_leaves ?_ (Foot.le_trans (by decide) hF) (Foot.rec_floor hF (by decide))
      exact h3
    · exact h3
  try clear_value y4
  extract_lets +onlyGivenNames -merge -useContext -underBinder y5
  have h5 : F.leaves a₀ y5 := by
    refine homeReturn_leaves ?_ (Foot.le_trans (by decide) hF)
    refine jPort_leaves ?_ (Foot.le_trans (by decide) hF)
    exact h4
  try clear_value y5
  extract_lets +onlyGivenNames -merge -useContext -underBinder y6
  have h6 : F.leaves a₀ y6 := by
    refine syncPort_leaves ?_ (Foot.le_trans (by decide) hF) (Foot.rec_floor hF (by decide))
    refine deriveLimits_leaves ?_ (Foot.le_trans (by decide) hF) (Foot.rec_floor hF (by decide))
    exact h5
  try clear_value y6
  extract_lets +onlyGivenNames -merge -useContext -underBinder y7
  have h7 : F.leaves a₀ y7 := by
    refine later_leaves ?_ (Foot.le_trans (by decide) hF)
    refine modRot_leaves ?_ (Foot.le_trans (by decide) hF)
    exact h6
  try clear_value y7
  extract_lets +onlyGivenNames -merge -useContext -underBinder y8
  have h8 : F.leaves a₀ y8 := by
    refine when_leaves ?_ fun z9 h9 => ?_
    · exact h7
    · refine enableTry_leaves ?_ (Foot.le_trans (by decide) hF)
      refine setBit_leaves ?_ (Foot.rec_key (Foot.rec_floor hF (by decide)))
      exact h9
  try clear_value y8
  refine enterConfig_leaves ?_ (Foot.le_trans (by decide) hF)
  refine offSpan_leaves ?_ (Foot.le_trans (by decide) hF) (Foot.rec_floor hF (by decide))
  exact h8

theorem rangeToOff_leaves {F : Foot} {a₀ : State} {s : State} {p : Nat} {t : Tick} (h : F.leaves a₀ s) (hF : Foot.le ⟨0x3000, [0x2000, 0x2001], [.ports, .groups, .slices, .micro, .cal, .rcd, .pwr, .nv, .tx]⟩ F = true) :
    F.leaves a₀ (rangeToOff s p t) := by
  unfold rangeToOff
  refine Foot.ite_leaves ?_ ?_
  · exact h
  · refine Foot.ite_leaves ?_ ?_
    · refine portOff_leaves ?_ (Foot.le_trans (by decide) hF)
      exact h
    · refine seekStart_leaves ?_ (Foot.le_trans (by decide) hF) (Foot.rec_floor hF (by decide))
      exact h

theorem dischargeEnd_leaves {F : Foot} {a₀ : State} {s : State} {p : Nat} {t : Tick} (h : F.leaves a₀ s) (hF : Foot.le ⟨0x3000, [0x2000, 0x2001], [.ports, .groups, .slices, .micro, .cal, .rcd, .pwr, .nv, .tx]⟩ F = true) :
    F.leaves a₀ (dischargeEnd s p t) := by
  unfold dischargeEnd
  refine rangeToOff_leaves ?_ (Foot.le_trans (by decide) hF)
  refine syncSought_leaves ?_ (Foot.le_trans (by decide) hF) (Foot.rec_floor hF (by decide))
  refine modPx_leaves ?_ (Foot.le_trans (by decide) hF)
  exact h

theorem gateOff_leaves {F : Foot} {a₀ : State} {s : State} {p : Nat} {t : Tick} (h : F.leaves a₀ s) (hF : Foot.le ⟨0x3000, [0x2000, 0x2001], [.ports, .groups, .slices, .micro, .cal, .rcd, .pwr, .nv, .tx]⟩ F = true) :
    F.leaves a₀ (gateOff s p t) := by
  unfold gateOff
  extract_lets +onlyGivenNames -merge -useContext -underBinder y0
  extract_lets +onlyGivenNames -merge -useContext -underBinder y1
  have h1 : F.leaves a₀ y1 := by
    refine modPx_leaves ?_ (Foot.le_trans (by decide) hF)
    exact h
  try clear_value y1
  extract_lets +onlyGivenNames -merge -useContext -underBinder y2
  have h2 : F.leaves a₀ y2 := by
    refine syncPort_leaves ?_ (Foot.le_trans (by decide) hF) (Foot.rec_floor hF (by decide))
    exact h1
  try clear_value y2
  refine Foot.ite_leaves ?_ ?_
  · refine dischargeEnd_leaves ?_ (Foot.le_trans (by decide) hF)
    exact h2
  · exact h2

theorem spanHold_leaves {F : Foot} {a₀ : State} {s : State} {p : Nat} {t : Tick} (h : F.leaves a₀ s) (hF : Foot.le ⟨0x10000, [], [.ports, .tx]⟩ F = true) (r0 : F.covers (0x4000 + p)) :
    F.leaves a₀ (spanHold s p t) := by
  unfold spanHold
  extract_lets +onlyGivenNames -merge -useContext -underBinder y0
  have h0 : F.leaves a₀ y0 := by
    refine blankTo_leaves ?_ (Foot.le_trans (by decide) hF)
    refine modForce_leaves ?_ (Foot.le_trans (by decide) hF)
    exact h
  try clear_value y0
  refine syncPort_leaves ?_ (Foot.le_trans (by decide) hF) r0
  refine setBit_leaves ?_ (Foot.rec_key r0)
  refine setFld_leaves ?_ (Foot.rec_key r0)
  exact h0

theorem spanDone_leaves {F : Foot} {a₀ : State} {s : State} {p : Nat} (h : F.leaves a₀ s) (hF : Foot.le ⟨0x10000, [], [.ports]⟩ F = true) (r0 : F.covers (0x4000 + p)) :
    F.leaves a₀ (spanDone s p) := by
  unfold spanDone
  extract_lets +onlyGivenNames -merge -useContext -underBinder y0
  try clear_value y0
  extract_lets +onlyGivenNames -merge -useContext -underBinder y1
  have h1 : F.leaves a₀ y1 := by
    refine modPx_leaves ?_ (Foot.le_trans (by decide) hF)
    exact h
  try clear_value y1
  refine setBit_leaves ?_ (Foot.rec_key r0)
  refine setFld_leaves ?_ (Foot.rec_key r0)
  exact h1

theorem portReachesOn_leaves {F : Foot} {a₀ : State} {s : State} {p : Nat} {t : Tick} (h : F.leaves a₀ s) (hF : Foot.le ⟨0x10000, [], [.ports, .micro, .tx]⟩ F = true) (r0 : F.covers (0x4000 + p)) :
    F.leaves a₀ (portReachesOn s p t) := by
  unfold portReachesOn
  extract_lets +onlyGivenNames -merge -useContext -underBinder y0
  have h0 : F.leaves a₀ y0 := by
    refine satInc_leaves ?_ (Foot.rec_key r0)
    refine set_leaves ?_ (Foot.rec_key r0)
    exact h
  try clear_value y0
  extract_lets +onlyGivenNames -merge -useContext -underBinder y1
  have h1 : F.leaves a₀ y1 := by
    refine setBit_leaves ?_ (Foot.rec_key r0)
    exact h0
  try clear_value y1
  extract_lets +onlyGivenNames -merge -useContext -underBinder y2
  have h2 : F.leaves a₀ y2 := by
    refine modPx_leaves ?_ (Foot.le_trans (by decide) hF)
    exact h1
  try clear_value y2
  extract_lets +onlyGivenNames -merge -useContext -underBinder y3
  have h3 : F.leaves a₀ y3 := by
    refine when_leaves ?_ fun z4 h4 => ?_
    · exact h2
    · refine setBit_leaves ?_ (Foot.rec_key r0)
      refine modForce_leaves ?_ (Foot.le_trans (by decide) hF)
      exact h4
  try clear_value y3
  refine later_leaves ?_ (Foot.le_trans (by decide) hF)
  refine syncPort_leaves ?_ (Foot.le_trans (by decide) hF) r0
  refine syncSought_leaves ?_ (Foot.le_trans (by decide) hF) r0
  refine openFree_leaves ?_ (Foot.le_trans (by decide) hF) r0
  refine reloadPending_leaves ?_ (Foot.le_trans (by decide) hF)
  exact h3

theorem rampEnd_leaves {F : Foot} {a₀ : State} {s : State} {p : Nat} {kind : RampKind} {t : Tick} (h : F.leaves a₀ s) (hF : Foot.le ⟨0x3000, [0x2000, 0x2001], [.ports, .groups, .slices, .micro, .cal, .rcd, .pwr, .nv, .tx]⟩ F = true) :
    F.leaves a₀ (rampEnd s p kind t) := by
  unfold rampEnd
  split
  · refine portReachesOn_leaves ?_ (Foot.le_trans (by decide) hF) (Foot.rec_floor hF (by decide))
    exact h
  · refine gateOff_leaves ?_ (Foot.le_trans (by decide) hF)
    exact h
  · refine spanHold_leaves ?_ (Foot.le_trans (by decide) hF) (Foot.rec_floor hF (by decide))
    exact h
  · refine syncPort_leaves ?_ (Foot.le_trans (by decide) hF) (Foot.rec_floor hF (by decide))
    refine spanDone_leaves ?_ (Foot.le_trans (by decide) hF) (Foot.rec_floor hF (by decide))
    refine reloadPending_leaves ?_ (Foot.le_trans (by decide) hF)
    exact h
  · refine syncPort_leaves ?_ (Foot.le_trans (by decide) hF) (Foot.rec_floor hF (by decide))
    refine reloadPending_leaves ?_ (Foot.le_trans (by decide) hF)
    refine modPx_leaves ?_ (Foot.le_trans (by decide) hF)
    exact h

theorem rampStop_leaves {F : Foot} {a₀ : State} {s : State} {p : Nat} {t : Tick} (h : F.leaves a₀ s) (hF : Foot.le ⟨0x10000, [], [.ports]⟩ F = true) (r0 : F.covers (0x4000 + p)) :
    F.leaves a₀ (rampStop s p t) := by
  unfold rampStop
  split
  · exact h
  · refine Foot.ite_leaves ?_ ?_
    · refine modForce_leaves ?_ (Foot.le_trans (by decide) hF)
      exact h
    · extract_lets +onlyGivenNames -merge -useContext -underBinder y0
      extract_lets +onlyGivenNames -merge -useContext -underBinder y1
      have h1 : F.leaves a₀ y1 := by
        refine shaperTo_leaves ?_ (Foot.le_trans (by decide) hF)
        exact h
      try clear_value y1
      refine setCode_leaves ?_ (Foot.le_trans (by decide) hF) r0
      refine modForce_leaves ?_ (Foot.le_trans (by decide) hF)
      exact h1

theorem rampFrom_leaves {F : Foot} {a₀ : State} {s : State} {p : Nat} {kind : RampKind} {src : Nat} {dst : Nat} {t : Tick} (h : F.leaves a₀ s) (hF : Foot.le ⟨0x3000, [0x2000, 0x2001], [.ports, .groups, .slices, .micro, .cal, .rcd, .pwr, .nv, .tx]⟩ F = true) :
    F.leaves a₀ (rampFrom s p kind src dst t) := by
  unfold rampFrom
  extract_lets +onlyGivenNames -merge -useContext -underBinder y0
  try clear_value y0
  refine Foot.ite_leaves ?_ ?_
  · refine rampEnd_leaves ?_ (Foot.le_trans (by decide) hF)
    exact h
  · refine syncPort_leaves ?_ (Foot.le_trans (by decide) hF) (Foot.rec_floor hF (by decide))
    refine modForce_leaves ?_ (Foot.le_trans (by decide) hF)
    exact h

theorem rampStart_leaves {F : Foot} {a₀ : State} {s : State} {p : Nat} {kind : RampKind} {dst : Nat} {t : Tick} (h : F.leaves a₀ s) (hF : Foot.le ⟨0x3000, [0x2000, 0x2001], [.ports, .groups, .slices, .micro, .cal, .rcd, .pwr, .nv, .tx]⟩ F = true) :
    F.leaves a₀ (rampStart s p kind dst t) := by
  unfold rampStart
  extract_lets +onlyGivenNames -merge -useContext -underBinder y0
  have h0 : F.leaves a₀ y0 := by
    refine rampStop_leaves ?_ (Foot.le_trans (by decide) hF) (Foot.rec_floor hF (by decide))
    exact h
  try clear_value y0
  refine rampFrom_leaves ?_ (Foot.le_trans (by decide) hF)
  exact h0

theorem rampFinish_leaves {F : Foot} {a₀ : State} {s : State} {p : Nat} {t : Tick} (h : F.leaves a₀ s) (hF : Foot.le ⟨0x3000, [0x2000, 0x2001], [.ports, .groups, .slices, .micro, .cal, .rcd, .pwr, .nv, .tx]⟩ F = true) :
    F.leaves a₀ (rampFinish s p t) := by
  unfold rampFinish
  split
  · exact h
  · refine Foot.ite_leaves ?_ ?_
    · refine jHold_leaves ?_ (Foot.le_trans (by decide) hF)
      refine rampEnd_leaves ?_ (Foot.le_trans (by decide) hF)
      refine rampStop_leaves ?_ (Foot.le_trans (by decide) hF) (Foot.rec_floor hF (by decide))
      exact h
    · exact h

theorem disableNow_leaves {F : Foot} {a₀ : State} {s : State} {p : Nat} {t : Tick} (h : F.leaves a₀ s) (hF : Foot.le ⟨0x2380, [0x1220, 0x1221, 0x1222, 0x1223, 0x2000, 0x2001], [.ports, .groups, .slices, .micro, .fab, .scan, .spad, .mem, .cal, .net, .pcie, .rcd, .pwr, .nv, .tx]⟩ F = true) :
    F.leaves a₀ (disableNow s p t) := by
  unfold disableNow
  extract_lets +onlyGivenNames -merge -useContext -underBinder y0
  refine Foot.ite_leaves ?_ ?_
  · exact h
  · extract_lets +onlyGivenNames -merge -useContext -underBinder y1
    try clear_value y1
    extract_lets +onlyGivenNames -merge -useContext -underBinder y2
    have h2 : F.leaves a₀ y2 := by
      refine complStop_leaves ?_ (Foot.le_trans (by decide) hF)
      refine set_leaves ?_ (Foot.rec_key (Foot.rec_floor hF (by decide)))
      exact h
    try clear_value y2
    extract_lets +onlyGivenNames -merge -useContext -underBinder y3
    have h3 : F.leaves a₀ y3 := by
      refine seqOnLeave_leaves ?_ (Foot.le_trans (by decide) hF)
      refine trainStop_leaves ?_ (Foot.le_trans (by decide) hF) (Foot.rec_floor hF (by decide))
      exact h2
    try clear_value y3
    extract_lets +onlyGivenNames -merge -useContext -underBinder y4
    have h4 : F.leaves a₀ y4 := by
      refine closeLoop_leaves ?_ (Foot.le_trans (by decide) hF)
      refine closePrec_leaves ?_ (Foot.le_trans (by decide) hF)
      refine closeFast_leaves ?_ (Foot.le_trans (by decide) hF)
      exact h3
    try clear_value y4
    extract_lets +onlyGivenNames -merge -useContext -underBinder y5
    have h5 : F.leaves a₀ y5 := by
      refine modPx_leaves ?_ (Foot.le_trans (by decide) hF)
      exact h4
    try clear_value y5
    extract_lets +onlyGivenNames -merge -useContext -underBinder y6
    have h6 : F.leaves a₀ y6 := by
      refine syncSought_leaves ?_ (Foot.le_trans (by decide) hF) (Foot.rec_floor hF (by decide))
      exact h5
    try clear_value y6
    extract_lets +onlyGivenNames -merge -useContext -underBinder y7
    refine Foot.ite_leaves ?_ ?_
    · refine syncPort_leaves ?_ (Foot.le_trans (by decide) hF) (Foot.rec_floor hF (by decide))
      exact h6
    · extract_lets +onlyGivenNames -merge -useContext -underBinder y8
      have h8 : F.leaves a₀ y8 := by
        refine setBit_leaves ?_ (Foot.rec_key (Foot.rec_floor hF (by decide)))
        refine setFld_leaves ?_ (Foot.rec_key (Foot.rec_floor hF (by decide)))
        exact h6
      try clear_value y8
      refine Foot.ite_leaves ?_ ?_
      · refine jHold_leaves ?_ (Foot.le_trans (by decide) hF)
        refine gateOff_leaves ?_ (Foot.le_trans (by decide) hF)
        refine modForce_leaves ?_ (Foot.le_trans (by decide) hF)
        exact h8
      · refine jHold_leaves ?_ (Foot.le_trans (by decide) hF)
        refine rampStart_leaves ?_ (Foot.le_trans (by decide) hF)
        exact h8

theorem spanStart_leaves {F : Foot} {a₀ : State} {s : State} {p : Nat} {t : Tick} (h : F.leaves a₀ s) (hF : Foot.le ⟨0x3000, [0x2000, 0x2001], [.ports, .groups, .slices, .micro, .cal, .rcd, .pwr, .nv, .tx]⟩ F = true) :
    F.leaves a₀ (spanStart s p t) := by
  unfold spanStart
  extract_lets +onlyGivenNames -merge -useContext -underBinder y0
  try clear_value y0
  extract_lets +onlyGivenNames -merge -useContext -underBinder y1
  refine Foot.ite_leaves ?_ ?_
  · refine Foot.ite_leaves ?_ ?_
    · refine setBit_leaves ?_ (Foot.rec_key (Foot.rec_floor hF (by decide)))
      refine modForce_leaves ?_ (Foot.le_trans (by decide) hF)
      exact h
    · extract_lets +onlyGivenNames -merge -useContext -underBinder y2
      extract_lets +onlyGivenNames -merge -useContext -underBinder y3
      have h3 : F.leaves a₀ y3 := by
        refine modForce_leaves ?_ (Foot.le_trans (by decide) hF)
        exact h
      try clear_value y3
      extract_lets +onlyGivenNames -merge -useContext -underBinder y4
      have h4 : F.leaves a₀ y4 := by
        refine setBit_leaves ?_ (Foot.rec_key (Foot.rec_floor hF (by decide)))
        refine setFld_leaves ?_ (Foot.rec_key (Foot.rec_floor hF (by decide)))
        exact h3
      try clear_value y4
      refine jHold_leaves ?_ (Foot.le_trans (by decide) hF)
      refine resetCount_leaves ?_ (Foot.le_trans (by decide) hF)
      refine rampStart_leaves ?_ (Foot.le_trans (by decide) hF)
      exact h4
  · exact h

theorem spanSwitch_leaves {F : Foot} {a₀ : State} {s : State} {p : Nat} {t : Tick} (h : F.leaves a₀ s) (hF : Foot.le ⟨0x10000, [0x8000], [.ports, .rcd]⟩ F = true) (r0 : F.covers (0x4000 + p)) :
    F.leaves a₀ (spanSwitch s p t) := by
  unfold spanSwitch
  extract_lets +onlyGivenNames -merge -useContext -underBinder y0
  try clear_value y0
  extract_lets +onlyGivenNames -merge -useContext -underBinder y1
  have h1 : F.leaves a₀ y1 := by
    refine set_leaves ?_ (Foot.rec_key r0)
    exact h
  try clear_value y1
  extract_lets +onlyGivenNames -merge -useContext -underBinder y2
  have h2 : F.leaves a₀ y2 := by
    refine Foot.ite_leaves ?_ ?_
    · refine coreClear_leaves ?_ (Foot.le_trans (by decide) hF) r0
      exact h1
    · refine setCode_leaves ?_ (Foot.le_trans (by decide) hF) r0
      exact h1
  try clear_value y2
  refine setBit_leaves ?_ (Foot.rec_key r0)
  refine loadKstage_leaves ?_ (Foot.le_trans (by decide) hF) r0
  refine shaperReset_leaves ?_ (Foot.le_trans (by decide) hF)
  exact h2

theorem spanRelease_leaves {F : Foot} {a₀ : State} {s : State} {p : Nat} {t : Tick} (h : F.leaves a₀ s) (hF : Foot.le ⟨0x3000, [0x2000, 0x2001], [.ports, .groups, .slices, .micro, .cal, .rcd, .pwr, .nv, .tx]⟩ F = true) :
    F.leaves a₀ (spanRelease s p t) := by
  unfold spanRelease
  extract_lets +onlyGivenNames -merge -useContext -underBinder y0
  have h0 : F.leaves a₀ y0 := by
    refine spanSwitch_leaves ?_ (Foot.le_trans (by decide) hF) (Foot.rec_floor hF (by decide))
    exact h
  try clear_value y0
  refine Foot.ite_leaves ?_ ?_
  · refine gateOff_leaves ?_ (Foot.le_trans (by decide) hF)
    refine setFld_leaves ?_ (Foot.rec_key (Foot.rec_floor hF (by decide)))
    exact h0
  · refine Foot.ite_leaves ?_ ?_
    · refine syncPort_leaves ?_ (Foot.le_trans (by decide) hF) (Foot.rec_floor hF (by decide))
      refine spanDone_leaves ?_ (Foot.le_trans (by decide) hF) (Foot.rec_floor hF (by decide))
      exact h0
    · refine rampStart_leaves ?_ (Foot.le_trans (by decide) hF)
      refine setFld_leaves ?_ (Foot.rec_key (Foot.rec_floor hF (by decide)))
      exact h0

theorem clearPort_leaves {F : Foot} {a₀ : State} {s : State} {p : Nat} {t : Tick} (h : F.leaves a₀ s) (hF : Foot.le ⟨0x3000, [0x2000, 0x2001], [.ports, .groups, .slices, .micro, .cal, .rcd, .pwr, .nv, .tx]⟩ F = true) :
    F.leaves a₀ (clearPort s p t) := by
  unfold clearPort
  refine Foot.ite_leaves ?_ ?_
  · refine syncPort_leaves ?_ (Foot.le_trans (by decide) hF) (Foot.rec_floor hF (by decide))
    exact h
  · extract_lets +onlyGivenNames -merge -useContext -underBinder y0
    extract_lets +onlyGivenNames -merge -useContext -underBinder y1
    try clear_value y1
    extract_lets +onlyGivenNames -merge -useContext -underBinder y2
    extract_lets +onlyGivenNames -merge -useContext -underBinder y3
    have h3 : F.leaves a₀ y3 := by
      refine Foot.ite_leaves ?_ ?_
      · exact h
      · refine rampStop_leaves ?_ (Foot.le_trans (by decide) hF) (Foot.rec_floor hF (by decide))
        exact h
    try clear_value y3
    extract_lets +onlyGivenNames -merge -useContext -underBinder y4
    have h4 : F.leaves a₀ y4 := by
      refine coreClear_leaves ?_ (Foot.le_trans (by decide) hF) (Foot.rec_floor hF (by decide))
      exact h3
    try clear_value y4
    extract_lets +onlyGivenNames -merge -useContext -underBinder y5
    have h5 : F.leaves a₀ y5 := by
      refine Foot.ite_leaves ?_ ?_
      · exact h4
      · refine modForce_leaves ?_ (Foot.le_trans (by decide) hF)
        exact h4
    try clear_value y5
    extract_lets +onlyGivenNames -merge -useContext -underBinder y6
    have h6 : F.leaves a₀ y6 := by
      refine when_leaves ?_ fun z7 h7 => ?_
      · exact h5
      · refine setBit_leaves ?_ (Foot.rec_key (Foot.rec_floor hF (by decide)))
        exact h7
    try clear_value y6
    extract_lets +onlyGivenNames -merge -useContext -underBinder y8
    have h8 : F.leaves a₀ y8 := by
      refine when_leaves ?_ fun z9 h9 => ?_
      · exact h6
      · refine resetCount_leaves ?_ (Foot.le_trans (by decide) hF)
        exact h9
    try clear_value y8
    extract_lets +onlyGivenNames -merge -useContext -underBinder y10
    have h10 : F.leaves a₀ y10 := by
      refine Foot.ite_leaves ?_ ?_
      · refine spanDone_leaves ?_ (Foot.le_trans (by decide) hF) (Foot.rec_floor hF (by decide))
        exact h8
      · exact h8
    try clear_value y10
    extract_lets +onlyGivenNames -merge -useContext -underBinder y11
    have h11 : F.leaves a₀ y11 := by
      refine Foot.ite_leaves ?_ ?_
      · refine gateOff_leaves ?_ (Foot.le_trans (by decide) hF)
        refine setFld_leaves ?_ (Foot.rec_key (Foot.rec_floor hF (by decide)))
        exact h10
      · exact h10
    try clear_value y11
    refine syncPort_leaves ?_ (Foot.le_trans (by decide) hF) (Foot.rec_floor hF (by decide))
    refine jHold_leaves ?_ (Foot.le_trans (by decide) hF)
    exact h11

theorem fltActs_leaves {F : Foot} {a₀ : State} {s : State} {p : Nat} {t : Tick} (h : F.leaves a₀ s) (hF : Foot.le ⟨0x3000, [0x1220, 0x1221, 0x1222, 0x1223, 0x2000, 0x2001], [.ports, .groups, .slices, .micro, .fab, .cal, .net, .pcie, .rcd, .pwr, .nv, .tx]⟩ F = true) :
    F.leaves a₀ (fltActs s p t) := by
  unfold fltActs
  refine Foot.ite_leaves ?_ ?_
  · refine syncPort_leaves ?_ (Foot.le_trans (by decide) hF) (Foot.rec_floor hF (by decide))
    exact h
  · refine clearPort_leaves ?_ (Foot.le_trans (by decide) hF)
    refine trip_leaves ?_ (Foot.le_trans (by decide) hF) (Foot.rec_floor hF (by decide))
    exact h

theorem clearEnds_leaves {F : Foot} {a₀ : State} {s : State} {p : Nat} {t : Tick} (h : F.leaves a₀ s) (hF : Foot.le ⟨0x10000, [], [.ports, .tx]⟩ F = true) (r0 : F.covers (0x4000 + p)) :
    F.leaves a₀ (clearEnds s p t) := by
  unfold clearEnds
  refine Foot.ite_leaves ?_ ?_
  · refine syncPort_leaves ?_ (Foot.le_trans (by decide) hF) r0
    refine offOutput_leaves ?_ (Foot.le_trans (by decide) hF) r0
    exact h
  · refine syncPort_leaves ?_ (Foot.le_trans (by decide) hF) r0
    exact h

theorem releaseApply_leaves {F : Foot} {a₀ : State} {s : State} {p : Nat} {t : Tick} (h : F.leaves a₀ s) (hF : Foot.le ⟨0x3000, [0x2000, 0x2001], [.ports, .groups, .slices, .micro, .cal, .rcd, .pwr, .nv, .tx]⟩ F = true) :
    F.leaves a₀ (releaseApply s p t) := by
  unfold releaseApply
  refine Foot.ite_leaves ?_ ?_
  · refine setBit_leaves ?_ (Foot.rec_key (Foot.rec_floor hF (by decide)))
    exact h
  · refine Foot.ite_leaves ?_ ?_
    · exact h
    · extract_lets +onlyGivenNames -merge -useContext -underBinder y0
      have h0 : F.leaves a₀ y0 := by
        refine setBit_leaves ?_ (Foot.rec_key (Foot.rec_floor hF (by decide)))
        exact h
      try clear_value y0
      extract_lets +onlyGivenNames -merge -useContext -underBinder y1
      have h1 : F.leaves a₀ y1 := by
        refine blankTo_leaves ?_ (Foot.le_trans (by decide) hF)
        refine modForce_leaves ?_ (Foot.le_trans (by decide) hF)
        exact h0
      try clear_value y1
      refine jHold_leaves ?_ (Foot.le_trans (by decide) hF)
      refine rampStart_leaves ?_ (Foot.le_trans (by decide) hF)
      refine shaperReset_leaves ?_ (Foot.le_trans (by decide) hF)
      exact h1

/-! ### Measure -/

theorem modOvr_leaves {F : Foot} {a₀ : State} {s : State} {p : Nat} {v : Bool} {f : List Ovr → List Ovr} (h : F.leaves a₀ s) (hF : Foot.le ⟨0x10000, [], [.ports]⟩ F = true) :
    F.leaves a₀ (modOvr s p v f) := by
  unfold modOvr
  refine modMeas_leaves ?_ (Foot.le_trans (by decide) hF)
  exact h

theorem pruneMarks_leaves {F : Foot} {a₀ : State} {s : State} {p : Nat} {t : Tick} (h : F.leaves a₀ s) (hF : Foot.le ⟨0x10000, [], [.ports]⟩ F = true) :
    F.leaves a₀ (pruneMarks s p t) := by
  unfold pruneMarks
  extract_lets +onlyGivenNames -merge -useContext -underBinder y0
  try clear_value y0
  extract_lets +onlyGivenNames -merge -useContext -underBinder y1
  try clear_value y1
  refine modMeas_leaves ?_ (Foot.le_trans (by decide) hF)
  exact h

theorem ovrStart_leaves {F : Foot} {a₀ : State} {s : State} {p : Nat} {v : Bool} {neg : Bool} {t : Tick} (h : F.leaves a₀ s) (hF : Foot.le ⟨0x4000, [], [.ports, .rcd]⟩ F = true) :
    F.leaves a₀ (ovrStart s p v neg t) := by
  unfold ovrStart
  refine Foot.ite_leaves ?_ ?_
  · refine modOvr_leaves ?_ (Foot.le_trans (by decide) hF)
    exact h
  · extract_lets +onlyGivenNames -merge -useContext -underBinder y0
    try clear_value y0
    extract_lets +onlyGivenNames -merge -useContext -underBinder y1
    have h1 : F.leaves a₀ y1 := by
      refine modOvr_leaves ?_ (Foot.le_trans (by decide) hF)
      refine pruneMarks_leaves ?_ (Foot.le_trans (by decide) hF)
      exact h
    try clear_value y1
    extract_lets +onlyGivenNames -merge -useContext -underBinder y2
    have h2 : F.leaves a₀ y2 := by
      refine setBit_leaves ?_ (Foot.rec_key (Foot.rec_floor hF (by decide)))
      refine satInc_leaves ?_ (Foot.rec_ite (Foot.rec_key (Foot.rec_floor hF (by decide))) (Foot.rec_key (Foot.rec_floor hF (by decide))))
      exact h1
    try clear_value y2
    extract_lets +onlyGivenNames -merge -useContext -underBinder y3
    have h3 : F.leaves a₀ y3 := by
      refine jEdge_leaves ?_ (Foot.le_trans (by decide) hF)
      exact h2
    try clear_value y3
    refine when_leaves ?_ fun z4 h4 => ?_
    · exact h3
    · refine Foot.foldl_leaves ?_ fun z5 i5 h5 => ?_
      · exact h4
      · extract_lets +onlyGivenNames -merge -useContext -underBinder y6
        refine Foot.ite_leaves ?_ ?_
        · exact h5
        · refine setBit_leaves ?_ (Foot.rec_key (Foot.rec_floor hF (by decide)))
          refine satInc_leaves ?_ (Foot.rec_key (Foot.rec_floor hF (by decide)))
          exact h5

theorem ovrEnd_leaves {F : Foot} {a₀ : State} {s : State} {p : Nat} {v : Bool} {t : Tick} (h : F.leaves a₀ s) (hF : Foot.le ⟨0x10000, [0x8000], [.ports, .rcd]⟩ F = true) :
    F.leaves a₀ (ovrEnd s p v t) := by
  unfold ovrEnd
  refine Foot.ite_leaves ?_ ?_
  · refine jEdge_leaves ?_ (Foot.le_trans (by decide) hF)
    refine modOvr_leaves ?_ (Foot.le_trans (by decide) hF)
    exact h
  · exact h

theorem jFastFlush_leaves {F : Foot} {a₀ : State} {s : State} {p : Nat} (h : F.leaves a₀ s) (hF : Foot.le ⟨0x10000, [0x8000], [.rcd]⟩ F = true) :
    F.leaves a₀ (jFastFlush s p) := by
  unfold jFastFlush
  extract_lets +onlyGivenNames -merge -useContext -underBinder y0
  try clear_value y0
  refine Foot.ite_leaves ?_ ?_
  · exact h
  · extract_lets +onlyGivenNames -merge -useContext -underBinder y1
    try clear_value y1
    extract_lets +onlyGivenNames -merge -useContext -underBinder u2_0 y2
    have h2 : F.leaves a₀ y2 := by
      exact { h with rcd := .inl (Foot.part hF (by decide)) }
    try clear_value y2
    refine journal_leaves ?_ (Foot.le_trans (by decide) hF)
    exact h2

theorem jFast_leaves {F : Foot} {a₀ : State} {s : State} {p : Nat} {w : Nat} {t : Tick} (h : F.leaves a₀ s) (hF : Foot.le ⟨0x10000, [0x8000], [.rcd]⟩ F = true) :
    F.leaves a₀ (jFast s p w t) := by
  unfold jFast
  refine Foot.ite_leaves ?_ ?_
  · exact h
  · extract_lets +onlyGivenNames -merge -useContext -underBinder y0
    try clear_value y0
    extract_lets +onlyGivenNames -merge -useContext -underBinder y1
    try clear_value y1
    extract_lets +onlyGivenNames -merge -useContext -underBinder y2
    have h2 : F.leaves a₀ y2 := by
      refine Foot.ite_leaves ?_ ?_
      · refine jFastFlush_leaves ?_ (Foot.le_trans (by decide) hF)
        exact h
      · exact h
    try clear_value y2
    extract_lets +onlyGivenNames -merge -useContext -underBinder y3
    try clear_value y3
    extract_lets +onlyGivenNames -merge -useContext -underBinder u4_0 y4
    have h4 : F.leaves a₀ y4 := by
      refine Foot.ite_leaves ?_ ?_
      · exact { h2 with rcd := .inl (Foot.part hF (by decide)) }
      · exact h2
    try clear_value y4
    extract_lets +onlyGivenNames -merge -useContext -underBinder u5_0 y5
    have h5 : F.leaves a₀ y5 := by
      exact { h4 with rcd := .inl (Foot.part hF (by decide)) }
    try clear_value y5
    refine Foot.ite_leaves ?_ ?_
    · refine jFastFlush_leaves ?_ (Foot.le_trans (by decide) hF)
      exact h5
    · exact h5

theorem streamSample_leaves {F : Foot} {a₀ : State} {s : State} {p : Nat} {d : Decim} {halfV : Nat} {halfI : Nat} (h : F.leaves a₀ s) (hF : Foot.le ⟨0x2380, [], [.ports, .groups, .spad, .mem]⟩ F = true) :
    F.leaves a₀ (streamSample s p d halfV halfI) := by
  unfold streamSample
  extract_lets +onlyGivenNames -merge -useContext -underBinder y0
  have h0 : F.leaves a₀ y0 := by
    unfold y0
    split
    · refine Foot.ite_leaves ?_ ?_
      · refine closeFast_leaves ?_ (Foot.le_trans (by decide) hF)
        exact h
      · exact h
    · exact h
  try clear_value y0
  extract_lets +onlyGivenNames -merge -useContext -underBinder y1
  try clear_value y1
  extract_lets +onlyGivenNames -merge -useContext -underBinder y2
  have h2 : F.leaves a₀ y2 := by
    refine Foot.ite_leaves ?_ ?_
    · refine modMeas_leaves ?_ (Foot.le_trans (by decide) hF)
      exact h0
    · exact h0
  try clear_value y2
  extract_lets +onlyGivenNames -merge -useContext -underBinder y3
  refine Foot.ite_leaves ?_ ?_
  · refine fastWord_leaves ?_ (Foot.le_trans (by decide) hF)
    refine modMeas_leaves ?_ (Foot.le_trans (by decide) hF)
    exact h2
  · extract_lets +onlyGivenNames -merge -useContext -underBinder y4
    split
    · refine modMeas_leaves ?_ (Foot.le_trans (by decide) hF)
      exact h2
    · refine fastWord_leaves ?_ (Foot.le_trans (by decide) hF)
      refine modMeas_leaves ?_ (Foot.le_trans (by decide) hF)
      exact h2

theorem streamConversion_leaves {F : Foot} {a₀ : State} {s : State} {p : Nat} {cv : Int} {ci : Int} {ov : Option Bool} {oi : Option Bool} {rv : Bool} {ri : Bool} {nbr : Bool} {t : Tick} (h : F.leaves a₀ s) (hF : Foot.le ⟨0x2380, [], [.ports, .groups, .spad, .mem]⟩ F = true) :
    F.leaves a₀ (streamConversion s p cv ci ov oi rv ri nbr t) := by
  unfold streamConversion
  extract_lets +onlyGivenNames -merge -useContext -underBinder y0
  try clear_value y0
  extract_lets +onlyGivenNames -merge -useContext -underBinder y1
  try clear_value y1
  extract_lets +onlyGivenNames -merge -useContext -underBinder y2
  try clear_value y2
  extract_lets +onlyGivenNames -merge -useContext -underBinder y3
  try clear_value y3
  extract_lets +onlyGivenNames -merge -useContext -underBinder y4
  try clear_value y4
  refine Foot.ite_leaves ?_ ?_
  · refine modMeas_leaves ?_ (Foot.le_trans (by decide) hF)
    exact h
  · refine Foot.ite_leaves ?_ ?_
    · exact h
    · extract_lets +onlyGivenNames -merge -useContext -underBinder y5
      try clear_value y5
      extract_lets +onlyGivenNames -merge -useContext -underBinder y6
      try clear_value y6
      refine Foot.ite_leaves ?_ ?_
      · refine modMeas_leaves ?_ (Foot.le_trans (by decide) hF)
        exact h
      · extract_lets +onlyGivenNames -merge -useContext -underBinder y7
        try clear_value y7
        extract_lets +onlyGivenNames -merge -useContext -underBinder y8
        try clear_value y8
        refine streamSample_leaves ?_ (Foot.le_trans (by decide) hF)
        refine modMeas_leaves ?_ (Foot.le_trans (by decide) hF)
        exact h

theorem windowRoll_leaves {F : Foot} {a₀ : State} {s : State} {p : Nat} {t : Tick} (h : F.leaves a₀ s) (hF : Foot.le ⟨0x10000, [], [.ports]⟩ F = true) :
    F.leaves a₀ (windowRoll s p t) := by
  unfold windowRoll
  extract_lets +onlyGivenNames -merge -useContext -underBinder y0
  refine modLoop_leaves ?_ (Foot.le_trans (by decide) hF)
  exact h

theorem windowSample_leaves {F : Foot} {a₀ : State} {s : State} {p : Nat} {cv : Int} {ci : Int} {ov : Option Bool} {oi : Option Bool} {t : Tick} (h : F.leaves a₀ s) (hF : Foot.le ⟨0x10000, [], [.ports]⟩ F = true) :
    F.leaves a₀ (windowSample s p cv ci ov oi t) := by
  unfold windowSample
  extract_lets +onlyGivenNames -merge -useContext -underBinder y0
  have h0 : F.leaves a₀ y0 := by
    refine windowRoll_leaves ?_ (Foot.le_trans (by decide) hF)
    exact h
  try clear_value y0
  extract_lets +onlyGivenNames -merge -useContext -underBinder y1
  try clear_value y1
  extract_lets +onlyGivenNames -merge -useContext -underBinder y2
  try clear_value y2
  extract_lets +onlyGivenNames -merge -useContext -underBinder y3
  try clear_value y3
  refine Foot.ite_leaves ?_ ?_
  · refine modLoop_leaves ?_ (Foot.le_trans (by decide) hF)
    exact h0
  · refine modLoop_leaves ?_ (Foot.le_trans (by decide) hF)
    exact h0

theorem fastConv_leaves {F : Foot} {a₀ : State} {s : State} {p : Nat} {cv : Int} {ci : Int} {t : Tick} (h : F.leaves a₀ s) (hF : Foot.le ⟨0x2380, [], [.ports, .groups, .spad, .mem, .rcd]⟩ F = true) :
    F.leaves a₀ (fastConv s p cv ci t) := by
  unfold fastConv
  extract_lets +onlyGivenNames -merge -useContext -underBinder y0
  try clear_value y0
  extract_lets +onlyGivenNames -merge -useContext -underBinder y1
  try clear_value y1
  extract_lets +onlyGivenNames -merge -useContext -underBinder y2
  try clear_value y2
  extract_lets +onlyGivenNames -merge -useContext -underBinder y3
  try clear_value y3
  extract_lets +onlyGivenNames -merge -useContext -underBinder y4
  try clear_value y4
  extract_lets +onlyGivenNames -merge -useContext -underBinder y5
  try clear_value y5
  extract_lets +onlyGivenNames -merge -useContext -underBinder y6
  try clear_value y6
  extract_lets +onlyGivenNames -merge -useContext -underBinder y7
  try clear_value y7
  extract_lets +onlyGivenNames -merge -useContext -underBinder y8
  have h8 : F.leaves a₀ y8 := by
    refine windowSample_leaves ?_ (Foot.le_trans (by decide) hF)
    exact h
  try clear_value y8
  extract_lets +onlyGivenNames -merge -useContext -underBinder y9
  have h9 : F.leaves a₀ y9 := by
    refine jFast_leaves ?_ (Foot.le_trans (by decide) hF)
    exact h8
  try clear_value y9
  refine Foot.ite_leaves ?_ ?_
  · refine streamConversion_leaves ?_ (Foot.le_trans (by decide) hF)
    exact h9
  · exact h9

theorem fastSettings_leaves {F : Foot} {a₀ : State} {s : State} {p : Nat} {t : Tick} (h : F.leaves a₀ s) (hF : Foot.le ⟨0x2380, [], [.ports, .groups, .spad, .mem]⟩ F = true) :
    F.leaves a₀ (fastSettings s p t) := by
  unfold fastSettings
  extract_lets +onlyGivenNames -merge -useContext -underBinder y0
  try clear_value y0
  extract_lets +onlyGivenNames -merge -useContext -underBinder y1
  extract_lets +onlyGivenNames -merge -useContext -underBinder y2
  refine Foot.ite_leaves ?_ ?_
  · exact h
  · extract_lets +onlyGivenNames -merge -useContext -underBinder y3
    have h3 : F.leaves a₀ y3 := by
      refine closeFast_leaves ?_ (Foot.le_trans (by decide) hF)
      exact h
    try clear_value y3
    refine syncMeasStatus_leaves ?_ (Foot.le_trans (by decide) hF) (Foot.rec_floor hF (by decide))
    refine modMeas_leaves ?_ (Foot.le_trans (by decide) hF)
    exact h3

theorem precRecord_leaves {F : Foot} {a₀ : State} {s : State} {p : Nat} {r : RecPend} {value : Int} {tag : Nat} {t : Tick} (h : F.leaves a₀ s) (hF : Foot.le ⟨0x2380, [], [.ports, .groups, .spad, .mem]⟩ F = true) :
    F.leaves a₀ (precRecord s p r value tag t) := by
  unfold precRecord
  extract_lets +onlyGivenNames -merge -useContext -underBinder y0
  have h0 : F.leaves a₀ y0 := by
    unfold y0
    split
    · refine Foot.ite_leaves ?_ ?_
      · refine closePrec_leaves ?_ (Foot.le_trans (by decide) hF)
        exact h
      · exact h
    · exact h
  try clear_value y0
  extract_lets +onlyGivenNames -merge -useContext -underBinder y1
  have h1 : F.leaves a₀ y1 := by
    refine Foot.ite_leaves ?_ ?_
    · refine modMeas_leaves ?_ (Foot.le_trans (by decide) hF)
      exact h0
    · exact h0
  try clear_value y1
  extract_lets +onlyGivenNames -merge -useContext -underBinder y2
  try clear_value y2
  extract_lets +onlyGivenNames -merge -useContext -underBinder y3
  try clear_value y3
  extract_lets +onlyGivenNames -merge -useContext -underBinder y4
  try clear_value y4
  extract_lets +onlyGivenNames -merge -useContext -underBinder y5
  have h5 : F.leaves a₀ y5 := by
    refine modMeas_leaves ?_ (Foot.le_trans (by decide) hF)
    exact h1
  try clear_value y5
  refine Foot.ite_leaves ?_ ?_
  · refine closePrec_leaves ?_ (Foot.le_trans (by decide) hF)
    exact h5
  · exact h5

theorem cellWrite_leaves {F : Foot} {a₀ : State} {s : State} {cell : Nat} {w : List Nat} (h : F.leaves a₀ s) (hF : Foot.le ⟨0x10000, [], [.spad, .mem]⟩ F = true) :
    F.leaves a₀ (cellWrite s cell w) := by
  unfold cellWrite
  refine spadPutAll_leaves ?_ (Foot.le_trans (by decide) hF)
  exact h

theorem cellPut_leaves {F : Foot} {a₀ : State} {s : State} {cell : Nat} {w : List Nat} (h : F.leaves a₀ s) (hF : Foot.le ⟨0x10000, [], [.spad, .mem]⟩ F = true) :
    F.leaves a₀ (cellPut s cell w) := by
  unfold cellPut
  refine Foot.ite_leaves ?_ ?_
  · exact { h with mem := .inl (Foot.part hF (by decide)) }
  · refine cellWrite_leaves ?_ (Foot.le_trans (by decide) hF)
    exact h

theorem deliver_leaves {F : Foot} {a₀ : State} {s : State} {p : Nat} {v : Bool} {r : RecPend} {t : Tick} (h : F.leaves a₀ s) (hF : Foot.le ⟨0x2380, [], [.ports, .groups, .spad, .mem, .rcd]⟩ F = true) :
    F.leaves a₀ (deliver s p v r t) := by
  unfold deliver
  extract_lets +onlyGivenNames -merge -useContext -underBinder y0
  try clear_value y0
  extract_lets +onlyGivenNames -merge -useContext -underBinder y1
  try clear_value y1
  extract_lets +onlyGivenNames -merge -useContext -underBinder y2
  try clear_value y2
  extract_lets +onlyGivenNames -merge -useContext -underBinder y3
  try clear_value y3
  extract_lets +onlyGivenNames -merge -useContext -underBinder y4
  extract_lets +onlyGivenNames -merge -useContext -underBinder y5
  try clear_value y5
  extract_lets +onlyGivenNames -merge -useContext -underBinder y6
  try clear_value y6
  extract_lets +onlyGivenNames -merge -useContext -underBinder y7
  try clear_value y7
  extract_lets +onlyGivenNames -merge -useContext -underBinder y8
  try clear_value y8
  extract_lets +onlyGivenNames -merge -useContext -underBinder y9
  extract_lets +onlyGivenNames -merge -useContext -underBinder y10
  try clear_value y10
  extract_lets +onlyGivenNames -merge -useContext -underBinder y11
  try clear_value y11
  extract_lets +onlyGivenNames -merge -useContext -underBinder y12
  extract_lets +onlyGivenNames -merge -useContext -underBinder y13
  have h13 : F.leaves a₀ y13 := by
    refine cellPut_leaves ?_ (Foot.le_trans (by decide) hF)
    exact h
  try clear_value y13
  extract_lets +onlyGivenNames -merge -useContext -underBinder y14
  have h14 : F.leaves a₀ y14 := by
    refine set_leaves ?_ (Foot.rec_key (Foot.rec_floor hF (by decide)))
    exact h13
  try clear_value y14
  extract_lets +onlyGivenNames -merge -useContext -underBinder y15
  have h15 : F.leaves a₀ y15 := by
    refine journal_leaves ?_ (Foot.le_trans (by decide) hF)
    refine precRecord_leaves ?_ (Foot.le_trans (by decide) hF)
    exact h14
  try clear_value y15
  refine Foot.ite_leaves ?_ ?_
  · refine modMeas_leaves ?_ (Foot.le_trans (by decide) hF)
    exact h15
  · exact h15

theorem recordOut_leaves {F : Foot} {a₀ : State} {s : State} {p : Nat} {t : Tick} (h : F.leaves a₀ s) (hF : Foot.le ⟨0x2380, [], [.ports, .groups, .spad, .mem, .rcd]⟩ F = true) :
    F.leaves a₀ (recordOut s p t) := by
  unfold recordOut
  split
  · exact h
  · extract_lets +onlyGivenNames -merge -useContext -underBinder y0
    try clear_value y0
    extract_lets +onlyGivenNames -merge -useContext -underBinder y1
    try clear_value y1
    extract_lets +onlyGivenNames -merge -useContext -underBinder y2
    have h2 : F.leaves a₀ y2 := by
      refine when_leaves ?_ fun z3 h3 => ?_
      · exact h
      · refine modMeas_leaves ?_ (Foot.le_trans (by decide) hF)
        exact h3
    try clear_value y2
    extract_lets +onlyGivenNames -merge -useContext -underBinder y4
    have h4 : F.leaves a₀ y4 := by
      refine when_leaves ?_ fun z5 h5 => ?_
      · exact h2
      · refine deliver_leaves ?_ (Foot.le_trans (by decide) hF)
        exact h5
    try clear_value y4
    extract_lets +onlyGivenNames -merge -useContext -underBinder y6
    have h6 : F.leaves a₀ y6 := by
      refine when_leaves ?_ fun z7 h7 => ?_
      · exact h4
      · refine deliver_leaves ?_ (Foot.le_trans (by decide) hF)
        exact h7
    try clear_value y6
    extract_lets +onlyGivenNames -merge -useContext -underBinder y8
    have h8 : F.leaves a₀ y8 := by
      refine when_leaves ?_ fun z9 h9 => ?_
      · exact h6
      · refine closePrec_leaves ?_ (Foot.le_trans (by decide) hF)
        exact h9
    try clear_value y8
    extract_lets +onlyGivenNames -merge -useContext -underBinder y10
    have h10 : F.leaves a₀ y10 := by
      refine pruneMarks_leaves ?_ (Foot.le_trans (by decide) hF)
      refine modMeas_leaves ?_ (Foot.le_trans (by decide) hF)
      exact h8
    try clear_value y10
    refine when_leaves ?_ fun z11 h11 => ?_
    · exact h10
    · refine redoPoint_leaves ?_ (Foot.le_trans (by decide) hF)
      exact h11

theorem closeWindow_leaves {F : Foot} {a₀ : State} {s : State} {p : Nat} {w : PrecWin} {xv : List W40} {xi : List W40} {t : Tick} (h : F.leaves a₀ s) (hF : Foot.le ⟨0x6000, [], [.ports, .micro]⟩ F = true) (r0 : F.covers (0x4000 + p)) :
    F.leaves a₀ (closeWindow s p w xv xi t) := by
  unfold closeWindow
  extract_lets +onlyGivenNames -merge -useContext -underBinder y0
  extract_lets +onlyGivenNames -merge -useContext -underBinder y1
  try clear_value y1
  extract_lets +onlyGivenNames -merge -useContext -underBinder y2
  try clear_value y2
  extract_lets +onlyGivenNames -merge -useContext -underBinder y3
  try clear_value y3
  extract_lets +onlyGivenNames -merge -useContext -underBinder y4
  try clear_value y4
  extract_lets +onlyGivenNames -merge -useContext -underBinder y5
  try clear_value y5
  extract_lets +onlyGivenNames -merge -useContext -underBinder y6
  try clear_value y6
  extract_lets +onlyGivenNames -merge -useContext -underBinder y7
  try clear_value y7
  extract_lets +onlyGivenNames -merge -useContext -underBinder y8
  try clear_value y8
  extract_lets +onlyGivenNames -merge -useContext -underBinder y9
  try clear_value y9
  extract_lets +onlyGivenNames -merge -useContext -underBinder y10
  try clear_value y10
  extract_lets +onlyGivenNames -merge -useContext -underBinder y11
  have h11 : F.leaves a₀ y11 := by
    refine set_leaves ?_ (Foot.rec_key r0)
    refine set_leaves ?_ (Foot.rec_key r0)
    refine set_leaves ?_ (Foot.rec_key r0)
    refine set_leaves ?_ (Foot.rec_key r0)
    exact h
  try clear_value y11
  extract_lets +onlyGivenNames -merge -useContext -underBinder y12
  have h12 : F.leaves a₀ y12 := by
    refine later_leaves ?_ (Foot.le_trans (by decide) hF)
    refine modMeas_leaves ?_ (Foot.le_trans (by decide) hF)
    exact h11
  try clear_value y12
  split
  · refine openFree_leaves ?_ (Foot.le_trans (by decide) hF) r0
    exact h12
  · refine Foot.ite_leaves ?_ ?_
    · exact h12
    · refine Foot.ite_leaves ?_ ?_
      · refine redoPoint_leaves ?_ (Foot.le_trans (by decide) hF)
        exact h12
      · extract_lets +onlyGivenNames -merge -useContext -underBinder y13
        have h13 : F.leaves a₀ y13 := by
          refine modPoint_leaves ?_ (Foot.le_trans (by decide) hF)
          exact h12
        try clear_value y13
        refine Foot.ite_leaves ?_ ?_
        · refine openWin_leaves ?_ (Foot.le_trans (by decide) hF) r0
          exact h13
        · refine setPhase_leaves ?_ (Foot.le_trans (by decide) hF)
          exact h13

/-! ### FabCore -/

theorem trigDrive_leaves {F : Foot} {a₀ : State} {s : State} {n : Nat} (h : F.leaves a₀ s) (hF : Foot.le ⟨0x10000, [], [.tx]⟩ F = true) :
    F.leaves a₀ (trigDrive s n) := by
  unfold trigDrive
  refine out_leaves ?_ (Foot.le_trans (by decide) hF)
  exact h

theorem markFrom_leaves {F : Foot} {a₀ : State} {s : State} {t : Tick} {ch : Nat} {mark : Nat} (h : F.leaves a₀ s) (hF : Foot.le ⟨0x10000, [], [.fab]⟩ F = true) :
    F.leaves a₀ (markFrom s t ch mark) := by
  unfold markFrom
  refine modFab_leaves ?_ (Foot.le_trans (by decide) hF)
  exact h

theorem flagChannels_leaves {F : Foot} {a₀ : State} {s : State} {b : Nat} {l : List (Nat × Nat)} (h : F.leaves a₀ s) (hF : Foot.le ⟨0x5000, [], []⟩ F = true) :
    F.leaves a₀ (flagChannels s b l) := by
  unfold flagChannels
  refine Foot.foldl_leaves ?_ fun z0 i0 h0 => ?_
  · exact h
  · refine setBit_leaves ?_ (Foot.rec_key (Foot.rec_floor hF (by decide)))
    exact h0

theorem takePort_leaves {F : Foot} {a₀ : State} {s : State} {p : Nat} {kind : Nat} {t : Tick} (h : F.leaves a₀ s) (hF : Foot.le ⟨0x5000, [], [.fab]⟩ F = true) (r0 : F.covers (0x4000 + p)) :
    F.leaves a₀ (takePort s p kind t).2 := by
  unfold takePort
  extract_lets +onlyGivenNames -merge -useContext -underBinder y0
  extract_lets +onlyGivenNames -merge -useContext -underBinder y1
  extract_lets +onlyGivenNames -merge -useContext -underBinder y2
  extract_lets +onlyGivenNames -merge -useContext -underBinder y3
  try clear_value y3
  extract_lets +onlyGivenNames -merge -useContext -underBinder y4
  have h4 : F.leaves a₀ y4 := by
    refine markFrom_leaves ?_ (Foot.le_trans (by decide) hF)
    refine markFrom_leaves ?_ (Foot.le_trans (by decide) hF)
    exact h
  try clear_value y4
  split
  · exact h4
  · split
    · dsimp only
      refine flagChannels_leaves ?_ (Foot.le_trans (by decide) hF)
      refine set_leaves ?_ (Foot.rec_key r0)
      refine satInc_leaves ?_ (Foot.rec_key r0)
      exact h4
    · exact h4

/-! ### Seq -/

theorem syncQueue_leaves {F : Foot} {a₀ : State} {s : State} {p : Nat} (h : F.leaves a₀ s) (hF : Foot.le ⟨0x10000, [0x2400], []⟩ F = true) (r0 : F.covers (0x4000 + p)) :
    F.leaves a₀ (syncQueue s p) := by
  unfold syncQueue
  extract_lets +onlyGivenNames -merge -useContext -underBinder y0
  extract_lets +onlyGivenNames -merge -useContext -underBinder y1
  extract_lets +onlyGivenNames -merge -useContext -underBinder y2
  have h2 : F.leaves a₀ y2 := by
    refine set_leaves ?_ (Foot.rec_key r0)
    refine set_leaves ?_ (Foot.rec_key r0)
    exact h
  try clear_value y2
  refine set_leaves ?_ (Foot.rec_const hF (by decide))
  exact h2

theorem enqueue_leaves {F : Foot} {a₀ : State} {s : State} {c : Nat} {t : Tick} (h : F.leaves a₀ s) (hF : Foot.le ⟨0x4000, [0x2000, 0x2400], [.ports, .od, .nv]⟩ F = true) :
    F.leaves a₀ (enqueue s c t) := by
  unfold enqueue
  extract_lets +onlyGivenNames -merge -useContext -underBinder y0
  extract_lets +onlyGivenNames -merge -useContext -underBinder y1
  extract_lets +onlyGivenNames -merge -useContext -underBinder y2
  have h2 : F.leaves a₀ y2 := by
    refine set_leaves ?_ (Foot.rec_key (Foot.rec_floor hF (by decide)))
    refine set_leaves ?_ (Foot.rec_key (Foot.rec_floor hF (by decide)))
    refine set_leaves ?_ (Foot.rec_key (Foot.rec_floor hF (by decide)))
    refine set_leaves ?_ (Foot.rec_key (Foot.rec_floor hF (by decide)))
    refine set_leaves ?_ (Foot.rec_key (Foot.rec_floor hF (by decide)))
    exact h
  try clear_value y2
  extract_lets +onlyGivenNames -merge -useContext -underBinder y3
  have h3 : F.leaves a₀ y3 := by
    refine Foot.ite_leaves ?_ ?_
    · refine leaveConfig_leaves ?_ (Foot.le_trans (by decide) hF)
      refine satInc_leaves ?_ (Foot.rec_key (Foot.rec_floor hF (by decide)))
      exact h2
    · exact h2
  try clear_value y3
  extract_lets +onlyGivenNames -merge -useContext -underBinder y4
  have h4 : F.leaves a₀ y4 := by
    refine leaveConfig_leaves ?_ (Foot.le_trans (by decide) hF)
    exact h3
  try clear_value y4
  refine syncQueue_leaves ?_ (Foot.le_trans (by decide) hF) (Foot.rec_floor hF (by decide))
  refine modSeq_leaves ?_ (Foot.le_trans (by decide) hF)
  exact h4

theorem leaveQueue_leaves {F : Foot} {a₀ : State} {s : State} {p : Nat} {c : Nat} {st : Nat} (h : F.leaves a₀ s) (hF : Foot.le ⟨0x7000, [0x2400], [.ports]⟩ F = true) (r0 : F.covers (0x6000 + c)) (r1 : F.covers (0x4000 + p)) :
    F.leaves a₀ (leaveQueue s p c st) := by
  unfold leaveQueue
  extract_lets +onlyGivenNames -merge -useContext -underBinder y0
  try clear_value y0
  extract_lets +onlyGivenNames -merge -useContext -underBinder y1
  extract_lets +onlyGivenNames -merge -useContext -underBinder y2
  have h2 : F.leaves a₀ y2 := by
    refine set_leaves ?_ (Foot.rec_key r0)
    refine set_leaves ?_ (Foot.rec_key r0)
    refine set_leaves ?_ (Foot.rec_key r0)
    exact h
  try clear_value y2
  extract_lets +onlyGivenNames -merge -useContext -underBinder y3
  have h3 : F.leaves a₀ y3 := by
    refine Foot.ite_leaves ?_ ?_
    · refine set_leaves ?_ (Foot.rec_key (Foot.rec_floor hF (by decide)))
      exact h2
    · exact h2
  try clear_value y3
  extract_lets +onlyGivenNames -merge -useContext -underBinder y4
  have h4 : F.leaves a₀ y4 := by
    refine modSeq_leaves ?_ (Foot.le_trans (by decide) hF)
    exact h3
  try clear_value y4
  refine syncQueue_leaves ?_ (Foot.le_trans (by decide) hF) r1
  exact h4

theorem pointBegin_leaves {F : Foot} {a₀ : State} {s : State} {p : Nat} {c : Nat} {k : Nat} {sel : Tick} {tps : Tick} {first : Bool} (h : F.leaves a₀ s) (hF : Foot.le ⟨0x6000, [], [.ports, .scan]⟩ F = true) :
    F.leaves a₀ (pointBegin s p c k sel tps first) := by
  unfold pointBegin
  extract_lets +onlyGivenNames -merge -useContext -underBinder y0
  have h0 : F.leaves a₀ y0 := by
    refine modSeq_leaves ?_ (Foot.le_trans (by decide) hF)
    exact h
  try clear_value y0
  extract_lets +onlyGivenNames -merge -useContext -underBinder y1
  extract_lets +onlyGivenNames -merge -useContext -underBinder y2
  extract_lets +onlyGivenNames -merge -useContext -underBinder y3
  have h3 : F.leaves a₀ y3 := by
    refine set_leaves ?_ (Foot.rec_key (Foot.rec_floor hF (by decide)))
    exact h0
  try clear_value y3
  refine Foot.ite_leaves ?_ ?_
  · refine Foot.ite_leaves ?_ ?_
    · refine setPhase_leaves ?_ (Foot.le_trans (by decide) hF)
      refine modPoint_leaves ?_ (Foot.le_trans (by decide) hF)
      exact h3
    · refine startScan_leaves ?_ (Foot.le_trans (by decide) hF)
      exact h3
  · refine setPhase_leaves ?_ (Foot.le_trans (by decide) hF)
    refine modPoint_leaves ?_ (Foot.le_trans (by decide) hF)
    exact h3

theorem select_leaves {F : Foot} {a₀ : State} {s : State} {p : Nat} {t : Tick} (h : F.leaves a₀ s) (hF : Foot.le ⟨0x6000, [0x2400], [.ports, .scan]⟩ F = true) (r0 : F.covers (0x4000 + p)) :
    F.leaves a₀ (select s p t) := by
  unfold select
  extract_lets +onlyGivenNames -merge -useContext -underBinder y0
  try clear_value y0
  refine Foot.ite_leaves ?_ ?_
  · exact h
  · split
    · exact h
    · extract_lets +onlyGivenNames -merge -useContext -underBinder y1
      extract_lets +onlyGivenNames -merge -useContext -underBinder y2
      have h2 : F.leaves a₀ y2 := by
        refine modSeq_leaves ?_ (Foot.le_trans (by decide) hF)
        exact h
      try clear_value y2
      refine syncQueue_leaves ?_ (Foot.le_trans (by decide) hF) r0
      refine pointBegin_leaves ?_ (Foot.le_trans (by decide) hF)
      refine set_leaves ?_ (Foot.rec_key (Foot.rec_floor hF (by decide)))
      exact h2

theorem selectAt_leaves {F : Foot} {a₀ : State} {s : State} {p : Nat} {t : Tick} (h : F.leaves a₀ s) (hF : Foot.le ⟨0x10000, [], [.micro]⟩ F = true) :
    F.leaves a₀ (selectAt s p t) := by
  unfold selectAt
  refine later_leaves ?_ (Foot.le_trans (by decide) hF)
  exact h

theorem pointRewrite_leaves {F : Foot} {a₀ : State} {s : State} {l : Nat} {k : Nat} (h : F.leaves a₀ s) (hF : Foot.le ⟨0x10000, [], [.spad, .mem]⟩ F = true) :
    F.leaves a₀ (pointRewrite s l k) := by
  unfold pointRewrite
  extract_lets +onlyGivenNames -merge -useContext -underBinder y0
  refine Foot.foldl_leaves ?_ fun z1 i1 h1 => ?_
  · exact h
  · refine Foot.ite_leaves ?_ ?_
    · split
      · refine spadPut_leaves ?_ (Foot.le_trans (by decide) hF)
        exact h1
      · exact h1
    · exact h1

theorem pointRetry_leaves {F : Foot} {a₀ : State} {s : State} {c : Nat} {k : Nat} (h : F.leaves a₀ s) (hF : Foot.le ⟨0x10000, [], [.spad, .mem]⟩ F = true) :
    F.leaves a₀ (pointRetry s c k) := by
  unfold pointRetry
  extract_lets +onlyGivenNames -merge -useContext -underBinder y0
  extract_lets +onlyGivenNames -merge -useContext -underBinder y1
  have h1 : F.leaves a₀ y1 := by
    refine pointRewrite_leaves ?_ (Foot.le_trans (by decide) hF)
    exact h
  try clear_value y1
  exact { h1 with mem := .inl (Foot.part hF (by decide)) }

theorem slotTake_leaves {F : Foot} {a₀ : State} {s : State} {p : Nat} {x : Option Slot} (h : F.leaves a₀ s) (hF : Foot.le ⟨0x10000, [], [.ports]⟩ F = true) (r0 : F.covers (0x4000 + p)) :
    F.leaves a₀ (slotTake s p x) := by
  unfold slotTake
  extract_lets +onlyGivenNames -merge -useContext -underBinder y0
  try clear_value y0
  extract_lets +onlyGivenNames -merge -useContext -underBinder y1
  have h1 : F.leaves a₀ y1 := by
    refine rangeRules_leaves ?_ (Foot.le_trans (by decide) hF)
    refine modLoopY_leaves ?_ (Foot.le_trans (by decide) hF)
    exact h
  try clear_value y1
  refine when_leaves ?_ fun z2 h2 => ?_
  · exact h1
  · refine rngEvent_leaves ?_ (Foot.le_trans (by decide) hF) r0
    exact h2

theorem pointLoad_leaves {F : Foot} {a₀ : State} {s : State} {p : Nat} {q : Point} {t : Tick} (h : F.leaves a₀ s) (hF : Foot.le ⟨0x5000, [0x1220, 0x1221, 0x1222, 0x1223], [.ports, .fab, .net, .pcie, .rcd]⟩ F = true) (r0 : F.covers (0x4000 + p)) :
    F.leaves a₀ (pointLoad s p q t) := by
  unfold pointLoad
  extract_lets +onlyGivenNames -merge -useContext -underBinder y0
  extract_lets +onlyGivenNames -merge -useContext -underBinder y1
  extract_lets +onlyGivenNames -merge -useContext -underBinder y2
  try clear_value y2
  extract_lets +onlyGivenNames -merge -useContext -underBinder y3
  extract_lets +onlyGivenNames -merge -useContext -underBinder y4
  have h4 : F.leaves a₀ y4 := by
    refine discardWin_leaves ?_ (Foot.le_trans (by decide) hF)
    exact h
  try clear_value y4
  extract_lets +onlyGivenNames -merge -useContext -underBinder y5
  have h5 : F.leaves a₀ y5 := by
    refine slotTake_leaves ?_ (Foot.le_trans (by decide) hF) r0
    exact h4
  try clear_value y5
  extract_lets +onlyGivenNames -merge -useContext -underBinder y6
  have h6 : F.leaves a₀ y6 := by
    refine modPoint_leaves ?_ (Foot.le_trans (by decide) hF)
    exact h5
  try clear_value y6
  extract_lets +onlyGivenNames -merge -useContext -underBinder y7
  have h7 : F.leaves a₀ y7 := by
    refine setPhase_leaves ?_ (Foot.le_trans (by decide) hF)
    refine wrapInc_leaves ?_ (Foot.rec_key r0)
    exact h6
  try clear_value y7
  refine produce_leaves ?_ (Foot.le_trans (by decide) hF)
  refine deriveLimits_leaves ?_ (Foot.le_trans (by decide) hF) r0
  exact h7

theorem seqAtBoundary_leaves {F : Foot} {a₀ : State} {s : State} {p : Nat} {t : Tick} (h : F.leaves a₀ s) (hF : Foot.le ⟨0x5000, [0x1220, 0x1221, 0x1222, 0x1223], [.ports, .micro, .fab, .spad, .mem, .net, .pcie, .rcd]⟩ F = true) (r0 : F.covers (0x4000 + p)) :
    F.leaves a₀ (seqAtBoundary s p t) := by
  unfold seqAtBoundary
  split
  · refine Foot.ite_leaves ?_ ?_
    · refine openFree_leaves ?_ (Foot.le_trans (by decide) hF) r0
      refine deriveLimits_leaves ?_ (Foot.le_trans (by decide) hF) r0
      refine slotTake_leaves ?_ (Foot.le_trans (by decide) hF) r0
      refine modSeq_leaves ?_ (Foot.le_trans (by decide) hF)
      exact h
    · exact h
  · refine Foot.ite_leaves ?_ ?_
    · refine Foot.ite_leaves ?_ ?_
      · extract_lets +onlyGivenNames -merge -useContext -underBinder y0
        try clear_value y0
        extract_lets +onlyGivenNames -merge -useContext -underBinder y1
        try clear_value y1
        refine deriveLimits_leaves ?_ (Foot.le_trans (by decide) hF) r0
        refine modPoint_leaves ?_ (Foot.le_trans (by decide) hF)
        refine slotTake_leaves ?_ (Foot.le_trans (by decide) hF) r0
        exact h
      · refine Foot.ite_leaves ?_ ?_
        · refine Foot.ite_leaves ?_ ?_
          · refine pointRetry_leaves ?_ (Foot.le_trans (by decide) hF)
            exact h
          · refine pointLoad_leaves ?_ (Foot.le_trans (by decide) hF) r0
            exact h
        · exact h
    · exact h

theorem settleMet_leaves {F : Foot} {a₀ : State} {s : State} {p : Nat} {t : Tick} (h : F.leaves a₀ s) (hF : Foot.le ⟨0x6000, [], [.ports]⟩ F = true) :
    F.leaves a₀ (settleMet s p t) := by
  unfold settleMet
  refine setPhase_leaves ?_ (Foot.le_trans (by decide) hF)
  refine modPoint_leaves ?_ (Foot.le_trans (by decide) hF)
  exact h

theorem seqTick_leaves {F : Foot} {a₀ : State} {s : State} {p : Nat} {ran : Bool} {slew : Bool} {sel : Nat} {T : Int} {t : Tick} (h : F.leaves a₀ s) (hF : Foot.le ⟨0x6000, [], [.ports, .scan]⟩ F = true) :
    F.leaves a₀ (seqTick s p ran slew sel T t) := by
  unfold seqTick
  split
  · exact h
  · extract_lets +onlyGivenNames -merge -useContext -underBinder y0
    try clear_value y0
    refine Foot.ite_leaves ?_ ?_
    · refine Foot.ite_leaves ?_ ?_
      · refine Foot.ite_leaves ?_ ?_
        · refine startScan_leaves ?_ (Foot.le_trans (by decide) hF)
          exact h
        · refine modPoint_leaves ?_ (Foot.le_trans (by decide) hF)
          exact h
      · refine modPoint_leaves ?_ (Foot.le_trans (by decide) hF)
        exact h
    · refine Foot.ite_leaves ?_ ?_
      · exact h
      · refine Foot.ite_leaves ?_ ?_
        · refine resetCount_leaves ?_ (Foot.le_trans (by decide) hF)
          exact h
        · extract_lets +onlyGivenNames -merge -useContext -underBinder y1
          extract_lets +onlyGivenNames -merge -useContext -underBinder y2
          extract_lets +onlyGivenNames -merge -useContext -underBinder y3
          refine Foot.ite_leaves ?_ ?_
          · refine settleMet_leaves ?_ (Foot.le_trans (by decide) hF)
            exact h
          · refine Foot.ite_leaves ?_ ?_
            · extract_lets +onlyGivenNames -merge -useContext -underBinder y4
              try clear_value y4
              extract_lets +onlyGivenNames -merge -useContext -underBinder y5
              try clear_value y5
              extract_lets +onlyGivenNames -merge -useContext -underBinder y6
              try clear_value y6
              refine Foot.ite_leaves ?_ ?_
              · extract_lets +onlyGivenNames -merge -useContext -underBinder y7
                have h7 : F.leaves a₀ y7 := by
                  refine modPoint_leaves ?_ (Foot.le_trans (by decide) hF)
                  exact h
                try clear_value y7
                refine Foot.ite_leaves ?_ ?_
                · refine settleMet_leaves ?_ (Foot.le_trans (by decide) hF)
                  exact h7
                · exact h7
              · extract_lets +onlyGivenNames -merge -useContext -underBinder y8
                have h8 : F.leaves a₀ y8 := by
                  refine modPoint_leaves ?_ (Foot.le_trans (by decide) hF)
                  exact h
                try clear_value y8
                refine Foot.ite_leaves ?_ ?_
                · refine settleMet_leaves ?_ (Foot.le_trans (by decide) hF)
                  exact h8
                · exact h8
            · extract_lets +onlyGivenNames -merge -useContext -underBinder y9
              try clear_value y9
              extract_lets +onlyGivenNames -merge -useContext -underBinder y10
              try clear_value y10
              extract_lets +onlyGivenNames -merge -useContext -underBinder y11
              try clear_value y11
              extract_lets +onlyGivenNames -merge -useContext -underBinder y12
              try clear_value y12
              refine Foot.ite_leaves ?_ ?_
              · extract_lets +onlyGivenNames -merge -useContext -underBinder y13
                have h13 : F.leaves a₀ y13 := by
                  refine modPoint_leaves ?_ (Foot.le_trans (by decide) hF)
                  exact h
                try clear_value y13
                refine Foot.ite_leaves ?_ ?_
                · refine settleMet_leaves ?_ (Foot.le_trans (by decide) hF)
                  exact h13
                · exact h13
              · refine resetCount_leaves ?_ (Foot.le_trans (by decide) hF)
                exact h

theorem armPoint_leaves {F : Foot} {a₀ : State} {s : State} {p : Nat} {t : Tick} {gen : Nat} (h : F.leaves a₀ s) (hF : Foot.le ⟨0x6000, [], [.ports]⟩ F = true) :
    F.leaves a₀ (armPoint s p t gen) := by
  unfold armPoint
  split
  · exact h
  · refine Foot.ite_leaves ?_ ?_
    · exact h
    · refine Foot.ite_leaves ?_ ?_
      · refine setBit_leaves ?_ (Foot.rec_key (Foot.rec_floor hF (by decide)))
        exact h
      · refine modPoint_leaves ?_ (Foot.le_trans (by decide) hF)
        exact h

theorem pointInstant_leaves {F : Foot} {a₀ : State} {s : State} {p : Nat} {q : Point} {tp : Tick} (h : F.leaves a₀ s) (hF : Foot.le ⟨0x5000, [0x1220, 0x1221, 0x1222, 0x1223], [.ports, .fab, .net, .pcie, .rcd, .tx]⟩ F = true) (r0 : F.covers (0x4000 + p)) :
    F.leaves a₀ (pointInstant s p q tp) := by
  unfold pointInstant
  extract_lets +onlyGivenNames -merge -useContext -underBinder y0
  have h0 : F.leaves a₀ y0 := by
    refine produce_leaves ?_ (Foot.le_trans (by decide) hF)
    exact h
  try clear_value y0
  extract_lets +onlyGivenNames -merge -useContext -underBinder y1
  have h1 : F.leaves a₀ y1 := by
    refine modPoint_leaves ?_ (Foot.le_trans (by decide) hF)
    refine modMeas_leaves ?_ (Foot.le_trans (by decide) hF)
    exact h0
  try clear_value y1
  extract_lets +onlyGivenNames -merge -useContext -underBinder y2
  have h2 : F.leaves a₀ y2 := by
    refine setPhase_leaves ?_ (Foot.le_trans (by decide) hF)
    exact h1
  try clear_value y2
  extract_lets +onlyGivenNames -merge -useContext -underBinder y3
  try clear_value y3
  extract_lets +onlyGivenNames -merge -useContext -underBinder y4
  try clear_value y4
  extract_lets +onlyGivenNames -merge -useContext -underBinder y5
  try clear_value y5
  extract_lets +onlyGivenNames -merge -useContext -underBinder y6
  have h6 : F.leaves a₀ y6 := by
    refine when_leaves ?_ fun z7 h7 => ?_
    · exact h2
    · refine setBit_leaves ?_ (Foot.rec_key (Foot.rec_floor hF (by decide)))
      exact h7
  try clear_value y6
  extract_lets +onlyGivenNames -merge -useContext -underBinder y8
  extract_lets +onlyGivenNames -merge -useContext -underBinder y9
  have h9 : F.leaves a₀ y9 := by
    unfold y9 y8
    split
    · refine eventStart_leaves ?_ (Foot.le_trans (by decide) hF) r0
      exact h6
    · split
      · refine eventStart_leaves ?_ (Foot.le_trans (by decide) hF) r0
        exact h6
      · exact h6
  try clear_value y9
  refine Foot.ite_leaves ?_ ?_
  · refine redoPoint_leaves ?_ (Foot.le_trans (by decide) hF)
    exact h9
  · extract_lets +onlyGivenNames -merge -useContext -underBinder y10
    have h10 : F.leaves a₀ y10 := by
      refine modPoint_leaves ?_ (Foot.le_trans (by decide) hF)
      exact h9
    try clear_value y10
    refine Foot.ite_leaves ?_ ?_
    · refine setPhase_leaves ?_ (Foot.le_trans (by decide) hF)
      exact h10
    · refine openWin_leaves ?_ (Foot.le_trans (by decide) hF) r0
      exact h10

theorem engForm_leaves {F : Foot} {a₀ : State} {s : State} {p : Nat} {q : Point} (h : F.leaves a₀ s) (hF : Foot.le ⟨0x10000, [], []⟩ F = true) (r0 : F.covers (0x6000 + q.ctx)) :
    F.leaves a₀ (engForm s p q) := by
  unfold engForm
  refine Foot.ite_leaves ?_ ?_
  · exact h
  · extract_lets +onlyGivenNames -merge -useContext -underBinder y0
    try clear_value y0
    extract_lets +onlyGivenNames -merge -useContext -underBinder y1
    try clear_value y1
    extract_lets +onlyGivenNames -merge -useContext -underBinder y2
    try clear_value y2
    extract_lets +onlyGivenNames -merge -useContext -underBinder y3
    try clear_value y3
    extract_lets +onlyGivenNames -merge -useContext -underBinder y4
    try clear_value y4
    extract_lets +onlyGivenNames -merge -useContext -underBinder y5
    try clear_value y5
    extract_lets +onlyGivenNames -merge -useContext -underBinder y6
    try clear_value y6
    split
    · refine set_leaves ?_ (Foot.rec_key r0)
      refine set_leaves ?_ (Foot.rec_key r0)
      exact h
    · extract_lets +onlyGivenNames -merge -useContext -underBinder y7
      try clear_value y7
      refine set_leaves ?_ (Foot.rec_key r0)
      refine set_leaves ?_ (Foot.rec_key r0)
      exact h

theorem startNext_leaves {F : Foot} {a₀ : State} {s : State} {c : Nat} {t : Tick} (h : F.leaves a₀ s) (hF : Foot.le ⟨0x4000, [0x2000, 0x2400], [.ports, .od, .nv]⟩ F = true) :
    F.leaves a₀ (startNext s c t) := by
  unfold startNext
  extract_lets +onlyGivenNames -merge -useContext -underBinder y0
  refine Foot.ite_leaves ?_ ?_
  · exact h
  · extract_lets +onlyGivenNames -merge -useContext -underBinder y1
    extract_lets +onlyGivenNames -merge -useContext -underBinder y2
    try clear_value y2
    refine Foot.ite_leaves ?_ ?_
    · refine setBit_leaves ?_ (Foot.rec_key (Foot.rec_floor hF (by decide)))
      exact h
    · refine enqueue_leaves ?_ (Foot.le_trans (by decide) hF)
      exact h

theorem passEnd_leaves {F : Foot} {a₀ : State} {s : State} {p : Nat} {c : Nat} {sel : Tick} {t : Tick} (h : F.leaves a₀ s) (hF : Foot.le ⟨0x4000, [0x1220, 0x1221, 0x1222, 0x1223, 0x2400, 0x2000], [.ports, .fab, .od, .net, .pcie, .rcd, .nv]⟩ F = true) :
    F.leaves a₀ (passEnd s p c sel t) := by
  unfold passEnd
  extract_lets +onlyGivenNames -merge -useContext -underBinder y0
  have h0 : F.leaves a₀ y0 := by
    refine produce_leaves ?_ (Foot.le_trans (by decide) hF)
    refine satInc_leaves ?_ (Foot.rec_key (Foot.rec_floor hF (by decide)))
    exact h
  try clear_value y0
  extract_lets +onlyGivenNames -merge -useContext -underBinder y1
  refine Foot.ite_leaves ?_ ?_
  · refine startNext_leaves ?_ (Foot.le_trans (by decide) hF)
    refine produce_leaves ?_ (Foot.le_trans (by decide) hF)
    refine leaveQueue_leaves ?_ (Foot.le_trans (by decide) hF) (Foot.rec_floor hF (by decide)) (Foot.rec_floor hF (by decide))
    exact h0
  · extract_lets +onlyGivenNames -merge -useContext -underBinder y2
    have h2 : F.leaves a₀ y2 := by
      refine set_leaves ?_ (Foot.rec_key (Foot.rec_floor hF (by decide)))
      refine set_leaves ?_ (Foot.rec_key (Foot.rec_floor hF (by decide)))
      refine set_leaves ?_ (Foot.rec_key (Foot.rec_floor hF (by decide)))
      exact h0
    try clear_value y2
    refine syncQueue_leaves ?_ (Foot.le_trans (by decide) hF) (Foot.rec_floor hF (by decide))
    refine modSeq_leaves ?_ (Foot.le_trans (by decide) hF)
    exact h2

theorem pointDone_leaves {F : Foot} {a₀ : State} {s : State} {p : Nat} {q : Point} {td : Tick} (h : F.leaves a₀ s) (hF : Foot.le ⟨0x4000, [0x1220, 0x1221, 0x1222, 0x1223, 0x2400, 0x2000], [.ports, .micro, .fab, .scan, .od, .net, .pcie, .rcd, .nv, .tx]⟩ F = true) :
    F.leaves a₀ (pointDone s p q td) := by
  unfold pointDone
  extract_lets +onlyGivenNames -merge -useContext -underBinder y0
  extract_lets +onlyGivenNames -merge -useContext -underBinder y1
  have h1 : F.leaves a₀ y1 := by
    refine produce_leaves ?_ (Foot.le_trans (by decide) hF)
    refine engForm_leaves ?_ (Foot.le_trans (by decide) hF) (Foot.rec_floor hF (by decide))
    refine satInc_leaves ?_ (Foot.rec_key (Foot.rec_floor hF (by decide)))
    exact h
  try clear_value y1
  extract_lets +onlyGivenNames -merge -useContext -underBinder y2
  have h2 : F.leaves a₀ y2 := by
    refine Foot.ite_leaves ?_ ?_
    · refine trainStop_leaves ?_ (Foot.le_trans (by decide) hF) (Foot.rec_floor hF (by decide))
      exact h1
    · exact h1
  try clear_value y2
  extract_lets +onlyGivenNames -merge -useContext -underBinder y3
  try clear_value y3
  extract_lets +onlyGivenNames -merge -useContext -underBinder y4
  try clear_value y4
  extract_lets +onlyGivenNames -merge -useContext -underBinder y5
  have h5 : F.leaves a₀ y5 := by
    refine when_leaves ?_ fun z6 h6 => ?_
    · exact h2
    · refine setBit_leaves ?_ (Foot.rec_key (Foot.rec_floor hF (by decide)))
      exact h6
  try clear_value y5
  extract_lets +onlyGivenNames -merge -useContext -underBinder y7
  try clear_value y7
  refine Foot.ite_leaves ?_ ?_
  · extract_lets +onlyGivenNames -merge -useContext -underBinder y8
    have h8 : F.leaves a₀ y8 := by
      refine Foot.ite_leaves ?_ ?_
      · refine produce_leaves ?_ (Foot.le_trans (by decide) hF)
        refine satInc_leaves ?_ (Foot.rec_key (Foot.rec_floor hF (by decide)))
        exact h5
      · exact h5
    try clear_value y8
    refine leaveQueue_leaves ?_ (Foot.le_trans (by decide) hF) (Foot.rec_floor hF (by decide)) (Foot.rec_floor hF (by decide))
    exact h8
  · refine Foot.ite_leaves ?_ ?_
    · refine passEnd_leaves ?_ (Foot.le_trans (by decide) hF)
      exact h5
    · refine pointBegin_leaves ?_ (Foot.le_trans (by decide) hF)
      exact h5

theorem doneFirst_leaves {F : Foot} {a₀ : State} {s : State} {p : Nat} {c : Nat} {t : Tick} (h : F.leaves a₀ s) (hF : Foot.le ⟨0x4000, [0x1220, 0x1221, 0x1222, 0x1223, 0x2400, 0x2000], [.ports, .micro, .fab, .scan, .od, .net, .pcie, .rcd, .nv, .tx]⟩ F = true) :
    F.leaves a₀ (doneFirst s p c t) := by
  unfold doneFirst
  split
  · refine Foot.ite_leaves ?_ ?_
    · refine pointDone_leaves ?_ (Foot.le_trans (by decide) hF)
      exact h
    · exact h
  · exact h

theorem abortCtx_leaves {F : Foot} {a₀ : State} {s : State} {p : Nat} {c : Nat} {t : Tick} (h : F.leaves a₀ s) (hF : Foot.le ⟨0x4000, [0x1220, 0x1221, 0x1222, 0x1223, 0x2400, 0x2000], [.ports, .micro, .fab, .scan, .od, .net, .pcie, .rcd, .nv, .tx]⟩ F = true) :
    F.leaves a₀ (abortCtx s p c t) := by
  unfold abortCtx
  extract_lets +onlyGivenNames -merge -useContext -underBinder y0
  have h0 : F.leaves a₀ y0 := by
    refine doneFirst_leaves ?_ (Foot.le_trans (by decide) hF)
    exact h
  try clear_value y0
  refine Foot.ite_leaves ?_ ?_
  · refine set_leaves ?_ (Foot.rec_key (Foot.rec_floor hF (by decide)))
    exact h0
  · refine Foot.ite_leaves ?_ ?_
    · refine leaveQueue_leaves ?_ (Foot.le_trans (by decide) hF) (Foot.rec_floor hF (by decide)) (Foot.rec_floor hF (by decide))
      exact h0
    · split
      · refine Foot.ite_leaves ?_ ?_
        · extract_lets +onlyGivenNames -merge -useContext -underBinder y1
          have h1 : F.leaves a₀ y1 := by
            refine discardWin_leaves ?_ (Foot.le_trans (by decide) hF)
            exact h0
          try clear_value y1
          extract_lets +onlyGivenNames -merge -useContext -underBinder y2
          have h2 : F.leaves a₀ y2 := by
            refine Foot.ite_leaves ?_ ?_
            · refine trainStop_leaves ?_ (Foot.le_trans (by decide) hF) (Foot.rec_floor hF (by decide))
              exact h1
            · exact h1
          try clear_value y2
          refine selectAt_leaves ?_ (Foot.le_trans (by decide) hF)
          refine leaveQueue_leaves ?_ (Foot.le_trans (by decide) hF) (Foot.rec_floor hF (by decide)) (Foot.rec_floor hF (by decide))
          exact h2
        · exact h0
      · exact h0

theorem scanEnds_leaves {F : Foot} {a₀ : State} {s : State} {p : Nat} {t : Tick} (h : F.leaves a₀ s) (hF : Foot.le ⟨0x6000, [], [.ports]⟩ F = true) :
    F.leaves a₀ (scanEnds s p t) := by
  unfold scanEnds
  split
  · split
    · refine Foot.ite_leaves ?_ ?_
      · refine setPhase_leaves ?_ (Foot.le_trans (by decide) hF)
        refine modPoint_leaves ?_ (Foot.le_trans (by decide) hF)
        exact h
      · exact h
    · exact h
  · exact h

theorem routeSet_leaves {F : Foot} {a₀ : State} {s : State} {f : SFrame} (h : F.leaves a₀ s) (hF : Foot.le ⟨0x10000, [], []⟩ F = true) (r0 : F.covers (0x4000 + f.port)) :
    F.leaves a₀ (routeSet s f) := by
  unfold routeSet
  refine set_leaves ?_ (Foot.rec_key r0)
  exact h

theorem frameEnd_leaves {F : Foot} {a₀ : State} {s : State} {f : SFrame} {miso : Nat} {e : Tick} (h : F.leaves a₀ s) (hF : Foot.le ⟨0x6000, [0x2400], [.ports, .scan]⟩ F = true) (r0 : F.covers (0x4000 + f.port)) :
    F.leaves a₀ (frameEnd s f miso e) := by
  unfold frameEnd
  extract_lets +onlyGivenNames -merge -useContext -underBinder y0
  have h0 : F.leaves a₀ y0 := by
    refine wrapInc_leaves ?_ (Foot.rec_const hF (by decide))
    exact h
  try clear_value y0
  extract_lets +onlyGivenNames -merge -useContext -underBinder u1_0 y1
  have h1 : F.leaves a₀ y1 := by
    exact { h0 with scan := .inl (Foot.part hF (by decide)) }
  try clear_value y1
  refine Foot.ite_leaves ?_ ?_
  · extract_lets +onlyGivenNames -merge -useContext -underBinder y2
    have h2 : F.leaves a₀ y2 := by
      refine Foot.ite_leaves ?_ ?_
      · refine modPoint_leaves ?_ (Foot.le_trans (by decide) hF)
        exact h1
      · exact h1
    try clear_value y2
    refine Foot.ite_leaves ?_ ?_
    · exact { h2 with scan := .inl (Foot.part hF (by decide)) }
    · extract_lets +onlyGivenNames -merge -useContext -underBinder y3
      have h3 : F.leaves a₀ y3 := by
        refine routeSet_leaves ?_ (Foot.le_trans (by decide) hF) r0
        exact h2
      try clear_value y3
      refine Foot.ite_leaves ?_ ?_
      · refine scanEnds_leaves ?_ (Foot.le_trans (by decide) hF)
        refine modPoint_leaves ?_ (Foot.le_trans (by decide) hF)
        exact h3
      · exact h3
  · refine Foot.ite_leaves ?_ ?_
    · refine Foot.ite_leaves ?_ ?_
      · extract_lets +onlyGivenNames -merge -useContext -underBinder y4
        have h4 : F.leaves a₀ y4 := by
          refine routeSet_leaves ?_ (Foot.le_trans (by decide) hF) r0
          exact h1
        try clear_value y4
        refine Foot.ite_leaves ?_ ?_
        · refine scanEnds_leaves ?_ (Foot.le_trans (by decide) hF)
          refine modPoint_leaves ?_ (Foot.le_trans (by decide) hF)
          exact h4
        · exact h4
      · extract_lets +onlyGivenNames -merge -useContext -underBinder y5
        have h5 : F.leaves a₀ y5 := by
          refine satInc_leaves ?_ (Foot.rec_const hF (by decide))
          exact h1
        try clear_value y5
        extract_lets +onlyGivenNames -merge -useContext -underBinder y6
        have h6 : F.leaves a₀ y6 := by
          refine when_leaves ?_ fun z7 h7 => ?_
          · exact h5
          · refine setBit_leaves ?_ (Foot.rec_key (Foot.rec_floor hF (by decide)))
            exact h7
        try clear_value y6
        refine Foot.ite_leaves ?_ ?_
        · exact { h6 with scan := .inl (Foot.part hF (by decide)) }
        · exact h6
    · exact h1

/-! ### TickCore -/

theorem thTake_leaves {F : Foot} {a₀ : State} {s : State} {p : Nat} {i : Nat} {t : Tick} (h : F.leaves a₀ s) (hF : Foot.le ⟨0x10000, [0x8000], [.ports, .rcd]⟩ F = true) (r0 : F.covers (0x4000 + p)) :
    F.leaves a₀ (thTake s p i t) := by
  unfold thTake
  extract_lets +onlyGivenNames -merge -useContext -underBinder y0
  extract_lets +onlyGivenNames -merge -useContext -underBinder y1
  refine loadThresholds_leaves ?_ (Foot.le_trans (by decide) hF) r0
  refine setFld_leaves ?_ (Foot.rec_key r0)
  exact h

theorem spanAwaits_leaves {F : Foot} {a₀ : State} {s : State} {p : Nat} {want : Nat} (h : F.leaves a₀ s) (hF : Foot.le ⟨0x10000, [], []⟩ F = true) (r0 : F.covers (0x4000 + p)) :
    F.leaves a₀ (spanAwaits s p want) := by
  unfold spanAwaits
  extract_lets +onlyGivenNames -merge -useContext -underBinder y0
  refine Foot.ite_leaves ?_ ?_
  · refine setBit_leaves ?_ (Foot.rec_key r0)
    exact h
  · exact h

theorem spanWritten_leaves {F : Foot} {a₀ : State} {s : State} {p : Nat} {t : Tick} (h : F.leaves a₀ s) (hF : Foot.le ⟨0x10000, [], [.ports]⟩ F = true) (r0 : F.covers (0x4000 + p)) :
    F.leaves a₀ (spanWritten s p t) := by
  unfold spanWritten
  extract_lets +onlyGivenNames -merge -useContext -underBinder y0
  refine Foot.ite_leaves ?_ ?_
  · refine spanAwaits_leaves ?_ (Foot.le_trans (by decide) hF) r0
    exact h
  · refine Foot.ite_leaves ?_ ?_
    · refine offSpan_leaves ?_ (Foot.le_trans (by decide) hF) r0
      exact h
    · refine spanAwaits_leaves ?_ (Foot.le_trans (by decide) hF) r0
      refine modForce_leaves ?_ (Foot.le_trans (by decide) hF)
      exact h

theorem applyEntry_leaves {F : Foot} {a₀ : State} {s : State} {p : Nat} {key : Nat} {t : Tick} (h : F.leaves a₀ s) (hF : Foot.le ⟨0x2380, [0x1220, 0x1221, 0x1222, 0x1223], [.ports, .groups, .slices, .micro, .fab, .spad, .mem, .net, .pcie, .rcd, .tx]⟩ F = true) :
    F.leaves a₀ (applyEntry s p key t) := by
  unfold applyEntry
  extract_lets +onlyGivenNames -merge -useContext -underBinder y0
  extract_lets +onlyGivenNames -merge -useContext -underBinder y1
  extract_lets +onlyGivenNames -merge -useContext -underBinder y2
  extract_lets +onlyGivenNames -merge -useContext -underBinder y3
  have h3 : F.leaves a₀ y3 := by
    refine Foot.ite_leaves ?_ ?_
    · refine modLoopY_leaves ?_ (Foot.le_trans (by decide) hF)
      exact h
    · refine Foot.ite_leaves ?_ ?_
      · refine modLoopY_leaves ?_ (Foot.le_trans (by decide) hF)
        exact h
      · refine Foot.ite_leaves ?_ ?_
        · refine modLoopY_leaves ?_ (Foot.le_trans (by decide) hF)
          exact h
        · refine Foot.ite_leaves ?_ ?_
          · refine modLoopY_leaves ?_ (Foot.le_trans (by decide) hF)
            exact h
          · refine Foot.ite_leaves ?_ ?_
            · refine thTake_leaves ?_ (Foot.le_trans (by decide) hF) (Foot.rec_floor hF (by decide))
              exact h
            · refine Foot.ite_leaves ?_ ?_
              · refine thTake_leaves ?_ (Foot.le_trans (by decide) hF) (Foot.rec_floor hF (by decide))
                exact h
              · refine Foot.ite_leaves ?_ ?_
                · refine thTake_leaves ?_ (Foot.le_trans (by decide) hF) (Foot.rec_floor hF (by decide))
                  exact h
                · refine Foot.ite_leaves ?_ ?_
                  · refine thTake_leaves ?_ (Foot.le_trans (by decide) hF) (Foot.rec_floor hF (by decide))
                    exact h
                  · refine Foot.ite_leaves ?_ ?_
                    · refine loadThresholds_leaves ?_ (Foot.le_trans (by decide) hF) (Foot.rec_floor hF (by decide))
                      exact h
                    · refine Foot.ite_leaves ?_ ?_
                      · refine cmpModeChange_leaves ?_ (Foot.le_trans (by decide) hF) (Foot.rec_floor hF (by decide))
                        exact h
                      · refine Foot.ite_leaves ?_ ?_
                        · refine cmpModeChange_leaves ?_ (Foot.le_trans (by decide) hF) (Foot.rec_floor hF (by decide))
                          exact h
                        · refine Foot.ite_leaves ?_ ?_
                          · refine Foot.ite_leaves ?_ ?_
                            · refine tripLevels_leaves ?_ (Foot.le_trans (by decide) hF) (Foot.rec_floor hF (by decide))
                              exact h
                            · exact h
                          · refine Foot.ite_leaves ?_ ?_
                            · refine loadKstage_leaves ?_ (Foot.le_trans (by decide) hF) (Foot.rec_floor hF (by decide))
                              exact h
                            · refine Foot.ite_leaves ?_ ?_
                              · refine spanWritten_leaves ?_ (Foot.le_trans (by decide) hF) (Foot.rec_floor hF (by decide))
                                exact h
                              · refine Foot.ite_leaves ?_ ?_
                                · refine modelReset_leaves ?_ (Foot.le_trans (by decide) hF) (Foot.rec_floor hF (by decide))
                                  exact h
                                · refine Foot.ite_leaves ?_ ?_
                                  · refine modLoopY_leaves ?_ (Foot.le_trans (by decide) hF)
                                    exact h
                                  · refine Foot.ite_leaves ?_ ?_
                                    · refine modLoopY_leaves ?_ (Foot.le_trans (by decide) hF)
                                      refine closeLoop_leaves ?_ (Foot.le_trans (by decide) hF)
                                      exact h
                                    · refine Foot.ite_leaves ?_ ?_
                                      · refine closeLoop_leaves ?_ (Foot.le_trans (by decide) hF)
                                        exact h
                                      · refine Foot.ite_leaves ?_ ?_
                                        · refine modForce_leaves ?_ (Foot.le_trans (by decide) hF)
                                          exact h
                                        · refine Foot.ite_leaves ?_ ?_
                                          · refine modForce_leaves ?_ (Foot.le_trans (by decide) hF)
                                            exact h
                                          · refine Foot.ite_leaves ?_ ?_
                                            · refine Foot.ite_leaves ?_ ?_
                                              · refine openFree_leaves ?_ (Foot.le_trans (by decide) hF) (Foot.rec_floor hF (by decide))
                                                exact h
                                              · exact h
                                            · refine Foot.ite_leaves ?_ ?_
                                              · refine selectAt_leaves ?_ (Foot.le_trans (by decide) hF)
                                                exact h
                                              · refine Foot.ite_leaves ?_ ?_
                                                · refine fastSettings_leaves ?_ (Foot.le_trans (by decide) hF)
                                                  exact h
                                                · exact h
  try clear_value y3
  extract_lets +onlyGivenNames -merge -useContext -underBinder y4
  have h4 : F.leaves a₀ y4 := by
    refine rangeRules_leaves ?_ (Foot.le_trans (by decide) hF)
    refine deriveLimits_leaves ?_ (Foot.le_trans (by decide) hF) (Foot.rec_floor hF (by decide))
    exact h3
  try clear_value y4
  refine syncPort_leaves ?_ (Foot.le_trans (by decide) hF) (Foot.rec_floor hF (by decide))
  refine syncSought_leaves ?_ (Foot.le_trans (by decide) hF) (Foot.rec_floor hF (by decide))
  refine when_leaves ?_ fun z5 h5 => ?_
  · exact h4
  · refine rngEvent_leaves ?_ (Foot.le_trans (by decide) hF) (Foot.rec_floor hF (by decide))
    exact h5

theorem divApply_leaves {F : Foot} {a₀ : State} {s : State} {p : Nat} {_t : Tick} (h : F.leaves a₀ s) (hF : Foot.le ⟨0x10000, [], [.ports]⟩ F = true) (r0 : F.covers (0x4000 + p)) :
    F.leaves a₀ (divApply s p _t) := by
  unfold divApply
  extract_lets +onlyGivenNames -merge -useContext -underBinder y0
  refine Foot.ite_leaves ?_ ?_
  · refine modLoopY_leaves ?_ (Foot.le_trans (by decide) hF)
    exact h
  · refine Foot.ite_leaves ?_ ?_
    · refine modLoopY_leaves ?_ (Foot.le_trans (by decide) hF)
      exact h
    · refine modLoopY_leaves ?_ (Foot.le_trans (by decide) hF)
      refine set_leaves ?_ (Foot.rec_key r0)
      exact h

theorem autoTick_leaves {F : Foot} {a₀ : State} {s : State} {p : Nat} {v : Bool} {y : Int} {ovr : Bool} {sel : Nat} (h : F.leaves a₀ s) (hF : Foot.le ⟨0x10000, [], [.ports]⟩ F = true) (r0 : F.covers (0x4000 + p)) :
    F.leaves a₀ (autoTick s p v y ovr sel) := by
  unfold autoTick
  refine Foot.ite_leaves ?_ ?_
  · exact h
  · extract_lets +onlyGivenNames -merge -useContext -underBinder y0
    try clear_value y0
    extract_lets +onlyGivenNames -merge -useContext -underBinder y1
    extract_lets +onlyGivenNames -merge -useContext -underBinder y2
    try clear_value y2
    extract_lets +onlyGivenNames -merge -useContext -underBinder y3
    try clear_value y3
    extract_lets +onlyGivenNames -merge -useContext -underBinder y4
    try clear_value y4
    extract_lets +onlyGivenNames -merge -useContext -underBinder y5
    extract_lets +onlyGivenNames -merge -useContext -underBinder y6
    try clear_value y6
    extract_lets +onlyGivenNames -merge -useContext -underBinder y7
    try clear_value y7
    extract_lets +onlyGivenNames -merge -useContext -underBinder y8
    try clear_value y8
    extract_lets +onlyGivenNames -merge -useContext -underBinder y9
    extract_lets +onlyGivenNames -merge -useContext -underBinder y10
    extract_lets +onlyGivenNames -merge -useContext -underBinder y11
    try clear_value y11
    extract_lets +onlyGivenNames -merge -useContext -underBinder y12
    try clear_value y12
    extract_lets +onlyGivenNames -merge -useContext -underBinder y13
    have h13 : F.leaves a₀ y13 := by
      refine modRange_leaves ?_ (Foot.le_trans (by decide) hF)
      exact h
    try clear_value y13
    extract_lets +onlyGivenNames -merge -useContext -underBinder y14
    refine Foot.ite_leaves ?_ ?_
    · refine Foot.ite_leaves ?_ ?_
      · try unfold y14
        beta_reduce
        refine rngEvent_leaves ?_ (Foot.le_trans (by decide) hF) r0
        refine modRange_leaves ?_ (Foot.le_trans (by decide) hF)
        exact h13
      · refine setBit_leaves ?_ (Foot.rec_key r0)
        exact h13
    · refine Foot.ite_leaves ?_ ?_
      · refine Foot.ite_leaves ?_ ?_
        · try unfold y14
          beta_reduce
          refine rngEvent_leaves ?_ (Foot.le_trans (by decide) hF) r0
          refine modRange_leaves ?_ (Foot.le_trans (by decide) hF)
          exact h13
        · refine setBit_leaves ?_ (Foot.rec_key r0)
          exact h13
      · exact h13

theorem loopRecord_leaves {F : Foot} {a₀ : State} {s : State} {p : Nat} {u : Int} {t : Tick} (h : F.leaves a₀ s) (hF : Foot.le ⟨0x2380, [], [.ports, .groups, .spad, .mem]⟩ F = true) :
    F.leaves a₀ (loopRecord s p u t) := by
  unfold loopRecord
  extract_lets +onlyGivenNames -merge -useContext -underBinder y0
  extract_lets +onlyGivenNames -merge -useContext -underBinder y1
  try clear_value y1
  refine Foot.ite_leaves ?_ ?_
  · exact h
  · extract_lets +onlyGivenNames -merge -useContext -underBinder y2
    have h2 : F.leaves a₀ y2 := by
      refine modLoopY_leaves ?_ (Foot.le_trans (by decide) hF)
      exact h
    try clear_value y2
    refine Foot.ite_leaves ?_ ?_
    · exact h2
    · extract_lets +onlyGivenNames -merge -useContext -underBinder y3
      have h3 : F.leaves a₀ y3 := by
        refine Foot.ite_leaves ?_ ?_
        · refine closeLoop_leaves ?_ (Foot.le_trans (by decide) hF)
          exact h2
        · exact h2
      try clear_value y3
      extract_lets +onlyGivenNames -merge -useContext -underBinder y4
      have h4 : F.leaves a₀ y4 := by
        refine Foot.ite_leaves ?_ ?_
        · refine modLoopY_leaves ?_ (Foot.le_trans (by decide) hF)
          exact h3
        · exact h3
      try clear_value y4
      extract_lets +onlyGivenNames -merge -useContext -underBinder y5
      try clear_value y5
      extract_lets +onlyGivenNames -merge -useContext -underBinder y6
      extract_lets +onlyGivenNames -merge -useContext -underBinder y7
      have h7 : F.leaves a₀ y7 := by
        refine modLoopY_leaves ?_ (Foot.le_trans (by decide) hF)
        exact h4
      try clear_value y7
      refine Foot.ite_leaves ?_ ?_
      · refine closeLoop_leaves ?_ (Foot.le_trans (by decide) hF)
        exact h7
      · exact h7

theorem lchkFlush_leaves {F : Foot} {a₀ : State} {s : State} {p : Nat} (h : F.leaves a₀ s) (hF : Foot.le ⟨0x10000, [0x8000], [.rcd]⟩ F = true) :
    F.leaves a₀ (lchkFlush s p) := by
  unfold lchkFlush
  extract_lets +onlyGivenNames -merge -useContext -underBinder y0
  try clear_value y0
  refine Foot.ite_leaves ?_ ?_
  · exact h
  · extract_lets +onlyGivenNames -merge -useContext -underBinder y1
    try clear_value y1
    extract_lets +onlyGivenNames -merge -useContext -underBinder u2_0 y2
    have h2 : F.leaves a₀ y2 := by
      exact { h with rcd := .inl (Foot.part hF (by decide)) }
    try clear_value y2
    refine journal_leaves ?_ (Foot.le_trans (by decide) hF)
    exact h2

theorem jTick_leaves {F : Foot} {a₀ : State} {s : State} {p : Nat} {u : Int} {t : Tick} (h : F.leaves a₀ s) (hF : Foot.le ⟨0x10000, [0x8000], [.rcd]⟩ F = true) :
    F.leaves a₀ (jTick s p u t) := by
  unfold jTick
  refine Foot.ite_leaves ?_ ?_
  · exact h
  · extract_lets +onlyGivenNames -merge -useContext -underBinder y0
    extract_lets +onlyGivenNames -merge -useContext -underBinder y1
    extract_lets +onlyGivenNames -merge -useContext -underBinder y2
    try clear_value y2
    extract_lets +onlyGivenNames -merge -useContext -underBinder u3_0 y3
    have h3 : F.leaves a₀ y3 := by
      refine Foot.ite_leaves ?_ ?_
      · exact { h with rcd := .inl (Foot.part hF (by decide)) }
      · exact h
    try clear_value y3
    extract_lets +onlyGivenNames -merge -useContext -underBinder u4_0 y4
    have h4 : F.leaves a₀ y4 := by
      exact { h3 with rcd := .inl (Foot.part hF (by decide)) }
    try clear_value y4
    extract_lets +onlyGivenNames -merge -useContext -underBinder y5
    have h5 : F.leaves a₀ y5 := by
      refine Foot.ite_leaves ?_ ?_
      · refine lchkFlush_leaves ?_ (Foot.le_trans (by decide) hF)
        exact h4
      · exact h4
    try clear_value y5
    refine Foot.ite_leaves ?_ ?_
    · extract_lets +onlyGivenNames -merge -useContext -underBinder y6
      have h6 : F.leaves a₀ y6 := by
        refine journal_leaves ?_ (Foot.le_trans (by decide) hF)
        exact h5
      try clear_value y6
      exact { h6 with rcd := .inl (Foot.part hF (by decide)) }
    · exact h5

theorem trackEntry_leaves {F : Foot} {a₀ : State} {s : State} {p : Nat} {yv : Int} {yi : Int} (h : F.leaves a₀ s) (hF : Foot.le ⟨0x10000, [], [.ports]⟩ F = true) :
    F.leaves a₀ (trackEntry s p yv yi) := by
  unfold trackEntry
  extract_lets +onlyGivenNames -merge -useContext -underBinder y0
  try clear_value y0
  extract_lets +onlyGivenNames -merge -useContext -underBinder y1
  try clear_value y1
  extract_lets +onlyGivenNames -merge -useContext -underBinder y2
  have h2 : F.leaves a₀ y2 := by
    refine Foot.ite_leaves ?_ ?_
    · refine modLoop_leaves ?_ (Foot.le_trans (by decide) hF)
      exact h
    · exact h
  try clear_value y2
  refine Foot.ite_leaves ?_ ?_
  · refine modLoop_leaves ?_ (Foot.le_trans (by decide) hF)
    exact h2
  · exact h2

theorem trackNow_leaves {F : Foot} {a₀ : State} {s : State} {p : Nat} {bank : Nat} {T : Int} {yv : Int} {yi : Int} (h : F.leaves a₀ s) (hF : Foot.le ⟨0x10000, [], [.ports]⟩ F = true) :
    F.leaves a₀ (trackNow s p bank T yv yi) := by
  unfold trackNow
  extract_lets +onlyGivenNames -merge -useContext -underBinder y0
  try clear_value y0
  extract_lets +onlyGivenNames -merge -useContext -underBinder y1
  try clear_value y1
  extract_lets +onlyGivenNames -merge -useContext -underBinder y2
  try clear_value y2
  extract_lets +onlyGivenNames -merge -useContext -underBinder y3
  have h3 : F.leaves a₀ y3 := by
    refine Foot.ite_leaves ?_ ?_
    · refine modLoop_leaves ?_ (Foot.le_trans (by decide) hF)
      exact h
    · exact h
  try clear_value y3
  refine modLoopY_leaves ?_ (Foot.le_trans (by decide) hF)
  exact h3

theorem tickTarget_leaves {F : Foot} {a₀ : State} {s : State} {p : Nat} {bank : Nat} {t : Tick} (h : F.leaves a₀ s) (hF : Foot.le ⟨0x10000, [], [.ports]⟩ F = true) (r0 : F.covers (0x4000 + p)) :
    F.leaves a₀ (tickTarget s p bank t).2 := by
  unfold tickTarget
  extract_lets +onlyGivenNames -merge -useContext -underBinder y0
  split
  · exact h
  · split
    · extract_lets +onlyGivenNames -merge -useContext -underBinder y1
      try clear_value y1
      dsimp only
      refine when_leaves ?_ fun z2 h2 => ?_
      · refine modLoop_leaves ?_ (Foot.le_trans (by decide) hF)
        exact h
      · refine setBit_leaves ?_ (Foot.rec_key r0)
        exact h2
    · exact h

theorem tickFlags_leaves {F : Foot} {a₀ : State} {s : State} {p : Nat} {sel : Nat} {bank : Nat} {slew : Bool} {wsat : Bool} {lovr : Bool} (h : F.leaves a₀ s) (hF : Foot.le ⟨0x10000, [], []⟩ F = true) (r0 : F.covers (0x4000 + p)) :
    F.leaves a₀ (tickFlags s p sel bank slew wsat lovr) := by
  unfold tickFlags
  extract_lets +onlyGivenNames -merge -useContext -underBinder y0
  have h0 : F.leaves a₀ y0 := by
    refine setBits_leaves ?_ (Foot.rec_key r0)
    refine setFld_leaves ?_ (Foot.rec_key r0)
    exact h
  try clear_value y0
  extract_lets +onlyGivenNames -merge -useContext -underBinder y1
  have h1 : F.leaves a₀ y1 := by
    refine when_leaves ?_ fun z2 h2 => ?_
    · exact h0
    · refine setBit_leaves ?_ (Foot.rec_key r0)
      exact h2
  try clear_value y1
  refine when_leaves ?_ fun z3 h3 => ?_
  · exact h1
  · refine setBit_leaves ?_ (Foot.rec_key r0)
    exact h3

theorem windowNext_leaves {F : Foot} {a₀ : State} {s : State} {p : Nat} {t : Tick} (h : F.leaves a₀ s) (hF : Foot.le ⟨0x10000, [], [.ports]⟩ F = true) :
    F.leaves a₀ (windowNext s p t) := by
  unfold windowNext
  refine modLoop_leaves ?_ (Foot.le_trans (by decide) hF)
  exact h

theorem tickRun_leaves {F : Foot} {a₀ : State} {s : State} {p : Nat} {t : Tick} (h : F.leaves a₀ s) (hF : Foot.le ⟨0x2380, [], [.ports, .groups, .micro, .scan, .spad, .mem, .rcd]⟩ F = true) :
    F.leaves a₀ (tickRun s p t) := by
  unfold tickRun
  extract_lets +onlyGivenNames -merge -useContext -underBinder y0
  try clear_value y0
  extract_lets +onlyGivenNames -merge -useContext -underBinder y1
  try clear_value y1
  extract_lets +onlyGivenNames -merge -useContext -underBinder y2
  try clear_value y2
  extract_lets +onlyGivenNames -merge -useContext -underBinder y3
  try clear_value y3
  extract_lets +onlyGivenNames -merge -useContext -underBinder y4
  extract_lets +onlyGivenNames -merge -useContext -underBinder y5
  have h5 : F.leaves a₀ y5 := by
    refine modLoop_leaves ?_ (Foot.le_trans (by decide) hF)
    exact h
  try clear_value y5
  extract_lets +onlyGivenNames -merge -useContext -underBinder y6
  have h6 : F.leaves a₀ y6 := by
    refine modLoopY_leaves ?_ (Foot.le_trans (by decide) hF)
    exact h5
  try clear_value y6
  extract_lets +onlyGivenNames -merge -useContext -underBinder y7
  try clear_value y7
  extract_lets +onlyGivenNames -merge -useContext -underBinder y8
  try clear_value y8
  extract_lets +onlyGivenNames -merge -useContext -underBinder y9
  split
  · rename_i _ _ _ _ y10 e10
    have h10 : F.leaves a₀ y10 := by
      have q10 := congrArg (fun x => x.2.2.2.2) e10
      beta_reduce at q10
      change _ = y10 at q10
      rw [← q10]
      split
      · extract_lets +onlyGivenNames -merge -useContext -underBinder y11
        have h11 : F.leaves a₀ y11 := by
          refine trackEntry_leaves ?_ (Foot.le_trans (by decide) hF)
          exact h6
        try clear_value y11
        extract_lets +onlyGivenNames -merge -useContext -underBinder y12
        extract_lets +onlyGivenNames -merge -useContext -underBinder y13
        try clear_value y13
        extract_lets +onlyGivenNames -merge -useContext -underBinder y14
        have h14 : F.leaves a₀ y14 := by
          refine trackNow_leaves ?_ (Foot.le_trans (by decide) hF)
          refine tickTarget_leaves ?_ (Foot.le_trans (by decide) hF) (Foot.rec_floor hF (by decide))
          exact h11
        try clear_value y14
        extract_lets +onlyGivenNames -merge -useContext -underBinder y15
        try clear_value y15
        extract_lets +onlyGivenNames -merge -useContext -underBinder y16
        try clear_value y16
        extract_lets +onlyGivenNames -merge -useContext -underBinder y17
        try clear_value y17
        extract_lets +onlyGivenNames -merge -useContext -underBinder y18
        have h18 : F.leaves a₀ y18 := by
          refine modLoop_leaves ?_ (Foot.le_trans (by decide) hF)
          exact h14
        try clear_value y18
        extract_lets +onlyGivenNames -merge -useContext -underBinder y19
        have h19 : F.leaves a₀ y19 := by
          refine setI_leaves ?_ (Foot.rec_key (Foot.rec_floor hF (by decide)))
          refine setI_leaves ?_ (Foot.rec_key (Foot.rec_floor hF (by decide)))
          exact h18
        try clear_value y19
        exact h19
      · exact h6
    extract_lets +onlyGivenNames -merge -useContext -underBinder y20
    try clear_value y20
    extract_lets +onlyGivenNames -merge -useContext -underBinder y21
    try clear_value y21
    extract_lets +onlyGivenNames -merge -useContext -underBinder y22
    extract_lets +onlyGivenNames -merge -useContext -underBinder y23
    have h23 : F.leaves a₀ y23 := by
      refine modLoop_leaves ?_ (Foot.le_trans (by decide) hF)
      exact h10
    try clear_value y23
    extract_lets +onlyGivenNames -merge -useContext -underBinder y24
    have h24 : F.leaves a₀ y24 := by
      refine tickFlags_leaves ?_ (Foot.le_trans (by decide) hF) (Foot.rec_floor hF (by decide))
      exact h23
    try clear_value y24
    extract_lets +onlyGivenNames -merge -useContext -underBinder y25
    have h25 : F.leaves a₀ y25 := by
      refine modLoopY_leaves ?_ (Foot.le_trans (by decide) hF)
      exact h24
    try clear_value y25
    extract_lets +onlyGivenNames -merge -useContext -underBinder y26
    have h26 : F.leaves a₀ y26 := by
      refine Foot.ite_leaves ?_ ?_
      · refine autoTick_leaves ?_ (Foot.le_trans (by decide) hF) (Foot.rec_floor hF (by decide))
        refine autoTick_leaves ?_ (Foot.le_trans (by decide) hF) (Foot.rec_floor hF (by decide))
        exact h25
      · exact h25
    try clear_value y26
    extract_lets +onlyGivenNames -merge -useContext -underBinder y27
    have h27 : F.leaves a₀ y27 := by
      refine jTick_leaves ?_ (Foot.le_trans (by decide) hF)
      refine loopRecord_leaves ?_ (Foot.le_trans (by decide) hF)
      exact h26
    try clear_value y27
    extract_lets +onlyGivenNames -merge -useContext -underBinder y28
    have h28 : F.leaves a₀ y28 := by
      refine seqTick_leaves ?_ (Foot.le_trans (by decide) hF)
      exact h27
    try clear_value y28
    extract_lets +onlyGivenNames -merge -useContext -underBinder y29
    have h29 : F.leaves a₀ y29 := by
      refine Foot.ite_leaves ?_ ?_
      · refine later_leaves ?_ (Foot.le_trans (by decide) hF)
        exact h28
      · exact h28
    try clear_value y29
    extract_lets +onlyGivenNames -merge -useContext -underBinder y30
    have h30 : F.leaves a₀ y30 := by
      refine Foot.ite_leaves ?_ ?_
      · refine later_leaves ?_ (Foot.le_trans (by decide) hF)
        exact h29
      · exact h29
    try clear_value y30
    refine syncLoopStatus_leaves ?_ (Foot.le_trans (by decide) hF) (Foot.rec_floor hF (by decide))
    refine syncSought_leaves ?_ (Foot.le_trans (by decide) hF) (Foot.rec_floor hF (by decide))
    refine windowNext_leaves ?_ (Foot.le_trans (by decide) hF)
    exact h30

theorem tickIdle_leaves {F : Foot} {a₀ : State} {s : State} {p : Nat} {t : Tick} (h : F.leaves a₀ s) (hF : Foot.le ⟨0x10000, [], [.ports]⟩ F = true) :
    F.leaves a₀ (tickIdle s p t) := by
  unfold tickIdle
  extract_lets +onlyGivenNames -merge -useContext -underBinder y0
  try clear_value y0
  refine windowNext_leaves ?_ (Foot.le_trans (by decide) hF)
  refine modLoopY_leaves ?_ (Foot.le_trans (by decide) hF)
  refine modLoop_leaves ?_ (Foot.le_trans (by decide) hF)
  exact h

theorem tickUpdate_leaves {F : Foot} {a₀ : State} {s : State} {p : Nat} {t : Tick} (h : F.leaves a₀ s) (hF : Foot.le ⟨0x2380, [], [.ports, .groups, .micro, .scan, .spad, .mem, .rcd]⟩ F = true) :
    F.leaves a₀ (tickUpdate s p t) := by
  unfold tickUpdate
  refine Foot.ite_leaves ?_ ?_
  · refine tickIdle_leaves ?_ (Foot.le_trans (by decide) hF)
    exact h
  · refine tickRun_leaves ?_ (Foot.le_trans (by decide) hF)
    exact h

end Sys2Proof.Machine.State

end
end

