-- ==== Sys2Proof/Laws/FrameUnits.lean ====
section
/-!
SUPPORT. What each operation may change, as footprints (Safety.lean): the operations of the non-volatile store, calibration, ageing, the monitor,
the recorder, the time base, the scratchpad, the links, security and the rails.
-/

section

set_option linter.all false
set_option Elab.async false

namespace Sys2Proof.Machine.State
open Sys2Proof Sys2Proof.Machine

/-! ### Nv -/

theorem setNvPair_leaves {F : Foot} {a₀ : State} {s : State} {j : Nat} {p : NvPair} (h : F.leaves a₀ s) (hF : Foot.le ⟨0x10000, [], [.nv]⟩ F = true) :
    F.leaves a₀ (setNvPair s j p) := by
  unfold setNvPair
  exact { h with nv := .inl (Foot.part hF (by decide)) }

theorem putBlob_leaves {F : Foot} {a₀ : State} {s : State} {key : Nat} {b : List Byte} (h : F.leaves a₀ s) (hF : Foot.le ⟨0x10000, [], [.blobs, .spad, .mem]⟩ F = true) :
    F.leaves a₀ (putBlob s key b) := by
  unfold putBlob
  split
  · refine Foot.ite_leaves ?_ ?_
    · refine spadPutAll_leaves ?_ (Foot.le_trans (by decide) hF)
      exact h
    · refine setBlob_leaves ?_ (Foot.le_trans (by decide) hF)
      exact h
  · refine setBlob_leaves ?_ (Foot.le_trans (by decide) hF)
    exact h

theorem loadRecord_leaves {F : Foot} {a₀ : State} {s : State} {j : Nat} {d : Stored} (h : F.leaves a₀ s) (hF : Foot.le ⟨0x0, [], [.blobs, .slices, .spad, .mem, .cal, .sec]⟩ F = true) :
    F.leaves a₀ (loadRecord s j d) := by
  unfold loadRecord
  extract_lets +onlyGivenNames -merge -useContext -underBinder y0
  have h0 : F.leaves a₀ y0 := by
    refine Foot.foldl_leaves ?_ fun z1 i1 h1 => ?_
    · exact h
    · refine set_leaves ?_ (Foot.rec_any hF (by decide))
      exact h1
  try clear_value y0
  extract_lets +onlyGivenNames -merge -useContext -underBinder y2
  have h2 : F.leaves a₀ y2 := by
    refine Foot.foldl_leaves ?_ fun z3 i3 h3 => ?_
    · exact h0
    · refine putBlob_leaves ?_ (Foot.le_trans (by decide) hF)
      exact h3
  try clear_value y2
  extract_lets +onlyGivenNames -merge -useContext -underBinder y4
  have h4 : F.leaves a₀ y4 := by
    unfold y4
    split
    · refine modSx_leaves ?_ (Foot.le_trans (by decide) hF)
      exact h2
    · exact h2
  try clear_value y4
  extract_lets +onlyGivenNames -merge -useContext -underBinder u5_0 y5
  have h5 : F.leaves a₀ y5 := by
    refine Foot.ite_leaves ?_ ?_
    · exact { h4 with cal := .inl (Foot.part hF (by decide)) }
    · exact h4
  try clear_value y5
  refine Foot.ite_leaves ?_ ?_
  · exact { h5 with sec := .inl (Foot.part hF (by decide)) }
  · exact h5

theorem loadPair_leaves {F : Foot} {a₀ : State} {s : State} {j : Nat} (h : F.leaves a₀ s) (hF : Foot.le ⟨0x0, [], [.blobs, .slices, .spad, .mem, .cal, .sec]⟩ F = true) :
    F.leaves a₀ (loadPair s j) := by
  unfold loadPair
  split
  · refine loadRecord_leaves ?_ (Foot.le_trans (by decide) hF)
    exact h
  · exact h

theorem commitKick_leaves {F : Foot} {a₀ : State} {s : State} (h : F.leaves a₀ s) (hF : Foot.le ⟨0x10000, [0x2000], [.nv]⟩ F = true) :
    F.leaves a₀ (commitKick s) := by
  unfold commitKick
  refine Foot.ite_leaves ?_ ?_
  · exact h
  · split
    · exact h
    · extract_lets +onlyGivenNames -merge -useContext -underBinder y0
      try clear_value y0
      extract_lets +onlyGivenNames -merge -useContext -underBinder u1_0 y1
      have h1 : F.leaves a₀ y1 := by
        exact { h with nv := .inl (Foot.part hF (by decide)) }
      try clear_value y1
      refine when_leaves ?_ fun z2 h2 => ?_
      · exact h1
      · refine setBit_leaves ?_ (Foot.rec_const hF (by decide))
        refine set_leaves ?_ (Foot.rec_const hF (by decide))
        exact h2

/-! ### CalCore -/

theorem garnet_leaves {F : Foot} {a₀ : State} {s : State} {bit : Nat} {kind : Nat} {inst : Nat} {repl : Nat} {t : Tick} (h : F.leaves a₀ s) (hF : Foot.le ⟨0x10000, [0x9000], [.blobs, .nv]⟩ F = true) :
    F.leaves a₀ (garnet s bit kind inst repl t) := by
  unfold garnet
  extract_lets +onlyGivenNames -merge -useContext -underBinder y0
  have h0 : F.leaves a₀ y0 := by
    refine setBit_leaves ?_ (Foot.rec_const hF (by decide))
    exact h
  try clear_value y0
  extract_lets +onlyGivenNames -merge -useContext -underBinder y1
  try clear_value y1
  extract_lets +onlyGivenNames -merge -useContext -underBinder y2
  try clear_value y2
  extract_lets +onlyGivenNames -merge -useContext -underBinder y3
  have h3 : F.leaves a₀ y3 := by
    refine setBlob_leaves ?_ (Foot.le_trans (by decide) hF)
    exact h0
  try clear_value y3
  extract_lets +onlyGivenNames -merge -useContext -underBinder y4
  have h4 : F.leaves a₀ y4 := by
    refine setBit_leaves ?_ (Foot.rec_const hF (by decide))
    refine setBit_leaves ?_ (Foot.rec_const hF (by decide))
    exact h3
  try clear_value y4
  refine requestCommit_leaves ?_ (Foot.le_trans (by decide) hF)
  exact h4

theorem runStart_leaves {F : Foot} {a₀ : State} {s : State} {g : Nat} {i : Nat} {purpose : Nat} {role : Nat} {npc : Nat} {t : Tick} (h : F.leaves a₀ s) (hF : Foot.le ⟨0x10000, [], [.cal]⟩ F = true) (r0 : F.covers (0x4100 + i)) :
    F.leaves a₀ (runStart s g i purpose role npc t).1 := by
  unfold runStart
  split
  · dsimp only
    refine set_leaves ?_ (Foot.rec_key r0)
    exact h
  · extract_lets +onlyGivenNames -merge -useContext -underBinder y0
    try clear_value y0
    dsimp only
    refine set_leaves ?_ (Foot.rec_key r0)
    refine modRot_leaves ?_ (Foot.le_trans (by decide) hF)
    exact h

theorem runAbort_leaves {F : Foot} {a₀ : State} {s : State} {g : Nat} {code : Nat} (h : F.leaves a₀ s) (hF : Foot.le ⟨0x4100, [], [.slices, .cal]⟩ F = true) (r0 : F.covers (0x3000 + g)) :
    F.leaves a₀ (runAbort s g code) := by
  unfold runAbort
  split
  · exact h
  · extract_lets +onlyGivenNames -merge -useContext -underBinder y0
    extract_lets +onlyGivenNames -merge -useContext -underBinder y1
    have h1 : F.leaves a₀ y1 := by
      refine modRot_leaves ?_ (Foot.le_trans (by decide) hF)
      exact h
    try clear_value y1
    extract_lets +onlyGivenNames -merge -useContext -underBinder y2
    have h2 : F.leaves a₀ y2 := by
      refine satInc_leaves ?_ (Foot.rec_key (Foot.rec_floor hF (by decide)))
      refine set_leaves ?_ (Foot.rec_key (Foot.rec_floor hF (by decide)))
      refine set_leaves ?_ (Foot.rec_key (Foot.rec_floor hF (by decide)))
      exact h1
    try clear_value y2
    extract_lets +onlyGivenNames -merge -useContext -underBinder y3
    have h3 : F.leaves a₀ y3 := by
      refine when_leaves ?_ fun z4 h4 => ?_
      · exact h2
      · refine setBit_leaves ?_ (Foot.rec_key r0)
        exact h4
    try clear_value y3
    extract_lets +onlyGivenNames -merge -useContext -underBinder y5
    refine modSx_leaves ?_ (Foot.le_trans (by decide) hF)
    exact h3

theorem tempCoefs_leaves {F : Foot} {a₀ : State} {s : State} {i : Nat} (h : F.leaves a₀ s) (hF : Foot.le ⟨0x10000, [], []⟩ F = true) (r0 : F.covers (0x4100 + i)) :
    F.leaves a₀ (tempCoefs s i) := by
  unfold tempCoefs
  extract_lets +onlyGivenNames -merge -useContext -underBinder y0
  try clear_value y0
  extract_lets +onlyGivenNames -merge -useContext -underBinder y1
  try clear_value y1
  extract_lets +onlyGivenNames -merge -useContext -underBinder y2
  try clear_value y2
  extract_lets +onlyGivenNames -merge -useContext -underBinder y3
  try clear_value y3
  refine Foot.ite_leaves ?_ ?_
  · exact h
  · extract_lets +onlyGivenNames -merge -useContext -underBinder y4
    try clear_value y4
    extract_lets +onlyGivenNames -merge -useContext -underBinder y5
    try clear_value y5
    refine setQ_leaves ?_ (Foot.rec_key r0)
    refine setQ_leaves ?_ (Foot.rec_key r0)
    refine setQ_leaves ?_ (Foot.rec_key r0)
    refine setQ_leaves ?_ (Foot.rec_key r0)
    refine setQ_leaves ?_ (Foot.rec_key r0)
    exact h

theorem runApply_leaves {F : Foot} {a₀ : State} {s : State} {r : CalRun} {t : Tick} (h : F.leaves a₀ s) (hF : Foot.le ⟨0x10000, [0x8000], [.blobs, .slices, .rcd]⟩ F = true) (r0 : F.covers (0x4100 + r.slice)) :
    F.leaves a₀ (runApply s r t) := by
  unfold runApply
  extract_lets +onlyGivenNames -merge -useContext -underBinder y0
  extract_lets +onlyGivenNames -merge -useContext -underBinder y1
  try clear_value y1
  extract_lets +onlyGivenNames -merge -useContext -underBinder y2
  extract_lets +onlyGivenNames -merge -useContext -underBinder y3
  extract_lets +onlyGivenNames -merge -useContext -underBinder y4
  extract_lets +onlyGivenNames -merge -useContext -underBinder y5
  have h5 : F.leaves a₀ y5 := by
    refine derivedBytes_leaves ?_ (Foot.le_trans (by decide) hF)
    refine derived_leaves ?_ (Foot.le_trans (by decide) hF) (Foot.rec_key r0)
    refine derived_leaves ?_ (Foot.le_trans (by decide) hF) (Foot.rec_key r0)
    exact h
  try clear_value y5
  extract_lets +onlyGivenNames -merge -useContext -underBinder y6
  have h6 : F.leaves a₀ y6 := by
    refine when_leaves ?_ fun z7 h7 => ?_
    · exact h5
    · refine setBlob_leaves ?_ (Foot.le_trans (by decide) hF)
      exact h7
  try clear_value y6
  extract_lets +onlyGivenNames -merge -useContext -underBinder y8
  have h8 : F.leaves a₀ y8 := by
    refine set_leaves ?_ (Foot.rec_key r0)
    refine set_leaves ?_ (Foot.rec_key r0)
    refine set_leaves ?_ (Foot.rec_key r0)
    refine set_leaves ?_ (Foot.rec_key r0)
    exact h6
  try clear_value y8
  extract_lets +onlyGivenNames -merge -useContext -underBinder y9
  have h9 : F.leaves a₀ y9 := by
    refine set_leaves ?_ (Foot.rec_key r0)
    refine set_leaves ?_ (Foot.rec_key r0)
    refine satInc_leaves ?_ (Foot.rec_key r0)
    exact h8
  try clear_value y9
  extract_lets +onlyGivenNames -merge -useContext -underBinder y10
  have h10 : F.leaves a₀ y10 := by
    refine satInc_leaves ?_ (Foot.rec_key r0)
    refine set_leaves ?_ (Foot.rec_key r0)
    refine set_leaves ?_ (Foot.rec_key r0)
    exact h9
  try clear_value y10
  extract_lets +onlyGivenNames -merge -useContext -underBinder y11
  try clear_value y11
  extract_lets +onlyGivenNames -merge -useContext -underBinder y12
  try clear_value y12
  extract_lets +onlyGivenNames -merge -useContext -underBinder y13
  try clear_value y13
  extract_lets +onlyGivenNames -merge -useContext -underBinder y14
  extract_lets +onlyGivenNames -merge -useContext -underBinder u15_0 y15
  have h15 : F.leaves a₀ y15 := by
    refine Foot.ite_leaves ?_ ?_
    · try unfold y14
      beta_reduce
      refine setQ_leaves ?_ (Foot.rec_key r0)
      try unfold y14
      beta_reduce
      refine setQ_leaves ?_ (Foot.rec_key r0)
      try unfold y14
      beta_reduce
      refine setQ_leaves ?_ (Foot.rec_key r0)
      try unfold y14
      beta_reduce
      refine setQ_leaves ?_ (Foot.rec_key r0)
      try unfold y14
      beta_reduce
      refine setQ_leaves ?_ (Foot.rec_key r0)
      exact h10
    · exact h10
  try clear_value y15
  extract_lets +onlyGivenNames -merge -useContext -underBinder y17
  have h17 : F.leaves a₀ y17 := by
    refine setQ_leaves ?_ (Foot.rec_key r0)
    exact h15
  try clear_value y17
  extract_lets +onlyGivenNames -merge -useContext -underBinder y18
  try clear_value y18
  extract_lets +onlyGivenNames -merge -useContext -underBinder y19
  try clear_value y19
  extract_lets +onlyGivenNames -merge -useContext -underBinder y20
  have h20 : F.leaves a₀ y20 := by
    refine modSx_leaves ?_ (Foot.le_trans (by decide) hF)
    exact h17
  try clear_value y20
  refine tempCoefs_leaves ?_ (Foot.le_trans (by decide) hF) r0
  exact h20

theorem reliefFree_leaves {F : Foot} {a₀ : State} {s : State} {g : Nat} (h : F.leaves a₀ s) (hF : Foot.le ⟨0x10000, [0x8000], [.slices, .rcd]⟩ F = true) (r0 : F.covers (0x4100 + reliefSlice g)) (r1 : F.covers (0x3000 + reliefSlice g / 9)) (r2 : F.covers (0x3000 + g)) :
    F.leaves a₀ (reliefFree s g) := by
  unfold reliefFree
  extract_lets +onlyGivenNames -merge -useContext -underBinder y0
  extract_lets +onlyGivenNames -merge -useContext -underBinder y1
  have h1 : F.leaves a₀ y1 := by
    refine Foot.ite_leaves ?_ ?_
    · refine setRole_leaves ?_ (Foot.le_trans (by decide) hF) r0 r1
      exact h
    · exact h
  try clear_value y1
  refine set_leaves ?_ (Foot.rec_key r2)
  exact h1

theorem substDone_leaves {F : Foot} {a₀ : State} {s : State} {g : Nat} {t : Tick} (h : F.leaves a₀ s) (hF : Foot.le ⟨0x3000, [], [.blobs, .ports, .slices, .cal, .rcd, .nv, .tx]⟩ F = true) :
    F.leaves a₀ (substDone s g t) := by
  unfold substDone
  extract_lets +onlyGivenNames -merge -useContext -underBinder y0
  extract_lets +onlyGivenNames -merge -useContext -underBinder y1
  extract_lets +onlyGivenNames -merge -useContext -underBinder y2
  have h2 : F.leaves a₀ y2 := by
    refine set_leaves ?_ (Foot.rec_key (Foot.rec_floor hF (by decide)))
    refine setRole_leaves ?_ (Foot.le_trans (by decide) hF) (Foot.rec_floor hF (by decide)) (Foot.rec_floor hF (by decide))
    exact h
  try clear_value y2
  extract_lets +onlyGivenNames -merge -useContext -underBinder y3
  have h3 : F.leaves a₀ y3 := by
    refine set_leaves ?_ (Foot.rec_key (Foot.rec_floor hF (by decide)))
    refine setRole_leaves ?_ (Foot.le_trans (by decide) hF) (Foot.rec_floor hF (by decide)) (Foot.rec_floor hF (by decide))
    exact h2
  try clear_value y3
  extract_lets +onlyGivenNames -merge -useContext -underBinder y4
  have h4 : F.leaves a₀ y4 := by
    refine modRot_leaves ?_ (Foot.le_trans (by decide) hF)
    refine set_leaves ?_ (Foot.rec_key (Foot.rec_floor hF (by decide)))
    refine set_leaves ?_ (Foot.rec_key (Foot.rec_floor hF (by decide)))
    exact h3
  try clear_value y4
  refine syncPort_leaves ?_ (Foot.le_trans (by decide) hF) (Foot.rec_floor hF (by decide))
  refine garnet_leaves ?_ (Foot.le_trans (by decide) hF)
  exact h4

theorem reliefOut_leaves {F : Foot} {a₀ : State} {s : State} {g : Nat} (h : F.leaves a₀ s) (hF : Foot.le ⟨0x10000, [0x8000, 0x9000], [.slices, .cal, .rcd, .nv]⟩ F = true) (r0 : F.covers (0x4100 + reliefSlice g)) (r1 : F.covers (0x3000 + reliefSlice g / 9)) (r2 : F.covers (0x3000 + g)) :
    F.leaves a₀ (reliefOut s g) := by
  unfold reliefOut
  extract_lets +onlyGivenNames -merge -useContext -underBinder y0
  extract_lets +onlyGivenNames -merge -useContext -underBinder y1
  have h1 : F.leaves a₀ y1 := by
    refine setRole_leaves ?_ (Foot.le_trans (by decide) hF) r0 r1
    refine reliefFree_leaves ?_ (Foot.le_trans (by decide) hF) r0 r1 r2
    exact h
  try clear_value y1
  extract_lets +onlyGivenNames -merge -useContext -underBinder y2
  have h2 : F.leaves a₀ y2 := by
    refine modRot_leaves ?_ (Foot.le_trans (by decide) hF)
    refine set_leaves ?_ (Foot.rec_key r2)
    refine set_leaves ?_ (Foot.rec_key r0)
    exact h1
  try clear_value y2
  refine requestCommit_leaves ?_ (Foot.le_trans (by decide) hF)
  refine setBit_leaves ?_ (Foot.rec_const hF (by decide))
  refine setBit_leaves ?_ (Foot.rec_const hF (by decide))
  exact h2

theorem rotBit_leaves {F : Foot} {a₀ : State} {s : State} {g : Nat} {b : Nat} {v : Bool} (h : F.leaves a₀ s) (hF : Foot.le ⟨0x10000, [], []⟩ F = true) (r0 : F.covers (0x3000 + g)) :
    F.leaves a₀ (rotBit s g b v) := by
  unfold rotBit
  refine setBit_leaves ?_ (Foot.rec_key r0)
  exact h

theorem syncRot_leaves {F : Foot} {a₀ : State} {s : State} {g : Nat} (h : F.leaves a₀ s) (hF : Foot.le ⟨0x10000, [], []⟩ F = true) (r0 : F.covers (0x3000 + g)) :
    F.leaves a₀ (syncRot s g) := by
  unfold syncRot
  extract_lets +onlyGivenNames -merge -useContext -underBinder y0
  try clear_value y0
  refine set_leaves ?_ (Foot.rec_key r0)
  refine set_leaves ?_ (Foot.rec_key r0)
  refine set_leaves ?_ (Foot.rec_key r0)
  exact h

theorem quiescePorts_leaves {F : Foot} {a₀ : State} {s : State} {g : Nat} {t : Tick} (h : F.leaves a₀ s) (hF : Foot.le ⟨0x3000, [0x2000, 0x2001], [.ports, .groups, .slices, .micro, .rcd, .pwr, .nv, .tx]⟩ F = true) :
    F.leaves a₀ (quiescePorts s g t) := by
  unfold quiescePorts
  extract_lets +onlyGivenNames -merge -useContext -underBinder y0
  have h0 : F.leaves a₀ y0 := by
    refine Foot.foldl_leaves ?_ fun z1 i1 h1 => ?_
    · exact h
    · extract_lets +onlyGivenNames -merge -useContext -underBinder y2
      refine Foot.ite_leaves ?_ ?_
      · refine gcPush_leaves ?_ (Foot.le_trans (by decide) hF)
        exact h1
      · exact h1
  try clear_value y0
  refine enterConfig_leaves ?_ (Foot.le_trans (by decide) hF)
  exact h0

theorem rotEnd_leaves {F : Foot} {a₀ : State} {s : State} {g : Nat} {commit : Bool} {t : Tick} (h : F.leaves a₀ s) (hF : Foot.le ⟨0x3000, [0x2000, 0x2001], [.ports, .groups, .slices, .micro, .cal, .rcd, .pwr, .nv, .tx]⟩ F = true) :
    F.leaves a₀ (rotEnd s g commit t) := by
  unfold rotEnd
  extract_lets +onlyGivenNames -merge -useContext -underBinder y0
  try clear_value y0
  extract_lets +onlyGivenNames -merge -useContext -underBinder y1
  have h1 : F.leaves a₀ y1 := by
    refine Foot.ite_leaves ?_ ?_
    · refine reliefFree_leaves ?_ (Foot.le_trans (by decide) hF) (Foot.rec_floor hF (by decide)) (Foot.rec_floor hF (by decide)) (Foot.rec_floor hF (by decide))
      exact h
    · exact h
  try clear_value y1
  extract_lets +onlyGivenNames -merge -useContext -underBinder y2
  have h2 : F.leaves a₀ y2 := by
    refine modRot_leaves ?_ (Foot.le_trans (by decide) hF)
    exact h1
  try clear_value y2
  extract_lets +onlyGivenNames -merge -useContext -underBinder y3
  have h3 : F.leaves a₀ y3 := by
    refine syncRot_leaves ?_ (Foot.le_trans (by decide) hF) (Foot.rec_floor hF (by decide))
    refine rotBit_leaves ?_ (Foot.le_trans (by decide) hF) (Foot.rec_floor hF (by decide))
    refine rotBit_leaves ?_ (Foot.le_trans (by decide) hF) (Foot.rec_floor hF (by decide))
    exact h2
  try clear_value y3
  extract_lets +onlyGivenNames -merge -useContext -underBinder y4
  have h4 : F.leaves a₀ y4 := by
    refine set_leaves ?_ (Foot.rec_key (Foot.rec_floor hF (by decide)))
    refine set_leaves ?_ (Foot.rec_key (Foot.rec_floor hF (by decide)))
    exact h3
  try clear_value y4
  extract_lets +onlyGivenNames -merge -useContext -underBinder y5
  have h5 : F.leaves a₀ y5 := by
    refine Foot.ite_leaves ?_ ?_
    · refine requestCommit_leaves ?_ (Foot.le_trans (by decide) hF)
      exact h4
    · exact h4
  try clear_value y5
  extract_lets +onlyGivenNames -merge -useContext -underBinder y6
  have h6 : F.leaves a₀ y6 := by
    refine later_leaves ?_ (Foot.le_trans (by decide) hF)
    exact h5
  try clear_value y6
  refine Foot.ite_leaves ?_ ?_
  · refine quiescePorts_leaves ?_ (Foot.le_trans (by decide) hF)
    exact h6
  · exact h6

theorem winAnnounce_leaves {F : Foot} {a₀ : State} {s : State} {g : Nat} {k : Nat} {t : Tick} (h : F.leaves a₀ s) (hF : Foot.le ⟨0x10000, [], [.cal]⟩ F = true) (r0 : F.covers (0x3000 + g)) :
    F.leaves a₀ (winAnnounce s g k t) := by
  unfold winAnnounce
  extract_lets +onlyGivenNames -merge -useContext -underBinder y0
  extract_lets +onlyGivenNames -merge -useContext -underBinder y1
  have h1 : F.leaves a₀ y1 := by
    refine set_leaves ?_ (Foot.rec_key r0)
    refine set_leaves ?_ (Foot.rec_key r0)
    refine set_leaves ?_ (Foot.rec_key r0)
    exact h
  try clear_value y1
  refine modRot_leaves ?_ (Foot.le_trans (by decide) hF)
  exact h1

theorem rotPort_leaves {F : Foot} {a₀ : State} {s : State} {g : Nat} {k : Nat} {t : Tick} (h : F.leaves a₀ s) (hF : Foot.le ⟨0x3000, [], [.slices, .cal, .rcd]⟩ F = true) :
    F.leaves a₀ (rotPort s g k t).1 := by
  unfold rotPort
  extract_lets +onlyGivenNames -merge -useContext -underBinder y0
  extract_lets +onlyGivenNames -merge -useContext -underBinder y1
  extract_lets +onlyGivenNames -merge -useContext -underBinder y2
  extract_lets +onlyGivenNames -merge -useContext -underBinder y3
  extract_lets +onlyGivenNames -merge -useContext -underBinder y4
  split
  · exact h
  · split
    · extract_lets +onlyGivenNames -merge -useContext -underBinder y5
      extract_lets +onlyGivenNames -merge -useContext -underBinder y6
      extract_lets +onlyGivenNames -merge -useContext -underBinder y7
      have h7 : F.leaves a₀ y7 := by
        unfold y7
        try unfold y4
        beta_reduce
        refine modRot_leaves ?_ (Foot.le_trans (by decide) hF)
        exact h
      try clear_value y7
      extract_lets +onlyGivenNames -merge -useContext -underBinder y8
      have h8 : F.leaves a₀ y8 := by
        unfold y8
        split
        · refine setRole_leaves ?_ (Foot.le_trans (by decide) hF) (Foot.rec_floor hF (by decide)) (Foot.rec_floor hF (by decide))
          exact h7
        · exact h7
      try clear_value y8
      extract_lets +onlyGivenNames -merge -useContext -underBinder y9
      have h9 : F.leaves a₀ y9 := by
        refine setRole_leaves ?_ (Foot.le_trans (by decide) hF) (Foot.rec_floor hF (by decide)) (Foot.rec_floor hF (by decide))
        exact h8
      try clear_value y9
      extract_lets +onlyGivenNames -merge -useContext -underBinder y10
      split
      · refine runStart_leaves ?_ (Foot.le_trans (by decide) hF) (Foot.rec_floor hF (by decide))
        exact h9
      · extract_lets +onlyGivenNames -merge -useContext -underBinder y11
        have h11 : F.leaves a₀ y11 := by
          refine setRole_leaves ?_ (Foot.le_trans (by decide) hF) (Foot.rec_floor hF (by decide)) (Foot.rec_floor hF (by decide))
          refine runStart_leaves ?_ (Foot.le_trans (by decide) hF) (Foot.rec_floor hF (by decide))
          exact h9
        try clear_value y11
        dsimp only
        refine Foot.ite_leaves ?_ ?_
        · refine reliefFree_leaves ?_ (Foot.le_trans (by decide) hF) (Foot.rec_floor hF (by decide)) (Foot.rec_floor hF (by decide)) (Foot.rec_floor hF (by decide))
          exact h11
        · exact h11
    · split
      · exact h
      · split
        · dsimp only
          try unfold y4
          beta_reduce
          refine modRot_leaves ?_ (Foot.le_trans (by decide) hF)
          exact h
        · split
          · dsimp only
            refine winAnnounce_leaves ?_ (Foot.le_trans (by decide) hF) (Foot.rec_floor hF (by decide))
            exact h
          · dsimp only
            try unfold y4
            beta_reduce
            refine modRot_leaves ?_ (Foot.le_trans (by decide) hF)
            exact h

theorem rotSeek_leaves {F : Foot} {a₀ : State} {s : State} {g : Nat} {k : Nat} {t : Tick} {n : Nat} (h : F.leaves a₀ s)
    (hF : Foot.le ⟨0x3000, [0x2000, 0x2001], [.ports, .groups, .slices, .micro, .cal, .rcd, .pwr, .nv, .tx]⟩ F = true) : F.leaves a₀ (rotSeek s g k t n) := by
  induction n generalizing s k with
  | zero => exact rotEnd_leaves h (Foot.le_trans (by decide) hF)
  | succ n ih =>
    unfold rotSeek
    split
    · exact rotEnd_leaves h (Foot.le_trans (by decide) hF)
    · have hr := rotPort_leaves (g := g) (k := k) (t := t) h (Foot.le_trans (by decide) hF)
      extract_lets r
      split
      · exact syncRot_leaves hr (Foot.le_trans (by decide) hF) (Foot.rec_floor hF (by decide))
      · exact ih hr

theorem xferBegin_leaves {F : Foot} {a₀ : State} {s : State} {g : Nat} {t : Tick} (h : F.leaves a₀ s) (hF : Foot.le ⟨0x10000, [0x2600], [.cal]⟩ F = true) :
    F.leaves a₀ (xferBegin s g t) := by
  unfold xferBegin
  extract_lets +onlyGivenNames -merge -useContext -underBinder y0
  try clear_value y0
  extract_lets +onlyGivenNames -merge -useContext -underBinder y1
  have h1 : F.leaves a₀ y1 := by
    refine set_leaves ?_ (Foot.rec_const hF (by decide))
    exact h
  try clear_value y1
  exact { h1 with cal := .inl (Foot.part hF (by decide)) }

theorem xferDefer_leaves {F : Foot} {a₀ : State} {s : State} {code : Nat} {t : Tick} (h : F.leaves a₀ s) (hF : Foot.le ⟨0x10000, [0x2600], [.cal]⟩ F = true) :
    F.leaves a₀ (xferDefer s code t) := by
  unfold xferDefer
  extract_lets +onlyGivenNames -merge -useContext -underBinder y0
  have h0 : F.leaves a₀ y0 := by
    refine set_leaves ?_ (Foot.rec_const hF (by decide))
    refine set_leaves ?_ (Foot.rec_const hF (by decide))
    exact h
  try clear_value y0
  exact { h0 with cal := .inl (Foot.part hF (by decide)) }

theorem xferTry_leaves {F : Foot} {a₀ : State} {s : State} {t : Tick} (h : F.leaves a₀ s) (hF : Foot.le ⟨0x10000, [0x2600], [.cal]⟩ F = true) :
    F.leaves a₀ (xferTry s t) := by
  unfold xferTry
  refine Foot.ite_leaves ?_ ?_
  · exact h
  · refine Foot.ite_leaves ?_ ?_
    · refine xferDefer_leaves ?_ (Foot.le_trans (by decide) hF)
      exact h
    · split
      · refine xferDefer_leaves ?_ (Foot.le_trans (by decide) hF)
        exact h
      · refine Foot.ite_leaves ?_ ?_
        · refine xferBegin_leaves ?_ (Foot.le_trans (by decide) hF)
          exact h
        · refine set_leaves ?_ (Foot.rec_const hF (by decide))
          exact h

theorem refxGone_leaves {F : Foot} {a₀ : State} {s : State} (h : F.leaves a₀ s) (hF : Foot.le ⟨0x10000, [0x2600], [.cal]⟩ F = true) :
    F.leaves a₀ (refxGone s) := by
  unfold refxGone
  refine Foot.ite_leaves ?_ ?_
  · exact h
  · extract_lets +onlyGivenNames -merge -useContext -underBinder y0
    have h0 : F.leaves a₀ y0 := by
      refine set_leaves ?_ (Foot.rec_const hF (by decide))
      exact h
    try clear_value y0
    exact { h0 with cal := .inl (Foot.part hF (by decide)) }

theorem rotNext_leaves {F : Foot} {a₀ : State} {s : State} {g : Nat} {k : Nat} {t : Tick} (h : F.leaves a₀ s) (hF : Foot.le ⟨0x3000, [0x2000, 0x2001, 0x2600], [.ports, .groups, .slices, .micro, .cal, .rcd, .pwr, .nv, .tx]⟩ F = true) :
    F.leaves a₀ (rotNext s g k t) := by
  unfold rotNext
  extract_lets +onlyGivenNames -merge -useContext -underBinder y0
  try clear_value y0
  refine Foot.ite_leaves ?_ ?_
  · refine rotEnd_leaves ?_ (Foot.le_trans (by decide) hF)
    exact h
  · refine Foot.ite_leaves ?_ ?_
    · refine syncRot_leaves ?_ (Foot.le_trans (by decide) hF) (Foot.rec_floor hF (by decide))
      refine xferBegin_leaves ?_ (Foot.le_trans (by decide) hF)
      refine modRot_leaves ?_ (Foot.le_trans (by decide) hF)
      exact h
    · refine rotSeek_leaves ?_ (Foot.le_trans (by decide) hF)
      exact h

theorem xferResume_leaves {F : Foot} {a₀ : State} {s : State} {g : Nat} {t : Tick} (h : F.leaves a₀ s) (hF : Foot.le ⟨0x3000, [0x2000, 0x2001, 0x2600], [.ports, .groups, .slices, .micro, .cal, .rcd, .pwr, .nv, .tx]⟩ F = true) :
    F.leaves a₀ (xferResume s g t) := by
  unfold xferResume
  refine Foot.ite_leaves ?_ ?_
  · refine rotNext_leaves ?_ (Foot.le_trans (by decide) hF)
    exact h
  · refine later_leaves ?_ (Foot.le_trans (by decide) hF)
    exact h

theorem rotStart_leaves {F : Foot} {a₀ : State} {s : State} {g : Nat} {t : Tick} (h : F.leaves a₀ s) (hF : Foot.le ⟨0x3000, [0x2000, 0x2001, 0x2600], [.ports, .groups, .slices, .micro, .cal, .rcd, .pwr, .nv, .tx]⟩ F = true) :
    F.leaves a₀ (rotStart s g t) := by
  unfold rotStart
  extract_lets +onlyGivenNames -merge -useContext -underBinder y0
  have h0 : F.leaves a₀ y0 := by
    refine rotBit_leaves ?_ (Foot.le_trans (by decide) hF) (Foot.rec_floor hF (by decide))
    refine rotBit_leaves ?_ (Foot.le_trans (by decide) hF) (Foot.rec_floor hF (by decide))
    refine rotBit_leaves ?_ (Foot.le_trans (by decide) hF) (Foot.rec_floor hF (by decide))
    exact h
  try clear_value y0
  extract_lets +onlyGivenNames -merge -useContext -underBinder y1
  have h1 : F.leaves a₀ y1 := by
    refine modRot_leaves ?_ (Foot.le_trans (by decide) hF)
    refine set_leaves ?_ (Foot.rec_key (Foot.rec_floor hF (by decide)))
    exact h0
  try clear_value y1
  refine Foot.ite_leaves ?_ ?_
  · extract_lets +onlyGivenNames -merge -useContext -underBinder y2
    refine Foot.ite_leaves ?_ ?_
    · refine syncRot_leaves ?_ (Foot.le_trans (by decide) hF) (Foot.rec_floor hF (by decide))
      refine runStart_leaves ?_ (Foot.le_trans (by decide) hF) (Foot.rec_floor hF (by decide))
      refine modRot_leaves ?_ (Foot.le_trans (by decide) hF)
      exact h1
    · refine rotNext_leaves ?_ (Foot.le_trans (by decide) hF)
      refine runStart_leaves ?_ (Foot.le_trans (by decide) hF) (Foot.rec_floor hF (by decide))
      refine modRot_leaves ?_ (Foot.le_trans (by decide) hF)
      exact h1
  · refine rotNext_leaves ?_ (Foot.le_trans (by decide) hF)
    refine modRot_leaves ?_ (Foot.le_trans (by decide) hF)
    exact h1

theorem rotDeferred_leaves {F : Foot} {a₀ : State} {s : State} {g : Nat} (h : F.leaves a₀ s) (hF : Foot.le ⟨0x10000, [], []⟩ F = true) (r0 : F.covers (0x4100 + reliefSlice g)) :
    F.leaves a₀ (rotDeferred s g) := by
  unfold rotDeferred
  split
  · refine Foot.ite_leaves ?_ ?_
    · exact h
    · refine set_leaves ?_ (Foot.rec_key r0)
      exact h
  · exact h

theorem rotTrigger_leaves {F : Foot} {a₀ : State} {s : State} {g : Nat} {t : Tick} (h : F.leaves a₀ s) (hF : Foot.le ⟨0x3000, [0x2000, 0x2001, 0x2600], [.ports, .groups, .slices, .micro, .cal, .rcd, .pwr, .nv, .tx]⟩ F = true) :
    F.leaves a₀ (rotTrigger s g t) := by
  unfold rotTrigger
  extract_lets +onlyGivenNames -merge -useContext -underBinder y0
  have h0 : F.leaves a₀ y0 := by
    refine rotDeferred_leaves ?_ (Foot.le_trans (by decide) hF) (Foot.rec_floor hF (by decide))
    exact h
  try clear_value y0
  refine Foot.ite_leaves ?_ ?_
  · refine rotBit_leaves ?_ (Foot.le_trans (by decide) hF) (Foot.rec_floor hF (by decide))
    refine rotBit_leaves ?_ (Foot.le_trans (by decide) hF) (Foot.rec_floor hF (by decide))
    exact h0
  · refine rotStart_leaves ?_ (Foot.le_trans (by decide) hF)
    exact h0

theorem winEnable_leaves {F : Foot} {a₀ : State} {s : State} {g : Nat} {k : Nat} {t : Tick} (h : F.leaves a₀ s) (hF : Foot.le ⟨0x3000, [], [.ports, .slices, .micro, .rcd, .tx]⟩ F = true) :
    F.leaves a₀ (winEnable s g k t) := by
  unfold winEnable
  extract_lets +onlyGivenNames -merge -useContext -underBinder y0
  extract_lets +onlyGivenNames -merge -useContext -underBinder y1
  have h1 : F.leaves a₀ y1 := by
    refine satInc_leaves ?_ (Foot.rec_key (Foot.rec_floor hF (by decide)))
    refine set_leaves ?_ (Foot.rec_key (Foot.rec_floor hF (by decide)))
    exact h
  try clear_value y1
  extract_lets +onlyGivenNames -merge -useContext -underBinder y2
  have h2 : F.leaves a₀ y2 := by
    refine setBit_leaves ?_ (Foot.rec_key (Foot.rec_floor hF (by decide)))
    exact h1
  try clear_value y2
  extract_lets +onlyGivenNames -merge -useContext -underBinder y3
  have h3 : F.leaves a₀ y3 := by
    refine Foot.ite_leaves ?_ ?_
    · exact h2
    · refine enableTry_leaves ?_ (Foot.le_trans (by decide) hF)
      exact h2
  try clear_value y3
  refine later_leaves ?_ (Foot.le_trans (by decide) hF)
  exact h3

theorem runOver_leaves {F : Foot} {a₀ : State} {s : State} {g : Nat} {r : CalRun} {t : Tick} (h : F.leaves a₀ s) (hF : Foot.le ⟨0x3000, [0x2000, 0x2001, 0x2600], [.blobs, .ports, .groups, .slices, .micro, .cal, .rcd, .pwr, .nv, .tx]⟩ F = true) :
    F.leaves a₀ (runOver s g r t) := by
  unfold runOver
  extract_lets +onlyGivenNames -merge -useContext -underBinder y0
  extract_lets +onlyGivenNames -merge -useContext -underBinder y1
  split
  · refine Foot.ite_leaves ?_ ?_
    · refine rotEnd_leaves ?_ (Foot.le_trans (by decide) hF)
      refine modRot_leaves ?_ (Foot.le_trans (by decide) hF)
      exact h
    · refine rotNext_leaves ?_ (Foot.le_trans (by decide) hF)
      exact h
  · refine Foot.ite_leaves ?_ ?_
    · refine rotEnd_leaves ?_ (Foot.le_trans (by decide) hF)
      refine substDone_leaves ?_ (Foot.le_trans (by decide) hF)
      exact h
    · refine syncRot_leaves ?_ (Foot.le_trans (by decide) hF) (Foot.rec_floor hF (by decide))
      refine modRot_leaves ?_ (Foot.le_trans (by decide) hF)
      exact h
  · extract_lets +onlyGivenNames -merge -useContext -underBinder y2
    have h2 : F.leaves a₀ y2 := by
      refine setRole_leaves ?_ (Foot.le_trans (by decide) hF) (Foot.rec_floor hF (by decide)) (Foot.rec_floor hF (by decide))
      exact h
    try clear_value y2
    extract_lets +onlyGivenNames -merge -useContext -underBinder y3
    have h3 : F.leaves a₀ y3 := by
      refine Foot.ite_leaves ?_ ?_
      · refine reliefFree_leaves ?_ (Foot.le_trans (by decide) hF) (Foot.rec_floor hF (by decide)) (Foot.rec_floor hF (by decide)) (Foot.rec_floor hF (by decide))
        exact h2
      · exact h2
    try clear_value y3
    refine rotNext_leaves ?_ (Foot.le_trans (by decide) hF)
    exact h3
  · refine winEnable_leaves ?_ (Foot.le_trans (by decide) hF)
    refine setRole_leaves ?_ (Foot.le_trans (by decide) hF) (Foot.rec_floor hF (by decide)) (Foot.rec_floor hF (by decide))
    exact h

theorem runStop_leaves {F : Foot} {a₀ : State} {s : State} {g : Nat} {code : Nat} {t : Tick} (h : F.leaves a₀ s) (hF : Foot.le ⟨0x3000, [0x2000, 0x2001, 0x2600], [.blobs, .ports, .groups, .slices, .micro, .cal, .rcd, .pwr, .nv, .tx]⟩ F = true) :
    F.leaves a₀ (runStop s g code t) := by
  unfold runStop
  split
  · exact h
  · refine runOver_leaves ?_ (Foot.le_trans (by decide) hF)
    refine runAbort_leaves ?_ (Foot.le_trans (by decide) hF) (Foot.rec_floor hF (by decide))
    exact h

theorem splitFound_leaves {F : Foot} {a₀ : State} {s : State} {_t : Tick} (h : F.leaves a₀ s) (hF : Foot.le ⟨0x10000, [0x2600], [.cal]⟩ F = true) :
    F.leaves a₀ (splitFound s _t) := by
  unfold splitFound
  extract_lets +onlyGivenNames -merge -useContext -underBinder y0
  have h0 : F.leaves a₀ y0 := by
    refine setBit_leaves ?_ (Foot.rec_const hF (by decide))
    exact h
  try clear_value y0
  exact { h0 with cal := .inl (Foot.part hF (by decide)) }

theorem runOn_leaves {F : Foot} {a₀ : State} {s : State} {g : Nat} {r : CalRun} {d : CalData} (h : F.leaves a₀ s) (hF : Foot.le ⟨0x4100, [], [.cal, .nv]⟩ F = true) :
    F.leaves a₀ (runOn s g r d) := by
  unfold runOn
  split
  · extract_lets +onlyGivenNames -merge -useContext -underBinder y0
    try clear_value y0
    extract_lets +onlyGivenNames -merge -useContext -underBinder y1
    have h1 : F.leaves a₀ y1 := by
      refine set_leaves ?_ (Foot.rec_key (Foot.rec_floor hF (by decide)))
      refine modRot_leaves ?_ (Foot.le_trans (by decide) hF)
      exact h
    try clear_value y1
    refine Foot.ite_leaves ?_ ?_
    · refine requestCommit_leaves ?_ (Foot.le_trans (by decide) hF)
      exact h1
    · exact h1
  · exact h

theorem runStep_leaves {F : Foot} {a₀ : State} {s : State} {g : Nat} {d : CalData} (h : F.leaves a₀ s) (hF : Foot.le ⟨0x3000, [0x2600, 0x2000, 0x2001], [.blobs, .ports, .groups, .slices, .micro, .cal, .rcd, .pwr, .nv, .tx]⟩ F = true) :
    F.leaves a₀ (runStep s g d) := by
  unfold runStep
  split
  · exact h
  · extract_lets +onlyGivenNames -merge -useContext -underBinder y0
    extract_lets +onlyGivenNames -merge -useContext -underBinder y1
    try clear_value y1
    split
    · refine Foot.ite_leaves ?_ ?_
      · refine modRot_leaves ?_ (Foot.le_trans (by decide) hF)
        exact h
      · refine runOn_leaves ?_ (Foot.le_trans (by decide) hF)
        exact h
    · extract_lets +onlyGivenNames -merge -useContext -underBinder y2
      have h2 : F.leaves a₀ y2 := by
        refine Foot.ite_leaves ?_ ?_
        · refine splitFound_leaves ?_ (Foot.le_trans (by decide) hF)
          exact h
        · exact h
      try clear_value y2
      refine runStop_leaves ?_ (Foot.le_trans (by decide) hF)
      exact h2

theorem shadowRearm_leaves {F : Foot} {a₀ : State} {s : State} {p : Nat} {i : Nat} {t : Tick} (h : F.leaves a₀ s) (hF : Foot.le ⟨0x10000, [], [.slices]⟩ F = true) :
    F.leaves a₀ (shadowRearm s p i t) := by
  unfold shadowRearm
  refine Foot.ite_leaves ?_ ?_
  · refine modSx_leaves ?_ (Foot.le_trans (by decide) hF)
    exact h
  · exact h

theorem shadowSaw_leaves {F : Foot} {a₀ : State} {s : State} {g : Nat} {t : Tick} (h : F.leaves a₀ s) (hF : Foot.le ⟨0x10000, [], [.slices]⟩ F = true) :
    F.leaves a₀ (shadowSaw s g t) := by
  unfold shadowSaw
  extract_lets +onlyGivenNames -merge -useContext -underBinder y0
  refine Foot.ite_leaves ?_ ?_
  · exact h
  · refine note_leaves ?_ (Foot.le_trans (by decide) hF)
    refine modSx_leaves ?_ (Foot.le_trans (by decide) hF)
    exact h

theorem rotBoundary_leaves {F : Foot} {a₀ : State} {s : State} {p : Nat} {t : Tick} (h : F.leaves a₀ s) (hF : Foot.le ⟨0x3000, [], [.groups, .slices, .cal, .rcd]⟩ F = true) :
    F.leaves a₀ (rotBoundary s p t) := by
  unfold rotBoundary
  extract_lets +onlyGivenNames -merge -useContext -underBinder y0
  extract_lets +onlyGivenNames -merge -useContext -underBinder y1
  try clear_value y1
  refine Foot.ite_leaves ?_ ?_
  · exact h
  · extract_lets +onlyGivenNames -merge -useContext -underBinder y2
    try clear_value y2
    extract_lets +onlyGivenNames -merge -useContext -underBinder y3
    refine Foot.ite_leaves ?_ ?_
    · refine Foot.ite_leaves ?_ ?_
      · extract_lets +onlyGivenNames -merge -useContext -underBinder y4
        have h4 : F.leaves a₀ y4 := by
          refine set_leaves ?_ (Foot.rec_key (Foot.rec_floor hF (by decide)))
          refine setRole_leaves ?_ (Foot.le_trans (by decide) hF) (Foot.rec_floor hF (by decide)) (Foot.rec_floor hF (by decide))
          exact h
        try clear_value y4
        extract_lets +onlyGivenNames -merge -useContext -underBinder y5
        have h5 : F.leaves a₀ y5 := by
          refine cmpShadow_leaves ?_ (Foot.le_trans (by decide) hF)
          refine modSx_leaves ?_ (Foot.le_trans (by decide) hF)
          exact h4
        try clear_value y5
        refine syncRot_leaves ?_ (Foot.le_trans (by decide) hF) (Foot.rec_floor hF (by decide))
        refine modRot_leaves ?_ (Foot.le_trans (by decide) hF)
        exact h5
      · exact h
    · refine Foot.ite_leaves ?_ ?_
      · refine Foot.ite_leaves ?_ ?_
        · refine Foot.ite_leaves ?_ ?_
          · extract_lets +onlyGivenNames -merge -useContext -underBinder y6
            have h6 : F.leaves a₀ y6 := by
              refine setRole_leaves ?_ (Foot.le_trans (by decide) hF) (Foot.rec_floor hF (by decide)) (Foot.rec_floor hF (by decide))
              exact h
            try clear_value y6
            extract_lets +onlyGivenNames -merge -useContext -underBinder y7
            have h7 : F.leaves a₀ y7 := by
              refine modGx_leaves ?_ (Foot.le_trans (by decide) hF)
              exact h6
            try clear_value y7
            refine syncRot_leaves ?_ (Foot.le_trans (by decide) hF) (Foot.rec_floor hF (by decide))
            refine rotBit_leaves ?_ (Foot.le_trans (by decide) hF) (Foot.rec_floor hF (by decide))
            refine modRot_leaves ?_ (Foot.le_trans (by decide) hF)
            exact h7
          · refine rotBit_leaves ?_ (Foot.le_trans (by decide) hF) (Foot.rec_floor hF (by decide))
            exact h
        · refine shadowRearm_leaves ?_ (Foot.le_trans (by decide) hF)
          exact h
      · exact h

theorem transferOver_leaves {F : Foot} {a₀ : State} {s : State} {g : Nat} {t : Tick} (h : F.leaves a₀ s) (hF : Foot.le ⟨0x3000, [0x2000, 0x2001, 0x2600], [.blobs, .ports, .groups, .slices, .micro, .cal, .rcd, .pwr, .nv, .tx]⟩ F = true) :
    F.leaves a₀ (transferOver s g t) := by
  unfold transferOver
  extract_lets +onlyGivenNames -merge -useContext -underBinder y0
  try clear_value y0
  extract_lets +onlyGivenNames -merge -useContext -underBinder y1
  extract_lets +onlyGivenNames -merge -useContext -underBinder y2
  have h2 : F.leaves a₀ y2 := by
    refine modGx_leaves ?_ (Foot.le_trans (by decide) hF)
    exact h
  try clear_value y2
  extract_lets +onlyGivenNames -merge -useContext -underBinder y3
  have h3 : F.leaves a₀ y3 := by
    refine syncPort_leaves ?_ (Foot.le_trans (by decide) hF) (Foot.rec_floor hF (by decide))
    refine set_leaves ?_ (Foot.rec_key (Foot.rec_floor hF (by decide)))
    refine cmpTake_leaves ?_ (Foot.le_trans (by decide) hF)
    exact h2
  try clear_value y3
  refine Foot.ite_leaves ?_ ?_
  · refine Foot.ite_leaves ?_ ?_
    · refine rotEnd_leaves ?_ (Foot.le_trans (by decide) hF)
      refine substDone_leaves ?_ (Foot.le_trans (by decide) hF)
      exact h3
    · extract_lets +onlyGivenNames -merge -useContext -underBinder y4
      have h4 : F.leaves a₀ y4 := by
        refine syncRot_leaves ?_ (Foot.le_trans (by decide) hF) (Foot.rec_floor hF (by decide))
        refine modRot_leaves ?_ (Foot.le_trans (by decide) hF)
        exact h3
      try clear_value y4
      extract_lets +onlyGivenNames -merge -useContext -underBinder y5
      refine Foot.ite_leaves ?_ ?_
      · refine syncRot_leaves ?_ (Foot.le_trans (by decide) hF) (Foot.rec_floor hF (by decide))
        refine modRot_leaves ?_ (Foot.le_trans (by decide) hF)
        exact h4
      · extract_lets +onlyGivenNames -merge -useContext -underBinder y6
        refine Foot.ite_leaves ?_ ?_
        · refine runStart_leaves ?_ (Foot.le_trans (by decide) hF) (Foot.rec_floor hF (by decide))
          exact h4
        · refine syncRot_leaves ?_ (Foot.le_trans (by decide) hF) (Foot.rec_floor hF (by decide))
          refine modRot_leaves ?_ (Foot.le_trans (by decide) hF)
          refine runStart_leaves ?_ (Foot.le_trans (by decide) hF) (Foot.rec_floor hF (by decide))
          exact h4
  · refine rotNext_leaves ?_ (Foot.le_trans (by decide) hF)
    refine reliefFree_leaves ?_ (Foot.le_trans (by decide) hF) (Foot.rec_floor hF (by decide)) (Foot.rec_floor hF (by decide)) (Foot.rec_floor hF (by decide))
    exact h3

theorem agreeSpan_leaves {F : Foot} {a₀ : State} {s : State} {g : Nat} {t : Tick} (h : F.leaves a₀ s) (hF : Foot.le ⟨0x10000, [], [.cal]⟩ F = true) :
    F.leaves a₀ (agreeSpan s g t) := by
  unfold agreeSpan
  refine modRot_leaves ?_ (Foot.le_trans (by decide) hF)
  exact h

theorem agreeEnd_leaves {F : Foot} {a₀ : State} {s : State} {g : Nat} {dV : Int} {dI : Int} (h : F.leaves a₀ s) (hF : Foot.le ⟨0x3000, [0x2000, 0x2001, 0x2600], [.ports, .groups, .slices, .micro, .cal, .rcd, .pwr, .nv, .tx]⟩ F = true) :
    F.leaves a₀ (agreeEnd s g dV dI) := by
  unfold agreeEnd
  extract_lets +onlyGivenNames -merge -useContext -underBinder y0
  try clear_value y0
  extract_lets +onlyGivenNames -merge -useContext -underBinder y1
  try clear_value y1
  extract_lets +onlyGivenNames -merge -useContext -underBinder y2
  extract_lets +onlyGivenNames -merge -useContext -underBinder y3
  try clear_value y3
  split
  · refine agreeSpan_leaves ?_ (Foot.le_trans (by decide) hF)
    exact h
  · extract_lets +onlyGivenNames -merge -useContext -underBinder y4
    extract_lets +onlyGivenNames -merge -useContext -underBinder y5
    try clear_value y5
    refine Foot.ite_leaves ?_ ?_
    · refine syncRot_leaves ?_ (Foot.le_trans (by decide) hF) (Foot.rec_floor hF (by decide))
      refine modRot_leaves ?_ (Foot.le_trans (by decide) hF)
      exact h
    · refine Foot.ite_leaves ?_ ?_
      · refine modRot_leaves ?_ (Foot.le_trans (by decide) hF)
        refine agreeSpan_leaves ?_ (Foot.le_trans (by decide) hF)
        exact h
      · extract_lets +onlyGivenNames -merge -useContext -underBinder y6
        have h6 : F.leaves a₀ y6 := by
          refine note_leaves ?_ (Foot.le_trans (by decide) hF)
          refine note_leaves ?_ (Foot.le_trans (by decide) hF)
          refine rotBit_leaves ?_ (Foot.le_trans (by decide) hF) (Foot.rec_floor hF (by decide))
          exact h
        try clear_value y6
        refine Foot.ite_leaves ?_ ?_
        · extract_lets +onlyGivenNames -merge -useContext -underBinder y7
          have h7 : F.leaves a₀ y7 := by
            refine satInc_leaves ?_ (Foot.rec_key (Foot.rec_floor hF (by decide)))
            refine rotBit_leaves ?_ (Foot.le_trans (by decide) hF) (Foot.rec_floor hF (by decide))
            exact h6
          try clear_value y7
          refine rotNext_leaves ?_ (Foot.le_trans (by decide) hF)
          refine reliefFree_leaves ?_ (Foot.le_trans (by decide) hF) (Foot.rec_floor hF (by decide)) (Foot.rec_floor hF (by decide)) (Foot.rec_floor hF (by decide))
          exact h7
        · refine syncRot_leaves ?_ (Foot.le_trans (by decide) hF) (Foot.rec_floor hF (by decide))
          refine modRot_leaves ?_ (Foot.le_trans (by decide) hF)
          exact h6

theorem winRun_leaves {F : Foot} {a₀ : State} {s : State} {g : Nat} {k : Nat} {t : Tick} (h : F.leaves a₀ s) (hF : Foot.le ⟨0x3000, [], [.ports, .slices, .micro, .cal, .rcd, .tx]⟩ F = true) :
    F.leaves a₀ (winRun s g k t) := by
  unfold winRun
  extract_lets +onlyGivenNames -merge -useContext -underBinder y0
  extract_lets +onlyGivenNames -merge -useContext -underBinder y1
  extract_lets +onlyGivenNames -merge -useContext -underBinder y2
  have h2 : F.leaves a₀ y2 := by
    refine set_leaves ?_ (Foot.rec_key (Foot.rec_floor hF (by decide)))
    refine setRole_leaves ?_ (Foot.le_trans (by decide) hF) (Foot.rec_floor hF (by decide)) (Foot.rec_floor hF (by decide))
    exact h
  try clear_value y2
  extract_lets +onlyGivenNames -merge -useContext -underBinder y3
  refine Foot.ite_leaves ?_ ?_
  · refine runStart_leaves ?_ (Foot.le_trans (by decide) hF) (Foot.rec_floor hF (by decide))
    exact h2
  · refine winEnable_leaves ?_ (Foot.le_trans (by decide) hF)
    refine setRole_leaves ?_ (Foot.le_trans (by decide) hF) (Foot.rec_floor hF (by decide)) (Foot.rec_floor hF (by decide))
    refine runStart_leaves ?_ (Foot.le_trans (by decide) hF) (Foot.rec_floor hF (by decide))
    exact h2

theorem substTry_leaves {F : Foot} {a₀ : State} {s : State} {g : Nat} {t : Tick} (h : F.leaves a₀ s) (hF : Foot.le ⟨0x3000, [], [.blobs, .ports, .slices, .cal, .rcd, .nv, .tx]⟩ F = true) :
    F.leaves a₀ (substTry s g t) := by
  unfold substTry
  extract_lets +onlyGivenNames -merge -useContext -underBinder y0
  try clear_value y0
  refine Foot.ite_leaves ?_ ?_
  · refine Foot.ite_leaves ?_ ?_
    · refine reliefOut_leaves ?_ (Foot.le_trans (by decide) hF) (Foot.rec_floor hF (by decide)) (Foot.rec_floor hF (by decide)) (Foot.rec_floor hF (by decide))
      exact h
    · refine modRot_leaves ?_ (Foot.le_trans (by decide) hF)
      exact h
  · refine Foot.ite_leaves ?_ ?_
    · extract_lets +onlyGivenNames -merge -useContext -underBinder y1
      extract_lets +onlyGivenNames -merge -useContext -underBinder y2
      extract_lets +onlyGivenNames -merge -useContext -underBinder y3
      refine Foot.ite_leaves ?_ ?_
      · refine modRot_leaves ?_ (Foot.le_trans (by decide) hF)
        exact h
      · refine Foot.ite_leaves ?_ ?_
        · exact h
        · refine Foot.ite_leaves ?_ ?_
          · refine substDone_leaves ?_ (Foot.le_trans (by decide) hF)
            exact h
          · refine Foot.ite_leaves ?_ ?_
            · refine syncRot_leaves ?_ (Foot.le_trans (by decide) hF) (Foot.rec_floor hF (by decide))
              refine modRot_leaves ?_ (Foot.le_trans (by decide) hF)
              exact h
            · exact h
    · exact h

theorem substEarly_leaves {F : Foot} {a₀ : State} {s : State} {g : Nat} {t : Tick} (h : F.leaves a₀ s) (hF : Foot.le ⟨0x3000, [0x2000, 0x2001, 0x2600], [.blobs, .ports, .groups, .slices, .micro, .cal, .rcd, .pwr, .nv, .tx]⟩ F = true) :
    F.leaves a₀ (substEarly s g t) := by
  unfold substEarly
  extract_lets +onlyGivenNames -merge -useContext -underBinder y0
  try clear_value y0
  extract_lets +onlyGivenNames -merge -useContext -underBinder y1
  extract_lets +onlyGivenNames -merge -useContext -underBinder y2
  refine Foot.ite_leaves ?_ ?_
  · exact h
  · refine Foot.ite_leaves ?_ ?_
    · extract_lets +onlyGivenNames -merge -useContext -underBinder y3
      refine substDone_leaves ?_ (Foot.le_trans (by decide) hF)
      refine rotEnd_leaves ?_ (Foot.le_trans (by decide) hF)
      try unfold y3
      beta_reduce
      split
      · refine Foot.ite_leaves ?_ ?_
        · refine setRole_leaves ?_ (Foot.le_trans (by decide) hF) (Foot.rec_floor hF (by decide)) (Foot.rec_floor hF (by decide))
          refine runAbort_leaves ?_ (Foot.le_trans (by decide) hF) (Foot.rec_floor hF (by decide))
          exact h
        · refine runAbort_leaves ?_ (Foot.le_trans (by decide) hF) (Foot.rec_floor hF (by decide))
          exact h
      · refine runAbort_leaves ?_ (Foot.le_trans (by decide) hF) (Foot.rec_floor hF (by decide))
        exact h
    · refine Foot.ite_leaves ?_ ?_
      · refine runStop_leaves ?_ (Foot.le_trans (by decide) hF)
        exact h
      · exact h

theorem rotKick_leaves {F : Foot} {a₀ : State} {s : State} {g : Nat} {t : Tick} (h : F.leaves a₀ s) (hF : Foot.le ⟨0x3000, [0x2000, 0x2001, 0x2600], [.blobs, .ports, .groups, .slices, .micro, .cal, .rcd, .pwr, .nv, .tx]⟩ F = true) :
    F.leaves a₀ (rotKick s g t) := by
  unfold rotKick
  extract_lets +onlyGivenNames -merge -useContext -underBinder y0
  have h0 : F.leaves a₀ y0 := by
    refine substEarly_leaves ?_ (Foot.le_trans (by decide) hF)
    exact h
  try clear_value y0
  extract_lets +onlyGivenNames -merge -useContext -underBinder y1
  try clear_value y1
  extract_lets +onlyGivenNames -merge -useContext -underBinder y2
  extract_lets +onlyGivenNames -merge -useContext -underBinder y3
  extract_lets +onlyGivenNames -merge -useContext -underBinder y4
  refine Foot.ite_leaves ?_ ?_
  · refine Foot.ite_leaves ?_ ?_
    · refine winRun_leaves ?_ (Foot.le_trans (by decide) hF)
      exact h0
    · exact h0
  · refine Foot.ite_leaves ?_ ?_
    · refine Foot.ite_leaves ?_ ?_
      · exact h0
      · refine rotNext_leaves ?_ (Foot.le_trans (by decide) hF)
        refine set_leaves ?_ (Foot.rec_key (Foot.rec_floor hF (by decide)))
        refine set_leaves ?_ (Foot.rec_key (Foot.rec_floor hF (by decide)))
        exact h0
    · refine Foot.ite_leaves ?_ ?_
      · extract_lets +onlyGivenNames -merge -useContext -underBinder y5
        have h5 : F.leaves a₀ y5 := by
          refine modRot_leaves ?_ (Foot.le_trans (by decide) hF)
          refine runAbort_leaves ?_ (Foot.le_trans (by decide) hF) (Foot.rec_floor hF (by decide))
          exact h0
        try clear_value y5
        refine rotNext_leaves ?_ (Foot.le_trans (by decide) hF)
        refine reliefFree_leaves ?_ (Foot.le_trans (by decide) hF) (Foot.rec_floor hF (by decide)) (Foot.rec_floor hF (by decide)) (Foot.rec_floor hF (by decide))
        exact h5
      · refine Foot.ite_leaves ?_ ?_
        · extract_lets +onlyGivenNames -merge -useContext -underBinder y6
          have h6 : F.leaves a₀ y6 := by
            refine substTry_leaves ?_ (Foot.le_trans (by decide) hF)
            exact h0
          try clear_value y6
          extract_lets +onlyGivenNames -merge -useContext -underBinder y7
          have h7 : F.leaves a₀ y7 := by
            refine xferTry_leaves ?_ (Foot.le_trans (by decide) hF)
            exact h6
          try clear_value y7
          refine Foot.ite_leaves ?_ ?_
          · refine rotStart_leaves ?_ (Foot.le_trans (by decide) hF)
            exact h7
          · refine Foot.ite_leaves ?_ ?_
            · refine rotStart_leaves ?_ (Foot.le_trans (by decide) hF)
              exact h7
            · exact h7
        · exact h0

theorem rotQuiesce_leaves {F : Foot} {a₀ : State} {s : State} {g : Nat} {t : Tick} (h : F.leaves a₀ s) (hF : Foot.le ⟨0x3000, [0x2000, 0x2001, 0x2600], [.blobs, .ports, .groups, .slices, .micro, .cal, .rcd, .pwr, .nv, .tx]⟩ F = true) :
    F.leaves a₀ (rotQuiesce s g t) := by
  unfold rotQuiesce
  extract_lets +onlyGivenNames -merge -useContext -underBinder y0
  try clear_value y0
  refine Foot.ite_leaves ?_ ?_
  · refine quiescePorts_leaves ?_ (Foot.le_trans (by decide) hF)
    exact h
  · extract_lets +onlyGivenNames -merge -useContext -underBinder y1
    extract_lets +onlyGivenNames -merge -useContext -underBinder y2
    extract_lets +onlyGivenNames -merge -useContext -underBinder y3
    have h3 : F.leaves a₀ y3 := by
      refine Foot.ite_leaves ?_ ?_
      · refine setBit_leaves ?_ (Foot.rec_key (Foot.rec_floor hF (by decide)))
        exact h
      · exact h
    try clear_value y3
    refine Foot.ite_leaves ?_ ?_
    · extract_lets +onlyGivenNames -merge -useContext -underBinder y4
      have h4 : F.leaves a₀ y4 := by
        refine modRot_leaves ?_ (Foot.le_trans (by decide) hF)
        exact h3
      try clear_value y4
      refine runStop_leaves ?_ (Foot.le_trans (by decide) hF)
      exact h4
    · refine Foot.ite_leaves ?_ ?_
      · refine modRot_leaves ?_ (Foot.le_trans (by decide) hF)
        exact h3
      · extract_lets +onlyGivenNames -merge -useContext -underBinder y5
        have h5 : F.leaves a₀ y5 := by
          refine modRot_leaves ?_ (Foot.le_trans (by decide) hF)
          exact h3
        try clear_value y5
        split
        · extract_lets +onlyGivenNames -merge -useContext -underBinder y6
          have h6 : F.leaves a₀ y6 := by
            refine runAbort_leaves ?_ (Foot.le_trans (by decide) hF) (Foot.rec_floor hF (by decide))
            exact h5
          try clear_value y6
          extract_lets +onlyGivenNames -merge -useContext -underBinder y7
          have h7 : F.leaves a₀ y7 := by
            refine Foot.ite_leaves ?_ ?_
            · exact h6
            · refine setRole_leaves ?_ (Foot.le_trans (by decide) hF) (Foot.rec_floor hF (by decide)) (Foot.rec_floor hF (by decide))
              exact h6
          try clear_value y7
          refine rotEnd_leaves ?_ (Foot.le_trans (by decide) hF)
          exact h7
        · refine rotEnd_leaves ?_ (Foot.le_trans (by decide) hF)
          exact h5

theorem rotPreempt_leaves {F : Foot} {a₀ : State} {s : State} {p : Nat} {t : Tick} (h : F.leaves a₀ s) (hF : Foot.le ⟨0x3000, [0x2000, 0x2001, 0x2600], [.blobs, .ports, .groups, .slices, .micro, .cal, .rcd, .pwr, .nv, .tx]⟩ F = true) :
    F.leaves a₀ (rotPreempt s p t) := by
  unfold rotPreempt
  extract_lets +onlyGivenNames -merge -useContext -underBinder y0
  split
  · refine Foot.ite_leaves ?_ ?_
    · refine runStop_leaves ?_ (Foot.le_trans (by decide) hF)
      exact h
    · exact h
  · exact h

theorem rotDisable_leaves {F : Foot} {a₀ : State} {s : State} {p : Nat} {t : Tick} (h : F.leaves a₀ s) (hF : Foot.le ⟨0x3000, [0x2000, 0x2001, 0x2600], [.ports, .groups, .slices, .micro, .cal, .rcd, .pwr, .nv, .tx]⟩ F = true) :
    F.leaves a₀ (rotDisable s p t) := by
  unfold rotDisable
  extract_lets +onlyGivenNames -merge -useContext -underBinder y0
  extract_lets +onlyGivenNames -merge -useContext -underBinder y1
  try clear_value y1
  refine Foot.ite_leaves ?_ ?_
  · exact h
  · extract_lets +onlyGivenNames -merge -useContext -underBinder y2
    refine Foot.ite_leaves ?_ ?_
    · refine rotNext_leaves ?_ (Foot.le_trans (by decide) hF)
      refine set_leaves ?_ (Foot.rec_key (Foot.rec_floor hF (by decide)))
      refine set_leaves ?_ (Foot.rec_key (Foot.rec_floor hF (by decide)))
      exact h
    · refine Foot.ite_leaves ?_ ?_
      · refine modRot_leaves ?_ (Foot.le_trans (by decide) hF)
        exact h
      · split
        · refine Foot.ite_leaves ?_ ?_
          · refine runAbort_leaves ?_ (Foot.le_trans (by decide) hF) (Foot.rec_floor hF (by decide))
            exact h
          · exact h
        · exact h

theorem winDisable_leaves {F : Foot} {a₀ : State} {s : State} {g : Nat} {t : Tick} (h : F.leaves a₀ s) (hF : Foot.le ⟨0x3000, [], [.ports, .groups, .slices, .micro, .cal, .rcd, .tx]⟩ F = true) :
    F.leaves a₀ (winDisable s g t) := by
  unfold winDisable
  extract_lets +onlyGivenNames -merge -useContext -underBinder y0
  extract_lets +onlyGivenNames -merge -useContext -underBinder y1
  have h1 : F.leaves a₀ y1 := by
    refine set_leaves ?_ (Foot.rec_key (Foot.rec_floor hF (by decide)))
    exact h
  try clear_value y1
  refine Foot.ite_leaves ?_ ?_
  · refine winRun_leaves ?_ (Foot.le_trans (by decide) hF)
    exact h1
  · refine gcPush_leaves ?_ (Foot.le_trans (by decide) hF)
    exact h1

theorem winAlign_leaves {F : Foot} {a₀ : State} {s : State} {g : Nat} {t : Tick} (h : F.leaves a₀ s) (hF : Foot.le ⟨0x3000, [], [.ports, .groups, .slices, .micro, .cal, .rcd, .tx]⟩ F = true) :
    F.leaves a₀ (winAlign s g t) := by
  unfold winAlign
  extract_lets +onlyGivenNames -merge -useContext -underBinder y0
  have h0 : F.leaves a₀ y0 := by
    refine set_leaves ?_ (Foot.rec_key (Foot.rec_floor hF (by decide)))
    exact h
  try clear_value y0
  refine Foot.ite_leaves ?_ ?_
  · exact h0
  · refine winDisable_leaves ?_ (Foot.le_trans (by decide) hF)
    exact h0

theorem winClosed_leaves {F : Foot} {a₀ : State} {s : State} {p : Nat} {t : Tick} (h : F.leaves a₀ s) (hF : Foot.le ⟨0x3000, [], [.ports, .groups, .slices, .micro, .cal, .rcd, .tx]⟩ F = true) :
    F.leaves a₀ (winClosed s p t) := by
  unfold winClosed
  extract_lets +onlyGivenNames -merge -useContext -underBinder y0
  refine Foot.ite_leaves ?_ ?_
  · refine winDisable_leaves ?_ (Foot.le_trans (by decide) hF)
    exact h
  · exact h

theorem cellRetire_leaves {F : Foot} {a₀ : State} {s : State} {c : Nat} {t : Tick} (h : F.leaves a₀ s) (hF : Foot.le ⟨0x3000, [0x2600, 0x2000, 0x2001], [.blobs, .ports, .groups, .slices, .micro, .cal, .age, .rcd, .pwr, .nv, .tx]⟩ F = true) :
    F.leaves a₀ (cellRetire s c t) := by
  unfold cellRetire
  extract_lets +onlyGivenNames -merge -useContext -underBinder y0
  have h0 : F.leaves a₀ y0 := by
    refine setBit_leaves ?_ (Foot.rec_const hF (by decide))
    refine setBit_leaves ?_ (Foot.rec_const hF (by decide))
    refine setBit_leaves ?_ (Foot.rec_const hF (by decide))
    exact h
  try clear_value y0
  extract_lets +onlyGivenNames -merge -useContext -underBinder u1_0 y1
  have h1 : F.leaves a₀ y1 := by
    exact { h0 with age := .inl (Foot.part hF (by decide)) }
  try clear_value y1
  refine requestCommit_leaves ?_ (Foot.le_trans (by decide) hF)
  refine Foot.foldl_leaves ?_ fun z2 i2 h2 => ?_
  · exact h1
  · refine runStop_leaves ?_ (Foot.le_trans (by decide) hF)
    exact h2

theorem cellEnter_leaves {F : Foot} {a₀ : State} {s : State} {n : Nat} {t : Tick} (h : F.leaves a₀ s) (hF : Foot.le ⟨0x10000, [0x2600], [.cal]⟩ F = true) :
    F.leaves a₀ (cellEnter s n t) := by
  unfold cellEnter
  extract_lets +onlyGivenNames -merge -useContext -underBinder y0
  have h0 : F.leaves a₀ y0 := by
    refine setBit_leaves ?_ (Foot.rec_const hF (by decide))
    exact h
  try clear_value y0
  refine xferTry_leaves ?_ (Foot.le_trans (by decide) hF)
  exact { h0 with cal := .inl (Foot.part hF (by decide)) }

theorem cellReplace_leaves {F : Foot} {a₀ : State} {s : State} {c : Nat} {t : Tick} (h : F.leaves a₀ s) (hF : Foot.le ⟨0x10000, [0x9000, 0x2600], [.blobs, .cal, .nv]⟩ F = true) :
    F.leaves a₀ (cellReplace s c t) := by
  unfold cellReplace
  extract_lets +onlyGivenNames -merge -useContext -underBinder y0
  try clear_value y0
  refine Foot.ite_leaves ?_ ?_
  · extract_lets +onlyGivenNames -merge -useContext -underBinder y1
    refine cellEnter_leaves ?_ (Foot.le_trans (by decide) hF)
    refine garnet_leaves ?_ (Foot.le_trans (by decide) hF)
    exact h
  · refine setBit_leaves ?_ (Foot.rec_const hF (by decide))
    exact h

theorem cellBoot_leaves {F : Foot} {a₀ : State} {s : State} {t : Tick} (h : F.leaves a₀ s) (hF : Foot.le ⟨0x10000, [0x2600, 0x9000], [.blobs, .cal, .nv]⟩ F = true) :
    F.leaves a₀ (cellBoot s t) := by
  unfold cellBoot
  refine Foot.foldl_leaves ?_ fun z0 i0 h0 => ?_
  · exact h
  · refine Foot.ite_leaves ?_ ?_
    · exact h0
    · refine Foot.ite_leaves ?_ ?_
      · refine cellEnter_leaves ?_ (Foot.le_trans (by decide) hF)
        exact h0
      · refine cellReplace_leaves ?_ (Foot.le_trans (by decide) hF)
        exact h0

theorem xferStep_leaves {F : Foot} {a₀ : State} {s : State} {d : XferData} (h : F.leaves a₀ s) (hF : Foot.le ⟨0x3000, [0x2600, 0x2000, 0x2001], [.ports, .groups, .slices, .micro, .cal, .rcd, .pwr, .nv, .tx]⟩ F = true) :
    F.leaves a₀ (xferStep s d) := by
  unfold xferStep
  split
  · exact h
  · extract_lets +onlyGivenNames -merge -useContext -underBinder y0
    try clear_value y0
    extract_lets +onlyGivenNames -merge -useContext -underBinder y1
    extract_lets +onlyGivenNames -merge -useContext -underBinder y2
    split
    · refine set_leaves ?_ (Foot.rec_const hF (by decide))
      try unfold y1
      beta_reduce
      exact { h with cal := .inl (Foot.part hF (by decide)) }
    · extract_lets +onlyGivenNames -merge -useContext -underBinder y3
      try clear_value y3
      extract_lets +onlyGivenNames -merge -useContext -underBinder y4
      try clear_value y4
      refine Foot.ite_leaves ?_ ?_
      · try unfold y2
        beta_reduce
        extract_lets +onlyGivenNames -merge -useContext -underBinder u5_0 y5
        have h5 : F.leaves a₀ y5 := by
          exact { h with cal := .inl (Foot.part hF (by decide)) }
        try clear_value y5
        refine xferResume_leaves ?_ (Foot.le_trans (by decide) hF)
        refine xferDefer_leaves ?_ (Foot.le_trans (by decide) hF)
        exact h5
      · refine set_leaves ?_ (Foot.rec_const hF (by decide))
        try unfold y1
        beta_reduce
        exact { h with cal := .inl (Foot.part hF (by decide)) }
    · extract_lets +onlyGivenNames -merge -useContext -underBinder y6
      try clear_value y6
      split
      · try unfold y2
        beta_reduce
        extract_lets +onlyGivenNames -merge -useContext -underBinder u7_0 y7
        have h7 : F.leaves a₀ y7 := by
          exact { h with cal := .inl (Foot.part hF (by decide)) }
        try clear_value y7
        refine xferResume_leaves ?_ (Foot.le_trans (by decide) hF)
        refine xferDefer_leaves ?_ (Foot.le_trans (by decide) hF)
        exact h7
      · refine requestCommit_leaves ?_ (Foot.le_trans (by decide) hF)
        refine set_leaves ?_ (Foot.rec_const hF (by decide))
        try unfold y1
        beta_reduce
        exact { h with cal := .inl (Foot.part hF (by decide)) }
    · exact h

theorem xferApply_leaves {F : Foot} {a₀ : State} {s : State} {x : Xfer} {t : Tick} (h : F.leaves a₀ s) (hF : Foot.le ⟨0x3000, [0x2600, 0x2000, 0x2001], [.blobs, .ports, .groups, .slices, .micro, .cal, .age, .rcd, .pwr, .nv, .tx]⟩ F = true) :
    F.leaves a₀ (xferApply s x t) := by
  unfold xferApply
  extract_lets +onlyGivenNames -merge -useContext -underBinder y0
  try clear_value y0
  extract_lets +onlyGivenNames -merge -useContext -underBinder y1
  try clear_value y1
  extract_lets +onlyGivenNames -merge -useContext -underBinder y2
  have h2 : F.leaves a₀ y2 := by
    refine set_leaves ?_ (Foot.rec_const hF (by decide))
    exact h
  try clear_value y2
  extract_lets +onlyGivenNames -merge -useContext -underBinder u3_0 y3
  have h3 : F.leaves a₀ y3 := by
    exact { h2 with cal := .inl (Foot.part hF (by decide)) }
  try clear_value y3
  extract_lets +onlyGivenNames -merge -useContext -underBinder y4
  have h4 : F.leaves a₀ y4 := by
    refine set_leaves ?_ (Foot.rec_const hF (by decide))
    exact h3
  try clear_value y4
  split
  · extract_lets +onlyGivenNames -merge -useContext -underBinder y5
    refine set_leaves ?_ (Foot.rec_devKey (Foot.rec_const hF (by decide)))
    exact h4
  · extract_lets +onlyGivenNames -merge -useContext -underBinder y6
    have h6 : F.leaves a₀ y6 := by
      refine when_leaves ?_ fun z7 h7 => ?_
      · exact h4
      · refine set_leaves ?_ (Foot.rec_const hF (by decide))
        exact h7
    try clear_value y6
    extract_lets +onlyGivenNames -merge -useContext -underBinder y8
    have h8 : F.leaves a₀ y8 := by
      refine when_leaves ?_ fun z9 h9 => ?_
      · exact h6
      · refine set_leaves ?_ (Foot.rec_const hF (by decide))
        exact h9
    try clear_value y8
    extract_lets +onlyGivenNames -merge -useContext -underBinder y10
    have h10 : F.leaves a₀ y10 := by
      refine set_leaves ?_ (Foot.rec_const hF (by decide))
      refine satInc_leaves ?_ (Foot.rec_const hF (by decide))
      exact h8
    try clear_value y10
    extract_lets +onlyGivenNames -merge -useContext -underBinder u11_0 y11
    have h11 : F.leaves a₀ y11 := by
      exact { h10 with cal := .inl (Foot.part hF (by decide)) }
    try clear_value y11
    refine Foot.ite_leaves ?_ ?_
    · refine setBit_leaves ?_ (Foot.rec_const hF (by decide))
      exact h11
    · extract_lets +onlyGivenNames -merge -useContext -underBinder y12
      try clear_value y12
      extract_lets +onlyGivenNames -merge -useContext -underBinder y13
      try clear_value y13
      extract_lets +onlyGivenNames -merge -useContext -underBinder y14
      try clear_value y14
      refine Foot.ite_leaves ?_ ?_
      · refine cellRetire_leaves ?_ (Foot.le_trans (by decide) hF)
        exact h11
      · refine Foot.ite_leaves ?_ ?_
        · refine cellRetire_leaves ?_ (Foot.le_trans (by decide) hF)
          exact h11
        · refine Foot.ite_leaves ?_ ?_
          · refine setBit_leaves ?_ (Foot.rec_const hF (by decide))
            refine setBit_leaves ?_ (Foot.rec_const hF (by decide))
            exact h11
          · refine setBit_leaves ?_ (Foot.rec_const hF (by decide))
            exact h11

theorem voteStart_leaves {F : Foot} {a₀ : State} {s : State} {t : Tick} (h : F.leaves a₀ s) (hF : Foot.le ⟨0x10000, [0x9000], [.age]⟩ F = true) :
    F.leaves a₀ (voteStart s t) := by
  unfold voteStart
  extract_lets +onlyGivenNames -merge -useContext -underBinder y0
  try clear_value y0
  refine Foot.ite_leaves ?_ ?_
  · refine Foot.ite_leaves ?_ ?_
    · exact { h with age := .inl (Foot.part hF (by decide)) }
    · refine setBit_leaves ?_ (Foot.rec_const hF (by decide))
      exact h
  · exact h

theorem voteEnd_leaves {F : Foot} {a₀ : State} {s : State} {d0 : Int} {d1 : Int} {t : Tick} (h : F.leaves a₀ s) (hF : Foot.le ⟨0x3000, [0x2600, 0x2000, 0x2001], [.blobs, .ports, .groups, .slices, .micro, .cal, .age, .rcd, .pwr, .nv, .tx]⟩ F = true) :
    F.leaves a₀ (voteEnd s d0 d1 t) := by
  unfold voteEnd
  extract_lets +onlyGivenNames -merge -useContext -underBinder y0
  try clear_value y0
  extract_lets +onlyGivenNames -merge -useContext -underBinder y1
  try clear_value y1
  extract_lets +onlyGivenNames -merge -useContext -underBinder y2
  try clear_value y2
  extract_lets +onlyGivenNames -merge -useContext -underBinder y3
  try clear_value y3
  extract_lets +onlyGivenNames -merge -useContext -underBinder u4_0 y4
  have h4 : F.leaves a₀ y4 := by
    exact { h with age := .inl (Foot.part hF (by decide)) }
  try clear_value y4
  refine Foot.ite_leaves ?_ ?_
  · exact h4
  · refine Foot.ite_leaves ?_ ?_
    · refine cellRetire_leaves ?_ (Foot.le_trans (by decide) hF)
      exact h4
    · refine Foot.ite_leaves ?_ ?_
      · refine cellRetire_leaves ?_ (Foot.le_trans (by decide) hF)
        exact h4
      · refine setBit_leaves ?_ (Foot.rec_const hF (by decide))
        exact h4

/-! ### AgeCore -/

theorem stressSlice_leaves {F : Foot} {a₀ : State} {s : State} {i : Nat} (h : F.leaves a₀ s) (hF : Foot.le ⟨0x10000, [], [.slices]⟩ F = true) (r0 : F.covers (0x4100 + i)) :
    F.leaves a₀ (stressSlice s i) := by
  unfold stressSlice
  extract_lets +onlyGivenNames -merge -useContext -underBinder y0
  extract_lets +onlyGivenNames -merge -useContext -underBinder y1
  try clear_value y1
  extract_lets +onlyGivenNames -merge -useContext -underBinder y2
  try clear_value y2
  extract_lets +onlyGivenNames -merge -useContext -underBinder y3
  have h3 : F.leaves a₀ y3 := by
    refine satInc_leaves ?_ (Foot.rec_key r0)
    refine set_leaves ?_ (Foot.rec_key r0)
    exact h
  try clear_value y3
  refine modSx_leaves ?_ (Foot.le_trans (by decide) hF)
  exact h3

theorem lifeUsed_leaves {F : Foot} {a₀ : State} {s : State} (h : F.leaves a₀ s) (hF : Foot.le ⟨0x10000, [0x9000], []⟩ F = true) :
    F.leaves a₀ (lifeUsed s) := by
  unfold lifeUsed
  extract_lets +onlyGivenNames -merge -useContext -underBinder y0
  extract_lets +onlyGivenNames -merge -useContext -underBinder y1
  try clear_value y1
  refine setBit_leaves ?_ (Foot.rec_const hF (by decide))
  refine setQ_leaves ?_ (Foot.rec_const hF (by decide))
  exact h

theorem groupPlan_leaves {F : Foot} {a₀ : State} {s : State} {g : Nat} (h : F.leaves a₀ s) (hF : Foot.le ⟨0x10000, [0x8000], [.rcd]⟩ F = true) (r0 : F.covers (0x3000 + g)) :
    F.leaves a₀ (groupPlan s g) := by
  unfold groupPlan
  extract_lets +onlyGivenNames -merge -useContext -underBinder y0
  try clear_value y0
  extract_lets +onlyGivenNames -merge -useContext -underBinder y1
  try clear_value y1
  refine derivedQ_leaves ?_ (Foot.le_trans (by decide) hF) (Foot.rec_key r0)
  exact h

theorem planSlice_leaves {F : Foot} {a₀ : State} {s : State} {i : Nat} {rho : Rat} (h : F.leaves a₀ s) (hF : Foot.le ⟨0x10000, [0x8000], [.slices, .rcd]⟩ F = true) (r0 : F.covers (0x4100 + i)) :
    F.leaves a₀ (planSlice s i rho) := by
  unfold planSlice
  extract_lets +onlyGivenNames -merge -useContext -underBinder y0
  try clear_value y0
  extract_lets +onlyGivenNames -merge -useContext -underBinder y1
  extract_lets +onlyGivenNames -merge -useContext -underBinder y2
  extract_lets +onlyGivenNames -merge -useContext -underBinder y3
  try clear_value y3
  extract_lets +onlyGivenNames -merge -useContext -underBinder y4
  try clear_value y4
  extract_lets +onlyGivenNames -merge -useContext -underBinder y5
  try clear_value y5
  extract_lets +onlyGivenNames -merge -useContext -underBinder y6
  have h6 : F.leaves a₀ y6 := by
    refine derivedQ_leaves ?_ (Foot.le_trans (by decide) hF) (Foot.rec_key r0)
    refine derived_leaves ?_ (Foot.le_trans (by decide) hF) (Foot.rec_key r0)
    refine derivedQ_leaves ?_ (Foot.le_trans (by decide) hF) (Foot.rec_key r0)
    exact h
  try clear_value y6
  refine modSx_leaves ?_ (Foot.le_trans (by decide) hF)
  exact h6

theorem evaluate_leaves {F : Foot} {a₀ : State} {s : State} {i : Nat} (h : F.leaves a₀ s) (hF : Foot.le ⟨0x10000, [0x9000, 0x8000], [.slices, .rcd]⟩ F = true) (r0 : F.covers (0x4100 + i)) :
    F.leaves a₀ (evaluate s i) := by
  unfold evaluate
  refine Foot.ite_leaves ?_ ?_
  · exact h
  · extract_lets +onlyGivenNames -merge -useContext -underBinder y0
    try clear_value y0
    extract_lets +onlyGivenNames -merge -useContext -underBinder y1
    have h1 : F.leaves a₀ y1 := by
      refine setQ_leaves ?_ (Foot.rec_key r0)
      exact h
    try clear_value y1
    extract_lets +onlyGivenNames -merge -useContext -underBinder y2
    extract_lets +onlyGivenNames -merge -useContext -underBinder y3
    have h3 : F.leaves a₀ y3 := by
      refine modSx_leaves ?_ (Foot.le_trans (by decide) hF)
      exact h1
    try clear_value y3
    extract_lets +onlyGivenNames -merge -useContext -underBinder y4
    have h4 : F.leaves a₀ y4 := by
      refine Foot.ite_leaves ?_ ?_
      · exact h3
      · refine Foot.ite_leaves ?_ ?_
        · refine when_leaves ?_ fun z5 h5 => ?_
          · exact h3
          · refine setBit_leaves ?_ (Foot.rec_const hF (by decide))
            refine set_leaves ?_ (Foot.rec_key r0)
            exact h5
        · refine set_leaves ?_ (Foot.rec_key r0)
          exact h3
    try clear_value y4
    refine planSlice_leaves ?_ (Foot.le_trans (by decide) hF) r0
    exact h4

theorem planApply_leaves {F : Foot} {a₀ : State} {s : State} {p : Nat} (h : F.leaves a₀ s) (hF : Foot.le ⟨0x10000, [0x8000], [.rcd]⟩ F = true) (r0 : F.covers (0x4000 + p)) :
    F.leaves a₀ (planApply s p) := by
  unfold planApply
  extract_lets +onlyGivenNames -merge -useContext -underBinder y0
  refine Foot.ite_leaves ?_ ?_
  · exact h
  · extract_lets +onlyGivenNames -merge -useContext -underBinder y1
    extract_lets +onlyGivenNames -merge -useContext -underBinder y2
    have h2 : F.leaves a₀ y2 := by
      refine derived_leaves ?_ (Foot.le_trans (by decide) hF) (Foot.rec_key r0)
      exact h
    try clear_value y2
    extract_lets +onlyGivenNames -merge -useContext -underBinder y3
    extract_lets +onlyGivenNames -merge -useContext -underBinder y4
    refine derived_leaves ?_ (Foot.le_trans (by decide) hF) (Foot.rec_key r0)
    exact h2

theorem wornReview_leaves {F : Foot} {a₀ : State} {s : State} (h : F.leaves a₀ s) (hF : Foot.le ⟨0x10000, [], [.slices, .nv]⟩ F = true) :
    F.leaves a₀ (wornReview s) := by
  unfold wornReview
  extract_lets +onlyGivenNames -merge -useContext -underBinder y0
  try clear_value y0
  extract_lets +onlyGivenNames -merge -useContext -underBinder y1
  try clear_value y1
  refine Foot.foldl_leaves ?_ fun z2 i2 h2 => ?_
  · exact h
  · extract_lets +onlyGivenNames -merge -useContext -underBinder y3
    extract_lets +onlyGivenNames -merge -useContext -underBinder y4
    extract_lets +onlyGivenNames -merge -useContext -underBinder y5
    have h5 : F.leaves a₀ y5 := by
      refine modSx_leaves ?_ (Foot.le_trans (by decide) hF)
      exact h2
    try clear_value y5
    refine Foot.ite_leaves ?_ ?_
    · exact h5
    · refine requestCommit_leaves ?_ (Foot.le_trans (by decide) hF)
      exact h5

theorem wornDone_leaves {F : Foot} {a₀ : State} {s : State} {i : Nat} {causes : Nat} {t : Tick} (h : F.leaves a₀ s) (hF : Foot.le ⟨0x3000, [0x2000, 0x2001, 0x2600], [.blobs, .ports, .groups, .slices, .micro, .cal, .rcd, .pwr, .nv, .tx]⟩ F = true) :
    F.leaves a₀ (wornDone s i causes t) := by
  unfold wornDone
  extract_lets +onlyGivenNames -merge -useContext -underBinder y0
  extract_lets +onlyGivenNames -merge -useContext -underBinder y1
  have h1 : F.leaves a₀ y1 := by
    refine set_leaves ?_ (Foot.rec_key (Foot.rec_floor hF (by decide)))
    exact h
  try clear_value y1
  refine Foot.ite_leaves ?_ ?_
  · exact h1
  · extract_lets +onlyGivenNames -merge -useContext -underBinder y2
    have h2 : F.leaves a₀ y2 := by
      refine setBit_leaves ?_ (Foot.rec_const hF (by decide))
      refine set_leaves ?_ (Foot.rec_key (Foot.rec_floor hF (by decide)))
      refine set_leaves ?_ (Foot.rec_key (Foot.rec_floor hF (by decide)))
      exact h1
    try clear_value y2
    extract_lets +onlyGivenNames -merge -useContext -underBinder y3
    have h3 : F.leaves a₀ y3 := by
      refine groupPlan_leaves ?_ (Foot.le_trans (by decide) hF) (Foot.rec_floor hF (by decide))
      refine planSlice_leaves ?_ (Foot.le_trans (by decide) hF) (Foot.rec_floor hF (by decide))
      exact h2
    try clear_value y3
    extract_lets +onlyGivenNames -merge -useContext -underBinder y4
    have h4 : F.leaves a₀ y4 := by
      refine Foot.foldl_leaves ?_ fun z5 i5 h5 => ?_
      · exact h3
      · refine syncPortStatus_leaves ?_ (Foot.le_trans (by decide) hF) (Foot.rec_floor hF (by decide))
        exact h5
    try clear_value y4
    extract_lets +onlyGivenNames -merge -useContext -underBinder y6
    refine Foot.ite_leaves ?_ ?_
    · exact h4
    · refine Foot.ite_leaves ?_ ?_
      · refine later_leaves ?_ (Foot.le_trans (by decide) hF)
        refine modRot_leaves ?_ (Foot.le_trans (by decide) hF)
        exact h4
      · refine Foot.ite_leaves ?_ ?_
        · extract_lets +onlyGivenNames -merge -useContext -underBinder y7
          have h7 : F.leaves a₀ y7 := by
            refine modRot_leaves ?_ (Foot.le_trans (by decide) hF)
            exact h4
          try clear_value y7
          split
          · refine Foot.ite_leaves ?_ ?_
            · refine runStop_leaves ?_ (Foot.le_trans (by decide) hF)
              exact h7
            · refine later_leaves ?_ (Foot.le_trans (by decide) hF)
              exact h7
          · refine later_leaves ?_ (Foot.le_trans (by decide) hF)
            exact h7
        · exact h4

theorem wornBoot_leaves {F : Foot} {a₀ : State} {s : State} {i : Nat} (h : F.leaves a₀ s) (hF : Foot.le ⟨0x10000, [0x8000], [.slices, .rcd]⟩ F = true) (r0 : F.covers (0x4100 + i)) :
    F.leaves a₀ (wornBoot s i) := by
  unfold wornBoot
  refine Foot.ite_leaves ?_ ?_
  · refine planSlice_leaves ?_ (Foot.le_trans (by decide) hF) r0
    exact h
  · refine set_leaves ?_ (Foot.rec_key r0)
    exact h

theorem commitDone_leaves {F : Foot} {a₀ : State} {s : State} {c : Commit} {t : Tick} (h : F.leaves a₀ s) (hF : Foot.le ⟨0x3000, [0x2000, 0x2001, 0x2600], [.blobs, .ports, .groups, .slices, .micro, .cal, .age, .rcd, .pwr, .nv, .tx]⟩ F = true) :
    F.leaves a₀ (commitDone s c t) := by
  unfold commitDone
  extract_lets +onlyGivenNames -merge -useContext -underBinder y0
  split
  · extract_lets +onlyGivenNames -merge -useContext -underBinder y1
    split
    · refine Foot.ite_leaves ?_ ?_
      · extract_lets +onlyGivenNames -merge -useContext -underBinder y2
        have h2 : F.leaves a₀ y2 := by
          refine runApply_leaves ?_ (Foot.le_trans (by decide) hF) (Foot.rec_floor hF (by decide))
          exact h
        try clear_value y2
        extract_lets +onlyGivenNames -merge -useContext -underBinder y3
        have h3 : F.leaves a₀ y3 := by
          refine groupPlan_leaves ?_ (Foot.le_trans (by decide) hF) (Foot.rec_floor hF (by decide))
          refine evaluate_leaves ?_ (Foot.le_trans (by decide) hF) (Foot.rec_floor hF (by decide))
          exact h2
        try clear_value y3
        extract_lets +onlyGivenNames -merge -useContext -underBinder y4
        have h4 : F.leaves a₀ y4 := by
          unfold y4
          try unfold y0
          beta_reduce
          refine setNvPair_leaves ?_ (Foot.le_trans (by decide) hF)
          refine modRot_leaves ?_ (Foot.le_trans (by decide) hF)
          refine modSx_leaves ?_ (Foot.le_trans (by decide) hF)
          exact h3
        try clear_value y4
        refine runOver_leaves ?_ (Foot.le_trans (by decide) hF)
        exact h4
      · try unfold y0
        beta_reduce
        refine setNvPair_leaves ?_ (Foot.le_trans (by decide) hF)
        exact h
    · try unfold y0
      beta_reduce
      refine setNvPair_leaves ?_ (Foot.le_trans (by decide) hF)
      exact h
  · try unfold y0
    beta_reduce
    refine setNvPair_leaves ?_ (Foot.le_trans (by decide) hF)
    refine modSx_leaves ?_ (Foot.le_trans (by decide) hF)
    exact h
  · try unfold y0
    beta_reduce
    refine setNvPair_leaves ?_ (Foot.le_trans (by decide) hF)
    refine modSx_leaves ?_ (Foot.le_trans (by decide) hF)
    refine wornDone_leaves ?_ (Foot.le_trans (by decide) hF)
    exact h
  · try unfold y0
    beta_reduce
    refine setNvPair_leaves ?_ (Foot.le_trans (by decide) hF)
    refine set_leaves ?_ (Foot.rec_key (Foot.rec_floor hF (by decide)))
    refine set_leaves ?_ (Foot.rec_key (Foot.rec_floor hF (by decide)))
    refine satInc_leaves ?_ (Foot.rec_key (Foot.rec_floor hF (by decide)))
    exact h
  · split
    · refine Foot.ite_leaves ?_ ?_
      · refine xferResume_leaves ?_ (Foot.le_trans (by decide) hF)
        try unfold y0
        beta_reduce
        refine setNvPair_leaves ?_ (Foot.le_trans (by decide) hF)
        refine xferApply_leaves ?_ (Foot.le_trans (by decide) hF)
        exact h
      · try unfold y0
        beta_reduce
        refine setNvPair_leaves ?_ (Foot.le_trans (by decide) hF)
        exact h
    · try unfold y0
      beta_reduce
      refine setNvPair_leaves ?_ (Foot.le_trans (by decide) hF)
      exact h
  · refine cellReplace_leaves ?_ (Foot.le_trans (by decide) hF)
    try unfold y0
    beta_reduce
    refine setNvPair_leaves ?_ (Foot.le_trans (by decide) hF)
    exact h
  · try unfold y0
    beta_reduce
    refine setNvPair_leaves ?_ (Foot.le_trans (by decide) hF)
    exact h
  · extract_lets +onlyGivenNames -merge -useContext -underBinder y5
    have h5 : F.leaves a₀ y5 := by
      unfold y5
      try unfold y0
      beta_reduce
      refine setNvPair_leaves ?_ (Foot.le_trans (by decide) hF)
      exact h
    try clear_value y5
    extract_lets +onlyGivenNames -merge -useContext -underBinder y6
    have h6 : F.leaves a₀ y6 := by
      refine set_leaves ?_ (Foot.rec_const hF (by decide))
      refine set_leaves ?_ (Foot.rec_const hF (by decide))
      exact h5
    try clear_value y6
    exact h6

theorem commitFail_leaves {F : Foot} {a₀ : State} {s : State} {c : Commit} {t : Tick} (h : F.leaves a₀ s) (hF : Foot.le ⟨0x3000, [0x2600, 0x2000, 0x2001], [.blobs, .ports, .groups, .slices, .micro, .cal, .rcd, .pwr, .nv, .tx]⟩ F = true) :
    F.leaves a₀ (commitFail s c t) := by
  unfold commitFail
  split
  · extract_lets +onlyGivenNames -merge -useContext -underBinder y0
    have h0 : F.leaves a₀ y0 := by
      refine satInc_leaves ?_ (Foot.rec_const hF (by decide))
      exact h
    try clear_value y0
    split
    · refine Foot.ite_leaves ?_ ?_
      · refine runStop_leaves ?_ (Foot.le_trans (by decide) hF)
        exact h0
      · exact h0
    · exact h0
  · refine modSx_leaves ?_ (Foot.le_trans (by decide) hF)
    refine satInc_leaves ?_ (Foot.rec_const hF (by decide))
    exact h
  · extract_lets +onlyGivenNames -merge -useContext -underBinder y1
    have h1 : F.leaves a₀ y1 := by
      refine satInc_leaves ?_ (Foot.rec_const hF (by decide))
      exact h
    try clear_value y1
    split
    · extract_lets +onlyGivenNames -merge -useContext -underBinder u2_0 y2
      have h2 : F.leaves a₀ y2 := by
        exact { h1 with cal := .inl (Foot.part hF (by decide)) }
      try clear_value y2
      refine xferResume_leaves ?_ (Foot.le_trans (by decide) hF)
      refine xferDefer_leaves ?_ (Foot.le_trans (by decide) hF)
      exact h2
    · exact h1
  · refine requestCommit_leaves ?_ (Foot.le_trans (by decide) hF)
    refine satInc_leaves ?_ (Foot.rec_const hF (by decide))
    exact h
  · refine setBit_leaves ?_ (Foot.rec_const hF (by decide))
    refine set_leaves ?_ (Foot.rec_const hF (by decide))
    exact h
  · refine satInc_leaves ?_ (Foot.rec_const hF (by decide))
    exact h

theorem commitEnd_leaves {F : Foot} {a₀ : State} {s : State} {ok : Bool} {t : Tick} (h : F.leaves a₀ s) (hF : Foot.le ⟨0x3000, [0x2000, 0x2001, 0x2600], [.blobs, .ports, .groups, .slices, .micro, .cal, .age, .rcd, .pwr, .nv, .tx]⟩ F = true) :
    F.leaves a₀ (commitEnd s ok t) := by
  unfold commitEnd
  split
  · extract_lets +onlyGivenNames -merge -useContext -underBinder u0_0 y0
    have h0 : F.leaves a₀ y0 := by
      exact { h with nv := .inl (Foot.part hF (by decide)) }
    try clear_value y0
    refine Foot.ite_leaves ?_ ?_
    · extract_lets +onlyGivenNames -merge -useContext -underBinder y1
      have h1 : F.leaves a₀ y1 := by
        refine commitDone_leaves ?_ (Foot.le_trans (by decide) hF)
        exact h0
      try clear_value y1
      refine out_leaves ?_ (Foot.le_trans (by decide) hF)
      exact h1
    · refine commitFail_leaves ?_ (Foot.le_trans (by decide) hF)
      exact h0
  · exact h

/-! ### McCore -/

theorem modMc_leaves {F : Foot} {a₀ : State} {s : State} {f : McX → McX} (h : F.leaves a₀ s) (hF : Foot.le ⟨0x10000, [], [.mc]⟩ F = true) :
    F.leaves a₀ (modMc s f) := by
  unfold modMc
  exact { h with mc := .inl (Foot.part hF (by decide)) }

theorem mcSetPtr_leaves {F : Foot} {a₀ : State} {s : State} {r : Nat} {n : Nat} (h : F.leaves a₀ s) (hF : Foot.le ⟨0x10000, [], [.mc]⟩ F = true) :
    F.leaves a₀ (mcSetPtr s r n) := by
  unfold mcSetPtr
  refine modMc_leaves ?_ (Foot.le_trans (by decide) hF)
  exact h

theorem mcTrim_leaves {F : Foot} {a₀ : State} {s : State} (h : F.leaves a₀ s) (hF : Foot.le ⟨0x10000, [], [.mc]⟩ F = true) :
    F.leaves a₀ (mcTrim s) := by
  unfold mcTrim
  extract_lets +onlyGivenNames -merge -useContext -underBinder y0
  have h0 : F.leaves a₀ y0 := by
    refine Foot.ite_leaves ?_ ?_
    · exact h
    · refine mcSetPtr_leaves ?_ (Foot.le_trans (by decide) hF)
      exact h
  try clear_value y0
  extract_lets +onlyGivenNames -merge -useContext -underBinder y1
  refine modMc_leaves ?_ (Foot.le_trans (by decide) hF)
  exact h0

theorem mcPush_leaves {F : Foot} {a₀ : State} {s : State} {w : Nat} {t : Tick} (h : F.leaves a₀ s) (hF : Foot.le ⟨0x10000, [], [.mc]⟩ F = true) :
    F.leaves a₀ (mcPush s w t) := by
  unfold mcPush
  refine mcTrim_leaves ?_ (Foot.le_trans (by decide) hF)
  refine modMc_leaves ?_ (Foot.le_trans (by decide) hF)
  exact h

theorem mcJournal_leaves {F : Foot} {a₀ : State} {s : State} {e : McEntry} (h : F.leaves a₀ s) (hF : Foot.le ⟨0x10000, [0x8000], [.rcd]⟩ F = true) :
    F.leaves a₀ (mcJournal s e) := by
  unfold mcJournal
  refine Foot.ite_leaves ?_ ?_
  · refine journal_leaves ?_ (Foot.le_trans (by decide) hF)
    exact h
  · exact h

theorem mcRead_leaves {F : Foot} {a₀ : State} {s : State} {r : Nat} (h : F.leaves a₀ s) (hF : Foot.le ⟨0x10000, [0x8000], [.mc, .rcd]⟩ F = true) :
    F.leaves a₀ (mcRead s r) := by
  unfold mcRead
  extract_lets +onlyGivenNames -merge -useContext -underBinder y0
  refine Foot.ite_leaves ?_ ?_
  · split
    · exact h
    · refine mcTrim_leaves ?_ (Foot.le_trans (by decide) hF)
      refine mcSetPtr_leaves ?_ (Foot.le_trans (by decide) hF)
      refine Foot.ite_leaves ?_ ?_
      · refine mcJournal_leaves ?_ (Foot.le_trans (by decide) hF)
        exact h
      · exact h
  · exact h

theorem syncMc_leaves {F : Foot} {a₀ : State} {s : State} (h : F.leaves a₀ s) (hF : Foot.le ⟨0x10000, [0x2500], []⟩ F = true) :
    F.leaves a₀ (syncMc s) := by
  unfold syncMc
  refine setBits_leaves ?_ (Foot.rec_const hF (by decide))
  exact h

theorem mcNext_leaves {F : Foot} {a₀ : State} {s u : State} {t : Tick} {q : McReq} (h : F.leaves a₀ s) (hF : Foot.le ⟨0x10000, [], [.mc]⟩ F = true)
    (e : mcNext s t = some (q, u)) : F.leaves a₀ u := by
  unfold mcNext at e
  split at e
  · cases e; exact h
  · split at e
    · dsimp only at e
      simp only [Option.some.injEq, Prod.mk.injEq] at e
      rw [← e.2]
      split
      · exact modMc_leaves (modMc_leaves h (Foot.le_trans (by decide) hF)) (Foot.le_trans (by decide) hF)
      · exact modMc_leaves h (Foot.le_trans (by decide) hF)
    · split at e
      · simp only [Option.some.injEq, Prod.mk.injEq] at e
        rw [← e.2]
        exact modMc_leaves h (Foot.le_trans (by decide) hF)
      · cases e

theorem mcKick_leaves {F : Foot} {a₀ : State} {s : State} {t : Tick} (h : F.leaves a₀ s) (hF : Foot.le ⟨0x10000, [0x2500], [.mc]⟩ F = true) :
    F.leaves a₀ (mcKick s t) := by
  unfold mcKick
  split
  · exact syncMc_leaves h (Foot.le_trans (by decide) hF)
  · split
    · exact syncMc_leaves h (Foot.le_trans (by decide) hF)
    · rename_i e
      have hu := mcNext_leaves h (Foot.le_trans (by decide) hF) e
      split
      · split
        · exact syncMc_leaves h (Foot.le_trans (by decide) hF)
        · refine syncMc_leaves ?_ (Foot.le_trans (by decide) hF)
          refine setBit_leaves ?_ (Foot.rec_const hF (by decide))
          refine satInc_leaves ?_ (Foot.rec_const hF (by decide))
          exact modMc_leaves h (Foot.le_trans (by decide) hF)
      · exact syncMc_leaves (modMc_leaves hu (Foot.le_trans (by decide) hF)) (Foot.le_trans (by decide) hF)

theorem mcReturn_leaves {F : Foot} {a₀ : State} {s : State} (h : F.leaves a₀ s) (hF : Foot.le ⟨0x10000, [], [.mc]⟩ F = true) :
    F.leaves a₀ (mcReturn s) := by
  unfold mcReturn
  split
  · extract_lets +onlyGivenNames -merge -useContext -underBinder y0
    have h0 : F.leaves a₀ y0 := by
      refine modMc_leaves ?_ (Foot.le_trans (by decide) hF)
      exact h
    try clear_value y0
    refine Foot.ite_leaves ?_ ?_
    · exact h0
    · refine Foot.ite_leaves ?_ ?_
      · refine modMc_leaves ?_ (Foot.le_trans (by decide) hF)
        exact h0
      · refine modMc_leaves ?_ (Foot.le_trans (by decide) hF)
        exact h0
  · exact h

theorem mcUrgent_leaves {F : Foot} {a₀ : State} {s : State} {q : McReq} {t : Tick} (h : F.leaves a₀ s) (hF : Foot.le ⟨0x10000, [0x2500], [.mc]⟩ F = true) :
    F.leaves a₀ (mcUrgent s q t) := by
  unfold mcUrgent
  extract_lets +onlyGivenNames -merge -useContext -underBinder y0
  try clear_value y0
  refine Foot.ite_leaves ?_ ?_
  · exact h
  · refine Foot.ite_leaves ?_ ?_
    · refine modMc_leaves ?_ (Foot.le_trans (by decide) hF)
      exact h
    · extract_lets +onlyGivenNames -merge -useContext -underBinder y1
      have h1 : F.leaves a₀ y1 := by
        refine modMc_leaves ?_ (Foot.le_trans (by decide) hF)
        exact h
      try clear_value y1
      split
      · refine Foot.ite_leaves ?_ ?_
        · refine syncMc_leaves ?_ (Foot.le_trans (by decide) hF)
          exact h1
        · refine mcKick_leaves ?_ (Foot.le_trans (by decide) hF)
          refine mcReturn_leaves ?_ (Foot.le_trans (by decide) hF)
          exact h1
      · refine mcKick_leaves ?_ (Foot.le_trans (by decide) hF)
        exact h1

theorem mcSchedule_leaves {F : Foot} {a₀ : State} {s : State} {q : McReq} {t : Tick} (h : F.leaves a₀ s) (hF : Foot.le ⟨0x10000, [0x2500], [.mc]⟩ F = true) :
    F.leaves a₀ (mcSchedule s q t) := by
  unfold mcSchedule
  refine mcKick_leaves ?_ (Foot.le_trans (by decide) hF)
  refine modMc_leaves ?_ (Foot.le_trans (by decide) hF)
  exact h

theorem rbLate_leaves {F : Foot} {a₀ : State} {s : State} {q : McReq} {p : Nat} {t : Tick} (h : F.leaves a₀ s) (hF : Foot.le ⟨0x10000, [], [.ports]⟩ F = true) :
    F.leaves a₀ (rbLate s q p t) := by
  unfold rbLate
  refine when_leaves ?_ fun z0 h0 => ?_
  · exact h
  · refine modForce_leaves ?_ (Foot.le_trans (by decide) hF)
    exact h0

theorem mcSample_leaves {F : Foot} {a₀ : State} {s : State} {q : McReq} (h : F.leaves a₀ s) (hF : Foot.le ⟨0x10000, [], [.ports, .mc]⟩ F = true) :
    F.leaves a₀ (mcSample s q) := by
  unfold mcSample
  extract_lets +onlyGivenNames -merge -useContext -underBinder y0
  try clear_value y0
  extract_lets +onlyGivenNames -merge -useContext -underBinder y1
  extract_lets +onlyGivenNames -merge -useContext -underBinder y2
  extract_lets +onlyGivenNames -merge -useContext -underBinder y3
  extract_lets +onlyGivenNames -merge -useContext -underBinder y4
  have h4 : F.leaves a₀ y4 := by
    refine Foot.ite_leaves ?_ ?_
    · refine rbLate_leaves ?_ (Foot.le_trans (by decide) hF)
      exact h
    · exact h
  try clear_value y4
  extract_lets +onlyGivenNames -merge -useContext -underBinder y5
  try clear_value y5
  refine modMc_leaves ?_ (Foot.le_trans (by decide) hF)
  exact h4

theorem groupTemp_leaves {F : Foot} {a₀ : State} {s : State} {g : Nat} (h : F.leaves a₀ s) (hF : Foot.le ⟨0x10000, [], []⟩ F = true) (r0 : F.covers (0x3000 + g)) :
    F.leaves a₀ (groupTemp s g) := by
  unfold groupTemp
  extract_lets +onlyGivenNames -merge -useContext -underBinder y0
  try clear_value y0
  refine Foot.ite_leaves ?_ ?_
  · exact h
  · refine setQ_leaves ?_ (Foot.rec_key r0)
    exact h

theorem mcLatest_leaves {F : Foot} {a₀ : State} {s : State} {c : McCyc} {q : McReq} {code : Int} (h : F.leaves a₀ s) (hF : Foot.le ⟨0x2500, [], [.mc]⟩ F = true) :
    F.leaves a₀ (mcLatest s c q code) := by
  unfold mcLatest
  extract_lets +onlyGivenNames -merge -useContext -underBinder y0
  try clear_value y0
  extract_lets +onlyGivenNames -merge -useContext -underBinder y1
  refine Foot.ite_leaves ?_ ?_
  · split
    · refine groupTemp_leaves ?_ (Foot.le_trans (by decide) hF) (Foot.rec_floor hF (by decide))
      refine setQ_leaves ?_ (Foot.rec_key (Foot.rec_floor hF (by decide)))
      exact h
    · refine Foot.ite_leaves ?_ ?_
      · refine setQ_leaves ?_ (Foot.rec_key (Foot.rec_floor hF (by decide)))
        exact h
      · exact h
    · refine setQ_leaves ?_ (Foot.rec_key (Foot.rec_floor hF (by decide)))
      exact h
    · refine setQ_leaves ?_ (Foot.rec_key (Foot.rec_floor hF (by decide)))
      exact h
    · refine setQ_leaves ?_ (Foot.rec_key (Foot.rec_floor hF (by decide)))
      exact h
    · refine setQ_leaves ?_ (Foot.rec_key (Foot.rec_floor hF (by decide)))
      exact h
    · exact h
  · refine Foot.ite_leaves ?_ ?_
    · extract_lets +onlyGivenNames -merge -useContext -underBinder y2
      have h2 : F.leaves a₀ y2 := by
        refine setQ_leaves ?_ (by first | exact Foot.rec_constAdd hF (by decide) | exact Foot.rec_floorAdd hF (by decide))
        exact h
      try clear_value y2
      refine Foot.ite_leaves ?_ ?_
      · refine modMc_leaves ?_ (Foot.le_trans (by decide) hF)
        exact h2
      · exact h2
    · exact h

theorem gndStart_leaves {F : Foot} {a₀ : State} {s : State} {p : Nat} {t : Tick} (h : F.leaves a₀ s) (hF : Foot.le ⟨0x3000, [0x1220, 0x1221, 0x1222, 0x1223, 0x2000, 0x2001], [.ports, .groups, .slices, .micro, .fab, .cal, .net, .pcie, .rcd, .pwr, .nv, .tx]⟩ F = true) :
    F.leaves a₀ (gndStart s p t) := by
  unfold gndStart
  refine Foot.ite_leaves ?_ ?_
  · exact h
  · extract_lets +onlyGivenNames -merge -useContext -underBinder y0
    have h0 : F.leaves a₀ y0 := by
      refine jEdge_leaves ?_ (Foot.le_trans (by decide) hF)
      refine modPx_leaves ?_ (Foot.le_trans (by decide) hF)
      exact h
    try clear_value y0
    refine Foot.ite_leaves ?_ ?_
    · refine syncPort_leaves ?_ (Foot.le_trans (by decide) hF) (Foot.rec_floor hF (by decide))
      exact h0
    · refine clearPort_leaves ?_ (Foot.le_trans (by decide) hF)
      refine trip_leaves ?_ (Foot.le_trans (by decide) hF) (Foot.rec_floor hF (by decide))
      exact h0

theorem gndEnd_leaves {F : Foot} {a₀ : State} {s : State} {p : Nat} {t : Tick} (h : F.leaves a₀ s) (hF : Foot.le ⟨0x10000, [0x8000], [.ports, .rcd, .tx]⟩ F = true) (r0 : F.covers (0x4000 + p)) :
    F.leaves a₀ (gndEnd s p t) := by
  unfold gndEnd
  refine Foot.ite_leaves ?_ ?_
  · refine clearEnds_leaves ?_ (Foot.le_trans (by decide) hF) r0
    refine jEdge_leaves ?_ (Foot.le_trans (by decide) hF)
    refine modPx_leaves ?_ (Foot.le_trans (by decide) hF)
    exact h
  · exact h

theorem dacMismatch_leaves {F : Foot} {a₀ : State} {s : State} {sl : Nat} {p : Nat} {t : Tick} (h : F.leaves a₀ s) (hF : Foot.le ⟨0x3000, [0x2000, 0x2001, 0x1220, 0x1221, 0x1222, 0x1223], [.ports, .groups, .slices, .micro, .fab, .cal, .net, .pcie, .rcd, .pwr, .nv, .tx]⟩ F = true) :
    F.leaves a₀ (dacMismatch s sl p t) := by
  unfold dacMismatch
  refine Foot.ite_leaves ?_ ?_
  · refine note_leaves ?_ (Foot.le_trans (by decide) hF)
    exact h
  · refine Foot.ite_leaves ?_ ?_
    · exact h
    · extract_lets +onlyGivenNames -merge -useContext -underBinder y0
      have h0 : F.leaves a₀ y0 := by
        refine setBit_leaves ?_ (Foot.rec_key (Foot.rec_floor hF (by decide)))
        exact h
      try clear_value y0
      extract_lets +onlyGivenNames -merge -useContext -underBinder y1
      extract_lets +onlyGivenNames -merge -useContext -underBinder y2
      have h2 : F.leaves a₀ y2 := by
        refine Foot.ite_leaves ?_ ?_
        · exact h0
        · refine clearPort_leaves ?_ (Foot.le_trans (by decide) hF)
          exact h0
      try clear_value y2
      refine Foot.ite_leaves ?_ ?_
      · refine trip_leaves ?_ (Foot.le_trans (by decide) hF) (Foot.rec_floor hF (by decide))
        exact h2
      · exact h2

theorem disableAll_leaves {F : Foot} {a₀ : State} {s : State} {t : Tick} (h : F.leaves a₀ s) (hF : Foot.le ⟨0x10000, [], [.groups]⟩ F = true) :
    F.leaves a₀ (disableAll s t) := by
  unfold disableAll
  refine Foot.foldl_leaves ?_ fun z0 i0 h0 => ?_
  · exact h
  · refine Foot.ite_leaves ?_ ?_
    · refine gcPush_leaves ?_ (Foot.le_trans (by decide) hF)
      exact h0
    · exact h0

theorem supplyFault_leaves {F : Foot} {a₀ : State} {s : State} {k : Nat} {t : Tick} (h : F.leaves a₀ s) (hF : Foot.le ⟨0x10000, [0x2500, 0x2001], [.groups, .micro, .mc]⟩ F = true) :
    F.leaves a₀ (supplyFault s k t) := by
  unfold supplyFault
  extract_lets +onlyGivenNames -merge -useContext -underBinder y0
  have h0 : F.leaves a₀ y0 := by
    refine setBit_leaves ?_ (Foot.rec_const hF (by decide))
    refine setBit_leaves ?_ (Foot.rec_const hF (by decide))
    exact h
  try clear_value y0
  extract_lets +onlyGivenNames -merge -useContext -underBinder y1
  have h1 : F.leaves a₀ y1 := by
    refine modMc_leaves ?_ (Foot.le_trans (by decide) hF)
    exact h0
  try clear_value y1
  refine Foot.ite_leaves ?_ ?_
  · refine later_leaves ?_ (Foot.le_trans (by decide) hF)
    exact h1
  · refine Foot.ite_leaves ?_ ?_
    · refine disableAll_leaves ?_ (Foot.le_trans (by decide) hF)
      refine setBit_leaves ?_ (Foot.rec_const hF (by decide))
      exact h1
    · exact h1

theorem supplyGood_leaves {F : Foot} {a₀ : State} {s : State} {k : Nat} {t : Tick} (h : F.leaves a₀ s) (hF : Foot.le ⟨0x10000, [0x2001], [.micro, .mc]⟩ F = true) :
    F.leaves a₀ (supplyGood s k t) := by
  unfold supplyGood
  extract_lets +onlyGivenNames -merge -useContext -underBinder y0
  have h0 : F.leaves a₀ y0 := by
    refine modMc_leaves ?_ (Foot.le_trans (by decide) hF)
    exact h
  try clear_value y0
  extract_lets +onlyGivenNames -merge -useContext -underBinder y1
  have h1 : F.leaves a₀ y1 := by
    refine Foot.ite_leaves ?_ ?_
    · refine later_leaves ?_ (Foot.le_trans (by decide) hF)
      exact h0
    · exact h0
  try clear_value y1
  refine setBit_leaves ?_ (Foot.rec_const hF (by decide))
  exact h1

theorem mcDead_leaves {F : Foot} {a₀ : State} {s : State} (h : F.leaves a₀ s) (hF : Foot.le ⟨0x10000, [0x2500], [.mc]⟩ F = true) :
    F.leaves a₀ (mcDead s) := by
  unfold mcDead
  extract_lets +onlyGivenNames -merge -useContext -underBinder y0
  have h0 : F.leaves a₀ y0 := by
    refine setBit_leaves ?_ (Foot.rec_const hF (by decide))
    refine setBit_leaves ?_ (Foot.rec_const hF (by decide))
    exact h
  try clear_value y0
  refine modMc_leaves ?_ (Foot.le_trans (by decide) hF)
  exact h0

theorem selfCheckFault_leaves {F : Foot} {a₀ : State} {s : State} (h : F.leaves a₀ s) (hF : Foot.le ⟨0x10000, [0x2500], [.mc]⟩ F = true) :
    F.leaves a₀ (selfCheckFault s) := by
  unfold selfCheckFault
  refine Foot.ite_leaves ?_ ?_
  · refine modMc_leaves ?_ (Foot.le_trans (by decide) hF)
    exact h
  · refine mcDead_leaves ?_ (Foot.le_trans (by decide) hF)
    exact h

theorem mcTakeOver_leaves {F : Foot} {a₀ : State} {s : State} {ok : Bool} {t : Tick} (h : F.leaves a₀ s) (hF : Foot.le ⟨0x10000, [0x2500, 0x9000], [.blobs, .mc, .nv]⟩ F = true) :
    F.leaves a₀ (mcTakeOver s ok t) := by
  unfold mcTakeOver
  extract_lets +onlyGivenNames -merge -useContext -underBinder y0
  have h0 : F.leaves a₀ y0 := by
    refine modMc_leaves ?_ (Foot.le_trans (by decide) hF)
    exact h
  try clear_value y0
  refine Foot.ite_leaves ?_ ?_
  · extract_lets +onlyGivenNames -merge -useContext -underBinder y1
    have h1 : F.leaves a₀ y1 := by
      refine modMc_leaves ?_ (Foot.le_trans (by decide) hF)
      refine setBit_leaves ?_ (Foot.rec_const hF (by decide))
      refine set_leaves ?_ (Foot.rec_const hF (by decide))
      exact h0
    try clear_value y1
    refine garnet_leaves ?_ (Foot.le_trans (by decide) hF)
    exact h1
  · refine mcDead_leaves ?_ (Foot.le_trans (by decide) hF)
    exact h0

theorem mcFault_leaves {F : Foot} {a₀ : State} {s : State} {c : McCyc} {q : McReq} {t : Tick} (h : F.leaves a₀ s) (hF : Foot.le ⟨0x3000, [0x2000, 0x2001, 0x1220, 0x1221, 0x1222, 0x1223, 0x2500, 0x2600], [.blobs, .ports, .groups, .slices, .micro, .fab, .mc, .cal, .age, .net, .pcie, .rcd, .pwr, .nv, .tx]⟩ F = true) :
    F.leaves a₀ (mcFault s c q t) := by
  unfold mcFault
  extract_lets +onlyGivenNames -merge -useContext -underBinder y0
  split
  · refine dacMismatch_leaves ?_ (Foot.le_trans (by decide) hF)
    exact h
  · refine note_leaves ?_ (Foot.le_trans (by decide) hF)
    refine setBit_leaves ?_ (Foot.rec_key (Foot.rec_floor hF (by decide)))
    exact h
  · extract_lets +onlyGivenNames -merge -useContext -underBinder y1
    have h1 : F.leaves a₀ y1 := by
      refine setBit_leaves ?_ (Foot.rec_key (Foot.rec_floor hF (by decide)))
      exact h
    try clear_value y1
    refine Foot.ite_leaves ?_ ?_
    · refine gndStart_leaves ?_ (Foot.le_trans (by decide) hF)
      exact h1
    · exact h1
  · extract_lets +onlyGivenNames -merge -useContext -underBinder y2
    have h2 : F.leaves a₀ y2 := by
      refine note_leaves ?_ (Foot.le_trans (by decide) hF)
      refine setBit_leaves ?_ (Foot.rec_key (Foot.rec_floor hF (by decide)))
      exact h
    try clear_value y2
    refine modSx_leaves ?_ (Foot.le_trans (by decide) hF)
    exact h2
  · refine setBit_leaves ?_ (Foot.rec_const hF (by decide))
    exact h
  · refine setBit_leaves ?_ (Foot.rec_const hF (by decide))
    exact h
  · refine supplyFault_leaves ?_ (Foot.le_trans (by decide) hF)
    exact h
  · refine Foot.ite_leaves ?_ ?_
    · refine cellRetire_leaves ?_ (Foot.le_trans (by decide) hF)
      exact h
    · exact h
  · refine selfCheckFault_leaves ?_ (Foot.le_trans (by decide) hF)
    exact h

theorem mcCompare_leaves {F : Foot} {a₀ : State} {s : State} {c : McCyc} {q : McReq} {code : Int} {oot : Bool} {t : Tick} (h : F.leaves a₀ s) (hF : Foot.le ⟨0x3000, [0x2500, 0x2000, 0x2001, 0x1220, 0x1221, 0x1222, 0x1223, 0x2600], [.blobs, .ports, .groups, .slices, .micro, .fab, .mc, .cal, .age, .net, .pcie, .rcd, .pwr, .nv, .tx]⟩ F = true) :
    F.leaves a₀ (mcCompare s c q code oot t) := by
  unfold mcCompare
  extract_lets +onlyGivenNames -merge -useContext -underBinder y0
  extract_lets +onlyGivenNames -merge -useContext -underBinder y1
  extract_lets +onlyGivenNames -merge -useContext -underBinder y2
  try clear_value y2
  extract_lets +onlyGivenNames -merge -useContext -underBinder y3
  extract_lets +onlyGivenNames -merge -useContext -underBinder y4
  have h4 : F.leaves a₀ y4 := by
    refine modMc_leaves ?_ (Foot.le_trans (by decide) hF)
    exact h
  try clear_value y4
  extract_lets +onlyGivenNames -merge -useContext -underBinder y5
  have h5 : F.leaves a₀ y5 := by
    refine Foot.ite_leaves ?_ ?_
    · refine modSx_leaves ?_ (Foot.le_trans (by decide) hF)
      exact h4
    · exact h4
  try clear_value y5
  extract_lets +onlyGivenNames -merge -useContext -underBinder y6
  have h6 : F.leaves a₀ y6 := by
    refine Foot.ite_leaves ?_ ?_
    · refine satInc_leaves ?_ (Foot.rec_key (Foot.rec_floor hF (by decide)))
      exact h5
    · exact h5
  try clear_value y6
  extract_lets +onlyGivenNames -merge -useContext -underBinder y7
  have h7 : F.leaves a₀ y7 := by
    refine Foot.ite_leaves ?_ ?_
    · refine mcUrgent_leaves ?_ (Foot.le_trans (by decide) hF)
      exact h6
    · exact h6
  try clear_value y7
  extract_lets +onlyGivenNames -merge -useContext -underBinder y8
  have h8 : F.leaves a₀ y8 := by
    refine Foot.ite_leaves ?_ ?_
    · refine mcFault_leaves ?_ (Foot.le_trans (by decide) hF)
      exact h7
    · exact h7
  try clear_value y8
  extract_lets +onlyGivenNames -merge -useContext -underBinder y9
  have h9 : F.leaves a₀ y9 := by
    refine Foot.ite_leaves ?_ ?_
    · refine supplyGood_leaves ?_ (Foot.le_trans (by decide) hF)
      exact h8
    · exact h8
  try clear_value y9
  refine Foot.ite_leaves ?_ ?_
  · extract_lets +onlyGivenNames -merge -useContext -underBinder y10
    have h10 : F.leaves a₀ y10 := by
      refine setBit_leaves ?_ (Foot.rec_key (Foot.rec_floor hF (by decide)))
      exact h9
    try clear_value y10
    refine Foot.ite_leaves ?_ ?_
    · refine gndEnd_leaves ?_ (Foot.le_trans (by decide) hF) (Foot.rec_floor hF (by decide))
      exact h10
    · exact h10
  · exact h9

theorem selfCheckNext_leaves {F : Foot} {a₀ : State} {s : State} {q : McReq} {code : Int} {t : Tick} (h : F.leaves a₀ s) (hF : Foot.le ⟨0x10000, [0x2500], [.mc]⟩ F = true) :
    F.leaves a₀ (selfCheckNext s q code t) := by
  unfold selfCheckNext
  refine Foot.ite_leaves ?_ ?_
  · exact h
  · refine Foot.ite_leaves ?_ ?_
    · refine Foot.ite_leaves ?_ ?_
      · exact h
      · refine mcSchedule_leaves ?_ (Foot.le_trans (by decide) hF)
        exact h
    · refine Foot.ite_leaves ?_ ?_
      · refine mcSchedule_leaves ?_ (Foot.le_trans (by decide) hF)
        refine modMc_leaves ?_ (Foot.le_trans (by decide) hF)
        exact h
      · refine when_leaves ?_ fun z0 h0 => ?_
        · exact h
        · refine setBit_leaves ?_ (Foot.rec_const hF (by decide))
          exact h0

theorem mcSwitchNext_leaves {F : Foot} {a₀ : State} {s : State} {q : McReq} {code : Int} {t : Tick} (h : F.leaves a₀ s) (hF : Foot.le ⟨0x10000, [0x2500, 0x9000], [.blobs, .mc, .nv]⟩ F = true) :
    F.leaves a₀ (mcSwitchNext s q code t) := by
  unfold mcSwitchNext
  refine Foot.ite_leaves ?_ ?_
  · refine modMc_leaves ?_ (Foot.le_trans (by decide) hF)
    exact h
  · refine Foot.ite_leaves ?_ ?_
    · refine modMc_leaves ?_ (Foot.le_trans (by decide) hF)
      exact h
    · refine mcTakeOver_leaves ?_ (Foot.le_trans (by decide) hF)
      exact h

theorem mcDone_leaves {F : Foot} {a₀ : State} {s : State} {c : McCyc} {q : McReq} {code : Int} {ovf : Bool} {t : Tick} (h : F.leaves a₀ s) (hF : Foot.le ⟨0x2500, [0x2000, 0x2001, 0x1220, 0x1221, 0x1222, 0x1223], [.blobs, .ports, .groups, .slices, .micro, .fab, .mc, .cal, .age, .net, .pcie, .rcd, .pwr, .nv, .tx]⟩ F = true) :
    F.leaves a₀ (mcDone s c q code ovf t) := by
  unfold mcDone
  extract_lets +onlyGivenNames -merge -useContext -underBinder y0
  have h0 : F.leaves a₀ y0 := by
    refine mcLatest_leaves ?_ (Foot.le_trans (by decide) hF)
    exact h
  try clear_value y0
  extract_lets +onlyGivenNames -merge -useContext -underBinder y1
  try clear_value y1
  extract_lets +onlyGivenNames -merge -useContext -underBinder y2
  try clear_value y2
  extract_lets +onlyGivenNames -merge -useContext -underBinder y3
  try clear_value y3
  extract_lets +onlyGivenNames -merge -useContext -underBinder y4
  try clear_value y4
  extract_lets +onlyGivenNames -merge -useContext -underBinder y5
  try clear_value y5
  extract_lets +onlyGivenNames -merge -useContext -underBinder y6
  try clear_value y6
  extract_lets +onlyGivenNames -merge -useContext -underBinder y7
  extract_lets +onlyGivenNames -merge -useContext -underBinder y8
  extract_lets +onlyGivenNames -merge -useContext -underBinder y9
  have h9 : F.leaves a₀ y9 := by
    refine wrapInc_leaves ?_ (Foot.rec_const hF (by decide))
    refine mcPush_leaves ?_ (Foot.le_trans (by decide) hF)
    exact h0
  try clear_value y9
  extract_lets +onlyGivenNames -merge -useContext -underBinder y10
  have h10 : F.leaves a₀ y10 := by
    refine when_leaves ?_ fun z11 h11 => ?_
    · exact h9
    · refine setBit_leaves ?_ (Foot.rec_const hF (by decide))
      refine satInc_leaves ?_ (Foot.rec_const hF (by decide))
      exact h11
  try clear_value y10
  extract_lets +onlyGivenNames -merge -useContext -underBinder y12
  have h12 : F.leaves a₀ y12 := by
    refine when_leaves ?_ fun z13 h13 => ?_
    · exact h10
    · refine satInc_leaves ?_ (Foot.rec_const hF (by decide))
      exact h13
  try clear_value y12
  extract_lets +onlyGivenNames -merge -useContext -underBinder y14
  have h14 : F.leaves a₀ y14 := by
    refine Foot.ite_leaves ?_ ?_
    · refine set_leaves ?_ (Foot.rec_const hF (by decide))
      refine set_leaves ?_ (Foot.rec_const hF (by decide))
      refine modMc_leaves ?_ (Foot.le_trans (by decide) hF)
      exact h12
    · exact h12
  try clear_value y14
  extract_lets +onlyGivenNames -merge -useContext -underBinder y15
  have h15 : F.leaves a₀ y15 := by
    refine modMc_leaves ?_ (Foot.le_trans (by decide) hF)
    exact h14
  try clear_value y15
  extract_lets +onlyGivenNames -merge -useContext -underBinder y16
  have h16 : F.leaves a₀ y16 := by
    refine when_leaves ?_ fun z17 h17 => ?_
    · exact h15
    · refine setBit_leaves ?_ (Foot.rec_const hF (by decide))
      exact h17
  try clear_value y16
  extract_lets +onlyGivenNames -merge -useContext -underBinder y18
  have h18 : F.leaves a₀ y18 := by
    refine Foot.ite_leaves ?_ ?_
    · refine mcCompare_leaves ?_ (Foot.le_trans (by decide) hF)
      exact h16
    · exact h16
  try clear_value y18
  extract_lets +onlyGivenNames -merge -useContext -underBinder y19
  have h19 : F.leaves a₀ y19 := by
    refine Foot.ite_leaves ?_ ?_
    · refine mcSwitchNext_leaves ?_ (Foot.le_trans (by decide) hF)
      exact h18
    · refine selfCheckNext_leaves ?_ (Foot.le_trans (by decide) hF)
      exact h18
  try clear_value y19
  refine mcKick_leaves ?_ (Foot.le_trans (by decide) hF)
  exact h19

theorem rbRequest_leaves {F : Foot} {a₀ : State} {s : State} {p : Nat} {t : Tick} (h : F.leaves a₀ s) (hF : Foot.le ⟨0x10000, [0x2500], [.ports, .mc]⟩ F = true) :
    F.leaves a₀ (rbRequest s p t) := by
  unfold rbRequest
  refine Foot.ite_leaves ?_ ?_
  · exact h
  · refine Foot.ite_leaves ?_ ?_
    · refine modForce_leaves ?_ (Foot.le_trans (by decide) hF)
      exact h
    · refine Foot.foldl_leaves ?_ fun z0 i0 h0 => ?_
      · exact h
      · refine mcSchedule_leaves ?_ (Foot.le_trans (by decide) hF)
        exact h0

theorem readbackNow_leaves {F : Foot} {a₀ : State} {s : State} {p : Nat} {t : Tick} (h : F.leaves a₀ s) (hF : Foot.le ⟨0x10000, [0x2500], [.ports, .mc]⟩ F = true) :
    F.leaves a₀ (readbackNow s p t) := by
  unfold readbackNow
  extract_lets +onlyGivenNames -merge -useContext -underBinder y0
  refine Foot.ite_leaves ?_ ?_
  · exact h
  · refine Foot.ite_leaves ?_ ?_
    · refine modForce_leaves ?_ (Foot.le_trans (by decide) hF)
      exact h
    · refine mcUrgent_leaves ?_ (Foot.le_trans (by decide) hF)
      exact h

theorem mcSelfTest_leaves {F : Foot} {a₀ : State} {s : State} {t : Tick} (h : F.leaves a₀ s) (hF : Foot.le ⟨0x10000, [0x2500], [.mc]⟩ F = true) :
    F.leaves a₀ (mcSelfTest s t) := by
  unfold mcSelfTest
  extract_lets +onlyGivenNames -merge -useContext -underBinder y0
  have h0 : F.leaves a₀ y0 := by
    refine mcSchedule_leaves ?_ (Foot.le_trans (by decide) hF)
    exact h
  try clear_value y0
  refine Foot.foldl_leaves ?_ fun z1 i1 h1 => ?_
  · exact h0
  · refine mcSchedule_leaves ?_ (Foot.le_trans (by decide) hF)
    exact h1

/-! ### GcQueue -/

theorem enableReq_leaves {F : Foot} {a₀ : State} {s : State} {p : Nat} {t : Tick} (h : F.leaves a₀ s) (hF : Foot.le ⟨0x3000, [0x2000, 0x2001, 0x2600], [.blobs, .ports, .groups, .slices, .micro, .cal, .rcd, .pwr, .nv, .tx]⟩ F = true) :
    F.leaves a₀ (enableReq s p t) := by
  unfold enableReq
  extract_lets +onlyGivenNames -merge -useContext -underBinder y0
  refine Foot.ite_leaves ?_ ?_
  · refine Foot.ite_leaves ?_ ?_
    · exact h
    · refine setBit_leaves ?_ (Foot.rec_key (Foot.rec_floor hF (by decide)))
      exact h
  · refine Foot.ite_leaves ?_ ?_
    · refine setBit_leaves ?_ (Foot.rec_key (Foot.rec_floor hF (by decide)))
      exact h
    · refine Foot.ite_leaves ?_ ?_
      · refine Foot.ite_leaves ?_ ?_
        · refine enableNow_leaves ?_ (Foot.le_trans (by decide) hF)
          refine rotPreempt_leaves ?_ (Foot.le_trans (by decide) hF)
          exact h
        · refine enableTry_leaves ?_ (Foot.le_trans (by decide) hF)
          exact h
      · exact h

theorem forceCtrlDo_leaves {F : Foot} {a₀ : State} {s : State} {p : Nat} {v : Nat} {t : Tick} (h : F.leaves a₀ s) (hF : Foot.le ⟨0x3000, [0x2500, 0x2000, 0x2001], [.ports, .groups, .slices, .micro, .mc, .cal, .rcd, .pwr, .nv, .tx]⟩ F = true) :
    F.leaves a₀ (forceCtrlDo s p v t) := by
  unfold forceCtrlDo
  extract_lets +onlyGivenNames -merge -useContext -underBinder y0
  have h0 : F.leaves a₀ y0 := by
    refine Foot.ite_leaves ?_ ?_
    · refine readbackNow_leaves ?_ (Foot.le_trans (by decide) hF)
      exact h
    · exact h
  try clear_value y0
  refine Foot.ite_leaves ?_ ?_
  · refine releaseApply_leaves ?_ (Foot.le_trans (by decide) hF)
    exact h0
  · exact h0

theorem winGo_leaves {F : Foot} {a₀ : State} {s : State} {p : Nat} {t : Tick} (h : F.leaves a₀ s) (hF : Foot.le ⟨0x3000, [], [.ports, .groups, .slices, .micro, .cal, .rcd, .tx]⟩ F = true) :
    F.leaves a₀ (winGo s p t) := by
  unfold winGo
  extract_lets +onlyGivenNames -merge -useContext -underBinder y0
  refine Foot.ite_leaves ?_ ?_
  · refine winAlign_leaves ?_ (Foot.le_trans (by decide) hF)
    exact h
  · exact h

theorem winAbortReq_leaves {F : Foot} {a₀ : State} {s : State} {p : Nat} {t : Tick} (h : F.leaves a₀ s) (hF : Foot.le ⟨0x3000, [0x2000, 0x2001, 0x2600], [.blobs, .ports, .groups, .slices, .micro, .cal, .rcd, .pwr, .nv, .tx]⟩ F = true) :
    F.leaves a₀ (winAbortReq s p t) := by
  unfold winAbortReq
  extract_lets +onlyGivenNames -merge -useContext -underBinder y0
  extract_lets +onlyGivenNames -merge -useContext -underBinder y1
  refine Foot.ite_leaves ?_ ?_
  · exact h
  · refine Foot.ite_leaves ?_ ?_
    · refine rotNext_leaves ?_ (Foot.le_trans (by decide) hF)
      refine set_leaves ?_ (Foot.rec_key (Foot.rec_floor hF (by decide)))
      refine set_leaves ?_ (Foot.rec_key (Foot.rec_floor hF (by decide)))
      refine satInc_leaves ?_ (Foot.rec_key (Foot.rec_floor hF (by decide)))
      exact h
    · refine Foot.ite_leaves ?_ ?_
      · refine runStop_leaves ?_ (Foot.le_trans (by decide) hF)
        exact h
      · refine Foot.ite_leaves ?_ ?_
        · extract_lets +onlyGivenNames -merge -useContext -underBinder y2
          have h2 : F.leaves a₀ y2 := by
            refine satInc_leaves ?_ (Foot.rec_key (Foot.rec_floor hF (by decide)))
            refine set_leaves ?_ (Foot.rec_key (Foot.rec_floor hF (by decide)))
            refine rotBit_leaves ?_ (Foot.le_trans (by decide) hF) (Foot.rec_floor hF (by decide))
            exact h
          try clear_value y2
          refine later_leaves ?_ (Foot.le_trans (by decide) hF)
          refine setBit_leaves ?_ (Foot.rec_key (Foot.rec_floor hF (by decide)))
          exact h2
        · exact h

theorem winCtrlDo_leaves {F : Foot} {a₀ : State} {s : State} {p : Nat} {v : Nat} {t : Tick} (h : F.leaves a₀ s) (hF : Foot.le ⟨0x3000, [0x2000, 0x2001, 0x2600], [.blobs, .ports, .groups, .slices, .micro, .cal, .rcd, .pwr, .nv, .tx]⟩ F = true) :
    F.leaves a₀ (winCtrlDo s p v t) := by
  unfold winCtrlDo
  refine Foot.ite_leaves ?_ ?_
  · refine winAbortReq_leaves ?_ (Foot.le_trans (by decide) hF)
    exact h
  · refine Foot.ite_leaves ?_ ?_
    · refine winGo_leaves ?_ (Foot.le_trans (by decide) hF)
      exact h
    · exact h

theorem gcApply_leaves {F : Foot} {a₀ : State} {s : State} {c : GcCmd} {t : Tick} (h : F.leaves a₀ s) (hF : Foot.le ⟨0x2380, [0x1220, 0x1221, 0x1222, 0x1223, 0x2000, 0x2001], [.blobs, .ports, .groups, .slices, .micro, .fab, .scan, .spad, .mem, .mc, .cal, .od, .net, .pcie, .rcd, .pwr, .nv, .tx]⟩ F = true) :
    F.leaves a₀ (gcApply s c t) := by
  unfold gcApply
  extract_lets +onlyGivenNames -merge -useContext -underBinder y0
  extract_lets +onlyGivenNames -merge -useContext -underBinder y1
  have h1 : F.leaves a₀ y1 := by
    refine Foot.ite_leaves ?_ ?_
    · exact h
    · refine jConfig_leaves ?_ (Foot.le_trans (by decide) hF)
      exact h
  try clear_value y1
  split
  · refine applyEntry_leaves ?_ (Foot.le_trans (by decide) hF)
    exact h1
  · refine Foot.ite_leaves ?_ ?_
    · refine setBit_leaves ?_ (Foot.rec_key (Foot.rec_floor hF (by decide)))
      exact h1
    · refine disableNow_leaves ?_ (Foot.le_trans (by decide) hF)
      exact h1
  · refine disableNow_leaves ?_ (Foot.le_trans (by decide) hF)
    exact h1
  · refine enableReq_leaves ?_ (Foot.le_trans (by decide) hF)
    exact h1
  · refine forceCtrlDo_leaves ?_ (Foot.le_trans (by decide) hF)
    exact h1
  · refine winCtrlDo_leaves ?_ (Foot.le_trans (by decide) hF)
    exact h1
  · extract_lets +onlyGivenNames -merge -useContext -underBinder y2
    try clear_value y2
    extract_lets +onlyGivenNames -merge -useContext -underBinder y3
    have h3 : F.leaves a₀ y3 := by
      refine Foot.ite_leaves ?_ ?_
      · refine eventStart_leaves ?_ (Foot.le_trans (by decide) hF) (Foot.rec_floor hF (by decide))
        exact h1
      · exact h1
    try clear_value y3
    extract_lets +onlyGivenNames -merge -useContext -underBinder y4
    have h4 : F.leaves a₀ y4 := by
      refine Foot.ite_leaves ?_ ?_
      · refine trainStop_leaves ?_ (Foot.le_trans (by decide) hF) (Foot.rec_floor hF (by decide))
        exact h3
      · exact h3
    try clear_value y4
    extract_lets +onlyGivenNames -merge -useContext -underBinder y5
    have h5 : F.leaves a₀ y5 := by
      refine Foot.ite_leaves ?_ ?_
      · split
        · refine Foot.ite_leaves ?_ ?_
          · refine setBit_leaves ?_ (Foot.rec_key (Foot.rec_floor hF (by decide)))
            exact h4
          · exact h4
        · refine rearm_leaves ?_ (Foot.le_trans (by decide) hF) (Foot.rec_floor hF (by decide))
          exact h4
      · exact h4
    try clear_value y5
    refine Foot.ite_leaves ?_ ?_
    · refine trip_leaves ?_ (Foot.le_trans (by decide) hF) (Foot.rec_floor hF (by decide))
      exact h5
    · exact h5
  · refine abortCtx_leaves ?_ (Foot.le_trans (by decide) hF)
    exact h1
  · refine later_leaves ?_ (Foot.le_trans (by decide) hF)
    exact h1

theorem gcRun_leaves {F : Foot} {a₀ : State} {s : State} {p : Nat} {t : Tick} {n : Nat} (h : F.leaves a₀ s) (hF : Foot.le ⟨0x2380, [0x1220, 0x1221, 0x1222, 0x1223, 0x2000, 0x2001], [.blobs, .ports, .groups, .slices, .micro, .fab, .scan, .spad, .mem, .mc, .cal, .od, .net, .pcie, .rcd, .pwr, .nv, .tx]⟩ F = true) :
    F.leaves a₀ (gcRun s p t n) := by
  induction n generalizing s with
  | zero => exact h
  | succ n ih =>
    unfold gcRun
    extract_lets g
    split
    · exact h
    · split
      · exact h
      · exact ih (gcApply_leaves (modGx_leaves h (Foot.le_trans (by decide) hF)) (Foot.le_trans (by decide) hF))

theorem gcSend_leaves {F : Foot} {a₀ : State} {s : State} {who key v : Nat} {c : GcCmd} {waits : Bool} {t : Tick} (h : F.leaves a₀ s)
    (hF : Foot.le ⟨0x2380, [0x1220, 0x1221, 0x1222, 0x1223, 0x2000, 0x2001], [.blobs, .ports, .groups, .slices, .micro, .fab, .scan, .spad, .mem, .mc, .cal, .od, .net, .pcie, .rcd, .pwr, .nv, .tx, .resp]⟩ F = true) (hk : ∀ k o v, c.op = .setEntry k o v → F.covers (k / 256) := by simp) :
    F.leaves a₀ (gcSend s who key v c waits t) := by
  unfold gcSend
  refine Foot.ite_leaves ?_ (gcSubmit_leaves h (Foot.le_trans (by decide) hF) hk)
  extract_lets +onlyGivenNames -merge -useContext -underBinder y1
  have h1 : F.leaves a₀ y1 := by
    unfold y1
    split
    · exact set_leaves h (hk _ _ _ (by assumption))
    · exact h
  clear_value y1
  exact accept_leaves (gcApply_leaves h1 (Foot.le_trans (by decide) hF)) (Foot.le_trans (by decide) hF)

/-! ### RecCore -/

theorem modRec_leaves {F : Foot} {a₀ : State} {s : State} {f : RecX → RecX} (h : F.leaves a₀ s) (hF : Foot.le ⟨0x10000, [], [.rcd]⟩ F = true) :
    F.leaves a₀ (modRec s f) := by
  unfold modRec
  exact { h with rcd := .inl (Foot.part hF (by decide)) }

theorem headerDue_leaves {F : Foot} {a₀ : State} {s : State} (h : F.leaves a₀ s) (hF : Foot.le ⟨0x10000, [], [.rcd]⟩ F = true) :
    F.leaves a₀ (headerDue s) := by
  unfold headerDue
  refine modRec_leaves ?_ (Foot.le_trans (by decide) hF)
  exact h

theorem setCounts_leaves {F : Foot} {a₀ : State} {s : State} {oldest : Nat} {next : Nat} {off : Nat} (h : F.leaves a₀ s) (hF : Foot.le ⟨0x10000, [0x8000], []⟩ F = true) :
    F.leaves a₀ (setCounts s oldest next off) := by
  unfold setCounts
  refine set_leaves ?_ (Foot.rec_const hF (by decide))
  refine set_leaves ?_ (Foot.rec_const hF (by decide))
  refine set_leaves ?_ (Foot.rec_const hF (by decide))
  exact h

theorem layOut_leaves {F : Foot} {a₀ : State} {s : State} (h : F.leaves a₀ s) (hF : Foot.le ⟨0x10000, [0x8000], [.rcd]⟩ F = true) :
    F.leaves a₀ (layOut s) := by
  unfold layOut
  refine headerDue_leaves ?_ (Foot.le_trans (by decide) hF)
  refine setCounts_leaves ?_ (Foot.le_trans (by decide) hF)
  refine set_leaves ?_ (Foot.rec_const hF (by decide))
  exact h

theorem driveSeen_leaves {F : Foot} {a₀ : State} {s : State} {d : DriveInfo} (h : F.leaves a₀ s) (hF : Foot.le ⟨0x10000, [], [.rcd]⟩ F = true) :
    F.leaves a₀ (driveSeen s d) := by
  unfold driveSeen
  refine modRec_leaves ?_ (Foot.le_trans (by decide) hF)
  exact h

theorem storeOpen_leaves {F : Foot} {a₀ : State} {s : State} {next : Nat} (h : F.leaves a₀ s) (hF : Foot.le ⟨0x10000, [0x8000], [.rcd]⟩ F = true) :
    F.leaves a₀ (storeOpen s next) := by
  unfold storeOpen
  extract_lets +onlyGivenNames -merge -useContext -underBinder y0
  refine Foot.ite_leaves ?_ ?_
  · refine setBit_leaves ?_ (Foot.rec_const hF (by decide))
    exact h
  · split
    · refine layOut_leaves ?_ (Foot.le_trans (by decide) hF)
      refine setBit_leaves ?_ (Foot.rec_const hF (by decide))
      exact h
    · refine Foot.ite_leaves ?_ ?_
      · refine setBit_leaves ?_ (Foot.rec_const hF (by decide))
        exact h
      · extract_lets +onlyGivenNames -merge -useContext -underBinder y1
        try clear_value y1
        refine setCounts_leaves ?_ (Foot.le_trans (by decide) hF)
        refine set_leaves ?_ (Foot.rec_const hF (by decide))
        refine setBit_leaves ?_ (Foot.rec_const hF (by decide))
        exact h

theorem issue_leaves {F : Foot} {a₀ : State} {s : State} {c : NvCmd} (h : F.leaves a₀ s) (hF : Foot.le ⟨0x10000, [], [.rcd, .tx]⟩ F = true) :
    F.leaves a₀ (issue s c) := by
  unfold issue
  refine out_leaves ?_ (Foot.le_trans (by decide) hF)
  refine modRec_leaves ?_ (Foot.le_trans (by decide) hF)
  exact h

theorem recKick_leaves {F : Foot} {a₀ : State} {s : State} {t : Tick} (h : F.leaves a₀ s) (hF : Foot.le ⟨0x10000, [0x8000], [.rcd, .tx]⟩ F = true) :
    F.leaves a₀ (recKick s t) := by
  unfold recKick
  refine Foot.ite_leaves ?_ ?_
  · exact h
  · refine Foot.ite_leaves ?_ ?_
    · refine issue_leaves ?_ (Foot.le_trans (by decide) hF)
      refine modRec_leaves ?_ (Foot.le_trans (by decide) hF)
      exact h
    · split
      · refine Foot.ite_leaves ?_ ?_
        · refine issue_leaves ?_ (Foot.le_trans (by decide) hF)
          refine modRec_leaves ?_ (Foot.le_trans (by decide) hF)
          exact h
        · refine Foot.ite_leaves ?_ ?_
          · exact h
          · refine modRec_leaves ?_ (Foot.le_trans (by decide) hF)
            refine setBit_leaves ?_ (Foot.rec_const hF (by decide))
            exact h
      · refine Foot.ite_leaves ?_ ?_
        · refine issue_leaves ?_ (Foot.le_trans (by decide) hF)
          refine modRec_leaves ?_ (Foot.le_trans (by decide) hF)
          exact h
        · exact h

theorem chunkWritten_leaves {F : Foot} {a₀ : State} {s : State} {t : Tick} (h : F.leaves a₀ s) (hF : Foot.le ⟨0x10000, [0x8000], [.rcd]⟩ F = true) :
    F.leaves a₀ (chunkWritten s t) := by
  unfold chunkWritten
  extract_lets +onlyGivenNames -merge -useContext -underBinder y0
  extract_lets +onlyGivenNames -merge -useContext -underBinder y1
  extract_lets +onlyGivenNames -merge -useContext -underBinder y2
  extract_lets +onlyGivenNames -merge -useContext -underBinder y3
  try clear_value y3
  extract_lets +onlyGivenNames -merge -useContext -underBinder y4
  have h4 : F.leaves a₀ y4 := by
    refine setCounts_leaves ?_ (Foot.le_trans (by decide) hF)
    exact h
  try clear_value y4
  extract_lets +onlyGivenNames -merge -useContext -underBinder y5
  have h5 : F.leaves a₀ y5 := by
    refine when_leaves ?_ fun z6 h6 => ?_
    · exact h4
    · refine setBit_leaves ?_ (Foot.rec_const hF (by decide))
      exact h6
  try clear_value y5
  extract_lets +onlyGivenNames -merge -useContext -underBinder y7
  have h7 : F.leaves a₀ y7 := by
    refine modRec_leaves ?_ (Foot.le_trans (by decide) hF)
    exact h5
  try clear_value y7
  extract_lets +onlyGivenNames -merge -useContext -underBinder y8
  try clear_value y8
  extract_lets +onlyGivenNames -merge -useContext -underBinder y9
  have h9 : F.leaves a₀ y9 := by
    refine Foot.ite_leaves ?_ ?_
    · refine modRec_leaves ?_ (Foot.le_trans (by decide) hF)
      exact h7
    · refine modRec_leaves ?_ (Foot.le_trans (by decide) hF)
      refine setQ_leaves ?_ (Foot.rec_const hF (by decide))
      exact h7
  try clear_value y9
  refine when_leaves ?_ fun z10 h10 => ?_
  · exact h9
  · refine headerDue_leaves ?_ (Foot.le_trans (by decide) hF)
    exact h10

theorem cmdOk_leaves {F : Foot} {a₀ : State} {s : State} {c : NvCmd} {t : Tick} (h : F.leaves a₀ s) (hF : Foot.le ⟨0x10000, [0x8000], [.rcd, .tx]⟩ F = true) :
    F.leaves a₀ (cmdOk s c t) := by
  unfold cmdOk
  extract_lets +onlyGivenNames -merge -useContext -underBinder y0
  have h0 : F.leaves a₀ y0 := by
    refine modRec_leaves ?_ (Foot.le_trans (by decide) hF)
    exact h
  try clear_value y0
  extract_lets +onlyGivenNames -merge -useContext -underBinder y1
  have h1 : F.leaves a₀ y1 := by
    unfold y1
    split
    · refine chunkWritten_leaves ?_ (Foot.le_trans (by decide) hF)
      exact h0
    · refine modRec_leaves ?_ (Foot.le_trans (by decide) hF)
      exact h0
    · exact h0
  try clear_value y1
  refine recKick_leaves ?_ (Foot.le_trans (by decide) hF)
  exact h1

theorem cmdBad_leaves {F : Foot} {a₀ : State} {s : State} {c : NvCmd} {t : Tick} (h : F.leaves a₀ s) (hF : Foot.le ⟨0x10000, [0x8000], [.rcd]⟩ F = true) :
    F.leaves a₀ (cmdBad s c t) := by
  unfold cmdBad
  refine Foot.ite_leaves ?_ ?_
  · refine modRec_leaves ?_ (Foot.le_trans (by decide) hF)
    exact h
  · extract_lets +onlyGivenNames -merge -useContext -underBinder y0
    have h0 : F.leaves a₀ y0 := by
      refine setBit_leaves ?_ (Foot.rec_const hF (by decide))
      refine setBit_leaves ?_ (Foot.rec_const hF (by decide))
      exact h
    try clear_value y0
    refine modRec_leaves ?_ (Foot.le_trans (by decide) hF)
    exact h0

theorem setShed_leaves {F : Foot} {a₀ : State} {s : State} {p : Nat} {x : Option Tick} (h : F.leaves a₀ s) (hF : Foot.le ⟨0x10000, [], [.rcd]⟩ F = true) :
    F.leaves a₀ (setShed s p x) := by
  unfold setShed
  refine modRec_leaves ?_ (Foot.le_trans (by decide) hF)
  exact h

theorem snapWant_leaves {F : Foot} {a₀ : State} {s : State} {p : Nat} (h : F.leaves a₀ s) (hF : Foot.le ⟨0x10000, [], [.rcd]⟩ F = true) :
    F.leaves a₀ (snapWant s p) := by
  unfold snapWant
  refine modRec_leaves ?_ (Foot.le_trans (by decide) hF)
  exact h

theorem shedStart_leaves {F : Foot} {a₀ : State} {s : State} {t : Tick} (h : F.leaves a₀ s) (hF : Foot.le ⟨0x10000, [0x8000], [.rcd]⟩ F = true) :
    F.leaves a₀ (shedStart s t) := by
  unfold shedStart
  extract_lets +onlyGivenNames -merge -useContext -underBinder y0
  try clear_value y0
  extract_lets +onlyGivenNames -merge -useContext -underBinder y1
  have h1 : F.leaves a₀ y1 := by
    refine when_leaves ?_ fun z2 h2 => ?_
    · exact h
    · refine setBit_leaves ?_ (Foot.rec_const hF (by decide))
      exact h2
  try clear_value y1
  refine Foot.foldl_leaves ?_ fun z3 i3 h3 => ?_
  · exact h1
  · refine Foot.ite_leaves ?_ ?_
    · exact h3
    · refine setShed_leaves ?_ (Foot.le_trans (by decide) hF)
      refine lchkFlush_leaves ?_ (Foot.le_trans (by decide) hF)
      refine jFastFlush_leaves ?_ (Foot.le_trans (by decide) hF)
      exact h3

theorem shedEnd_leaves {F : Foot} {a₀ : State} {s : State} {t : Tick} (h : F.leaves a₀ s) (hF : Foot.le ⟨0x10000, [0x8000], [.rcd]⟩ F = true) :
    F.leaves a₀ (shedEnd s t) := by
  unfold shedEnd
  refine Foot.foldl_leaves ?_ fun z0 i0 h0 => ?_
  · exact h
  · split
    · refine snapWant_leaves ?_ (Foot.le_trans (by decide) hF)
      refine putGap_leaves ?_ (Foot.le_trans (by decide) hF)
      refine setShed_leaves ?_ (Foot.le_trans (by decide) hF)
      exact h0
    · exact h0

theorem shedCheck_leaves {F : Foot} {a₀ : State} {s : State} {t : Tick} (h : F.leaves a₀ s) (hF : Foot.le ⟨0x10000, [0x8000], [.rcd]⟩ F = true) :
    F.leaves a₀ (shedCheck s t) := by
  unfold shedCheck
  extract_lets +onlyGivenNames -merge -useContext -underBinder y0
  refine Foot.ite_leaves ?_ ?_
  · refine shedStart_leaves ?_ (Foot.le_trans (by decide) hF)
    refine modRec_leaves ?_ (Foot.le_trans (by decide) hF)
    exact h
  · refine Foot.ite_leaves ?_ ?_
    · extract_lets +onlyGivenNames -merge -useContext -underBinder y1
      have h1 : F.leaves a₀ y1 := by
        refine modRec_leaves ?_ (Foot.le_trans (by decide) hF)
        exact h
      try clear_value y1
      refine Foot.ite_leaves ?_ ?_
      · exact h1
      · refine shedEnd_leaves ?_ (Foot.le_trans (by decide) hF)
        exact h1
    · exact h

theorem j2Select_leaves {F : Foot} {a₀ : State} {s : State} {old : List Nat} (h : F.leaves a₀ s) (hF : Foot.le ⟨0x10000, [], [.rcd]⟩ F = true) :
    F.leaves a₀ (j2Select s old) := by
  unfold j2Select
  refine Foot.foldl_leaves ?_ fun z0 i0 h0 => ?_
  · exact h
  · refine snapWant_leaves ?_ (Foot.le_trans (by decide) hF)
    exact h0

theorem jList_leaves {F : Foot} {a₀ : State} {s : State} {l k n : Nat} (h : F.leaves a₀ s) (hF : Foot.le ⟨0x10000, [0x8000], [.rcd]⟩ F = true) :
    F.leaves a₀ (jList s l k n) := by
  induction n generalizing s k with
  | zero => exact h
  | succ n ih =>
    unfold jList
    extract_lets c
    split
    · exact h
    · exact ih (journal_leaves h (Foot.le_trans (by decide) hF))

theorem jCkpt_leaves {F : Foot} {a₀ : State} {s : State} {k : Nat} (h : F.leaves a₀ s) (hF : Foot.le ⟨0x10000, [0x8000], [.rcd]⟩ F = true) :
    F.leaves a₀ (jCkpt s k) := by
  unfold jCkpt
  extract_lets +onlyGivenNames -merge -useContext -underBinder y0
  extract_lets +onlyGivenNames -merge -useContext -underBinder y1
  extract_lets +onlyGivenNames -merge -useContext -underBinder y2
  extract_lets +onlyGivenNames -merge -useContext -underBinder y3
  try clear_value y3
  refine journal_leaves ?_ (Foot.le_trans (by decide) hF)
  exact h

theorem jPortCkpt_leaves {F : Foot} {a₀ : State} {t : Tick} {p : Nat} {s : State} (h : F.leaves a₀ s) (hF : Foot.le ⟨0x10000, [0x8000], [.rcd]⟩ F = true) :
    F.leaves a₀ (jPortCkpt t p s) := by
  unfold jPortCkpt
  extract_lets +onlyGivenNames -merge -useContext -underBinder y0
  have h0 : F.leaves a₀ y0 := by
    refine Foot.ite_leaves ?_ ?_
    · refine jPort_leaves ?_ (Foot.le_trans (by decide) hF)
      exact h
    · exact h
  try clear_value y0
  extract_lets +onlyGivenNames -merge -useContext -underBinder y1
  have h1 : F.leaves a₀ y1 := by
    refine Foot.ite_leaves ?_ ?_
    · refine jPort_leaves ?_ (Foot.le_trans (by decide) hF)
      exact h0
    · exact h0
  try clear_value y1
  refine Foot.ite_leaves ?_ ?_
  · exact h1
  · refine jPort_leaves ?_ (Foot.le_trans (by decide) hF)
    exact h1

theorem jListCkpt_leaves {F : Foot} {a₀ : State} {l : Nat} {s : State} (h : F.leaves a₀ s) (hF : Foot.le ⟨0x10000, [0x8000], [.rcd]⟩ F = true) :
    F.leaves a₀ (jListCkpt l s) := by
  unfold jListCkpt
  refine Foot.ite_leaves ?_ ?_
  · refine jList_leaves ?_ (Foot.le_trans (by decide) hF)
    exact h
  · exact h

theorem checkpoint_leaves {F : Foot} {a₀ : State} {s : State} {t : Tick} (h : F.leaves a₀ s) (hF : Foot.le ⟨0x10000, [0x8000], [.rcd]⟩ F = true) :
    F.leaves a₀ (checkpoint s t) := by
  unfold checkpoint
  extract_lets +onlyGivenNames -merge -useContext -underBinder y0
  extract_lets +onlyGivenNames -merge -useContext -underBinder y1
  have h1 : F.leaves a₀ y1 := by
    refine journal_leaves ?_ (Foot.le_trans (by decide) hF)
    exact h
  try clear_value y1
  extract_lets +onlyGivenNames -merge -useContext -underBinder y2
  have h2 : F.leaves a₀ y2 := by
    refine Foot.foldl_leaves ?_ fun z3 i3 h3 => ?_
    · exact h1
    · refine jCkpt_leaves ?_ (Foot.le_trans (by decide) hF)
      exact h3
  try clear_value y2
  extract_lets +onlyGivenNames -merge -useContext -underBinder y4
  have h4 : F.leaves a₀ y4 := by
    refine forAll_leaves ?_ fun i5 z5 h5 => ?_
    · refine Foot.foldl_leaves ?_ fun z6 i6 h6 => ?_
      · exact h2
      · refine jCkpt_leaves ?_ (Foot.le_trans (by decide) hF)
        exact h6
    · refine jFactors_leaves ?_ (Foot.le_trans (by decide) hF)
      exact h5
  try clear_value y4
  extract_lets +onlyGivenNames -merge -useContext -underBinder y7
  have h7 : F.leaves a₀ y7 := by
    refine forAll_leaves ?_ fun i8 z8 h8 => ?_
    · exact h4
    · refine jBytes_leaves ?_ (Foot.le_trans (by decide) hF)
      exact h8
  try clear_value y7
  extract_lets +onlyGivenNames -merge -useContext -underBinder y9
  have h9 : F.leaves a₀ y9 := by
    refine forAll_leaves ?_ fun i10 z10 h10 => ?_
    · exact h7
    · refine jPortCkpt_leaves ?_ (Foot.le_trans (by decide) hF)
      exact h10
  try clear_value y9
  extract_lets +onlyGivenNames -merge -useContext -underBinder y11
  have h11 : F.leaves a₀ y11 := by
    refine forAll_leaves ?_ fun i12 z12 h12 => ?_
    · exact h9
    · refine jCkpt_leaves ?_ (Foot.le_trans (by decide) hF)
      exact h12
  try clear_value y11
  extract_lets +onlyGivenNames -merge -useContext -underBinder y13
  have h13 : F.leaves a₀ y13 := by
    refine forAll_leaves ?_ fun i14 z14 h14 => ?_
    · exact h11
    · refine jListCkpt_leaves ?_ (Foot.le_trans (by decide) hF)
      exact h14
  try clear_value y13
  extract_lets +onlyGivenNames -merge -useContext -underBinder y15
  have h15 : F.leaves a₀ y15 := by
    refine journal_leaves ?_ (Foot.le_trans (by decide) hF)
    exact h13
  try clear_value y15
  refine modRec_leaves ?_ (Foot.le_trans (by decide) hF)
  exact h15

theorem recStart_leaves {F : Foot} {a₀ : State} {s : State} {t : Tick} (h : F.leaves a₀ s) (hF : Foot.le ⟨0x10000, [0x8000], [.tb, .rcd, .tx]⟩ F = true) :
    F.leaves a₀ (recStart s t) := by
  unfold recStart
  refine Foot.ite_leaves ?_ ?_
  · refine setBit_leaves ?_ (Foot.rec_const hF (by decide))
    exact h
  · extract_lets +onlyGivenNames -merge -useContext -underBinder y0
    have h0 : F.leaves a₀ y0 := by
      refine setBit_leaves ?_ (Foot.rec_const hF (by decide))
      refine setBit_leaves ?_ (Foot.rec_const hF (by decide))
      exact h
    try clear_value y0
    extract_lets +onlyGivenNames -merge -useContext -underBinder y1
    have h1 : F.leaves a₀ y1 := by
      refine jOwed_leaves ?_ (Foot.le_trans (by decide) hF)
      exact h0
    try clear_value y1
    extract_lets +onlyGivenNames -merge -useContext -underBinder y2
    have h2 : F.leaves a₀ y2 := by
      refine Foot.foldl_leaves ?_ fun z3 i3 h3 => ?_
      · exact h1
      · refine snapWant_leaves ?_ (Foot.le_trans (by decide) hF)
        exact h3
    try clear_value y2
    extract_lets +onlyGivenNames -merge -useContext -underBinder y4
    have h4 : F.leaves a₀ y4 := by
      refine modRec_leaves ?_ (Foot.le_trans (by decide) hF)
      exact h2
    try clear_value y4
    refine recKick_leaves ?_ (Foot.le_trans (by decide) hF)
    exact h4

theorem recFlush_leaves {F : Foot} {a₀ : State} {s : State} {t : Tick} (h : F.leaves a₀ s) (hF : Foot.le ⟨0x10000, [0x8000], [.rcd, .tx]⟩ F = true) :
    F.leaves a₀ (recFlush s t) := by
  unfold recFlush
  extract_lets +onlyGivenNames -merge -useContext -underBinder y0
  have h0 : F.leaves a₀ y0 := by
    refine Foot.foldl_leaves ?_ fun z1 i1 h1 => ?_
    · exact h
    · refine lchkFlush_leaves ?_ (Foot.le_trans (by decide) hF)
      refine jFastFlush_leaves ?_ (Foot.le_trans (by decide) hF)
      exact h1
  try clear_value y0
  refine recKick_leaves ?_ (Foot.le_trans (by decide) hF)
  refine closeChunk_leaves ?_ (Foot.le_trans (by decide) hF)
  exact h0

theorem recStop_leaves {F : Foot} {a₀ : State} {s : State} {t : Tick} (h : F.leaves a₀ s) (hF : Foot.le ⟨0x10000, [0x8000], [.rcd, .tx]⟩ F = true) :
    F.leaves a₀ (recStop s t) := by
  unfold recStop
  refine Foot.ite_leaves ?_ ?_
  · refine modRec_leaves ?_ (Foot.le_trans (by decide) hF)
    refine setBit_leaves ?_ (Foot.rec_const hF (by decide))
    refine recFlush_leaves ?_ (Foot.le_trans (by decide) hF)
    exact h
  · exact h

theorem recPowerFail_leaves {F : Foot} {a₀ : State} {s : State} {t : Tick} (h : F.leaves a₀ s) (hF : Foot.le ⟨0x10000, [0x8000], [.rcd, .tx]⟩ F = true) :
    F.leaves a₀ (recPowerFail s t) := by
  unfold recPowerFail
  extract_lets +onlyGivenNames -merge -useContext -underBinder y0
  have h0 : F.leaves a₀ y0 := by
    refine Foot.ite_leaves ?_ ?_
    · refine shedStart_leaves ?_ (Foot.le_trans (by decide) hF)
      refine modRec_leaves ?_ (Foot.le_trans (by decide) hF)
      exact h
    · exact h
  try clear_value y0
  refine recFlush_leaves ?_ (Foot.le_trans (by decide) hF)
  refine modRec_leaves ?_ (Foot.le_trans (by decide) hF)
  exact h0

theorem rpEnd_leaves {F : Foot} {a₀ : State} {s : State} {code : Nat} (h : F.leaves a₀ s) (hF : Foot.le ⟨0x10000, [0x8001], []⟩ F = true) :
    F.leaves a₀ (rpEnd s code) := by
  unfold rpEnd
  refine set_leaves ?_ (Foot.rec_const hF (by decide))
  refine set_leaves ?_ (Foot.rec_const hF (by decide))
  exact h

/-! ### TbCore -/

theorem modTb_leaves {F : Foot} {a₀ : State} {s : State} {f : TbX → TbX} (h : F.leaves a₀ s) (hF : Foot.le ⟨0x10000, [], [.tb]⟩ F = true) :
    F.leaves a₀ (modTb s f) := by
  unfold modTb
  exact { h with tb := .inl (Foot.part hF (by decide)) }

theorem syncTb_leaves {F : Foot} {a₀ : State} {s : State} (h : F.leaves a₀ s) (hF : Foot.le ⟨0x10000, [0x2100], []⟩ F = true) :
    F.leaves a₀ (syncTb s) := by
  unfold syncTb
  refine setBits_leaves ?_ (Foot.rec_const hF (by decide))
  exact h

theorem pushSeg_leaves {F : Foot} {a₀ : State} {s : State} {g : Seg} (h : F.leaves a₀ s) (hF : Foot.le ⟨0x10000, [0x8000], [.tb, .rcd]⟩ F = true) :
    F.leaves a₀ (pushSeg s g) := by
  unfold pushSeg
  refine jSegment_leaves ?_ (Foot.le_trans (by decide) hF)
  refine modTb_leaves ?_ (Foot.le_trans (by decide) hF)
  exact h

theorem epochStart_leaves {F : Foot} {a₀ : State} {s : State} (h : F.leaves a₀ s) (hF : Foot.le ⟨0x10000, [0x2100, 0x8000], [.tb, .rcd]⟩ F = true) :
    F.leaves a₀ (epochStart s) := by
  unfold epochStart
  extract_lets +onlyGivenNames -merge -useContext -underBinder y0
  have h0 : F.leaves a₀ y0 := by
    refine modTb_leaves ?_ (Foot.le_trans (by decide) hF)
    exact h
  try clear_value y0
  extract_lets +onlyGivenNames -merge -useContext -underBinder y1
  have h1 : F.leaves a₀ y1 := by
    refine set_leaves ?_ (Foot.rec_const hF (by decide))
    refine set_leaves ?_ (Foot.rec_const hF (by decide))
    exact h0
  try clear_value y1
  refine syncTb_leaves ?_ (Foot.le_trans (by decide) hF)
  refine pushSeg_leaves ?_ (Foot.le_trans (by decide) hF)
  exact h1

theorem pllSpare_leaves {F : Foot} {a₀ : State} {s : State} (h : F.leaves a₀ s) (hF : Foot.le ⟨0x10000, [], [.tb]⟩ F = true) :
    F.leaves a₀ (pllSpare s) := by
  unfold pllSpare
  refine modTb_leaves ?_ (Foot.le_trans (by decide) hF)
  exact h

theorem measured_leaves {F : Foot} {a₀ : State} {s : State} {src : Nat} {ns : Int} {force : Bool} {phase : Bool} {t : Tick} (h : F.leaves a₀ s) (hF : Foot.le ⟨0x10000, [0x2100], [.tb]⟩ F = true) :
    F.leaves a₀ (measured s src ns force phase t) := by
  unfold measured
  extract_lets +onlyGivenNames -merge -useContext -underBinder y0
  try clear_value y0
  extract_lets +onlyGivenNames -merge -useContext -underBinder y1
  have h1 : F.leaves a₀ y1 := by
    refine set_leaves ?_ (Foot.rec_const hF (by decide))
    exact h
  try clear_value y1
  extract_lets +onlyGivenNames -merge -useContext -underBinder y2
  have h2 : F.leaves a₀ y2 := by
    refine modTb_leaves ?_ (Foot.le_trans (by decide) hF)
    exact h1
  try clear_value y2
  refine syncTb_leaves ?_ (Foot.le_trans (by decide) hF)
  refine setBits_leaves ?_ (Foot.rec_const hF (by decide))
  exact h2

theorem stepped_leaves {F : Foot} {a₀ : State} {s : State} {valid : Bool} {t : Tick} (h : F.leaves a₀ s) (hF : Foot.le ⟨0x5000, [0x2100, 0x1220, 0x1221, 0x1222, 0x1223], [.fab, .net, .pcie, .rcd]⟩ F = true) :
    F.leaves a₀ (stepped s valid t) := by
  unfold stepped
  extract_lets +onlyGivenNames -merge -useContext -underBinder y0
  have h0 : F.leaves a₀ y0 := by
    refine setBit_leaves ?_ (Foot.rec_const hF (by decide))
    refine satInc_leaves ?_ (Foot.rec_const hF (by decide))
    exact h
  try clear_value y0
  extract_lets +onlyGivenNames -merge -useContext -underBinder y1
  have h1 : F.leaves a₀ y1 := by
    refine when_leaves ?_ fun z2 h2 => ?_
    · exact h0
    · refine setBit_leaves ?_ (Foot.rec_const hF (by decide))
      exact h2
  try clear_value y1
  refine produce_leaves ?_ (Foot.le_trans (by decide) hF)
  exact h1

theorem thetaSeg_leaves {F : Foot} {a₀ : State} {s : State} {th : Theta} {t : Tick} (h : F.leaves a₀ s) (hF : Foot.le ⟨0x5000, [0x2100, 0x1220, 0x1221, 0x1222, 0x1223], [.fab, .tb, .net, .pcie, .rcd, .fresh]⟩ F = true) :
    F.leaves a₀ (thetaSeg s th t) := by
  unfold thetaSeg
  extract_lets +onlyGivenNames -merge -useContext -underBinder y0
  try clear_value y0
  extract_lets +onlyGivenNames -merge -useContext -underBinder y1
  extract_lets +onlyGivenNames -merge -useContext -underBinder y2
  have h2 : F.leaves a₀ y2 := by
    refine modTb_leaves ?_ (Foot.le_trans (by decide) hF)
    exact h
  try clear_value y2
  refine Foot.ite_leaves ?_ ?_
  · refine stepped_leaves ?_ (Foot.le_trans (by decide) hF)
    refine pushSeg_leaves ?_ (Foot.le_trans (by decide) hF)
    exact h2
  · extract_lets +onlyGivenNames -merge -useContext -underBinder y3
    extract_lets +onlyGivenNames -merge -useContext -underBinder y4
    have h4 : F.leaves a₀ y4 := by
      refine pushSeg_leaves ?_ (Foot.le_trans (by decide) hF)
      exact h2
    try clear_value y4
    exact { h4 with fresh := .inl (Foot.part hF (by decide)) }

theorem segmentDue_leaves {F : Foot} {a₀ : State} {s : State} {t : Tick} (h : F.leaves a₀ s) (hF : Foot.le ⟨0x5000, [0x2100, 0x1220, 0x1221, 0x1222, 0x1223], [.fab, .tb, .net, .pcie, .rcd, .fresh]⟩ F = true) :
    F.leaves a₀ (segmentDue s t) := by
  unfold segmentDue
  refine Foot.ite_leaves ?_ ?_
  · split
    · refine Foot.ite_leaves ?_ ?_
      · refine pushSeg_leaves ?_ (Foot.le_trans (by decide) hF)
        refine modTb_leaves ?_ (Foot.le_trans (by decide) hF)
        exact h
      · exact h
    · exact h
  · split
    · extract_lets +onlyGivenNames -merge -useContext -underBinder y0
      extract_lets +onlyGivenNames -merge -useContext -underBinder y1
      have h1 : F.leaves a₀ y1 := by
        refine modTb_leaves ?_ (Foot.le_trans (by decide) hF)
        exact h
      try clear_value y1
      refine stepped_leaves ?_ (Foot.le_trans (by decide) hF)
      refine pushSeg_leaves ?_ (Foot.le_trans (by decide) hF)
      exact h1
    · split
      · refine thetaSeg_leaves ?_ (Foot.le_trans (by decide) hF)
        exact h
      · refine Foot.ite_leaves ?_ ?_
        · refine pushSeg_leaves ?_ (Foot.le_trans (by decide) hF)
          exact h
        · exact h

theorem ppsEdge_leaves {F : Foot} {a₀ : State} {s : State} {t : Tick} (h : F.leaves a₀ s) (hF : Foot.le ⟨0x10000, [0x8000, 0x2100], [.tb, .rcd]⟩ F = true) :
    F.leaves a₀ (ppsEdge s t) := by
  unfold ppsEdge
  extract_lets +onlyGivenNames -merge -useContext -underBinder y0
  have h0 : F.leaves a₀ y0 := by
    refine jEdge_leaves ?_ (Foot.le_trans (by decide) hF)
    exact h
  try clear_value y0
  refine Foot.ite_leaves ?_ ?_
  · exact h0
  · extract_lets +onlyGivenNames -merge -useContext -underBinder y1
    extract_lets +onlyGivenNames -merge -useContext -underBinder y2
    try clear_value y2
    extract_lets +onlyGivenNames -merge -useContext -underBinder y3
    try clear_value y3
    refine Foot.ite_leaves ?_ ?_
    · split
      · refine measured_leaves ?_ (Foot.le_trans (by decide) hF)
        refine modTb_leaves ?_ (Foot.le_trans (by decide) hF)
        exact h0
      · refine measured_leaves ?_ (Foot.le_trans (by decide) hF)
        refine modTb_leaves ?_ (Foot.le_trans (by decide) hF)
        exact h0
    · refine setBit_leaves ?_ (Foot.rec_const hF (by decide))
      refine satInc_leaves ?_ (Foot.rec_const hF (by decide))
      exact h0

theorem ptpMeasured_leaves {F : Foot} {a₀ : State} {s : State} {rx : Tick} {origin : Nat} {c1 : Int} {reply : Nat} {c2 : Int} (h : F.leaves a₀ s) (hF : Foot.le ⟨0x10000, [0x2100], [.tb]⟩ F = true) :
    F.leaves a₀ (ptpMeasured s rx origin c1 reply c2) := by
  unfold ptpMeasured
  extract_lets +onlyGivenNames -merge -useContext -underBinder y0
  try clear_value y0
  extract_lets +onlyGivenNames -merge -useContext -underBinder y1
  try clear_value y1
  extract_lets +onlyGivenNames -merge -useContext -underBinder y2
  try clear_value y2
  extract_lets +onlyGivenNames -merge -useContext -underBinder y3
  have h3 : F.leaves a₀ y3 := by
    refine modTb_leaves ?_ (Foot.le_trans (by decide) hF)
    exact h
  try clear_value y3
  refine measured_leaves ?_ (Foot.le_trans (by decide) hF)
  exact h3

theorem pllLost_leaves {F : Foot} {a₀ : State} {s : State} {t : Tick} (h : F.leaves a₀ s) (hF : Foot.le ⟨0x10000, [0x2100, 0x9000], [.blobs, .micro, .tb, .nv]⟩ F = true) :
    F.leaves a₀ (pllLost s t) := by
  unfold pllLost
  refine Foot.ite_leaves ?_ ?_
  · extract_lets +onlyGivenNames -merge -useContext -underBinder y0
    have h0 : F.leaves a₀ y0 := by
      refine setBit_leaves ?_ (Foot.rec_const hF (by decide))
      refine set_leaves ?_ (Foot.rec_const hF (by decide))
      exact h
    try clear_value y0
    refine syncTb_leaves ?_ (Foot.le_trans (by decide) hF)
    refine garnet_leaves ?_ (Foot.le_trans (by decide) hF)
    refine modTb_leaves ?_ (Foot.le_trans (by decide) hF)
    exact h0
  · refine later_leaves ?_ (Foot.le_trans (by decide) hF)
    exact h

theorem refLost_leaves {F : Foot} {a₀ : State} {s : State} (h : F.leaves a₀ s) (hF : Foot.le ⟨0x10000, [0x2100], [.tb]⟩ F = true) :
    F.leaves a₀ (refLost s) := by
  unfold refLost
  refine syncTb_leaves ?_ (Foot.le_trans (by decide) hF)
  refine modTb_leaves ?_ (Foot.le_trans (by decide) hF)
  refine setBit_leaves ?_ (Foot.rec_const hF (by decide))
  exact h

theorem refBack_leaves {F : Foot} {a₀ : State} {s : State} (h : F.leaves a₀ s) (hF : Foot.le ⟨0x10000, [0x2100], [.tb]⟩ F = true) :
    F.leaves a₀ (refBack s) := by
  unfold refBack
  refine syncTb_leaves ?_ (Foot.le_trans (by decide) hF)
  refine modTb_leaves ?_ (Foot.le_trans (by decide) hF)
  refine setBit_leaves ?_ (Foot.rec_const hF (by decide))
  exact h

theorem syncLocked_leaves {F : Foot} {a₀ : State} {s : State} (h : F.leaves a₀ s) (hF : Foot.le ⟨0x10000, [0x2100], [.tb]⟩ F = true) :
    F.leaves a₀ (syncLocked s) := by
  unfold syncLocked
  refine syncTb_leaves ?_ (Foot.le_trans (by decide) hF)
  refine setBit_leaves ?_ (Foot.rec_const hF (by decide))
  refine modTb_leaves ?_ (Foot.le_trans (by decide) hF)
  exact h

theorem syncLoad_leaves {F : Foot} {a₀ : State} {s : State} (h : F.leaves a₀ s) (hF : Foot.le ⟨0x10000, [0x2100], [.now, .tb]⟩ F = true) :
    F.leaves a₀ (syncLoad s) := by
  unfold syncLoad
  split
  · refine syncLocked_leaves ?_ (Foot.le_trans (by decide) hF)
    exact { h with now := .inl (Foot.part hF (by decide)), tb := .inl (Foot.part hF (by decide)) }
  · exact h

theorem takeSeg_leaves {F : Foot} {a₀ : State} {s : State} {g : Seg} {tai : Bool} {t : Tick} (h : F.leaves a₀ s) (hF : Foot.le ⟨0x10000, [0x2100, 0x8000], [.tb, .rcd]⟩ F = true) :
    F.leaves a₀ (takeSeg s g tai t) := by
  unfold takeSeg
  extract_lets +onlyGivenNames -merge -useContext -underBinder y0
  have h0 : F.leaves a₀ y0 := by
    refine setBit_leaves ?_ (Foot.rec_const hF (by decide))
    exact h
  try clear_value y0
  refine Foot.ite_leaves ?_ ?_
  · exact h0
  · refine Foot.ite_leaves ?_ ?_
    · refine pushSeg_leaves ?_ (Foot.le_trans (by decide) hF)
      refine modTb_leaves ?_ (Foot.le_trans (by decide) hF)
      exact h0
    · refine modTb_leaves ?_ (Foot.le_trans (by decide) hF)
      exact h0

theorem syncMarker_leaves {F : Foot} {a₀ : State} {s : State} {T : Tick} {t : Tick} (h : F.leaves a₀ s) (hF : Foot.le ⟨0x10000, [0x2100], [.now, .tb]⟩ F = true) :
    F.leaves a₀ (syncMarker s T t) := by
  unfold syncMarker
  extract_lets +onlyGivenNames -merge -useContext -underBinder y0
  have h0 : F.leaves a₀ y0 := by
    refine syncTb_leaves ?_ (Foot.le_trans (by decide) hF)
    refine modTb_leaves ?_ (Foot.le_trans (by decide) hF)
    exact h
  try clear_value y0
  refine Foot.ite_leaves ?_ ?_
  · refine syncLocked_leaves ?_ (Foot.le_trans (by decide) hF)
    exact h0
  · extract_lets +onlyGivenNames -merge -useContext -underBinder y1
    have h1 : F.leaves a₀ y1 := by
      refine Foot.ite_leaves ?_ ?_
      · refine setBit_leaves ?_ (Foot.rec_const hF (by decide))
        exact h0
      · exact h0
    try clear_value y1
    refine Foot.ite_leaves ?_ ?_
    · exact h1
    · refine syncLoad_leaves ?_ (Foot.le_trans (by decide) hF)
      exact h1

theorem syncFrame_leaves {F : Foot} {a₀ : State} {s : State} {T : Tick} {g : Seg} {tai : Bool} {t : Tick} (h : F.leaves a₀ s) (hF : Foot.le ⟨0x10000, [0x2100, 0x8000], [.now, .tb, .rcd]⟩ F = true) :
    F.leaves a₀ (syncFrame s T g tai t) := by
  unfold syncFrame
  refine Foot.ite_leaves ?_ ?_
  · exact h
  · extract_lets +onlyGivenNames -merge -useContext -underBinder y0
    have h0 : F.leaves a₀ y0 := by
      refine Foot.ite_leaves ?_ ?_
      · refine modTb_leaves ?_ (Foot.le_trans (by decide) hF)
        exact h
      · refine syncMarker_leaves ?_ (Foot.le_trans (by decide) hF)
        exact h
    try clear_value y0
    refine Foot.ite_leaves ?_ ?_
    · refine takeSeg_leaves ?_ (Foot.le_trans (by decide) hF)
      exact h0
    · exact h0

theorem syncLost_leaves {F : Foot} {a₀ : State} {s : State} (h : F.leaves a₀ s) (hF : Foot.le ⟨0x10000, [0x2100], [.tb]⟩ F = true) :
    F.leaves a₀ (syncLost s) := by
  unfold syncLost
  refine Foot.ite_leaves ?_ ?_
  · refine syncTb_leaves ?_ (Foot.le_trans (by decide) hF)
    refine modTb_leaves ?_ (Foot.le_trans (by decide) hF)
    refine setBit_leaves ?_ (Foot.rec_const hF (by decide))
    exact h
  · exact h

/-! ### MemCore -/

theorem modMem_leaves {F : Foot} {a₀ : State} {s : State} {f : MemX → MemX} (h : F.leaves a₀ s) (hF : Foot.le ⟨0x10000, [], [.mem]⟩ F = true) :
    F.leaves a₀ (modMem s f) := by
  unfold modMem
  exact { h with mem := .inl (Foot.part hF (by decide)) }

theorem sapViol_leaves {F : Foot} {a₀ : State} {s : State} (h : F.leaves a₀ s) (hF : Foot.le ⟨0x10000, [0x2300], []⟩ F = true) :
    F.leaves a₀ (sapViol s) := by
  unfold sapViol
  refine setBit_leaves ?_ (Foot.rec_const hF (by decide))
  refine satInc_leaves ?_ (Foot.rec_const hF (by decide))
  exact h

theorem spadClear_leaves {F : Foot} {a₀ : State} {s : State} {lo hi : Nat} (h : F.leaves a₀ s) (hF : Foot.le ⟨0x10000, [], [.spad, .mem]⟩ F = true) :
    F.leaves a₀ (spadClear s lo hi) := by
  unfold spadClear
  exact { h with
    spad := .inl (Foot.part hF (by decide))
    mem := .inl (Foot.part hF (by decide))
    tables := fun ha => by
      have := h.tables ha
      simp only [tablesOk, Bool.and_eq_true] at *
      exact ⟨this.1, Tab.wf_filter _ _ _ this.2⟩ }

theorem regionZero_leaves {F : Foot} {a₀ : State} {s : State} {r : Nat} {lo : Nat} {n : Nat} (h : F.leaves a₀ s) (hF : Foot.le ⟨0x10000, [], [.spad, .mem]⟩ F = true) (r0 : F.covers (0x2340 + r)) :
    F.leaves a₀ (regionZero s r lo n) := by
  unfold regionZero
  refine set_leaves ?_ (Foot.rec_key r0)
  refine spadClear_leaves ?_ (Foot.le_trans (by decide) hF)
  exact h

theorem regionOn_leaves {F : Foot} {a₀ : State} {s : State} {r : Nat} (h : F.leaves a₀ s) (hF : Foot.le ⟨0x10000, [], [.spad, .mem]⟩ F = true) (r0 : F.covers (0x2340 + r)) :
    F.leaves a₀ (regionOn s r) := by
  unfold regionOn
  refine Foot.ite_leaves ?_ ?_
  · exact h
  · refine regionZero_leaves ?_ (Foot.le_trans (by decide) hF) r0
    refine set_leaves ?_ (Foot.rec_key r0)
    exact h

theorem regionOff_leaves {F : Foot} {a₀ : State} {s : State} {r : Nat} (h : F.leaves a₀ s) (hF : Foot.le ⟨0x10000, [], []⟩ F = true) (r0 : F.covers (0x2340 + r)) :
    F.leaves a₀ (regionOff s r) := by
  unfold regionOff
  refine set_leaves ?_ (Foot.rec_key r0)
  refine set_leaves ?_ (Foot.rec_key r0)
  exact h

theorem syncRing_leaves {F : Foot} {a₀ : State} {s : State} {r : Nat} (h : F.leaves a₀ s) (hF : Foot.le ⟨0x10000, [], [.spad, .mem]⟩ F = true) (r0 : F.covers (0x2380 + r)) :
    F.leaves a₀ (syncRing s r) := by
  unfold syncRing
  extract_lets +onlyGivenNames -merge -useContext -underBinder y0
  try clear_value y0
  refine ringMirror_leaves ?_ (Foot.le_trans (by decide) hF)
  refine setBits_leaves ?_ (Foot.rec_key r0)
  exact h

theorem ringOn_leaves {F : Foot} {a₀ : State} {s : State} {r : Nat} (h : F.leaves a₀ s) (hF : Foot.le ⟨0x10000, [], [.spad, .mem]⟩ F = true) (r0 : F.covers (0x2380 + r)) :
    F.leaves a₀ (ringOn s r) := by
  unfold ringOn
  refine Foot.ite_leaves ?_ ?_
  · exact h
  · extract_lets +onlyGivenNames -merge -useContext -underBinder y0
    have h0 : F.leaves a₀ y0 := by
      refine set_leaves ?_ (Foot.rec_key r0)
      refine set_leaves ?_ (Foot.rec_key r0)
      refine set_leaves ?_ (Foot.rec_key r0)
      exact h
    try clear_value y0
    refine syncRing_leaves ?_ (Foot.le_trans (by decide) hF) r0
    refine set_leaves ?_ (Foot.rec_key r0)
    refine set_leaves ?_ (Foot.rec_key r0)
    exact h0

theorem setRingQ_leaves {F : Foot} {a₀ : State} {s : State} {r : Nat} {q : List (Tick × List Nat)} (h : F.leaves a₀ s) (hF : Foot.le ⟨0x10000, [], [.mem]⟩ F = true) :
    F.leaves a₀ (setRingQ s r q) := by
  unfold setRingQ
  refine modMem_leaves ?_ (Foot.le_trans (by decide) hF)
  exact h

theorem ringOff_leaves {F : Foot} {a₀ : State} {s : State} {r : Nat} (h : F.leaves a₀ s) (hF : Foot.le ⟨0x10000, [], [.groups, .spad, .mem]⟩ F = true) (r0 : F.covers (0x2380 + r)) :
    F.leaves a₀ (ringOff s r) := by
  unfold ringOff
  extract_lets +onlyGivenNames -merge -useContext -underBinder y0
  have h0 : F.leaves a₀ y0 := by
    refine Foot.foldl_leaves ?_ fun z1 i1 h1 => ?_
    · exact h
    · refine dropBlock_leaves ?_ (Foot.le_trans (by decide) hF) r0
      exact h1
  try clear_value y0
  refine syncRing_leaves ?_ (Foot.le_trans (by decide) hF) r0
  refine set_leaves ?_ (Foot.rec_key r0)
  refine setRingQ_leaves ?_ (Foot.le_trans (by decide) hF)
  exact h0

theorem ringPut_leaves {F : Foot} {a₀ : State} {s : State} {r : Nat} {words : List Nat} (h : F.leaves a₀ s) (hF : Foot.le ⟨0x10000, [], [.groups, .spad, .mem]⟩ F = true) (r0 : F.covers (0x2380 + r)) :
    F.leaves a₀ (ringPut s r words) := by
  unfold ringPut
  extract_lets +onlyGivenNames -merge -useContext -underBinder y0
  extract_lets +onlyGivenNames -merge -useContext -underBinder y1
  have h1 : F.leaves a₀ y1 := by
    unfold y1
    split
    · refine spadPutAll_leaves ?_ (Foot.le_trans (by decide) hF)
      exact h
    · exact h
  try clear_value y1
  refine syncRing_leaves ?_ (Foot.le_trans (by decide) hF) r0
  refine blockGone_leaves ?_ (Foot.le_trans (by decide) hF)
  refine set_leaves ?_ (Foot.rec_key r0)
  exact h1

theorem ringAdvance_leaves {F : Foot} {a₀ : State} {s : State} {r : Nat} {key : Nat} (h : F.leaves a₀ s) (hF : Foot.le ⟨0x10000, [], []⟩ F = true) (r0 : F.covers ((key) / 256)) (r1 : F.covers (0x2380 + r)) :
    F.leaves a₀ (ringAdvance s r key) := by
  unfold ringAdvance
  extract_lets +onlyGivenNames -merge -useContext -underBinder y0
  extract_lets +onlyGivenNames -merge -useContext -underBinder y1
  refine Foot.ite_leaves ?_ ?_
  · refine setBit_leaves ?_ (Foot.rec_key r1)
    refine set_leaves ?_ r0
    exact h
  · exact h

theorem ringCommit_leaves {F : Foot} {a₀ : State} {s : State} {r : Nat} (h : F.leaves a₀ s) (hF : Foot.le ⟨0x10000, [], [.groups, .spad, .mem]⟩ F = true) (r0 : F.covers (0x2380 + r)) :
    F.leaves a₀ (ringCommit s r) := by
  unfold ringCommit
  split
  · exact h
  · extract_lets +onlyGivenNames -merge -useContext -underBinder y0
    have h0 : F.leaves a₀ y0 := by
      refine setRingQ_leaves ?_ (Foot.le_trans (by decide) hF)
      exact h
    try clear_value y0
    refine Foot.ite_leaves ?_ ?_
    · refine syncRing_leaves ?_ (Foot.le_trans (by decide) hF) r0
      refine setBit_leaves ?_ (Foot.rec_key r0)
      refine dropBlock_leaves ?_ (Foot.le_trans (by decide) hF) r0
      exact h0
    · extract_lets +onlyGivenNames -merge -useContext -underBinder y1
      have h1 : F.leaves a₀ y1 := by
        refine ringPut_leaves ?_ (Foot.le_trans (by decide) hF) r0
        exact h0
      try clear_value y1
      refine Foot.ite_leaves ?_ ?_
      · extract_lets +onlyGivenNames -merge -useContext -underBinder y2
        have h2 : F.leaves a₀ y2 := by
          refine Foot.ite_leaves ?_ ?_
          · refine ringAdvance_leaves ?_ (Foot.le_trans (by decide) hF) (Foot.rec_key r0) r0
            exact h1
          · exact h1
        try clear_value y2
        refine syncRing_leaves ?_ (Foot.le_trans (by decide) hF) r0
        refine Foot.ite_leaves ?_ ?_
        · refine ringAdvance_leaves ?_ (Foot.le_trans (by decide) hF) (Foot.rec_key r0) r0
          exact h2
        · exact h2
      · exact h1

theorem consSet_leaves {F : Foot} {a₀ : State} {s : State} {r : Nat} {v : Nat} (h : F.leaves a₀ s) (hF : Foot.le ⟨0x10000, [], [.spad, .mem]⟩ F = true) (r0 : F.covers (0x2380 + r)) :
    F.leaves a₀ (consSet s r v) := by
  unfold consSet
  refine syncRing_leaves ?_ (Foot.le_trans (by decide) hF) r0
  refine set_leaves ?_ (Foot.rec_key r0)
  exact h

theorem recTakes_leaves {F : Foot} {a₀ : State} {s : State} {a : Nat} (h : F.leaves a₀ s) (hF : Foot.le ⟨0x2380, [], [.spad, .mem]⟩ F = true) :
    F.leaves a₀ (recTakes s a) := by
  unfold recTakes
  split
  · refine syncRing_leaves ?_ (Foot.le_trans (by decide) hF) (Foot.rec_floor hF (by decide))
    refine set_leaves ?_ (Foot.rec_key (Foot.rec_floor hF (by decide)))
    exact h
  · exact h

theorem wipeTrigger_leaves {F : Foot} {a₀ : State} {s : State} {t : Tick} (h : F.leaves a₀ s) (hF : Foot.le ⟨0x10000, [], [.micro]⟩ F = true) :
    F.leaves a₀ (wipeTrigger s t) := by
  unfold wipeTrigger
  refine Foot.ite_leaves ?_ ?_
  · exact h
  · refine later_leaves ?_ (Foot.le_trans (by decide) hF)
    exact h

theorem wipeStart_leaves {F : Foot} {a₀ : State} {s : State} {t : Tick} (h : F.leaves a₀ s) (hF : Foot.le ⟨0x10000, [0x2300], [.spad, .mem]⟩ F = true) :
    F.leaves a₀ (wipeStart s t) := by
  unfold wipeStart
  extract_lets +onlyGivenNames -merge -useContext -underBinder y0
  have h0 : F.leaves a₀ y0 := by
    refine setBit_leaves ?_ (Foot.rec_const hF (by decide))
    refine spadClear_leaves ?_ (Foot.le_trans (by decide) hF)
    exact h
  try clear_value y0
  refine modMem_leaves ?_ (Foot.le_trans (by decide) hF)
  exact h0

theorem wipeOver_leaves {F : Foot} {a₀ : State} {s : State} (h : F.leaves a₀ s) (hF : Foot.le ⟨0x10000, [0x2300], [.spad, .mem]⟩ F = true) :
    F.leaves a₀ (wipeOver s) := by
  unfold wipeOver
  extract_lets +onlyGivenNames -merge -useContext -underBinder y0
  have h0 : F.leaves a₀ y0 := by
    refine satInc_leaves ?_ (Foot.rec_const hF (by decide))
    refine setBit_leaves ?_ (Foot.rec_const hF (by decide))
    exact h
  try clear_value y0
  extract_lets +onlyGivenNames -merge -useContext -underBinder y1
  try clear_value y1
  refine Foot.foldl_leaves ?_ fun z2 i2 h2 => ?_
  · refine modMem_leaves ?_ (Foot.le_trans (by decide) hF)
    exact h0
  · refine cellWrite_leaves ?_ (Foot.le_trans (by decide) hF)
    exact h2

theorem orLate_leaves {F : Foot} {a₀ : State} {s : State} {x : Late} {eff : State → State} (h : F.leaves a₀ s)
    (hF : Foot.le ⟨0x10000, [], [.mem]⟩ F = true) (he : ∀ z, F.leaves a₀ z → F.leaves a₀ (eff z)) : F.leaves a₀ (orLate s x eff) := by
  unfold orLate
  exact Foot.ite_leaves (modMem_leaves h (Foot.le_trans (by decide) hF)) (he _ h)

theorem eccOne_leaves {F : Foot} {a₀ : State} {s : State} {a : Nat} (h : F.leaves a₀ s) (hF : Foot.le ⟨0x10000, [0x2300], [.mem]⟩ F = true) :
    F.leaves a₀ (eccOne s a) := by
  unfold eccOne
  extract_lets +onlyGivenNames -merge -useContext -underBinder y0
  have h0 : F.leaves a₀ y0 := by
    refine setBit_leaves ?_ (Foot.rec_const hF (by decide))
    refine satInc_leaves ?_ (Foot.rec_const hF (by decide))
    exact h
  try clear_value y0
  refine modMem_leaves ?_ (Foot.le_trans (by decide) hF)
  exact h0

theorem eccTwo_leaves {F : Foot} {a₀ : State} {s : State} {a : Nat} (h : F.leaves a₀ s) (hF : Foot.le ⟨0x10000, [0x2300], [.mem]⟩ F = true) :
    F.leaves a₀ (eccTwo s a) := by
  unfold eccTwo
  extract_lets +onlyGivenNames -merge -useContext -underBinder y0
  have h0 : F.leaves a₀ y0 := by
    refine setBit_leaves ?_ (Foot.rec_const hF (by decide))
    refine set_leaves ?_ (Foot.rec_const hF (by decide))
    refine satInc_leaves ?_ (Foot.rec_const hF (by decide))
    exact h
  try clear_value y0
  refine modMem_leaves ?_ (Foot.le_trans (by decide) hF)
  exact h0

theorem poisonWord_leaves {F : Foot} {a₀ : State} {s : State} {a : Nat} {d : W40} (h : F.leaves a₀ s) (hF : Foot.le ⟨0x10000, [], [.spad, .mem]⟩ F = true) :
    F.leaves a₀ (poisonWord s a d) := by
  unfold poisonWord
  exact { h with
    spad := .inl (Foot.part hF (by decide))
    mem := .inl (Foot.part hF (by decide))
    tables := fun ha => by
      have := h.tables ha
      simp only [tablesOk, Bool.and_eq_true] at *
      exact ⟨this.1, Tab.wf_set _ _ _ _ this.2⟩ }

theorem eccRead_leaves {F : Foot} {a₀ : State} {s : State} {a : Nat} (h : F.leaves a₀ s) (hF : Foot.le ⟨0x10000, [0x2300], [.mem]⟩ F = true) :
    F.leaves a₀ (eccRead s a) := by
  unfold eccRead
  refine Foot.ite_leaves ?_ ?_
  · refine eccTwo_leaves ?_ (Foot.le_trans (by decide) hF)
    exact h
  · refine Foot.ite_leaves ?_ ?_
    · refine eccOne_leaves ?_ (Foot.le_trans (by decide) hF)
      exact h
    · exact h

theorem upset_leaves {F : Foot} {a₀ : State} {s : State} {a : Nat} {u : Upset} (h : F.leaves a₀ s) (hF : Foot.le ⟨0x10000, [], [.spad, .mem]⟩ F = true) :
    F.leaves a₀ (upset s a u) := by
  unfold upset
  refine Foot.ite_leaves ?_ ?_
  · exact h
  · extract_lets +onlyGivenNames -merge -useContext -underBinder y0
    have h0 : F.leaves a₀ y0 := by
      refine Foot.ite_leaves ?_ ?_
      · refine modMem_leaves ?_ (Foot.le_trans (by decide) hF)
        exact h
      · exact h
    try clear_value y0
    split
    · refine Foot.ite_leaves ?_ ?_
      · exact h0
      · refine modMem_leaves ?_ (Foot.le_trans (by decide) hF)
        exact h0
    · refine poisonWord_leaves ?_ (Foot.le_trans (by decide) hF)
      exact h0

theorem spadRead_leaves {F : Foot} {a₀ : State} {s : State} {a : Nat} (h : F.leaves a₀ s) (hF : Foot.le ⟨0x10000, [0x2300], [.mem]⟩ F = true) :
    F.leaves a₀ (spadRead s a).1 := by
  unfold spadRead
  split
  · exact h
  · dsimp only
    refine eccRead_leaves ?_ (Foot.le_trans (by decide) hF)
    exact h

theorem collision_leaves {F : Foot} {a₀ : State} {s : State} {hi : FabReq} {lo : FabReq} (h : F.leaves a₀ s) (hF : Foot.le ⟨0x2300, [], []⟩ F = true) :
    F.leaves a₀ (collision s hi lo) := by
  unfold collision
  extract_lets +onlyGivenNames -merge -useContext -underBinder y0
  have h0 : F.leaves a₀ y0 := by
    refine set_leaves ?_ (Foot.rec_const hF (by decide))
    refine setBit_leaves ?_ (Foot.rec_const hF (by decide))
    exact h
  try clear_value y0
  extract_lets +onlyGivenNames -merge -useContext -underBinder y1
  have h1 : F.leaves a₀ y1 := by
    refine set_leaves ?_ (Foot.rec_const hF (by decide))
    exact h0
  try clear_value y1
  refine satInc_leaves ?_ (by first | exact Foot.rec_constAdd hF (by decide) | exact Foot.rec_floorAdd hF (by decide))
  refine satInc_leaves ?_ (by first | exact Foot.rec_constAdd hF (by decide) | exact Foot.rec_floorAdd hF (by decide))
  exact h1

theorem collisions_leaves {F : Foot} {a₀ : State} {s : State} {l : List FabReq} (h : F.leaves a₀ s) (hF : Foot.le ⟨0x2300, [], []⟩ F = true) :
    F.leaves a₀ (collisions s l) := by
  induction l generalizing s with
  | nil => exact h
  | cons r l ih =>
    exact ih (Foot.foldl_leaves h fun z i hz => collision_leaves hz (Foot.le_trans (by decide) hF))

theorem busErr_leaves {F : Foot} {a₀ : State} {s : State} {m : Nat} {bad : Bool} (h : F.leaves a₀ s) (hF : Foot.le ⟨0x10000, [], [.tx]⟩ F = true) :
    F.leaves a₀ (busErr s m bad) := by
  unfold busErr
  refine Foot.ite_leaves ?_ ?_
  · refine out_leaves ?_ (Foot.le_trans (by decide) hF)
    exact h
  · exact h

theorem fabModify_leaves {F : Foot} {a₀ : State} {s : State} {r : FabReq} (h : F.leaves a₀ s) (hF : Foot.le ⟨0x10000, [0x2300], [.spad, .mem, .tx]⟩ F = true) :
    F.leaves a₀ (fabModify s r) := by
  unfold fabModify
  refine Foot.ite_leaves ?_ ?_
  · refine spadPut_leaves ?_ (Foot.le_trans (by decide) hF)
    exact h
  · extract_lets +onlyGivenNames -merge -useContext -underBinder y0
    have h0 : F.leaves a₀ y0 := by
      refine eccRead_leaves ?_ (Foot.le_trans (by decide) hF)
      exact h
    try clear_value y0
    extract_lets +onlyGivenNames -merge -useContext -underBinder y1
    try clear_value y1
    extract_lets +onlyGivenNames -merge -useContext -underBinder y2
    try clear_value y2
    extract_lets +onlyGivenNames -merge -useContext -underBinder y3
    have h3 : F.leaves a₀ y3 := by
      refine busErr_leaves ?_ (Foot.le_trans (by decide) hF)
      refine out_leaves ?_ (Foot.le_trans (by decide) hF)
      exact h0
    try clear_value y3
    refine Foot.ite_leaves ?_ ?_
    · refine poisonWord_leaves ?_ (Foot.le_trans (by decide) hF)
      exact h3
    · refine spadPut_leaves ?_ (Foot.le_trans (by decide) hF)
      exact h3

theorem fabRead_leaves {F : Foot} {a₀ : State} {s : State} {r : FabReq} (h : F.leaves a₀ s) (hF : Foot.le ⟨0x2380, [0x2300], [.spad, .mem, .tx]⟩ F = true) :
    F.leaves a₀ (fabRead s r) := by
  unfold fabRead
  extract_lets +onlyGivenNames -merge -useContext -underBinder y0
  have h0 : F.leaves a₀ y0 := by
    refine eccRead_leaves ?_ (Foot.le_trans (by decide) hF)
    exact h
  try clear_value y0
  extract_lets +onlyGivenNames -merge -useContext -underBinder y1
  try clear_value y1
  extract_lets +onlyGivenNames -merge -useContext -underBinder y2
  have h2 : F.leaves a₀ y2 := by
    refine busErr_leaves ?_ (Foot.le_trans (by decide) hF)
    refine out_leaves ?_ (Foot.le_trans (by decide) hF)
    exact h0
  try clear_value y2
  extract_lets +onlyGivenNames -merge -useContext -underBinder y3
  have h3 : F.leaves a₀ y3 := by
    refine Foot.ite_leaves ?_ ?_
    · refine recTakes_leaves ?_ (Foot.le_trans (by decide) hF)
      exact h2
    · exact h2
  try clear_value y3
  refine Foot.ite_leaves ?_ ?_
  · extract_lets +onlyGivenNames -merge -useContext -underBinder y4
    extract_lets +onlyGivenNames -merge -useContext -underBinder y5
    have h5 : F.leaves a₀ y5 := by
      unfold y5
      split
      · refine pointRewrite_leaves ?_ (Foot.le_trans (by decide) hF)
        exact h3
      · exact h3
    try clear_value y5
    refine modMem_leaves ?_ (Foot.le_trans (by decide) hF)
    exact h5
  · exact h3

theorem fabRefused_leaves {F : Foot} {a₀ : State} {s : State} {r : FabReq} (h : F.leaves a₀ s) (hF : Foot.le ⟨0x10000, [0x2300], [.tx]⟩ F = true) :
    F.leaves a₀ (fabRefused s r) := by
  unfold fabRefused
  refine Foot.ite_leaves ?_ ?_
  · extract_lets +onlyGivenNames -merge -useContext -underBinder y0
    have h0 : F.leaves a₀ y0 := by
      refine sapViol_leaves ?_ (Foot.le_trans (by decide) hF)
      exact h
    try clear_value y0
    refine Foot.ite_leaves ?_ ?_
    · refine out_leaves ?_ (Foot.le_trans (by decide) hF)
      exact h0
    · exact h0
  · exact h

theorem fabPerform_leaves {F : Foot} {a₀ : State} {s : State} {l : List FabReq} (h : F.leaves a₀ s) (hF : Foot.le ⟨0x2300, [], [.spad, .mem, .tx]⟩ F = true) :
    F.leaves a₀ (fabPerform s l) := by
  unfold fabPerform
  extract_lets +onlyGivenNames -merge -useContext -underBinder y0
  try clear_value y0
  extract_lets +onlyGivenNames -merge -useContext -underBinder y1
  try clear_value y1
  extract_lets +onlyGivenNames -merge -useContext -underBinder y2
  have h2 : F.leaves a₀ y2 := by
    refine Foot.foldl_leaves ?_ fun z3 i3 h3 => ?_
    · exact h
    · refine fabRefused_leaves ?_ (Foot.le_trans (by decide) hF)
      exact h3
  try clear_value y2
  extract_lets +onlyGivenNames -merge -useContext -underBinder y4
  have h4 : F.leaves a₀ y4 := by
    refine collisions_leaves ?_ (Foot.le_trans (by decide) hF)
    exact h2
  try clear_value y4
  extract_lets +onlyGivenNames -merge -useContext -underBinder y5
  have h5 : F.leaves a₀ y5 := by
    refine Foot.foldl_leaves ?_ fun z6 i6 h6 => ?_
    · exact h4
    · refine fabModify_leaves ?_ (Foot.le_trans (by decide) hF)
      exact h6
  try clear_value y5
  refine Foot.foldl_leaves ?_ fun z7 i7 h7 => ?_
  · exact h5
  · refine fabRead_leaves ?_ (Foot.le_trans (by decide) hF)
    exact h7

theorem conflicts_leaves {F : Foot} {a₀ : State} {s : State} {T : Tick} {g : List FabReq} {l : List FabReq} (h : F.leaves a₀ s) (hF : Foot.le ⟨0x2300, [], []⟩ F = true) :
    F.leaves a₀ (conflicts s T g l) := by
  unfold conflicts
  extract_lets +onlyGivenNames -merge -useContext -underBinder y0
  try clear_value y0
  refine Foot.foldl_leaves ?_ fun z1 i1 h1 => ?_
  · exact h
  · refine satInc_leaves ?_ (by first | exact Foot.rec_constAdd hF (by decide) | exact Foot.rec_floorAdd hF (by decide))
    exact h1

theorem fabCycle_leaves {F : Foot} {a₀ : State} {s : State} {T : Tick} (h : F.leaves a₀ s) (hF : Foot.le ⟨0x2300, [], [.micro, .spad, .mem, .tx]⟩ F = true) :
    F.leaves a₀ (fabCycle s T) := by
  unfold fabCycle
  refine Foot.ite_leaves ?_ ?_
  · refine later_leaves ?_ (Foot.le_trans (by decide) hF)
    exact h
  · refine Foot.ite_leaves ?_ ?_
    · exact h
    · extract_lets +onlyGivenNames -merge -useContext -underBinder y0
      try clear_value y0
      extract_lets +onlyGivenNames -merge -useContext -underBinder y1
      try clear_value y1
      extract_lets +onlyGivenNames -merge -useContext -underBinder y2
      have h2 : F.leaves a₀ y2 := by
        refine modMem_leaves ?_ (Foot.le_trans (by decide) hF)
        exact h
      try clear_value y2
      extract_lets +onlyGivenNames -merge -useContext -underBinder y3
      have h3 : F.leaves a₀ y3 := by
        refine conflicts_leaves ?_ (Foot.le_trans (by decide) hF)
        exact h2
      try clear_value y3
      extract_lets +onlyGivenNames -merge -useContext -underBinder y4
      have h4 : F.leaves a₀ y4 := by
        refine fabPerform_leaves ?_ (Foot.le_trans (by decide) hF)
        exact h3
      try clear_value y4
      refine Foot.ite_leaves ?_ ?_
      · exact h4
      · refine later_leaves ?_ (Foot.le_trans (by decide) hF)
        exact h4

theorem fabRequest_leaves {F : Foot} {a₀ : State} {s : State} {rs : List FabReq} (h : F.leaves a₀ s) (hF : Foot.le ⟨0x10000, [], [.mem]⟩ F = true) :
    F.leaves a₀ (fabRequest s rs) := by
  unfold fabRequest
  refine Foot.foldl_leaves ?_ fun z0 i0 h0 => ?_
  · exact h
  · refine Foot.ite_leaves ?_ ?_
    · exact h0
    · refine modMem_leaves ?_ (Foot.le_trans (by decide) hF)
      exact h0

theorem fabAccess_leaves {F : Foot} {a₀ : State} {s : State} {rs : List FabReq} {t : Tick} (h : F.leaves a₀ s) (hF : Foot.le ⟨0x2300, [], [.micro, .spad, .mem, .tx]⟩ F = true) :
    F.leaves a₀ (fabAccess s rs t) := by
  unfold fabAccess
  extract_lets +onlyGivenNames -merge -useContext -underBinder y0
  have h0 : F.leaves a₀ y0 := by
    refine fabRequest_leaves ?_ (Foot.le_trans (by decide) hF)
    exact h
  try clear_value y0
  extract_lets +onlyGivenNames -merge -useContext -underBinder y1
  try clear_value y1
  refine Foot.ite_leaves ?_ ?_
  · exact h0
  · refine Foot.ite_leaves ?_ ?_
    · refine fabCycle_leaves ?_ (Foot.le_trans (by decide) hF)
      exact h0
    · refine later_leaves ?_ (Foot.le_trans (by decide) hF)
      exact h0

theorem setBank_leaves {F : Foot} {a₀ : State} {s : State} {b : Nat} {k : Nat} (h : F.leaves a₀ s) (hF : Foot.le ⟨0x10000, [], [.blobs]⟩ F = true) :
    F.leaves a₀ (setBank s b k) := by
  unfold setBank
  refine setBlob_leaves ?_ (Foot.le_trans (by decide) hF)
  exact h

theorem syncBt_leaves {F : Foot} {a₀ : State} {s : State} (h : F.leaves a₀ s) (hF : Foot.le ⟨0x10000, [0x2300], []⟩ F = true) :
    F.leaves a₀ (syncBt s) := by
  unfold syncBt
  extract_lets +onlyGivenNames -merge -useContext -underBinder y0
  try clear_value y0
  extract_lets +onlyGivenNames -merge -useContext -underBinder y1
  have h1 : F.leaves a₀ y1 := by
    refine setBits_leaves ?_ (Foot.rec_const hF (by decide))
    exact h
  try clear_value y1
  refine Foot.ite_leaves ?_ ?_
  · exact h1
  · refine set_leaves ?_ (Foot.rec_const hF (by decide))
    exact h1

theorem borrowStart_leaves {F : Foot} {a₀ : State} {s : State} {t : Tick} (h : F.leaves a₀ s) (hF : Foot.le ⟨0x10000, [0x2300], [.mem]⟩ F = true) :
    F.leaves a₀ (borrowStart s t) := by
  unfold borrowStart
  refine Foot.ite_leaves ?_ ?_
  · split
    · exact h
    · split
      · extract_lets +onlyGivenNames -merge -useContext -underBinder y0
        have h0 : F.leaves a₀ y0 := by
          refine modMem_leaves ?_ (Foot.le_trans (by decide) hF)
          exact h
        try clear_value y0
        extract_lets +onlyGivenNames -merge -useContext -underBinder y1
        have h1 : F.leaves a₀ y1 := by
          refine set_leaves ?_ (Foot.rec_const hF (by decide))
          refine set_leaves ?_ (Foot.rec_const hF (by decide))
          refine set_leaves ?_ (Foot.rec_const hF (by decide))
          exact h0
        try clear_value y1
        refine syncBt_leaves ?_ (Foot.le_trans (by decide) hF)
        refine setBit_leaves ?_ (Foot.rec_const hF (by decide))
        exact h1
  · exact h

theorem bgTo_leaves {F : Foot} {a₀ : State} {s : State} {t : Tick} (h : F.leaves a₀ s) (hF : Foot.le ⟨0x10000, [0x2300], [.mem]⟩ F = true) :
    F.leaves a₀ (bgTo s t) := by
  unfold bgTo
  refine Foot.ite_leaves ?_ ?_
  · exact h
  · extract_lets +onlyGivenNames -merge -useContext -underBinder y0
    try clear_value y0
    extract_lets +onlyGivenNames -merge -useContext -underBinder y1
    try clear_value y1
    extract_lets +onlyGivenNames -merge -useContext -underBinder y2
    try clear_value y2
    extract_lets +onlyGivenNames -merge -useContext -underBinder y3
    have h3 : F.leaves a₀ y3 := by
      refine Foot.foldl_leaves ?_ fun z4 i4 h4 => ?_
      · exact h
      · refine modMem_leaves ?_ (Foot.le_trans (by decide) hF)
        refine eccOne_leaves ?_ (Foot.le_trans (by decide) hF)
        exact h4
    try clear_value y3
    extract_lets +onlyGivenNames -merge -useContext -underBinder y5
    have h5 : F.leaves a₀ y5 := by
      refine Foot.foldl_leaves ?_ fun z6 i6 h6 => ?_
      · exact h3
      · refine satInc_leaves ?_ (Foot.rec_const hF (by decide))
        refine eccTwo_leaves ?_ (Foot.le_trans (by decide) hF)
        exact h6
    try clear_value y5
    refine modMem_leaves ?_ (Foot.le_trans (by decide) hF)
    exact h5

theorem copyEnd_leaves {F : Foot} {a₀ : State} {s : State} (h : F.leaves a₀ s) (hF : Foot.le ⟨0x10000, [0x2300], [.blobs, .mem]⟩ F = true) :
    F.leaves a₀ (copyEnd s) := by
  unfold copyEnd
  extract_lets +onlyGivenNames -merge -useContext -underBinder y0
  extract_lets +onlyGivenNames -merge -useContext -underBinder y1
  have h1 : F.leaves a₀ y1 := by
    refine modMem_leaves ?_ (Foot.le_trans (by decide) hF)
    exact h
  try clear_value y1
  extract_lets +onlyGivenNames -merge -useContext -underBinder y2
  have h2 : F.leaves a₀ y2 := by
    refine setBank_leaves ?_ (Foot.le_trans (by decide) hF)
    exact h1
  try clear_value y2
  refine modMem_leaves ?_ (Foot.le_trans (by decide) hF)
  refine set_leaves ?_ (Foot.rec_const hF (by decide))
  exact h2

theorem borrowOver_leaves {F : Foot} {a₀ : State} {s : State} (h : F.leaves a₀ s) (hF : Foot.le ⟨0x10000, [0x2300], []⟩ F = true) :
    F.leaves a₀ (borrowOver s) := by
  unfold borrowOver
  refine syncBt_leaves ?_ (Foot.le_trans (by decide) hF)
  refine set_leaves ?_ (Foot.rec_const hF (by decide))
  refine set_leaves ?_ (Foot.rec_const hF (by decide))
  refine set_leaves ?_ (Foot.rec_const hF (by decide))
  exact h

theorem testEnd_leaves {F : Foot} {a₀ : State} {s : State} {pass : Bool} {t : Tick} (h : F.leaves a₀ s) (hF : Foot.le ⟨0x10000, [0x2300, 0x9000], [.blobs, .mem, .nv]⟩ F = true) :
    F.leaves a₀ (testEnd s pass t) := by
  unfold testEnd
  refine Foot.ite_leaves ?_ ?_
  · refine modMem_leaves ?_ (Foot.le_trans (by decide) hF)
    refine set_leaves ?_ (Foot.rec_const hF (by decide))
    exact h
  · extract_lets +onlyGivenNames -merge -useContext -underBinder y0
    extract_lets +onlyGivenNames -merge -useContext -underBinder y1
    extract_lets +onlyGivenNames -merge -useContext -underBinder y2
    refine garnet_leaves ?_ (Foot.le_trans (by decide) hF)
    refine borrowOver_leaves ?_ (Foot.le_trans (by decide) hF)
    refine setBit_leaves ?_ (Foot.rec_const hF (by decide))
    exact h

theorem writebackEnd_leaves {F : Foot} {a₀ : State} {s : State} (h : F.leaves a₀ s) (hF : Foot.le ⟨0x10000, [0x2300], [.blobs, .mem]⟩ F = true) :
    F.leaves a₀ (writebackEnd s) := by
  unfold writebackEnd
  extract_lets +onlyGivenNames -merge -useContext -underBinder y0
  extract_lets +onlyGivenNames -merge -useContext -underBinder y1
  have h1 : F.leaves a₀ y1 := by
    refine modMem_leaves ?_ (Foot.le_trans (by decide) hF)
    exact h
  try clear_value y1
  extract_lets +onlyGivenNames -merge -useContext -underBinder y2
  have h2 : F.leaves a₀ y2 := by
    refine setBit_leaves ?_ (Foot.rec_const hF (by decide))
    refine setBank_leaves ?_ (Foot.le_trans (by decide) hF)
    exact h1
  try clear_value y2
  extract_lets +onlyGivenNames -merge -useContext -underBinder y3
  have h3 : F.leaves a₀ y3 := by
    refine when_leaves ?_ fun z4 h4 => ?_
    · exact h2
    · refine wrapInc_leaves ?_ (Foot.rec_const hF (by decide))
      exact h4
  try clear_value y3
  refine borrowOver_leaves ?_ (Foot.le_trans (by decide) hF)
  exact h3

/-! ### NetBase -/

theorem occupy_leaves {F : Foot} {a₀ : State} {s : State} {n : Nat} {port : Nat} (h : F.leaves a₀ s) (hF : Foot.le ⟨0x10000, [], [.net]⟩ F = true) :
    F.leaves a₀ (occupy s n port) := by
  unfold occupy
  extract_lets +onlyGivenNames -merge -useContext -underBinder y0
  try clear_value y0
  exact { h with net := .inl (Foot.part hF (by decide)) }

theorem occupyLink_leaves {F : Foot} {a₀ : State} {s : State} {n : Nat} {port : Nat} (h : F.leaves a₀ s) (hF : Foot.le ⟨0x10000, [], [.net]⟩ F = true) :
    F.leaves a₀ (occupyLink s n port) := by
  unfold occupyLink
  refine when_leaves ?_ fun z0 h0 => ?_
  · exact h
  · refine occupy_leaves ?_ (Foot.le_trans (by decide) hF)
    exact h0

theorem copSend_leaves {F : Foot} {a₀ : State} {s : State} {peer : Peer} {own : Bool} {m : List Byte} (h : F.leaves a₀ s) (hF : Foot.le ⟨0x10000, [], [.net, .tx]⟩ F = true) :
    F.leaves a₀ (copSend s peer own m) := by
  unfold copSend
  split
  · refine when_leaves ?_ fun z0 h0 => ?_
    · exact h
    · refine Foot.foldl_leaves ?_ fun z1 i1 h1 => ?_
      · exact h0
      · refine out_leaves ?_ (Foot.le_trans (by decide) hF)
        exact h1
  · refine out_leaves ?_ (Foot.le_trans (by decide) hF)
    refine occupyLink_leaves ?_ (Foot.le_trans (by decide) hF)
    refine occupyLink_leaves ?_ (Foot.le_trans (by decide) hF)
    exact h
  · refine out_leaves ?_ (Foot.le_trans (by decide) hF)
    refine occupyLink_leaves ?_ (Foot.le_trans (by decide) hF)
    refine occupyLink_leaves ?_ (Foot.le_trans (by decide) hF)
    exact h

theorem sessSend_leaves {F : Foot} {a₀ : State} {s : State} {k : Nat} {typ : Nat} {flags : Nat} {reqId : Nat} {own : Bool} {body : List Byte} (h : F.leaves a₀ s) (hF : Foot.le ⟨0x10000, [], [.net, .tx]⟩ F = true) :
    F.leaves a₀ (sessSend s k typ flags reqId own body) := by
  unfold sessSend
  split
  · exact h
  · extract_lets +onlyGivenNames -merge -useContext -underBinder y0
    try clear_value y0
    refine copSend_leaves ?_ (Foot.le_trans (by decide) hF)
    refine setSession_leaves ?_ (Foot.le_trans (by decide) hF)
    exact h

theorem sessDrop_leaves {F : Foot} {a₀ : State} {s : State} {k : Nat} (h : F.leaves a₀ s) (hF : Foot.le ⟨0x10000, [], [.groups, .net]⟩ F = true) (r0 : F.covers (0x1220 + k)) :
    F.leaves a₀ (sessDrop s k) := by
  unfold sessDrop
  refine forgetOrigin_leaves ?_ (Foot.le_trans (by decide) hF)
  refine set_leaves ?_ (Foot.rec_key r0)
  refine set_leaves ?_ (Foot.rec_key r0)
  refine setSession_leaves ?_ (Foot.le_trans (by decide) hF)
  exact h

theorem sessClose_leaves {F : Foot} {a₀ : State} {s : State} {k : Nat} (h : F.leaves a₀ s) (hF : Foot.le ⟨0x10000, [], [.groups, .net, .tx]⟩ F = true) (r0 : F.covers (0x1220 + k)) :
    F.leaves a₀ (sessClose s k) := by
  unfold sessClose
  split
  · exact h
  · refine sessDrop_leaves ?_ (Foot.le_trans (by decide) hF) r0
    refine sessSend_leaves ?_ (Foot.le_trans (by decide) hF)
    exact h

theorem sessCloseAll_leaves {F : Foot} {a₀ : State} {s : State} (h : F.leaves a₀ s) (hF : Foot.le ⟨0x1220, [], [.groups, .net, .tx]⟩ F = true) :
    F.leaves a₀ (sessCloseAll s) := by
  unfold sessCloseAll
  refine Foot.foldl_leaves ?_ fun z0 i0 h0 => ?_
  · exact h
  · refine sessClose_leaves ?_ (Foot.le_trans (by decide) hF) (Foot.rec_floor hF (by decide))
    exact h0

theorem notifySend_leaves {F : Foot} {a₀ : State} {s : State} {k : Nat} {t : Tick} (h : F.leaves a₀ s) (hF : Foot.le ⟨0x10000, [], [.net, .tx]⟩ F = true) :
    F.leaves a₀ (notifySend s k t) := by
  unfold notifySend
  split
  · exact h
  · extract_lets +onlyGivenNames -merge -useContext -underBinder y0
    try clear_value y0
    refine Foot.ite_leaves ?_ ?_
    · exact h
    · extract_lets +onlyGivenNames -merge -useContext -underBinder y1
      try clear_value y1
      extract_lets +onlyGivenNames -merge -useContext -underBinder y2
      have h2 : F.leaves a₀ y2 := by
        refine setSession_leaves ?_ (Foot.le_trans (by decide) hF)
        exact h
      try clear_value y2
      refine sessSend_leaves ?_ (Foot.le_trans (by decide) hF)
      exact h2

theorem notifyFlush_leaves {F : Foot} {a₀ : State} {s : State} {t : Tick} (h : F.leaves a₀ s) (hF : Foot.le ⟨0x10000, [], [.net, .tx]⟩ F = true) :
    F.leaves a₀ (notifyFlush s t) := by
  unfold notifyFlush
  refine Foot.foldl_leaves ?_ fun z0 i0 h0 => ?_
  · exact h
  · refine Foot.ite_leaves ?_ ?_
    · refine notifySend_leaves ?_ (Foot.le_trans (by decide) hF)
      exact h0
    · exact h0

/-! ### PcieBase -/

theorem modFn_leaves {F : Foot} {a₀ : State} {s : State} {f : Nat} {g : FnX → FnX} (h : F.leaves a₀ s) (hF : Foot.le ⟨0x10000, [], [.pcie]⟩ F = true) :
    F.leaves a₀ (modFn s f g) := by
  unfold modFn
  exact { h with pcie := .inl (Foot.part hF (by decide)) }

theorem modMb_leaves {F : Foot} {a₀ : State} {s : State} {f : Nat} {g : Mbox → Mbox} (h : F.leaves a₀ s) (hF : Foot.le ⟨0x10000, [], [.pcie]⟩ F = true) :
    F.leaves a₀ (modMb s f g) := by
  unfold modMb
  refine modFn_leaves ?_ (Foot.le_trans (by decide) hF)
  exact h

theorem modDm_leaves {F : Foot} {a₀ : State} {s : State} {r : Nat} {g : DmaX → DmaX} (h : F.leaves a₀ s) (hF : Foot.le ⟨0x10000, [], [.pcie]⟩ F = true) :
    F.leaves a₀ (modDm s r g) := by
  unfold modDm
  exact { h with pcie := .inl (Foot.part hF (by decide)) }

theorem vecSend_leaves {F : Foot} {a₀ : State} {s : State} {f : Nat} {v : Nat} {t : Tick} (h : F.leaves a₀ s) (hF : Foot.le ⟨0x10000, [], [.pcie, .tx]⟩ F = true) :
    F.leaves a₀ (vecSend s f v t) := by
  unfold vecSend
  extract_lets +onlyGivenNames -merge -useContext -underBinder y0
  try clear_value y0
  refine Foot.ite_leaves ?_ ?_
  · refine modFn_leaves ?_ (Foot.le_trans (by decide) hF)
    exact h
  · refine Foot.ite_leaves ?_ ?_
    · refine modFn_leaves ?_ (Foot.le_trans (by decide) hF)
      exact h
    · refine out_leaves ?_ (Foot.le_trans (by decide) hF)
      refine modFn_leaves ?_ (Foot.le_trans (by decide) hF)
      exact h

theorem raise_leaves {F : Foot} {a₀ : State} {s : State} {f : Nat} {v : Nat} {t : Tick} (h : F.leaves a₀ s) (hF : Foot.le ⟨0x10000, [], [.pcie, .tx]⟩ F = true) :
    F.leaves a₀ (raise s f v t) := by
  unfold raise
  refine Foot.ite_leaves ?_ ?_
  · refine vecSend_leaves ?_ (Foot.le_trans (by decide) hF)
    exact h
  · exact h

theorem raiseErr_leaves {F : Foot} {a₀ : State} {s : State} {f : Nat} {t : Tick} (h : F.leaves a₀ s) (hF : Foot.le ⟨0x10000, [], [.pcie, .tx]⟩ F = true) :
    F.leaves a₀ (raiseErr s f t) := by
  unfold raiseErr
  refine raise_leaves ?_ (Foot.le_trans (by decide) hF)
  exact h

theorem urCount_leaves {F : Foot} {a₀ : State} {s : State} (h : F.leaves a₀ s) (hF : Foot.le ⟨0x10000, [0x1100], []⟩ F = true) :
    F.leaves a₀ (urCount s) := by
  unfold urCount
  refine satInc_leaves ?_ (Foot.rec_const hF (by decide))
  exact h

theorem answerUR_leaves {F : Foot} {a₀ : State} {s : State} {f : Nat} (h : F.leaves a₀ s) (hF : Foot.le ⟨0x10000, [0x1100], [.tx]⟩ F = true) :
    F.leaves a₀ (answerUR s f) := by
  unfold answerUR
  refine out_leaves ?_ (Foot.le_trans (by decide) hF)
  refine urCount_leaves ?_ (Foot.le_trans (by decide) hF)
  exact h

theorem syncDma_leaves {F : Foot} {a₀ : State} {s : State} {r : Nat} (h : F.leaves a₀ s) (hF : Foot.le ⟨0x10000, [], []⟩ F = true) (r0 : F.covers (0x1110 + r)) :
    F.leaves a₀ (syncDma s r) := by
  unfold syncDma
  extract_lets +onlyGivenNames -merge -useContext -underBinder y0
  try clear_value y0
  extract_lets +onlyGivenNames -merge -useContext -underBinder y1
  try clear_value y1
  refine setBits_leaves ?_ (Foot.rec_key r0)
  exact h

theorem descBack_leaves {F : Foot} {a₀ : State} {s : State} {r : Nat} {short : Bool} {abandoned : Bool} {f : Nat} {t : Tick} (h : F.leaves a₀ s) (hF : Foot.le ⟨0x10000, [], [.pcie, .tx]⟩ F = true) (r0 : F.covers (0x1110 + r)) :
    F.leaves a₀ (descBack s r short abandoned f t) := by
  unfold descBack
  extract_lets +onlyGivenNames -merge -useContext -underBinder y0
  try clear_value y0
  extract_lets +onlyGivenNames -merge -useContext -underBinder y1
  extract_lets +onlyGivenNames -merge -useContext -underBinder y2
  extract_lets +onlyGivenNames -merge -useContext -underBinder y3
  have h3 : F.leaves a₀ y3 := by
    refine out_leaves ?_ (Foot.le_trans (by decide) hF)
    exact h
  try clear_value y3
  extract_lets +onlyGivenNames -merge -useContext -underBinder y4
  have h4 : F.leaves a₀ y4 := by
    refine set_leaves ?_ (Foot.rec_key r0)
    refine modDm_leaves ?_ (Foot.le_trans (by decide) hF)
    exact h3
  try clear_value y4
  refine when_leaves ?_ fun z5 h5 => ?_
  · exact h4
  · refine raise_leaves ?_ (Foot.le_trans (by decide) hF)
    exact h5

theorem dmaStop_leaves {F : Foot} {a₀ : State} {s : State} {r : Nat} {f : Nat} {how : DmaStop} {t : Tick} (h : F.leaves a₀ s) (hF : Foot.le ⟨0x10000, [], [.pcie, .tx]⟩ F = true) (r0 : F.covers (0x1110 + r)) :
    F.leaves a₀ (dmaStop s r f how t) := by
  unfold dmaStop
  refine Foot.ite_leaves ?_ ?_
  · exact h
  · extract_lets +onlyGivenNames -merge -useContext -underBinder y0
    have h0 : F.leaves a₀ y0 := by
      refine set_leaves ?_ (Foot.rec_key r0)
      exact h
    try clear_value y0
    extract_lets +onlyGivenNames -merge -useContext -underBinder y1
    have h1 : F.leaves a₀ y1 := by
      unfold y1
      split
      · refine setBit_leaves ?_ (Foot.rec_key r0)
        refine modDm_leaves ?_ (Foot.le_trans (by decide) hF)
        exact h0
      · refine raiseErr_leaves ?_ (Foot.le_trans (by decide) hF)
        refine setBit_leaves ?_ (Foot.rec_key r0)
        exact h0
      · refine Foot.ite_leaves ?_ ?_
        · refine descBack_leaves ?_ (Foot.le_trans (by decide) hF) r0
          exact h0
        · exact h0
      · extract_lets +onlyGivenNames -merge -useContext -underBinder y2
        have h2 : F.leaves a₀ y2 := by
          refine Foot.ite_leaves ?_ ?_
          · refine descBack_leaves ?_ (Foot.le_trans (by decide) hF) r0
            exact h0
          · exact h0
        try clear_value y2
        refine raiseErr_leaves ?_ (Foot.le_trans (by decide) hF)
        refine setBit_leaves ?_ (Foot.rec_key r0)
        exact h2
    try clear_value y1
    refine syncDma_leaves ?_ (Foot.le_trans (by decide) hF) r0
    exact h1

theorem fnReset_leaves {F : Foot} {a₀ : State} {s : State} {f : Nat} {t : Tick} (h : F.leaves a₀ s) (hF : Foot.le ⟨0x1110, [], [.groups, .mem, .pcie, .tx]⟩ F = true) :
    F.leaves a₀ (fnReset s f t) := by
  unfold fnReset
  extract_lets +onlyGivenNames -merge -useContext -underBinder y0
  have h0 : F.leaves a₀ y0 := by
    refine Foot.foldl_leaves ?_ fun z1 i1 h1 => ?_
    · exact h
    · refine dmaStop_leaves ?_ (Foot.le_trans (by decide) hF) (Foot.rec_floor hF (by decide))
      exact h1
  try clear_value y0
  extract_lets +onlyGivenNames -merge -useContext -underBinder y2
  have h2 : F.leaves a₀ y2 := by
    refine Foot.foldl_leaves ?_ fun z3 i3 h3 => ?_
    · exact h0
    · refine Foot.ite_leaves ?_ ?_
      · refine modDm_leaves ?_ (Foot.le_trans (by decide) hF)
        exact h3
      · exact h3
  try clear_value y2
  extract_lets +onlyGivenNames -merge -useContext -underBinder y4
  have h4 : F.leaves a₀ y4 := by
    refine modMem_leaves ?_ (Foot.le_trans (by decide) hF)
    exact h2
  try clear_value y4
  extract_lets +onlyGivenNames -merge -useContext -underBinder y5
  have h5 : F.leaves a₀ y5 := by
    refine forgetOrigin_leaves ?_ (Foot.le_trans (by decide) hF)
    refine modFn_leaves ?_ (Foot.le_trans (by decide) hF)
    exact h4
  try clear_value y5
  refine set_leaves ?_ (Foot.rec_key (Foot.rec_floor hF (by decide)))
  exact h5

theorem vfOff_leaves {F : Foot} {a₀ : State} {s : State} {t : Tick} (h : F.leaves a₀ s) (hF : Foot.le ⟨0x1110, [0x1100], [.groups, .mem, .pcie, .tx]⟩ F = true) :
    F.leaves a₀ (vfOff s t) := by
  unfold vfOff
  refine set_leaves ?_ (Foot.rec_const hF (by decide))
  refine Foot.foldl_leaves ?_ fun z0 i0 h0 => ?_
  · exact h
  · refine fnReset_leaves ?_ (Foot.le_trans (by decide) hF)
    exact h0

theorem pcieDown_leaves {F : Foot} {a₀ : State} {s : State} {t : Tick} (h : F.leaves a₀ s) (hF : Foot.le ⟨0x1110, [0x1100], [.groups, .mem, .pcie, .tx]⟩ F = true) :
    F.leaves a₀ (pcieDown s t) := by
  unfold pcieDown
  refine set_leaves ?_ (Foot.rec_const hF (by decide))
  refine set_leaves ?_ (Foot.rec_const hF (by decide))
  refine fnReset_leaves ?_ (Foot.le_trans (by decide) hF)
  refine vfOff_leaves ?_ (Foot.le_trans (by decide) hF)
  exact h

theorem fnSleep_leaves {F : Foot} {a₀ : State} {s : State} {f : Nat} {t : Tick} (h : F.leaves a₀ s) (hF : Foot.le ⟨0x1110, [], [.pcie, .tx]⟩ F = true) :
    F.leaves a₀ (fnSleep s f t) := by
  unfold fnSleep
  extract_lets +onlyGivenNames -merge -useContext -underBinder y0
  have h0 : F.leaves a₀ y0 := by
    refine Foot.foldl_leaves ?_ fun z1 i1 h1 => ?_
    · exact h
    · refine dmaStop_leaves ?_ (Foot.le_trans (by decide) hF) (Foot.rec_floor hF (by decide))
      exact h1
  try clear_value y0
  refine modFn_leaves ?_ (Foot.le_trans (by decide) hF)
  exact h0

/-! ### SecCore -/

theorem setScopeSec_leaves {F : Foot} {a₀ : State} {s : State} {idx : Nat} {v : Bool} (h : F.leaves a₀ s) (hF : Foot.le ⟨0x0, [], [.sec]⟩ F = true) :
    F.leaves a₀ (setScopeSec s idx v) := by
  unfold setScopeSec
  split
  · refine set_leaves ?_ (Foot.rec_any hF (by decide))
    exact h
  · exact { h with sec := .inl (Foot.part hF (by decide)) }

theorem strikeLost_leaves {F : Foot} {a₀ : State} {s : State} {p : Nat} (h : F.leaves a₀ s) (hF : Foot.le ⟨0x10000, [], [.ports]⟩ F = true) :
    F.leaves a₀ (strikeLost s p) := by
  unfold strikeLost
  refine when_leaves ?_ fun z0 h0 => ?_
  · exact h
  · refine modForce_leaves ?_ (Foot.le_trans (by decide) hF)
    exact h0

theorem releaseBindings_leaves {F : Foot} {a₀ : State} {s : State} (h : F.leaves a₀ s) (hF : Foot.le ⟨0x0, [], [.ports]⟩ F = true) :
    F.leaves a₀ (releaseBindings s) := by
  unfold releaseBindings
  extract_lets +onlyGivenNames -merge -useContext -underBinder y0
  try clear_value y0
  extract_lets +onlyGivenNames -merge -useContext -underBinder y1
  have h1 : F.leaves a₀ y1 := by
    refine Foot.foldl_leaves ?_ fun z2 i2 h2 => ?_
    · exact h
    · extract_lets +onlyGivenNames -merge -useContext -underBinder y3
      have h3 : F.leaves a₀ y3 := by
        refine setFld_leaves ?_ (Foot.rec_any hF (by decide))
        exact h2
      try clear_value y3
      split
      · refine strikeLost_leaves ?_ (Foot.le_trans (by decide) hF)
        exact h3
      · exact h3
  try clear_value y1
  refine forAll_leaves ?_ fun i4 z4 h4 => ?_
  · exact h1
  · refine Foot.ite_leaves ?_ ?_
    · exact h4
    · refine strikeLost_leaves ?_ (Foot.le_trans (by decide) hF)
      refine set_leaves ?_ (Foot.rec_any hF (by decide))
      exact h4

theorem ownZero_leaves {F : Foot} {a₀ : State} {s : State} {idx : Nat} {was : Bool} {now_ : Bool} (h : F.leaves a₀ s) (hF : Foot.le ⟨0x2340, [], [.spad, .mem]⟩ F = true) :
    F.leaves a₀ (ownZero s idx was now_) := by
  unfold ownZero
  refine Foot.ite_leaves ?_ ?_
  · exact h
  · split
    · refine Foot.ite_leaves ?_ ?_
      · refine regionZero_leaves ?_ (Foot.le_trans (by decide) hF) (Foot.rec_floor hF (by decide))
        exact h
      · exact h
    · split
      · refine regionZero_leaves ?_ (Foot.le_trans (by decide) hF) (Foot.rec_floor hF (by decide))
        exact h
      · exact h
    · exact h

theorem lcCancel_leaves {F : Foot} {a₀ : State} {s : State} (h : F.leaves a₀ s) (hF : Foot.le ⟨0x10000, [0x2700], [.sec]⟩ F = true) :
    F.leaves a₀ (lcCancel s) := by
  unfold lcCancel
  refine setBit_leaves ?_ (Foot.rec_const hF (by decide))
  exact { h with sec := .inl (Foot.part hF (by decide)) }

theorem ownSet_leaves {F : Foot} {a₀ : State} {s : State} {idx : Nat} {owner : Nat} {sec : Bool} {t : Tick} (h : F.leaves a₀ s) (hF : Foot.le ⟨0x0, [], [.ports, .spad, .mem, .pcie, .rcd, .sec, .tx]⟩ F = true) :
    F.leaves a₀ (ownSet s idx owner sec t) := by
  unfold ownSet
  split
  · exact h
  · extract_lets +onlyGivenNames -merge -useContext -underBinder y0
    extract_lets +onlyGivenNames -merge -useContext -underBinder y1
    try clear_value y1
    extract_lets +onlyGivenNames -merge -useContext -underBinder y2
    extract_lets +onlyGivenNames -merge -useContext -underBinder y3
    have h3 : F.leaves a₀ y3 := by
      refine setScopeSec_leaves ?_ (Foot.le_trans (by decide) hF)
      refine set_leaves ?_ (Foot.rec_any hF (by decide))
      exact h
    try clear_value y3
    extract_lets +onlyGivenNames -merge -useContext -underBinder y4
    have h4 : F.leaves a₀ y4 := by
      unfold y4
      split
      · refine Foot.foldl_leaves ?_ fun z5 i5 h5 => ?_
        · exact h3
        · refine set_leaves ?_ (Foot.rec_any hF (by decide))
          refine set_leaves ?_ (Foot.rec_any hF (by decide))
          exact h5
      · refine Foot.ite_leaves ?_ ?_
        · refine dmaStop_leaves ?_ (Foot.le_trans (by decide) hF) (Foot.rec_floor hF (by decide))
          exact h3
        · exact h3
      · refine Foot.ite_leaves ?_ ?_
        · refine lcCancel_leaves ?_ (Foot.le_trans (by decide) hF)
          exact h3
        · exact h3
      · exact h3
    try clear_value y4
    extract_lets +onlyGivenNames -merge -useContext -underBinder y6
    have h6 : F.leaves a₀ y6 := by
      refine Foot.ite_leaves ?_ ?_
      · exact h4
      · refine releaseBindings_leaves ?_ (Foot.le_trans (by decide) hF)
        refine ownZero_leaves ?_ (Foot.le_trans (by decide) hF)
        exact h4
    try clear_value y6
    refine dirty_leaves ?_ (Foot.le_trans (by decide) hF)
    refine setBit_leaves ?_ (Foot.rec_any hF (by decide))
    exact h6

theorem assignNow_leaves {F : Foot} {a₀ : State} {s : State} {v : Nat} {t : Tick} (h : F.leaves a₀ s) (hF : Foot.le ⟨0x0, [], [.ports, .spad, .mem, .pcie, .rcd, .sec, .tx]⟩ F = true) :
    F.leaves a₀ (assignNow s v t) := by
  unfold assignNow
  refine ownSet_leaves ?_ (Foot.le_trans (by decide) hF)
  exact h

theorem assign'_leaves {F : Foot} {a₀ : State} {s : State} {v : Nat} {who : Nat} {t : Tick} (h : F.leaves a₀ s) (hF : Foot.le ⟨0x0, [], [.ports, .groups, .spad, .mem, .pcie, .rcd, .sec, .tx]⟩ F = true) :
    F.leaves a₀ (assign' s v who t) := by
  unfold assign'
  extract_lets +onlyGivenNames -merge -useContext -underBinder y0
  split
  · refine assignNow_leaves ?_ (Foot.le_trans (by decide) hF)
    exact h
  · extract_lets +onlyGivenNames -merge -useContext -underBinder y1
    skip
    extract_lets +onlyGivenNames -merge -useContext -underBinder y2
    try clear_value y2
    refine Foot.ite_leaves ?_ ?_
    · refine modGx_leaves ?_ (Foot.le_trans (by decide) hF)
      exact h
    · refine Foot.ite_leaves ?_ ?_
      · refine gcPush_leaves ?_ (Foot.le_trans (by decide) hF) (by intro k o v e; cases e)
        exact h
      · refine assignNow_leaves ?_ (Foot.le_trans (by decide) hF)
        exact h

theorem setKeyRow_leaves {F : Foot} {a₀ : State} {s : State} {k : Nat} {b : List Byte} (h : F.leaves a₀ s) (hF : Foot.le ⟨0x10000, [], [.sec]⟩ F = true) :
    F.leaves a₀ (setKeyRow s k b) := by
  unfold setKeyRow
  exact { h with sec := .inl (Foot.part hF (by decide)) }

theorem keyWrite_leaves {F : Foot} {a₀ : State} {s : State} {k : Nat} {b : List Byte} (h : F.leaves a₀ s) (hF : Foot.le ⟨0x10000, [], [.sec]⟩ F = true) (r0 : F.covers (0x2710 + k)) :
    F.leaves a₀ (keyWrite s k b) := by
  unfold keyWrite
  refine set_leaves ?_ (Foot.rec_key r0)
  refine set_leaves ?_ (Foot.rec_key r0)
  refine setKeyRow_leaves ?_ (Foot.le_trans (by decide) hF)
  exact h

theorem keyRevoke_leaves {F : Foot} {a₀ : State} {s : State} {k : Nat} (h : F.leaves a₀ s) (hF : Foot.le ⟨0x10000, [], [.sec]⟩ F = true) (r0 : F.covers (0x2710 + k)) :
    F.leaves a₀ (keyRevoke s k) := by
  unfold keyRevoke
  refine Foot.ite_leaves ?_ ?_
  · refine set_leaves ?_ (Foot.rec_key r0)
    refine setKeyRow_leaves ?_ (Foot.le_trans (by decide) hF)
    exact h
  · exact h

theorem keysVoid_leaves {F : Foot} {a₀ : State} {s : State} (h : F.leaves a₀ s) (hF : Foot.le ⟨0x2710, [], [.sec]⟩ F = true) :
    F.leaves a₀ (keysVoid s) := by
  unfold keysVoid
  refine Foot.foldl_leaves ?_ fun z0 i0 h0 => ?_
  · exact h
  · refine keyRevoke_leaves ?_ (Foot.le_trans (by decide) hF) (Foot.rec_floor hF (by decide))
    exact h0

theorem lcAbandon_leaves {F : Foot} {a₀ : State} {s : State} (h : F.leaves a₀ s) (hF : Foot.le ⟨0x10000, [], [.sec]⟩ F = true) :
    F.leaves a₀ (lcAbandon s) := by
  unfold lcAbandon
  exact { h with sec := .inl (Foot.part hF (by decide)) }

theorem tamperAction_leaves {F : Foot} {a₀ : State} {s : State} {code : Nat} {t : Tick} (h : F.leaves a₀ s) (hF : Foot.le ⟨0x2710, [], [.micro, .sec]⟩ F = true) :
    F.leaves a₀ (tamperAction s code t) := by
  unfold tamperAction
  refine Foot.ite_leaves ?_ ?_
  · exact h
  · refine later_leaves ?_ (Foot.le_trans (by decide) hF)
    refine when_leaves ?_ fun z0 h0 => ?_
    · exact h
    · refine keysVoid_leaves ?_ (Foot.le_trans (by decide) hF)
      exact h0

theorem tamper_leaves {F : Foot} {a₀ : State} {s : State} {src : Nat} {t : Tick} (h : F.leaves a₀ s) (hF : Foot.le ⟨0x2710, [0x2700], [.micro, .rcd, .sec]⟩ F = true) :
    F.leaves a₀ (tamper s src t) := by
  unfold tamper
  extract_lets +onlyGivenNames -merge -useContext -underBinder y0
  have h0 : F.leaves a₀ y0 := by
    refine wipeTrigger_leaves ?_ (Foot.le_trans (by decide) hF)
    exact h
  try clear_value y0
  extract_lets +onlyGivenNames -merge -useContext -underBinder y1
  have h1 : F.leaves a₀ y1 := by
    refine set_leaves ?_ (Foot.rec_const hF (by decide))
    refine satInc_leaves ?_ (Foot.rec_const hF (by decide))
    refine setBit_leaves ?_ (Foot.rec_const hF (by decide))
    exact h0
  try clear_value y1
  extract_lets +onlyGivenNames -merge -useContext -underBinder y2
  have h2 : F.leaves a₀ y2 := by
    refine jConfig_leaves ?_ (Foot.le_trans (by decide) hF)
    exact h1
  try clear_value y2
  extract_lets +onlyGivenNames -merge -useContext -underBinder y3
  refine Foot.ite_leaves ?_ ?_
  · exact { h2 with sec := .inl (Foot.part hF (by decide)) }
  · refine tamperAction_leaves ?_ (Foot.le_trans (by decide) hF)
    refine lcAbandon_leaves ?_ (Foot.le_trans (by decide) hF)
    exact h2

theorem lcRequest_leaves {F : Foot} {a₀ : State} {s : State} {to_ : Nat} {t : Tick} (h : F.leaves a₀ s) (hF : Foot.le ⟨0x10000, [0x2700], [.sec]⟩ F = true) :
    F.leaves a₀ (lcRequest s to_ t) := by
  unfold lcRequest
  refine setBit_leaves ?_ (Foot.rec_const hF (by decide))
  exact { h with sec := .inl (Foot.part hF (by decide)) }

theorem lcConfirm_leaves {F : Foot} {a₀ : State} {s : State} {v : Nat} {t : Tick} (h : F.leaves a₀ s) (hF : Foot.le ⟨0x1220, [], [.groups, .net, .sec, .tx]⟩ F = true) :
    F.leaves a₀ (lcConfirm s v t) := by
  unfold lcConfirm
  split
  · exact h
  · extract_lets +onlyGivenNames -merge -useContext -underBinder y0
    have h0 : F.leaves a₀ y0 := by
      refine lcCancel_leaves ?_ (Foot.le_trans (by decide) hF)
      exact h
    try clear_value y0
    refine Foot.ite_leaves ?_ ?_
    · exact h0
    · extract_lets +onlyGivenNames -merge -useContext -underBinder y1
      have h1 : F.leaves a₀ y1 := by
        refine sessCloseAll_leaves ?_ (Foot.le_trans (by decide) hF)
        exact h0
      try clear_value y1
      exact { h1 with sec := .inl (Foot.part hF (by decide)) }

theorem takeBaselines_leaves {F : Foot} {a₀ : State} {s : State} (h : F.leaves a₀ s) (hF : Foot.le ⟨0x10000, [], [.slices, .nv]⟩ F = true) :
    F.leaves a₀ (takeBaselines s) := by
  unfold takeBaselines
  refine Foot.foldl_leaves ?_ fun z0 i0 h0 => ?_
  · exact h
  · refine Foot.ite_leaves ?_ ?_
    · exact h0
    · extract_lets +onlyGivenNames -merge -useContext -underBinder y1
      have h1 : F.leaves a₀ y1 := by
        refine modSx_leaves ?_ (Foot.le_trans (by decide) hF)
        exact h0
      try clear_value y1
      refine requestCommit_leaves ?_ (Foot.le_trans (by decide) hF)
      exact h1

theorem ownersClear_leaves {F : Foot} {a₀ : State} {s : State} (h : F.leaves a₀ s) (hF : Foot.le ⟨0x0, [], [.sec]⟩ F = true) :
    F.leaves a₀ (ownersClear s) := by
  unfold ownersClear
  exact { h with
    regs := fun k hk => absurd (Foot.rec_any hF rfl) hk
    sec := .inl (Foot.part hF (by decide))
    tables := fun ha => by
      have := h.tables ha
      simp only [tablesOk, Bool.and_eq_true] at *
      exact ⟨Tab.wf_filter _ _ _ this.1, this.2⟩ }

theorem lcFuse_leaves {F : Foot} {a₀ : State} {s : State} (h : F.leaves a₀ s) (hF : Foot.le ⟨0x10000, [0x1000, 0x2700], []⟩ F = true) :
    F.leaves a₀ (lcFuse s) := by
  unfold lcFuse
  refine set_leaves ?_ (Foot.rec_const hF (by decide))
  refine set_leaves ?_ (Foot.rec_const hF (by decide))
  exact h

theorem lcFinish_leaves {F : Foot} {a₀ : State} {s : State} {t : Tick} (h : F.leaves a₀ s) (hF : Foot.le ⟨0x0, [], [.slices, .micro, .sec, .nv]⟩ F = true) :
    F.leaves a₀ (lcFinish s t) := by
  unfold lcFinish
  extract_lets +onlyGivenNames -merge -useContext -underBinder y0
  extract_lets +onlyGivenNames -merge -useContext -underBinder y1
  try clear_value y1
  extract_lets +onlyGivenNames -merge -useContext -underBinder u2_0 u2_1 y2
  have h2 : F.leaves a₀ y2 := by
    refine Foot.ite_leaves ?_ ?_
    · refine later_leaves ?_ (Foot.le_trans (by decide) hF)
      refine ownersClear_leaves ?_ (Foot.le_trans (by decide) hF)
      refine set_leaves ?_ (Foot.rec_any hF (by decide))
      have h3 : F.leaves a₀ u2_0 := by
        refine keysVoid_leaves ?_ (Foot.le_trans (by decide) hF)
        exact h
      try clear_value u2_0
      exact { h3 with nv := .inl (Foot.part hF (by decide)) }
    · refine Foot.ite_leaves ?_ ?_
      · refine takeBaselines_leaves ?_ (Foot.le_trans (by decide) hF)
        exact h
      · exact h
  try clear_value y2
  extract_lets +onlyGivenNames -merge -useContext -underBinder y4
  try clear_value y4
  extract_lets +onlyGivenNames -merge -useContext -underBinder u5_0 y5
  have h5 : F.leaves a₀ y5 := by
    exact { h2 with sec := .inl (Foot.part hF (by decide)) }
  try clear_value y5
  split
  · refine tamperAction_leaves ?_ (Foot.le_trans (by decide) hF)
    exact h5
  · exact h5

theorem lcStepEnd_leaves {F : Foot} {a₀ : State} {s : State} {t : Tick} (h : F.leaves a₀ s) (hF : Foot.le ⟨0x0, [], [.slices, .micro, .sec, .nv]⟩ F = true) :
    F.leaves a₀ (lcStepEnd s t) := by
  unfold lcStepEnd
  extract_lets +onlyGivenNames -merge -useContext -underBinder y0
  split
  · try unfold y0
    beta_reduce
    refine Foot.leaves_sec ?_ (Foot.part hF (by decide))
    refine wipeTrigger_leaves ?_ (Foot.le_trans (by decide) hF)
    exact h
  · try unfold y0
    beta_reduce
    exact { h with sec := .inl (Foot.part hF (by decide)) }
  · try unfold y0
    beta_reduce
    refine Foot.leaves_sec ?_ (Foot.part hF (by decide))
    refine lcFuse_leaves ?_ (Foot.le_trans (by decide) hF)
    exact h
  · refine lcFinish_leaves ?_ (Foot.le_trans (by decide) hF)
    exact h
  · exact h

/-! ### RailCore -/

theorem modRail_leaves {F : Foot} {a₀ : State} {s : State} {f : RailX → RailX} (h : F.leaves a₀ s) (hF : Foot.le ⟨0x10000, [], [.rail]⟩ F = true) :
    F.leaves a₀ (modRail s f) := by
  unfold modRail
  exact { h with rail := .inl (Foot.part hF (by decide)) }

theorem setPgBy_leaves {F : Foot} {a₀ : State} {s : State} {n : Nat} {x : Option Tick} (h : F.leaves a₀ s) (hF : Foot.le ⟨0x10000, [], [.rail]⟩ F = true) :
    F.leaves a₀ (setPgBy s n x) := by
  unfold setPgBy
  refine modRail_leaves ?_ (Foot.le_trans (by decide) hF)
  exact h

theorem pmbTx_leaves {F : Foot} {a₀ : State} {s : State} {q : PmbReq} (h : F.leaves a₀ s) (hF : Foot.le ⟨0x10000, [], [.tx]⟩ F = true) :
    F.leaves a₀ (pmbTx s q) := by
  unfold pmbTx
  extract_lets +onlyGivenNames -merge -useContext -underBinder y0
  refine out_leaves ?_ (Foot.le_trans (by decide) hF)
  exact h

theorem pmbPush_leaves {F : Foot} {a₀ : State} {s : State} {q : PmbReq} (h : F.leaves a₀ s) (hF : Foot.le ⟨0x10000, [], [.rail, .tx]⟩ F = true) :
    F.leaves a₀ (pmbPush s q) := by
  unfold pmbPush
  extract_lets +onlyGivenNames -merge -useContext -underBinder y0
  try clear_value y0
  extract_lets +onlyGivenNames -merge -useContext -underBinder y1
  have h1 : F.leaves a₀ y1 := by
    refine modRail_leaves ?_ (Foot.le_trans (by decide) hF)
    exact h
  try clear_value y1
  refine Foot.ite_leaves ?_ ?_
  · refine pmbTx_leaves ?_ (Foot.le_trans (by decide) hF)
    exact h1
  · exact h1

theorem pmbNext_leaves {F : Foot} {a₀ : State} {s : State} {rest : List PmbReq} (h : F.leaves a₀ s) (hF : Foot.le ⟨0x10000, [], [.rail, .tx]⟩ F = true) :
    F.leaves a₀ (pmbNext s rest) := by
  unfold pmbNext
  extract_lets +onlyGivenNames -merge -useContext -underBinder y0
  have h0 : F.leaves a₀ y0 := by
    refine modRail_leaves ?_ (Foot.le_trans (by decide) hF)
    exact h
  try clear_value y0
  split
  · refine pmbTx_leaves ?_ (Foot.le_trans (by decide) hF)
    exact h0
  · exact h0

theorem pmbRead_leaves {F : Foot} {a₀ : State} {s : State} {n : Nat} {codes : List Nat} (h : F.leaves a₀ s) (hF : Foot.le ⟨0x10000, [], [.rail, .tx]⟩ F = true) :
    F.leaves a₀ (pmbRead s n codes) := by
  unfold pmbRead
  refine Foot.foldl_leaves ?_ fun z0 i0 h0 => ?_
  · exact h
  · refine Foot.ite_leaves ?_ ?_
    · exact h0
    · refine pmbPush_leaves ?_ (Foot.le_trans (by decide) hF)
      exact h0

theorem railTurnOn_leaves {F : Foot} {a₀ : State} {s : State} {n : Nat} {t : Tick} (h : F.leaves a₀ s) (hF : Foot.le ⟨0x10000, [], [.rail, .tx]⟩ F = true) (r0 : F.covers (0x2010 + n)) :
    F.leaves a₀ (railTurnOn s n t) := by
  unfold railTurnOn
  extract_lets +onlyGivenNames -merge -useContext -underBinder y0
  have h0 : F.leaves a₀ y0 := by
    refine setPgBy_leaves ?_ (Foot.le_trans (by decide) hF)
    refine set_leaves ?_ (Foot.rec_key r0)
    exact h
  try clear_value y0
  extract_lets +onlyGivenNames -merge -useContext -underBinder y1
  have h1 : F.leaves a₀ y1 := by
    refine pmbPush_leaves ?_ (Foot.le_trans (by decide) hF)
    exact h0
  try clear_value y1
  extract_lets +onlyGivenNames -merge -useContext -underBinder y2
  have h2 : F.leaves a₀ y2 := by
    refine Foot.ite_leaves ?_ ?_
    · exact h1
    · refine pmbPush_leaves ?_ (Foot.le_trans (by decide) hF)
      exact h1
  try clear_value y2
  extract_lets +onlyGivenNames -merge -useContext -underBinder y3
  have h3 : F.leaves a₀ y3 := by
    refine pmbPush_leaves ?_ (Foot.le_trans (by decide) hF)
    exact h2
  try clear_value y3
  refine pmbPush_leaves ?_ (Foot.le_trans (by decide) hF)
  refine pmbPush_leaves ?_ (Foot.le_trans (by decide) hF)
  exact h3

theorem railTurnOff_leaves {F : Foot} {a₀ : State} {s : State} {n : Nat} (h : F.leaves a₀ s) (hF : Foot.le ⟨0x10000, [], [.rail, .tx]⟩ F = true) :
    F.leaves a₀ (railTurnOff s n) := by
  unfold railTurnOff
  refine Foot.ite_leaves ?_ ?_
  · exact h
  · refine pmbPush_leaves ?_ (Foot.le_trans (by decide) hF)
    refine setPgBy_leaves ?_ (Foot.le_trans (by decide) hF)
    exact h

theorem railsFin_leaves {F : Foot} {a₀ : State} {s : State} {job : RailJob} {ok : Bool} (h : F.leaves a₀ s) (hF : Foot.le ⟨0x10000, [], [.rail]⟩ F = true) :
    F.leaves a₀ (railsFin s job ok) := by
  unfold railsFin
  refine modRail_leaves ?_ (Foot.le_trans (by decide) hF)
  exact h

theorem seqNext_leaves {F : Foot} {a₀ : State} {s : State} {job : RailJob} {left : List Nat} {t : Tick} (h : F.leaves a₀ s) (hF : Foot.le ⟨0x2010, [], [.rail, .tx]⟩ F = true) :
    F.leaves a₀ (seqNext s job left t) := by
  unfold seqNext
  split
  · refine railsFin_leaves ?_ (Foot.le_trans (by decide) hF)
    exact h
  · extract_lets +onlyGivenNames -merge -useContext -underBinder y0
    have h0 : F.leaves a₀ y0 := by
      refine modRail_leaves ?_ (Foot.le_trans (by decide) hF)
      exact h
    try clear_value y0
    refine Foot.ite_leaves ?_ ?_
    · refine railTurnOn_leaves ?_ (Foot.le_trans (by decide) hF) (Foot.rec_floor hF (by decide))
      exact h0
    · refine railTurnOff_leaves ?_ (Foot.le_trans (by decide) hF)
      exact h0

theorem railsStart_leaves {F : Foot} {a₀ : State} {s : State} {job : RailJob} {t : Tick} (h : F.leaves a₀ s) (hF : Foot.le ⟨0x2010, [], [.rail, .tx]⟩ F = true) :
    F.leaves a₀ (railsStart s job t) := by
  unfold railsStart
  refine seqNext_leaves ?_ (Foot.le_trans (by decide) hF)
  exact h

theorem seqSwitched_leaves {F : Foot} {a₀ : State} {s : State} {n : Nat} {t : Tick} (h : F.leaves a₀ s) (hF : Foot.le ⟨0x10000, [], [.rail]⟩ F = true) :
    F.leaves a₀ (seqSwitched s n t) := by
  unfold seqSwitched
  refine modRail_leaves ?_ (Foot.le_trans (by decide) hF)
  exact h

theorem seqDelayEnd_leaves {F : Foot} {a₀ : State} {s : State} {n : Nat} {t : Tick} (h : F.leaves a₀ s) (hF : Foot.le ⟨0x2010, [], [.rail, .tx]⟩ F = true) :
    F.leaves a₀ (seqDelayEnd s n t) := by
  unfold seqDelayEnd
  extract_lets +onlyGivenNames -merge -useContext -underBinder y0
  try clear_value y0
  extract_lets +onlyGivenNames -merge -useContext -underBinder y1
  try clear_value y1
  extract_lets +onlyGivenNames -merge -useContext -underBinder y2
  have h2 : F.leaves a₀ y2 := by
    refine modRail_leaves ?_ (Foot.le_trans (by decide) hF)
    exact h
  try clear_value y2
  refine Foot.foldl_leaves ?_ fun z3 i3 h3 => ?_
  · exact h2
  · refine seqNext_leaves ?_ (Foot.le_trans (by decide) hF)
    exact h3

theorem seqFailed_leaves {F : Foot} {a₀ : State} {s : State} {n : Nat} {t : Tick} (h : F.leaves a₀ s) (hF : Foot.le ⟨0x2010, [0x2001], [.rail, .tx]⟩ F = true) :
    F.leaves a₀ (seqFailed s n t) := by
  unfold seqFailed
  extract_lets +onlyGivenNames -merge -useContext -underBinder y0
  try clear_value y0
  extract_lets +onlyGivenNames -merge -useContext -underBinder y1
  have h1 : F.leaves a₀ y1 := by
    refine modRail_leaves ?_ (Foot.le_trans (by decide) hF)
    exact h
  try clear_value y1
  refine Foot.foldl_leaves ?_ fun z2 i2 h2 => ?_
  · exact h1
  · split
    · refine setBit_leaves ?_ (Foot.rec_const hF (by decide))
      refine railsFin_leaves ?_ (Foot.le_trans (by decide) hF)
      exact h2
    · refine seqNext_leaves ?_ (Foot.le_trans (by decide) hF)
      exact h2

theorem pmbDrop_leaves {F : Foot} {a₀ : State} {s : State} {n : Nat} (h : F.leaves a₀ s) (hF : Foot.le ⟨0x10000, [], [.rail]⟩ F = true) :
    F.leaves a₀ (pmbDrop s n) := by
  unfold pmbDrop
  split
  · exact h
  · refine modRail_leaves ?_ (Foot.le_trans (by decide) hF)
    exact h

theorem railFault_leaves {F : Foot} {a₀ : State} {s : State} {n : Nat} {t : Tick} (h : F.leaves a₀ s) (hF : Foot.le ⟨0x2010, [0x2001], [.groups, .rail, .tx]⟩ F = true) :
    F.leaves a₀ (railFault s n t) := by
  unfold railFault
  extract_lets +onlyGivenNames -merge -useContext -underBinder y0
  have h0 : F.leaves a₀ y0 := by
    refine setPgBy_leaves ?_ (Foot.le_trans (by decide) hF)
    refine setBit_leaves ?_ (Foot.rec_const hF (by decide))
    refine set_leaves ?_ (Foot.rec_key (Foot.rec_floor hF (by decide)))
    exact h
  skip
  extract_lets +onlyGivenNames -merge -useContext -underBinder y1
  extract_lets +onlyGivenNames -merge -useContext -underBinder y2
  have h2 : F.leaves a₀ y2 := by
    refine Foot.ite_leaves ?_ ?_
    · refine Foot.foldl_leaves ?_ fun z3 i3 h3 => ?_
      · exact h0
      · extract_lets +onlyGivenNames -merge -useContext -underBinder y4
        refine Foot.ite_leaves ?_ ?_
        · refine gcPush_leaves ?_ (Foot.le_trans (by decide) hF)
          exact h3
        · exact h3
    · exact h0
  try clear_value y2
  refine seqFailed_leaves ?_ (Foot.le_trans (by decide) hF)
  exact h2

theorem railTimeout_leaves {F : Foot} {a₀ : State} {s : State} {n : Nat} {t : Tick} (h : F.leaves a₀ s) (hF : Foot.le ⟨0x2010, [0x2001], [.groups, .rail, .tx]⟩ F = true) :
    F.leaves a₀ (railTimeout s n t) := by
  unfold railTimeout
  split
  · refine Foot.ite_leaves ?_ ?_
    · refine railFault_leaves ?_ (Foot.le_trans (by decide) hF)
      refine pmbDrop_leaves ?_ (Foot.le_trans (by decide) hF)
      exact h
    · exact h
  · exact h

theorem railStatus_leaves {F : Foot} {a₀ : State} {s : State} {n : Nat} {d : Nat} {t : Tick} (h : F.leaves a₀ s) (hF : Foot.le ⟨0x2010, [0x2001], [.groups, .rail, .tx]⟩ F = true) :
    F.leaves a₀ (railStatus s n d t) := by
  unfold railStatus
  extract_lets +onlyGivenNames -merge -useContext -underBinder y0
  have h0 : F.leaves a₀ y0 := by
    refine set_leaves ?_ (Foot.rec_key (Foot.rec_floor hF (by decide)))
    exact h
  try clear_value y0
  refine Foot.ite_leaves ?_ ?_
  · refine Foot.ite_leaves ?_ ?_
    · refine seqSwitched_leaves ?_ (Foot.le_trans (by decide) hF)
      refine setPgBy_leaves ?_ (Foot.le_trans (by decide) hF)
      refine set_leaves ?_ (Foot.rec_key (Foot.rec_floor hF (by decide)))
      exact h0
    · refine pmbRead_leaves ?_ (Foot.le_trans (by decide) hF)
      exact h0
  · refine Foot.ite_leaves ?_ ?_
    · refine railFault_leaves ?_ (Foot.le_trans (by decide) hF)
      exact h0
    · exact h0

theorem pmbOk_leaves {F : Foot} {a₀ : State} {s : State} {q : PmbReq} {d : Nat} {t : Tick} (h : F.leaves a₀ s) (hF : Foot.le ⟨0x2010, [0x2001], [.groups, .rail, .tx]⟩ F = true) :
    F.leaves a₀ (pmbOk s q d t) := by
  unfold pmbOk
  extract_lets +onlyGivenNames -merge -useContext -underBinder y0
  refine Foot.ite_leaves ?_ ?_
  · refine Foot.ite_leaves ?_ ?_
    · refine modRail_leaves ?_ (Foot.le_trans (by decide) hF)
      exact h
    · refine railFault_leaves ?_ (Foot.le_trans (by decide) hF)
      refine pmbDrop_leaves ?_ (Foot.le_trans (by decide) hF)
      refine modRail_leaves ?_ (Foot.le_trans (by decide) hF)
      exact h
  · refine Foot.ite_leaves ?_ ?_
    · refine Foot.ite_leaves ?_ ?_
      · refine seqSwitched_leaves ?_ (Foot.le_trans (by decide) hF)
        refine set_leaves ?_ (Foot.rec_key (Foot.rec_floor hF (by decide)))
        exact h
      · exact h
    · refine Foot.ite_leaves ?_ ?_
      · refine setQ_leaves ?_ (Foot.rec_key (Foot.rec_floor hF (by decide)))
        exact h
      · refine Foot.ite_leaves ?_ ?_
        · refine setQ_leaves ?_ (Foot.rec_key (Foot.rec_floor hF (by decide)))
          exact h
        · refine Foot.ite_leaves ?_ ?_
          · refine setQ_leaves ?_ (Foot.rec_key (Foot.rec_floor hF (by decide)))
            exact h
          · refine Foot.ite_leaves ?_ ?_
            · refine railStatus_leaves ?_ (Foot.le_trans (by decide) hF)
              exact h
            · exact h

theorem pmbDone_leaves {F : Foot} {a₀ : State} {s : State} {ok : Bool} {data : Nat} {t : Tick} (h : F.leaves a₀ s) (hF : Foot.le ⟨0x2010, [0x2001], [.groups, .rail, .tx]⟩ F = true) :
    F.leaves a₀ (pmbDone s ok data t) := by
  unfold pmbDone
  split
  · exact h
  · refine Foot.ite_leaves ?_ ?_
    · extract_lets +onlyGivenNames -merge -useContext -underBinder y0
      have h0 : F.leaves a₀ y0 := by
        refine pmbOk_leaves ?_ (Foot.le_trans (by decide) hF)
        exact h
      try clear_value y0
      refine pmbNext_leaves ?_ (Foot.le_trans (by decide) hF)
      exact h0
    · refine Foot.ite_leaves ?_ ?_
      · refine pmbNext_leaves ?_ (Foot.le_trans (by decide) hF)
        exact h
      · extract_lets +onlyGivenNames -merge -useContext -underBinder y1
        have h1 : F.leaves a₀ y1 := by
          refine setPgBy_leaves ?_ (Foot.le_trans (by decide) hF)
          refine setBit_leaves ?_ (Foot.rec_const hF (by decide))
          refine set_leaves ?_ (Foot.rec_key (Foot.rec_floor hF (by decide)))
          exact h
        try clear_value y1
        extract_lets +onlyGivenNames -merge -useContext -underBinder y2
        have h2 : F.leaves a₀ y2 := by
          refine modRail_leaves ?_ (Foot.le_trans (by decide) hF)
          exact h1
        try clear_value y2
        extract_lets +onlyGivenNames -merge -useContext -underBinder y3
        have h3 : F.leaves a₀ y3 := by
          refine seqFailed_leaves ?_ (Foot.le_trans (by decide) hF)
          exact h2
        try clear_value y3
        refine pmbNext_leaves ?_ (Foot.le_trans (by decide) hF)
        exact h3

theorem pmbPoll_leaves {F : Foot} {a₀ : State} {s : State} {t : Tick} (h : F.leaves a₀ s) (hF : Foot.le ⟨0x10000, [], [.rail, .tx]⟩ F = true) :
    F.leaves a₀ (pmbPoll s t) := by
  unfold pmbPoll
  extract_lets +onlyGivenNames -merge -useContext -underBinder y0
  have h0 : F.leaves a₀ y0 := by
    refine Foot.foldl_leaves ?_ fun z1 i1 h1 => ?_
    · exact h
    · extract_lets +onlyGivenNames -merge -useContext -underBinder y2
      have h2 : F.leaves a₀ y2 := by
        refine Foot.ite_leaves ?_ ?_
        · exact h1
        · refine pmbRead_leaves ?_ (Foot.le_trans (by decide) hF)
          exact h1
      try clear_value y2
      refine pmbRead_leaves ?_ (Foot.le_trans (by decide) hF)
      exact h2
  try clear_value y0
  refine modRail_leaves ?_ (Foot.le_trans (by decide) hF)
  exact h0

theorem pmbAlert_leaves {F : Foot} {a₀ : State} {s : State} (h : F.leaves a₀ s) (hF : Foot.le ⟨0x10000, [], [.rail, .tx]⟩ F = true) :
    F.leaves a₀ (pmbAlert s) := by
  unfold pmbAlert
  refine Foot.foldl_leaves ?_ fun z0 i0 h0 => ?_
  · exact h
  · refine pmbRead_leaves ?_ (Foot.le_trans (by decide) hF)
    exact h0

theorem railUser_leaves {F : Foot} {a₀ : State} {s : State} {n : Nat} {v : Nat} {t : Tick} (h : F.leaves a₀ s) (hF : Foot.le ⟨0x10000, [], [.rail, .tx]⟩ F = true) (r0 : F.covers (0x2010 + n)) :
    F.leaves a₀ (railUser s n v t) := by
  unfold railUser
  refine Foot.ite_leaves ?_ ?_
  · exact h
  · refine Foot.ite_leaves ?_ ?_
    · refine railTurnOn_leaves ?_ (Foot.le_trans (by decide) hF) r0
      exact h
    · refine railTurnOff_leaves ?_ (Foot.le_trans (by decide) hF)
      exact h

end Sys2Proof.Machine.State

end
end

