-- ==== Sys2Proof/Laws/FrameServices.lean ====
section
/-!
SUPPORT. What each operation may change, as footprints (Safety.lean): the operations of power and boot, of requests to ports and to the device, of
the object dictionary, of the sessions and PCIe, and of the passage of time.
-/

section

set_option linter.all false
set_option Elab.async false

namespace Sys2Proof.Machine.State
open Sys2Proof Sys2Proof.Machine

/-! ### PowerCore -/

theorem modPwr_leaves {F : Foot} {a₀ : State} {s : State} {f : PwrX → PwrX} (h : F.leaves a₀ s) (hF : Foot.le ⟨0x10000, [], [.pwr]⟩ F = true) :
    F.leaves a₀ (modPwr s f) := by
  unfold modPwr
  exact { h with pwr := .inl (Foot.part hF (by decide)) }

theorem stageOff_leaves {F : Foot} {a₀ : State} {s : State} {p : Nat} {t : Tick} (h : F.leaves a₀ s) (hF : Foot.le ⟨0x3000, [0x2000, 0x2001], [.ports, .groups, .slices, .micro, .cal, .rcd, .pwr, .nv, .tx]⟩ F = true) :
    F.leaves a₀ (stageOff s p t) := by
  unfold stageOff
  refine Foot.ite_leaves ?_ ?_
  · exact h
  · extract_lets +onlyGivenNames -merge -useContext -underBinder y0
    try clear_value y0
    extract_lets +onlyGivenNames -merge -useContext -underBinder y1
    try clear_value y1
    extract_lets +onlyGivenNames -merge -useContext -underBinder y2
    have h2 : F.leaves a₀ y2 := by
      refine Foot.ite_leaves ?_ ?_
      · exact h
      · refine modForce_leaves ?_ (Foot.le_trans (by decide) hF)
        refine rampStop_leaves ?_ (Foot.le_trans (by decide) hF) (Foot.rec_floor hF (by decide))
        exact h
    try clear_value y2
    extract_lets +onlyGivenNames -merge -useContext -underBinder y3
    have h3 : F.leaves a₀ y3 := by
      refine modPx_leaves ?_ (Foot.le_trans (by decide) hF)
      refine setBit_leaves ?_ (Foot.rec_key (Foot.rec_floor hF (by decide)))
      exact h2
    try clear_value y3
    extract_lets +onlyGivenNames -merge -useContext -underBinder y4
    have h4 : F.leaves a₀ y4 := by
      refine Foot.ite_leaves ?_ ?_
      · refine gateOff_leaves ?_ (Foot.le_trans (by decide) hF)
        refine setFld_leaves ?_ (Foot.rec_key (Foot.rec_floor hF (by decide)))
        exact h3
      · exact h3
    try clear_value y4
    refine syncPort_leaves ?_ (Foot.le_trans (by decide) hF) (Foot.rec_floor hF (by decide))
    exact h4

theorem stageOn_leaves {F : Foot} {a₀ : State} {s : State} {p : Nat} {t : Tick} (h : F.leaves a₀ s) (hF : Foot.le ⟨0x10000, [0x8000], [.ports, .rcd, .tx]⟩ F = true) (r0 : F.covers (0x4000 + p)) :
    F.leaves a₀ (stageOn s p t) := by
  unfold stageOn
  extract_lets +onlyGivenNames -merge -useContext -underBinder y0
  try clear_value y0
  extract_lets +onlyGivenNames -merge -useContext -underBinder y1
  have h1 : F.leaves a₀ y1 := by
    refine modForce_leaves ?_ (Foot.le_trans (by decide) hF)
    refine set_leaves ?_ (Foot.rec_key r0)
    exact h
  try clear_value y1
  extract_lets +onlyGivenNames -merge -useContext -underBinder y2
  have h2 : F.leaves a₀ y2 := by
    refine setBit_leaves ?_ (Foot.rec_key r0)
    refine shaperReset_leaves ?_ (Foot.le_trans (by decide) hF)
    refine setCode_leaves ?_ (Foot.le_trans (by decide) hF) r0
    exact h1
  try clear_value y2
  extract_lets +onlyGivenNames -merge -useContext -underBinder y3
  have h3 : F.leaves a₀ y3 := by
    refine loadKstage_leaves ?_ (Foot.le_trans (by decide) hF) r0
    exact h2
  try clear_value y3
  refine syncPort_leaves ?_ (Foot.le_trans (by decide) hF) r0
  refine Foot.ite_leaves ?_ ?_
  · refine coreClear_leaves ?_ (Foot.le_trans (by decide) hF) r0
    exact h3
  · exact h3

theorem analogLoss_leaves {F : Foot} {a₀ : State} {s : State} {t : Tick} (h : F.leaves a₀ s) (hF : Foot.le ⟨0x3000, [0x2000, 0x2001], [.ports, .groups, .slices, .micro, .cal, .rcd, .pwr, .nv, .tx]⟩ F = true) :
    F.leaves a₀ (analogLoss s t) := by
  unfold analogLoss
  refine forAll_leaves ?_ fun i0 z0 h0 => ?_
  · refine modPwr_leaves ?_ (Foot.le_trans (by decide) hF)
    exact h
  · refine stageOff_leaves ?_ (Foot.le_trans (by decide) hF)
    exact h0

theorem analogOn_leaves {F : Foot} {a₀ : State} {s : State} {t : Tick} (h : F.leaves a₀ s) (hF : Foot.le ⟨0x4000, [], [.ports, .rcd, .pwr, .tx]⟩ F = true) :
    F.leaves a₀ (analogOn s t) := by
  unfold analogOn
  refine forAll_leaves ?_ fun i0 z0 h0 => ?_
  · refine modPwr_leaves ?_ (Foot.le_trans (by decide) hF)
    exact h
  · refine Foot.ite_leaves ?_ ?_
    · exact h0
    · refine stageOn_leaves ?_ (Foot.le_trans (by decide) hF) (Foot.rec_floor hF (by decide))
      exact h0

theorem groupQuiesce_leaves {F : Foot} {a₀ : State} {s : State} {g : Nat} {t : Tick} (h : F.leaves a₀ s) (hF : Foot.le ⟨0x3000, [0x2000, 0x2001, 0x2600], [.blobs, .ports, .groups, .slices, .micro, .scan, .cal, .rcd, .pwr, .nv, .tx]⟩ F = true) :
    F.leaves a₀ (groupQuiesce s g t) := by
  unfold groupQuiesce
  extract_lets +onlyGivenNames -merge -useContext -underBinder y0
  have h0 : F.leaves a₀ y0 := by
    refine setBit_leaves ?_ (Foot.rec_key (Foot.rec_floor hF (by decide)))
    exact h
  try clear_value y0
  refine Foot.ite_leaves ?_ ?_
  · extract_lets +onlyGivenNames -merge -useContext -underBinder y1
    have h1 : F.leaves a₀ y1 := by
      refine set_leaves ?_ (Foot.rec_key (Foot.rec_floor hF (by decide)))
      refine set_leaves ?_ (Foot.rec_key (Foot.rec_floor hF (by decide)))
      exact h0
    try clear_value y1
    extract_lets +onlyGivenNames -merge -useContext -underBinder y2
    have h2 : F.leaves a₀ y2 := by
      refine Foot.foldl_leaves ?_ fun z3 i3 h3 => ?_
      · exact h1
      · refine setBit_leaves ?_ (Foot.rec_key (Foot.rec_floor hF (by decide)))
        exact h3
    try clear_value y2
    extract_lets +onlyGivenNames -merge -useContext -underBinder y4
    have h4 : F.leaves a₀ y4 := by
      refine Foot.foldl_leaves ?_ fun z5 i5 h5 => ?_
      · exact h2
      · refine Foot.ite_leaves ?_ ?_
        · refine seqOnLeave_leaves ?_ (Foot.le_trans (by decide) hF)
          refine trainStop_leaves ?_ (Foot.le_trans (by decide) hF) (Foot.rec_floor hF (by decide))
          exact h5
        · exact h5
    try clear_value y4
    refine rotQuiesce_leaves ?_ (Foot.le_trans (by decide) hF)
    exact h4
  · exact h0

theorem gateStart_leaves {F : Foot} {a₀ : State} {s : State} {g : Nat} {t : Tick} (h : F.leaves a₀ s) (hF : Foot.le ⟨0x4000, [0x2000], [.ports, .groups, .tx]⟩ F = true) (r0 : F.covers (0x3000 + g)) :
    F.leaves a₀ (gateStart s g t) := by
  unfold gateStart
  extract_lets +onlyGivenNames -merge -useContext -underBinder y0
  have h0 : F.leaves a₀ y0 := by
    refine modGx_leaves ?_ (Foot.le_trans (by decide) hF)
    refine set_leaves ?_ (Foot.rec_key r0)
    exact h
  try clear_value y0
  refine Foot.foldl_leaves ?_ fun z1 i1 h1 => ?_
  · refine syncDeviceConfig_leaves ?_ (Foot.le_trans (by decide) hF)
    exact h0
  · refine syncPort_leaves ?_ (Foot.le_trans (by decide) hF) (Foot.rec_floor hF (by decide))
    exact h1

theorem ungateStart_leaves {F : Foot} {a₀ : State} {s : State} {g : Nat} {t : Tick} (h : F.leaves a₀ s) (hF : Foot.le ⟨0x2010, [], [.groups, .rail, .tx]⟩ F = true) :
    F.leaves a₀ (ungateStart s g t) := by
  unfold ungateStart
  extract_lets +onlyGivenNames -merge -useContext -underBinder y0
  have h0 : F.leaves a₀ y0 := by
    refine setBit_leaves ?_ (Foot.rec_key (Foot.rec_floor hF (by decide)))
    exact h
  try clear_value y0
  refine railsStart_leaves ?_ (Foot.le_trans (by decide) hF)
  refine modGx_leaves ?_ (Foot.le_trans (by decide) hF)
  exact h0

theorem gateDone_leaves {F : Foot} {a₀ : State} {s : State} {g : Nat} {t : Tick} (h : F.leaves a₀ s) (hF : Foot.le ⟨0x2010, [], [.groups, .rail, .tx]⟩ F = true) :
    F.leaves a₀ (gateDone s g t) := by
  unfold gateDone
  extract_lets +onlyGivenNames -merge -useContext -underBinder y0
  have h0 : F.leaves a₀ y0 := by
    refine modGx_leaves ?_ (Foot.le_trans (by decide) hF)
    exact h
  try clear_value y0
  refine Foot.ite_leaves ?_ ?_
  · refine ungateStart_leaves ?_ (Foot.le_trans (by decide) hF)
    exact h0
  · exact h0

theorem gateStepEnd_leaves {F : Foot} {a₀ : State} {s : State} {g : Nat} {bad : Bool} (h : F.leaves a₀ s) (hF : Foot.le ⟨0x2010, [0x2000, 0x2001], [.ports, .groups, .slices, .micro, .cal, .rcd, .pwr, .rail, .nv, .tx]⟩ F = true) :
    F.leaves a₀ (gateStepEnd s g bad) := by
  unfold gateStepEnd
  extract_lets +onlyGivenNames -merge -useContext -underBinder y0
  try clear_value y0
  extract_lets +onlyGivenNames -merge -useContext -underBinder y1
  try clear_value y1
  extract_lets +onlyGivenNames -merge -useContext -underBinder y2
  split
  · try unfold y2
    beta_reduce
    refine Foot.foldl_leaves ?_ fun z3 i3 h3 => ?_
    · refine modGx_leaves ?_ (Foot.le_trans (by decide) hF)
      exact h
    · refine stageOff_leaves ?_ (Foot.le_trans (by decide) hF)
      exact h3
  · refine railsStart_leaves ?_ (Foot.le_trans (by decide) hF)
    refine modGx_leaves ?_ (Foot.le_trans (by decide) hF)
    exact h
  · try unfold y2
    beta_reduce
    refine Foot.foldl_leaves ?_ fun z4 i4 h4 => ?_
    · refine modGx_leaves ?_ (Foot.le_trans (by decide) hF)
      exact h
    · refine Foot.ite_leaves ?_ ?_
      · exact h4
      · refine stageOn_leaves ?_ (Foot.le_trans (by decide) hF) (Foot.rec_floor hF (by decide))
        exact h4
  · extract_lets +onlyGivenNames -merge -useContext -underBinder y5
    have h5 : F.leaves a₀ y5 := by
      refine Foot.ite_leaves ?_ ?_
      · refine modRot_leaves ?_ (Foot.le_trans (by decide) hF)
        refine rotBit_leaves ?_ (Foot.le_trans (by decide) hF) (Foot.rec_floor hF (by decide))
        refine rotBit_leaves ?_ (Foot.le_trans (by decide) hF) (Foot.rec_floor hF (by decide))
        exact h
      · exact h
    try clear_value y5
    extract_lets +onlyGivenNames -merge -useContext -underBinder y6
    have h6 : F.leaves a₀ y6 := by
      refine set_leaves ?_ (Foot.rec_key (Foot.rec_floor hF (by decide)))
      refine modGx_leaves ?_ (Foot.le_trans (by decide) hF)
      exact h5
    try clear_value y6
    refine later_leaves ?_ (Foot.le_trans (by decide) hF)
    try unfold y2
    beta_reduce
    refine Foot.foldl_leaves ?_ fun z7 i7 h7 => ?_
    · refine syncDeviceConfig_leaves ?_ (Foot.le_trans (by decide) hF)
      exact h6
    · refine syncPort_leaves ?_ (Foot.le_trans (by decide) hF) (Foot.rec_floor hF (by decide))
      exact h7
  · exact h

theorem modFw_leaves {F : Foot} {a₀ : State} {s : State} {f : FwX → FwX} (h : F.leaves a₀ s) (hF : Foot.le ⟨0x10000, [], [.fwx]⟩ F = true) :
    F.leaves a₀ (modFw s f) := by
  unfold modFw
  exact { h with fwx := .inl (Foot.part hF (by decide)) }

theorem fwSvn_leaves {F : Foot} {a₀ : State} {s : State} {i : FwImage} (h : F.leaves a₀ s) (hF : Foot.le ⟨0x10000, [0x2700], []⟩ F = true) :
    F.leaves a₀ (fwSvn s i) := by
  unfold fwSvn
  refine when_leaves ?_ fun z0 h0 => ?_
  · exact h
  · refine setBit_leaves ?_ (Foot.rec_const hF (by decide))
    exact h0

theorem fwSeqs_leaves {F : Foot} {a₀ : State} {s : State} (h : F.leaves a₀ s) (hF : Foot.le ⟨0x10000, [0x2002], []⟩ F = true) :
    F.leaves a₀ (fwSeqs s) := by
  unfold fwSeqs
  extract_lets +onlyGivenNames -merge -useContext -underBinder y0
  try clear_value y0
  refine set_leaves ?_ (Foot.rec_const hF (by decide))
  refine set_leaves ?_ (Foot.rec_const hF (by decide))
  exact h

theorem fwVersions_leaves {F : Foot} {a₀ : State} {s : State} {i : FwImage} {cores : List Nat} (h : F.leaves a₀ s) (hF : Foot.le ⟨0x1000, [], []⟩ F = true) :
    F.leaves a₀ (fwVersions s i cores) := by
  unfold fwVersions
  refine Foot.foldl_leaves ?_ fun z0 i0 h0 => ?_
  · exact h
  · refine set_leaves ?_ (by first | exact Foot.rec_constAdd hF (by decide) | exact Foot.rec_floorAdd hF (by decide))
    exact h0

theorem fwStored_leaves {F : Foot} {a₀ : State} {s : State} {ok : Bool} {t : Tick} (h : F.leaves a₀ s) (hF : Foot.le ⟨0x10000, [0x2002, 0x2700], [.micro, .fwx, .tx]⟩ F = true) :
    F.leaves a₀ (fwStored s ok t) := by
  unfold fwStored
  split
  · exact h
  · extract_lets +onlyGivenNames -merge -useContext -underBinder y0
    have h0 : F.leaves a₀ y0 := by
      refine modFw_leaves ?_ (Foot.le_trans (by decide) hF)
      exact h
    try clear_value y0
    extract_lets +onlyGivenNames -merge -useContext -underBinder y1
    extract_lets +onlyGivenNames -merge -useContext -underBinder y2
    try clear_value y2
    extract_lets +onlyGivenNames -merge -useContext -underBinder u3_0 u3_1 u3_2 y3
    have h3 : F.leaves a₀ y3 := by
      refine Foot.ite_leaves ?_ ?_
      · try unfold y1
        beta_reduce
        refine setBit_leaves ?_ (Foot.rec_const hF (by decide))
        refine set_leaves ?_ (Foot.rec_const hF (by decide))
        refine fwSeqs_leaves ?_ (Foot.le_trans (by decide) hF)
        refine modFw_leaves ?_ (Foot.le_trans (by decide) hF)
        exact h0
      · refine Foot.ite_leaves ?_ ?_
        · try unfold y1
          beta_reduce
          refine setBit_leaves ?_ (Foot.rec_const hF (by decide))
          refine set_leaves ?_ (Foot.rec_const hF (by decide))
          refine fwSeqs_leaves ?_ (Foot.le_trans (by decide) hF)
          refine modFw_leaves ?_ (Foot.le_trans (by decide) hF)
          refine fwSvn_leaves ?_ (Foot.le_trans (by decide) hF)
          exact h0
        · have h4 : F.leaves a₀ u3_0 := by
            refine fwSeqs_leaves ?_ (Foot.le_trans (by decide) hF)
            refine modFw_leaves ?_ (Foot.le_trans (by decide) hF)
            exact h0
          try clear_value u3_0
          have h5 : F.leaves a₀ u3_1 := by
            refine when_leaves ?_ fun z6 h6 => ?_
            · exact h4
            · refine setBit_leaves ?_ (Foot.rec_const hF (by decide))
              exact h6
          try clear_value u3_1
          have h7 : F.leaves a₀ u3_2 := by
            refine set_leaves ?_ (Foot.rec_const hF (by decide))
            refine out_leaves ?_ (Foot.le_trans (by decide) hF)
            exact h5
          try clear_value u3_2
          refine Foot.ite_leaves ?_ ?_
          · refine later_leaves ?_ (Foot.le_trans (by decide) hF)
            exact h7
          · exact h7
    try clear_value y3
    refine Foot.ite_leaves ?_ ?_
    · refine set_leaves ?_ (Foot.rec_const hF (by decide))
      exact h3
    · exact h3

theorem fwHand_leaves {F : Foot} {a₀ : State} {s : State} (h : F.leaves a₀ s) (hF : Foot.le ⟨0x10000, [], [.fwx]⟩ F = true) :
    F.leaves a₀ (fwHand s) := by
  unfold fwHand
  split
  · exact h
  · refine Foot.ite_leaves ?_ ?_
    · exact h
    · refine modFw_leaves ?_ (Foot.le_trans (by decide) hF)
      exact h

theorem fwActivate_leaves {F : Foot} {a₀ : State} {s : State} (h : F.leaves a₀ s) (hF : Foot.le ⟨0x10000, [0x2002], [.fwx]⟩ F = true) :
    F.leaves a₀ (fwActivate s) := by
  unfold fwActivate
  refine modFw_leaves ?_ (Foot.le_trans (by decide) hF)
  refine setBit_leaves ?_ (Foot.rec_const hF (by decide))
  refine set_leaves ?_ (Foot.rec_const hF (by decide))
  exact h

theorem fwCoreDone_leaves {F : Foot} {a₀ : State} {s : State} {t : Tick} (h : F.leaves a₀ s) (hF : Foot.le ⟨0x1000, [], [.age, .fwx]⟩ F = true) :
    F.leaves a₀ (fwCoreDone s t) := by
  unfold fwCoreDone
  split
  · exact h
  · extract_lets +onlyGivenNames -merge -useContext -underBinder y0
    try clear_value y0
    extract_lets +onlyGivenNames -merge -useContext -underBinder y1
    extract_lets +onlyGivenNames -merge -useContext -underBinder y2
    have h2 : F.leaves a₀ y2 := by
      refine modFw_leaves ?_ (Foot.le_trans (by decide) hF)
      refine fwVersions_leaves ?_ (Foot.le_trans (by decide) hF)
      exact h
    try clear_value y2
    extract_lets +onlyGivenNames -merge -useContext -underBinder y3
    have h3 : F.leaves a₀ y3 := by
      unfold y3
      split
      · exact { h2 with age := .inl (Foot.part hF (by decide)) }
      · exact h2
    try clear_value y3
    refine Foot.ite_leaves ?_ ?_
    · refine modFw_leaves ?_ (Foot.le_trans (by decide) hF)
      exact h3
    · refine modFw_leaves ?_ (Foot.le_trans (by decide) hF)
      refine setBit_leaves ?_ (Foot.rec_const hF (by decide))
      refine set_leaves ?_ (Foot.rec_const hF (by decide))
      exact h3

theorem coreFailed_leaves {F : Foot} {a₀ : State} {s : State} {c : Nat} {t : Tick} (h : F.leaves a₀ s) (hF : Foot.le ⟨0x10000, [0x9000], [.micro, .age, .nv]⟩ F = true) :
    F.leaves a₀ (coreFailed s c t) := by
  unfold coreFailed
  refine Foot.ite_leaves ?_ ?_
  · exact h
  · extract_lets +onlyGivenNames -merge -useContext -underBinder y0
    try clear_value y0
    extract_lets +onlyGivenNames -merge -useContext -underBinder y1
    try clear_value y1
    extract_lets +onlyGivenNames -merge -useContext -underBinder y2
    try clear_value y2
    extract_lets +onlyGivenNames -merge -useContext -underBinder u3_0 y3
    have h3 : F.leaves a₀ y3 := by
      exact { h with age := .inl (Foot.part hF (by decide)) }
    skip
    split
    · refine Foot.ite_leaves ?_ ?_
      · refine later_leaves ?_ (Foot.le_trans (by decide) hF)
        exact h3
      · refine Foot.ite_leaves ?_ ?_
        · refine requestCommit_leaves ?_ (Foot.le_trans (by decide) hF)
          refine setBit_leaves ?_ (Foot.rec_const hF (by decide))
          refine setBit_leaves ?_ (Foot.rec_const hF (by decide))
          exact h3
        · exact h3
    · refine Foot.ite_leaves ?_ ?_
      · refine later_leaves ?_ (Foot.le_trans (by decide) hF)
        exact h3
      · refine Foot.ite_leaves ?_ ?_
        · exact { h3 with age := .inl (Foot.part hF (by decide)) }
        · exact { h3 with age := .inl (Foot.part hF (by decide)) }

theorem coreTaken_leaves {F : Foot} {a₀ : State} {s : State} {r : Nat} {t : Tick} (h : F.leaves a₀ s) (hF : Foot.le ⟨0x10000, [0x9000], [.blobs, .age, .nv]⟩ F = true) :
    F.leaves a₀ (coreTaken s r t) := by
  unfold coreTaken
  extract_lets +onlyGivenNames -merge -useContext -underBinder y0
  refine garnet_leaves ?_ (Foot.le_trans (by decide) hF)
  refine setFld_leaves ?_ (Foot.rec_const hF (by decide))
  exact { h with age := .inl (Foot.part hF (by decide)) }

theorem coresPlaced_leaves {F : Foot} {a₀ : State} {s : State} {t : Tick} (h : F.leaves a₀ s) (hF : Foot.le ⟨0x10000, [0x9000], [.blobs, .age, .nv]⟩ F = true) :
    F.leaves a₀ (coresPlaced s t) := by
  unfold coresPlaced
  refine Foot.foldl_leaves ?_ fun z0 i0 h0 => ?_
  · exact h
  · refine Foot.ite_leaves ?_ ?_
    · refine Foot.ite_leaves ?_ ?_
      · refine coreTaken_leaves ?_ (Foot.le_trans (by decide) hF)
        exact h0
      · extract_lets +onlyGivenNames -merge -useContext -underBinder y1
        extract_lets +onlyGivenNames -merge -useContext -underBinder y2
        extract_lets +onlyGivenNames -merge -useContext -underBinder y3
        have h3 : F.leaves a₀ y3 := by
          refine Foot.ite_leaves ?_ ?_
          · refine setFld_leaves ?_ (Foot.rec_const hF (by decide))
            exact h0
          · refine Foot.ite_leaves ?_ ?_
            · refine setFld_leaves ?_ (Foot.rec_const hF (by decide))
              exact h0
            · refine setFld_leaves ?_ (Foot.rec_const hF (by decide))
              refine setFld_leaves ?_ (Foot.rec_const hF (by decide))
              exact h0
        try clear_value y3
        refine setBit_leaves ?_ (Foot.rec_const hF (by decide))
        exact h3
    · exact h0

theorem pinsReset_leaves {F : Foot} {a₀ : State} {s : State} (h : F.leaves a₀ s) (hF : Foot.le ⟨0x10000, [], [.tx]⟩ F = true) :
    F.leaves a₀ (pinsReset s) := by
  unfold pinsReset
  extract_lets +onlyGivenNames -merge -useContext -underBinder y0
  have h0 : F.leaves a₀ y0 := by
    refine forAll_leaves ?_ fun i1 z1 h1 => ?_
    · exact h
    · refine Foot.ite_leaves ?_ ?_
      · refine out_leaves ?_ (Foot.le_trans (by decide) hF)
        exact h1
      · exact h1
  try clear_value y0
  refine forAll_leaves ?_ fun i2 z2 h2 => ?_
  · exact h0
  · extract_lets +onlyGivenNames -merge -useContext -underBinder y3
    have h3 : F.leaves a₀ y3 := by
      refine Foot.ite_leaves ?_ ?_
      · refine out_leaves ?_ (Foot.le_trans (by decide) hF)
        exact h2
      · exact h2
    try clear_value y3
    refine Foot.ite_leaves ?_ ?_
    · exact h3
    · refine out_leaves ?_ (Foot.le_trans (by decide) hF)
      exact h3

theorem deviceReset_leaves {F : Foot} {a₀ : State} {s : State} {cause : Nat} {t : Tick} (h : F.leaves a₀ s) (hF : Foot.le ⟨0x0, [], [.now, .blobs, .ports, .groups, .slices, .micro, .fab, .scan, .tb, .spad, .mem, .mc, .cal, .age, .od, .net, .pcie, .rcd, .pwr, .fwx, .rail, .lm, .sec, .nv, .tx, .resp]⟩ F = true) :
    F.leaves a₀ (deviceReset s cause t) := by
  unfold deviceReset
  extract_lets +onlyGivenNames -merge -useContext -underBinder tx root inner flt p keepLc x r0 r1 r2 r3 r4 r5 r6
  have h0 : F.leaves a₀ r0 := {
    queue := h.queue
    tables := fun ha => by
      have := h.tables ha
      simp only [tablesOk, Bool.and_eq_true] at *
      exact ⟨Tab.wf_filter _ _ _ this.1, rfl⟩
    regs := fun k hk => absurd (Foot.rec_any hF rfl) hk
    fresh := h.fresh
    now := .inl (Foot.part hF (by decide))
    blobs := .inl (Foot.part hF (by decide))
    ports := .inl (Foot.part hF (by decide))
    groups := .inl (Foot.part hF (by decide))
    slices := .inl (Foot.part hF (by decide))
    micro := .inl (Foot.part hF (by decide))
    fab := .inl (Foot.part hF (by decide))
    scan := .inl (Foot.part hF (by decide))
    tb := .inl (Foot.part hF (by decide))
    spad := .inl (Foot.part hF (by decide))
    mem := .inl (Foot.part hF (by decide))
    mc := .inl (Foot.part hF (by decide))
    cal := .inl (Foot.part hF (by decide))
    age := .inl (Foot.part hF (by decide))
    od := .inl (Foot.part hF (by decide))
    net := .inl (Foot.part hF (by decide))
    pcie := .inl (Foot.part hF (by decide))
    rcd := .inl (Foot.part hF (by decide))
    pwr := .inl (Foot.part hF (by decide))
    fwx := .inl (Foot.part hF (by decide))
    rail := .inl (Foot.part hF (by decide))
    lm := .inl (Foot.part hF (by decide))
    sec := .inl (Foot.part hF (by decide))
    nv := .inl (Foot.part hF (by decide))
    tx := .inl (Foot.part hF (by decide))
    resp := .inl (Foot.part hF (by decide)) }
  clear_value r0
  have h1 : F.leaves a₀ r1 := Foot.ite_leaves h0 (set_leaves h0 (Foot.rec_any hF rfl))
  clear_value r1
  have h2 : F.leaves a₀ r2 := Foot.ite_leaves (set_leaves h1 (Foot.rec_any hF rfl)) h1
  clear_value r2
  have h3 : F.leaves a₀ r3 := Foot.ite_leaves (forAll_leaves h2 fun _ _ hz => setBit_leaves hz (Foot.rec_any hF rfl)) h2
  clear_value r3
  have h4 : F.leaves a₀ r4 := Foot.ite_leaves (setBit_leaves h3 (Foot.rec_any hF rfl)) h3
  clear_value r4
  have h5 : F.leaves a₀ r5 := set_leaves h4 (Foot.rec_any hF rfl)
  clear_value r5
  have h6 : F.leaves a₀ r6 := Foot.ite_leaves (forAll_leaves h5 fun _ _ hz => clearPort_leaves hz (Foot.le_trans (by decide) hF)) h5
  exact Foot.foldl_leaves h6 fun _ _ hz => fltActs_leaves hz (Foot.le_trans (by decide) hF)

theorem bootStart_leaves {F : Foot} {a₀ : State} {s : State} {cause : Nat} {t : Tick} (h : F.leaves a₀ s) (hF : Foot.le ⟨0x10000, [0x2001], [.pwr]⟩ F = true) :
    F.leaves a₀ (bootStart s cause t) := by
  unfold bootStart
  refine set_leaves ?_ (Foot.rec_const hF (by decide))
  refine set_leaves ?_ (Foot.rec_const hF (by decide))
  refine modPwr_leaves ?_ (Foot.le_trans (by decide) hF)
  exact h

theorem bootLock_leaves {F : Foot} {a₀ : State} {s : State} {t : Tick} (h : F.leaves a₀ s) (hF : Foot.le ⟨0x10000, [0x2100, 0x8000], [.now, .tb, .rcd, .pwr]⟩ F = true) :
    F.leaves a₀ (bootLock s t) := by
  unfold bootLock
  extract_lets +onlyGivenNames -merge -useContext -underBinder y0
  have h0 : F.leaves a₀ y0 := by
    refine modPwr_leaves ?_ (Foot.le_trans (by decide) hF)
    exact h
  try clear_value y0
  refine epochStart_leaves ?_ (Foot.le_trans (by decide) hF)
  exact { h0 with now := .inl (Foot.part hF (by decide)) }

theorem bootThree_leaves {F : Foot} {a₀ : State} {s : State} {t : Tick} (h : F.leaves a₀ s) (hF : Foot.le ⟨0x0, [], [.blobs, .slices, .tb, .spad, .mem, .cal, .pwr, .sec, .nv]⟩ F = true) :
    F.leaves a₀ (bootThree s t) := by
  unfold bootThree
  extract_lets y0 y1 y2 m y3
  have h0 : F.leaves a₀ y0 := pllSpare_leaves (loadPair_leaves h (Foot.le_trans (by decide) hF)) (Foot.le_trans (by decide) hF)
  clear_value y0
  have h1 : F.leaves a₀ y1 := by
    refine satInc_leaves ?_ (Foot.rec_const hF (by decide))
    refine satInc_leaves ?_ (Foot.rec_const hF (by decide))
    refine satInc_leaves ?_ (Foot.rec_const hF (by decide))
    exact h0
  clear_value y1
  have h2 : F.leaves a₀ y2 := requestCommit_leaves h1 (Foot.le_trans (by decide) hF)
  clear_value y2
  have h3 : F.leaves a₀ y3 := by
    refine setBit_leaves ?_ (Foot.rec_const hF (by decide))
    exact { h2 with
      spad := .inl (Foot.part hF (by decide))
      mem := .inl (Foot.part hF (by decide))
      tables := fun ha => by
        have := h2.tables ha
        simp only [tablesOk, Bool.and_eq_true] at *
        exact ⟨this.1, rfl⟩ }
  clear_value y3
  exact modPwr_leaves (syncBt_leaves h3 (Foot.le_trans (by decide) hF)) (Foot.le_trans (by decide) hF)

theorem fwRecover_leaves {F : Foot} {a₀ : State} {s : State} (h : F.leaves a₀ s) (hF : Foot.le ⟨0x10000, [0x2002], []⟩ F = true) :
    F.leaves a₀ (fwRecover s) := by
  unfold fwRecover
  refine set_leaves ?_ (Foot.rec_const hF (by decide))
  refine setBit_leaves ?_ (Foot.rec_const hF (by decide))
  exact h

theorem fwBoot_leaves {F : Foot} {a₀ : State} {s : State} {b : Bool} {i : FwImage} (h : F.leaves a₀ s) (hF : Foot.le ⟨0x1000, [], [.pwr, .fwx]⟩ F = true) :
    F.leaves a₀ (fwBoot s b i) := by
  unfold fwBoot
  refine modPwr_leaves ?_ (Foot.le_trans (by decide) hF)
  refine fwVersions_leaves ?_ (Foot.le_trans (by decide) hF)
  refine set_leaves ?_ (Foot.rec_const hF (by decide))
  refine modFw_leaves ?_ (Foot.le_trans (by decide) hF)
  exact h

theorem bootTamper_leaves {F : Foot} {a₀ : State} {s : State} {t : Tick} (h : F.leaves a₀ s) (hF : Foot.le ⟨0x2710, [0x2700], [.micro, .rcd, .sec]⟩ F = true) :
    F.leaves a₀ (bootTamper s t) := by
  unfold bootTamper
  extract_lets +onlyGivenNames -merge -useContext -underBinder y0
  extract_lets +onlyGivenNames -merge -useContext -underBinder u1_0 y1
  have h1 : F.leaves a₀ y1 := by
    exact { h with sec := .inl (Foot.part hF (by decide)) }
  try clear_value y1
  refine Foot.foldl_leaves ?_ fun z2 i2 h2 => ?_
  · exact h1
  · refine Foot.ite_leaves ?_ ?_
    · refine tamper_leaves ?_ (Foot.le_trans (by decide) hF)
      exact h2
    · exact h2

theorem bootFive_leaves {F : Foot} {a₀ : State} {s : State} {t : Tick} (h : F.leaves a₀ s) (hF : Foot.le ⟨0x1000, [], [.blobs, .micro, .age, .rcd, .pwr, .fwx, .sec, .nv]⟩ F = true) :
    F.leaves a₀ (bootFive s t) := by
  unfold bootFive
  extract_lets +onlyGivenNames -merge -useContext -underBinder y0
  have h0 : F.leaves a₀ y0 := by
    refine bootTamper_leaves ?_ (Foot.le_trans (by decide) hF)
    exact h
  try clear_value y0
  extract_lets +onlyGivenNames -merge -useContext -underBinder y1
  have h1 : F.leaves a₀ y1 := by
    unfold y1
    split
    · refine fwSvn_leaves ?_ (Foot.le_trans (by decide) hF)
      exact h0
    · exact h0
  try clear_value y1
  extract_lets +onlyGivenNames -merge -useContext -underBinder y2
  have h2 : F.leaves a₀ y2 := by
    refine fwSeqs_leaves ?_ (Foot.le_trans (by decide) hF)
    split
    · refine fwSvn_leaves ?_ (Foot.le_trans (by decide) hF)
      exact h1
    · exact h1
  try clear_value y2
  extract_lets +onlyGivenNames -merge -useContext -underBinder y3
  have h3 : F.leaves a₀ y3 := by
    refine coresPlaced_leaves ?_ (Foot.le_trans (by decide) hF)
    exact h2
  try clear_value y3
  split
  · refine fwRecover_leaves ?_ (Foot.le_trans (by decide) hF)
    exact h3
  · refine fwBoot_leaves ?_ (Foot.le_trans (by decide) hF)
    exact h3
  · refine Foot.ite_leaves ?_ ?_
    · refine fwBoot_leaves ?_ (Foot.le_trans (by decide) hF)
      refine set_leaves ?_ (Foot.rec_const hF (by decide))
      refine setBit_leaves ?_ (Foot.rec_const hF (by decide))
      exact h3
    · refine fwBoot_leaves ?_ (Foot.le_trans (by decide) hF)
      exact h3

theorem restoreImage_leaves {F : Foot} {a₀ : State} {s : State} {carillon : Bool} (h : F.leaves a₀ s) (hF : Foot.le ⟨0x0, [], [.blobs, .slices, .spad, .mem, .cal, .sec]⟩ F = true) :
    F.leaves a₀ (restoreImage s carillon) := by
  unfold restoreImage
  split
  · exact h
  · extract_lets +onlyGivenNames -merge -useContext -underBinder y0
    try clear_value y0
    extract_lets +onlyGivenNames -merge -useContext -underBinder y1
    try clear_value y1
    refine loadRecord_leaves ?_ (Foot.le_trans (by decide) hF)
    exact h

theorem imageSlot_leaves {F : Foot} {a₀ : State} {s : State} (h : F.leaves a₀ s) (hF : Foot.le ⟨0x10000, [0x2000, 0x2002], []⟩ F = true) :
    F.leaves a₀ (imageSlot s) := by
  unfold imageSlot
  extract_lets +onlyGivenNames -merge -useContext -underBinder y0
  try clear_value y0
  split
  · refine set_leaves ?_ (Foot.rec_const hF (by decide))
    refine set_leaves ?_ (Foot.rec_const hF (by decide))
    exact h
  · refine set_leaves ?_ (Foot.rec_const hF (by decide))
    refine set_leaves ?_ (Foot.rec_const hF (by decide))
    exact h

theorem restorePort_leaves {F : Foot} {a₀ : State} {s : State} {p : Nat} (h : F.leaves a₀ s) (hF : Foot.le ⟨0x2380, [0x1220, 0x1221, 0x1222, 0x1223], [.ports, .groups, .slices, .micro, .fab, .spad, .mem, .net, .pcie, .rcd, .tx]⟩ F = true) :
    F.leaves a₀ (restorePort s p) := by
  unfold restorePort
  extract_lets +onlyGivenNames -merge -useContext -underBinder y0
  try clear_value y0
  extract_lets +onlyGivenNames -merge -useContext -underBinder y1
  have h1 : F.leaves a₀ y1 := by
    refine set_leaves ?_ (Foot.rec_key (Foot.rec_floor hF (by decide)))
    refine set_leaves ?_ (Foot.rec_key (Foot.rec_floor hF (by decide)))
    refine set_leaves ?_ (Foot.rec_key (Foot.rec_floor hF (by decide)))
    exact h
  try clear_value y1
  refine Foot.foldl_leaves ?_ fun z2 i2 h2 => ?_
  · exact h1
  · refine Foot.ite_leaves ?_ ?_
    · exact h2
    · refine applyEntry_leaves ?_ (Foot.le_trans (by decide) hF)
      exact h2

theorem restoreMemory_leaves {F : Foot} {a₀ : State} {s : State} (h : F.leaves a₀ s) (hF : Foot.le ⟨0x1110, [], [.spad, .mem]⟩ F = true) :
    F.leaves a₀ (restoreMemory s) := by
  unfold restoreMemory
  extract_lets +onlyGivenNames -merge -useContext -underBinder y0
  try clear_value y0
  extract_lets +onlyGivenNames -merge -useContext -underBinder y1
  try clear_value y1
  extract_lets +onlyGivenNames -merge -useContext -underBinder y2
  have h2 : F.leaves a₀ y2 := by
    refine Foot.foldl_leaves ?_ fun z3 i3 h3 => ?_
    · exact h
    · refine set_leaves ?_ (Foot.rec_key (Foot.rec_floor hF (by decide)))
      exact h3
  try clear_value y2
  extract_lets +onlyGivenNames -merge -useContext -underBinder y4
  have h4 : F.leaves a₀ y4 := by
    refine Foot.foldl_leaves ?_ fun z5 i5 h5 => ?_
    · exact h2
    · refine set_leaves ?_ (Foot.rec_key (Foot.rec_floor hF (by decide)))
      exact h5
  try clear_value y4
  extract_lets +onlyGivenNames -merge -useContext -underBinder y6
  have h6 : F.leaves a₀ y6 := by
    refine Foot.foldl_leaves ?_ fun z7 i7 h7 => ?_
    · exact h4
    · refine Foot.ite_leaves ?_ ?_
      · refine regionOn_leaves ?_ (Foot.le_trans (by decide) hF) (Foot.rec_floor hF (by decide))
        exact h7
      · exact h7
  try clear_value y6
  extract_lets +onlyGivenNames -merge -useContext -underBinder y8
  have h8 : F.leaves a₀ y8 := by
    refine Foot.foldl_leaves ?_ fun z9 i9 h9 => ?_
    · exact h6
    · refine Foot.ite_leaves ?_ ?_
      · refine ringOn_leaves ?_ (Foot.le_trans (by decide) hF) (Foot.rec_floor hF (by decide))
        exact h9
      · exact h9
  try clear_value y8
  extract_lets +onlyGivenNames -merge -useContext -underBinder y10
  have h10 : F.leaves a₀ y10 := by
    refine Foot.foldl_leaves ?_ fun z11 i11 h11 => ?_
    · exact h8
    · refine set_leaves ?_ (Foot.rec_key (Foot.rec_floor hF (by decide)))
      exact h11
  try clear_value y10
  refine Foot.foldl_leaves ?_ fun z12 i12 h12 => ?_
  · exact h10
  · refine set_leaves ?_ (Foot.rec_key (Foot.rec_floor hF (by decide)))
    exact h12

theorem restoreRoles_leaves {F : Foot} {a₀ : State} {s : State} {g : Nat} (h : F.leaves a₀ s) (hF : Foot.le ⟨0x3000, [], [.slices, .rcd]⟩ F = true) :
    F.leaves a₀ (restoreRoles s g) := by
  unfold restoreRoles
  extract_lets +onlyGivenNames -merge -useContext -underBinder y0
  extract_lets +onlyGivenNames -merge -useContext -underBinder y1
  split
  · refine set_leaves ?_ (Foot.rec_key (Foot.rec_floor hF (by decide)))
    refine set_leaves ?_ (Foot.rec_key (Foot.rec_floor hF (by decide)))
    refine setRole_leaves ?_ (Foot.le_trans (by decide) hF) (Foot.rec_floor hF (by decide)) (Foot.rec_floor hF (by decide))
    refine setRole_leaves ?_ (Foot.le_trans (by decide) hF) (Foot.rec_floor hF (by decide)) (Foot.rec_floor hF (by decide))
    exact h
  · refine setRole_leaves ?_ (Foot.le_trans (by decide) hF) (Foot.rec_floor hF (by decide)) (Foot.rec_floor hF (by decide))
    exact h
  · exact h

theorem bootGroup_leaves {F : Foot} {a₀ : State} {s : State} {g : Nat} {t : Tick} (h : F.leaves a₀ s) (hF : Foot.le ⟨0x4000, [0x2000], [.ports, .groups, .rcd, .tx]⟩ F = true) (r0 : F.covers (0x3000 + g)) :
    F.leaves a₀ (bootGroup s g t) := by
  unfold bootGroup
  split
  · refine setBit_leaves ?_ (Foot.rec_key r0)
    refine set_leaves ?_ (Foot.rec_key r0)
    exact h
  · extract_lets +onlyGivenNames -merge -useContext -underBinder y0
    have h0 : F.leaves a₀ y0 := by
      refine Foot.foldl_leaves ?_ fun z1 i1 h1 => ?_
      · exact h
      · refine commitPort_leaves ?_ (Foot.le_trans (by decide) hF) (Foot.rec_floor hF (by decide))
        exact h1
    try clear_value y0
    refine Foot.ite_leaves ?_ ?_
    · refine gateStart_leaves ?_ (Foot.le_trans (by decide) hF) r0
      exact h0
    · refine set_leaves ?_ (Foot.rec_key r0)
      exact h0

theorem bootLife_leaves {F : Foot} {a₀ : State} {s : State} {t : Tick} (h : F.leaves a₀ s) (hF : Foot.le ⟨0x0, [], [.slices, .micro, .sec, .nv]⟩ F = true) :
    F.leaves a₀ (bootLife s t) := by
  unfold bootLife
  refine Foot.ite_leaves ?_ ?_
  · refine lcFinish_leaves ?_ (Foot.le_trans (by decide) hF)
    refine lcFuse_leaves ?_ (Foot.le_trans (by decide) hF)
    exact h
  · refine Foot.ite_leaves ?_ ?_
    · refine lcFinish_leaves ?_ (Foot.le_trans (by decide) hF)
      exact h
    · exact h

theorem bootSix_leaves {F : Foot} {a₀ : State} {s : State} {t : Tick} (h : F.leaves a₀ s) (hF : Foot.le ⟨0x0, [], [.blobs, .ports, .groups, .slices, .micro, .fab, .tb, .spad, .mem, .cal, .net, .pcie, .rcd, .pwr, .sec, .nv, .tx]⟩ F = true) :
    F.leaves a₀ (bootSix s t) := by
  unfold bootSix
  extract_lets +onlyGivenNames -merge -useContext -underBinder y0
  have h0 : F.leaves a₀ y0 := by
    refine Foot.foldl_leaves ?_ fun z1 i1 h1 => ?_
    · exact h
    · refine loadPair_leaves ?_ (Foot.le_trans (by decide) hF)
      exact h1
  try clear_value y0
  extract_lets +onlyGivenNames -merge -useContext -underBinder y2
  have h2 : F.leaves a₀ y2 := by
    refine set_leaves ?_ (Foot.rec_any hF (by decide))
    refine set_leaves ?_ (Foot.rec_any hF (by decide))
    exact h0
  try clear_value y2
  extract_lets +onlyGivenNames -merge -useContext -underBinder y3
  have h3 : F.leaves a₀ y3 := by
    refine set_leaves ?_ (Foot.rec_any hF (by decide))
    refine imageSlot_leaves ?_ (Foot.le_trans (by decide) hF)
    refine restoreImage_leaves ?_ (Foot.le_trans (by decide) hF)
    exact h2
  try clear_value y3
  extract_lets +onlyGivenNames -merge -useContext -underBinder y4
  have h4 : F.leaves a₀ y4 := by
    refine modTb_leaves ?_ (Foot.le_trans (by decide) hF)
    exact h3
  try clear_value y4
  extract_lets +onlyGivenNames -merge -useContext -underBinder y5
  have h5 : F.leaves a₀ y5 := by
    refine forAll_leaves ?_ fun i6 z6 h6 => ?_
    · refine restoreMemory_leaves ?_ (Foot.le_trans (by decide) hF)
      exact h4
    · refine restoreRoles_leaves ?_ (Foot.le_trans (by decide) hF)
      exact h6
  try clear_value y5
  extract_lets +onlyGivenNames -merge -useContext -underBinder y7
  have h7 : F.leaves a₀ y7 := by
    refine forAll_leaves ?_ fun i8 z8 h8 => ?_
    · exact h5
    · refine restorePort_leaves ?_ (Foot.le_trans (by decide) hF)
      exact h8
  try clear_value y7
  extract_lets +onlyGivenNames -merge -useContext -underBinder y9
  have h9 : F.leaves a₀ y9 := by
    refine forAll_leaves ?_ fun i10 z10 h10 => ?_
    · exact h7
    · refine wornBoot_leaves ?_ (Foot.le_trans (by decide) hF) (Foot.rec_floor hF (by decide))
      exact h10
  try clear_value y9
  extract_lets +onlyGivenNames -merge -useContext -underBinder y11
  have h11 : F.leaves a₀ y11 := by
    refine forAll_leaves ?_ fun i12 z12 h12 => ?_
    · exact h9
    · refine groupPlan_leaves ?_ (Foot.le_trans (by decide) hF) (Foot.rec_floor hF (by decide))
      refine bootGroup_leaves ?_ (Foot.le_trans (by decide) hF) (Foot.rec_floor hF (by decide))
      exact h12
  try clear_value y11
  extract_lets +onlyGivenNames -merge -useContext -underBinder y13
  have h13 : F.leaves a₀ y13 := by
    refine bootLife_leaves ?_ (Foot.le_trans (by decide) hF)
    refine syncDeviceConfig_leaves ?_ (Foot.le_trans (by decide) hF)
    exact h11
  try clear_value y13
  refine modPwr_leaves ?_ (Foot.le_trans (by decide) hF)
  exact h13

theorem bootSeven_leaves {F : Foot} {a₀ : State} {s : State} {t : Tick} (h : F.leaves a₀ s) (hF : Foot.le ⟨0x2010, [], [.blobs, .ports, .slices, .cal, .rcd, .pwr, .rail, .nv, .tx]⟩ F = true) :
    F.leaves a₀ (bootSeven s t) := by
  unfold bootSeven
  extract_lets +onlyGivenNames -merge -useContext -underBinder y0
  have h0 : F.leaves a₀ y0 := by
    refine cellBoot_leaves ?_ (Foot.le_trans (by decide) hF)
    exact h
  try clear_value y0
  extract_lets +onlyGivenNames -merge -useContext -underBinder y1
  have h1 : F.leaves a₀ y1 := by
    refine forAll_leaves ?_ fun i2 z2 h2 => ?_
    · exact h0
    · refine Foot.ite_leaves ?_ ?_
      · exact h2
      · refine Foot.ite_leaves ?_ ?_
        · refine substTry_leaves ?_ (Foot.le_trans (by decide) hF)
          refine modRot_leaves ?_ (Foot.le_trans (by decide) hF)
          exact h2
        · extract_lets +onlyGivenNames -merge -useContext -underBinder y3
          refine Foot.ite_leaves ?_ ?_
          · refine substTry_leaves ?_ (Foot.le_trans (by decide) hF)
            refine modRot_leaves ?_ (Foot.le_trans (by decide) hF)
            exact h2
          · exact h2
  try clear_value y1
  refine railsStart_leaves ?_ (Foot.le_trans (by decide) hF)
  refine modPwr_leaves ?_ (Foot.le_trans (by decide) hF)
  exact h1

theorem restoreCarillon_leaves {F : Foot} {a₀ : State} {s : State} (h : F.leaves a₀ s) (hF : Foot.le ⟨0x0, [], [.blobs, .slices, .spad, .mem, .cal, .sec, .tx]⟩ F = true) :
    F.leaves a₀ (restoreCarillon s) := by
  unfold restoreCarillon
  extract_lets +onlyGivenNames -merge -useContext -underBinder y0
  have h0 : F.leaves a₀ y0 := by
    refine restoreImage_leaves ?_ (Foot.le_trans (by decide) hF)
    exact h
  try clear_value y0
  extract_lets +onlyGivenNames -merge -useContext -underBinder y1
  have h1 : F.leaves a₀ y1 := by
    refine forAll_leaves ?_ fun i2 z2 h2 => ?_
    · exact h0
    · refine Foot.ite_leaves ?_ ?_
      · refine trigDrive_leaves ?_ (Foot.le_trans (by decide) hF)
        exact h2
      · exact h2
  try clear_value y1
  extract_lets +onlyGivenNames -merge -useContext -underBinder y3
  try clear_value y3
  extract_lets +onlyGivenNames -merge -useContext -underBinder y4
  have h4 : F.leaves a₀ y4 := by
    refine Foot.foldl_leaves ?_ fun z5 i5 h5 => ?_
    · exact h1
    · refine set_leaves ?_ (Foot.rec_any hF (by decide))
      exact h5
  try clear_value y4
  refine Foot.foldl_leaves ?_ fun z6 i6 h6 => ?_
  · exact h4
  · refine Foot.ite_leaves ?_ ?_
    · refine setBit_leaves ?_ (Foot.rec_any hF (by decide))
      exact h6
    · refine set_leaves ?_ (Foot.rec_any hF (by decide))
      exact h6

theorem bootSequencer_leaves {F : Foot} {a₀ : State} {s : State} {t : Tick} (h : F.leaves a₀ s) (hF : Foot.le ⟨0x4000, [0x2400, 0x2000], [.ports, .micro, .scan, .od, .nv]⟩ F = true) :
    F.leaves a₀ (bootSequencer s t) := by
  unfold bootSequencer
  extract_lets +onlyGivenNames -merge -useContext -underBinder y0
  have h0 : F.leaves a₀ y0 := by
    refine Foot.foldl_leaves ?_ fun z1 i1 h1 => ?_
    · exact h
    · refine Foot.ite_leaves ?_ ?_
      · refine requestFrame_leaves ?_ (Foot.le_trans (by decide) hF)
        exact h1
      · exact h1
  try clear_value y0
  extract_lets +onlyGivenNames -merge -useContext -underBinder y2
  have h2 : F.leaves a₀ y2 := by
    refine forAll_leaves ?_ fun i3 z3 h3 => ?_
    · exact h0
    · refine set_leaves ?_ (Foot.rec_key (Foot.rec_floor hF (by decide)))
      exact h3
  try clear_value y2
  extract_lets +onlyGivenNames -merge -useContext -underBinder y4
  try clear_value y4
  refine Foot.foldl_leaves ?_ fun z5 i5 h5 => ?_
  · exact h2
  · split
    · refine satInc_leaves ?_ (Foot.rec_const hF (by decide))
      exact h5
    · refine selectAt_leaves ?_ (Foot.le_trans (by decide) hF)
      refine enqueue_leaves ?_ (Foot.le_trans (by decide) hF)
      exact h5

theorem bootNine_leaves {F : Foot} {a₀ : State} {s : State} {t : Tick} (h : F.leaves a₀ s) (hF : Foot.le ⟨0x0, [], [.blobs, .ports, .slices, .micro, .scan, .tb, .spad, .mem, .mc, .cal, .od, .rcd, .pwr, .sec, .nv, .tx]⟩ F = true) :
    F.leaves a₀ (bootNine s t) := by
  unfold bootNine
  extract_lets +onlyGivenNames -merge -useContext -underBinder y0
  have h0 : F.leaves a₀ y0 := by
    refine restoreCarillon_leaves ?_ (Foot.le_trans (by decide) hF)
    refine modPwr_leaves ?_ (Foot.le_trans (by decide) hF)
    exact h
  try clear_value y0
  extract_lets +onlyGivenNames -merge -useContext -underBinder y1
  have h1 : F.leaves a₀ y1 := by
    refine set_leaves ?_ (Foot.rec_any hF (by decide))
    refine setBit_leaves ?_ (Foot.rec_any hF (by decide))
    refine set_leaves ?_ (Foot.rec_any hF (by decide))
    exact h0
  try clear_value y1
  extract_lets +onlyGivenNames -merge -useContext -underBinder y2
  have h2 : F.leaves a₀ y2 := by
    refine bootSequencer_leaves ?_ (Foot.le_trans (by decide) hF)
    exact h1
  try clear_value y2
  extract_lets +onlyGivenNames -merge -useContext -underBinder y3
  have h3 : F.leaves a₀ y3 := by
    refine forAll_leaves ?_ fun i4 z4 h4 => ?_
    · exact h2
    · refine when_leaves ?_ fun z5 h5 => ?_
      · exact h4
      · refine enableTry_leaves ?_ (Foot.le_trans (by decide) hF)
        exact h5
  try clear_value y3
  extract_lets +onlyGivenNames -merge -useContext -underBinder y6
  have h6 : F.leaves a₀ y6 := by
    refine setBit_leaves ?_ (Foot.rec_any hF (by decide))
    exact h3
  try clear_value y6
  extract_lets +onlyGivenNames -merge -useContext -underBinder y7
  have h7 : F.leaves a₀ y7 := by
    refine Foot.ite_leaves ?_ ?_
    · refine shedStart_leaves ?_ (Foot.le_trans (by decide) hF)
      refine checkpoint_leaves ?_ (Foot.le_trans (by decide) hF)
      refine recStart_leaves ?_ (Foot.le_trans (by decide) hF)
      exact h6
    · exact h6
  try clear_value y7
  refine syncAll_leaves ?_ (Foot.le_trans (by decide) hF)
  refine mcSelfTest_leaves ?_ (Foot.le_trans (by decide) hF)
  exact h7

theorem bootEight_leaves {F : Foot} {a₀ : State} {s : State} {t : Tick} (h : F.leaves a₀ s) (hF : Foot.le ⟨0x0, [], [.blobs, .ports, .slices, .micro, .scan, .tb, .spad, .mem, .mc, .cal, .od, .rcd, .pwr, .sec, .nv, .tx]⟩ F = true) :
    F.leaves a₀ (bootEight s t) := by
  unfold bootEight
  refine Foot.ite_leaves ?_ ?_
  · refine bootNine_leaves ?_ (Foot.le_trans (by decide) hF)
    exact h
  · refine modPwr_leaves ?_ (Foot.le_trans (by decide) hF)
    exact h

theorem clearEnd_leaves {F : Foot} {a₀ : State} {s : State} {t : Tick} (h : F.leaves a₀ s) (hF : Foot.le ⟨0x0, [], [.blobs, .ports, .slices, .micro, .scan, .tb, .spad, .mem, .mc, .cal, .od, .rcd, .pwr, .sec, .nv, .tx]⟩ F = true) :
    F.leaves a₀ (clearEnd s t) := by
  unfold clearEnd
  extract_lets +onlyGivenNames -merge -useContext -underBinder y0
  have h0 : F.leaves a₀ y0 := by
    refine modPwr_leaves ?_ (Foot.le_trans (by decide) hF)
    refine setBit_leaves ?_ (Foot.rec_any hF (by decide))
    exact h
  try clear_value y0
  extract_lets +onlyGivenNames -merge -useContext -underBinder y1
  have h1 : F.leaves a₀ y1 := by
    refine Foot.ite_leaves ?_ ?_
    · exact h0
    · refine later_leaves ?_ (Foot.le_trans (by decide) hF)
      exact h0
  try clear_value y1
  refine Foot.ite_leaves ?_ ?_
  · refine bootNine_leaves ?_ (Foot.le_trans (by decide) hF)
    exact h1
  · exact h1

theorem recordAbsent_leaves {F : Foot} {a₀ : State} {s : State} {i : Nat} (h : F.leaves a₀ s) (hF : Foot.le ⟨0x10000, [], []⟩ F = true) (r0 : F.covers (0x4100 + i)) :
    F.leaves a₀ (recordAbsent s i) := by
  unfold recordAbsent
  refine setQ_leaves ?_ (Foot.rec_key r0)
  refine setQ_leaves ?_ (Foot.rec_key r0)
  refine setQ_leaves ?_ (Foot.rec_key r0)
  refine setQ_leaves ?_ (Foot.rec_key r0)
  exact h

theorem bootEleven_leaves {F : Foot} {a₀ : State} {s : State} {bad : List Nat} {t : Tick} (h : F.leaves a₀ s) (hF : Foot.le ⟨0x3000, [0x2001, 0x2002], [.ports, .micro, .cal, .age, .pwr, .nv, .tx]⟩ F = true) :
    F.leaves a₀ (bootEleven s bad t) := by
  unfold bootEleven
  extract_lets +onlyGivenNames -merge -useContext -underBinder y0
  have h0 : F.leaves a₀ y0 := by
    refine set_leaves ?_ (Foot.rec_const hF (by decide))
    refine modPwr_leaves ?_ (Foot.le_trans (by decide) hF)
    exact h
  try clear_value y0
  extract_lets +onlyGivenNames -merge -useContext -underBinder y1
  have h1 : F.leaves a₀ y1 := by
    refine set_leaves ?_ (Foot.rec_const hF (by decide))
    refine setBit_leaves ?_ (Foot.rec_const hF (by decide))
    refine setBit_leaves ?_ (Foot.rec_const hF (by decide))
    exact h0
  try clear_value y1
  extract_lets +onlyGivenNames -merge -useContext -underBinder y2
  have h2 : F.leaves a₀ y2 := by
    refine requestCommit_leaves ?_ (Foot.le_trans (by decide) hF)
    refine set_leaves ?_ (Foot.rec_const hF (by decide))
    exact h1
  try clear_value y2
  extract_lets +onlyGivenNames -merge -useContext -underBinder y3
  have h3 : F.leaves a₀ y3 := by
    refine Foot.foldl_leaves ?_ fun z4 i4 h4 => ?_
    · exact h2
    · refine modRot_leaves ?_ (Foot.le_trans (by decide) hF)
      refine rotBit_leaves ?_ (Foot.le_trans (by decide) hF) (Foot.rec_floor hF (by decide))
      refine recordAbsent_leaves ?_ (Foot.le_trans (by decide) hF) (Foot.rec_floor hF (by decide))
      exact h4
  try clear_value y3
  extract_lets +onlyGivenNames -merge -useContext -underBinder u5_0 u5_1 y5
  have h5 : F.leaves a₀ y5 := by
    exact { h3 with cal := .inl (Foot.part hF (by decide)), age := .inl (Foot.part hF (by decide)) }
  try clear_value y5
  refine syncAll_leaves ?_ (Foot.le_trans (by decide) hF)
  refine forAll_leaves ?_ fun i6 z6 h6 => ?_
  · exact h5
  · refine later_leaves ?_ (Foot.le_trans (by decide) hF)
    exact h6

theorem bootStep_leaves {F : Foot} {a₀ : State} {s : State} {bad : List Nat} {t : Tick} (h : F.leaves a₀ s) (hF : Foot.le ⟨0x0, [], [.blobs, .ports, .groups, .slices, .micro, .fab, .tb, .spad, .mem, .cal, .age, .net, .pcie, .rcd, .pwr, .fwx, .rail, .sec, .nv, .tx]⟩ F = true) :
    F.leaves a₀ (bootStep s bad t) := by
  unfold bootStep
  split
  · refine bootThree_leaves ?_ (Foot.le_trans (by decide) hF)
    exact h
  · refine Foot.ite_leaves ?_ ?_
    · exact h
    · refine bootFive_leaves ?_ (Foot.le_trans (by decide) hF)
      exact h
  · refine bootSix_leaves ?_ (Foot.le_trans (by decide) hF)
    exact h
  · refine bootSeven_leaves ?_ (Foot.le_trans (by decide) hF)
    exact h
  · refine bootEleven_leaves ?_ (Foot.le_trans (by decide) hF)
    exact h
  · exact h

theorem idleEnter_leaves {F : Foot} {a₀ : State} {s : State} {t : Tick} (h : F.leaves a₀ s) (hF : Foot.le ⟨0x3000, [0x2001, 0x2000, 0x2600], [.blobs, .ports, .groups, .slices, .micro, .scan, .cal, .rcd, .pwr, .nv, .tx]⟩ F = true) :
    F.leaves a₀ (idleEnter s t) := by
  unfold idleEnter
  extract_lets +onlyGivenNames -merge -useContext -underBinder y0
  try clear_value y0
  extract_lets +onlyGivenNames -merge -useContext -underBinder y1
  have h1 : F.leaves a₀ y1 := by
    refine set_leaves ?_ (Foot.rec_const hF (by decide))
    refine modPwr_leaves ?_ (Foot.le_trans (by decide) hF)
    exact h
  try clear_value y1
  refine quietCheck_leaves ?_ (Foot.le_trans (by decide) hF)
  refine Foot.foldl_leaves ?_ fun z2 i2 h2 => ?_
  · exact h1
  · refine groupQuiesce_leaves ?_ (Foot.le_trans (by decide) hF)
    exact h2

theorem standbyEnter_leaves {F : Foot} {a₀ : State} {s : State} {t : Tick} (h : F.leaves a₀ s) (hF : Foot.le ⟨0x3000, [0x2001, 0x2000, 0x2600], [.blobs, .ports, .groups, .slices, .micro, .scan, .cal, .rcd, .pwr, .nv, .tx]⟩ F = true) :
    F.leaves a₀ (standbyEnter s t) := by
  unfold standbyEnter
  extract_lets +onlyGivenNames -merge -useContext -underBinder y0
  try clear_value y0
  extract_lets +onlyGivenNames -merge -useContext -underBinder y1
  have h1 : F.leaves a₀ y1 := by
    refine setBit_leaves ?_ (Foot.rec_const hF (by decide))
    refine set_leaves ?_ (Foot.rec_const hF (by decide))
    refine modPwr_leaves ?_ (Foot.le_trans (by decide) hF)
    exact h
  try clear_value y1
  refine quietCheck_leaves ?_ (Foot.le_trans (by decide) hF)
  refine Foot.foldl_leaves ?_ fun z2 i2 h2 => ?_
  · exact h1
  · refine groupQuiesce_leaves ?_ (Foot.le_trans (by decide) hF)
    exact h2

theorem powerLower_leaves {F : Foot} {a₀ : State} {s : State} {req : Nat} {t : Tick} (h : F.leaves a₀ s) (hF : Foot.le ⟨0x3000, [0x2001, 0x2000, 0x2600], [.blobs, .ports, .groups, .slices, .micro, .scan, .cal, .rcd, .pwr, .nv, .tx]⟩ F = true) :
    F.leaves a₀ (powerLower s req t) := by
  unfold powerLower
  refine Foot.ite_leaves ?_ ?_
  · refine modPwr_leaves ?_ (Foot.le_trans (by decide) hF)
    exact h
  · refine Foot.ite_leaves ?_ ?_
    · refine standbyEnter_leaves ?_ (Foot.le_trans (by decide) hF)
      exact h
    · refine Foot.ite_leaves ?_ ?_
      · refine setBit_leaves ?_ (Foot.rec_const hF (by decide))
        exact h
      · refine idleEnter_leaves ?_ (Foot.le_trans (by decide) hF)
        exact h

theorem powerRetry_leaves {F : Foot} {a₀ : State} {s : State} {t : Tick} (h : F.leaves a₀ s) (hF : Foot.le ⟨0x3000, [0x2001, 0x2000, 0x2600], [.blobs, .ports, .groups, .slices, .micro, .scan, .cal, .rcd, .pwr, .nv, .tx]⟩ F = true) :
    F.leaves a₀ (powerRetry s t) := by
  unfold powerRetry
  extract_lets +onlyGivenNames -merge -useContext -underBinder y0
  refine Foot.ite_leaves ?_ ?_
  · exact h
  · refine powerLower_leaves ?_ (Foot.le_trans (by decide) hF)
    refine modPwr_leaves ?_ (Foot.le_trans (by decide) hF)
    exact h

theorem standbyNow_leaves {F : Foot} {a₀ : State} {s : State} {t : Tick} (h : F.leaves a₀ s) (hF : Foot.le ⟨0x0, [], [.now, .blobs, .ports, .groups, .slices, .micro, .fab, .scan, .tb, .spad, .mem, .mc, .cal, .age, .od, .net, .pcie, .rcd, .pwr, .fwx, .rail, .lm, .sec, .nv, .tx, .resp]⟩ F = true) :
    F.leaves a₀ (standbyNow s t) := by
  unfold standbyNow
  extract_lets +onlyGivenNames -merge -useContext -underBinder y0
  extract_lets +onlyGivenNames -merge -useContext -underBinder y1
  extract_lets +onlyGivenNames -merge -useContext -underBinder y2
  have h2 : F.leaves a₀ y2 := by
    refine modPwr_leaves ?_ (Foot.le_trans (by decide) hF)
    refine set_leaves ?_ (Foot.rec_any hF (by decide))
    refine set_leaves ?_ (Foot.rec_any hF (by decide))
    refine deviceReset_leaves ?_ (Foot.le_trans (by decide) hF)
    exact h
  try clear_value y2
  refine out_leaves ?_ (Foot.le_trans (by decide) hF)
  exact h2

theorem standbyTry_leaves {F : Foot} {a₀ : State} {s : State} {t : Tick} (h : F.leaves a₀ s) (hF : Foot.le ⟨0x1220, [], [.groups, .net, .rcd, .pwr, .rail, .nv, .tx]⟩ F = true) :
    F.leaves a₀ (standbyTry s t) := by
  unfold standbyTry
  split
  · extract_lets +onlyGivenNames -merge -useContext -underBinder y0
    have h0 : F.leaves a₀ y0 := by
      refine modPwr_leaves ?_ (Foot.le_trans (by decide) hF)
      exact h
    try clear_value y0
    refine Foot.ite_leaves ?_ ?_
    · refine requestSave_leaves ?_ (Foot.le_trans (by decide) hF)
      exact h0
    · exact h0
  · refine Foot.ite_leaves ?_ ?_
    · exact h
    · refine modPwr_leaves ?_ (Foot.le_trans (by decide) hF)
      refine recPowerFail_leaves ?_ (Foot.le_trans (by decide) hF)
      exact h
  · refine Foot.ite_leaves ?_ ?_
    · exact h
    · refine modPwr_leaves ?_ (Foot.le_trans (by decide) hF)
      refine recKick_leaves ?_ (Foot.le_trans (by decide) hF)
      refine headerDue_leaves ?_ (Foot.le_trans (by decide) hF)
      exact h
  · refine Foot.ite_leaves ?_ ?_
    · exact h
    · refine railsStart_leaves ?_ (Foot.le_trans (by decide) hF)
      refine modPwr_leaves ?_ (Foot.le_trans (by decide) hF)
      refine sessCloseAll_leaves ?_ (Foot.le_trans (by decide) hF)
      exact h
  · exact h

theorem standbyQuiet_leaves {F : Foot} {a₀ : State} {s : State} (h : F.leaves a₀ s) (hF : Foot.le ⟨0x10000, [], [.pwr]⟩ F = true) :
    F.leaves a₀ (standbyQuiet s) := by
  unfold standbyQuiet
  refine Foot.ite_leaves ?_ ?_
  · refine modPwr_leaves ?_ (Foot.le_trans (by decide) hF)
    exact h
  · exact h

theorem standbyWake_leaves {F : Foot} {a₀ : State} {s : State} (h : F.leaves a₀ s) (hF : Foot.le ⟨0x10000, [], [.pwr, .tx]⟩ F = true) :
    F.leaves a₀ (standbyWake s) := by
  unfold standbyWake
  refine out_leaves ?_ (Foot.le_trans (by decide) hF)
  refine modPwr_leaves ?_ (Foot.le_trans (by decide) hF)
  exact h

theorem railJobDone_leaves {F : Foot} {a₀ : State} {s : State} {job : RailJob} {ok : Bool} {t : Tick} (h : F.leaves a₀ s) (hF : Foot.le ⟨0x0, [], [.now, .blobs, .ports, .groups, .slices, .micro, .fab, .scan, .tb, .spad, .mem, .mc, .cal, .age, .od, .net, .pcie, .rcd, .pwr, .fwx, .rail, .lm, .sec, .nv, .tx, .resp]⟩ F = true) :
    F.leaves a₀ (railJobDone s job ok t) := by
  unfold railJobDone
  split
  · refine bootEight_leaves ?_ (Foot.le_trans (by decide) hF)
    exact h
  · refine gateDone_leaves ?_ (Foot.le_trans (by decide) hF)
    exact h
  · refine Foot.ite_leaves ?_ ?_
    · refine modGx_leaves ?_ (Foot.le_trans (by decide) hF)
      exact h
    · refine modGx_leaves ?_ (Foot.le_trans (by decide) hF)
      exact h
  · refine standbyNow_leaves ?_ (Foot.le_trans (by decide) hF)
    exact h

theorem railFinish_leaves {F : Foot} {a₀ : State} {s : State} {t : Tick} {n : Nat} (h : F.leaves a₀ s) (hF : Foot.le ⟨0x0, [], [.now, .blobs, .ports, .groups, .slices, .micro, .fab, .scan, .tb, .spad, .mem, .mc, .cal, .age, .od, .net, .pcie, .rcd, .pwr, .fwx, .rail, .lm, .sec, .nv, .tx, .resp]⟩ F = true) :
    F.leaves a₀ (railFinish s t n) := by
  induction n generalizing s with
  | zero => exact h
  | succ n ih =>
    unfold railFinish
    split
    · exact h
    · exact ih (railJobDone_leaves (modRail_leaves h (Foot.le_trans (by decide) hF)) (Foot.le_trans (by decide) hF))

theorem pfwActions_leaves {F : Foot} {a₀ : State} {s : State} {t : Tick} (h : F.leaves a₀ s) (hF : Foot.le ⟨0x3000, [0x2001, 0x2000], [.ports, .groups, .slices, .micro, .cal, .rcd, .pwr, .nv, .tx]⟩ F = true) :
    F.leaves a₀ (pfwActions s t) := by
  unfold pfwActions
  extract_lets +onlyGivenNames -merge -useContext -underBinder y0
  have h0 : F.leaves a₀ y0 := by
    refine recPowerFail_leaves ?_ (Foot.le_trans (by decide) hF)
    refine setBit_leaves ?_ (Foot.rec_const hF (by decide))
    exact h
  try clear_value y0
  split
  · refine disableAll_leaves ?_ (Foot.le_trans (by decide) hF)
    exact h0
  · refine forAll_leaves ?_ fun i1 z1 h1 => ?_
    · refine modPwr_leaves ?_ (Foot.le_trans (by decide) hF)
      exact h0
    · refine clearPort_leaves ?_ (Foot.le_trans (by decide) hF)
      exact h1
  · exact h0

theorem pfwOver_leaves {F : Foot} {a₀ : State} {s : State} {t : Tick} (h : F.leaves a₀ s) (hF : Foot.le ⟨0x4000, [], [.ports, .rcd, .pwr, .tx]⟩ F = true) :
    F.leaves a₀ (pfwOver s t) := by
  unfold pfwOver
  refine Foot.ite_leaves ?_ ?_
  · exact h
  · extract_lets +onlyGivenNames -merge -useContext -underBinder y0
    have h0 : F.leaves a₀ y0 := by
      refine forAll_leaves ?_ fun i1 z1 h1 => ?_
      · refine modPwr_leaves ?_ (Foot.le_trans (by decide) hF)
        exact h
      · refine clearEnds_leaves ?_ (Foot.le_trans (by decide) hF) (Foot.rec_floor hF (by decide))
        exact h1
    try clear_value y0
    extract_lets +onlyGivenNames -merge -useContext -underBinder y2
    have h2 : F.leaves a₀ y2 := by
      refine modRec_leaves ?_ (Foot.le_trans (by decide) hF)
      exact h0
    try clear_value y2
    refine Foot.ite_leaves ?_ ?_
    · exact h2
    · refine shedEnd_leaves ?_ (Foot.le_trans (by decide) hF)
      exact h2

/-! ### PortReq -/

theorem groupCtrlDo_leaves {F : Foot} {a₀ : State} {s : State} {g : Nat} {v : Nat} {t : Tick} (h : F.leaves a₀ s) (hF : Foot.le ⟨0x2010, [0x2000, 0x2001], [.blobs, .ports, .groups, .slices, .micro, .scan, .cal, .rcd, .pwr, .rail, .nv, .tx]⟩ F = true) :
    F.leaves a₀ (groupCtrlDo s g v t) := by
  unfold groupCtrlDo
  extract_lets +onlyGivenNames -merge -useContext -underBinder y0
  extract_lets +onlyGivenNames -merge -useContext -underBinder y1
  extract_lets +onlyGivenNames -merge -useContext -underBinder y2
  split
  · refine groupQuiesce_leaves ?_ (Foot.le_trans (by decide) hF)
    exact h
  · refine Foot.ite_leaves ?_ ?_
    · refine groupLeave_leaves ?_ (Foot.le_trans (by decide) hF)
      exact h
    · refine Foot.ite_leaves ?_ ?_
      · refine setBit_leaves ?_ (Foot.rec_key (Foot.rec_floor hF (by decide)))
        exact h
      · exact h
  · refine Foot.ite_leaves ?_ ?_
    · refine quietCheck_leaves ?_ (Foot.le_trans (by decide) hF)
      refine gateStart_leaves ?_ (Foot.le_trans (by decide) hF) (Foot.rec_floor hF (by decide))
      exact h
    · try unfold y2
      beta_reduce
      refine setBit_leaves ?_ (Foot.rec_key (Foot.rec_floor hF (by decide)))
      exact h
  · refine Foot.ite_leaves ?_ ?_
    · exact h
    · refine Foot.ite_leaves ?_ ?_
      · refine ungateStart_leaves ?_ (Foot.le_trans (by decide) hF)
        exact h
      · refine Foot.ite_leaves ?_ ?_
        · try unfold y2
          beta_reduce
          refine setBit_leaves ?_ (Foot.rec_key (Foot.rec_floor hF (by decide)))
          exact h
        · exact h
  · exact h

theorem groupCtrl_leaves {F : Foot} {a₀ : State} {who : Nat} {g : Nat} {v : Nat} {t : Tick} {s : State} (h : F.leaves a₀ s) (hF : Foot.le ⟨0x2010, [0x2000, 0x2001], [.blobs, .ports, .groups, .slices, .micro, .scan, .cal, .rcd, .pwr, .rail, .nv, .tx, .resp]⟩ F = true) :
    F.leaves a₀ (groupCtrl who g v t s) := by
  unfold groupCtrl
  refine cmdWrite_leaves ?_ (Foot.le_trans (by decide) hF) (fun i0 z0 h0 => ?_) fun z1 h1 => ?_
  · exact h
  · refine when_leaves ?_ fun z2 h2 => ?_
    · exact h0
    · refine setBit_leaves ?_ (Foot.rec_key (Foot.rec_floor hF (by decide)))
      exact h2
  · refine groupCtrlDo_leaves ?_ (Foot.le_trans (by decide) hF)
    exact h1

theorem portCtrl_leaves {F : Foot} {a₀ : State} {who : Nat} {p : Nat} {v : Nat} {t : Tick} {s : State} (h : F.leaves a₀ s) (hF : Foot.le ⟨0x2380, [0x1220, 0x1221, 0x1222, 0x1223, 0x2000, 0x2001], [.blobs, .ports, .groups, .slices, .micro, .fab, .scan, .spad, .mem, .mc, .cal, .od, .net, .pcie, .rcd, .pwr, .nv, .tx, .resp]⟩ F = true) :
    F.leaves a₀ (portCtrl who p v t s) := by
  unfold portCtrl
  extract_lets +onlyGivenNames -merge -useContext -underBinder y0
  refine cmdSubmit_leaves ?_ (Foot.le_trans (by decide) hF) (fun i1 z1 h1 => ?_) fun z2 h2 => ?_
  · exact h
  · refine when_leaves ?_ fun z3 h3 => ?_
    · exact h1
    · refine setBit_leaves ?_ (Foot.rec_key (Foot.rec_floor hF (by decide)))
      exact h3
  · refine Foot.ite_leaves ?_ ?_
    · refine gcSend_leaves ?_ (Foot.le_trans (by decide) hF)
      exact h2
    · refine Foot.ite_leaves ?_ ?_
      · extract_lets +onlyGivenNames -merge -useContext -underBinder y4
        have h4 : F.leaves a₀ y4 := by
          refine rotDisable_leaves ?_ (Foot.le_trans (by decide) hF)
          exact h2
        try clear_value y4
        refine gcSend_leaves ?_ (Foot.le_trans (by decide) hF)
        exact h4
      · refine accept_leaves ?_ (Foot.le_trans (by decide) hF)
        refine jConfig_leaves ?_ (Foot.le_trans (by decide) hF)
        exact h2

theorem portSubmit_leaves {F : Foot} {a₀ : State} {s : State} {who : Nat} {p : Nat} {key : Nat} {v : Nat} {waits : Bool} {t : Tick} (h : F.leaves a₀ s) (hF : Foot.le ⟨0x2380, [0x1220, 0x1221, 0x1222, 0x1223, 0x2000, 0x2001], [.blobs, .ports, .groups, .slices, .micro, .fab, .scan, .spad, .mem, .mc, .cal, .od, .net, .pcie, .rcd, .pwr, .nv, .tx, .resp]⟩ F = true) (r0 : F.covers ((key) / 256)) :
    F.leaves a₀ (portSubmit s who p key v waits t) := by
  unfold portSubmit
  refine gcSend_leaves ?_ (Foot.le_trans (by decide) hF) (by intro k o v e; cases e; exact r0)
  refine markDirty_leaves ?_ (Foot.le_trans (by decide) hF)
  exact h

theorem spanWrite_leaves {F : Foot} {a₀ : State} {who : Nat} {p : Nat} {v : Nat} {t : Tick} {s : State} (h : F.leaves a₀ s) (hF : Foot.le ⟨0x2380, [0x1220, 0x1221, 0x1222, 0x1223, 0x2000, 0x2001], [.blobs, .ports, .groups, .slices, .micro, .fab, .scan, .spad, .mem, .mc, .cal, .od, .net, .pcie, .rcd, .pwr, .nv, .tx, .resp]⟩ F = true) :
    F.leaves a₀ (spanWrite who p v t s) := by
  unfold spanWrite
  extract_lets +onlyGivenNames -merge -useContext -underBinder y0
  refine cmdSubmit_leaves ?_ (Foot.le_trans (by decide) hF) (fun i1 z1 h1 => ?_) fun z2 h2 => ?_
  · exact h
  · refine noMark_leaves ?_ (Foot.le_trans (by decide) hF)
    exact h1
  · refine when_leaves ?_ fun z3 h3 => ?_
    · refine portSubmit_leaves ?_ (Foot.le_trans (by decide) hF) (Foot.rec_key (Foot.rec_floor hF (by decide)))
      exact h2
    · refine spanAwaits_leaves ?_ (Foot.le_trans (by decide) hF) (Foot.rec_floor hF (by decide))
      exact h3

theorem forceCtrl_leaves {F : Foot} {a₀ : State} {who : Nat} {p : Nat} {v : Nat} {t : Tick} {s : State} (h : F.leaves a₀ s) (hF : Foot.le ⟨0x2380, [0x1220, 0x1221, 0x1222, 0x1223, 0x2000, 0x2001], [.blobs, .ports, .groups, .slices, .micro, .fab, .scan, .spad, .mem, .mc, .cal, .od, .net, .pcie, .rcd, .pwr, .nv, .tx, .resp]⟩ F = true) :
    F.leaves a₀ (forceCtrl who p v t s) := by
  unfold forceCtrl
  extract_lets +onlyGivenNames -merge -useContext -underBinder y0
  refine cmdSubmit_leaves ?_ (Foot.le_trans (by decide) hF) (fun i1 z1 h1 => ?_) fun z2 h2 => ?_
  · exact h
  · refine noMark_leaves ?_ (Foot.le_trans (by decide) hF)
    exact h1
  · refine gcSend_leaves ?_ (Foot.le_trans (by decide) hF)
    exact h2

theorem pgenCtrl_leaves {F : Foot} {a₀ : State} {who : Nat} {p : Nat} {v : Nat} {t : Tick} {s : State} (h : F.leaves a₀ s) (hF : Foot.le ⟨0x10000, [0x2000], [.groups, .resp]⟩ F = true) :
    F.leaves a₀ (pgenCtrl who p v t s) := by
  unfold pgenCtrl
  extract_lets +onlyGivenNames -merge -useContext -underBinder y0
  refine cmdSubmit_leaves ?_ (Foot.le_trans (by decide) hF) (fun i1 z1 h1 => ?_) fun z2 h2 => ?_
  · exact h
  · refine noMark_leaves ?_ (Foot.le_trans (by decide) hF)
    exact h1
  · extract_lets +onlyGivenNames -merge -useContext -underBinder y3
    refine gcSubmit_leaves ?_ (Foot.le_trans (by decide) hF)
    exact h2

theorem winCtrl_leaves {F : Foot} {a₀ : State} {who : Nat} {p : Nat} {v : Nat} {t : Tick} {s : State} (h : F.leaves a₀ s) (hF : Foot.le ⟨0x2380, [0x1220, 0x1221, 0x1222, 0x1223, 0x2000, 0x2001], [.blobs, .ports, .groups, .slices, .micro, .fab, .scan, .spad, .mem, .mc, .cal, .od, .net, .pcie, .rcd, .pwr, .nv, .tx, .resp]⟩ F = true) :
    F.leaves a₀ (winCtrl who p v t s) := by
  unfold winCtrl
  extract_lets +onlyGivenNames -merge -useContext -underBinder y0
  refine cmdSubmit_leaves ?_ (Foot.le_trans (by decide) hF) (fun i1 z1 h1 => ?_) fun z2 h2 => ?_
  · exact h
  · refine noMark_leaves ?_ (Foot.le_trans (by decide) hF)
    exact h1
  · refine gcSend_leaves ?_ (Foot.le_trans (by decide) hF)
    exact h2

theorem runStateWrite_leaves {F : Foot} {a₀ : State} {who : Nat} {c : Nat} {v : Nat} {t : Tick} {s : State} (h : F.leaves a₀ s) (hF : Foot.le ⟨0x4000, [0x2000, 0x2400], [.ports, .groups, .micro, .od, .rcd, .nv, .resp]⟩ F = true) :
    F.leaves a₀ (runStateWrite who c v t s) := by
  unfold runStateWrite
  extract_lets +onlyGivenNames -merge -useContext -underBinder y0
  extract_lets +onlyGivenNames -merge -useContext -underBinder y1
  refine cmdRun_leaves ?_ (Foot.le_trans (by decide) hF) (fun i2 z2 h2 => ?_) fun z3 h3 => ?_
  · exact h
  · refine noMark_leaves ?_ (Foot.le_trans (by decide) hF)
    exact h2
  · refine Foot.ite_leaves ?_ ?_
    · refine gcSubmit_leaves ?_ (Foot.le_trans (by decide) hF)
      exact h3
    · extract_lets +onlyGivenNames -merge -useContext -underBinder y4
      have h4 : F.leaves a₀ y4 := by
        refine jConfig_leaves ?_ (Foot.le_trans (by decide) hF)
        exact h3
      try clear_value y4
      extract_lets +onlyGivenNames -merge -useContext -underBinder y5
      have h5 : F.leaves a₀ y5 := by
        refine Foot.ite_leaves ?_ ?_
        · refine selectAt_leaves ?_ (Foot.le_trans (by decide) hF)
          refine enqueue_leaves ?_ (Foot.le_trans (by decide) hF)
          exact h4
        · refine Foot.ite_leaves ?_ ?_
          · refine leaveQueue_leaves ?_ (Foot.le_trans (by decide) hF) (Foot.rec_floor hF (by decide)) (Foot.rec_floor hF (by decide))
            exact h4
          · refine set_leaves ?_ (Foot.rec_key (Foot.rec_floor hF (by decide)))
            exact h4
      try clear_value y5
      refine accept_leaves ?_ (Foot.le_trans (by decide) hF)
      exact h5

theorem seqHoldWrite_leaves {F : Foot} {a₀ : State} {who : Nat} {p : Nat} {v : Nat} {t : Tick} {s : State} (h : F.leaves a₀ s) (hF : Foot.le ⟨0x2380, [0x1220, 0x1221, 0x1222, 0x1223, 0x2000, 0x2001], [.blobs, .ports, .groups, .slices, .micro, .fab, .scan, .spad, .mem, .mc, .cal, .od, .net, .pcie, .rcd, .pwr, .nv, .tx, .resp]⟩ F = true) :
    F.leaves a₀ (seqHoldWrite who p v t s) := by
  unfold seqHoldWrite
  extract_lets +onlyGivenNames -merge -useContext -underBinder y0
  refine cmdSubmit_leaves ?_ (Foot.le_trans (by decide) hF) (fun i1 z1 h1 => ?_) fun z2 h2 => ?_
  · exact h
  · refine noMark_leaves ?_ (Foot.le_trans (by decide) hF)
    exact h1
  · refine gcSend_leaves ?_ (Foot.le_trans (by decide) hF) (by intro k o v e; cases e; exact Foot.rec_key (Foot.rec_floor hF (by decide)))
    exact h2

theorem listExpand_leaves {F : Foot} {a₀ : State} {s : State} {l : Nat} (h : F.leaves a₀ s) (hF : Foot.le ⟨0x10000, [], [.spad, .mem]⟩ F = true) :
    F.leaves a₀ (listExpand s l) := by
  unfold listExpand
  refine Foot.ite_leaves ?_ ?_
  · exact h
  · extract_lets +onlyGivenNames -merge -useContext -underBinder y0
    try clear_value y0
    refine Foot.foldl_leaves ?_ fun z1 i1 h1 => ?_
    · exact h
    · refine spadPutAll_leaves ?_ (Foot.le_trans (by decide) hF)
      exact h1

theorem commitDo_leaves {F : Foot} {a₀ : State} {s : State} {l : Nat} (h : F.leaves a₀ s) (hF : Foot.le ⟨0x10000, [0x8000], [.spad, .mem, .rcd]⟩ F = true) (r0 : F.covers (0x7000 + l)) :
    F.leaves a₀ (commitDo s l) := by
  unfold commitDo
  extract_lets +onlyGivenNames -merge -useContext -underBinder y0
  have h0 : F.leaves a₀ y0 := by
    refine listExpand_leaves ?_ (Foot.le_trans (by decide) hF)
    exact h
  try clear_value y0
  extract_lets +onlyGivenNames -merge -useContext -underBinder y1
  have h1 : F.leaves a₀ y1 := by
    refine set_leaves ?_ (Foot.rec_key r0)
    refine set_leaves ?_ (Foot.rec_key r0)
    exact h0
  try clear_value y1
  refine jList_leaves ?_ (Foot.le_trans (by decide) hF)
  exact h1

theorem commitWrite_leaves {F : Foot} {a₀ : State} {who : Nat} {l : Nat} {v : Nat} {s : State} (h : F.leaves a₀ s) (hF : Foot.le ⟨0x10000, [0x8000, 0x2000], [.spad, .mem, .rcd, .resp]⟩ F = true) (r0 : F.covers (0x7000 + l)) :
    F.leaves a₀ (commitWrite who l v s) := by
  unfold commitWrite
  refine cmdWrite_leaves ?_ (Foot.le_trans (by decide) hF) (fun i0 z0 h0 => ?_) fun z1 h1 => ?_
  · exact h
  · refine noMark_leaves ?_ (Foot.le_trans (by decide) hF)
    exact h0
  · refine commitDo_leaves ?_ (Foot.le_trans (by decide) hF) r0
    exact h1

/-! ### DevReq -/

theorem cfgSaveWrite_leaves {F : Foot} {a₀ : State} {who : Nat} {v : Nat} {s : State} (h : F.leaves a₀ s) (hF : Foot.le ⟨0x10000, [0x2000, 0x8000], [.rcd, .nv, .resp]⟩ F = true) :
    F.leaves a₀ (cfgSaveWrite who v s) := by
  unfold cfgSaveWrite
  refine cmdWrite_leaves ?_ (Foot.le_trans (by decide) hF) (fun i0 z0 h0 => ?_) fun z1 h1 => ?_
  · exact h
  · refine noMark_leaves ?_ (Foot.le_trans (by decide) hF)
    exact h0
  · refine requestSave_leaves ?_ (Foot.le_trans (by decide) hF)
    exact h1

theorem powerDo_leaves {F : Foot} {a₀ : State} {s : State} {v : Nat} {t : Tick} (h : F.leaves a₀ s) (hF : Foot.le ⟨0x3000, [0x2001, 0x2000, 0x2600], [.blobs, .ports, .groups, .slices, .micro, .scan, .cal, .rcd, .pwr, .nv, .tx]⟩ F = true) :
    F.leaves a₀ (powerDo s v t) := by
  unfold powerDo
  split
  · refine Foot.ite_leaves ?_ ?_
    · refine idleWake_leaves ?_ (Foot.le_trans (by decide) hF)
      exact h
    · refine setBit_leaves ?_ (Foot.rec_const hF (by decide))
      exact h
  · refine later_leaves ?_ (Foot.le_trans (by decide) hF)
    exact h
  · refine powerLower_leaves ?_ (Foot.le_trans (by decide) hF)
    exact h

theorem powerReq_leaves {F : Foot} {a₀ : State} {who : Nat} {v : Nat} {t : Tick} {s : State} (h : F.leaves a₀ s) (hF : Foot.le ⟨0x3000, [0x2001, 0x2000, 0x2600], [.blobs, .ports, .groups, .slices, .micro, .scan, .cal, .rcd, .pwr, .nv, .tx, .resp]⟩ F = true) :
    F.leaves a₀ (powerReq who v t s) := by
  unfold powerReq
  refine cmdWrite_leaves ?_ (Foot.le_trans (by decide) hF) (fun i0 z0 h0 => ?_) fun z1 h1 => ?_
  · exact h
  · refine noMark_leaves ?_ (Foot.le_trans (by decide) hF)
    exact h0
  · refine powerDo_leaves ?_ (Foot.le_trans (by decide) hF)
    exact h1

theorem taiSetWrite_leaves {F : Foot} {a₀ : State} {who : Nat} {v : Nat} {t : Tick} {s : State} (h : F.leaves a₀ s) (hF : Foot.le ⟨0x10000, [0x8000, 0x2000], [.tb, .rcd, .resp]⟩ F = true) :
    F.leaves a₀ (taiSetWrite who v t s) := by
  unfold taiSetWrite
  refine cmdWrite_leaves ?_ (Foot.le_trans (by decide) hF) (fun i0 z0 h0 => ?_) fun z1 h1 => ?_
  · exact h
  · refine noMark_leaves ?_ (Foot.le_trans (by decide) hF)
    exact h0
  · refine modTb_leaves ?_ (Foot.le_trans (by decide) hF)
    exact h1

theorem resyncWrite_leaves {F : Foot} {a₀ : State} {who : Nat} {v : Nat} {s : State} (h : F.leaves a₀ s) (hF : Foot.le ⟨0x10000, [0x2100, 0x8000, 0x2000], [.now, .tb, .rcd, .resp]⟩ F = true) :
    F.leaves a₀ (resyncWrite who v s) := by
  unfold resyncWrite
  refine cmdWrite_leaves ?_ (Foot.le_trans (by decide) hF) (fun i0 z0 h0 => ?_) fun z1 h1 => ?_
  · exact h
  · refine noMark_leaves ?_ (Foot.le_trans (by decide) hF)
    exact h0
  · refine syncLoad_leaves ?_ (Foot.le_trans (by decide) hF)
    exact h1

theorem fireWrite_leaves {F : Foot} {a₀ : State} {who : Nat} {e : Nat} {v : Nat} {t : Tick} {s : State} (h : F.leaves a₀ s) (hF : Foot.le ⟨0x10000, [0x8000, 0x1220, 0x1221, 0x1222, 0x1223, 0x2000], [.fab, .net, .pcie, .rcd, .resp]⟩ F = true) (r0 : F.covers (0x5000 + e)) :
    F.leaves a₀ (fireWrite who e v t s) := by
  unfold fireWrite
  extract_lets +onlyGivenNames -merge -useContext -underBinder y0
  refine cmdWrite_leaves ?_ (Foot.le_trans (by decide) hF) (fun i1 z1 h1 => ?_) fun z2 h2 => ?_
  · exact h
  · refine noMark_leaves ?_ (Foot.le_trans (by decide) hF)
    exact h1
  · refine channelEvent_leaves ?_ (Foot.le_trans (by decide) hF) r0
    exact h2

theorem chEnWrite_leaves {F : Foot} {a₀ : State} {who : Nat} {e : Nat} {v : Nat} {s : State} (h : F.leaves a₀ s) (hF : Foot.le ⟨0x10000, [0x2000, 0x8000], [.od, .rcd, .nv, .resp]⟩ F = true) (r0 : F.covers (0x5000 + e)) :
    F.leaves a₀ (chEnWrite who e v s) := by
  unfold chEnWrite
  extract_lets +onlyGivenNames -merge -useContext -underBinder y0
  refine cmdWrite_leaves ?_ (Foot.le_trans (by decide) hF) (fun i1 z1 h1 => ?_) fun z2 h2 => ?_
  · exact h
  · refine noMark_leaves ?_ (Foot.le_trans (by decide) hF)
    exact h1
  · extract_lets +onlyGivenNames -merge -useContext -underBinder y3
    try clear_value y3
    extract_lets +onlyGivenNames -merge -useContext -underBinder y4
    have h4 : F.leaves a₀ y4 := by
      refine markDirty_leaves ?_ (Foot.le_trans (by decide) hF)
      refine set_leaves ?_ (Foot.rec_key r0)
      exact h2
    try clear_value y4
    refine Foot.ite_leaves ?_ ?_
    · refine leaveConfig_leaves ?_ (Foot.le_trans (by decide) hF)
      exact h4
    · exact h4

theorem regionEnWrite_leaves {F : Foot} {a₀ : State} {who : Nat} {r : Nat} {v : Nat} {s : State} (h : F.leaves a₀ s) (hF : Foot.le ⟨0x10000, [0x2000, 0x8000], [.spad, .mem, .od, .rcd, .nv, .resp]⟩ F = true) (r0 : F.covers (0x2340 + r)) :
    F.leaves a₀ (regionEnWrite who r v s) := by
  unfold regionEnWrite
  extract_lets +onlyGivenNames -merge -useContext -underBinder y0
  refine cmdWrite_leaves ?_ (Foot.le_trans (by decide) hF) (fun i1 z1 h1 => ?_) fun z2 h2 => ?_
  · exact h
  · refine noMark_leaves ?_ (Foot.le_trans (by decide) hF)
    exact h1
  · extract_lets +onlyGivenNames -merge -useContext -underBinder y3
    try clear_value y3
    extract_lets +onlyGivenNames -merge -useContext -underBinder y4
    have h4 : F.leaves a₀ y4 := by
      refine markDirty_leaves ?_ (Foot.le_trans (by decide) hF)
      exact h2
    try clear_value y4
    refine Foot.ite_leaves ?_ ?_
    · refine leaveConfig_leaves ?_ (Foot.le_trans (by decide) hF)
      refine regionOn_leaves ?_ (Foot.le_trans (by decide) hF) r0
      exact h4
    · refine Foot.ite_leaves ?_ ?_
      · refine regionOff_leaves ?_ (Foot.le_trans (by decide) hF) r0
        exact h4
      · exact h4

theorem ringEnWrite_leaves {F : Foot} {a₀ : State} {who : Nat} {r : Nat} {v : Nat} {s : State} (h : F.leaves a₀ s) (hF : Foot.le ⟨0x10000, [0x2000, 0x8000], [.groups, .spad, .mem, .od, .rcd, .nv, .resp]⟩ F = true) (r0 : F.covers (0x2380 + r)) :
    F.leaves a₀ (ringEnWrite who r v s) := by
  unfold ringEnWrite
  extract_lets +onlyGivenNames -merge -useContext -underBinder y0
  refine cmdWrite_leaves ?_ (Foot.le_trans (by decide) hF) (fun i1 z1 h1 => ?_) fun z2 h2 => ?_
  · exact h
  · refine noMark_leaves ?_ (Foot.le_trans (by decide) hF)
    exact h1
  · extract_lets +onlyGivenNames -merge -useContext -underBinder y3
    try clear_value y3
    extract_lets +onlyGivenNames -merge -useContext -underBinder y4
    have h4 : F.leaves a₀ y4 := by
      refine markDirty_leaves ?_ (Foot.le_trans (by decide) hF)
      exact h2
    try clear_value y4
    refine Foot.ite_leaves ?_ ?_
    · refine leaveConfig_leaves ?_ (Foot.le_trans (by decide) hF)
      refine ringOn_leaves ?_ (Foot.le_trans (by decide) hF) r0
      exact h4
    · refine Foot.ite_leaves ?_ ?_
      · refine ringOff_leaves ?_ (Foot.le_trans (by decide) hF) r0
        exact h4
      · exact h4

theorem consHostWrite_leaves {F : Foot} {a₀ : State} {who : Nat} {r : Nat} {v : Nat} {s : State} (h : F.leaves a₀ s) (hF : Foot.le ⟨0x10000, [0x8000, 0x2000], [.spad, .mem, .rcd, .resp]⟩ F = true) (r0 : F.covers (0x2380 + r)) :
    F.leaves a₀ (consHostWrite who r v s) := by
  unfold consHostWrite
  extract_lets +onlyGivenNames -merge -useContext -underBinder y0
  refine cmdWrite_leaves ?_ (Foot.le_trans (by decide) hF) (fun i1 z1 h1 => ?_) fun z2 h2 => ?_
  · exact h
  · refine noMark_leaves ?_ (Foot.le_trans (by decide) hF)
    exact h1
  · refine consSet_leaves ?_ (Foot.le_trans (by decide) hF) r0
    exact h2

theorem btRequestWrite_leaves {F : Foot} {a₀ : State} {who : Nat} {v : Nat} {s : State} (h : F.leaves a₀ s) (hF : Foot.le ⟨0x10000, [0x8000, 0x2000], [.mem, .rcd, .resp]⟩ F = true) :
    F.leaves a₀ (btRequestWrite who v s) := by
  unfold btRequestWrite
  refine cmdWrite_leaves ?_ (Foot.le_trans (by decide) hF) (fun i0 z0 h0 => ?_) fun z1 h1 => ?_
  · exact h
  · refine noMark_leaves ?_ (Foot.le_trans (by decide) hF)
    exact h0
  · refine modMem_leaves ?_ (Foot.le_trans (by decide) hF)
    exact h1

theorem mcReqWrite_leaves {F : Foot} {a₀ : State} {who : Nat} {v : Nat} {t : Tick} {s : State} (h : F.leaves a₀ s) (hF : Foot.le ⟨0x10000, [0x2500, 0x8000, 0x2000], [.mc, .rcd, .resp]⟩ F = true) :
    F.leaves a₀ (mcReqWrite who v t s) := by
  unfold mcReqWrite
  refine cmdWrite_leaves ?_ (Foot.le_trans (by decide) hF) (fun i0 z0 h0 => ?_) fun z1 h1 => ?_
  · exact h
  · refine noMark_leaves ?_ (Foot.le_trans (by decide) hF)
    exact h0
  · extract_lets +onlyGivenNames -merge -useContext -underBinder y2
    have h2 : F.leaves a₀ y2 := by
      refine modMc_leaves ?_ (Foot.le_trans (by decide) hF)
      exact h1
    try clear_value y2
    extract_lets +onlyGivenNames -merge -useContext -underBinder y3
    try clear_value y3
    refine Foot.ite_leaves ?_ ?_
    · refine mcUrgent_leaves ?_ (Foot.le_trans (by decide) hF)
      exact h2
    · refine mcSchedule_leaves ?_ (Foot.le_trans (by decide) hF)
      exact h2

theorem xferRequest_leaves {F : Foot} {a₀ : State} {s : State} {t : Tick} (h : F.leaves a₀ s) (hF : Foot.le ⟨0x10000, [0x2600], [.cal]⟩ F = true) :
    F.leaves a₀ (xferRequest s t) := by
  unfold xferRequest
  refine Foot.ite_leaves ?_ ?_
  · exact h
  · refine xferTry_leaves ?_ (Foot.le_trans (by decide) hF)
    exact { h with cal := .inl (Foot.part hF (by decide)) }

theorem refXferWrite_leaves {F : Foot} {a₀ : State} {who : Nat} {v : Nat} {t : Tick} {s : State} (h : F.leaves a₀ s) (hF : Foot.le ⟨0x10000, [0x2600, 0x8000, 0x2000], [.cal, .rcd, .resp]⟩ F = true) :
    F.leaves a₀ (refXferWrite who v t s) := by
  unfold refXferWrite
  refine cmdWrite_leaves ?_ (Foot.le_trans (by decide) hF) (fun i0 z0 h0 => ?_) fun z1 h1 => ?_
  · exact h
  · refine noMark_leaves ?_ (Foot.le_trans (by decide) hF)
    exact h0
  · refine xferRequest_leaves ?_ (Foot.le_trans (by decide) hF)
    exact h1

theorem rotRequestWrite_leaves {F : Foot} {a₀ : State} {who : Nat} {g : Nat} {v : Nat} {t : Tick} {s : State} (h : F.leaves a₀ s) (hF : Foot.le ⟨0x3000, [0x2000, 0x2001, 0x2600], [.ports, .groups, .slices, .micro, .cal, .rcd, .pwr, .nv, .tx, .resp]⟩ F = true) :
    F.leaves a₀ (rotRequestWrite who g v t s) := by
  unfold rotRequestWrite
  refine cmdWrite_leaves ?_ (Foot.le_trans (by decide) hF) (fun i0 z0 h0 => ?_) fun z1 h1 => ?_
  · exact h
  · refine noMark_leaves ?_ (Foot.le_trans (by decide) hF)
    exact h0
  · refine rotTrigger_leaves ?_ (Foot.le_trans (by decide) hF)
    exact h1

theorem wornReqWrite_leaves {F : Foot} {a₀ : State} {who : Nat} {i : Nat} {v : Nat} {s : State} (h : F.leaves a₀ s) (hF : Foot.le ⟨0x10000, [0x8000, 0x2000], [.slices, .rcd, .resp]⟩ F = true) :
    F.leaves a₀ (wornReqWrite who i v s) := by
  unfold wornReqWrite
  refine cmdWrite_leaves ?_ (Foot.le_trans (by decide) hF) (fun i0 z0 h0 => ?_) fun z1 h1 => ?_
  · exact h
  · refine noMark_leaves ?_ (Foot.le_trans (by decide) hF)
    exact h0
  · refine modSx_leaves ?_ (Foot.le_trans (by decide) hF)
    exact h1

theorem closeWrite_leaves {F : Foot} {a₀ : State} {who : Nat} {k : Nat} {v : Nat} {s : State} (h : F.leaves a₀ s) (hF : Foot.le ⟨0x10000, [0x8000, 0x2000], [.groups, .net, .rcd, .tx, .resp]⟩ F = true) (r0 : F.covers (0x1220 + k)) :
    F.leaves a₀ (closeWrite who k v s) := by
  unfold closeWrite
  refine cmdWrite_leaves ?_ (Foot.le_trans (by decide) hF) (fun i0 z0 h0 => ?_) fun z1 h1 => ?_
  · exact h
  · refine noMark_leaves ?_ (Foot.le_trans (by decide) hF)
    exact h0
  · refine sessClose_leaves ?_ (Foot.le_trans (by decide) hF) r0
    exact h1

theorem dmaEnWrite_leaves {F : Foot} {a₀ : State} {who : Nat} {r : Nat} {v : Nat} {t : Tick} {s : State} (h : F.leaves a₀ s) (hF : Foot.le ⟨0x10000, [0x2000, 0x8000], [.pcie, .rcd, .tx, .resp]⟩ F = true) (r0 : F.covers (0x1110 + r)) :
    F.leaves a₀ (dmaEnWrite who r v t s) := by
  unfold dmaEnWrite
  extract_lets +onlyGivenNames -merge -useContext -underBinder y0
  refine cmdWriteBy_leaves ?_ (Foot.le_trans (by decide) hF) (fun i1 z1 h1 => ?_) fun z2 h2 => ?_
  · exact h
  · refine noMark_leaves ?_ (Foot.le_trans (by decide) hF)
    exact h1
  · extract_lets +onlyGivenNames -merge -useContext -underBinder y3
    have h3 : F.leaves a₀ y3 := by
      refine markDirty_leaves ?_ (Foot.le_trans (by decide) hF)
      exact h2
    try clear_value y3
    refine Foot.ite_leaves ?_ ?_
    · refine Foot.ite_leaves ?_ ?_
      · exact h3
      · refine syncDma_leaves ?_ (Foot.le_trans (by decide) hF) r0
        refine set_leaves ?_ (Foot.rec_key r0)
        exact h3
    · refine Foot.ite_leaves ?_ ?_
      · refine dmaStop_leaves ?_ (Foot.le_trans (by decide) hF) r0
        exact h3
      · exact h3

theorem descTailWrite_leaves {F : Foot} {a₀ : State} {who : Nat} {r : Nat} {v : Nat} {s : State} (h : F.leaves a₀ s) (hF : Foot.le ⟨0x10000, [0x2000, 0x8000], [.rcd, .resp]⟩ F = true) (r0 : F.covers (0x1110 + r)) :
    F.leaves a₀ (descTailWrite who r v s) := by
  unfold descTailWrite
  extract_lets +onlyGivenNames -merge -useContext -underBinder y0
  refine cmdWriteBy_leaves ?_ (Foot.le_trans (by decide) hF) (fun i1 z1 h1 => ?_) fun z2 h2 => ?_
  · exact h
  · refine noMark_leaves ?_ (Foot.le_trans (by decide) hF)
    exact h1
  · refine syncDma_leaves ?_ (Foot.le_trans (by decide) hF) r0
    refine markDirty_leaves ?_ (Foot.le_trans (by decide) hF)
    refine set_leaves ?_ (Foot.rec_key r0)
    exact h2

theorem jEnDo_leaves {F : Foot} {a₀ : State} {s : State} {v : Nat} {d : Option DriveInfo} {t : Tick} (h : F.leaves a₀ s) (hF : Foot.le ⟨0x10000, [0x8000, 0x2000], [.tb, .rcd, .tx]⟩ F = true) :
    F.leaves a₀ (jEnDo s v d t) := by
  unfold jEnDo
  extract_lets +onlyGivenNames -merge -useContext -underBinder y0
  have h0 : F.leaves a₀ y0 := by
    refine markDirty_leaves ?_ (Foot.le_trans (by decide) hF)
    refine set_leaves ?_ (Foot.rec_const hF (by decide))
    exact h
  try clear_value y0
  refine Foot.ite_leaves ?_ ?_
  · refine recStop_leaves ?_ (Foot.le_trans (by decide) hF)
    exact h0
  · refine Foot.ite_leaves ?_ ?_
    · exact h0
    · extract_lets +onlyGivenNames -merge -useContext -underBinder y1
      have h1 : F.leaves a₀ y1 := by
        refine Foot.ite_leaves ?_ ?_
        · exact h0
        · refine storeOpen_leaves ?_ (Foot.le_trans (by decide) hF)
          split
          · refine driveSeen_leaves ?_ (Foot.le_trans (by decide) hF)
            exact h0
          · exact h0
      try clear_value y1
      refine recStart_leaves ?_ (Foot.le_trans (by decide) hF)
      exact h1

theorem jEnWrite_leaves {F : Foot} {a₀ : State} {who : Nat} {v : Nat} {d : Option DriveInfo} {t : Tick} {s : State} (h : F.leaves a₀ s) (hF : Foot.le ⟨0x10000, [0x8000, 0x2000], [.tb, .rcd, .tx, .resp]⟩ F = true) :
    F.leaves a₀ (jEnWrite who v d t s) := by
  unfold jEnWrite
  refine cmdWrite_leaves ?_ (Foot.le_trans (by decide) hF) (fun i0 z0 h0 => ?_) fun z1 h1 => ?_
  · exact h
  · refine noMark_leaves ?_ (Foot.le_trans (by decide) hF)
    exact h0
  · refine jEnDo_leaves ?_ (Foot.le_trans (by decide) hF)
    exact h1

theorem storeInitDo_leaves {F : Foot} {a₀ : State} {s : State} {d : Option DriveInfo} {t : Tick} (h : F.leaves a₀ s) (hF : Foot.le ⟨0x10000, [0x8000], [.tb, .rcd, .tx]⟩ F = true) :
    F.leaves a₀ (storeInitDo s d t) := by
  unfold storeInitDo
  extract_lets +onlyGivenNames -merge -useContext -underBinder y0
  have h0 : F.leaves a₀ y0 := by
    unfold y0
    split
    · refine driveSeen_leaves ?_ (Foot.le_trans (by decide) hF)
      exact h
    · exact h
  try clear_value y0
  extract_lets +onlyGivenNames -merge -useContext -underBinder y1
  have h1 : F.leaves a₀ y1 := by
    refine modRec_leaves ?_ (Foot.le_trans (by decide) hF)
    exact h0
  try clear_value y1
  refine Foot.ite_leaves ?_ ?_
  · refine setBit_leaves ?_ (Foot.rec_const hF (by decide))
    exact h1
  · extract_lets +onlyGivenNames -merge -useContext -underBinder y2
    have h2 : F.leaves a₀ y2 := by
      refine layOut_leaves ?_ (Foot.le_trans (by decide) hF)
      refine setBit_leaves ?_ (Foot.rec_const hF (by decide))
      refine setBit_leaves ?_ (Foot.rec_const hF (by decide))
      exact h1
    try clear_value y2
    refine Foot.ite_leaves ?_ ?_
    · refine recStart_leaves ?_ (Foot.le_trans (by decide) hF)
      exact h2
    · refine recKick_leaves ?_ (Foot.le_trans (by decide) hF)
      exact h2

theorem storeInitWrite_leaves {F : Foot} {a₀ : State} {who : Nat} {v : Nat} {d : Option DriveInfo} {t : Tick} {s : State} (h : F.leaves a₀ s) (hF : Foot.le ⟨0x10000, [0x8000, 0x2000], [.tb, .rcd, .tx, .resp]⟩ F = true) :
    F.leaves a₀ (storeInitWrite who v d t s) := by
  unfold storeInitWrite
  refine cmdWrite_leaves ?_ (Foot.le_trans (by decide) hF) (fun i0 z0 h0 => ?_) fun z1 h1 => ?_
  · exact h
  · refine noMark_leaves ?_ (Foot.le_trans (by decide) hF)
    exact h0
  · refine storeInitDo_leaves ?_ (Foot.le_trans (by decide) hF)
    exact h1

theorem offloadedDo_leaves {F : Foot} {a₀ : State} {s : State} {v : Nat} {t : Tick} (h : F.leaves a₀ s) (hF : Foot.le ⟨0x10000, [0x8000, 0x2000], [.rcd, .tx]⟩ F = true) :
    F.leaves a₀ (offloadedDo s v t) := by
  unfold offloadedDo
  extract_lets +onlyGivenNames -merge -useContext -underBinder y0
  have h0 : F.leaves a₀ y0 := by
    refine markDirty_leaves ?_ (Foot.le_trans (by decide) hF)
    refine headerDue_leaves ?_ (Foot.le_trans (by decide) hF)
    refine set_leaves ?_ (Foot.rec_const hF (by decide))
    exact h
  try clear_value y0
  extract_lets +onlyGivenNames -merge -useContext -underBinder y1
  have h1 : F.leaves a₀ y1 := by
    refine when_leaves ?_ fun z2 h2 => ?_
    · exact h0
    · refine setBit_leaves ?_ (Foot.rec_const hF (by decide))
      exact h2
  try clear_value y1
  refine recKick_leaves ?_ (Foot.le_trans (by decide) hF)
  exact h1

theorem offloadedWrite_leaves {F : Foot} {a₀ : State} {who : Nat} {v : Nat} {t : Tick} {s : State} (h : F.leaves a₀ s) (hF : Foot.le ⟨0x10000, [0x8000, 0x2000], [.rcd, .tx, .resp]⟩ F = true) :
    F.leaves a₀ (offloadedWrite who v t s) := by
  unfold offloadedWrite
  refine cmdWrite_leaves ?_ (Foot.le_trans (by decide) hF) (fun i0 z0 h0 => ?_) fun z1 h1 => ?_
  · exact h
  · refine noMark_leaves ?_ (Foot.le_trans (by decide) hF)
    exact h0
  · refine offloadedDo_leaves ?_ (Foot.le_trans (by decide) hF)
    exact h1

theorem rpCtrlDo_leaves {F : Foot} {a₀ : State} {s : State} {v : Nat} {t : Tick} (h : F.leaves a₀ s) (hF : Foot.le ⟨0x10000, [0x8001], [.rcd]⟩ F = true) :
    F.leaves a₀ (rpCtrlDo s v t) := by
  unfold rpCtrlDo
  refine Foot.ite_leaves ?_ ?_
  · extract_lets +onlyGivenNames -merge -useContext -underBinder y0
    have h0 : F.leaves a₀ y0 := by
      refine set_leaves ?_ (Foot.rec_const hF (by decide))
      refine set_leaves ?_ (Foot.rec_const hF (by decide))
      exact h
    try clear_value y0
    refine modRec_leaves ?_ (Foot.le_trans (by decide) hF)
    exact h0
  · refine rpEnd_leaves ?_ (Foot.le_trans (by decide) hF)
    exact h

theorem rpCtrlWrite_leaves {F : Foot} {a₀ : State} {who : Nat} {v : Nat} {t : Tick} {s : State} (h : F.leaves a₀ s) (hF : Foot.le ⟨0x10000, [0x8001, 0x8000, 0x2000], [.rcd, .resp]⟩ F = true) :
    F.leaves a₀ (rpCtrlWrite who v t s) := by
  unfold rpCtrlWrite
  refine cmdWrite_leaves ?_ (Foot.le_trans (by decide) hF) (fun i0 z0 h0 => ?_) fun z1 h1 => ?_
  · exact h
  · refine noMark_leaves ?_ (Foot.le_trans (by decide) hF)
    exact h0
  · refine rpCtrlDo_leaves ?_ (Foot.le_trans (by decide) hF)
    exact h1

theorem railOnWrite_leaves {F : Foot} {a₀ : State} {who : Nat} {n : Nat} {v : Nat} {t : Tick} {s : State} (h : F.leaves a₀ s) (hF : Foot.le ⟨0x10000, [0x8000, 0x2000], [.rcd, .rail, .tx, .resp]⟩ F = true) (r0 : F.covers (0x2010 + n)) :
    F.leaves a₀ (railOnWrite who n v t s) := by
  unfold railOnWrite
  extract_lets +onlyGivenNames -merge -useContext -underBinder y0
  refine cmdWrite_leaves ?_ (Foot.le_trans (by decide) hF) (fun i1 z1 h1 => ?_) fun z2 h2 => ?_
  · exact h
  · refine noMark_leaves ?_ (Foot.le_trans (by decide) hF)
    exact h1
  · refine railUser_leaves ?_ (Foot.le_trans (by decide) hF) r0
    exact h2

theorem fwImageDo_leaves {F : Foot} {a₀ : State} {s : State} {i : FwImage} (h : F.leaves a₀ s) (hF : Foot.le ⟨0x10000, [0x2002], [.fwx]⟩ F = true) :
    F.leaves a₀ (fwImageDo s i) := by
  unfold fwImageDo
  refine modFw_leaves ?_ (Foot.le_trans (by decide) hF)
  refine set_leaves ?_ (Foot.rec_const hF (by decide))
  exact h

theorem fwImageWrite_leaves {F : Foot} {a₀ : State} {who : Nat} {i : FwImage} {s : State} (h : F.leaves a₀ s) (hF : Foot.le ⟨0x10000, [0x2002, 0x2000], [.fwx, .resp]⟩ F = true) :
    F.leaves a₀ (fwImageWrite who i s) := by
  unfold fwImageWrite
  refine cmdRun_leaves ?_ (Foot.le_trans (by decide) hF) (fun i0 z0 h0 => ?_) fun z1 h1 => ?_
  · exact h
  · refine noMark_leaves ?_ (Foot.le_trans (by decide) hF)
    exact h0
  · refine accept_leaves ?_ (Foot.le_trans (by decide) hF)
    refine fwImageDo_leaves ?_ (Foot.le_trans (by decide) hF)
    exact h1

theorem fwCtrlWrite_leaves {F : Foot} {a₀ : State} {who : Nat} {v : Nat} {t : Tick} {s : State} (h : F.leaves a₀ s) (hF : Foot.le ⟨0x10000, [0x2002, 0x8000, 0x2000], [.micro, .rcd, .fwx, .resp]⟩ F = true) :
    F.leaves a₀ (fwCtrlWrite who v t s) := by
  unfold fwCtrlWrite
  refine cmdWrite_leaves ?_ (Foot.le_trans (by decide) hF) (fun i0 z0 h0 => ?_) fun z1 h1 => ?_
  · exact h
  · refine noMark_leaves ?_ (Foot.le_trans (by decide) hF)
    exact h0
  · refine Foot.ite_leaves ?_ ?_
    · refine fwActivate_leaves ?_ (Foot.le_trans (by decide) hF)
      exact h1
    · refine later_leaves ?_ (Foot.le_trans (by decide) hF)
      exact h1

theorem secHoldersWrite_leaves {F : Foot} {a₀ : State} {who : Nat} {v : Nat} {s : State} (h : F.leaves a₀ s) (hF : Foot.le ⟨0x10000, [0x2700, 0x2000, 0x8000], [.rcd, .resp]⟩ F = true) :
    F.leaves a₀ (secHoldersWrite who v s) := by
  unfold secHoldersWrite
  refine cmdWrite_leaves ?_ (Foot.le_trans (by decide) hF) (fun i0 z0 h0 => ?_) fun z1 h1 => ?_
  · exact h
  · refine noMark_leaves ?_ (Foot.le_trans (by decide) hF)
    exact h0
  · refine markDirty_leaves ?_ (Foot.le_trans (by decide) hF)
    refine set_leaves ?_ (Foot.rec_const hF (by decide))
    exact h1

theorem ownAssignWrite_leaves {F : Foot} {a₀ : State} {who : Nat} {v : Nat} {t : Tick} {s : State} (h : F.leaves a₀ s) (hF : Foot.le ⟨0x0, [], [.ports, .groups, .spad, .mem, .pcie, .rcd, .sec, .tx, .resp]⟩ F = true) :
    F.leaves a₀ (ownAssignWrite who v t s) := by
  unfold ownAssignWrite
  refine cmdWrite_leaves ?_ (Foot.le_trans (by decide) hF) (fun i0 z0 h0 => ?_) fun z1 h1 => ?_
  · exact h
  · refine noMark_leaves ?_ (Foot.le_trans (by decide) hF)
    exact h0
  · refine assign'_leaves ?_ (Foot.le_trans (by decide) hF)
    exact h1

theorem claimWrite_leaves {F : Foot} {a₀ : State} {who : Nat} {v : Nat} {t : Tick} {s : State} (h : F.leaves a₀ s) (hF : Foot.le ⟨0x0, [], [.ports, .spad, .mem, .pcie, .rcd, .sec, .tx, .resp]⟩ F = true) :
    F.leaves a₀ (claimWrite who v t s) := by
  unfold claimWrite
  extract_lets +onlyGivenNames -merge -useContext -underBinder y0
  refine cmdWriteBy_leaves ?_ (Foot.le_trans (by decide) hF) (fun i1 z1 h1 => ?_) fun z2 h2 => ?_
  · exact h
  · refine noMark_leaves ?_ (Foot.le_trans (by decide) hF)
    exact h1
  · refine setBit_leaves ?_ (Foot.rec_any hF (by decide))
    refine ownSet_leaves ?_ (Foot.le_trans (by decide) hF)
    exact h2

theorem svnLockWrite_leaves {F : Foot} {a₀ : State} {who : Nat} {v : Nat} {s : State} (h : F.leaves a₀ s) (hF : Foot.le ⟨0x10000, [0x2700, 0x8000, 0x2000], [.rcd, .resp]⟩ F = true) :
    F.leaves a₀ (svnLockWrite who v s) := by
  unfold svnLockWrite
  extract_lets +onlyGivenNames -merge -useContext -underBinder y0
  refine cmdWrite_leaves ?_ (Foot.le_trans (by decide) hF) (fun i1 z1 h1 => ?_) fun z2 h2 => ?_
  · exact h
  · refine noMark_leaves ?_ (Foot.le_trans (by decide) hF)
    exact h1
  · refine set_leaves ?_ (Foot.rec_const hF (by decide))
    exact h2

theorem keyWriteReq_leaves {F : Foot} {a₀ : State} {who : Nat} {k : Nat} {b : List Byte} {s : State} (h : F.leaves a₀ s) (hF : Foot.le ⟨0x10000, [0x2000], [.sec, .resp]⟩ F = true) (r0 : F.covers (0x2710 + k)) :
    F.leaves a₀ (keyWriteReq who k b s) := by
  unfold keyWriteReq
  extract_lets +onlyGivenNames -merge -useContext -underBinder y0
  refine Foot.ite_leaves ?_ ?_
  · refine refuse_leaves ?_ (Foot.le_trans (by decide) hF)
    exact h
  · refine cmdRun_leaves ?_ (Foot.le_trans (by decide) hF) (fun i1 z1 h1 => ?_) fun z2 h2 => ?_
    · exact h
    · refine noMark_leaves ?_ (Foot.le_trans (by decide) hF)
      exact h1
    · refine accept_leaves ?_ (Foot.le_trans (by decide) hF)
      refine keyWrite_leaves ?_ (Foot.le_trans (by decide) hF) r0
      exact h2

theorem keyRevokeWrite_leaves {F : Foot} {a₀ : State} {who : Nat} {k : Nat} {v : Nat} {s : State} (h : F.leaves a₀ s) (hF : Foot.le ⟨0x10000, [0x8000, 0x2000], [.rcd, .sec, .resp]⟩ F = true) (r0 : F.covers (0x2710 + k)) :
    F.leaves a₀ (keyRevokeWrite who k v s) := by
  unfold keyRevokeWrite
  refine cmdWrite_leaves ?_ (Foot.le_trans (by decide) hF) (fun i0 z0 h0 => ?_) fun z1 h1 => ?_
  · exact h
  · refine noMark_leaves ?_ (Foot.le_trans (by decide) hF)
    exact h0
  · refine keyRevoke_leaves ?_ (Foot.le_trans (by decide) hF) r0
    exact h1

theorem lcReqWrite_leaves {F : Foot} {a₀ : State} {who : Nat} {v : Nat} {t : Tick} {s : State} (h : F.leaves a₀ s) (hF : Foot.le ⟨0x10000, [0x2700, 0x8000, 0x2000], [.rcd, .sec, .resp]⟩ F = true) :
    F.leaves a₀ (lcReqWrite who v t s) := by
  unfold lcReqWrite
  refine cmdWrite_leaves ?_ (Foot.le_trans (by decide) hF) (fun i0 z0 h0 => ?_) fun z1 h1 => ?_
  · exact h
  · refine noMark_leaves ?_ (Foot.le_trans (by decide) hF)
    exact h0
  · refine lcRequest_leaves ?_ (Foot.le_trans (by decide) hF)
    exact h1

theorem lcConfirmWrite_leaves {F : Foot} {a₀ : State} {who : Nat} {v : Nat} {t : Tick} {s : State} (h : F.leaves a₀ s) (hF : Foot.le ⟨0x1220, [], [.groups, .net, .rcd, .sec, .tx, .resp]⟩ F = true) :
    F.leaves a₀ (lcConfirmWrite who v t s) := by
  unfold lcConfirmWrite
  refine cmdWrite_leaves ?_ (Foot.le_trans (by decide) hF) (fun i0 z0 h0 => ?_) fun z1 h1 => ?_
  · exact h
  · refine noMark_leaves ?_ (Foot.le_trans (by decide) hF)
    exact h0
  · refine lcConfirm_leaves ?_ (Foot.le_trans (by decide) hF)
    exact h1

/-! ### OdRead -/

theorem spadReadAll_leaves {F : Foot} {a₀ : State} {s : State} {a n : Nat} (h : F.leaves a₀ s) (hF : Foot.le ⟨0x10000, [0x2300], [.mem]⟩ F = true) :
    F.leaves a₀ (spadReadAll s a n).1 := by
  unfold spadReadAll
  suffices H : ∀ (l : List Nat) (x : State × List Nat × Bool), F.leaves a₀ x.1 →
      F.leaves a₀ (l.foldl (fun (x : State × List Nat × Bool) k =>
        let y := x.1.spadRead (a + k)
        (y.1, x.2.1 ++ [y.2.1.toNat], x.2.2 || y.2.2)) x).1 from H _ _ h
  intro l
  induction l with
  | nil => exact fun _ hx => hx
  | cons k l ih => exact fun x hx => ih _ (spadRead_leaves hx (Foot.le_trans (by decide) hF))

theorem readEntry_leaves {F : Foot} {a₀ : State} {s : State} {key : Nat} (h : F.leaves a₀ s) (hF : Foot.le ⟨0x10000, [0x2300], [.mem]⟩ F = true) :
    F.leaves a₀ (readEntry s key).1 := by
  unfold readEntry
  split
  · exact h
  · split
    · extract_lets +onlyGivenNames -merge -useContext -underBinder y0
      dsimp only
      refine spadReadAll_leaves ?_ (Foot.le_trans (by decide) hF)
      exact h
    · split
      · exact h
      · split
        · extract_lets +onlyGivenNames -merge -useContext -underBinder y1
          dsimp only
          refine spadReadAll_leaves ?_ (Foot.le_trans (by decide) hF)
          exact h
        · exact h

theorem odRead_leaves {F : Foot} {a₀ : State} {who : Nat} {key : Nat} {s : State} (h : F.leaves a₀ s) (hF : Foot.le ⟨0x10000, [0x2000, 0x2300], [.mem, .resp]⟩ F = true) :
    F.leaves a₀ (odRead who key s) := by
  unfold odRead
  refine Foot.ite_leaves ?_ ?_
  · split
    · refine refuse_leaves ?_ (Foot.le_trans (by decide) hF)
      exact h
    · split
      · rename_i y0 _ e0
        have h0 : F.leaves a₀ y0 := by
          have q0 := congrArg (fun x => x.1) e0
          beta_reduce at q0
          change _ = y0 at q0
          rw [← q0]
          refine readEntry_leaves ?_ (Foot.le_trans (by decide) hF)
          exact h
        refine accept_leaves ?_ (Foot.le_trans (by decide) hF)
        exact h0
      · rename_i y1 e1
        have h1 : F.leaves a₀ y1 := by
          have q1 := congrArg (fun x => x.1) e1
          beta_reduce at q1
          change _ = y1 at q1
          rw [← q1]
          refine readEntry_leaves ?_ (Foot.le_trans (by decide) hF)
          exact h
        refine refuse_leaves ?_ (Foot.le_trans (by decide) hF)
        exact h1
  · exact h

/-! ### OdWrite -/

theorem setTrigOut_leaves {F : Foot} {a₀ : State} {s : State} {n : Nat} {b : Bool} (h : F.leaves a₀ s) (hF : Foot.le ⟨0x10000, [], [.fab]⟩ F = true) :
    F.leaves a₀ (setTrigOut s n b) := by
  unfold setTrigOut
  refine modFab_leaves ?_ (Foot.le_trans (by decide) hF)
  exact h

theorem setTrigBusy_leaves {F : Foot} {a₀ : State} {s : State} {n : Nat} {t : Tick} (h : F.leaves a₀ s) (hF : Foot.le ⟨0x10000, [], [.fab]⟩ F = true) :
    F.leaves a₀ (setTrigBusy s n t) := by
  unfold setTrigBusy
  refine modFab_leaves ?_ (Foot.le_trans (by decide) hF)
  exact h

theorem trigConfig_leaves {F : Foot} {a₀ : State} {s : State} {n : Nat} {v : Nat} (h : F.leaves a₀ s) (hF : Foot.le ⟨0x2200, [], [.fab, .tx]⟩ F = true) :
    F.leaves a₀ (trigConfig s n v) := by
  unfold trigConfig
  extract_lets +onlyGivenNames -merge -useContext -underBinder y0
  extract_lets +onlyGivenNames -merge -useContext -underBinder y1
  extract_lets +onlyGivenNames -merge -useContext -underBinder y2
  have h2 : F.leaves a₀ y2 := by
    refine set_leaves ?_ (by first | exact Foot.rec_constAdd hF (by decide) | exact Foot.rec_floorAdd hF (by decide))
    exact h
  try clear_value y2
  refine Foot.ite_leaves ?_ ?_
  · refine trigDrive_leaves ?_ (Foot.le_trans (by decide) hF)
    refine Foot.ite_leaves ?_ ?_
    · exact h2
    · refine setTrigBusy_leaves ?_ (Foot.le_trans (by decide) hF)
      refine setTrigOut_leaves ?_ (Foot.le_trans (by decide) hF)
      exact h2
  · refine Foot.ite_leaves ?_ ?_
    · refine out_leaves ?_ (Foot.le_trans (by decide) hF)
      refine setTrigBusy_leaves ?_ (Foot.le_trans (by decide) hF)
      refine setTrigOut_leaves ?_ (Foot.le_trans (by decide) hF)
      exact h2
    · exact h2

theorem privConfig_leaves {F : Foot} {a₀ : State} {s : State} {g : Nat} {v : Nat} (h : F.leaves a₀ s) (hF : Foot.le ⟨0x4000, [], [.micro, .cal]⟩ F = true) (r0 : F.covers (0x3000 + g)) :
    F.leaves a₀ (privConfig s g v) := by
  unfold privConfig
  extract_lets +onlyGivenNames -merge -useContext -underBinder y0
  have h0 : F.leaves a₀ y0 := by
    refine set_leaves ?_ (Foot.rec_key r0)
    exact h
  try clear_value y0
  extract_lets +onlyGivenNames -merge -useContext -underBinder y1
  have h1 : F.leaves a₀ y1 := by
    refine Foot.foldl_leaves ?_ fun z2 i2 h2 => ?_
    · exact h0
    · refine set_leaves ?_ (Foot.rec_key (Foot.rec_floor hF (by decide)))
      exact h2
  try clear_value y1
  refine Foot.ite_leaves ?_ ?_
  · refine later_leaves ?_ (Foot.le_trans (by decide) hF)
    refine modRot_leaves ?_ (Foot.le_trans (by decide) hF)
    exact h1
  · exact h1

theorem conflictClear_leaves {F : Foot} {a₀ : State} {s : State} {v : Nat} (h : F.leaves a₀ s) (hF : Foot.le ⟨0x2300, [], []⟩ F = true) :
    F.leaves a₀ (conflictClear s v) := by
  unfold conflictClear
  refine Foot.foldl_leaves ?_ fun z0 i0 h0 => ?_
  · exact h
  · refine Foot.ite_leaves ?_ ?_
    · refine set_leaves ?_ (by first | exact Foot.rec_constAdd hF (by decide) | exact Foot.rec_floorAdd hF (by decide))
      exact h0
    · exact h0

theorem putValue_leaves {F : Foot} {a₀ : State} {s : State} {key : Nat} {v : Nat} (h : F.leaves a₀ s) (hF : Foot.le ⟨0x2200, [0x2100], [.micro, .fab, .tb, .cal, .od, .net, .rcd, .tx]⟩ F = true) (r0 : F.covers ((key) / 256)) :
    F.leaves a₀ (putValue s key v) := by
  unfold putValue
  split
  · refine Foot.ite_leaves ?_ ?_
    · refine privConfig_leaves ?_ (Foot.le_trans (by decide) hF) (Foot.rec_floor hF (by decide))
      exact h
    · refine Foot.ite_leaves ?_ ?_
      · refine groupPlan_leaves ?_ (Foot.le_trans (by decide) hF) (Foot.rec_floor hF (by decide))
        refine set_leaves ?_ r0
        exact h
      · refine set_leaves ?_ r0
        exact h
  · refine Foot.ite_leaves ?_ ?_
    · refine trigConfig_leaves ?_ (Foot.le_trans (by decide) hF)
      exact h
    · refine set_leaves ?_ r0
      exact h
  · refine set_leaves ?_ (Foot.rec_key (Foot.rec_floor hF (by decide)))
    refine set_leaves ?_ r0
    exact h
  · extract_lets +onlyGivenNames -merge -useContext -underBinder y0
    try clear_value y0
    extract_lets +onlyGivenNames -merge -useContext -underBinder y1
    try clear_value y1
    extract_lets +onlyGivenNames -merge -useContext -underBinder y2
    have h2 : F.leaves a₀ y2 := by
      refine set_leaves ?_ r0
      exact h
    try clear_value y2
    exact { h2 with od := .inl (Foot.part hF (by decide)) }
  · refine Foot.ite_leaves ?_ ?_
    · refine j2Select_leaves ?_ (Foot.le_trans (by decide) hF)
      refine set_leaves ?_ r0
      exact h
    · refine set_leaves ?_ r0
      exact h
  · refine Foot.ite_leaves ?_ ?_
    · refine conflictClear_leaves ?_ (Foot.le_trans (by decide) hF)
      exact h
    · refine set_leaves ?_ r0
      exact h
  · refine Foot.ite_leaves ?_ ?_
    · extract_lets +onlyGivenNames -merge -useContext -underBinder y3
      have h3 : F.leaves a₀ y3 := by
        refine set_leaves ?_ r0
        exact h
      try clear_value y3
      exact { h3 with net := .inl (Foot.part hF (by decide)) }
    · refine set_leaves ?_ r0
      exact h
  · extract_lets +onlyGivenNames -merge -useContext -underBinder y4
    have h4 : F.leaves a₀ y4 := by
      refine set_leaves ?_ r0
      exact h
    try clear_value y4
    refine Foot.ite_leaves ?_ ?_
    · refine Foot.ite_leaves ?_ ?_
      · refine refxGone_leaves ?_ (Foot.le_trans (by decide) hF)
        exact h4
      · refine xferTry_leaves ?_ (Foot.le_trans (by decide) hF)
        exact h4
    · exact h4
  · extract_lets +onlyGivenNames -merge -useContext -underBinder y5
    have h5 : F.leaves a₀ y5 := by
      refine set_leaves ?_ r0
      exact h
    try clear_value y5
    refine syncTb_leaves ?_ (Foot.le_trans (by decide) hF)
    refine Foot.ite_leaves ?_ ?_
    · refine modTb_leaves ?_ (Foot.le_trans (by decide) hF)
      exact h5
    · exact h5
  · refine set_leaves ?_ r0
    exact h

theorem rwcMark_leaves {F : Foot} {a₀ : State} {s : State} {key : Nat} (h : F.leaves a₀ s) (hF : Foot.le ⟨0x10000, [], [.groups, .od]⟩ F = true) :
    F.leaves a₀ (rwcMark s key) := by
  unfold rwcMark
  split
  · refine modGx_leaves ?_ (Foot.le_trans (by decide) hF)
    exact h
  · exact { h with od := .inl (Foot.part hF (by decide)) }

theorem plainDo_leaves {F : Foot} {a₀ : State} {s : State} {who : Nat} {key : Nat} {v : Nat} {row : Row} {t : Tick} (h : F.leaves a₀ s) (hF : Foot.le ⟨0x2200, [0x2000, 0x1220, 0x1221, 0x1222, 0x1223, 0x2001, 0x2100], [.blobs, .ports, .groups, .slices, .micro, .fab, .scan, .tb, .spad, .mem, .mc, .cal, .od, .net, .pcie, .rcd, .pwr, .nv, .tx, .resp]⟩ F = true) (r0 : F.covers ((key) / 256)) :
    F.leaves a₀ (plainDo s who key v row t) := by
  unfold plainDo
  extract_lets +onlyGivenNames -merge -useContext -underBinder y0
  have h0 : F.leaves a₀ y0 := by
    refine when_leaves ?_ fun z1 h1 => ?_
    · exact h
    · refine rwcMark_leaves ?_ (Foot.le_trans (by decide) hF)
      exact h1
  try clear_value y0
  split
  · refine accept_leaves ?_ (Foot.le_trans (by decide) hF)
    refine jConfig_leaves ?_ (Foot.le_trans (by decide) hF)
    refine clearBits_leaves ?_ r0
    exact h0
  · split
    · refine portSubmit_leaves ?_ (Foot.le_trans (by decide) hF) r0
      exact h0
    · extract_lets +onlyGivenNames -merge -useContext -underBinder y2
      have h2 : F.leaves a₀ y2 := by
        refine when_leaves ?_ fun z3 h3 => ?_
        · exact h0
        · refine markDirty_leaves ?_ (Foot.le_trans (by decide) hF)
          exact h3
      try clear_value y2
      refine accept_leaves ?_ (Foot.le_trans (by decide) hF)
      refine jConfig_leaves ?_ (Foot.le_trans (by decide) hF)
      refine putValue_leaves ?_ (Foot.le_trans (by decide) hF) r0
      exact h2

theorem plainWrite_leaves {F : Foot} {a₀ : State} {who : Nat} {key : Nat} {v : Nat} {t : Tick} {s : State} (h : F.leaves a₀ s) (hF : Foot.le ⟨0x2200, [0x2000, 0x1220, 0x1221, 0x1222, 0x1223, 0x2001, 0x2100], [.blobs, .ports, .groups, .slices, .micro, .fab, .scan, .tb, .spad, .mem, .mc, .cal, .od, .net, .pcie, .rcd, .pwr, .nv, .tx, .resp]⟩ F = true) (r0 : F.covers ((key) / 256)) :
    F.leaves a₀ (plainWrite who key v t s) := by
  unfold plainWrite
  split
  · exact h
  · refine cmdRun_leaves ?_ (Foot.le_trans (by decide) hF) (fun i0 z0 h0 => ?_) fun z1 h1 => ?_
    · exact h
    · refine noMark_leaves ?_ (Foot.le_trans (by decide) hF)
      exact h0
    · refine plainDo_leaves ?_ (Foot.le_trans (by decide) hF) r0
      exact h1

theorem bytesWrite_leaves {F : Foot} {a₀ : State} {who : Nat} {key : Nat} {b : List Byte} {s : State} (h : F.leaves a₀ s) (hF : Foot.le ⟨0x10000, [0x2000, 0x8000], [.blobs, .groups, .od, .rcd, .resp]⟩ F = true) :
    F.leaves a₀ (bytesWrite who key b s) := by
  unfold bytesWrite
  refine cmdRun_leaves ?_ (Foot.le_trans (by decide) hF) (fun i0 z0 h0 => ?_) fun z1 h1 => ?_
  · exact h
  · refine noMark_leaves ?_ (Foot.le_trans (by decide) hF)
    exact h0
  · extract_lets +onlyGivenNames -merge -useContext -underBinder y2
    have h2 : F.leaves a₀ y2 := by
      refine when_leaves ?_ fun z3 h3 => ?_
      · exact h1
      · refine rwcMark_leaves ?_ (Foot.le_trans (by decide) hF)
        exact h3
    try clear_value y2
    refine accept_leaves ?_ (Foot.le_trans (by decide) hF)
    refine jBytes_leaves ?_ (Foot.le_trans (by decide) hF)
    refine markDirty_leaves ?_ (Foot.le_trans (by decide) hF)
    refine setBlob_leaves ?_ (Foot.le_trans (by decide) hF)
    exact h2

theorem pointsWrite_leaves {F : Foot} {a₀ : State} {who : Nat} {l : Nat} {b : List Byte} {s : State} (h : F.leaves a₀ s) (hF : Foot.le ⟨0x10000, [0x2000], [.spad, .mem, .resp]⟩ F = true) (r0 : F.covers (0x7000 + l)) :
    F.leaves a₀ (pointsWrite who l b s) := by
  unfold pointsWrite
  extract_lets +onlyGivenNames -merge -useContext -underBinder y0
  refine cmdRun_leaves ?_ (Foot.le_trans (by decide) hF) (fun i1 z1 h1 => ?_) fun z2 h2 => ?_
  · exact h
  · refine noMark_leaves ?_ (Foot.le_trans (by decide) hF)
    exact h1
  · extract_lets +onlyGivenNames -merge -useContext -underBinder y3
    have h3 : F.leaves a₀ y3 := by
      refine spadPutAll_leaves ?_ (Foot.le_trans (by decide) hF)
      exact h2
    try clear_value y3
    refine accept_leaves ?_ (Foot.le_trans (by decide) hF)
    refine markDirty_leaves ?_ (Foot.le_trans (by decide) hF)
    refine set_leaves ?_ (Foot.rec_key r0)
    exact h3

theorem commandWrite_leaves {F : Foot} {a₀ s : State} {who key v : Nat} {t : Tick} {f : State → State} (h : F.leaves a₀ s) (hF : Foot.le ⟨0x0, [], [.now, .blobs, .ports, .groups, .slices, .micro, .fab, .scan, .tb, .spad, .mem, .mc, .cal, .od, .net, .pcie, .rcd, .pwr, .fwx, .rail, .sec, .nv, .tx, .resp]⟩ F = true)
    (e : commandWrite who key v t = some f) : F.leaves a₀ (f s) := by
  unfold commandWrite at e
  extract_lets sub at e
  clear_value sub
  repeat' split at e
  all_goals first
    | (cases e; done)
    | (cases e; first
        | with_reducible refine groupCtrl_leaves h (Foot.le_trans (by decide) hF)
        | with_reducible refine rotRequestWrite_leaves h (Foot.le_trans (by decide) hF)
        | with_reducible refine portCtrl_leaves h (Foot.le_trans (by decide) hF)
        | with_reducible refine spanWrite_leaves h (Foot.le_trans (by decide) hF)
        | with_reducible refine forceCtrl_leaves h (Foot.le_trans (by decide) hF)
        | with_reducible refine pgenCtrl_leaves h (Foot.le_trans (by decide) hF)
        | with_reducible refine seqHoldWrite_leaves h (Foot.le_trans (by decide) hF)
        | with_reducible refine winCtrl_leaves h (Foot.le_trans (by decide) hF)
        | with_reducible refine wornReqWrite_leaves h (Foot.le_trans (by decide) hF)
        | with_reducible refine chEnWrite_leaves h (Foot.le_trans (by decide) hF) (Foot.rec_any hF rfl)
        | with_reducible refine fireWrite_leaves h (Foot.le_trans (by decide) hF) (Foot.rec_any hF rfl)
        | with_reducible refine runStateWrite_leaves h (Foot.le_trans (by decide) hF)
        | with_reducible refine commitWrite_leaves h (Foot.le_trans (by decide) hF) (Foot.rec_any hF rfl)
        | with_reducible refine regionEnWrite_leaves h (Foot.le_trans (by decide) hF) (Foot.rec_any hF rfl)
        | with_reducible refine ringEnWrite_leaves h (Foot.le_trans (by decide) hF) (Foot.rec_any hF rfl)
        | with_reducible refine consHostWrite_leaves h (Foot.le_trans (by decide) hF) (Foot.rec_any hF rfl)
        | with_reducible refine cfgSaveWrite_leaves h (Foot.le_trans (by decide) hF)
        | with_reducible refine powerReq_leaves h (Foot.le_trans (by decide) hF)
        | with_reducible refine taiSetWrite_leaves h (Foot.le_trans (by decide) hF)
        | with_reducible refine resyncWrite_leaves h (Foot.le_trans (by decide) hF)
        | with_reducible refine btRequestWrite_leaves h (Foot.le_trans (by decide) hF)
        | with_reducible refine mcReqWrite_leaves h (Foot.le_trans (by decide) hF)
        | with_reducible refine refXferWrite_leaves h (Foot.le_trans (by decide) hF)
        | with_reducible refine closeWrite_leaves h (Foot.le_trans (by decide) hF) (Foot.rec_any hF rfl)
        | with_reducible refine dmaEnWrite_leaves h (Foot.le_trans (by decide) hF) (Foot.rec_any hF rfl)
        | with_reducible refine descTailWrite_leaves h (Foot.le_trans (by decide) hF) (Foot.rec_any hF rfl)
        | with_reducible refine jEnWrite_leaves h (Foot.le_trans (by decide) hF)
        | with_reducible refine storeInitWrite_leaves h (Foot.le_trans (by decide) hF)
        | with_reducible refine offloadedWrite_leaves h (Foot.le_trans (by decide) hF)
        | with_reducible refine rpCtrlWrite_leaves h (Foot.le_trans (by decide) hF)
        | with_reducible refine railOnWrite_leaves h (Foot.le_trans (by decide) hF) (Foot.rec_any hF rfl)
        | with_reducible refine fwCtrlWrite_leaves h (Foot.le_trans (by decide) hF)
        | with_reducible refine secHoldersWrite_leaves h (Foot.le_trans (by decide) hF)
        | with_reducible refine ownAssignWrite_leaves h (Foot.le_trans (by decide) hF)
        | with_reducible refine claimWrite_leaves h (Foot.le_trans (by decide) hF)
        | with_reducible refine lcReqWrite_leaves h (Foot.le_trans (by decide) hF)
        | with_reducible refine lcConfirmWrite_leaves h (Foot.le_trans (by decide) hF)
        | with_reducible refine svnLockWrite_leaves h (Foot.le_trans (by decide) hF)
        | with_reducible refine keyRevokeWrite_leaves h (Foot.le_trans (by decide) hF) (Foot.rec_any hF rfl))

theorem numWrite_leaves {F : Foot} {a₀ s : State} {who key v : Nat} {t : Tick} (h : F.leaves a₀ s) (hF : Foot.le ⟨0x0, [], [.now, .blobs, .ports, .groups, .slices, .micro, .fab, .scan, .tb, .spad, .mem, .mc, .cal, .od, .net, .pcie, .rcd, .pwr, .fwx, .rail, .sec, .nv, .tx, .resp]⟩ F = true) :
    F.leaves a₀ (numWrite who key v t s) := by
  unfold numWrite
  split
  · exact commandWrite_leaves h hF (by assumption)
  · exact plainWrite_leaves h (Foot.le_trans (by decide) hF) (Foot.rec_any hF rfl)

theorem blobWrite_leaves {F : Foot} {a₀ : State} {who : Nat} {key : Nat} {b : List Byte} {s : State} (h : F.leaves a₀ s) (hF : Foot.le ⟨0x2710, [0x2000, 0x2002], [.blobs, .groups, .spad, .mem, .od, .rcd, .fwx, .sec, .resp]⟩ F = true) :
    F.leaves a₀ (blobWrite who key b s) := by
  unfold blobWrite
  split
  · refine pointsWrite_leaves ?_ (Foot.le_trans (by decide) hF) (Foot.rec_floor hF (by decide))
    exact h
  · refine fwImageWrite_leaves ?_ (Foot.le_trans (by decide) hF)
    exact h
  · refine keyWriteReq_leaves ?_ (Foot.le_trans (by decide) hF) (Foot.rec_floor hF (by decide))
    exact h
  · refine bytesWrite_leaves ?_ (Foot.le_trans (by decide) hF)
    exact h

theorem odWrite_leaves {F : Foot} {a₀ : State} {who : Nat} {key : Nat} {data : List Byte} {t : Tick} {s : State} (h : F.leaves a₀ s) (hF : Foot.le ⟨0x0, [], [.now, .blobs, .ports, .groups, .slices, .micro, .fab, .scan, .tb, .spad, .mem, .mc, .cal, .od, .net, .pcie, .rcd, .pwr, .fwx, .rail, .sec, .nv, .tx, .resp]⟩ F = true) :
    F.leaves a₀ (odWrite who key data t s) := by
  unfold odWrite
  refine Foot.ite_leaves ?_ ?_
  · split
    · refine refuse_leaves ?_ (Foot.le_trans (by decide) hF)
      exact h
    · split
      · refine numWrite_leaves ?_ (Foot.le_trans (by decide) hF)
        exact h
      · refine blobWrite_leaves ?_ (Foot.le_trans (by decide) hF)
        exact h
  · exact h

/-! ### NetCore -/

theorem respond_leaves {F : Foot} {a₀ : State} {s : State} {k : Nat} {reqId : Nat} {typ : Nat} {body : List Byte} (h : F.leaves a₀ s) (hF : Foot.le ⟨0x10000, [], [.net, .tx]⟩ F = true) :
    F.leaves a₀ (respond s k reqId typ body) := by
  unfold respond
  split
  · exact h
  · extract_lets +onlyGivenNames -merge -useContext -underBinder y0
    try clear_value y0
    refine sessSend_leaves ?_ (Foot.le_trans (by decide) hF)
    refine setSession_leaves ?_ (Foot.le_trans (by decide) hF)
    exact h

theorem respondAbort_leaves {F : Foot} {a₀ : State} {s : State} {k : Nat} {reqId : Nat} {typ : Nat} {a : Nat} (h : F.leaves a₀ s) (hF : Foot.le ⟨0x10000, [], [.net, .tx]⟩ F = true) :
    F.leaves a₀ (respondAbort s k reqId typ a) := by
  unfold respondAbort
  refine respond_leaves ?_ (Foot.le_trans (by decide) hF)
  exact h

theorem refuseReq_leaves {F : Foot} {a₀ : State} {s : State} {k : Nat} {reqId : Nat} {typ : Nat} {key : Nat} {a : Nat} (h : F.leaves a₀ s) (hF : Foot.le ⟨0x10000, [0x2000], [.net, .tx, .resp]⟩ F = true) :
    F.leaves a₀ (refuseReq s k reqId typ key a) := by
  unfold refuseReq
  refine respondAbort_leaves ?_ (Foot.le_trans (by decide) hF)
  refine refuse_leaves ?_ (Foot.le_trans (by decide) hF)
  exact h

theorem respondResp_leaves {F : Foot} {a₀ : State} {s : State} {k : Nat} {reqId : Nat} {typ : Nat} (h : F.leaves a₀ s) (hF : Foot.le ⟨0x10000, [], [.net, .tx]⟩ F = true) :
    F.leaves a₀ (respondResp s k reqId typ) := by
  unfold respondResp
  split
  · refine respond_leaves ?_ (Foot.le_trans (by decide) hF)
    exact h
  · exact h

theorem copAccess_leaves {F : Foot} {a₀ : State} {s : State} {k reqId typ : Nat} {f : State → State} (h : F.leaves a₀ s)
    (hF : Foot.le ⟨0x10000, [], [.od, .net, .tx, .resp]⟩ F = true) (hf : ∀ z, F.leaves a₀ z → F.leaves a₀ (f z)) : F.leaves a₀ (copAccess s k reqId typ f) := by
  have h1 : F.leaves a₀ { s with resp := none, od := { s.od with origin := .cop k reqId typ } } :=
    { h with resp := .inl (Foot.part hF (by decide)), od := .inl (Foot.part hF (by decide)) }
  have h0 := hf _ h1
  unfold copAccess
  generalize f { s with resp := none, od := { s.od with origin := .cop k reqId typ } } = y0 at *
  exact respondResp_leaves (Foot.leaves_od h0 (Foot.part hF (by decide))) (Foot.le_trans (by decide) hF)

theorem authFail_leaves {F : Foot} {a₀ : State} {s : State} {k : Nat} (h : F.leaves a₀ s) (hF : Foot.le ⟨0x10000, [], []⟩ F = true) (r0 : F.covers (0x1220 + k)) :
    F.leaves a₀ (authFail s k) := by
  unfold authFail
  refine satInc_leaves ?_ (Foot.rec_key r0)
  exact h

theorem openSession_leaves {F : Foot} {a₀ : State} {s : State} {k : Nat} {peer : Peer} {m : List Byte} {t : Tick} (h : F.leaves a₀ s) (hF : Foot.le ⟨0x1220, [], [.groups, .net, .tx, .fresh]⟩ F = true) :
    F.leaves a₀ (openSession s k peer m t) := by
  unfold openSession
  extract_lets +onlyGivenNames -merge -useContext -underBinder y0
  have h0 : F.leaves a₀ y0 := by
    refine Foot.ite_leaves ?_ ?_
    · refine Foot.foldl_leaves ?_ fun z1 i1 h1 => ?_
      · exact h
      · refine sessClose_leaves ?_ (Foot.le_trans (by decide) hF) (Foot.rec_floor hF (by decide))
        exact h1
    · exact h
  try clear_value y0
  extract_lets +onlyGivenNames -merge -useContext -underBinder y2
  have h2 : F.leaves a₀ y2 := by
    refine sessDrop_leaves ?_ (Foot.le_trans (by decide) hF) (Foot.rec_floor hF (by decide))
    exact h0
  try clear_value y2
  extract_lets +onlyGivenNames -merge -useContext -underBinder y3
  try clear_value y3
  extract_lets +onlyGivenNames -merge -useContext -underBinder y4
  try clear_value y4
  extract_lets +onlyGivenNames -merge -useContext -underBinder y5
  extract_lets +onlyGivenNames -merge -useContext -underBinder y6
  try clear_value y6
  extract_lets +onlyGivenNames -merge -useContext -underBinder y7
  try clear_value y7
  extract_lets +onlyGivenNames -merge -useContext -underBinder y8
  try clear_value y8
  extract_lets +onlyGivenNames -merge -useContext -underBinder y9
  have h9 : F.leaves a₀ y9 := by
    exact { h2 with fresh := .inl (Foot.part hF (by decide)) }
  try clear_value y9
  extract_lets +onlyGivenNames -merge -useContext -underBinder y10
  have h10 : F.leaves a₀ y10 := by
    refine setSession_leaves ?_ (Foot.le_trans (by decide) hF)
    exact h9
  try clear_value y10
  refine copSend_leaves ?_ (Foot.le_trans (by decide) hF)
  refine set_leaves ?_ (Foot.rec_key (Foot.rec_floor hF (by decide)))
  exact h10

theorem openAbort_leaves {F : Foot} {a₀ : State} {s : State} {k : Nat} {peer : Peer} {m : List Byte} {a : Nat} (h : F.leaves a₀ s) (hF : Foot.le ⟨0x10000, [0x2000], [.net, .tx, .resp]⟩ F = true) :
    F.leaves a₀ (openAbort s k peer m a) := by
  unfold openAbort
  refine copSend_leaves ?_ (Foot.le_trans (by decide) hF)
  refine refuse_leaves ?_ (Foot.le_trans (by decide) hF)
  exact h

theorem sessionOpenRx_leaves {F : Foot} {a₀ : State} {s : State} {peer : Peer} {m : List Byte} {t : Tick} (h : F.leaves a₀ s) (hF : Foot.le ⟨0x1220, [], [.groups, .net, .tx, .resp, .fresh]⟩ F = true) :
    F.leaves a₀ (sessionOpenRx s peer m t) := by
  unfold sessionOpenRx
  extract_lets +onlyGivenNames -merge -useContext -underBinder y0
  refine Foot.ite_leaves ?_ ?_
  · refine authFail_leaves ?_ (Foot.le_trans (by decide) hF) (Foot.rec_floor hF (by decide))
    exact h
  · refine Foot.ite_leaves ?_ ?_
    · refine authFail_leaves ?_ (Foot.le_trans (by decide) hF) (Foot.rec_floor hF (by decide))
      exact h
    · refine Foot.ite_leaves ?_ ?_
      · refine openAbort_leaves ?_ (Foot.le_trans (by decide) hF)
        exact h
      · refine Foot.ite_leaves ?_ ?_
        · refine openAbort_leaves ?_ (Foot.le_trans (by decide) hF)
          exact h
        · refine Foot.ite_leaves ?_ ?_
          · refine openAbort_leaves ?_ (Foot.le_trans (by decide) hF)
            exact h
          · refine openSession_leaves ?_ (Foot.le_trans (by decide) hF)
            exact h

theorem setBlock_leaves {F : Foot} {a₀ : State} {s : State} {k : Nat} {b : Option BlockXfer} (h : F.leaves a₀ s) (hF : Foot.le ⟨0x10000, [], [.net]⟩ F = true) :
    F.leaves a₀ (setBlock s k b) := by
  unfold setBlock
  split
  · exact h
  · refine setSession_leaves ?_ (Foot.le_trans (by decide) hF)
    exact h

theorem readReq_leaves {F : Foot} {a₀ : State} {s : State} {k : Nat} {reqId : Nat} {b : List Byte} (h : F.leaves a₀ s) (hF : Foot.le ⟨0x10000, [0x2000, 0x2300], [.mem, .od, .net, .tx, .resp]⟩ F = true) :
    F.leaves a₀ (readReq s k reqId b) := by
  unfold readReq
  extract_lets +onlyGivenNames -merge -useContext -underBinder y0
  refine copAccess_leaves ?_ (Foot.le_trans (by decide) hF)  fun z1 h1 => ?_
  · exact h
  · refine Foot.ite_leaves ?_ ?_
    · refine refuse_leaves ?_ (Foot.le_trans (by decide) hF)
      exact h1
    · refine odRead_leaves ?_ (Foot.le_trans (by decide) hF)
      exact h1

theorem typedWrite_leaves {F : Foot} {a₀ : State} {who : Nat} {key : Nat} {code : Nat} {data : List Byte} {t : Tick} {s : State} (h : F.leaves a₀ s) (hF : Foot.le ⟨0x0, [], [.now, .blobs, .ports, .groups, .slices, .micro, .fab, .scan, .tb, .spad, .mem, .mc, .cal, .od, .net, .pcie, .rcd, .pwr, .fwx, .rail, .sec, .nv, .tx, .resp]⟩ F = true) :
    F.leaves a₀ (typedWrite who key code data t s) := by
  unfold typedWrite
  split
  · refine Foot.ite_leaves ?_ ?_
    · refine refuse_leaves ?_ (Foot.le_trans (by decide) hF)
      exact h
    · refine Foot.ite_leaves ?_ ?_
      · refine refuse_leaves ?_ (Foot.le_trans (by decide) hF)
        exact h
      · refine odWrite_leaves ?_ (Foot.le_trans (by decide) hF)
        exact h
  · refine odWrite_leaves ?_ (Foot.le_trans (by decide) hF)
    exact h

theorem writeReq_leaves {F : Foot} {a₀ : State} {s : State} {k : Nat} {reqId : Nat} {b : List Byte} {t : Tick} (h : F.leaves a₀ s) (hF : Foot.le ⟨0x0, [], [.now, .blobs, .ports, .groups, .slices, .micro, .fab, .scan, .tb, .spad, .mem, .mc, .cal, .od, .net, .pcie, .rcd, .pwr, .fwx, .rail, .sec, .nv, .tx, .resp]⟩ F = true) :
    F.leaves a₀ (writeReq s k reqId b t) := by
  unfold writeReq
  refine copAccess_leaves ?_ (Foot.le_trans (by decide) hF)  fun z0 h0 => ?_
  · exact h
  · refine typedWrite_leaves ?_ (Foot.le_trans (by decide) hF)
    exact h0

theorem blockRead_leaves {F : Foot} {a₀ : State} {s : State} {who : Nat} {reqId : Nat} {room : Nat} {errAt : Nat} {b : List Byte}
    {blk : Option BlockXfer} {t : Tick} (h : F.leaves a₀ s) (hF : Foot.le ⟨0x10000, [0x2000, 0x2300], [.mem, .resp]⟩ F = true) :
    F.leaves a₀ (blockRead s who reqId room errAt b blk t).1 := by
  unfold blockRead
  have h5 := odRead_leaves (who := who) (key := bodyKey b) (Foot.leaves_resp (v := none) h (Foot.part hF (by decide))) (Foot.le_trans (by decide) hF)
  have hb := fun a => refuse_leaves (who := who) (key := bodyKey b) (a := a) h (Foot.le_trans (by decide) hF)
  dsimp only
  split
  · split
    · exact hb _
    · split
      · exact h5
      · split
        · exact h5
        · exact h5
  · split
    · split
      · exact h
      · exact hb _
    · exact hb _

theorem readBlockReq_leaves {F : Foot} {a₀ : State} {s : State} {k : Nat} {reqId : Nat} {peer : Peer} {b : List Byte} {t : Tick} (h : F.leaves a₀ s) (hF : Foot.le ⟨0x10000, [0x2000, 0x2300], [.mem, .net, .tx, .resp]⟩ F = true) :
    F.leaves a₀ (readBlockReq s k reqId peer b t) := by
  unfold readBlockReq
  extract_lets +onlyGivenNames -merge -useContext -underBinder y0
  refine respond_leaves ?_ (Foot.le_trans (by decide) hF)
  refine setBlock_leaves ?_ (Foot.le_trans (by decide) hF)
  refine blockRead_leaves ?_ (Foot.le_trans (by decide) hF)
  exact h

theorem writeBlockReq_leaves {F : Foot} {a₀ : State} {s : State} {k : Nat} {reqId : Nat} {b : List Byte} {t : Tick} (h : F.leaves a₀ s) (hF : Foot.le ⟨0x0, [], [.now, .blobs, .ports, .groups, .slices, .micro, .fab, .scan, .tb, .spad, .mem, .mc, .cal, .od, .net, .pcie, .rcd, .pwr, .fwx, .rail, .sec, .nv, .tx, .resp]⟩ F = true) :
    F.leaves a₀ (writeBlockReq s k reqId b t) := by
  unfold writeBlockReq
  split
  · refine refuseReq_leaves ?_ (Foot.le_trans (by decide) hF)
    refine setBlock_leaves ?_ (Foot.le_trans (by decide) hF)
    exact h
  · refine respondAbort_leaves ?_ (Foot.le_trans (by decide) hF)
    refine setBlock_leaves ?_ (Foot.le_trans (by decide) hF)
    exact h
  · refine copAccess_leaves ?_ (Foot.le_trans (by decide) hF)  fun z0 h0 => ?_
    · refine setBlock_leaves ?_ (Foot.le_trans (by decide) hF)
      exact h
    · refine odWrite_leaves ?_ (Foot.le_trans (by decide) hF)
      exact h0

theorem setSubs_leaves {F : Foot} {a₀ : State} {s : State} {k : Nat} {l : List Sub} (h : F.leaves a₀ s) (hF : Foot.le ⟨0x10000, [], [.net]⟩ F = true) (r0 : F.covers (0x1220 + k)) :
    F.leaves a₀ (setSubs s k l) := by
  unfold setSubs
  split
  · exact h
  · refine set_leaves ?_ (Foot.rec_key r0)
    refine setSession_leaves ?_ (Foot.le_trans (by decide) hF)
    exact h

theorem subscribeReq_leaves {F : Foot} {a₀ : State} {s : State} {k : Nat} {reqId : Nat} {b : List Byte} {t : Tick} (h : F.leaves a₀ s) (hF : Foot.le ⟨0x10000, [0x2000], [.net, .tx, .resp]⟩ F = true) (r0 : F.covers (0x1220 + k)) :
    F.leaves a₀ (subscribeReq s k reqId b t) := by
  unfold subscribeReq
  split
  · exact h
  · extract_lets +onlyGivenNames -merge -useContext -underBinder y0
    extract_lets +onlyGivenNames -merge -useContext -underBinder y1
    extract_lets +onlyGivenNames -merge -useContext -underBinder y2
    extract_lets +onlyGivenNames -merge -useContext -underBinder y3
    try clear_value y3
    split
    · refine refuseReq_leaves ?_ (Foot.le_trans (by decide) hF)
      exact h
    · refine Foot.ite_leaves ?_ ?_
      · extract_lets +onlyGivenNames -merge -useContext -underBinder y4
        refine respond_leaves ?_ (Foot.le_trans (by decide) hF)
        refine setSubs_leaves ?_ (Foot.le_trans (by decide) hF) r0
        exact h
      · extract_lets +onlyGivenNames -merge -useContext -underBinder y5
        extract_lets +onlyGivenNames -merge -useContext -underBinder y6
        have h6 : F.leaves a₀ y6 := by
          refine setSession_leaves ?_ (Foot.le_trans (by decide) hF)
          exact h
        try clear_value y6
        extract_lets +onlyGivenNames -merge -useContext -underBinder y7
        have h7 : F.leaves a₀ y7 := by
          refine setSubs_leaves ?_ (Foot.le_trans (by decide) hF) r0
          exact h6
        try clear_value y7
        refine respond_leaves ?_ (Foot.le_trans (by decide) hF)
        exact h7

theorem abortReq_leaves {F : Foot} {a₀ : State} {s : State} {k : Nat} {reqId : Nat} {b : List Byte} (h : F.leaves a₀ s) (hF : Foot.le ⟨0x10000, [], [.groups, .net, .tx]⟩ F = true) (r0 : F.covers (0x1220 + k)) :
    F.leaves a₀ (abortReq s k reqId b) := by
  unfold abortReq
  extract_lets +onlyGivenNames -merge -useContext -underBinder y0
  refine Foot.ite_leaves ?_ ?_
  · refine sessDrop_leaves ?_ (Foot.le_trans (by decide) hF) r0
    refine respondAbort_leaves ?_ (Foot.le_trans (by decide) hF)
    exact h
  · extract_lets +onlyGivenNames -merge -useContext -underBinder y1
    have h1 : F.leaves a₀ y1 := by
      unfold y1
      split
      · refine Foot.ite_leaves ?_ ?_
        · refine setBlock_leaves ?_ (Foot.le_trans (by decide) hF)
          exact h
        · exact h
      · exact h
    try clear_value y1
    refine respondAbort_leaves ?_ (Foot.le_trans (by decide) hF)
    exact h1

theorem sessionRequest_leaves {F : Foot} {a₀ : State} {s : State} {k : Nat} {peer : Peer} {m : List Byte} {t : Tick} (h : F.leaves a₀ s) (hF : Foot.le ⟨0x0, [], [.now, .blobs, .ports, .groups, .slices, .micro, .fab, .scan, .tb, .spad, .mem, .mc, .cal, .od, .net, .pcie, .rcd, .pwr, .fwx, .rail, .sec, .nv, .tx, .resp]⟩ F = true) :
    F.leaves a₀ (sessionRequest s k peer m t) := by
  unfold sessionRequest
  extract_lets +onlyGivenNames -merge -useContext -underBinder y0
  extract_lets +onlyGivenNames -merge -useContext -underBinder y1
  extract_lets +onlyGivenNames -merge -useContext -underBinder y2
  try clear_value y2
  split
  · refine sessSend_leaves ?_ (Foot.le_trans (by decide) hF)
    exact h
  · split
    · refine refuseReq_leaves ?_ (Foot.le_trans (by decide) hF)
      exact h
    · refine Foot.ite_leaves ?_ ?_
      · refine readReq_leaves ?_ (Foot.le_trans (by decide) hF)
        exact h
      · refine Foot.ite_leaves ?_ ?_
        · refine writeReq_leaves ?_ (Foot.le_trans (by decide) hF)
          exact h
        · refine Foot.ite_leaves ?_ ?_
          · refine readBlockReq_leaves ?_ (Foot.le_trans (by decide) hF)
            exact h
          · refine Foot.ite_leaves ?_ ?_
            · refine writeBlockReq_leaves ?_ (Foot.le_trans (by decide) hF)
              exact h
            · refine Foot.ite_leaves ?_ ?_
              · refine subscribeReq_leaves ?_ (Foot.le_trans (by decide) hF) (Foot.rec_floor hF (by decide))
                exact h
              · refine abortReq_leaves ?_ (Foot.le_trans (by decide) hF) (Foot.rec_floor hF (by decide))
                exact h

theorem copRx_leaves {F : Foot} {a₀ : State} {s : State} {peer : Peer} {m : List Byte} {t : Tick} (h : F.leaves a₀ s) (hF : Foot.le ⟨0x0, [], [.now, .blobs, .ports, .groups, .slices, .micro, .fab, .scan, .tb, .spad, .mem, .mc, .cal, .od, .net, .pcie, .rcd, .pwr, .fwx, .rail, .sec, .nv, .tx, .resp, .fresh]⟩ F = true) :
    F.leaves a₀ (copRx s peer m t) := by
  unfold copRx
  refine Foot.ite_leaves ?_ ?_
  · exact h
  · refine Foot.ite_leaves ?_ ?_
    · refine authFail_leaves ?_ (Foot.le_trans (by decide) hF) (Foot.rec_floor hF (by decide))
      exact h
    · refine Foot.ite_leaves ?_ ?_
      · refine sessionOpenRx_leaves ?_ (Foot.le_trans (by decide) hF)
        exact h
      · split
        · refine authFail_leaves ?_ (Foot.le_trans (by decide) hF) (Foot.rec_floor hF (by decide))
          exact h
        · split
          · exact h
          · refine Foot.ite_leaves ?_ ?_
            · refine authFail_leaves ?_ (Foot.le_trans (by decide) hF) (Foot.rec_floor hF (by decide))
              exact h
            · refine Foot.ite_leaves ?_ ?_
              · refine satInc_leaves ?_ (Foot.rec_any hF (by decide))
                exact h
              · extract_lets +onlyGivenNames -merge -useContext -underBinder y0
                have h0 : F.leaves a₀ y0 := by
                  refine setSession_leaves ?_ (Foot.le_trans (by decide) hF)
                  exact h
                try clear_value y0
                refine sessionRequest_leaves ?_ (Foot.le_trans (by decide) hF)
                refine set_leaves ?_ (Foot.rec_any hF (by decide))
                exact h0

theorem copRow_leaves {F : Foot} {a₀ : State} {typ : Nat} {peer : Peer} {m : List Byte} {t : Tick} {s : State} (h : F.leaves a₀ s) (hF : Foot.le ⟨0x0, [], [.now, .blobs, .ports, .groups, .slices, .micro, .fab, .scan, .tb, .spad, .mem, .mc, .cal, .od, .net, .pcie, .rcd, .pwr, .fwx, .rail, .sec, .nv, .tx, .resp, .fresh]⟩ F = true) :
    F.leaves a₀ (copRow typ peer m t s) := by
  unfold copRow
  refine when_leaves ?_ fun z0 h0 => ?_
  · exact h
  · refine copRx_leaves ?_ (Foot.le_trans (by decide) hF)
    exact h0

theorem subRead_leaves {F : Foot} {a₀ : State} {s : State} {k : Nat} {num : Nat} {t : Tick} (h : F.leaves a₀ s) (hF : Foot.le ⟨0x10000, [0x2000, 0x2300], [.mem, .net, .resp]⟩ F = true) (r0 : F.covers (0x1220 + k)) :
    F.leaves a₀ (subRead s k num t) := by
  unfold subRead
  split
  · exact h
  · split
    · exact h
    · extract_lets +onlyGivenNames -merge -useContext -underBinder y0
      try clear_value y0
      extract_lets +onlyGivenNames -merge -useContext -underBinder y1
      have h1 : F.leaves a₀ y1 := by
        refine odRead_leaves ?_ (Foot.le_trans (by decide) hF)
        exact { h with resp := .inl (Foot.part hF (by decide)) }
      try clear_value y1
      split
      · exact h1
      · refine Foot.ite_leaves ?_ ?_
        · refine addItem_leaves ?_ (Foot.le_trans (by decide) hF) r0
          refine setSubs_leaves ?_ (Foot.le_trans (by decide) hF) r0
          exact h1
        · extract_lets +onlyGivenNames -merge -useContext -underBinder y2
          try clear_value y2
          extract_lets +onlyGivenNames -merge -useContext -underBinder y3
          try clear_value y3
          extract_lets +onlyGivenNames -merge -useContext -underBinder y4
          have h4 : F.leaves a₀ y4 := by
            refine setSubs_leaves ?_ (Foot.le_trans (by decide) hF) r0
            exact h1
          try clear_value y4
          refine when_leaves ?_ fun z5 h5 => ?_
          · exact h4
          · refine addItem_leaves ?_ (Foot.le_trans (by decide) hF) r0
            exact h5

theorem canDrop_leaves {F : Foot} {a₀ : State} {s : State} (h : F.leaves a₀ s) (hF : Foot.le ⟨0x10000, [0x1210], [.net]⟩ F = true) :
    F.leaves a₀ (canDrop s) := by
  unfold canDrop
  extract_lets +onlyGivenNames -merge -useContext -underBinder y0
  have h0 : F.leaves a₀ y0 := by
    refine satInc_leaves ?_ (Foot.rec_const hF (by decide))
    exact h
  try clear_value y0
  exact { h0 with net := .inl (Foot.part hF (by decide)) }

theorem canSegment_leaves {F : Foot} {a₀ : State} {s : State} {hx : Nat} {seg : List Byte} {t : Tick} (h : F.leaves a₀ s) (hF : Foot.le ⟨0x0, [], [.now, .blobs, .ports, .groups, .slices, .micro, .fab, .scan, .tb, .spad, .mem, .mc, .cal, .od, .net, .pcie, .rcd, .pwr, .fwx, .rail, .sec, .nv, .tx, .resp, .fresh]⟩ F = true) :
    F.leaves a₀ (canSegment s hx seg t) := by
  unfold canSegment
  extract_lets +onlyGivenNames -merge -useContext -underBinder y0
  try clear_value y0
  extract_lets +onlyGivenNames -merge -useContext -underBinder y1
  try clear_value y1
  extract_lets +onlyGivenNames -merge -useContext -underBinder y2
  extract_lets +onlyGivenNames -merge -useContext -underBinder y3
  have h3 : F.leaves a₀ y3 := by
    refine Foot.ite_leaves ?_ ?_
    · refine canDrop_leaves ?_ (Foot.le_trans (by decide) hF)
      exact h
    · exact h
  try clear_value y3
  extract_lets +onlyGivenNames -merge -useContext -underBinder y4
  try clear_value y4
  split
  · refine canDrop_leaves ?_ (Foot.le_trans (by decide) hF)
    exact h3
  · refine Foot.ite_leaves ?_ ?_
    · refine canDrop_leaves ?_ (Foot.le_trans (by decide) hF)
      exact h3
    · extract_lets +onlyGivenNames -merge -useContext -underBinder y5
      try clear_value y5
      refine Foot.ite_leaves ?_ ?_
      · refine copRx_leaves ?_ (Foot.le_trans (by decide) hF)
        exact { h3 with net := .inl (Foot.part hF (by decide)) }
      · exact { h3 with net := .inl (Foot.part hF (by decide)) }

theorem canRx_leaves {F : Foot} {a₀ : State} {s : State} {id : Nat} {data : List Byte} {t : Tick} (h : F.leaves a₀ s) (hF : Foot.le ⟨0x0, [], [.now, .blobs, .ports, .groups, .slices, .micro, .fab, .scan, .tb, .spad, .mem, .mc, .cal, .od, .net, .pcie, .rcd, .pwr, .fwx, .rail, .sec, .nv, .tx, .resp, .fresh]⟩ F = true) :
    F.leaves a₀ (canRx s id data t) := by
  unfold canRx
  refine Foot.ite_leaves ?_ ?_
  · split
    · exact h
    · refine canSegment_leaves ?_ (Foot.le_trans (by decide) hF)
      exact h
  · exact h

theorem learn_leaves {F : Foot} {a₀ : State} {s : State} {a : Nat} {port : Nat} (h : F.leaves a₀ s) (hF : Foot.le ⟨0x10000, [], [.net]⟩ F = true) :
    F.leaves a₀ (learn s a port) := by
  unfold learn
  exact { h with net := .inl (Foot.part hF (by decide)) }

theorem sendLocal_leaves {F : Foot} {a₀ : State} {s : State} {f : EthFrame} (h : F.leaves a₀ s) (hF : Foot.le ⟨0x10000, [], [.net, .tx]⟩ F = true) :
    F.leaves a₀ (sendLocal s f) := by
  unfold sendLocal
  extract_lets +onlyGivenNames -merge -useContext -underBinder y0
  try clear_value y0
  refine Foot.foldl_leaves ?_ fun z1 i1 h1 => ?_
  · exact h
  · refine when_leaves ?_ fun z2 h2 => ?_
    · exact h1
    · refine out_leaves ?_ (Foot.le_trans (by decide) hF)
      refine occupy_leaves ?_ (Foot.le_trans (by decide) hF)
      exact h2

theorem takeFrame_leaves {F : Foot} {a₀ : State} {s : State} {f : EthFrame} {t : Tick} (h : F.leaves a₀ s) (hF : Foot.le ⟨0x0, [], [.now, .blobs, .ports, .groups, .slices, .micro, .fab, .scan, .tb, .spad, .mem, .mc, .cal, .od, .net, .pcie, .rcd, .pwr, .fwx, .rail, .sec, .nv, .tx, .resp, .fresh]⟩ F = true) :
    F.leaves a₀ (takeFrame s f t) := by
  unfold takeFrame
  split
  · refine Foot.ite_leaves ?_ ?_
    · exact h
    · refine Foot.ite_leaves ?_ ?_
      · refine satInc_leaves ?_ (Foot.rec_any hF (by decide))
        exact h
      · refine Foot.ite_leaves ?_ ?_
        · refine copRx_leaves ?_ (Foot.le_trans (by decide) hF)
          exact h
        · exact h
  · refine Foot.ite_leaves ?_ ?_
    · refine sendLocal_leaves ?_ (Foot.le_trans (by decide) hF)
      exact h
    · exact h
  · refine Foot.ite_leaves ?_ ?_
    · refine sendLocal_leaves ?_ (Foot.le_trans (by decide) hF)
      exact h
    · exact h
  · exact h

theorem sendForward_leaves {F : Foot} {a₀ : State} {s : State} {port : Nat} {f : EthFrame} {t : Tick} (h : F.leaves a₀ s) (hF : Foot.le ⟨0x10000, [0x1201], [.net, .tx, .fresh]⟩ F = true) :
    F.leaves a₀ (sendForward s port f t) := by
  unfold sendForward
  extract_lets +onlyGivenNames -merge -useContext -underBinder y0
  try clear_value y0
  extract_lets +onlyGivenNames -merge -useContext -underBinder u1_0 y1
  have h1 : F.leaves a₀ y1 := by
    exact { h with net := .inl (Foot.part hF (by decide)), fresh := .inl (Foot.part hF (by decide)) }
  try clear_value y1
  refine out_leaves ?_ (Foot.le_trans (by decide) hF)
  refine when_leaves ?_ fun z2 h2 => ?_
  · exact h1
  · refine satInc_leaves ?_ (Foot.rec_const hF (by decide))
    exact h2

theorem forward_leaves {F : Foot} {a₀ : State} {s : State} {port : Nat} {f : EthFrame} {t : Tick} (h : F.leaves a₀ s) (hF : Foot.le ⟨0x10000, [0x1201], [.net, .tx, .fresh]⟩ F = true) :
    F.leaves a₀ (forward s port f t) := by
  unfold forward
  refine Foot.ite_leaves ?_ ?_
  · exact h
  · refine Foot.ite_leaves ?_ ?_
    · refine Foot.ite_leaves ?_ ?_
      · exact { h with net := .inl (Foot.part hF (by decide)) }
      · refine satInc_leaves ?_ (Foot.rec_const hF (by decide))
        exact h
    · refine sendForward_leaves ?_ (Foot.le_trans (by decide) hF)
      exact h

theorem ethRx_leaves {F : Foot} {a₀ : State} {s : State} {port : Nat} {f : EthFrame} {t : Tick} (h : F.leaves a₀ s) (hF : Foot.le ⟨0x0, [], [.now, .blobs, .ports, .groups, .slices, .micro, .fab, .scan, .tb, .spad, .mem, .mc, .cal, .od, .net, .pcie, .rcd, .pwr, .fwx, .rail, .sec, .nv, .tx, .resp, .fresh]⟩ F = true) :
    F.leaves a₀ (ethRx s port f t) := by
  unfold ethRx
  refine Foot.ite_leaves ?_ ?_
  · exact h
  · extract_lets +onlyGivenNames -merge -useContext -underBinder y0
    have h0 : F.leaves a₀ y0 := by
      refine learn_leaves ?_ (Foot.le_trans (by decide) hF)
      exact h
    try clear_value y0
    extract_lets +onlyGivenNames -merge -useContext -underBinder y1
    try clear_value y1
    extract_lets +onlyGivenNames -merge -useContext -underBinder y2
    have h2 : F.leaves a₀ y2 := by
      refine Foot.ite_leaves ?_ ?_
      · exact h0
      · refine forward_leaves ?_ (Foot.le_trans (by decide) hF)
        exact h0
    try clear_value y2
    refine Foot.ite_leaves ?_ ?_
    · refine takeFrame_leaves ?_ (Foot.le_trans (by decide) hF)
      exact h2
    · exact h2

theorem bridgeSend_leaves {F : Foot} {a₀ : State} {s : State} {port : Nat} {t : Tick} (h : F.leaves a₀ s) (hF : Foot.le ⟨0x10000, [0x1201], [.net, .tx, .fresh]⟩ F = true) :
    F.leaves a₀ (bridgeSend s port t) := by
  unfold bridgeSend
  split
  · refine Foot.ite_leaves ?_ ?_
    · refine sendForward_leaves ?_ (Foot.le_trans (by decide) hF)
      exact { h with net := .inl (Foot.part hF (by decide)) }
    · exact h
  · exact h

theorem linkChange_leaves {F : Foot} {a₀ : State} {s : State} {port : Nat} {up : Bool} (h : F.leaves a₀ s) (hF : Foot.le ⟨0x10000, [0x1200], [.net]⟩ F = true) :
    F.leaves a₀ (linkChange s port up) := by
  unfold linkChange
  extract_lets +onlyGivenNames -merge -useContext -underBinder y0
  have h0 : F.leaves a₀ y0 := by
    refine setBit_leaves ?_ (Foot.rec_const hF (by decide))
    exact h
  try clear_value y0
  refine Foot.ite_leaves ?_ ?_
  · exact h0
  · exact { h0 with net := .inl (Foot.part hF (by decide)) }

theorem legRead1_leaves {F : Foot} {a₀ : State} {s : State} {r : Nat} (h : F.leaves a₀ s) (hF : Foot.le ⟨0x10000, [0x2000, 0x2300], [.mem, .resp]⟩ F = true) :
    F.leaves a₀ (legRead1 s r).1 := by
  unfold legRead1
  split
  · exact h
  · exact h
  · extract_lets +onlyGivenNames -merge -useContext -underBinder y0
    have h0 : F.leaves a₀ y0 := by
      refine odRead_leaves ?_ (Foot.le_trans (by decide) hF)
      exact { h with resp := .inl (Foot.part hF (by decide)) }
    try clear_value y0
    split
    · split
      · exact h0
      · exact h0
    · exact h0

theorem legAccess_leaves {F : Foot} {a₀ : State} {key : Nat} {v : Nat} {t : Tick} {s : State} (h : F.leaves a₀ s) (hF : Foot.le ⟨0x0, [], [.now, .blobs, .ports, .groups, .slices, .micro, .fab, .scan, .tb, .spad, .mem, .mc, .cal, .od, .net, .pcie, .rcd, .pwr, .fwx, .rail, .sec, .nv, .tx, .resp]⟩ F = true) :
    F.leaves a₀ (legAccess key v t s) := by
  unfold legAccess
  extract_lets +onlyGivenNames -merge -useContext -underBinder y0
  extract_lets +onlyGivenNames -merge -useContext -underBinder y1
  refine Foot.ite_leaves ?_ ?_
  · refine refuse_leaves ?_ (Foot.le_trans (by decide) hF)
    exact h
  · refine odWrite_leaves ?_ (Foot.le_trans (by decide) hF)
    exact h

theorem legWrite1_leaves {F : Foot} {a₀ : State} {s : State} {r : Nat} {v : Nat} {t : Tick} (h : F.leaves a₀ s) (hF : Foot.le ⟨0x0, [], [.now, .blobs, .ports, .groups, .slices, .micro, .fab, .scan, .tb, .spad, .mem, .mc, .cal, .od, .net, .pcie, .rcd, .pwr, .fwx, .rail, .sec, .nv, .tx, .resp]⟩ F = true) :
    F.leaves a₀ (legWrite1 s r v t).1 := by
  unfold legWrite1
  split
  · exact h
  · exact h
  · extract_lets +onlyGivenNames -merge -useContext -underBinder u0_0 y0
    have h0 : F.leaves a₀ y0 := by
      refine legAccess_leaves ?_ (Foot.le_trans (by decide) hF)
      exact { h with od := .inl (Foot.part hF (by decide)), resp := .inl (Foot.part hF (by decide)) }
    try clear_value y0
    extract_lets +onlyGivenNames -merge -useContext -underBinder u1_0 y1
    have h1 : F.leaves a₀ y1 := by
      exact { h0 with od := .inl (Foot.part hF (by decide)) }
    try clear_value y1
    split
    · exact h1
    · exact h1

theorem legReadAll_leaves {F : Foot} {a₀ : State} {s : State} {r n : Nat} (h : F.leaves a₀ s) (hF : Foot.le ⟨0x10000, [0x2000, 0x2300], [.mem, .resp]⟩ F = true) :
    F.leaves a₀ (legReadAll s r n).1 := by
  induction n generalizing s r with
  | zero => exact h
  | succ n ih =>
    unfold legReadAll
    have hx := legRead1_leaves (r := r) h (Foot.le_trans (by decide) hF)
    extract_lets x
    split
    · exact hx
    · exact ih hx

theorem legErr_leaves {F : Foot} {a₀ : State} {s : State} (h : F.leaves a₀ s) (hF : Foot.le ⟨0x10000, [0x1300], []⟩ F = true) :
    F.leaves a₀ (legErr s) := by
  unfold legErr
  refine satInc_leaves ?_ (Foot.rec_const hF (by decide))
  exact h

theorem legAnswer_leaves {F : Foot} {a₀ : State} {s : State} {addr : Nat} {body : List Byte} (h : F.leaves a₀ s) (hF : Foot.le ⟨0x10000, [], [.tx]⟩ F = true) :
    F.leaves a₀ (legAnswer s addr body) := by
  unfold legAnswer
  refine Foot.ite_leaves ?_ ?_
  · exact h
  · refine out_leaves ?_ (Foot.le_trans (by decide) hF)
    exact h

theorem legExcept_leaves {F : Foot} {a₀ : State} {s : State} {addr : Nat} {func : Nat} {hdr : List Byte} {code : Nat} (h : F.leaves a₀ s) (hF : Foot.le ⟨0x10000, [], [.tx]⟩ F = true) :
    F.leaves a₀ (legExcept s addr func hdr code) := by
  unfold legExcept
  refine legAnswer_leaves ?_ (Foot.le_trans (by decide) hF)
  exact h

theorem legWriteAll_leaves {F : Foot} {a₀ : State} {s : State} {addr : Nat} {hdr : List Byte} {r : Nat} {d : List Byte} {t : Tick} {n : Nat}
    (h : F.leaves a₀ s) (hF : Foot.le ⟨0x0, [], [.now, .blobs, .ports, .groups, .slices, .micro, .fab, .scan, .tb, .spad, .mem, .mc, .cal, .od, .net, .pcie, .rcd, .pwr, .fwx, .rail, .sec, .nv, .tx, .resp]⟩ F = true) : F.leaves a₀ (legWriteAll s addr hdr r d t n) := by
  induction n generalizing s r d with
  | zero => exact legAnswer_leaves h (Foot.le_trans (by decide) hF)
  | succ n ih =>
    unfold legWriteAll
    have hx := legWrite1_leaves (r := r) (v := beNat (d.take 4)) (t := t) h (Foot.le_trans (by decide) hF)
    generalize s.legWrite1 r (beNat (d.take 4)) t = x at hx
    obtain ⟨u, _ | _ | k⟩ := x
    · exact Foot.leaves_net hx (Foot.part hF (by decide))
    · exact ih hx
    · exact legExcept_leaves hx (Foot.le_trans (by decide) hF)

theorem legResume_leaves {F : Foot} {a₀ : State} {s : State} {abort : Nat} {t : Tick} (h : F.leaves a₀ s) (hF : Foot.le ⟨0x0, [], [.now, .blobs, .ports, .groups, .slices, .micro, .fab, .scan, .tb, .spad, .mem, .mc, .cal, .od, .net, .pcie, .rcd, .pwr, .fwx, .rail, .sec, .nv, .tx, .resp]⟩ F = true) :
    F.leaves a₀ (legResume s abort t) := by
  unfold legResume
  split
  · extract_lets +onlyGivenNames -merge -useContext -underBinder u0_0 y0
    have h0 : F.leaves a₀ y0 := by
      exact { h with net := .inl (Foot.part hF (by decide)) }
    try clear_value y0
    refine Foot.ite_leaves ?_ ?_
    · refine legWriteAll_leaves ?_ (Foot.le_trans (by decide) hF)
      exact h0
    · refine legExcept_leaves ?_ (Foot.le_trans (by decide) hF)
      exact h0
  · exact h

theorem legRx_leaves {F : Foot} {a₀ : State} {s : State} {frame : List Byte} {t : Tick} (h : F.leaves a₀ s) (hF : Foot.le ⟨0x0, [], [.now, .blobs, .ports, .groups, .slices, .micro, .fab, .scan, .tb, .spad, .mem, .mc, .cal, .od, .net, .pcie, .rcd, .pwr, .fwx, .rail, .sec, .nv, .tx, .resp]⟩ F = true) :
    F.leaves a₀ (legRx s frame t) := by
  unfold legRx
  extract_lets +onlyGivenNames -merge -useContext -underBinder y0
  extract_lets +onlyGivenNames -merge -useContext -underBinder y1
  extract_lets +onlyGivenNames -merge -useContext -underBinder y2
  extract_lets +onlyGivenNames -merge -useContext -underBinder y3
  extract_lets +onlyGivenNames -merge -useContext -underBinder y4
  try clear_value y4
  extract_lets +onlyGivenNames -merge -useContext -underBinder y5
  try clear_value y5
  extract_lets +onlyGivenNames -merge -useContext -underBinder y6
  try clear_value y6
  refine Foot.ite_leaves ?_ ?_
  · exact h
  · refine Foot.ite_leaves ?_ ?_
    · refine legErr_leaves ?_ (Foot.le_trans (by decide) hF)
      exact h
    · refine Foot.ite_leaves ?_ ?_
      · extract_lets +onlyGivenNames -merge -useContext -underBinder y7
        refine Foot.ite_leaves ?_ ?_
        · refine legAnswer_leaves ?_ (Foot.le_trans (by decide) hF)
          refine legReadAll_leaves ?_ (Foot.le_trans (by decide) hF)
          exact h
        · refine legExcept_leaves ?_ (Foot.le_trans (by decide) hF)
          refine legReadAll_leaves ?_ (Foot.le_trans (by decide) hF)
          exact h
      · refine Foot.ite_leaves ?_ ?_
        · refine legWriteAll_leaves ?_ (Foot.le_trans (by decide) hF)
          exact h
        · refine legExcept_leaves ?_ (Foot.le_trans (by decide) hF)
          exact h

/-! ### PcieCore -/

theorem hostRun_leaves {F : Foot} {a₀ : State} {f : Nat} {rd : Bool} {eff : State → State} {s : State} (h : F.leaves a₀ s)
    (hF : Foot.le ⟨0x10000, [0x1100], [.tx]⟩ F = true) (he : ∀ z, F.leaves a₀ z → F.leaves a₀ (eff z)) : F.leaves a₀ (hostRun f rd eff s) := by
  unfold hostRun
  split
  · exact he _ h
  · split
    · split
      · exact answerUR_leaves h (Foot.le_trans (by decide) hF)
      · exact urCount_leaves h (Foot.le_trans (by decide) hF)
    · exact h

theorem complete_leaves {F : Foot} {a₀ : State} {s : State} {f : Nat} {bad : Bool} {data : List Byte} (h : F.leaves a₀ s) (hF : Foot.le ⟨0x10000, [0x1100], [.tx]⟩ F = true) :
    F.leaves a₀ (complete s f bad data) := by
  unfold complete
  refine Foot.ite_leaves ?_ ?_
  · refine out_leaves ?_ (Foot.le_trans (by decide) hF)
    refine satInc_leaves ?_ (Foot.rec_const hF (by decide))
    exact h
  · refine out_leaves ?_ (Foot.le_trans (by decide) hF)
    exact h

theorem setLatch_leaves {F : Foot} {a₀ : State} {s : State} {f : Nat} {spad : Bool} {x : Snap} (h : F.leaves a₀ s) (hF : Foot.le ⟨0x10000, [], [.pcie]⟩ F = true) :
    F.leaves a₀ (setLatch s f spad x) := by
  unfold setLatch
  refine modFn_leaves ?_ (Foot.le_trans (by decide) hF)
  exact h

theorem imageRead_leaves {F : Foot} {a₀ : State} {s : State} {f : Nat} {spad : Bool} {slot : Nat} {w : Nat} {v : Nat} {bad : Bool} {k : RdKind} (h : F.leaves a₀ s) (hF : Foot.le ⟨0x10000, [0x1100], [.pcie, .tx]⟩ F = true) :
    F.leaves a₀ (imageRead s f spad slot w v bad k) := by
  unfold imageRead
  extract_lets +onlyGivenNames -merge -useContext -underBinder y0
  try clear_value y0
  split
  · refine complete_leaves ?_ (Foot.le_trans (by decide) hF)
    exact h
  · refine Foot.ite_leaves ?_ ?_
    · refine complete_leaves ?_ (Foot.le_trans (by decide) hF)
      exact h
    · refine complete_leaves ?_ (Foot.le_trans (by decide) hF)
      refine setLatch_leaves ?_ (Foot.le_trans (by decide) hF)
      exact h
  · refine Foot.ite_leaves ?_ ?_
    · refine complete_leaves ?_ (Foot.le_trans (by decide) hF)
      exact h
    · extract_lets +onlyGivenNames -merge -useContext -underBinder y1
      refine Foot.ite_leaves ?_ ?_
      · refine complete_leaves ?_ (Foot.le_trans (by decide) hF)
        exact h
      · refine complete_leaves ?_ (Foot.le_trans (by decide) hF)
        exact h

theorem spadWinRead_leaves {F : Foot} {a₀ : State} {s : State} {f : Nat} {off : Nat} {k : RdKind} (h : F.leaves a₀ s) (hF : Foot.le ⟨0x10000, [0x1100, 0x2300], [.mem, .pcie, .tx]⟩ F = true) :
    F.leaves a₀ (spadWinRead s f off k) := by
  unfold spadWinRead
  extract_lets +onlyGivenNames -merge -useContext -underBinder y0
  extract_lets +onlyGivenNames -merge -useContext -underBinder y1
  try clear_value y1
  refine Foot.ite_leaves ?_ ?_
  · refine answerUR_leaves ?_ (Foot.le_trans (by decide) hF)
    exact h
  · refine Foot.ite_leaves ?_ ?_
    · refine answerUR_leaves ?_ (Foot.le_trans (by decide) hF)
      refine when_leaves ?_ fun z2 h2 => ?_
      · exact h
      · refine sapViol_leaves ?_ (Foot.le_trans (by decide) hF)
        exact h2
    · extract_lets +onlyGivenNames -merge -useContext -underBinder y3
      refine imageRead_leaves ?_ (Foot.le_trans (by decide) hF)
      refine spadRead_leaves ?_ (Foot.le_trans (by decide) hF)
      exact h

theorem mbRead4_leaves {F : Foot} {a₀ : State} {s : State} {f : Nat} {off : Nat} {k : RdKind} (h : F.leaves a₀ s) (hF : Foot.le ⟨0x10000, [0x1100], [.tx]⟩ F = true) :
    F.leaves a₀ (mbRead4 s f off k) := by
  unfold mbRead4
  split
  · split
    · refine out_leaves ?_ (Foot.le_trans (by decide) hF)
      exact h
    · refine answerUR_leaves ?_ (Foot.le_trans (by decide) hF)
      exact h
  · split
    · refine out_leaves ?_ (Foot.le_trans (by decide) hF)
      exact h
    · refine answerUR_leaves ?_ (Foot.le_trans (by decide) hF)
      exact h

theorem regsWinRead_leaves {F : Foot} {a₀ : State} {s : State} {f : Nat} {off : Nat} {k : RdKind} (h : F.leaves a₀ s) (hF : Foot.le ⟨0x10000, [0x1100, 0x2300], [.mem, .pcie, .tx]⟩ F = true) :
    F.leaves a₀ (regsWinRead s f off k) := by
  unfold regsWinRead
  extract_lets +onlyGivenNames -merge -useContext -underBinder y0
  split
  · refine mbRead4_leaves ?_ (Foot.le_trans (by decide) hF)
    exact h
  · refine complete_leaves ?_ (Foot.le_trans (by decide) hF)
    exact h
  · refine Foot.ite_leaves ?_ ?_
    · refine answerUR_leaves ?_ (Foot.le_trans (by decide) hF)
      exact h
    · split
      · rename_i y1 _ e1
        have h1 : F.leaves a₀ y1 := by
          have q1 := congrArg (fun x => x.1) e1
          beta_reduce at q1
          change _ = y1 at q1
          rw [← q1]
          refine readEntry_leaves ?_ (Foot.le_trans (by decide) hF)
          exact h
        refine imageRead_leaves ?_ (Foot.le_trans (by decide) hF)
        exact h1
      · rename_i y2 e2
        have h2 : F.leaves a₀ y2 := by
          have q2 := congrArg (fun x => x.1) e2
          beta_reduce at q2
          change _ = y2 at q2
          rw [← q2]
          refine readEntry_leaves ?_ (Foot.le_trans (by decide) hF)
          exact h
        refine imageRead_leaves ?_ (Foot.le_trans (by decide) hF)
        exact h2
  · refine answerUR_leaves ?_ (Foot.le_trans (by decide) hF)
    exact h

theorem winRead_leaves {F : Foot} {a₀ : State} {f : Nat} {spad : Bool} {off : Nat} {k : RdKind} {s : State} (h : F.leaves a₀ s) (hF : Foot.le ⟨0x10000, [0x1100, 0x2300], [.mem, .pcie, .tx]⟩ F = true) :
    F.leaves a₀ (winRead f spad off k s) := by
  unfold winRead
  refine hostRun_leaves ?_ (Foot.le_trans (by decide) hF) fun z0 h0 => ?_
  · exact h
  · refine Foot.ite_leaves ?_ ?_
    · refine orLate_leaves ?_ (Foot.le_trans (by decide) hF) fun z1 h1 => ?_
      · exact h0
      · refine spadWinRead_leaves ?_ (Foot.le_trans (by decide) hF)
        exact h1
    · refine regsWinRead_leaves ?_ (Foot.le_trans (by decide) hF)
      exact h0

theorem winErr_leaves {F : Foot} {a₀ : State} {s : State} (h : F.leaves a₀ s) (hF : Foot.le ⟨0x10000, [0x2300], []⟩ F = true) :
    F.leaves a₀ (winErr s) := by
  unfold winErr
  refine setBit_leaves ?_ (Foot.rec_const hF (by decide))
  exact h

theorem stageLo_leaves {F : Foot} {a₀ : State} {s : State} {f : Nat} {spad : Bool} {slot : Nat} {v : Nat} (h : F.leaves a₀ s) (hF : Foot.le ⟨0x10000, [0x2300], [.pcie]⟩ F = true) :
    F.leaves a₀ (stageLo s f spad slot v) := by
  unfold stageLo
  extract_lets +onlyGivenNames -merge -useContext -underBinder y0
  try clear_value y0
  refine modFn_leaves ?_ (Foot.le_trans (by decide) hF)
  refine when_leaves ?_ fun z1 h1 => ?_
  · exact h
  · refine winErr_leaves ?_ (Foot.le_trans (by decide) hF)
    exact h1

theorem commitHi_leaves {F : Foot} {a₀ : State} {s : State} {f : Nat} {spad : Bool} {slot : Nat} {w : Nat} {v : Nat} (h : F.leaves a₀ s) (hF : Foot.le ⟨0x10000, [0x2300], [.pcie]⟩ F = true) :
    F.leaves a₀ (commitHi s f spad slot w v).1 := by
  unfold commitHi
  split
  · split
    · dsimp only
      refine modFn_leaves ?_ (Foot.le_trans (by decide) hF)
      exact h
    · dsimp only
      refine winErr_leaves ?_ (Foot.le_trans (by decide) hF)
      exact h
  · dsimp only
    refine winErr_leaves ?_ (Foot.le_trans (by decide) hF)
    exact h

theorem spadWinWrite_leaves {F : Foot} {a₀ : State} {s : State} {f : Nat} {a : Nat} {v : Nat} (h : F.leaves a₀ s) (hF : Foot.le ⟨0x10000, [0x1100, 0x2300], [.spad, .mem]⟩ F = true) :
    F.leaves a₀ (spadWinWrite s f a v) := by
  unfold spadWinWrite
  extract_lets +onlyGivenNames -merge -useContext -underBinder y0
  try clear_value y0
  refine Foot.ite_leaves ?_ ?_
  · refine urCount_leaves ?_ (Foot.le_trans (by decide) hF)
    exact h
  · refine Foot.ite_leaves ?_ ?_
    · refine urCount_leaves ?_ (Foot.le_trans (by decide) hF)
      refine when_leaves ?_ fun z1 h1 => ?_
      · exact h
      · refine sapViol_leaves ?_ (Foot.le_trans (by decide) hF)
        exact h1
    · refine spadPut_leaves ?_ (Foot.le_trans (by decide) hF)
      exact h

theorem spadPosted_leaves {F : Foot} {a₀ : State} {s : State} {f : Nat} {a : Nat} {v : Nat} (h : F.leaves a₀ s) (hF : Foot.le ⟨0x10000, [0x1100, 0x2300], [.spad, .mem]⟩ F = true) :
    F.leaves a₀ (spadPosted s f a v) := by
  unfold spadPosted
  refine orLate_leaves ?_ (Foot.le_trans (by decide) hF) fun z0 h0 => ?_
  · exact h
  · refine spadWinWrite_leaves ?_ (Foot.le_trans (by decide) hF)
    exact h0

theorem directRefused_leaves {F : Foot} {a₀ : State} {s : State} {f : Nat} {off : Nat} {a : Nat} {t : Tick} (h : F.leaves a₀ s) (hF : Foot.le ⟨0x10000, [0x1100], [.pcie, .tx]⟩ F = true) (r0 : F.covers (0x1140 + f)) :
    F.leaves a₀ (directRefused s f off a t) := by
  unfold directRefused
  extract_lets +onlyGivenNames -merge -useContext -underBinder y0
  have h0 : F.leaves a₀ y0 := by
    refine set_leaves ?_ (Foot.rec_key r0)
    exact h
  try clear_value y0
  refine urCount_leaves ?_ (Foot.le_trans (by decide) hF)
  refine raiseErr_leaves ?_ (Foot.le_trans (by decide) hF)
  refine satInc_leaves ?_ (Foot.rec_key r0)
  exact h0

theorem directEntry_leaves {F : Foot} {a₀ : State} {s : State} {f : Nat} {off : Nat} {key : Nat} {v : Nat} {t : Tick} (h : F.leaves a₀ s) (hF : Foot.le ⟨0x0, [], [.now, .blobs, .ports, .groups, .slices, .micro, .fab, .scan, .tb, .spad, .mem, .mc, .cal, .od, .net, .pcie, .rcd, .pwr, .fwx, .rail, .sec, .nv, .tx, .resp]⟩ F = true) :
    F.leaves a₀ (directEntry s f off key v t) := by
  unfold directEntry
  extract_lets +onlyGivenNames -merge -useContext -underBinder u0_0 y0
  have h0 : F.leaves a₀ y0 := by
    refine odWrite_leaves ?_ (Foot.le_trans (by decide) hF)
    exact { h with od := .inl (Foot.part hF (by decide)), resp := .inl (Foot.part hF (by decide)) }
  try clear_value y0
  split
  · refine Foot.ite_leaves ?_ ?_
    · exact h0
    · refine directRefused_leaves ?_ (Foot.le_trans (by decide) hF) (Foot.rec_floor hF (by decide))
      exact h0
  · exact h0

theorem directSmall_leaves {F : Foot} {a₀ : State} {s : State} {f : Nat} {off : Nat} {key : Nat} {n : Nat} {v : Nat} {t : Tick} (h : F.leaves a₀ s) (hF : Foot.le ⟨0x0, [], [.now, .blobs, .ports, .groups, .slices, .micro, .fab, .scan, .tb, .spad, .mem, .mc, .cal, .od, .net, .pcie, .rcd, .pwr, .fwx, .rail, .sec, .nv, .tx, .resp]⟩ F = true) :
    F.leaves a₀ (directSmall s f off key n v t) := by
  unfold directSmall
  extract_lets +onlyGivenNames -merge -useContext -underBinder y0
  refine Foot.ite_leaves ?_ ?_
  · refine directEntry_leaves ?_ (Foot.le_trans (by decide) hF)
    exact h
  · extract_lets +onlyGivenNames -merge -useContext -underBinder y1
    try clear_value y1
    refine directRefused_leaves ?_ (Foot.le_trans (by decide) hF) (Foot.rec_floor hF (by decide))
    exact h

theorem mbDone_leaves {F : Foot} {a₀ : State} {s : State} {f : Nat} {body : List Byte} (h : F.leaves a₀ s) (hF : Foot.le ⟨0x10000, [], [.pcie]⟩ F = true) :
    F.leaves a₀ (mbDone s f body) := by
  unfold mbDone
  refine modMb_leaves ?_ (Foot.le_trans (by decide) hF)
  exact h

theorem mbAbortWith_leaves {F : Foot} {a₀ : State} {s : State} {f : Nat} {key : Nat} {a : Nat} (h : F.leaves a₀ s) (hF : Foot.le ⟨0x10000, [0x2000], [.pcie, .resp]⟩ F = true) :
    F.leaves a₀ (mbAbortWith s f key a) := by
  unfold mbAbortWith
  refine mbDone_leaves ?_ (Foot.le_trans (by decide) hF)
  refine refuse_leaves ?_ (Foot.le_trans (by decide) hF)
  exact h

theorem mbAccess_leaves {F : Foot} {a₀ : State} {s : State} {f typ : Nat} {eff : State → State} (h : F.leaves a₀ s)
    (hF : Foot.le ⟨0x10000, [], [.od, .pcie, .resp]⟩ F = true) (he : ∀ z, F.leaves a₀ z → F.leaves a₀ (eff z)) : F.leaves a₀ (mbAccess s f typ eff) := by
  have h2 : F.leaves a₀ { s with resp := none, od := { s.od with origin := .mb f } } :=
    { h with resp := .inl (Foot.part hF (by decide)), od := .inl (Foot.part hF (by decide)) }
  have h0 := he _ h2
  unfold mbAccess
  generalize eff { s with resp := none, od := { s.od with origin := .mb f } } = y0 at *
  have h1 : F.leaves a₀ { y0 with od := { y0.od with origin := .direct } } := Foot.leaves_od h0 (Foot.part hF (by decide))
  dsimp only
  split
  · exact mbDone_leaves h1 (Foot.le_trans (by decide) hF)
  · exact h1

theorem spadCopy_leaves {F : Foot} {a₀ : State} {s : State} {f : Nat} {b : List Byte} {host : Option (List Byte)} (h : F.leaves a₀ s) (hF : Foot.le ⟨0x10000, [0x2000, 0x2300, 0x1100], [.spad, .mem, .pcie, .tx, .resp]⟩ F = true) :
    F.leaves a₀ (spadCopy s f b host) := by
  unfold spadCopy
  extract_lets +onlyGivenNames -merge -useContext -underBinder y0
  extract_lets +onlyGivenNames -merge -useContext -underBinder y1
  try clear_value y1
  extract_lets +onlyGivenNames -merge -useContext -underBinder y2
  extract_lets +onlyGivenNames -merge -useContext -underBinder y3
  extract_lets +onlyGivenNames -merge -useContext -underBinder y4
  extract_lets +onlyGivenNames -merge -useContext -underBinder y5
  try clear_value y5
  refine Foot.ite_leaves ?_ ?_
  · refine mbAbortWith_leaves ?_ (Foot.le_trans (by decide) hF)
    exact h
  · extract_lets +onlyGivenNames -merge -useContext -underBinder y6
    try clear_value y6
    split
    · refine mbAbortWith_leaves ?_ (Foot.le_trans (by decide) hF)
      refine when_leaves ?_ fun z7 h7 => ?_
      · exact h
      · refine sapViol_leaves ?_ (Foot.le_trans (by decide) hF)
        exact h7
    · refine Foot.ite_leaves ?_ ?_
      · extract_lets +onlyGivenNames -merge -useContext -underBinder y8
        have h8 : F.leaves a₀ y8 := by
          refine out_leaves ?_ (Foot.le_trans (by decide) hF)
          exact h
        try clear_value y8
        split
        · refine mbAbortWith_leaves ?_ (Foot.le_trans (by decide) hF)
          exact h8
        · refine mbDone_leaves ?_ (Foot.le_trans (by decide) hF)
          refine spadPutAll_leaves ?_ (Foot.le_trans (by decide) hF)
          exact h8
      · extract_lets +onlyGivenNames -merge -useContext -underBinder y9
        extract_lets +onlyGivenNames -merge -useContext -underBinder y10
        have h10 : F.leaves a₀ y10 := by
          refine when_leaves ?_ fun z11 h11 => ?_
          · refine out_leaves ?_ (Foot.le_trans (by decide) hF)
            refine spadReadAll_leaves ?_ (Foot.le_trans (by decide) hF)
            exact h
          · refine satInc_leaves ?_ (Foot.rec_const hF (by decide))
            exact h11
        try clear_value y10
        refine mbDone_leaves ?_ (Foot.le_trans (by decide) hF)
        exact h10

theorem mbRequest_leaves {F : Foot} {a₀ : State} {s : State} {f : Nat} {id : Nat} {typ : Nat} {b : List Byte} {host : Option (List Byte)} {t : Tick} (h : F.leaves a₀ s) (hF : Foot.le ⟨0x0, [], [.now, .blobs, .ports, .groups, .slices, .micro, .fab, .scan, .tb, .spad, .mem, .mc, .cal, .od, .net, .pcie, .rcd, .pwr, .fwx, .rail, .sec, .nv, .tx, .resp]⟩ F = true) :
    F.leaves a₀ (mbRequest s f id typ b host t) := by
  unfold mbRequest
  extract_lets +onlyGivenNames -merge -useContext -underBinder y0
  try clear_value y0
  refine Foot.ite_leaves ?_ ?_
  · refine mbAbortWith_leaves ?_ (Foot.le_trans (by decide) hF)
    exact h
  · refine Foot.ite_leaves ?_ ?_
    · refine mbAbortWith_leaves ?_ (Foot.le_trans (by decide) hF)
      exact h
    · refine Foot.ite_leaves ?_ ?_
      · refine mbAccess_leaves ?_ (Foot.le_trans (by decide) hF)  fun z1 h1 => ?_
        · exact h
        · refine Foot.ite_leaves ?_ ?_
          · refine refuse_leaves ?_ (Foot.le_trans (by decide) hF)
            exact h1
          · refine odRead_leaves ?_ (Foot.le_trans (by decide) hF)
            exact h1
      · refine Foot.ite_leaves ?_ ?_
        · refine mbAccess_leaves ?_ (Foot.le_trans (by decide) hF)  fun z2 h2 => ?_
          · exact h
          · refine typedWrite_leaves ?_ (Foot.le_trans (by decide) hF)
            exact h2
        · refine Foot.ite_leaves ?_ ?_
          · extract_lets +onlyGivenNames -merge -useContext -underBinder y3
            refine mbDone_leaves ?_ (Foot.le_trans (by decide) hF)
            refine modMb_leaves ?_ (Foot.le_trans (by decide) hF)
            refine blockRead_leaves ?_ (Foot.le_trans (by decide) hF)
            exact h
          · refine Foot.ite_leaves ?_ ?_
            · split
              · refine mbAbortWith_leaves ?_ (Foot.le_trans (by decide) hF)
                refine modMb_leaves ?_ (Foot.le_trans (by decide) hF)
                exact h
              · refine mbDone_leaves ?_ (Foot.le_trans (by decide) hF)
                refine modMb_leaves ?_ (Foot.le_trans (by decide) hF)
                exact h
              · refine mbAccess_leaves ?_ (Foot.le_trans (by decide) hF)  fun z4 h4 => ?_
                · refine modMb_leaves ?_ (Foot.le_trans (by decide) hF)
                  exact h
                · refine odWrite_leaves ?_ (Foot.le_trans (by decide) hF)
                  exact h4
            · refine Foot.ite_leaves ?_ ?_
              · refine Foot.ite_leaves ?_ ?_
                · refine mbAbortWith_leaves ?_ (Foot.le_trans (by decide) hF)
                  exact h
                · extract_lets +onlyGivenNames -merge -useContext -underBinder y5
                  try clear_value y5
                  refine mbDone_leaves ?_ (Foot.le_trans (by decide) hF)
                  refine modMb_leaves ?_ (Foot.le_trans (by decide) hF)
                  exact h
              · refine orLate_leaves ?_ (Foot.le_trans (by decide) hF) fun z6 h6 => ?_
                · exact h
                · refine spadCopy_leaves ?_ (Foot.le_trans (by decide) hF)
                  exact h6

theorem mbSubmit_leaves {F : Foot} {a₀ : State} {f : Nat} {id : Nat} {typ : Nat} {b : List Byte} {host : Option (List Byte)} {t : Tick} {s : State} (h : F.leaves a₀ s) (hF : Foot.le ⟨0x0, [], [.now, .blobs, .ports, .groups, .slices, .micro, .fab, .scan, .tb, .spad, .mem, .mc, .cal, .od, .net, .pcie, .rcd, .pwr, .fwx, .rail, .sec, .nv, .tx, .resp]⟩ F = true) :
    F.leaves a₀ (mbSubmit f id typ b host t s) := by
  unfold mbSubmit
  refine Foot.ite_leaves ?_ ?_
  · exact h
  · refine Foot.ite_leaves ?_ ?_
    · refine modMb_leaves ?_ (Foot.le_trans (by decide) hF)
      exact h
    · refine Foot.ite_leaves ?_ ?_
      · refine modMb_leaves ?_ (Foot.le_trans (by decide) hF)
        exact h
      · refine mbRequest_leaves ?_ (Foot.le_trans (by decide) hF)
        refine modMb_leaves ?_ (Foot.le_trans (by decide) hF)
        exact h

theorem mbWrite4_leaves {F : Foot} {a₀ : State} {s : State} {f : Nat} {off : Nat} {v : Nat} {t : Tick} (h : F.leaves a₀ s) (hF : Foot.le ⟨0x0, [], [.now, .blobs, .ports, .groups, .slices, .micro, .fab, .scan, .tb, .spad, .mem, .mc, .cal, .od, .net, .pcie, .rcd, .pwr, .fwx, .rail, .sec, .nv, .tx, .resp]⟩ F = true) :
    F.leaves a₀ (mbWrite4 s f off v t) := by
  unfold mbWrite4
  refine Foot.ite_leaves ?_ ?_
  · extract_lets +onlyGivenNames -merge -useContext -underBinder y0
    try clear_value y0
    refine mbSubmit_leaves ?_ (Foot.le_trans (by decide) hF)
    exact h
  · refine Foot.ite_leaves ?_ ?_
    · refine modMb_leaves ?_ (Foot.le_trans (by decide) hF)
      exact h
    · refine Foot.ite_leaves ?_ ?_
      · refine modMb_leaves ?_ (Foot.le_trans (by decide) hF)
        exact h
      · refine directRefused_leaves ?_ (Foot.le_trans (by decide) hF) (Foot.rec_floor hF (by decide))
        exact h

theorem mbRespond_leaves {F : Foot} {a₀ : State} {f : Nat} {t : Tick} {s : State} (h : F.leaves a₀ s) (hF : Foot.le ⟨0x10000, [], [.pcie, .tx]⟩ F = true) :
    F.leaves a₀ (mbRespond f t s) := by
  unfold mbRespond
  split
  · exact h
  · extract_lets +onlyGivenNames -merge -useContext -underBinder y0
    try clear_value y0
    extract_lets +onlyGivenNames -merge -useContext -underBinder y1
    try clear_value y1
    refine raise_leaves ?_ (Foot.le_trans (by decide) hF)
    refine modMb_leaves ?_ (Foot.le_trans (by decide) hF)
    exact h

theorem regsWriteLo_leaves {F : Foot} {a₀ : State} {s : State} {f : Nat} {off : Nat} {v : Nat} {t : Tick} (h : F.leaves a₀ s) (hF : Foot.le ⟨0x0, [], [.now, .blobs, .ports, .groups, .slices, .micro, .fab, .scan, .tb, .spad, .mem, .mc, .cal, .od, .net, .pcie, .rcd, .pwr, .fwx, .rail, .sec, .nv, .tx, .resp]⟩ F = true) :
    F.leaves a₀ (regsWriteLo s f off v t) := by
  unfold regsWriteLo
  split
  · refine mbWrite4_leaves ?_ (Foot.le_trans (by decide) hF)
    exact h
  · refine directSmall_leaves ?_ (Foot.le_trans (by decide) hF)
    exact h
  · refine Foot.ite_leaves ?_ ?_
    · refine Foot.ite_leaves ?_ ?_
      · refine directRefused_leaves ?_ (Foot.le_trans (by decide) hF) (Foot.rec_floor hF (by decide))
        exact h
      · refine stageLo_leaves ?_ (Foot.le_trans (by decide) hF)
        exact h
    · refine directSmall_leaves ?_ (Foot.le_trans (by decide) hF)
      exact h
  · refine urCount_leaves ?_ (Foot.le_trans (by decide) hF)
    exact h
  · refine directRefused_leaves ?_ (Foot.le_trans (by decide) hF) (Foot.rec_floor hF (by decide))
    exact h

theorem regsWriteHi_leaves {F : Foot} {a₀ : State} {s : State} {f : Nat} {off : Nat} {v : Nat} {t : Tick} (h : F.leaves a₀ s) (hF : Foot.le ⟨0x0, [], [.now, .blobs, .ports, .groups, .slices, .micro, .fab, .scan, .tb, .spad, .mem, .mc, .cal, .od, .net, .pcie, .rcd, .pwr, .fwx, .rail, .sec, .nv, .tx, .resp]⟩ F = true) :
    F.leaves a₀ (regsWriteHi s f off v t) := by
  unfold regsWriteHi
  split
  · refine mbWrite4_leaves ?_ (Foot.le_trans (by decide) hF)
    exact h
  · refine Foot.ite_leaves ?_ ?_
    · refine Foot.ite_leaves ?_ ?_
      · refine directRefused_leaves ?_ (Foot.le_trans (by decide) hF) (Foot.rec_floor hF (by decide))
        exact h
      · split
        · rename_i y0 _ e0
          have h0 : F.leaves a₀ y0 := by
            have q0 := congrArg (fun x => x.1) e0
            beta_reduce at q0
            change _ = y0 at q0
            rw [← q0]
            refine commitHi_leaves ?_ (Foot.le_trans (by decide) hF)
            exact h
          refine directEntry_leaves ?_ (Foot.le_trans (by decide) hF)
          exact h0
        · rename_i y1 e1
          have h1 : F.leaves a₀ y1 := by
            have q1 := congrArg (fun x => x.1) e1
            beta_reduce at q1
            change _ = y1 at q1
            rw [← q1]
            refine commitHi_leaves ?_ (Foot.le_trans (by decide) hF)
            exact h
          exact h1
    · refine directRefused_leaves ?_ (Foot.le_trans (by decide) hF) (Foot.rec_floor hF (by decide))
      exact h
  · refine directRefused_leaves ?_ (Foot.le_trans (by decide) hF) (Foot.rec_floor hF (by decide))
    exact h
  · refine urCount_leaves ?_ (Foot.le_trans (by decide) hF)
    exact h
  · refine directRefused_leaves ?_ (Foot.le_trans (by decide) hF) (Foot.rec_floor hF (by decide))
    exact h

theorem regsWriteWhole_leaves {F : Foot} {a₀ : State} {s : State} {f : Nat} {off : Nat} {v : Nat} {t : Tick} (h : F.leaves a₀ s) (hF : Foot.le ⟨0x0, [], [.now, .blobs, .ports, .groups, .slices, .micro, .fab, .scan, .tb, .spad, .mem, .mc, .cal, .od, .net, .pcie, .rcd, .pwr, .fwx, .rail, .sec, .nv, .tx, .resp]⟩ F = true) :
    F.leaves a₀ (regsWriteWhole s f off v t) := by
  unfold regsWriteWhole
  split
  · refine mbWrite4_leaves ?_ (Foot.le_trans (by decide) hF)
    refine mbWrite4_leaves ?_ (Foot.le_trans (by decide) hF)
    exact h
  · refine directSmall_leaves ?_ (Foot.le_trans (by decide) hF)
    exact h
  · refine Foot.ite_leaves ?_ ?_
    · refine directEntry_leaves ?_ (Foot.le_trans (by decide) hF)
      exact h
    · refine directSmall_leaves ?_ (Foot.le_trans (by decide) hF)
      exact h
  · refine urCount_leaves ?_ (Foot.le_trans (by decide) hF)
    exact h
  · refine directRefused_leaves ?_ (Foot.le_trans (by decide) hF) (Foot.rec_floor hF (by decide))
    exact h

theorem regsWritePart_leaves {F : Foot} {a₀ : State} {s : State} {f : Nat} {off : Nat} {t : Tick} (h : F.leaves a₀ s) (hF : Foot.le ⟨0x10000, [0x1100], [.pcie, .tx]⟩ F = true) (r0 : F.covers (0x1140 + f)) :
    F.leaves a₀ (regsWritePart s f off t) := by
  unfold regsWritePart
  split
  · refine urCount_leaves ?_ (Foot.le_trans (by decide) hF)
    exact h
  · refine directRefused_leaves ?_ (Foot.le_trans (by decide) hF) r0
    exact h
  · refine directRefused_leaves ?_ (Foot.le_trans (by decide) hF) r0
    exact h
  · refine directRefused_leaves ?_ (Foot.le_trans (by decide) hF) r0
    exact h
  · refine directRefused_leaves ?_ (Foot.le_trans (by decide) hF) r0
    exact h

theorem directWriteReq_leaves {F : Foot} {a₀ : State} {f : Nat} {off : Nat} {k : WrKind} {v : Nat} {t : Tick} {s : State} (h : F.leaves a₀ s) (hF : Foot.le ⟨0x0, [], [.now, .blobs, .ports, .groups, .slices, .micro, .fab, .scan, .tb, .spad, .mem, .mc, .cal, .od, .net, .pcie, .rcd, .pwr, .fwx, .rail, .sec, .nv, .tx, .resp]⟩ F = true) :
    F.leaves a₀ (directWriteReq f off k v t s) := by
  unfold directWriteReq
  refine hostRun_leaves ?_ (Foot.le_trans (by decide) hF) fun z0 h0 => ?_
  · exact h
  · split
    · refine Foot.ite_leaves ?_ ?_
      · refine regsWriteHi_leaves ?_ (Foot.le_trans (by decide) hF)
        exact h0
      · refine regsWriteLo_leaves ?_ (Foot.le_trans (by decide) hF)
        exact h0
    · refine regsWriteWhole_leaves ?_ (Foot.le_trans (by decide) hF)
      exact h0
    · refine regsWritePart_leaves ?_ (Foot.le_trans (by decide) hF) (Foot.rec_floor hF (by decide))
      exact h0

theorem winLoWriteReq_leaves {F : Foot} {a₀ : State} {f : Nat} {spad : Bool} {off : Nat} {v : Nat} {t : Tick} {s : State} (h : F.leaves a₀ s) (hF : Foot.le ⟨0x0, [], [.now, .blobs, .ports, .groups, .slices, .micro, .fab, .scan, .tb, .spad, .mem, .mc, .cal, .od, .net, .pcie, .rcd, .pwr, .fwx, .rail, .sec, .nv, .tx, .resp]⟩ F = true) :
    F.leaves a₀ (winLoWriteReq f spad off v t s) := by
  unfold winLoWriteReq
  refine hostRun_leaves ?_ (Foot.le_trans (by decide) hF) fun z0 h0 => ?_
  · exact h
  · refine Foot.ite_leaves ?_ ?_
    · refine stageLo_leaves ?_ (Foot.le_trans (by decide) hF)
      exact h0
    · refine regsWriteLo_leaves ?_ (Foot.le_trans (by decide) hF)
      exact h0

theorem winHiWriteReq_leaves {F : Foot} {a₀ : State} {f : Nat} {spad : Bool} {off : Nat} {v : Nat} {t : Tick} {s : State} (h : F.leaves a₀ s) (hF : Foot.le ⟨0x0, [], [.now, .blobs, .ports, .groups, .slices, .micro, .fab, .scan, .tb, .spad, .mem, .mc, .cal, .od, .net, .pcie, .rcd, .pwr, .fwx, .rail, .sec, .nv, .tx, .resp]⟩ F = true) :
    F.leaves a₀ (winHiWriteReq f spad off v t s) := by
  unfold winHiWriteReq
  refine hostRun_leaves ?_ (Foot.le_trans (by decide) hF) fun z0 h0 => ?_
  · exact h
  · refine Foot.ite_leaves ?_ ?_
    · split
      · rename_i y1 _ e1
        have h1 : F.leaves a₀ y1 := by
          have q1 := congrArg (fun x => x.1) e1
          beta_reduce at q1
          change _ = y1 at q1
          rw [← q1]
          refine commitHi_leaves ?_ (Foot.le_trans (by decide) hF)
          exact h0
        refine spadPosted_leaves ?_ (Foot.le_trans (by decide) hF)
        exact h1
      · rename_i y2 e2
        have h2 : F.leaves a₀ y2 := by
          have q2 := congrArg (fun x => x.1) e2
          beta_reduce at q2
          change _ = y2 at q2
          rw [← q2]
          refine commitHi_leaves ?_ (Foot.le_trans (by decide) hF)
          exact h0
        exact h2
    · refine regsWriteHi_leaves ?_ (Foot.le_trans (by decide) hF)
      exact h0

theorem spadAtomic_leaves {F : Foot} {a₀ : State} {s : State} {f : Nat} {a : Nat} {op : FabOp} {x : W40} (h : F.leaves a₀ s) (hF : Foot.le ⟨0x10000, [0x1100, 0x2300], [.spad, .mem, .tx]⟩ F = true) :
    F.leaves a₀ (spadAtomic s f a op x) := by
  unfold spadAtomic
  extract_lets +onlyGivenNames -merge -useContext -underBinder y0
  try clear_value y0
  refine Foot.ite_leaves ?_ ?_
  · refine answerUR_leaves ?_ (Foot.le_trans (by decide) hF)
    exact h
  · refine Foot.ite_leaves ?_ ?_
    · refine answerUR_leaves ?_ (Foot.le_trans (by decide) hF)
      refine when_leaves ?_ fun z1 h1 => ?_
      · exact h
      · refine sapViol_leaves ?_ (Foot.le_trans (by decide) hF)
        exact h1
    · extract_lets +onlyGivenNames -merge -useContext -underBinder y2
      extract_lets +onlyGivenNames -merge -useContext -underBinder y3
      try clear_value y3
      extract_lets +onlyGivenNames -merge -useContext -underBinder y4
      have h4 : F.leaves a₀ y4 := by
        refine Foot.ite_leaves ?_ ?_
        · refine poisonWord_leaves ?_ (Foot.le_trans (by decide) hF)
          refine spadRead_leaves ?_ (Foot.le_trans (by decide) hF)
          exact h
        · refine spadPut_leaves ?_ (Foot.le_trans (by decide) hF)
          refine spadRead_leaves ?_ (Foot.le_trans (by decide) hF)
          exact h
      try clear_value y4
      refine complete_leaves ?_ (Foot.le_trans (by decide) hF)
      exact h4

theorem atomicPosted_leaves {F : Foot} {a₀ : State} {s : State} {f : Nat} {a : Nat} {op : FabOp} {x : W40} (h : F.leaves a₀ s) (hF : Foot.le ⟨0x10000, [0x1100, 0x2300], [.spad, .mem, .tx]⟩ F = true) :
    F.leaves a₀ (atomicPosted s f a op x) := by
  unfold atomicPosted
  refine orLate_leaves ?_ (Foot.le_trans (by decide) hF) fun z0 h0 => ?_
  · exact h
  · refine spadAtomic_leaves ?_ (Foot.le_trans (by decide) hF)
    exact h0

theorem atomicReq_leaves {F : Foot} {a₀ : State} {f : Nat} {spad : Bool} {off : Nat} {swp : Bool} {x : Nat} {s : State} (h : F.leaves a₀ s) (hF : Foot.le ⟨0x10000, [0x1100, 0x2300], [.spad, .mem, .tx]⟩ F = true) :
    F.leaves a₀ (atomicReq f spad off swp x s) := by
  unfold atomicReq
  refine hostRun_leaves ?_ (Foot.le_trans (by decide) hF) fun z0 h0 => ?_
  · exact h
  · extract_lets +onlyGivenNames -merge -useContext -underBinder y1
    try clear_value y1
    refine Foot.ite_leaves ?_ ?_
    · refine answerUR_leaves ?_ (Foot.le_trans (by decide) hF)
      exact h0
    · refine Foot.ite_leaves ?_ ?_
      · refine atomicPosted_leaves ?_ (Foot.le_trans (by decide) hF)
        exact h0
      · refine Foot.ite_leaves ?_ ?_
        · refine atomicPosted_leaves ?_ (Foot.le_trans (by decide) hF)
          exact h0
        · refine answerUR_leaves ?_ (Foot.le_trans (by decide) hF)
          exact h0

theorem dmaBlock_leaves {F : Foot} {a₀ : State} {s : State} {r : Nat} (h : F.leaves a₀ s) (hF : Foot.le ⟨0x10000, [0x2300], [.mem]⟩ F = true) :
    F.leaves a₀ (dmaBlock s r).1 := by
  unfold dmaBlock
  extract_lets +onlyGivenNames -merge -useContext -underBinder y0
  refine spadReadAll_leaves ?_ (Foot.le_trans (by decide) hF)
  exact h

theorem dmaPut_leaves {F : Foot} {a₀ : State} {s : State} {r : Nat} {f : Nat} {t : Tick} (h : F.leaves a₀ s) (hF : Foot.le ⟨0x10000, [0x2300, 0x1100], [.mem, .pcie, .tx]⟩ F = true) (r0 : F.covers (0x1110 + r)) :
    F.leaves a₀ (dmaPut s r f t) := by
  unfold dmaPut
  extract_lets +onlyGivenNames -merge -useContext -underBinder y0
  try clear_value y0
  extract_lets +onlyGivenNames -merge -useContext -underBinder y1
  try clear_value y1
  extract_lets +onlyGivenNames -merge -useContext -underBinder y2
  extract_lets +onlyGivenNames -merge -useContext -underBinder y3
  have h3 : F.leaves a₀ y3 := by
    refine out_leaves ?_ (Foot.le_trans (by decide) hF)
    refine dmaBlock_leaves ?_ (Foot.le_trans (by decide) hF)
    exact h
  try clear_value y3
  extract_lets +onlyGivenNames -merge -useContext -underBinder y4
  have h4 : F.leaves a₀ y4 := by
    refine when_leaves ?_ fun z5 h5 => ?_
    · exact h3
    · refine setBit_leaves ?_ (Foot.rec_key r0)
      refine satInc_leaves ?_ (Foot.rec_const hF (by decide))
      exact h5
  try clear_value y4
  extract_lets +onlyGivenNames -merge -useContext -underBinder y6
  have h6 : F.leaves a₀ y6 := by
    refine modDm_leaves ?_ (Foot.le_trans (by decide) hF)
    exact h4
  try clear_value y6
  refine syncDma_leaves ?_ (Foot.le_trans (by decide) hF) r0
  refine when_leaves ?_ fun z7 h7 => ?_
  · exact h6
  · refine descBack_leaves ?_ (Foot.le_trans (by decide) hF) r0
    exact h7

theorem descOpen_leaves {F : Foot} {a₀ : State} {s : State} {r : Nat} {f : Nat} {d : Desc} {t : Tick} (h : F.leaves a₀ s) (hF : Foot.le ⟨0x10000, [], [.pcie, .tx]⟩ F = true) (r0 : F.covers (0x1110 + r)) :
    F.leaves a₀ (descOpen s r f d t) := by
  unfold descOpen
  extract_lets +onlyGivenNames -merge -useContext -underBinder y0
  have h0 : F.leaves a₀ y0 := by
    refine out_leaves ?_ (Foot.le_trans (by decide) hF)
    exact h
  try clear_value y0
  extract_lets +onlyGivenNames -merge -useContext -underBinder y1
  have h1 : F.leaves a₀ y1 := by
    refine modDm_leaves ?_ (Foot.le_trans (by decide) hF)
    exact h0
  try clear_value y1
  refine Foot.ite_leaves ?_ ?_
  · exact h1
  · refine syncDma_leaves ?_ (Foot.le_trans (by decide) hF) r0
    refine raiseErr_leaves ?_ (Foot.le_trans (by decide) hF)
    refine setBit_leaves ?_ (Foot.rec_key r0)
    refine descBack_leaves ?_ (Foot.le_trans (by decide) hF) r0
    exact h1

theorem dmaTransfer_leaves {F : Foot} {a₀ : State} {r : Nat} {d : Desc} {t : Tick} {s : State} (h : F.leaves a₀ s) (hF : Foot.le ⟨0x10000, [0x2300, 0x1100], [.mem, .pcie, .tx]⟩ F = true) (r0 : F.covers (0x1110 + r)) :
    F.leaves a₀ (dmaTransfer r d t s) := by
  unfold dmaTransfer
  split
  · exact h
  · refine Foot.ite_leaves ?_ ?_
    · exact h
    · refine Foot.ite_leaves ?_ ?_
      · refine Foot.ite_leaves ?_ ?_
        · refine dmaPut_leaves ?_ (Foot.le_trans (by decide) hF) r0
          exact h
        · exact h
      · refine Foot.ite_leaves ?_ ?_
        · refine Foot.ite_leaves ?_ ?_
          · refine dmaPut_leaves ?_ (Foot.le_trans (by decide) hF) r0
            refine descOpen_leaves ?_ (Foot.le_trans (by decide) hF) r0
            exact h
          · refine descOpen_leaves ?_ (Foot.le_trans (by decide) hF) r0
            exact h
        · exact h

theorem dmaNext_leaves {F : Foot} {a₀ : State} {r : Nat} {d : Desc} {t : Tick} {s : State} (h : F.leaves a₀ s) (hF : Foot.le ⟨0x10000, [0x2300, 0x1100], [.mem, .pcie, .tx]⟩ F = true) (r0 : F.covers (0x1110 + r)) :
    F.leaves a₀ (dmaNext r d t s) := by
  unfold dmaNext
  refine orLate_leaves ?_ (Foot.le_trans (by decide) hF) fun z0 h0 => ?_
  · exact h
  · refine dmaTransfer_leaves ?_ (Foot.le_trans (by decide) hF) r0
    exact h0

theorem lateDo_leaves {F : Foot} {a₀ : State} {s : State} {x : Late} {t : Tick} (h : F.leaves a₀ s) (hF : Foot.le ⟨0x1110, [0x1100], [.spad, .mem, .pcie, .tx, .resp]⟩ F = true) :
    F.leaves a₀ (lateDo s x t) := by
  unfold lateDo
  split
  · refine spadWinRead_leaves ?_ (Foot.le_trans (by decide) hF)
    exact h
  · refine spadWinWrite_leaves ?_ (Foot.le_trans (by decide) hF)
    exact h
  · refine spadAtomic_leaves ?_ (Foot.le_trans (by decide) hF)
    exact h
  · refine spadCopy_leaves ?_ (Foot.le_trans (by decide) hF)
    exact h
  · refine dmaTransfer_leaves ?_ (Foot.le_trans (by decide) hF) (Foot.rec_floor hF (by decide))
    exact h

theorem dmaAcked_leaves {F : Foot} {a₀ : State} {r : Nat} {s : State} (h : F.leaves a₀ s) (hF : Foot.le ⟨0x10000, [], [.spad, .mem, .pcie]⟩ F = true) (r0 : F.covers (0x2380 + r)) (r1 : F.covers (0x1110 + r)) :
    F.leaves a₀ (dmaAcked r s) := by
  unfold dmaAcked
  refine Foot.ite_leaves ?_ ?_
  · exact h
  · extract_lets +onlyGivenNames -merge -useContext -underBinder y0
    have h0 : F.leaves a₀ y0 := by
      refine modDm_leaves ?_ (Foot.le_trans (by decide) hF)
      exact h
    try clear_value y0
    extract_lets +onlyGivenNames -merge -useContext -underBinder y1
    have h1 : F.leaves a₀ y1 := by
      refine Foot.ite_leaves ?_ ?_
      · exact h0
      · refine syncRing_leaves ?_ (Foot.le_trans (by decide) hF) r0
        refine set_leaves ?_ (Foot.rec_key r0)
        exact h0
    try clear_value y1
    refine syncDma_leaves ?_ (Foot.le_trans (by decide) hF) r1
    refine wrapInc_leaves ?_ (Foot.rec_key r1)
    exact h1

theorem dmaFlush_leaves {F : Foot} {a₀ : State} {r : Nat} {t : Tick} {s : State} (h : F.leaves a₀ s) (hF : Foot.le ⟨0x10000, [], [.pcie, .tx]⟩ F = true) (r0 : F.covers (0x1110 + r)) :
    F.leaves a₀ (dmaFlush r t s) := by
  unfold dmaFlush
  extract_lets +onlyGivenNames -merge -useContext -underBinder y0
  try clear_value y0
  split
  · exact h
  · refine Foot.ite_leaves ?_ ?_
    · refine syncDma_leaves ?_ (Foot.le_trans (by decide) hF) r0
      refine descBack_leaves ?_ (Foot.le_trans (by decide) hF) r0
      exact h
    · exact h

theorem descFail_leaves {F : Foot} {a₀ : State} {r : Nat} {t : Tick} {s : State} (h : F.leaves a₀ s) (hF : Foot.le ⟨0x10000, [], [.pcie, .tx]⟩ F = true) (r0 : F.covers (0x1110 + r)) :
    F.leaves a₀ (descFail r t s) := by
  unfold descFail
  split
  · exact h
  · refine Foot.ite_leaves ?_ ?_
    · refine dmaStop_leaves ?_ (Foot.le_trans (by decide) hF) r0
      exact h
    · exact h

theorem nqWrite_leaves {F : Foot} {a₀ : State} {f : Nat} {t : Tick} {s : State} (h : F.leaves a₀ s) (hF : Foot.le ⟨0x10000, [], [.pcie, .tx]⟩ F = true) (r0 : F.covers (0x1140 + f)) :
    F.leaves a₀ (nqWrite f t s) := by
  unfold nqWrite
  split
  · exact h
  · extract_lets +onlyGivenNames -merge -useContext -underBinder u0_0 y0
    have h0 : F.leaves a₀ y0 := by
      exact { h with pcie := .inl (Foot.part hF (by decide)) }
    try clear_value y0
    refine Foot.ite_leaves ?_ ?_
    · exact h0
    · extract_lets +onlyGivenNames -merge -useContext -underBinder y1
      extract_lets +onlyGivenNames -merge -useContext -underBinder y2
      extract_lets +onlyGivenNames -merge -useContext -underBinder y3
      refine Foot.ite_leaves ?_ ?_
      · extract_lets +onlyGivenNames -merge -useContext -underBinder y4
        have h4 : F.leaves a₀ y4 := by
          refine out_leaves ?_ (Foot.le_trans (by decide) hF)
          exact h0
        try clear_value y4
        refine raise_leaves ?_ (Foot.le_trans (by decide) hF)
        refine set_leaves ?_ (Foot.rec_key r0)
        refine modFn_leaves ?_ (Foot.le_trans (by decide) hF)
        exact h4
      · extract_lets +onlyGivenNames -merge -useContext -underBinder y5
        try clear_value y5
        refine when_leaves ?_ fun z6 h6 => ?_
        · refine modFn_leaves ?_ (Foot.le_trans (by decide) hF)
          refine satInc_leaves ?_ (Foot.rec_key r0)
          exact h0
        · refine raiseErr_leaves ?_ (Foot.le_trans (by decide) hF)
          exact h6

theorem holdoffEnd_leaves {F : Foot} {a₀ : State} {f : Nat} {v : Nat} {t : Tick} {s : State} (h : F.leaves a₀ s) (hF : Foot.le ⟨0x10000, [], [.pcie, .tx]⟩ F = true) :
    F.leaves a₀ (holdoffEnd f v t s) := by
  unfold holdoffEnd
  extract_lets +onlyGivenNames -merge -useContext -underBinder y0
  try clear_value y0
  refine Foot.ite_leaves ?_ ?_
  · refine vecSend_leaves ?_ (Foot.le_trans (by decide) hF)
    refine modFn_leaves ?_ (Foot.le_trans (by decide) hF)
    exact h
  · exact h

theorem unmask_leaves {F : Foot} {a₀ : State} {f : Nat} {v : Nat} {t : Tick} {s : State} (h : F.leaves a₀ s) (hF : Foot.le ⟨0x10000, [], [.pcie, .tx]⟩ F = true) :
    F.leaves a₀ (unmask f v t s) := by
  unfold unmask
  refine Foot.ite_leaves ?_ ?_
  · extract_lets +onlyGivenNames -merge -useContext -underBinder y0
    try clear_value y0
    extract_lets +onlyGivenNames -merge -useContext -underBinder y1
    have h1 : F.leaves a₀ y1 := by
      refine modFn_leaves ?_ (Foot.le_trans (by decide) hF)
      exact h
    try clear_value y1
    refine Foot.ite_leaves ?_ ?_
    · refine vecSend_leaves ?_ (Foot.le_trans (by decide) hF)
      exact h1
    · exact h1
  · exact h

theorem answerHeld_leaves {F : Foot} {a₀ : State} {s : State} {c : GcCmd} {abort : Nat} (h : F.leaves a₀ s) (hF : Foot.le ⟨0x0, [], [.now, .blobs, .ports, .groups, .slices, .micro, .fab, .scan, .tb, .spad, .mem, .mc, .cal, .od, .net, .pcie, .rcd, .pwr, .fwx, .rail, .sec, .nv, .tx, .resp]⟩ F = true) :
    F.leaves a₀ (answerHeld s c abort) := by
  unfold answerHeld
  extract_lets +onlyGivenNames -merge -useContext -underBinder y0
  have h0 : F.leaves a₀ y0 := by
    refine Foot.ite_leaves ?_ ?_
    · refine accept_leaves ?_ (Foot.le_trans (by decide) hF)
      exact h
    · refine refuse_leaves ?_ (Foot.le_trans (by decide) hF)
      exact h
  try clear_value y0
  extract_lets +onlyGivenNames -merge -useContext -underBinder y1
  have h1 : F.leaves a₀ y1 := by
    refine set_leaves ?_ (Foot.rec_any hF (by decide))
    exact h0
  try clear_value y1
  extract_lets +onlyGivenNames -merge -useContext -underBinder y2
  try clear_value y2
  split
  · refine mbDone_leaves ?_ (Foot.le_trans (by decide) hF)
    exact h1
  · refine respond_leaves ?_ (Foot.le_trans (by decide) hF)
    exact h1
  · refine legResume_leaves ?_ (Foot.le_trans (by decide) hF)
    exact h1
  · exact h1

theorem ownsEnter_leaves {F : Foot} {a₀ : State} {s : State} {g : Nat} (h : F.leaves a₀ s) (hF : Foot.le ⟨0x0, [], [.groups]⟩ F = true) :
    F.leaves a₀ (ownsEnter s g) := by
  unfold ownsEnter
  extract_lets +onlyGivenNames -merge -useContext -underBinder y0
  try clear_value y0
  refine Foot.foldl_leaves ?_ fun z1 i1 h1 => ?_
  · refine modGx_leaves ?_ (Foot.le_trans (by decide) hF)
    exact h
  · refine gcPush_leaves ?_ (Foot.le_trans (by decide) hF) (fun _ _ _ _ => Foot.rec_any hF rfl)
    exact h1

theorem heldEnter_leaves {F : Foot} {a₀ : State} {s : State} {g : Nat} (h : F.leaves a₀ s) (hF : Foot.le ⟨0x0, [], [.now, .blobs, .ports, .groups, .slices, .micro, .fab, .scan, .tb, .spad, .mem, .mc, .cal, .od, .net, .pcie, .rcd, .pwr, .fwx, .rail, .sec, .nv, .tx, .resp]⟩ F = true) :
    F.leaves a₀ (heldEnter s g) := by
  unfold heldEnter
  split
  · exact h
  · refine Foot.ite_leaves ?_ ?_
    · refine ownsEnter_leaves ?_ (Foot.le_trans (by decide) hF)
      refine answerHeld_leaves ?_ (Foot.le_trans (by decide) hF)
      refine gcPush_leaves ?_ (Foot.le_trans (by decide) hF) (fun _ _ _ _ => Foot.rec_any hF rfl)
      refine modGx_leaves ?_ (Foot.le_trans (by decide) hF)
      exact h
    · exact h

theorem heldAbort_leaves {F : Foot} {a₀ : State} {s : State} (h : F.leaves a₀ s) (hF : Foot.le ⟨0x0, [], [.now, .blobs, .ports, .groups, .slices, .micro, .fab, .scan, .tb, .spad, .mem, .mc, .cal, .od, .net, .pcie, .rcd, .pwr, .fwx, .rail, .sec, .nv, .tx, .resp]⟩ F = true) :
    F.leaves a₀ (heldAbort s) := by
  unfold heldAbort
  refine Foot.foldl_leaves ?_ fun z0 i0 h0 => ?_
  · exact h
  · extract_lets +onlyGivenNames -merge -useContext -underBinder y1
    try clear_value y1
    extract_lets +onlyGivenNames -merge -useContext -underBinder y2
    have h2 : F.leaves a₀ y2 := by
      refine modGx_leaves ?_ (Foot.le_trans (by decide) hF)
      exact h0
    try clear_value y2
    extract_lets +onlyGivenNames -merge -useContext -underBinder y3
    have h3 : F.leaves a₀ y3 := by
      refine Foot.foldl_leaves ?_ fun z4 i4 h4 => ?_
      · exact h2
      · refine gcPush_leaves ?_ (Foot.le_trans (by decide) hF) (fun _ _ _ _ => Foot.rec_any hF rfl)
        exact h4
    try clear_value y3
    refine Foot.foldl_leaves ?_ fun z5 i5 h5 => ?_
    · exact h3
    · refine answerHeld_leaves ?_ (Foot.le_trans (by decide) hF)
      exact h5

/-! ### Advance -/

theorem tickStrikeAt_leaves {F : Foot} {a₀ : State} {s : State} {p : Nat} {s0 : Nat} {s1 : Nat} {t : Tick} (h : F.leaves a₀ s) (hF : Foot.le ⟨0x5000, [0x1220, 0x1221, 0x1222, 0x1223], [.ports, .fab, .net, .pcie, .rcd]⟩ F = true) (r0 : F.covers (0x4000 + p)) :
    F.leaves a₀ (tickStrikeAt s p s0 s1 t) := by
  unfold tickStrikeAt
  extract_lets +onlyGivenNames -merge -useContext -underBinder y0
  have h0 : F.leaves a₀ y0 := by
    refine modLoopY_leaves ?_ (Foot.le_trans (by decide) hF)
    exact h
  try clear_value y0
  refine when_leaves ?_ fun z1 h1 => ?_
  · exact h0
  · refine applyInstant_leaves ?_ (Foot.le_trans (by decide) hF) r0
    exact h1

theorem levelToBase_leaves {F : Foot} {a₀ : State} {s : State} {p : Nat} (h : F.leaves a₀ s) (hF : Foot.le ⟨0x10000, [], [.ports, .tx]⟩ F = true) (r0 : F.covers (0x4000 + p)) :
    F.leaves a₀ (levelToBase s p) := by
  unfold levelToBase
  refine syncPort_leaves ?_ (Foot.le_trans (by decide) hF) r0
  refine modPgen_leaves ?_ (Foot.le_trans (by decide) hF)
  exact h

theorem runMicro_leaves {F : Foot} {a₀ : State} {m : Micro} {t : Tick} {s : State} (h : F.leaves a₀ s) (hF : Foot.le ⟨0x0, [], [.now, .blobs, .ports, .groups, .slices, .micro, .fab, .scan, .tb, .spad, .mem, .mc, .cal, .age, .od, .net, .pcie, .rcd, .pwr, .fwx, .rail, .lm, .sec, .nv, .tx, .resp]⟩ F = true) :
    F.leaves a₀ (runMicro m t s) := by
  unfold runMicro
  split
  · refine loopWrite_leaves ?_ (Foot.le_trans (by decide) hF) (Foot.rec_floor hF (by decide))
    exact h
  · refine tickStrikeAt_leaves ?_ (Foot.le_trans (by decide) hF) (Foot.rec_floor hF (by decide))
    exact h
  · refine strike_leaves ?_ (Foot.le_trans (by decide) hF) (Foot.rec_floor hF (by decide))
    exact h
  · refine setSafe_leaves ?_ (Foot.le_trans (by decide) hF) (Foot.rec_floor hF (by decide))
    exact h
  · refine levelToBase_leaves ?_ (Foot.le_trans (by decide) hF) (Foot.rec_floor hF (by decide))
    exact h
  · refine recordOut_leaves ?_ (Foot.le_trans (by decide) hF)
    exact h
  · refine openDue_leaves ?_ (Foot.le_trans (by decide) hF) (Foot.rec_floor hF (by decide))
    exact h
  · refine trainCut_leaves ?_ (Foot.le_trans (by decide) hF) (Foot.rec_floor hF (by decide))
    exact h
  · refine syncPort_leaves ?_ (Foot.le_trans (by decide) hF) (Foot.rec_floor hF (by decide))
    refine select_leaves ?_ (Foot.le_trans (by decide) hF) (Foot.rec_floor hF (by decide))
    exact h
  · refine rotKick_leaves ?_ (Foot.le_trans (by decide) hF)
    exact h
  · refine standbyQuiet_leaves ?_ (Foot.le_trans (by decide) hF)
    exact h
  · refine Foot.ite_leaves ?_ ?_
    · refine pfwActions_leaves ?_ (Foot.le_trans (by decide) hF)
      exact h
    · refine pfwOver_leaves ?_ (Foot.le_trans (by decide) hF)
      exact h
  · refine deviceReset_leaves ?_ (Foot.le_trans (by decide) hF)
    exact h
  · refine wipeStart_leaves ?_ (Foot.le_trans (by decide) hF)
    exact h
  · refine fabCycle_leaves ?_ (Foot.le_trans (by decide) hF)
    exact h
  · refine assignNow_leaves ?_ (Foot.le_trans (by decide) hF)
    exact h

theorem tickPattern_leaves {F : Foot} {a₀ : State} {s : State} {p : Nat} (h : F.leaves a₀ s) (hF : Foot.le ⟨0x10000, [], [.ports, .tx]⟩ F = true) :
    F.leaves a₀ (tickPattern s p) := by
  unfold tickPattern
  split
  · refine Foot.ite_leaves ?_ ?_
    · refine drivePattern_leaves ?_ (Foot.le_trans (by decide) hF)
      exact h
    · refine drivePattern_leaves ?_ (Foot.le_trans (by decide) hF)
      exact h
  · refine drivePattern_leaves ?_ (Foot.le_trans (by decide) hF)
    exact h

theorem tickConfig_leaves {F : Foot} {a₀ : State} {s : State} {p : Nat} {t : Tick} (h : F.leaves a₀ s) (hF : Foot.le ⟨0x2380, [0x1220, 0x1221, 0x1222, 0x1223, 0x2000, 0x2001], [.blobs, .ports, .groups, .slices, .micro, .fab, .scan, .spad, .mem, .mc, .cal, .od, .net, .pcie, .rcd, .pwr, .nv, .tx]⟩ F = true) :
    F.leaves a₀ (tickConfig s p t) := by
  unfold tickConfig
  refine Foot.ite_leaves ?_ ?_
  · exact h
  · refine gcRun_leaves ?_ (Foot.le_trans (by decide) hF)
    exact h

theorem breakEnd_leaves {F : Foot} {a₀ : State} {s : State} {p : Nat} {t : Tick} (h : F.leaves a₀ s) (hF : Foot.le ⟨0x3000, [0x2000, 0x2001], [.ports, .groups, .slices, .micro, .cal, .rcd, .pwr, .nv, .tx]⟩ F = true) :
    F.leaves a₀ (breakEnd s p t) := by
  unfold breakEnd
  extract_lets +onlyGivenNames -merge -useContext -underBinder y0
  try clear_value y0
  refine Foot.ite_leaves ?_ ?_
  · extract_lets +onlyGivenNames -merge -useContext -underBinder y1
    have h1 : F.leaves a₀ y1 := by
      refine stepBreakEnd_leaves ?_ (Foot.le_trans (by decide) hF) (Foot.rec_floor hF (by decide))
      exact h
    try clear_value y1
    refine Foot.ite_leaves ?_ ?_
    · refine portOff_leaves ?_ (Foot.le_trans (by decide) hF)
      exact h1
    · exact h1
  · exact h

theorem tickRanges_leaves {F : Foot} {a₀ : State} {s : State} {p : Nat} {t : Tick} (h : F.leaves a₀ s) (hF : Foot.le ⟨0x3000, [0x2000, 0x2001, 0x1220, 0x1221, 0x1222, 0x1223], [.ports, .groups, .slices, .micro, .fab, .spad, .mem, .cal, .net, .pcie, .rcd, .pwr, .nv, .tx]⟩ F = true) :
    F.leaves a₀ (tickRanges s p t) := by
  unfold tickRanges
  extract_lets +onlyGivenNames -merge -useContext -underBinder y0
  have h0 : F.leaves a₀ y0 := by
    refine stepGuardEnd_leaves ?_ (Foot.le_trans (by decide) hF) (Foot.rec_floor hF (by decide))
    refine breakEnd_leaves ?_ (Foot.le_trans (by decide) hF)
    exact h
  try clear_value y0
  extract_lets +onlyGivenNames -merge -useContext -underBinder y1
  have h1 : F.leaves a₀ y1 := by
    refine seqAtBoundary_leaves ?_ (Foot.le_trans (by decide) hF) (Foot.rec_floor hF (by decide))
    refine divApply_leaves ?_ (Foot.le_trans (by decide) hF) (Foot.rec_floor hF (by decide))
    refine planApply_leaves ?_ (Foot.le_trans (by decide) hF) (Foot.rec_floor hF (by decide))
    exact h0
  try clear_value y1
  extract_lets +onlyGivenNames -merge -useContext -underBinder y2
  have h2 : F.leaves a₀ y2 := by
    refine spanStart_leaves ?_ (Foot.le_trans (by decide) hF)
    exact h1
  try clear_value y2
  refine Foot.ite_leaves ?_ ?_
  · refine rangeToOff_leaves ?_ (Foot.le_trans (by decide) hF)
    exact h2
  · refine seekStart_leaves ?_ (Foot.le_trans (by decide) hF) (Foot.rec_floor hF (by decide))
    exact h2

theorem rangesFirst_leaves {F : Foot} {a₀ : State} {s : State} {p : Nat} {t : Tick} (h : F.leaves a₀ s) (hF : Foot.le ⟨0x2380, [], [.ports, .groups, .spad, .mem, .rcd, .tx]⟩ F = true) :
    F.leaves a₀ (rangesFirst s p t) := by
  unfold rangesFirst
  refine Foot.ite_leaves ?_ ?_
  · refine stepToBreak_leaves ?_ (Foot.le_trans (by decide) hF)
    refine when_leaves ?_ fun z0 h0 => ?_
    · exact h
    · refine modRange_leaves ?_ (Foot.le_trans (by decide) hF)
      exact h0
  · exact h

theorem stepTwo_leaves {F : Foot} {a₀ : State} {s : State} {p : Nat} {t : Tick} (h : F.leaves a₀ s) (hF : Foot.le ⟨0x2380, [0x1220, 0x1221, 0x1222, 0x1223, 0x2000, 0x2001], [.blobs, .ports, .groups, .slices, .micro, .fab, .scan, .spad, .mem, .mc, .cal, .od, .net, .pcie, .rcd, .pwr, .nv, .tx]⟩ F = true) :
    F.leaves a₀ (stepTwo s p t) := by
  unfold stepTwo
  refine Foot.ite_leaves ?_ ?_
  · extract_lets +onlyGivenNames -merge -useContext -underBinder y0
    have h0 : F.leaves a₀ y0 := by
      refine Foot.foldl_leaves ?_ fun z1 i1 h1 => ?_
      · exact h
      · refine Foot.ite_leaves ?_ ?_
        · refine rangesFirst_leaves ?_ (Foot.le_trans (by decide) hF)
          exact h1
        · exact h1
    try clear_value y0
    extract_lets +onlyGivenNames -merge -useContext -underBinder y2
    have h2 : F.leaves a₀ y2 := by
      refine tickConfig_leaves ?_ (Foot.le_trans (by decide) hF)
      refine modLoop_leaves ?_ (Foot.le_trans (by decide) hF)
      exact h0
    try clear_value y2
    refine Foot.ite_leaves ?_ ?_
    · refine divApply_leaves ?_ (Foot.le_trans (by decide) hF) (Foot.rec_floor hF (by decide))
      refine planApply_leaves ?_ (Foot.le_trans (by decide) hF) (Foot.rec_floor hF (by decide))
      exact h2
    · extract_lets +onlyGivenNames -merge -useContext -underBinder y3
      have h3 : F.leaves a₀ y3 := by
        refine rotBoundary_leaves ?_ (Foot.le_trans (by decide) hF)
        refine tickRanges_leaves ?_ (Foot.le_trans (by decide) hF)
        exact h2
      try clear_value y3
      refine Foot.ite_leaves ?_ ?_
      · refine tickPattern_leaves ?_ (Foot.le_trans (by decide) hF)
        exact h3
      · exact h3
  · exact h

theorem loopTick_leaves {F : Foot} {a₀ : State} {p : Nat} {t : Tick} {s : State} (h : F.leaves a₀ s) (hF : Foot.le ⟨0x2380, [0x1220, 0x1221, 0x1222, 0x1223, 0x2000, 0x2001], [.blobs, .ports, .groups, .slices, .micro, .fab, .scan, .spad, .mem, .mc, .cal, .od, .net, .pcie, .rcd, .pwr, .nv, .tx]⟩ F = true) :
    F.leaves a₀ (loopTick p t s) := by
  unfold loopTick
  refine Foot.ite_leaves ?_ ?_
  · exact h
  · refine Foot.ite_leaves ?_ ?_
    · refine windowNext_leaves ?_ (Foot.le_trans (by decide) hF)
      exact h
    · extract_lets +onlyGivenNames -merge -useContext -underBinder y0
      have h0 : F.leaves a₀ y0 := by
        refine stepTwo_leaves ?_ (Foot.le_trans (by decide) hF)
        exact h
      try clear_value y0
      extract_lets +onlyGivenNames -merge -useContext -underBinder y1
      extract_lets +onlyGivenNames -merge -useContext -underBinder y2
      have h2 : F.leaves a₀ y2 := by
        refine when_leaves ?_ fun z3 h3 => ?_
        · exact h0
        · refine stepTwo_leaves ?_ (Foot.le_trans (by decide) hF)
          exact h3
      try clear_value y2
      refine Foot.ite_leaves ?_ ?_
      · refine tickUpdate_leaves ?_ (Foot.le_trans (by decide) hF)
        exact h2
      · refine tickIdle_leaves ?_ (Foot.le_trans (by decide) hF)
        exact h2

theorem markUpdated_leaves {F : Foot} {a₀ : State} {s : State} {p : Nat} (h : F.leaves a₀ s) (hF : Foot.le ⟨0x10000, [], [.ports]⟩ F = true) :
    F.leaves a₀ (markUpdated s p) := by
  unfold markUpdated
  extract_lets +onlyGivenNames -merge -useContext -underBinder y0
  try clear_value y0
  split
  · refine Foot.ite_leaves ?_ ?_
    · refine modLoopY_leaves ?_ (Foot.le_trans (by decide) hF)
      exact h
    · exact h
  · exact h

theorem lmVisitAt_leaves {F : Foot} {a₀ : State} {k : Nat} {t : Tick} {s : State} (h : F.leaves a₀ s) (hF : Foot.le ⟨0x4000, [], [.ports, .lm]⟩ F = true) :
    F.leaves a₀ (lmVisitAt k t s) := by
  unfold lmVisitAt
  refine Foot.ite_leaves ?_ ?_
  · exact h
  · split
    · exact h
    · extract_lets +onlyGivenNames -merge -useContext -underBinder y0
      have h0 : F.leaves a₀ y0 := by
        exact { h with lm := .inl (Foot.part hF (by decide)) }
      try clear_value y0
      refine Foot.ite_leaves ?_ ?_
      · refine markUpdated_leaves ?_ (Foot.le_trans (by decide) hF)
        refine modelUpdate_leaves ?_ (Foot.le_trans (by decide) hF) (Foot.rec_floor hF (by decide))
        refine modLoopY_leaves ?_ (Foot.le_trans (by decide) hF)
        exact h0
      · refine modLoopY_leaves ?_ (Foot.le_trans (by decide) hF)
        exact h0

/-! ### The passage of time -/

theorem le_any {A F : Foot} (hF : Foot.le Foot.any F = true) : Foot.le A F = true := by
  have ha : Foot.le A Foot.any = true := by
    simp only [Foot.le, Bool.and_eq_true, decide_eq_true_eq, List.all_eq_true, Bool.or_eq_true, List.contains_iff_mem, Foot.any]
    exact ⟨⟨by simp, fun _ _ => .inl (by simp)⟩, fun p _ => by cases p <;> decide⟩
  exact Foot.le_trans ha hF

theorem runDue_leaves {F : Foot} {a₀ : State} {s : State} {t : Tick} {n : Nat} (h : F.leaves a₀ s) (hF : Foot.le Foot.any F = true) :
    F.leaves a₀ (runDue s t n) := by
  induction n generalizing s with
  | zero => exact h
  | succ n ih =>
    unfold runDue
    split
    · exact h
    · exact ih (runMicro_leaves { h with
        micro := .inl (Foot.part hF (by decide)), now := .inl (Foot.part hF (by decide)) } (le_any hF))

/-- Settling leaves the queue alone, and keeps the tables in their canonical form. -/
theorem settle_leaves {F : Foot} {a₀ : State} {s : State} (h : F.leaves a₀ s) (hF : Foot.le Foot.any F = true) : F.leaves a₀ (settle s) := by
  unfold settle
  refine runDue_leaves ?_ hF
  refine notifyFlush_leaves ?_ (le_any hF)
  refine shedCheck_leaves ?_ (le_any hF)
  refine recKick_leaves ?_ (le_any hF)
  refine commitKick_leaves ?_ (le_any hF)
  refine fwHand_leaves ?_ (le_any hF)
  refine powerRetry_leaves ?_ (le_any hF)
  refine standbyTry_leaves ?_ (le_any hF)
  refine voteStart_leaves ?_ (le_any hF)
  refine wornReview_leaves ?_ (le_any hF)
  refine railFinish_leaves ?_ (le_any hF)
  exact runDue_leaves h hF

/-- The passage of time leaves the queue alone, and keeps the tables in their canonical form. -/
theorem advance_leaves {F : Foot} {a₀ : State} {s : State} {t : Tick} (h : F.leaves a₀ s) (hF : Foot.le Foot.any F = true) :
    F.leaves a₀ (advance s t) := by
  have key : ∀ y u, F.leaves a₀ y → F.leaves a₀
      { y with now := max y.now u, fab := { y.fab with flights := y.fab.flights.filter fun f => decide (u ≤ f.due) } } :=
    fun y u hy => { hy with now := .inl (Foot.part hF (by decide)), fab := .inl (Foot.part hF (by decide)) }
  have h0 : F.leaves a₀ ({ s with tx := [], resp := none } : State) :=
    { h with tx := .inl (Foot.part hF (by decide)), resp := .inl (Foot.part hF (by decide)) }
  have h1 := bgTo_leaves (t := max s.now t) (runDue_leaves (t := max s.now t) (n := microFuel) h0 hF) (le_any hF)
  exact key _ _ h1

end Sys2Proof.Machine.State

end
end

