-- ==== Sys2Proof/Laws/FrameCommands.lean ====
section
/-!
SUPPORT. What each operation may change, as footprints (Safety.lean): the meanings: every command answers a next state, the settled `u`, and from
the state advanced to its tick `u` changes only what the footprint covers.
-/

section

set_option linter.all false
set_option Elab.async false

namespace Sys2Proof.Machine.State
open Sys2Proof Sys2Proof.Machine

/-! ### MeasureCmd -/

theorem conversion_leaves {F : Foot} {a₀ : State} {s : State} {p : Nat} {cv : Int} {ci : Int} {t : Tick} (h : F.leaves a₀ s) (hF : Foot.le ⟨0x2380, [], [.ports, .groups, .spad, .mem, .rcd]⟩ F = true) :
    F.leaves a₀ (conversion s p cv ci t) := by
  unfold conversion
  refine Foot.ite_leaves ?_ ?_
  · refine fastConv_leaves ?_ (Foot.le_trans (by decide) hF)
    exact h
  · exact h

theorem windowDue_leaves {F : Foot} {a₀ : State} {s : State} {p : Nat} {xv : List W40} {xi : List W40} {t : Tick} (h : F.leaves a₀ s) (hF : Foot.le ⟨0x6000, [], [.ports, .micro]⟩ F = true) (r0 : F.covers (0x4000 + p)) :
    F.leaves a₀ (windowDue s p xv xi t) := by
  unfold windowDue
  split
  · refine Foot.ite_leaves ?_ ?_
    · refine closeWindow_leaves ?_ (Foot.le_trans (by decide) hF) r0
      exact h
    · exact h
  · exact h

theorem precFlush_leaves {F : Foot} {a₀ : State} {s : State} {p : Nat} {t : Tick} (h : F.leaves a₀ s) (hF : Foot.le ⟨0x2380, [], [.ports, .groups, .spad, .mem]⟩ F = true) :
    F.leaves a₀ (precFlush s p t) := by
  unfold precFlush
  split
  · refine Foot.ite_leaves ?_ ?_
    · refine closePrec_leaves ?_ (Foot.le_trans (by decide) hF)
      exact h
    · exact h
  · exact h

theorem ovrAssertAt_leaves {F : Foot} {a₀ : State} {s : State} {p : Nat} {v : Bool} {neg : Bool} {common : Bool} {t : Tick} (h : F.leaves a₀ s) (hF : Foot.le ⟨0x4000, [], [.ports, .rcd]⟩ F = true) :
    F.leaves a₀ (ovrAssertAt s p v neg common t) := by
  unfold ovrAssertAt
  refine Foot.ite_leaves ?_ ?_
  · refine when_leaves ?_ fun z0 h0 => ?_
    · refine ovrStart_leaves ?_ (Foot.le_trans (by decide) hF)
      exact h
    · refine ovrStart_leaves ?_ (Foot.le_trans (by decide) hF)
      exact h0
  · exact h

theorem ovrReleaseAt_leaves {F : Foot} {a₀ : State} {s : State} {p : Nat} {v : Bool} {common : Bool} {t : Tick} (h : F.leaves a₀ s) (hF : Foot.le ⟨0x10000, [0x8000], [.ports, .rcd]⟩ F = true) :
    F.leaves a₀ (ovrReleaseAt s p v common t) := by
  unfold ovrReleaseAt
  refine when_leaves ?_ fun z0 h0 => ?_
  · refine ovrEnd_leaves ?_ (Foot.le_trans (by decide) hF)
    exact h
  · refine ovrEnd_leaves ?_ (Foot.le_trans (by decide) hF)
    exact h0

theorem guardDue_leaves {F : Foot} {a₀ : State} {s : State} {p : Nat} {t : Tick} (h : F.leaves a₀ s) (hF : Foot.le ⟨0x3000, [0x2000, 0x2001], [.ports, .groups, .slices, .micro, .cal, .rcd, .pwr, .nv, .tx]⟩ F = true) :
    F.leaves a₀ (guardDue s p t) := by
  unfold guardDue
  split
  · refine Foot.ite_leaves ?_ ?_
    · extract_lets +onlyGivenNames -merge -useContext -underBinder y0
      have h0 : F.leaves a₀ y0 := by
        refine divApply_leaves ?_ (Foot.le_trans (by decide) hF) (Foot.rec_floor hF (by decide))
        refine stepGuardEnd_leaves ?_ (Foot.le_trans (by decide) hF) (Foot.rec_floor hF (by decide))
        exact h
      try clear_value y0
      refine Foot.ite_leaves ?_ ?_
      · refine rangeToOff_leaves ?_ (Foot.le_trans (by decide) hF)
        exact h0
      · refine Foot.ite_leaves ?_ ?_
        · refine seekStart_leaves ?_ (Foot.le_trans (by decide) hF) (Foot.rec_floor hF (by decide))
          exact h0
        · exact h0
    · exact h
  · exact h

theorem execFastConversion_leaves {F : Foot} {t : Tick} {p : PortId} {cv : BitVec 18} {ci : BitVec 18} {s : State} (hF : Foot.le ⟨0x2380, [], [.ports, .groups, .spad, .mem, .rcd]⟩ F = true) :
    ∃ u, execFastConversion t p cv ci s = .next u.settle ∧ F.leaves (s.advance t) u := by
  refine ⟨_, rfl, ?_⟩
  have h0 : F.leaves (s.advance t) (s.advance t) := .refl
  generalize s.advance t = a₀ at *
  beta_reduce
  refine conversion_leaves ?_ (Foot.le_trans (by decide) hF)
  exact h0

theorem execPrecWindowClose_leaves {F : Foot} {t : Tick} {p : PortId} {xv : List W40} {xi : List W40} {s : State} (hF : Foot.le ⟨0x6000, [], [.ports, .micro]⟩ F = true) (r0 : F.covers (0x4000 + ↑p)) :
    ∃ u, execPrecWindowClose t p xv xi s = .next u.settle ∧ F.leaves (s.advance t) u := by
  refine ⟨_, rfl, ?_⟩
  have h0 : F.leaves (s.advance t) (s.advance t) := .refl
  generalize s.advance t = a₀ at *
  beta_reduce
  refine windowDue_leaves ?_ (Foot.le_trans (by decide) hF) r0
  exact h0

theorem execPrecFlushExpiry_leaves {F : Foot} {t : Tick} {p : PortId} {s : State} (hF : Foot.le ⟨0x2380, [], [.ports, .groups, .spad, .mem]⟩ F = true) :
    ∃ u, execPrecFlushExpiry t p s = .next u.settle ∧ F.leaves (s.advance t) u := by
  refine ⟨_, rfl, ?_⟩
  have h0 : F.leaves (s.advance t) (s.advance t) := .refl
  generalize s.advance t = a₀ at *
  beta_reduce
  refine precFlush_leaves ?_ (Foot.le_trans (by decide) hF)
  exact h0

theorem execOvrAssert_leaves {F : Foot} {t : Tick} {p : PortId} {q : Qty} {neg : Bool} {common : Bool} {s : State} (hF : Foot.le ⟨0x4000, [], [.ports, .rcd]⟩ F = true) :
    ∃ u, execOvrAssert t p q neg common s = .next u.settle ∧ F.leaves (s.advance t) u := by
  refine ⟨_, rfl, ?_⟩
  have h0 : F.leaves (s.advance t) (s.advance t) := .refl
  generalize s.advance t = a₀ at *
  beta_reduce
  refine ovrAssertAt_leaves ?_ (Foot.le_trans (by decide) hF)
  exact h0

theorem execOvrRelease_leaves {F : Foot} {t : Tick} {p : PortId} {q : Qty} {common : Bool} {s : State} (hF : Foot.le ⟨0x10000, [0x8000], [.ports, .rcd]⟩ F = true) :
    ∃ u, execOvrRelease t p q common s = .next u.settle ∧ F.leaves (s.advance t) u := by
  refine ⟨_, rfl, ?_⟩
  have h0 : F.leaves (s.advance t) (s.advance t) := .refl
  generalize s.advance t = a₀ at *
  beta_reduce
  refine ovrReleaseAt_leaves ?_ (Foot.le_trans (by decide) hF)
  exact h0

theorem execRangeMakeEnd_leaves {F : Foot} {t : Tick} {p : PortId} {s : State} (hF : Foot.le ⟨0x10000, [0x8000], [.ports, .rcd]⟩ F = true) (r0 : F.covers (0x4000 + ↑p)) :
    ∃ u, execRangeMakeEnd t p s = .next u.settle ∧ F.leaves (s.advance t) u := by
  refine ⟨_, rfl, ?_⟩
  have h0 : F.leaves (s.advance t) (s.advance t) := .refl
  generalize s.advance t = a₀ at *
  beta_reduce
  refine stepMakeEnd_leaves ?_ (Foot.le_trans (by decide) hF) r0
  exact h0

theorem execRangeParallelEnd_leaves {F : Foot} {t : Tick} {p : PortId} {s : State} (hF : Foot.le ⟨0x2380, [], [.ports, .groups, .spad, .mem, .rcd, .tx]⟩ F = true) :
    ∃ u, execRangeParallelEnd t p s = .next u.settle ∧ F.leaves (s.advance t) u := by
  refine ⟨_, rfl, ?_⟩
  have h0 : F.leaves (s.advance t) (s.advance t) := .refl
  generalize s.advance t = a₀ at *
  beta_reduce
  refine stepParEnd_leaves ?_ (Foot.le_trans (by decide) hF)
  exact h0

theorem execRangeBreakEnd_leaves {F : Foot} {t : Tick} {p : PortId} {s : State} (hF : Foot.le ⟨0x3000, [0x2000, 0x2001], [.ports, .groups, .slices, .micro, .cal, .rcd, .pwr, .nv, .tx]⟩ F = true) :
    ∃ u, execRangeBreakEnd t p s = .next u.settle ∧ F.leaves (s.advance t) u := by
  refine ⟨_, rfl, ?_⟩
  have h0 : F.leaves (s.advance t) (s.advance t) := .refl
  generalize s.advance t = a₀ at *
  beta_reduce
  refine breakEnd_leaves ?_ (Foot.le_trans (by decide) hF)
  exact h0

theorem execRangeGuardEnd_leaves {F : Foot} {t : Tick} {p : PortId} {s : State} (hF : Foot.le ⟨0x3000, [0x2000, 0x2001], [.ports, .groups, .slices, .micro, .cal, .rcd, .pwr, .nv, .tx]⟩ F = true) :
    ∃ u, execRangeGuardEnd t p s = .next u.settle ∧ F.leaves (s.advance t) u := by
  refine ⟨_, rfl, ?_⟩
  have h0 : F.leaves (s.advance t) (s.advance t) := .refl
  generalize s.advance t = a₀ at *
  beta_reduce
  refine guardDue_leaves ?_ (Foot.le_trans (by decide) hF)
  exact h0

/-! ### ComparatorCmd -/

theorem otherTrip_leaves {F : Foot} {a₀ : State} {s : State} {p : Nat} {i : Nat} {v : Bool} {was : Nat} {t : Tick} (h : F.leaves a₀ s) (hF : Foot.le ⟨0x5000, [0x1220, 0x1221, 0x1222, 0x1223], [.ports, .slices, .micro, .fab, .net, .pcie, .rcd, .tx]⟩ F = true) (r0 : F.covers (0x4000 + p)) :
    F.leaves a₀ (otherTrip s p i v was t) := by
  unfold otherTrip
  extract_lets +onlyGivenNames -merge -useContext -underBinder y0
  extract_lets +onlyGivenNames -merge -useContext -underBinder y1
  try clear_value y1
  refine Foot.ite_leaves ?_ ?_
  · exact h
  · refine Foot.ite_leaves ?_ ?_
    · refine syncPort_leaves ?_ (Foot.le_trans (by decide) hF) r0
      refine trip_leaves ?_ (Foot.le_trans (by decide) hF) r0
      exact h
    · refine Foot.ite_leaves ?_ ?_
      · exact h
      · refine note_leaves ?_ (Foot.le_trans (by decide) hF)
        refine modSx_leaves ?_ (Foot.le_trans (by decide) hF)
        exact h

theorem otherChange_leaves {F : Foot} {a₀ : State} {s : State} {p : Nat} {v : Bool} {x : Int} {t : Tick} (h : F.leaves a₀ s) (hF : Foot.le ⟨0x5000, [0x1220, 0x1221, 0x1222, 0x1223], [.ports, .slices, .micro, .fab, .net, .pcie, .rcd, .tx]⟩ F = true) (r0 : F.covers (0x4000 + p)) :
    F.leaves a₀ (otherChange s p v x t) := by
  unfold otherChange
  split
  · exact h
  · extract_lets +onlyGivenNames -merge -useContext -underBinder y0
    try clear_value y0
    refine Foot.ite_leaves ?_ ?_
    · refine otherTrip_leaves ?_ (Foot.le_trans (by decide) hF) r0
      refine modCmpAt_leaves ?_ (Foot.le_trans (by decide) hF)
      exact h
    · exact h

theorem cmpChange_leaves {F : Foot} {a₀ : State} {s : State} {p : Nat} {v : Bool} {x : Int} {t : Tick} (h : F.leaves a₀ s) (hF : Foot.le ⟨0x5000, [0x1220, 0x1221, 0x1222, 0x1223], [.ports, .slices, .micro, .fab, .net, .pcie, .rcd, .tx]⟩ F = true) (r0 : F.covers (0x4000 + p)) :
    F.leaves a₀ (cmpChange s p v x t) := by
  unfold cmpChange
  extract_lets +onlyGivenNames -merge -useContext -underBinder y0
  have h0 : F.leaves a₀ y0 := by
    refine otherChange_leaves ?_ (Foot.le_trans (by decide) hF) r0
    exact h
  try clear_value y0
  refine Foot.ite_leaves ?_ ?_
  · refine cmpMove_leaves ?_ (Foot.le_trans (by decide) hF) r0
    exact h0
  · exact h0

theorem cmpPending_leaves {F : Foot} {a₀ : State} {s : State} {p : Nat} {v : Bool} {e : Tick} (h : F.leaves a₀ s) (hF : Foot.le ⟨0x10000, [], [.ports, .slices, .tx]⟩ F = true) (r0 : F.covers (0x4000 + p)) :
    F.leaves a₀ (cmpPending s p v e) := by
  unfold cmpPending
  refine Foot.ite_leaves ?_ ?_
  · refine syncPort_leaves ?_ (Foot.le_trans (by decide) hF) r0
    refine cmpModeChange_leaves ?_ (Foot.le_trans (by decide) hF) r0
    refine setBit_leaves ?_ (Foot.rec_key r0)
    exact h
  · exact h

theorem otherDecide_leaves {F : Foot} {a₀ : State} {s : State} {p : Nat} {v : Bool} {sm : Bool} {x : Int} {t : Tick} (h : F.leaves a₀ s) (hF : Foot.le ⟨0x5000, [0x1220, 0x1221, 0x1222, 0x1223], [.ports, .slices, .micro, .fab, .net, .pcie, .rcd, .tx]⟩ F = true) (r0 : F.covers (0x4000 + p)) :
    F.leaves a₀ (otherDecide s p v sm x t) := by
  unfold otherDecide
  split
  · exact h
  · extract_lets +onlyGivenNames -merge -useContext -underBinder y0
    try clear_value y0
    split
    · refine Foot.ite_leaves ?_ ?_
      · extract_lets +onlyGivenNames -merge -useContext -underBinder y1
        have h1 : F.leaves a₀ y1 := by
          refine otherTrip_leaves ?_ (Foot.le_trans (by decide) hF) r0
          refine modCmpAt_leaves ?_ (Foot.le_trans (by decide) hF)
          exact h
        try clear_value y1
        refine Foot.ite_leaves ?_ ?_
        · exact h1
        · refine modCmpAt_leaves ?_ (Foot.le_trans (by decide) hF)
          exact h1
      · exact h
    · exact h

theorem cmpFirst_leaves {F : Foot} {a₀ : State} {s : State} {p : Nat} {v : Bool} {x : Int} {t : Tick} (h : F.leaves a₀ s) (hF : Foot.le ⟨0x5000, [0x1220, 0x1221, 0x1222, 0x1223], [.ports, .slices, .micro, .fab, .net, .pcie, .rcd, .tx]⟩ F = true) (r0 : F.covers (0x4000 + p)) :
    F.leaves a₀ (cmpFirst s p v x t) := by
  unfold cmpFirst
  extract_lets +onlyGivenNames -merge -useContext -underBinder y0
  have h0 : F.leaves a₀ y0 := by
    refine otherDecide_leaves ?_ (Foot.le_trans (by decide) hF) r0
    exact h
  try clear_value y0
  split
  · refine Foot.ite_leaves ?_ ?_
    · refine cmpPending_leaves ?_ (Foot.le_trans (by decide) hF) r0
      refine armWaitDone_leaves ?_ (Foot.le_trans (by decide) hF)
      refine cmpDecide_leaves ?_ (Foot.le_trans (by decide) hF) r0
      exact h0
    · exact h0
  · exact h0

theorem otherEnd_leaves {F : Foot} {a₀ : State} {s : State} {p : Nat} {v : Bool} {t : Tick} (h : F.leaves a₀ s) (hF : Foot.le ⟨0x10000, [], [.slices]⟩ F = true) :
    F.leaves a₀ (otherEnd s p v t) := by
  unfold otherEnd
  split
  · refine modCmpAt_leaves ?_ (Foot.le_trans (by decide) hF)
    exact h
  · exact h

theorem otherStrobe_leaves {F : Foot} {a₀ : State} {s : State} {p : Nat} {v : Bool} {t : Tick} (h : F.leaves a₀ s) (hF : Foot.le ⟨0x10000, [], [.slices]⟩ F = true) :
    F.leaves a₀ (otherStrobe s p v t) := by
  unfold otherStrobe
  split
  · refine modCmpAt_leaves ?_ (Foot.le_trans (by decide) hF)
    exact h
  · exact h

theorem smEnd_leaves {F : Foot} {a₀ : State} {s : State} {p : Nat} {v : Bool} {t : Tick} (h : F.leaves a₀ s) (hF : Foot.le ⟨0x5000, [0x1220, 0x1221, 0x1222, 0x1223], [.ports, .slices, .micro, .fab, .net, .pcie, .rcd, .tx]⟩ F = true) (r0 : F.covers (0x4000 + p)) :
    F.leaves a₀ (smEnd s p v t) := by
  unfold smEnd
  extract_lets +onlyGivenNames -merge -useContext -underBinder y0
  have h0 : F.leaves a₀ y0 := by
    refine otherEnd_leaves ?_ (Foot.le_trans (by decide) hF)
    exact h
  try clear_value y0
  extract_lets +onlyGivenNames -merge -useContext -underBinder y1
  try clear_value y1
  refine Foot.ite_leaves ?_ ?_
  · refine syncPort_leaves ?_ (Foot.le_trans (by decide) hF) r0
    refine modCmp_leaves ?_ (Foot.le_trans (by decide) hF)
    refine cmpMove_leaves ?_ (Foot.le_trans (by decide) hF) r0
    exact h0
  · exact h0

theorem smStart_leaves {F : Foot} {a₀ : State} {s : State} {p : Nat} {v : Bool} {t : Tick} (h : F.leaves a₀ s) (hF : Foot.le ⟨0x5000, [0x1220, 0x1221, 0x1222, 0x1223], [.ports, .slices, .micro, .fab, .net, .pcie, .rcd, .tx]⟩ F = true) (r0 : F.covers (0x4000 + p)) :
    F.leaves a₀ (smStart s p v t) := by
  unfold smStart
  refine Foot.ite_leaves ?_ ?_
  · exact h
  · extract_lets +onlyGivenNames -merge -useContext -underBinder y0
    have h0 : F.leaves a₀ y0 := by
      refine otherStrobe_leaves ?_ (Foot.le_trans (by decide) hF)
      refine smEnd_leaves ?_ (Foot.le_trans (by decide) hF) r0
      exact h
    try clear_value y0
    refine Foot.ite_leaves ?_ ?_
    · refine syncPort_leaves ?_ (Foot.le_trans (by decide) hF) r0
      refine modCmp_leaves ?_ (Foot.le_trans (by decide) hF)
      exact h0
    · exact h0

theorem smDecide_leaves {F : Foot} {a₀ : State} {s : State} {p : Nat} {v : Bool} {x : Int} {t : Tick} (h : F.leaves a₀ s) (hF : Foot.le ⟨0x5000, [0x1220, 0x1221, 0x1222, 0x1223], [.ports, .slices, .micro, .fab, .net, .pcie, .rcd, .tx]⟩ F = true) (r0 : F.covers (0x4000 + p)) :
    F.leaves a₀ (smDecide s p v x t) := by
  unfold smDecide
  extract_lets +onlyGivenNames -merge -useContext -underBinder y0
  have h0 : F.leaves a₀ y0 := by
    refine otherDecide_leaves ?_ (Foot.le_trans (by decide) hF) r0
    exact h
  try clear_value y0
  split
  · refine Foot.ite_leaves ?_ ?_
    · refine cmpPending_leaves ?_ (Foot.le_trans (by decide) hF) r0
      refine armWaitDone_leaves ?_ (Foot.le_trans (by decide) hF)
      refine cmpDecide_leaves ?_ (Foot.le_trans (by decide) hF) r0
      exact h0
    · exact h0
  · exact h0

theorem execCmpTransition_leaves {F : Foot} {t : Tick} {p : PortId} {q : Qty} {x : Int} {s : State} (hF : Foot.le ⟨0x5000, [0x1220, 0x1221, 0x1222, 0x1223], [.ports, .slices, .micro, .fab, .net, .pcie, .rcd, .tx]⟩ F = true) (r0 : F.covers (0x4000 + ↑p)) :
    ∃ u, execCmpTransition t p q x s = .next u.settle ∧ F.leaves (s.advance t) u := by
  refine ⟨_, rfl, ?_⟩
  have h0 : F.leaves (s.advance t) (s.advance t) := .refl
  generalize s.advance t = a₀ at *
  beta_reduce
  refine cmpChange_leaves ?_ (Foot.le_trans (by decide) hF) r0
  exact h0

theorem execCmpFirstDecision_leaves {F : Foot} {t : Tick} {p : PortId} {q : Qty} {x : Int} {s : State} (hF : Foot.le ⟨0x5000, [0x1220, 0x1221, 0x1222, 0x1223], [.ports, .slices, .micro, .fab, .net, .pcie, .rcd, .tx]⟩ F = true) (r0 : F.covers (0x4000 + ↑p)) :
    ∃ u, execCmpFirstDecision t p q x s = .next u.settle ∧ F.leaves (s.advance t) u := by
  refine ⟨_, rfl, ?_⟩
  have h0 : F.leaves (s.advance t) (s.advance t) := .refl
  generalize s.advance t = a₀ at *
  beta_reduce
  refine cmpFirst_leaves ?_ (Foot.le_trans (by decide) hF) r0
  exact h0

theorem execSmStrobeStart_leaves {F : Foot} {t : Tick} {p : PortId} {q : Qty} {s : State} (hF : Foot.le ⟨0x5000, [0x1220, 0x1221, 0x1222, 0x1223], [.ports, .slices, .micro, .fab, .net, .pcie, .rcd, .tx]⟩ F = true) (r0 : F.covers (0x4000 + ↑p)) :
    ∃ u, execSmStrobeStart t p q s = .next u.settle ∧ F.leaves (s.advance t) u := by
  refine ⟨_, rfl, ?_⟩
  have h0 : F.leaves (s.advance t) (s.advance t) := .refl
  generalize s.advance t = a₀ at *
  beta_reduce
  refine smStart_leaves ?_ (Foot.le_trans (by decide) hF) r0
  exact h0

theorem execSmStrobeDecision_leaves {F : Foot} {t : Tick} {p : PortId} {q : Qty} {x : Int} {s : State} (hF : Foot.le ⟨0x5000, [0x1220, 0x1221, 0x1222, 0x1223], [.ports, .slices, .micro, .fab, .net, .pcie, .rcd, .tx]⟩ F = true) (r0 : F.covers (0x4000 + ↑p)) :
    ∃ u, execSmStrobeDecision t p q x s = .next u.settle ∧ F.leaves (s.advance t) u := by
  refine ⟨_, rfl, ?_⟩
  have h0 : F.leaves (s.advance t) (s.advance t) := .refl
  generalize s.advance t = a₀ at *
  beta_reduce
  refine smDecide_leaves ?_ (Foot.le_trans (by decide) hF) r0
  exact h0

theorem execSmStrobeEnd_leaves {F : Foot} {t : Tick} {p : PortId} {q : Qty} {s : State} (hF : Foot.le ⟨0x5000, [0x1220, 0x1221, 0x1222, 0x1223], [.ports, .slices, .micro, .fab, .net, .pcie, .rcd, .tx]⟩ F = true) (r0 : F.covers (0x4000 + ↑p)) :
    ∃ u, execSmStrobeEnd t p q s = .next u.settle ∧ F.leaves (s.advance t) u := by
  refine ⟨_, rfl, ?_⟩
  have h0 : F.leaves (s.advance t) (s.advance t) := .refl
  generalize s.advance t = a₀ at *
  beta_reduce
  refine smEnd_leaves ?_ (Foot.le_trans (by decide) hF) r0
  exact h0

/-! ### PgenCmd -/

theorem riseAt_leaves {F : Foot} {a₀ : State} {s : State} {p : Nat} {t : Tick} (h : F.leaves a₀ s) (hF : Foot.le ⟨0x5000, [0x1220, 0x1221, 0x1222, 0x1223], [.ports, .fab, .net, .pcie, .rcd, .tx]⟩ F = true) (r0 : F.covers (0x4000 + p)) :
    F.leaves a₀ (riseAt s p t) := by
  unfold riseAt
  split
  · refine pulseRise_leaves ?_ (Foot.le_trans (by decide) hF) r0
    exact h
  · exact h

theorem fallAt_leaves {F : Foot} {a₀ : State} {s : State} {p : Nat} {t : Tick} (h : F.leaves a₀ s) (hF : Foot.le ⟨0x5000, [0x1220, 0x1221, 0x1222, 0x1223], [.ports, .fab, .net, .pcie, .rcd, .tx]⟩ F = true) (r0 : F.covers (0x4000 + p)) :
    F.leaves a₀ (fallAt s p t) := by
  unfold fallAt
  split
  · refine pulseFall_leaves ?_ (Foot.le_trans (by decide) hF) r0
    exact h
  · exact h

theorem gateEdge_leaves {F : Foot} {a₀ : State} {s : State} {p : Nat} {t : Tick} (h : F.leaves a₀ s) (hF : Foot.le ⟨0x10000, [], [.ports, .tx]⟩ F = true) (r0 : F.covers (0x4000 + p)) :
    F.leaves a₀ (gateEdge s p t) := by
  unfold gateEdge
  split
  · refine Foot.ite_leaves ?_ ?_
    · refine syncPort_leaves ?_ (Foot.le_trans (by decide) hF) r0
      refine modPgen_leaves ?_ (Foot.le_trans (by decide) hF)
      exact h
    · exact h
  · exact h

theorem startTask_leaves {F : Foot} {a₀ : State} {s : State} {p : Nat} {l : List (Nat × Nat)} {t : Tick} (h : F.leaves a₀ s) (hF : Foot.le ⟨0x5000, [0x1220, 0x1221, 0x1222, 0x1223], [.ports, .fab, .net, .pcie, .rcd, .tx]⟩ F = true) (r0 : F.covers (0x4000 + p)) :
    F.leaves a₀ (startTask s p l t) := by
  unfold startTask
  refine Foot.ite_leaves ?_ ?_
  · exact h
  · refine syncPort_leaves ?_ (Foot.le_trans (by decide) hF) r0
    refine eventStart_leaves ?_ (Foot.le_trans (by decide) hF) r0
    exact h

theorem rearmTask_leaves {F : Foot} {a₀ : State} {s : State} {p : Nat} {t : Tick} (h : F.leaves a₀ s) (hF : Foot.le ⟨0x10000, [0x8000], [.ports, .rcd, .tx]⟩ F = true) (r0 : F.covers (0x4000 + p)) :
    F.leaves a₀ (rearmTask s p t) := by
  unfold rearmTask
  refine Foot.ite_leaves ?_ ?_
  · exact h
  · refine Foot.ite_leaves ?_ ?_
    · refine setBit_leaves ?_ (Foot.rec_key r0)
      exact h
    · refine rearm_leaves ?_ (Foot.le_trans (by decide) hF) r0
      exact h

theorem strikeTask_leaves {F : Foot} {a₀ : State} {s : State} {p : Nat} {t : Tick} (h : F.leaves a₀ s) (hF : Foot.le ⟨0x10000, [], [.micro]⟩ F = true) :
    F.leaves a₀ (strikeTask s p t) := by
  unfold strikeTask
  refine Foot.ite_leaves ?_ ?_
  · refine later_leaves ?_ (Foot.le_trans (by decide) hF)
    exact h
  · exact h

theorem portTaskDo_leaves {F : Foot} {a₀ : State} {s : State} {p : Nat} {kind : Nat} {l : List (Nat × Nat)} {t : Tick} (h : F.leaves a₀ s) (hF : Foot.le ⟨0x5000, [0x1220, 0x1221, 0x1222, 0x1223], [.ports, .micro, .fab, .net, .pcie, .rcd, .tx]⟩ F = true) (r0 : F.covers (0x4000 + p)) :
    F.leaves a₀ (portTaskDo s p kind l t) := by
  unfold portTaskDo
  refine Foot.ite_leaves ?_ ?_
  · refine startTask_leaves ?_ (Foot.le_trans (by decide) hF) r0
    exact h
  · refine Foot.ite_leaves ?_ ?_
    · refine syncPort_leaves ?_ (Foot.le_trans (by decide) hF) r0
      refine trainStop_leaves ?_ (Foot.le_trans (by decide) hF) r0
      exact h
    · refine Foot.ite_leaves ?_ ?_
      · refine rearmTask_leaves ?_ (Foot.le_trans (by decide) hF) r0
        exact h
      · refine Foot.ite_leaves ?_ ?_
        · refine trip_leaves ?_ (Foot.le_trans (by decide) hF) r0
          exact h
        · refine Foot.ite_leaves ?_ ?_
          · refine armPoint_leaves ?_ (Foot.le_trans (by decide) hF)
            exact h
          · refine Foot.ite_leaves ?_ ?_
            · refine strikeTask_leaves ?_ (Foot.le_trans (by decide) hF)
              exact h
            · exact h

theorem portTask_leaves {F : Foot} {a₀ : State} {s : State} {p : Nat} {kind : Nat} {t : Tick} (h : F.leaves a₀ s) (hF : Foot.le ⟨0x5000, [0x1220, 0x1221, 0x1222, 0x1223], [.ports, .micro, .fab, .net, .pcie, .rcd, .tx]⟩ F = true) (r0 : F.covers (0x4000 + p)) :
    F.leaves a₀ (portTask s p kind t) := by
  unfold portTask
  extract_lets +onlyGivenNames -merge -useContext -underBinder y0
  refine Foot.ite_leaves ?_ ?_
  · refine takePort_leaves ?_ (Foot.le_trans (by decide) hF) r0
    exact h
  · refine portTaskDo_leaves ?_ (Foot.le_trans (by decide) hF) r0
    refine takePort_leaves ?_ (Foot.le_trans (by decide) hF) r0
    exact h

theorem execPgenCtrlStart_leaves {F : Foot} {t : Tick} {who : Principal} {p : PortId} {s : State} (hF : Foot.le ⟨0x10000, [0x2000], [.groups, .resp]⟩ F = true) :
    ∃ u, execPgenCtrlStart t who p s = .next u.settle ∧ F.leaves (s.advance t) u := by
  refine ⟨_, rfl, ?_⟩
  have h0 : F.leaves (s.advance t) (s.advance t) := .refl
  generalize s.advance t = a₀ at *
  beta_reduce
  refine pgenCtrl_leaves ?_ (Foot.le_trans (by decide) hF)
  exact h0

theorem execPgenCtrlStop_leaves {F : Foot} {t : Tick} {who : Principal} {p : PortId} {s : State} (hF : Foot.le ⟨0x10000, [0x2000], [.groups, .resp]⟩ F = true) :
    ∃ u, execPgenCtrlStop t who p s = .next u.settle ∧ F.leaves (s.advance t) u := by
  refine ⟨_, rfl, ?_⟩
  have h0 : F.leaves (s.advance t) (s.advance t) := .refl
  generalize s.advance t = a₀ at *
  beta_reduce
  refine pgenCtrl_leaves ?_ (Foot.le_trans (by decide) hF)
  exact h0

theorem execPgenCtrlRearm_leaves {F : Foot} {t : Tick} {who : Principal} {p : PortId} {s : State} (hF : Foot.le ⟨0x10000, [0x2000], [.groups, .resp]⟩ F = true) :
    ∃ u, execPgenCtrlRearm t who p s = .next u.settle ∧ F.leaves (s.advance t) u := by
  refine ⟨_, rfl, ?_⟩
  have h0 : F.leaves (s.advance t) (s.advance t) := .refl
  generalize s.advance t = a₀ at *
  beta_reduce
  refine pgenCtrl_leaves ?_ (Foot.le_trans (by decide) hF)
  exact h0

theorem execPgenCtrlTrip_leaves {F : Foot} {t : Tick} {who : Principal} {p : PortId} {s : State} (hF : Foot.le ⟨0x10000, [0x2000], [.groups, .resp]⟩ F = true) :
    ∃ u, execPgenCtrlTrip t who p s = .next u.settle ∧ F.leaves (s.advance t) u := by
  refine ⟨_, rfl, ?_⟩
  have h0 : F.leaves (s.advance t) (s.advance t) := .refl
  generalize s.advance t = a₀ at *
  beta_reduce
  refine pgenCtrl_leaves ?_ (Foot.le_trans (by decide) hF)
  exact h0

theorem execPgenRiseEdge_leaves {F : Foot} {t : Tick} {p : PortId} {s : State} (hF : Foot.le ⟨0x5000, [0x1220, 0x1221, 0x1222, 0x1223], [.ports, .fab, .net, .pcie, .rcd, .tx]⟩ F = true) (r0 : F.covers (0x4000 + ↑p)) :
    ∃ u, execPgenRiseEdge t p s = .next u.settle ∧ F.leaves (s.advance t) u := by
  refine ⟨_, rfl, ?_⟩
  have h0 : F.leaves (s.advance t) (s.advance t) := .refl
  generalize s.advance t = a₀ at *
  beta_reduce
  refine riseAt_leaves ?_ (Foot.le_trans (by decide) hF) r0
  exact h0

theorem execPgenFallEdge_leaves {F : Foot} {t : Tick} {p : PortId} {s : State} (hF : Foot.le ⟨0x5000, [0x1220, 0x1221, 0x1222, 0x1223], [.ports, .fab, .net, .pcie, .rcd, .tx]⟩ F = true) (r0 : F.covers (0x4000 + ↑p)) :
    ∃ u, execPgenFallEdge t p s = .next u.settle ∧ F.leaves (s.advance t) u := by
  refine ⟨_, rfl, ?_⟩
  have h0 : F.leaves (s.advance t) (s.advance t) := .refl
  generalize s.advance t = a₀ at *
  beta_reduce
  refine fallAt_leaves ?_ (Foot.le_trans (by decide) hF) r0
  exact h0

theorem execPgenGateEdge_leaves {F : Foot} {t : Tick} {p : PortId} {s : State} (hF : Foot.le ⟨0x10000, [], [.ports, .tx]⟩ F = true) (r0 : F.covers (0x4000 + ↑p)) :
    ∃ u, execPgenGateEdge t p s = .next u.settle ∧ F.leaves (s.advance t) u := by
  refine ⟨_, rfl, ?_⟩
  have h0 : F.leaves (s.advance t) (s.advance t) := .refl
  generalize s.advance t = a₀ at *
  beta_reduce
  refine gateEdge_leaves ?_ (Foot.le_trans (by decide) hF) r0
  exact h0

theorem execPgenStart_leaves {F : Foot} {t : Tick} {p : PortId} {s : State} (hF : Foot.le ⟨0x5000, [0x1220, 0x1221, 0x1222, 0x1223], [.ports, .micro, .fab, .net, .pcie, .rcd, .tx]⟩ F = true) (r0 : F.covers (0x4000 + ↑p)) :
    ∃ u, execPgenStart t p s = .next u.settle ∧ F.leaves (s.advance t) u := by
  refine ⟨_, rfl, ?_⟩
  have h0 : F.leaves (s.advance t) (s.advance t) := .refl
  generalize s.advance t = a₀ at *
  beta_reduce
  refine portTask_leaves ?_ (Foot.le_trans (by decide) hF) r0
  exact h0

theorem execPgenStop_leaves {F : Foot} {t : Tick} {p : PortId} {s : State} (hF : Foot.le ⟨0x5000, [0x1220, 0x1221, 0x1222, 0x1223], [.ports, .micro, .fab, .net, .pcie, .rcd, .tx]⟩ F = true) (r0 : F.covers (0x4000 + ↑p)) :
    ∃ u, execPgenStop t p s = .next u.settle ∧ F.leaves (s.advance t) u := by
  refine ⟨_, rfl, ?_⟩
  have h0 : F.leaves (s.advance t) (s.advance t) := .refl
  generalize s.advance t = a₀ at *
  beta_reduce
  refine portTask_leaves ?_ (Foot.le_trans (by decide) hF) r0
  exact h0

theorem execPgenRearm_leaves {F : Foot} {t : Tick} {p : PortId} {s : State} (hF : Foot.le ⟨0x5000, [0x1220, 0x1221, 0x1222, 0x1223], [.ports, .micro, .fab, .net, .pcie, .rcd, .tx]⟩ F = true) (r0 : F.covers (0x4000 + ↑p)) :
    ∃ u, execPgenRearm t p s = .next u.settle ∧ F.leaves (s.advance t) u := by
  refine ⟨_, rfl, ?_⟩
  have h0 : F.leaves (s.advance t) (s.advance t) := .refl
  generalize s.advance t = a₀ at *
  beta_reduce
  refine portTask_leaves ?_ (Foot.le_trans (by decide) hF) r0
  exact h0

theorem execPgenTripIn_leaves {F : Foot} {t : Tick} {p : PortId} {s : State} (hF : Foot.le ⟨0x5000, [0x1220, 0x1221, 0x1222, 0x1223], [.ports, .micro, .fab, .net, .pcie, .rcd, .tx]⟩ F = true) (r0 : F.covers (0x4000 + ↑p)) :
    ∃ u, execPgenTripIn t p s = .next u.settle ∧ F.leaves (s.advance t) u := by
  refine ⟨_, rfl, ?_⟩
  have h0 : F.leaves (s.advance t) (s.advance t) := .refl
  generalize s.advance t = a₀ at *
  beta_reduce
  refine portTask_leaves ?_ (Foot.le_trans (by decide) hF) r0
  exact h0

theorem execDacStrike_leaves {F : Foot} {t : Tick} {p : PortId} {s : State} (hF : Foot.le ⟨0x5000, [0x1220, 0x1221, 0x1222, 0x1223], [.ports, .micro, .fab, .net, .pcie, .rcd, .tx]⟩ F = true) (r0 : F.covers (0x4000 + ↑p)) :
    ∃ u, execDacStrike t p s = .next u.settle ∧ F.leaves (s.advance t) u := by
  refine ⟨_, rfl, ?_⟩
  have h0 : F.leaves (s.advance t) (s.advance t) := .refl
  generalize s.advance t = a₀ at *
  beta_reduce
  refine portTask_leaves ?_ (Foot.le_trans (by decide) hF) r0
  exact h0

/-! ### SequencerCmd -/

theorem instantDue_leaves {F : Foot} {a₀ : State} {s : State} {p : Nat} {t : Tick} (h : F.leaves a₀ s) (hF : Foot.le ⟨0x5000, [0x1220, 0x1221, 0x1222, 0x1223], [.ports, .fab, .net, .pcie, .rcd, .tx]⟩ F = true) (r0 : F.covers (0x4000 + p)) :
    F.leaves a₀ (instantDue s p t) := by
  unfold instantDue
  split
  · refine Foot.ite_leaves ?_ ?_
    · refine syncPort_leaves ?_ (Foot.le_trans (by decide) hF) r0
      refine pointInstant_leaves ?_ (Foot.le_trans (by decide) hF) r0
      exact h
    · exact h
  · exact h

theorem doneDue_leaves {F : Foot} {a₀ : State} {s : State} {p : Nat} {t : Tick} (h : F.leaves a₀ s) (hF : Foot.le ⟨0x4000, [0x1220, 0x1221, 0x1222, 0x1223, 0x2400, 0x2000], [.ports, .micro, .fab, .scan, .od, .net, .pcie, .rcd, .nv, .tx]⟩ F = true) :
    F.leaves a₀ (doneDue s p t) := by
  unfold doneDue
  split
  · refine Foot.ite_leaves ?_ ?_
    · refine syncPort_leaves ?_ (Foot.le_trans (by decide) hF) (Foot.rec_floor hF (by decide))
      refine selectAt_leaves ?_ (Foot.le_trans (by decide) hF)
      refine pointDone_leaves ?_ (Foot.le_trans (by decide) hF)
      exact h
    · exact h
  · exact h

theorem stallPort_leaves {F : Foot} {a₀ : State} {t : Tick} {p : Nat} {s : State} (h : F.leaves a₀ s) (hF : Foot.le ⟨0x5000, [0x1220, 0x1221, 0x1222, 0x1223], [.ports, .fab, .net, .pcie, .rcd]⟩ F = true) :
    F.leaves a₀ (stallPort t p s) := by
  unfold stallPort
  split
  · exact h
  · extract_lets +onlyGivenNames -merge -useContext -underBinder y0
    try clear_value y0
    extract_lets +onlyGivenNames -merge -useContext -underBinder y1
    extract_lets +onlyGivenNames -merge -useContext -underBinder y2
    have h2 : F.leaves a₀ y2 := by
      refine set_leaves ?_ (Foot.rec_key (Foot.rec_floor hF (by decide)))
      exact h
    try clear_value y2
    refine Foot.ite_leaves ?_ ?_
    · refine produce_leaves ?_ (Foot.le_trans (by decide) hF)
      refine setBit_leaves ?_ (Foot.rec_key (Foot.rec_floor hF (by decide)))
      refine modPoint_leaves ?_ (Foot.le_trans (by decide) hF)
      exact h2
    · exact h2

theorem stallAll_leaves {F : Foot} {a₀ : State} {s : State} {t : Tick} (h : F.leaves a₀ s) (hF : Foot.le ⟨0x5000, [0x1220, 0x1221, 0x1222, 0x1223], [.ports, .fab, .net, .pcie, .rcd]⟩ F = true) :
    F.leaves a₀ (stallAll s t) := by
  unfold stallAll
  refine Foot.ite_leaves ?_ ?_
  · refine forAll_leaves ?_ fun i0 z0 h0 => ?_
    · exact h
    · refine stallPort_leaves ?_ (Foot.le_trans (by decide) hF)
      exact h0
  · exact h

theorem frameStart_leaves {F : Foot} {a₀ : State} {s : State} {t : Tick} (h : F.leaves a₀ s) (hF : Foot.le ⟨0x10000, [], [.scan, .tx]⟩ F = true) :
    F.leaves a₀ (frameStart s t) := by
  unfold frameStart
  split
  · refine Foot.ite_leaves ?_ ?_
    · extract_lets +onlyGivenNames -merge -useContext -underBinder y0
      extract_lets +onlyGivenNames -merge -useContext -underBinder y1
      try clear_value y1
      extract_lets +onlyGivenNames -merge -useContext -underBinder y2
      refine out_leaves ?_ (Foot.le_trans (by decide) hF)
      exact { h with scan := .inl (Foot.part hF (by decide)) }
    · exact h
  · exact h

theorem frameDue_leaves {F : Foot} {a₀ : State} {s : State} {miso : Nat} {t : Tick} (h : F.leaves a₀ s) (hF : Foot.le ⟨0x4000, [0x2400], [.ports, .scan]⟩ F = true) :
    F.leaves a₀ (frameDue s miso t) := by
  unfold frameDue
  split
  · refine Foot.ite_leaves ?_ ?_
    · refine frameEnd_leaves ?_ (Foot.le_trans (by decide) hF) (Foot.rec_floor hF (by decide))
      exact h
    · exact h
  · exact h

theorem retryDue_leaves {F : Foot} {a₀ : State} {s : State} {p : Nat} {t : Tick} (h : F.leaves a₀ s) (hF : Foot.le ⟨0x10000, [], [.scan]⟩ F = true) :
    F.leaves a₀ (retryDue s p t) := by
  unfold retryDue
  split
  · refine Foot.ite_leaves ?_ ?_
    · extract_lets +onlyGivenNames -merge -useContext -underBinder u0_0 y0
      have h0 : F.leaves a₀ y0 := by
        exact { h with scan := .inl (Foot.part hF (by decide)) }
      try clear_value y0
      refine Foot.ite_leaves ?_ ?_
      · refine requestFrame_leaves ?_ (Foot.le_trans (by decide) hF)
        exact h0
      · exact h0
    · exact h
  · exact h

theorem execRunStateStart_leaves {F : Foot} {t : Tick} {who : Principal} {c : CtxId} {s : State} (hF : Foot.le ⟨0x4000, [0x2000, 0x2400], [.ports, .groups, .micro, .od, .rcd, .nv, .resp]⟩ F = true) :
    ∃ u, execRunStateStart t who c s = .next u.settle ∧ F.leaves (s.advance t) u := by
  refine ⟨_, rfl, ?_⟩
  have h0 : F.leaves (s.advance t) (s.advance t) := .refl
  generalize s.advance t = a₀ at *
  beta_reduce
  refine runStateWrite_leaves ?_ (Foot.le_trans (by decide) hF)
  exact h0

theorem execRunStateStop_leaves {F : Foot} {t : Tick} {who : Principal} {c : CtxId} {s : State} (hF : Foot.le ⟨0x4000, [0x2000, 0x2400], [.ports, .groups, .micro, .od, .rcd, .nv, .resp]⟩ F = true) :
    ∃ u, execRunStateStop t who c s = .next u.settle ∧ F.leaves (s.advance t) u := by
  refine ⟨_, rfl, ?_⟩
  have h0 : F.leaves (s.advance t) (s.advance t) := .refl
  generalize s.advance t = a₀ at *
  beta_reduce
  refine runStateWrite_leaves ?_ (Foot.le_trans (by decide) hF)
  exact h0

theorem execRunStateAbort_leaves {F : Foot} {t : Tick} {who : Principal} {c : CtxId} {s : State} (hF : Foot.le ⟨0x4000, [0x2000, 0x2400], [.ports, .groups, .micro, .od, .rcd, .nv, .resp]⟩ F = true) :
    ∃ u, execRunStateAbort t who c s = .next u.settle ∧ F.leaves (s.advance t) u := by
  refine ⟨_, rfl, ?_⟩
  have h0 : F.leaves (s.advance t) (s.advance t) := .refl
  generalize s.advance t = a₀ at *
  beta_reduce
  refine runStateWrite_leaves ?_ (Foot.le_trans (by decide) hF)
  exact h0

theorem execQueueSelection_leaves {F : Foot} {t : Tick} {p : PortId} {s : State} (hF : Foot.le ⟨0x10000, [], [.micro]⟩ F = true) :
    ∃ u, execQueueSelection t p s = .next u.settle ∧ F.leaves (s.advance t) u := by
  refine ⟨_, rfl, ?_⟩
  have h0 : F.leaves (s.advance t) (s.advance t) := .refl
  generalize s.advance t = a₀ at *
  beta_reduce
  refine selectAt_leaves ?_ (Foot.le_trans (by decide) hF)
  exact h0

theorem execSeqHold_leaves {F : Foot} {t : Tick} {who : Principal} {p : PortId} {v : Nat} {s : State} (hF : Foot.le ⟨0x2380, [0x1220, 0x1221, 0x1222, 0x1223, 0x2000, 0x2001], [.blobs, .ports, .groups, .slices, .micro, .fab, .scan, .spad, .mem, .mc, .cal, .od, .net, .pcie, .rcd, .pwr, .nv, .tx, .resp]⟩ F = true) :
    ∃ u, execSeqHold t who p v s = .next u.settle ∧ F.leaves (s.advance t) u := by
  refine ⟨_, rfl, ?_⟩
  have h0 : F.leaves (s.advance t) (s.advance t) := .refl
  generalize s.advance t = a₀ at *
  beta_reduce
  refine seqHoldWrite_leaves ?_ (Foot.le_trans (by decide) hF)
  exact h0

theorem execSeqArm_leaves {F : Foot} {t : Tick} {p : PortId} {s : State} (hF : Foot.le ⟨0x5000, [0x1220, 0x1221, 0x1222, 0x1223], [.ports, .micro, .fab, .net, .pcie, .rcd, .tx]⟩ F = true) (r0 : F.covers (0x4000 + ↑p)) :
    ∃ u, execSeqArm t p s = .next u.settle ∧ F.leaves (s.advance t) u := by
  refine ⟨_, rfl, ?_⟩
  have h0 : F.leaves (s.advance t) (s.advance t) := .refl
  generalize s.advance t = a₀ at *
  beta_reduce
  refine portTask_leaves ?_ (Foot.le_trans (by decide) hF) r0
  exact h0

theorem execPointInstant_leaves {F : Foot} {t : Tick} {p : PortId} {s : State} (hF : Foot.le ⟨0x5000, [0x1220, 0x1221, 0x1222, 0x1223], [.ports, .fab, .net, .pcie, .rcd, .tx]⟩ F = true) (r0 : F.covers (0x4000 + ↑p)) :
    ∃ u, execPointInstant t p s = .next u.settle ∧ F.leaves (s.advance t) u := by
  refine ⟨_, rfl, ?_⟩
  have h0 : F.leaves (s.advance t) (s.advance t) := .refl
  generalize s.advance t = a₀ at *
  beta_reduce
  refine instantDue_leaves ?_ (Foot.le_trans (by decide) hF) r0
  exact h0

theorem execPointDone_leaves {F : Foot} {t : Tick} {p : PortId} {s : State} (hF : Foot.le ⟨0x4000, [0x1220, 0x1221, 0x1222, 0x1223, 0x2400, 0x2000], [.ports, .micro, .fab, .scan, .od, .net, .pcie, .rcd, .nv, .tx]⟩ F = true) :
    ∃ u, execPointDone t p s = .next u.settle ∧ F.leaves (s.advance t) u := by
  refine ⟨_, rfl, ?_⟩
  have h0 : F.leaves (s.advance t) (s.advance t) := .refl
  generalize s.advance t = a₀ at *
  beta_reduce
  refine doneDue_leaves ?_ (Foot.le_trans (by decide) hF)
  exact h0

theorem execStallAgeUpdate_leaves {F : Foot} {t : Tick} {s : State} (hF : Foot.le ⟨0x5000, [0x1220, 0x1221, 0x1222, 0x1223], [.ports, .fab, .net, .pcie, .rcd]⟩ F = true) :
    ∃ u, execStallAgeUpdate t s = .next u.settle ∧ F.leaves (s.advance t) u := by
  refine ⟨_, rfl, ?_⟩
  have h0 : F.leaves (s.advance t) (s.advance t) := .refl
  generalize s.advance t = a₀ at *
  beta_reduce
  refine stallAll_leaves ?_ (Foot.le_trans (by decide) hF)
  exact h0

theorem execScanFrameStart_leaves {F : Foot} {t : Tick} {s : State} (hF : Foot.le ⟨0x10000, [], [.scan, .tx]⟩ F = true) :
    ∃ u, execScanFrameStart t s = .next u.settle ∧ F.leaves (s.advance t) u := by
  refine ⟨_, rfl, ?_⟩
  have h0 : F.leaves (s.advance t) (s.advance t) := .refl
  generalize s.advance t = a₀ at *
  beta_reduce
  refine frameStart_leaves ?_ (Foot.le_trans (by decide) hF)
  exact h0

theorem execScanFrameEnd_leaves {F : Foot} {t : Tick} {miso : BitVec 64} {s : State} (hF : Foot.le ⟨0x4000, [0x2400], [.ports, .scan]⟩ F = true) :
    ∃ u, execScanFrameEnd t miso s = .next u.settle ∧ F.leaves (s.advance t) u := by
  refine ⟨_, rfl, ?_⟩
  have h0 : F.leaves (s.advance t) (s.advance t) := .refl
  generalize s.advance t = a₀ at *
  beta_reduce
  refine frameDue_leaves ?_ (Foot.le_trans (by decide) hF)
  exact h0

theorem execScnRetryExpiry_leaves {F : Foot} {t : Tick} {p : PortId} {s : State} (hF : Foot.le ⟨0x10000, [], [.scan]⟩ F = true) :
    ∃ u, execScnRetryExpiry t p s = .next u.settle ∧ F.leaves (s.advance t) u := by
  refine ⟨_, rfl, ?_⟩
  have h0 : F.leaves (s.advance t) (s.advance t) := .refl
  generalize s.advance t = a₀ at *
  beta_reduce
  refine retryDue_leaves ?_ (Foot.le_trans (by decide) hF)
  exact h0

theorem execScanSettleEnd_leaves {F : Foot} {t : Tick} {p : PortId} {s : State} (hF : Foot.le ⟨0x6000, [], [.ports]⟩ F = true) :
    ∃ u, execScanSettleEnd t p s = .next u.settle ∧ F.leaves (s.advance t) u := by
  refine ⟨_, rfl, ?_⟩
  have h0 : F.leaves (s.advance t) (s.advance t) := .refl
  generalize s.advance t = a₀ at *
  beta_reduce
  refine scanEnds_leaves ?_ (Foot.le_trans (by decide) hF)
  exact h0

theorem execCommit_leaves {F : Foot} {t : Tick} {who : Principal} {l : ListId} {s : State} (hF : Foot.le ⟨0x10000, [0x8000, 0x2000], [.spad, .mem, .rcd, .resp]⟩ F = true) (r0 : F.covers (0x7000 + ↑l)) :
    ∃ u, execCommit t who l s = .next u.settle ∧ F.leaves (s.advance t) u := by
  refine ⟨_, rfl, ?_⟩
  have h0 : F.leaves (s.advance t) (s.advance t) := .refl
  generalize s.advance t = a₀ at *
  beta_reduce
  refine commitWrite_leaves ?_ (Foot.le_trans (by decide) hF) r0
  exact h0

/-! ### TimebaseCmd -/

theorem segmentBoundary_leaves {F : Foot} {a₀ : State} {s : State} {t : Tick} (h : F.leaves a₀ s) (hF : Foot.le ⟨0x5000, [0x2100, 0x1220, 0x1221, 0x1222, 0x1223], [.fab, .tb, .net, .pcie, .rcd, .fresh]⟩ F = true) :
    F.leaves a₀ (segmentBoundary s t) := by
  unfold segmentBoundary
  refine Foot.ite_leaves ?_ ?_
  · refine segmentDue_leaves ?_ (Foot.le_trans (by decide) hF)
    exact h
  · exact h

theorem ppsRise_leaves {F : Foot} {a₀ : State} {s : State} {t : Tick} (h : F.leaves a₀ s) (hF : Foot.le ⟨0x5000, [0x1220, 0x1221, 0x1222, 0x1223], [.fab, .tb, .net, .pcie, .rcd, .tx]⟩ F = true) :
    F.leaves a₀ (ppsRise s t) := by
  unfold ppsRise
  extract_lets +onlyGivenNames -merge -useContext -underBinder y0
  refine Foot.ite_leaves ?_ ?_
  · extract_lets +onlyGivenNames -merge -useContext -underBinder y1
    have h1 : F.leaves a₀ y1 := by
      refine modTb_leaves ?_ (Foot.le_trans (by decide) hF)
      exact h
    try clear_value y1
    refine produce_leaves ?_ (Foot.le_trans (by decide) hF)
    refine out_leaves ?_ (Foot.le_trans (by decide) hF)
    exact h1
  · exact h

theorem ppsFall_leaves {F : Foot} {a₀ : State} {s : State} {t : Tick} (h : F.leaves a₀ s) (hF : Foot.le ⟨0x10000, [], [.tb, .tx]⟩ F = true) :
    F.leaves a₀ (ppsFall s t) := by
  unfold ppsFall
  split
  · refine Foot.ite_leaves ?_ ?_
    · refine out_leaves ?_ (Foot.le_trans (by decide) hF)
      refine modTb_leaves ?_ (Foot.le_trans (by decide) hF)
      exact h
    · exact h
  · exact h

theorem ptpSyncRx_leaves {F : Foot} {a₀ : State} {s : State} {port : Nat} {via : Nat} {twoStep : Bool} {domain : Nat} {origin : Nat} {corr : Int} {t : Tick} (h : F.leaves a₀ s) (hF : Foot.le ⟨0x10000, [0x2100], [.tb, .tx]⟩ F = true) :
    F.leaves a₀ (ptpSyncRx s port via twoStep domain origin corr t) := by
  unfold ptpSyncRx
  refine Foot.ite_leaves ?_ ?_
  · exact h
  · refine Foot.ite_leaves ?_ ?_
    · refine satInc_leaves ?_ (Foot.rec_const hF (by decide))
      exact h
    · refine out_leaves ?_ (Foot.le_trans (by decide) hF)
      refine modTb_leaves ?_ (Foot.le_trans (by decide) hF)
      exact h

theorem ptpDelayRx_leaves {F : Foot} {a₀ : State} {s : State} {port : Nat} {via : Nat} {domain : Nat} {recv : Nat} {corr : Int} (h : F.leaves a₀ s) (hF : Foot.le ⟨0x10000, [0x2100], [.tb]⟩ F = true) :
    F.leaves a₀ (ptpDelayRx s port via domain recv corr) := by
  unfold ptpDelayRx
  split
  · refine Foot.ite_leaves ?_ ?_
    · exact h
    · refine ptpMeasured_leaves ?_ (Foot.le_trans (by decide) hF)
      refine modTb_leaves ?_ (Foot.le_trans (by decide) hF)
      exact h
  · exact h

theorem disciplineLost_leaves {F : Foot} {a₀ : State} {s : State} {t : Tick} (h : F.leaves a₀ s) (hF : Foot.le ⟨0x10000, [0x2100], [.tb]⟩ F = true) :
    F.leaves a₀ (disciplineLost s t) := by
  unfold disciplineLost
  extract_lets +onlyGivenNames -merge -useContext -underBinder y0
  try clear_value y0
  refine Foot.ite_leaves ?_ ?_
  · refine syncTb_leaves ?_ (Foot.le_trans (by decide) hF)
    refine modTb_leaves ?_ (Foot.le_trans (by decide) hF)
    exact h
  · exact h

theorem syncSend_leaves {F : Foot} {a₀ : State} {s : State} {t : Tick} (h : F.leaves a₀ s) (hF : Foot.le ⟨0x10000, [], [.tx]⟩ F = true) :
    F.leaves a₀ (syncSend s t) := by
  unfold syncSend
  refine Foot.ite_leaves ?_ ?_
  · extract_lets +onlyGivenNames -merge -useContext -underBinder y0
    try clear_value y0
    refine out_leaves ?_ (Foot.le_trans (by decide) hF)
    exact h
  · exact h

theorem syncReceive_leaves {F : Foot} {a₀ : State} {s : State} {T : Tick} {g : Seg} {tai : Bool} {crcOk : Bool} {t : Tick} (h : F.leaves a₀ s) (hF : Foot.le ⟨0x10000, [0x2100, 0x8000], [.now, .tb, .rcd]⟩ F = true) :
    F.leaves a₀ (syncReceive s T g tai crcOk t) := by
  unfold syncReceive
  refine Foot.ite_leaves ?_ ?_
  · refine syncFrame_leaves ?_ (Foot.le_trans (by decide) hF)
    exact h
  · exact h

theorem syncGone_leaves {F : Foot} {a₀ : State} {s : State} (h : F.leaves a₀ s) (hF : Foot.le ⟨0x10000, [0x2100], [.tb]⟩ F = true) :
    F.leaves a₀ (syncGone s) := by
  unfold syncGone
  refine Foot.ite_leaves ?_ ?_
  · refine syncLost_leaves ?_ (Foot.le_trans (by decide) hF)
    exact h
  · exact h

theorem syncFound_leaves {F : Foot} {a₀ : State} {s : State} {T : Tick} {t : Tick} (h : F.leaves a₀ s) (hF : Foot.le ⟨0x10000, [0x2100], [.now, .tb]⟩ F = true) :
    F.leaves a₀ (syncFound s T t) := by
  unfold syncFound
  refine Foot.ite_leaves ?_ ?_
  · refine syncMarker_leaves ?_ (Foot.le_trans (by decide) hF)
    exact h
  · exact h

theorem execPllLockLoss_leaves {F : Foot} {t : Tick} {s : State} (hF : Foot.le ⟨0x10000, [0x2100, 0x9000], [.blobs, .micro, .tb, .nv]⟩ F = true) :
    ∃ u, execPllLockLoss t s = .next u.settle ∧ F.leaves (s.advance t) u := by
  refine ⟨_, rfl, ?_⟩
  have h0 : F.leaves (s.advance t) (s.advance t) := .refl
  generalize s.advance t = a₀ at *
  beta_reduce
  refine pllLost_leaves ?_ (Foot.le_trans (by decide) hF)
  exact h0

theorem execRefclkLost_leaves {F : Foot} {t : Tick} {s : State} (hF : Foot.le ⟨0x10000, [0x2100], [.tb]⟩ F = true) :
    ∃ u, execRefclkLost t s = .next u.settle ∧ F.leaves (s.advance t) u := by
  refine ⟨_, rfl, ?_⟩
  have h0 : F.leaves (s.advance t) (s.advance t) := .refl
  generalize s.advance t = a₀ at *
  beta_reduce
  refine refLost_leaves ?_ (Foot.le_trans (by decide) hF)
  exact h0

theorem execRefclkReturn_leaves {F : Foot} {t : Tick} {s : State} (hF : Foot.le ⟨0x10000, [0x2100], [.tb]⟩ F = true) :
    ∃ u, execRefclkReturn t s = .next u.settle ∧ F.leaves (s.advance t) u := by
  refine ⟨_, rfl, ?_⟩
  have h0 : F.leaves (s.advance t) (s.advance t) := .refl
  generalize s.advance t = a₀ at *
  beta_reduce
  refine refBack_leaves ?_ (Foot.le_trans (by decide) hF)
  exact h0

theorem execTaiSet_leaves {F : Foot} {t : Tick} {who : Principal} {v : Nat} {s : State} (hF : Foot.le ⟨0x10000, [0x8000, 0x2000], [.tb, .rcd, .resp]⟩ F = true) :
    ∃ u, execTaiSet t who v s = .next u.settle ∧ F.leaves (s.advance t) u := by
  refine ⟨_, rfl, ?_⟩
  have h0 : F.leaves (s.advance t) (s.advance t) := .refl
  generalize s.advance t = a₀ at *
  beta_reduce
  refine taiSetWrite_leaves ?_ (Foot.le_trans (by decide) hF)
  exact h0

theorem execSegmentBegin_leaves {F : Foot} {t : Tick} {s : State} (hF : Foot.le ⟨0x5000, [0x2100, 0x1220, 0x1221, 0x1222, 0x1223], [.fab, .tb, .net, .pcie, .rcd, .fresh]⟩ F = true) :
    ∃ u, execSegmentBegin t s = .next u.settle ∧ F.leaves (s.advance t) u := by
  refine ⟨_, rfl, ?_⟩
  have h0 : F.leaves (s.advance t) (s.advance t) := .refl
  generalize s.advance t = a₀ at *
  beta_reduce
  refine segmentBoundary_leaves ?_ (Foot.le_trans (by decide) hF)
  exact h0

theorem execPpsIn_leaves {F : Foot} {t : Tick} {s : State} (hF : Foot.le ⟨0x10000, [0x8000, 0x2100], [.tb, .rcd]⟩ F = true) :
    ∃ u, execPpsIn t s = .next u.settle ∧ F.leaves (s.advance t) u := by
  refine ⟨_, rfl, ?_⟩
  have h0 : F.leaves (s.advance t) (s.advance t) := .refl
  generalize s.advance t = a₀ at *
  beta_reduce
  refine ppsEdge_leaves ?_ (Foot.le_trans (by decide) hF)
  exact h0

theorem execPpsOutRise_leaves {F : Foot} {t : Tick} {s : State} (hF : Foot.le ⟨0x5000, [0x1220, 0x1221, 0x1222, 0x1223], [.fab, .tb, .net, .pcie, .rcd, .tx]⟩ F = true) :
    ∃ u, execPpsOutRise t s = .next u.settle ∧ F.leaves (s.advance t) u := by
  refine ⟨_, rfl, ?_⟩
  have h0 : F.leaves (s.advance t) (s.advance t) := .refl
  generalize s.advance t = a₀ at *
  beta_reduce
  refine ppsRise_leaves ?_ (Foot.le_trans (by decide) hF)
  exact h0

theorem execPpsOutFall_leaves {F : Foot} {t : Tick} {s : State} (hF : Foot.le ⟨0x10000, [], [.tb, .tx]⟩ F = true) :
    ∃ u, execPpsOutFall t s = .next u.settle ∧ F.leaves (s.advance t) u := by
  refine ⟨_, rfl, ?_⟩
  have h0 : F.leaves (s.advance t) (s.advance t) := .refl
  generalize s.advance t = a₀ at *
  beta_reduce
  refine ppsFall_leaves ?_ (Foot.le_trans (by decide) hF)
  exact h0

theorem execPtpSync_leaves {F : Foot} {t : Tick} {port : PtpPath} {twoStep : Bool} {domain : Nat} {origin : Nat} {corr : Int} {s : State} (hF : Foot.le ⟨0x10000, [0x2100], [.tb, .tx]⟩ F = true) :
    ∃ u, execPtpSync t port twoStep domain origin corr s = .next u.settle ∧ F.leaves (s.advance t) u := by
  refine ⟨_, rfl, ?_⟩
  have h0 : F.leaves (s.advance t) (s.advance t) := .refl
  generalize s.advance t = a₀ at *
  beta_reduce
  refine ptpSyncRx_leaves ?_ (Foot.le_trans (by decide) hF)
  exact h0

theorem execPtpDelayResp_leaves {F : Foot} {t : Tick} {port : PtpPath} {domain : Nat} {recv : Nat} {corr : Int} {s : State} (hF : Foot.le ⟨0x10000, [0x2100], [.tb]⟩ F = true) :
    ∃ u, execPtpDelayResp t port domain recv corr s = .next u.settle ∧ F.leaves (s.advance t) u := by
  refine ⟨_, rfl, ?_⟩
  have h0 : F.leaves (s.advance t) (s.advance t) := .refl
  generalize s.advance t = a₀ at *
  beta_reduce
  refine ptpDelayRx_leaves ?_ (Foot.le_trans (by decide) hF)
  exact h0

theorem execDisciplineTimeout_leaves {F : Foot} {t : Tick} {s : State} (hF : Foot.le ⟨0x10000, [0x2100], [.tb]⟩ F = true) :
    ∃ u, execDisciplineTimeout t s = .next u.settle ∧ F.leaves (s.advance t) u := by
  refine ⟨_, rfl, ?_⟩
  have h0 : F.leaves (s.advance t) (s.advance t) := .refl
  generalize s.advance t = a₀ at *
  beta_reduce
  refine disciplineLost_leaves ?_ (Foot.le_trans (by decide) hF)
  exact h0

theorem execSyncFrameTx_leaves {F : Foot} {t : Tick} {s : State} (hF : Foot.le ⟨0x10000, [], [.tx]⟩ F = true) :
    ∃ u, execSyncFrameTx t s = .next u.settle ∧ F.leaves (s.advance t) u := by
  refine ⟨_, rfl, ?_⟩
  have h0 : F.leaves (s.advance t) (s.advance t) := .refl
  generalize s.advance t = a₀ at *
  beta_reduce
  refine syncSend_leaves ?_ (Foot.le_trans (by decide) hF)
  exact h0

theorem execSyncFrameRx_leaves {F : Foot} {t : Tick} {T : Nat} {t0 : Nat} {n0 : Nat} {rate : Nat} {tai : Bool} {crcOk : Bool} {s : State} (hF : Foot.le ⟨0x10000, [0x2100, 0x8000], [.now, .tb, .rcd]⟩ F = true) :
    ∃ u, execSyncFrameRx t T t0 n0 rate tai crcOk s = .next u.settle ∧ F.leaves (s.advance t) u := by
  refine ⟨_, rfl, ?_⟩
  have h0 : F.leaves (s.advance t) (s.advance t) := .refl
  generalize s.advance t = a₀ at *
  beta_reduce
  refine syncReceive_leaves ?_ (Foot.le_trans (by decide) hF)
  exact h0

theorem execSyncStreamLoss_leaves {F : Foot} {t : Tick} {s : State} (hF : Foot.le ⟨0x10000, [0x2100], [.tb]⟩ F = true) :
    ∃ u, execSyncStreamLoss t s = .next u.settle ∧ F.leaves (s.advance t) u := by
  refine ⟨_, rfl, ?_⟩
  have h0 : F.leaves (s.advance t) (s.advance t) := .refl
  generalize s.advance t = a₀ at *
  beta_reduce
  refine syncGone_leaves ?_ (Foot.le_trans (by decide) hF)
  exact h0

theorem execSyncReacquire_leaves {F : Foot} {t : Tick} {T : Nat} {s : State} (hF : Foot.le ⟨0x10000, [0x2100], [.now, .tb]⟩ F = true) :
    ∃ u, execSyncReacquire t T s = .next u.settle ∧ F.leaves (s.advance t) u := by
  refine ⟨_, rfl, ?_⟩
  have h0 : F.leaves (s.advance t) (s.advance t) := .refl
  generalize s.advance t = a₀ at *
  beta_reduce
  refine syncFound_leaves ?_ (Foot.le_trans (by decide) hF)
  exact h0

theorem execResync_leaves {F : Foot} {t : Tick} {who : Principal} {v : Nat} {s : State} (hF : Foot.le ⟨0x10000, [0x2100, 0x8000, 0x2000], [.now, .tb, .rcd, .resp]⟩ F = true) :
    ∃ u, execResync t who v s = .next u.settle ∧ F.leaves (s.advance t) u := by
  refine ⟨_, rfl, ?_⟩
  have h0 : F.leaves (s.advance t) (s.advance t) := .refl
  generalize s.advance t = a₀ at *
  beta_reduce
  refine resyncWrite_leaves ?_ (Foot.le_trans (by decide) hF)
  exact h0

/-! ### FabricCmd -/

theorem trigEdge_leaves {F : Foot} {a₀ : State} {s : State} {n : Nat} {rise : Bool} {t : Tick} (h : F.leaves a₀ s) (hF : Foot.le ⟨0x5000, [0x1220, 0x1221, 0x1222, 0x1223], [.fab, .net, .pcie, .rcd]⟩ F = true) :
    F.leaves a₀ (trigEdge s n rise t) := by
  unfold trigEdge
  refine Foot.ite_leaves ?_ ?_
  · exact h
  · extract_lets +onlyGivenNames -merge -useContext -underBinder y0
    have h0 : F.leaves a₀ y0 := by
      refine modFab_leaves ?_ (Foot.le_trans (by decide) hF)
      exact h
    try clear_value y0
    refine Foot.ite_leaves ?_ ?_
    · exact h0
    · refine produce_leaves ?_ (Foot.le_trans (by decide) hF)
      refine jEdge_leaves ?_ (Foot.le_trans (by decide) hF)
      exact h0

theorem timerFire_leaves {F : Foot} {a₀ : State} {s : State} {k : Nat} {t : Tick} (h : F.leaves a₀ s) (hF : Foot.le ⟨0x5000, [0x1220, 0x1221, 0x1222, 0x1223], [.fab, .net, .pcie, .rcd]⟩ F = true) :
    F.leaves a₀ (timerFire s k t) := by
  unfold timerFire
  refine Foot.ite_leaves ?_ ?_
  · refine produce_leaves ?_ (Foot.le_trans (by decide) hF)
    exact h
  · exact h

theorem setDly_leaves {F : Foot} {a₀ : State} {s : State} {k : Nat} {r : Option DlyRun} (h : F.leaves a₀ s) (hF : Foot.le ⟨0x10000, [], [.fab]⟩ F = true) (r0 : F.covers (0x2280 + k)) :
    F.leaves a₀ (setDly s k r) := by
  unfold setDly
  refine setBit_leaves ?_ (Foot.rec_key r0)
  refine modFab_leaves ?_ (Foot.le_trans (by decide) hF)
  exact h

theorem dlyDone_leaves {F : Foot} {a₀ : State} {s : State} {k : Nat} {t : Tick} (h : F.leaves a₀ s) (hF : Foot.le ⟨0x5000, [0x1220, 0x1221, 0x1222, 0x1223], [.fab, .net, .pcie, .rcd]⟩ F = true) (r0 : F.covers (0x2280 + k)) :
    F.leaves a₀ (dlyDone s k t) := by
  unfold dlyDone
  split
  · refine Foot.ite_leaves ?_ ?_
    · refine produce_leaves ?_ (Foot.le_trans (by decide) hF)
      refine setDly_leaves ?_ (Foot.le_trans (by decide) hF) r0
      exact h
    · exact h
  · exact h

theorem dlyFire_leaves {F : Foot} {a₀ : State} {s : State} {k : Nat} {t : Tick} (h : F.leaves a₀ s) (hF : Foot.le ⟨0x5000, [0x1220, 0x1221, 0x1222, 0x1223], [.fab, .net, .pcie, .rcd]⟩ F = true) (r0 : F.covers (0x2280 + k)) :
    F.leaves a₀ (dlyFire s k t) := by
  unfold dlyFire
  extract_lets +onlyGivenNames -merge -useContext -underBinder y0
  have h0 : F.leaves a₀ y0 := by
    refine dlyDone_leaves ?_ (Foot.le_trans (by decide) hF) r0
    exact h
  try clear_value y0
  extract_lets +onlyGivenNames -merge -useContext -underBinder y1
  extract_lets +onlyGivenNames -merge -useContext -underBinder y2
  extract_lets +onlyGivenNames -merge -useContext -underBinder y3
  try clear_value y3
  extract_lets +onlyGivenNames -merge -useContext -underBinder y4
  have h4 : F.leaves a₀ y4 := by
    refine markFrom_leaves ?_ (Foot.le_trans (by decide) hF)
    exact h0
  try clear_value y4
  refine Foot.ite_leaves ?_ ?_
  · exact h4
  · refine Foot.ite_leaves ?_ ?_
    · refine flagChannels_leaves ?_ (Foot.le_trans (by decide) hF)
      refine setBit_leaves ?_ (Foot.rec_key r0)
      exact h4
    · extract_lets +onlyGivenNames -merge -useContext -underBinder y5
      refine Foot.ite_leaves ?_ ?_
      · refine produce_leaves ?_ (Foot.le_trans (by decide) hF)
        exact h4
      · refine setDly_leaves ?_ (Foot.le_trans (by decide) hF) r0
        exact h4

theorem ecClear_leaves {F : Foot} {a₀ : State} {s : State} {k : Nat} {t : Tick} (h : F.leaves a₀ s) (hF : Foot.le ⟨0x10000, [], [.fab]⟩ F = true) (r0 : F.covers (0x2240 + k)) :
    F.leaves a₀ (ecClear s k t) := by
  unfold ecClear
  extract_lets +onlyGivenNames -merge -useContext -underBinder y0
  extract_lets +onlyGivenNames -merge -useContext -underBinder y1
  extract_lets +onlyGivenNames -merge -useContext -underBinder y2
  try clear_value y2
  extract_lets +onlyGivenNames -merge -useContext -underBinder y3
  have h3 : F.leaves a₀ y3 := by
    refine markFrom_leaves ?_ (Foot.le_trans (by decide) hF)
    exact h
  try clear_value y3
  refine Foot.ite_leaves ?_ ?_
  · exact h3
  · refine modFab_leaves ?_ (Foot.le_trans (by decide) hF)
    refine set_leaves ?_ (Foot.rec_key r0)
    exact h3

theorem ecAdd_leaves {F : Foot} {a₀ : State} {s : State} {k : Nat} {n : Nat} {g : Nat} {t : Tick} (h : F.leaves a₀ s) (hF : Foot.le ⟨0x5000, [0x1220, 0x1221, 0x1222, 0x1223], [.fab, .net, .pcie, .rcd]⟩ F = true) (r0 : F.covers (0x2240 + k)) :
    F.leaves a₀ (ecAdd s k n g t) := by
  unfold ecAdd
  extract_lets +onlyGivenNames -merge -useContext -underBinder y0
  extract_lets +onlyGivenNames -merge -useContext -underBinder y1
  refine Foot.ite_leaves ?_ ?_
  · extract_lets +onlyGivenNames -merge -useContext -underBinder y2
    refine Foot.ite_leaves ?_ ?_
    · refine produce_leaves ?_ (Foot.le_trans (by decide) hF)
      refine set_leaves ?_ (Foot.rec_key r0)
      exact h
    · refine set_leaves ?_ (Foot.rec_key r0)
      exact h
  · extract_lets +onlyGivenNames -merge -useContext -underBinder y3
    extract_lets +onlyGivenNames -merge -useContext -underBinder y4
    have h4 : F.leaves a₀ y4 := by
      refine set_leaves ?_ (Foot.rec_key r0)
      exact h
    try clear_value y4
    refine Foot.ite_leaves ?_ ?_
    · refine produce_leaves ?_ (Foot.le_trans (by decide) hF)
      refine modFab_leaves ?_ (Foot.le_trans (by decide) hF)
      exact h4
    · exact h4

theorem ecInc_leaves {F : Foot} {a₀ : State} {s : State} {k : Nat} {t : Tick} (h : F.leaves a₀ s) (hF : Foot.le ⟨0x5000, [0x1220, 0x1221, 0x1222, 0x1223], [.fab, .net, .pcie, .rcd]⟩ F = true) (r0 : F.covers (0x2240 + k)) :
    F.leaves a₀ (ecInc s k t) := by
  unfold ecInc
  extract_lets +onlyGivenNames -merge -useContext -underBinder y0
  have h0 : F.leaves a₀ y0 := by
    refine ecClear_leaves ?_ (Foot.le_trans (by decide) hF) r0
    exact h
  try clear_value y0
  extract_lets +onlyGivenNames -merge -useContext -underBinder y1
  extract_lets +onlyGivenNames -merge -useContext -underBinder y2
  try clear_value y2
  extract_lets +onlyGivenNames -merge -useContext -underBinder y3
  try clear_value y3
  extract_lets +onlyGivenNames -merge -useContext -underBinder y4
  have h4 : F.leaves a₀ y4 := by
    refine Foot.foldl_leaves ?_ fun z5 i5 h5 => ?_
    · exact h0
    · refine markFrom_leaves ?_ (Foot.le_trans (by decide) hF)
      exact h5
  try clear_value y4
  refine Foot.ite_leaves ?_ ?_
  · exact h4
  · refine Foot.ite_leaves ?_ ?_
    · refine ecAdd_leaves ?_ (Foot.le_trans (by decide) hF) r0
      exact h4
    · extract_lets +onlyGivenNames -merge -useContext -underBinder y6
      have h6 : F.leaves a₀ y6 := by
        refine Foot.ite_leaves ?_ ?_
        · refine flagChannels_leaves ?_ (Foot.le_trans (by decide) hF)
          refine satInc_leaves ?_ (Foot.rec_key r0)
          exact h4
        · exact h4
      try clear_value y6
      refine ecAdd_leaves ?_ (Foot.le_trans (by decide) hF) r0
      exact h6

theorem trigFire_leaves {F : Foot} {a₀ : State} {s : State} {n : Nat} {t : Tick} (h : F.leaves a₀ s) (hF : Foot.le ⟨0x5000, [0x2200], [.fab, .tx]⟩ F = true) :
    F.leaves a₀ (trigFire s n t) := by
  unfold trigFire
  extract_lets +onlyGivenNames -merge -useContext -underBinder y0
  extract_lets +onlyGivenNames -merge -useContext -underBinder y1
  extract_lets +onlyGivenNames -merge -useContext -underBinder y2
  extract_lets +onlyGivenNames -merge -useContext -underBinder y3
  try clear_value y3
  extract_lets +onlyGivenNames -merge -useContext -underBinder y4
  have h4 : F.leaves a₀ y4 := by
    refine markFrom_leaves ?_ (Foot.le_trans (by decide) hF)
    exact h
  try clear_value y4
  refine Foot.ite_leaves ?_ ?_
  · exact h4
  · refine Foot.ite_leaves ?_ ?_
    · refine trigDrive_leaves ?_ (Foot.le_trans (by decide) hF)
      refine setTrigOut_leaves ?_ (Foot.le_trans (by decide) hF)
      exact h4
    · refine Foot.ite_leaves ?_ ?_
      · refine flagChannels_leaves ?_ (Foot.le_trans (by decide) hF)
        refine setBit_leaves ?_ (Foot.rec_const hF (by decide))
        exact h4
      · refine trigDrive_leaves ?_ (Foot.le_trans (by decide) hF)
        refine setTrigBusy_leaves ?_ (Foot.le_trans (by decide) hF)
        refine setTrigOut_leaves ?_ (Foot.le_trans (by decide) hF)
        exact h4

theorem trigPulseDone_leaves {F : Foot} {a₀ : State} {s : State} {n : Nat} {t : Tick} (h : F.leaves a₀ s) (hF : Foot.le ⟨0x10000, [], [.fab, .tx]⟩ F = true) :
    F.leaves a₀ (trigPulseDone s n t) := by
  unfold trigPulseDone
  refine Foot.ite_leaves ?_ ?_
  · refine trigDrive_leaves ?_ (Foot.le_trans (by decide) hF)
    refine setTrigOut_leaves ?_ (Foot.le_trans (by decide) hF)
    exact h
  · exact h

theorem gongPort_leaves {F : Foot} {a₀ : State} {t : Tick} {p : Nat} {s : State} (h : F.leaves a₀ s) (hF : Foot.le ⟨0x5000, [0x1220, 0x1221, 0x1222, 0x1223], [.ports, .micro, .fab, .net, .pcie, .rcd, .tx]⟩ F = true) (r0 : F.covers (0x4000 + p)) :
    F.leaves a₀ (gongPort t p s) := by
  unfold gongPort
  split
  · refine portTask_leaves ?_ (Foot.le_trans (by decide) hF) r0
    exact h
  · exact h

theorem gongAll_leaves {F : Foot} {a₀ : State} {s : State} {t : Tick} (h : F.leaves a₀ s) (hF : Foot.le ⟨0x4000, [0x2200, 0x1220, 0x1221, 0x1222, 0x1223], [.ports, .micro, .fab, .net, .pcie, .rcd, .tx]⟩ F = true) :
    F.leaves a₀ (gongAll s t) := by
  unfold gongAll
  extract_lets +onlyGivenNames -merge -useContext -underBinder y0
  extract_lets +onlyGivenNames -merge -useContext -underBinder y1
  try clear_value y1
  refine Foot.ite_leaves ?_ ?_
  · exact h
  · refine forAll_leaves ?_ fun i2 z2 h2 => ?_
    · refine wrapInc_leaves ?_ (Foot.rec_const hF (by decide))
      refine markFrom_leaves ?_ (Foot.le_trans (by decide) hF)
      exact h
    · refine gongPort_leaves ?_ (Foot.le_trans (by decide) hF) (Foot.rec_floor hF (by decide))
      exact h2

theorem execTrigRise_leaves {F : Foot} {t : Tick} {n : PinId} {s : State} (hF : Foot.le ⟨0x5000, [0x1220, 0x1221, 0x1222, 0x1223], [.fab, .net, .pcie, .rcd]⟩ F = true) :
    ∃ u, execTrigRise t n s = .next u.settle ∧ F.leaves (s.advance t) u := by
  refine ⟨_, rfl, ?_⟩
  have h0 : F.leaves (s.advance t) (s.advance t) := .refl
  generalize s.advance t = a₀ at *
  beta_reduce
  refine trigEdge_leaves ?_ (Foot.le_trans (by decide) hF)
  exact h0

theorem execTrigFall_leaves {F : Foot} {t : Tick} {n : PinId} {s : State} (hF : Foot.le ⟨0x5000, [0x1220, 0x1221, 0x1222, 0x1223], [.fab, .net, .pcie, .rcd]⟩ F = true) :
    ∃ u, execTrigFall t n s = .next u.settle ∧ F.leaves (s.advance t) u := by
  refine ⟨_, rfl, ?_⟩
  have h0 : F.leaves (s.advance t) (s.advance t) := .refl
  generalize s.advance t = a₀ at *
  beta_reduce
  refine trigEdge_leaves ?_ (Foot.le_trans (by decide) hF)
  exact h0

theorem execFire_leaves {F : Foot} {t : Tick} {who : Principal} {e : ChanId} {s : State} (hF : Foot.le ⟨0x10000, [0x8000, 0x1220, 0x1221, 0x1222, 0x1223, 0x2000], [.fab, .net, .pcie, .rcd, .resp]⟩ F = true) (r0 : F.covers (0x5000 + ↑e)) :
    ∃ u, execFire t who e s = .next u.settle ∧ F.leaves (s.advance t) u := by
  refine ⟨_, rfl, ?_⟩
  have h0 : F.leaves (s.advance t) (s.advance t) := .refl
  generalize s.advance t = a₀ at *
  beta_reduce
  refine fireWrite_leaves ?_ (Foot.le_trans (by decide) hF) r0
  exact h0

theorem execTmr_leaves {F : Foot} {t : Tick} {k : TimerId} {s : State} (hF : Foot.le ⟨0x5000, [0x1220, 0x1221, 0x1222, 0x1223], [.fab, .net, .pcie, .rcd]⟩ F = true) :
    ∃ u, execTmr t k s = .next u.settle ∧ F.leaves (s.advance t) u := by
  refine ⟨_, rfl, ?_⟩
  have h0 : F.leaves (s.advance t) (s.advance t) := .refl
  generalize s.advance t = a₀ at *
  beta_reduce
  refine timerFire_leaves ?_ (Foot.le_trans (by decide) hF)
  exact h0

theorem execDlyOut_leaves {F : Foot} {t : Tick} {k : DelayId} {s : State} (hF : Foot.le ⟨0x5000, [0x1220, 0x1221, 0x1222, 0x1223], [.fab, .net, .pcie, .rcd]⟩ F = true) (r0 : F.covers (0x2280 + ↑k)) :
    ∃ u, execDlyOut t k s = .next u.settle ∧ F.leaves (s.advance t) u := by
  refine ⟨_, rfl, ?_⟩
  have h0 : F.leaves (s.advance t) (s.advance t) := .refl
  generalize s.advance t = a₀ at *
  beta_reduce
  refine dlyDone_leaves ?_ (Foot.le_trans (by decide) hF) r0
  exact h0

theorem execDlyFire_leaves {F : Foot} {t : Tick} {k : DelayId} {s : State} (hF : Foot.le ⟨0x5000, [0x1220, 0x1221, 0x1222, 0x1223], [.fab, .net, .pcie, .rcd]⟩ F = true) (r0 : F.covers (0x2280 + ↑k)) :
    ∃ u, execDlyFire t k s = .next u.settle ∧ F.leaves (s.advance t) u := by
  refine ⟨_, rfl, ?_⟩
  have h0 : F.leaves (s.advance t) (s.advance t) := .refl
  generalize s.advance t = a₀ at *
  beta_reduce
  refine dlyFire_leaves ?_ (Foot.le_trans (by decide) hF) r0
  exact h0

theorem execEcInc_leaves {F : Foot} {t : Tick} {k : CounterId} {s : State} (hF : Foot.le ⟨0x5000, [0x1220, 0x1221, 0x1222, 0x1223], [.fab, .net, .pcie, .rcd]⟩ F = true) (r0 : F.covers (0x2240 + ↑k)) :
    ∃ u, execEcInc t k s = .next u.settle ∧ F.leaves (s.advance t) u := by
  refine ⟨_, rfl, ?_⟩
  have h0 : F.leaves (s.advance t) (s.advance t) := .refl
  generalize s.advance t = a₀ at *
  beta_reduce
  refine ecInc_leaves ?_ (Foot.le_trans (by decide) hF) r0
  exact h0

theorem execEcClr_leaves {F : Foot} {t : Tick} {k : CounterId} {s : State} (hF : Foot.le ⟨0x10000, [], [.fab]⟩ F = true) (r0 : F.covers (0x2240 + ↑k)) :
    ∃ u, execEcClr t k s = .next u.settle ∧ F.leaves (s.advance t) u := by
  refine ⟨_, rfl, ?_⟩
  have h0 : F.leaves (s.advance t) (s.advance t) := .refl
  generalize s.advance t = a₀ at *
  beta_reduce
  refine ecClear_leaves ?_ (Foot.le_trans (by decide) hF) r0
  exact h0

theorem execTrigOut_leaves {F : Foot} {t : Tick} {n : PinId} {s : State} (hF : Foot.le ⟨0x5000, [0x2200], [.fab, .tx]⟩ F = true) :
    ∃ u, execTrigOut t n s = .next u.settle ∧ F.leaves (s.advance t) u := by
  refine ⟨_, rfl, ?_⟩
  have h0 : F.leaves (s.advance t) (s.advance t) := .refl
  generalize s.advance t = a₀ at *
  beta_reduce
  refine trigFire_leaves ?_ (Foot.le_trans (by decide) hF)
  exact h0

theorem execTrigPulseEnd_leaves {F : Foot} {t : Tick} {n : PinId} {s : State} (hF : Foot.le ⟨0x10000, [], [.fab, .tx]⟩ F = true) :
    ∃ u, execTrigPulseEnd t n s = .next u.settle ∧ F.leaves (s.advance t) u := by
  refine ⟨_, rfl, ?_⟩
  have h0 : F.leaves (s.advance t) (s.advance t) := .refl
  generalize s.advance t = a₀ at *
  beta_reduce
  refine trigPulseDone_leaves ?_ (Foot.le_trans (by decide) hF)
  exact h0

theorem execGongDelivery_leaves {F : Foot} {t : Tick} {s : State} (hF : Foot.le ⟨0x4000, [0x2200, 0x1220, 0x1221, 0x1222, 0x1223], [.ports, .micro, .fab, .net, .pcie, .rcd, .tx]⟩ F = true) :
    ∃ u, execGongDelivery t s = .next u.settle ∧ F.leaves (s.advance t) u := by
  refine ⟨_, rfl, ?_⟩
  have h0 : F.leaves (s.advance t) (s.advance t) := .refl
  generalize s.advance t = a₀ at *
  beta_reduce
  refine gongAll_leaves ?_ (Foot.le_trans (by decide) hF)
  exact h0

theorem execChEn_leaves {F : Foot} {t : Tick} {who : Principal} {e : ChanId} {v : Nat} {s : State} (hF : Foot.le ⟨0x10000, [0x2000, 0x8000], [.od, .rcd, .nv, .resp]⟩ F = true) (r0 : F.covers (0x5000 + ↑e)) :
    ∃ u, execChEn t who e v s = .next u.settle ∧ F.leaves (s.advance t) u := by
  refine ⟨_, rfl, ?_⟩
  have h0 : F.leaves (s.advance t) (s.advance t) := .refl
  generalize s.advance t = a₀ at *
  beta_reduce
  refine chEnWrite_leaves ?_ (Foot.le_trans (by decide) hF) r0
  exact h0

/-! ### SpadCmd -/

theorem eccBack_leaves {F : Foot} {a₀ : State} {s : State} {a : Nat} (h : F.leaves a₀ s) (hF : Foot.le ⟨0x10000, [], [.mem]⟩ F = true) :
    F.leaves a₀ (eccBack s a) := by
  unfold eccBack
  refine Foot.ite_leaves ?_ ?_
  · refine modMem_leaves ?_ (Foot.le_trans (by decide) hF)
    exact h
  · exact h

theorem regionReady_leaves {F : Foot} {a₀ : State} {s : State} {r : Nat} (h : F.leaves a₀ s) (hF : Foot.le ⟨0x10000, [], []⟩ F = true) (r0 : F.covers (0x2340 + r)) :
    F.leaves a₀ (regionReady s r) := by
  unfold regionReady
  refine Foot.ite_leaves ?_ ?_
  · refine set_leaves ?_ (Foot.rec_key r0)
    exact h
  · exact h

theorem blockReady_leaves {F : Foot} {a₀ : State} {s : State} {r : Nat} (h : F.leaves a₀ s) (hF : Foot.le ⟨0x10000, [], [.groups, .spad, .mem]⟩ F = true) (r0 : F.covers (0x2380 + r)) :
    F.leaves a₀ (blockReady s r) := by
  unfold blockReady
  refine Foot.ite_leaves ?_ ?_
  · refine ringCommit_leaves ?_ (Foot.le_trans (by decide) hF) r0
    exact h
  · exact h

theorem wipeDue_leaves {F : Foot} {a₀ : State} {s : State} {t : Tick} (h : F.leaves a₀ s) (hF : Foot.le ⟨0x1110, [0x1100], [.spad, .mem, .pcie, .tx, .resp]⟩ F = true) :
    F.leaves a₀ (wipeDue s t) := by
  unfold wipeDue
  refine Foot.ite_leaves ?_ ?_
  · extract_lets +onlyGivenNames -merge -useContext -underBinder y0
    have h0 : F.leaves a₀ y0 := by
      refine wipeOver_leaves ?_ (Foot.le_trans (by decide) hF)
      exact h
    try clear_value y0
    refine Foot.foldl_leaves ?_ fun z1 i1 h1 => ?_
    · refine modMem_leaves ?_ (Foot.le_trans (by decide) hF)
      exact h0
    · refine lateDo_leaves ?_ (Foot.le_trans (by decide) hF)
      exact h1
  · exact h

theorem borrowAt_leaves {F : Foot} {a₀ : State} {s : State} {t : Tick} (h : F.leaves a₀ s) (hF : Foot.le ⟨0x10000, [0x2300], [.mem]⟩ F = true) :
    F.leaves a₀ (borrowAt s t) := by
  unfold borrowAt
  refine Foot.ite_leaves ?_ ?_
  · refine borrowStart_leaves ?_ (Foot.le_trans (by decide) hF)
    exact h
  · exact h

theorem copyAt_leaves {F : Foot} {a₀ : State} {s : State} {t : Tick} (h : F.leaves a₀ s) (hF : Foot.le ⟨0x10000, [0x2300], [.blobs, .mem]⟩ F = true) :
    F.leaves a₀ (copyAt s t) := by
  unfold copyAt
  refine Foot.ite_leaves ?_ ?_
  · refine copyEnd_leaves ?_ (Foot.le_trans (by decide) hF)
    exact h
  · exact h

theorem testAt_leaves {F : Foot} {a₀ : State} {s : State} {pass : Bool} {t : Tick} (h : F.leaves a₀ s) (hF : Foot.le ⟨0x10000, [0x2300, 0x9000], [.blobs, .mem, .nv]⟩ F = true) :
    F.leaves a₀ (testAt s pass t) := by
  unfold testAt
  refine Foot.ite_leaves ?_ ?_
  · refine testEnd_leaves ?_ (Foot.le_trans (by decide) hF)
    exact h
  · exact h

theorem writebackAt_leaves {F : Foot} {a₀ : State} {s : State} {t : Tick} (h : F.leaves a₀ s) (hF : Foot.le ⟨0x10000, [0x2300], [.blobs, .mem]⟩ F = true) :
    F.leaves a₀ (writebackAt s t) := by
  unfold writebackAt
  refine Foot.ite_leaves ?_ ?_
  · refine writebackEnd_leaves ?_ (Foot.le_trans (by decide) hF)
    exact h
  · exact h

theorem execFabricAccess_leaves {F : Foot} {t : Tick} {rs : FabLoad} {s : State} (hF : Foot.le ⟨0x2300, [], [.micro, .spad, .mem, .tx]⟩ F = true) :
    ∃ u, execFabricAccess t rs s = .next u.settle ∧ F.leaves (s.advance t) u := by
  refine ⟨_, rfl, ?_⟩
  have h0 : F.leaves (s.advance t) (s.advance t) := .refl
  generalize s.advance t = a₀ at *
  beta_reduce
  refine fabAccess_leaves ?_ (Foot.le_trans (by decide) hF)
  refine Foot.foldl_leaves ?_ fun z1 i1 h1 => ?_
  · exact h0
  · refine upset_leaves ?_ (Foot.le_trans (by decide) hF)
    exact h1

theorem execEccWriteback_leaves {F : Foot} {t : Tick} {a : Nat} {s : State} (hF : Foot.le ⟨0x10000, [], [.mem]⟩ F = true) :
    ∃ u, execEccWriteback t a s = .next u.settle ∧ F.leaves (s.advance t) u := by
  refine ⟨_, rfl, ?_⟩
  have h0 : F.leaves (s.advance t) (s.advance t) := .refl
  generalize s.advance t = a₀ at *
  beta_reduce
  refine eccBack_leaves ?_ (Foot.le_trans (by decide) hF)
  exact h0

theorem execRegionEn_leaves {F : Foot} {t : Tick} {who : Principal} {r : RegionId} {v : Nat} {s : State} (hF : Foot.le ⟨0x10000, [0x2000, 0x8000], [.spad, .mem, .od, .rcd, .nv, .resp]⟩ F = true) (r0 : F.covers (0x2340 + ↑r)) :
    ∃ u, execRegionEn t who r v s = .next u.settle ∧ F.leaves (s.advance t) u := by
  refine ⟨_, rfl, ?_⟩
  have h0 : F.leaves (s.advance t) (s.advance t) := .refl
  generalize s.advance t = a₀ at *
  beta_reduce
  refine regionEnWrite_leaves ?_ (Foot.le_trans (by decide) hF) r0
  exact h0

theorem execRegionZeroDone_leaves {F : Foot} {t : Tick} {r : RegionId} {s : State} (hF : Foot.le ⟨0x10000, [], []⟩ F = true) (r0 : F.covers (0x2340 + ↑r)) :
    ∃ u, execRegionZeroDone t r s = .next u.settle ∧ F.leaves (s.advance t) u := by
  refine ⟨_, rfl, ?_⟩
  have h0 : F.leaves (s.advance t) (s.advance t) := .refl
  generalize s.advance t = a₀ at *
  beta_reduce
  refine regionReady_leaves ?_ (Foot.le_trans (by decide) hF) r0
  exact h0

theorem execRingEn_leaves {F : Foot} {t : Tick} {who : Principal} {r : RingId} {v : Nat} {s : State} (hF : Foot.le ⟨0x10000, [0x2000, 0x8000], [.groups, .spad, .mem, .od, .rcd, .nv, .resp]⟩ F = true) (r0 : F.covers (0x2380 + ↑r)) :
    ∃ u, execRingEn t who r v s = .next u.settle ∧ F.leaves (s.advance t) u := by
  refine ⟨_, rfl, ?_⟩
  have h0 : F.leaves (s.advance t) (s.advance t) := .refl
  generalize s.advance t = a₀ at *
  beta_reduce
  refine ringEnWrite_leaves ?_ (Foot.le_trans (by decide) hF) r0
  exact h0

theorem execRingBlockCommit_leaves {F : Foot} {t : Tick} {r : RingId} {s : State} (hF : Foot.le ⟨0x10000, [], [.groups, .spad, .mem]⟩ F = true) (r0 : F.covers (0x2380 + ↑r)) :
    ∃ u, execRingBlockCommit t r s = .next u.settle ∧ F.leaves (s.advance t) u := by
  refine ⟨_, rfl, ?_⟩
  have h0 : F.leaves (s.advance t) (s.advance t) := .refl
  generalize s.advance t = a₀ at *
  beta_reduce
  refine blockReady_leaves ?_ (Foot.le_trans (by decide) hF) r0
  exact h0

theorem execConsHost_leaves {F : Foot} {t : Tick} {who : Principal} {r : RingId} {v : Nat} {s : State} (hF : Foot.le ⟨0x10000, [0x8000, 0x2000], [.spad, .mem, .rcd, .resp]⟩ F = true) (r0 : F.covers (0x2380 + ↑r)) :
    ∃ u, execConsHost t who r v s = .next u.settle ∧ F.leaves (s.advance t) u := by
  refine ⟨_, rfl, ?_⟩
  have h0 : F.leaves (s.advance t) (s.advance t) := .refl
  generalize s.advance t = a₀ at *
  beta_reduce
  refine consHostWrite_leaves ?_ (Foot.le_trans (by decide) hF) r0
  exact h0

theorem execSapphireWipeEnd_leaves {F : Foot} {t : Tick} {s : State} (hF : Foot.le ⟨0x1110, [0x1100], [.spad, .mem, .pcie, .tx, .resp]⟩ F = true) :
    ∃ u, execSapphireWipeEnd t s = .next u.settle ∧ F.leaves (s.advance t) u := by
  refine ⟨_, rfl, ?_⟩
  have h0 : F.leaves (s.advance t) (s.advance t) := .refl
  generalize s.advance t = a₀ at *
  beta_reduce
  refine wipeDue_leaves ?_ (Foot.le_trans (by decide) hF)
  exact h0

theorem execBtBorrowStart_leaves {F : Foot} {t : Tick} {s : State} (hF : Foot.le ⟨0x10000, [0x2300], [.mem]⟩ F = true) :
    ∃ u, execBtBorrowStart t s = .next u.settle ∧ F.leaves (s.advance t) u := by
  refine ⟨_, rfl, ?_⟩
  have h0 : F.leaves (s.advance t) (s.advance t) := .refl
  generalize s.advance t = a₀ at *
  beta_reduce
  refine borrowAt_leaves ?_ (Foot.le_trans (by decide) hF)
  exact h0

theorem execBtCopyEnd_leaves {F : Foot} {t : Tick} {s : State} (hF : Foot.le ⟨0x10000, [0x2300], [.blobs, .mem]⟩ F = true) :
    ∃ u, execBtCopyEnd t s = .next u.settle ∧ F.leaves (s.advance t) u := by
  refine ⟨_, rfl, ?_⟩
  have h0 : F.leaves (s.advance t) (s.advance t) := .refl
  generalize s.advance t = a₀ at *
  beta_reduce
  refine copyAt_leaves ?_ (Foot.le_trans (by decide) hF)
  exact h0

theorem execBtTestEnd_leaves {F : Foot} {t : Tick} {pass : Bool} {s : State} (hF : Foot.le ⟨0x10000, [0x2300, 0x9000], [.blobs, .mem, .nv]⟩ F = true) :
    ∃ u, execBtTestEnd t pass s = .next u.settle ∧ F.leaves (s.advance t) u := by
  refine ⟨_, rfl, ?_⟩
  have h0 : F.leaves (s.advance t) (s.advance t) := .refl
  generalize s.advance t = a₀ at *
  beta_reduce
  refine testAt_leaves ?_ (Foot.le_trans (by decide) hF)
  exact h0

theorem execBtWritebackEnd_leaves {F : Foot} {t : Tick} {s : State} (hF : Foot.le ⟨0x10000, [0x2300], [.blobs, .mem]⟩ F = true) :
    ∃ u, execBtWritebackEnd t s = .next u.settle ∧ F.leaves (s.advance t) u := by
  refine ⟨_, rfl, ?_⟩
  have h0 : F.leaves (s.advance t) (s.advance t) := .refl
  generalize s.advance t = a₀ at *
  beta_reduce
  refine writebackAt_leaves ?_ (Foot.le_trans (by decide) hF)
  exact h0

theorem execBtRequest_leaves {F : Foot} {t : Tick} {who : Principal} {v : Nat} {s : State} (hF : Foot.le ⟨0x10000, [0x8000, 0x2000], [.mem, .rcd, .resp]⟩ F = true) :
    ∃ u, execBtRequest t who v s = .next u.settle ∧ F.leaves (s.advance t) u := by
  refine ⟨_, rfl, ?_⟩
  have h0 : F.leaves (s.advance t) (s.advance t) := .refl
  generalize s.advance t = a₀ at *
  beta_reduce
  refine btRequestWrite_leaves ?_ (Foot.le_trans (by decide) hF)
  exact h0

/-! ### MonitorCmd -/

theorem supervise_leaves {F : Foot} {a₀ : State} {s : State} {i : Nat} {alt : Bool} {t : Tick} (h : F.leaves a₀ s) (hF : Foot.le ⟨0x10000, [0x2500], [.mc]⟩ F = true) :
    F.leaves a₀ (supervise s i alt t) := by
  unfold supervise
  extract_lets +onlyGivenNames -merge -useContext -underBinder y0
  extract_lets +onlyGivenNames -merge -useContext -underBinder y1
  try clear_value y1
  extract_lets +onlyGivenNames -merge -useContext -underBinder y2
  refine Foot.ite_leaves ?_ ?_
  · exact h
  · extract_lets +onlyGivenNames -merge -useContext -underBinder y3
    try clear_value y3
    refine mcSchedule_leaves ?_ (Foot.le_trans (by decide) hF)
    refine modMc_leaves ?_ (Foot.le_trans (by decide) hF)
    exact h

theorem sampleDue_leaves {F : Foot} {a₀ : State} {s : State} {t : Tick} (h : F.leaves a₀ s) (hF : Foot.le ⟨0x10000, [], [.ports, .mc]⟩ F = true) :
    F.leaves a₀ (sampleDue s t) := by
  unfold sampleDue
  split
  · refine Foot.ite_leaves ?_ ?_
    · refine mcSample_leaves ?_ (Foot.le_trans (by decide) hF)
      exact h
    · exact h
  · exact h

theorem conversionDue_leaves {F : Foot} {a₀ : State} {s : State} {code : Int} {ovf : Bool} {t : Tick} (h : F.leaves a₀ s) (hF : Foot.le ⟨0x2500, [0x2000, 0x2001, 0x1220, 0x1221, 0x1222, 0x1223], [.blobs, .ports, .groups, .slices, .micro, .fab, .mc, .cal, .age, .net, .pcie, .rcd, .pwr, .nv, .tx]⟩ F = true) :
    F.leaves a₀ (conversionDue s code ovf t) := by
  unfold conversionDue
  split
  · refine Foot.ite_leaves ?_ ?_
    · refine mcDone_leaves ?_ (Foot.le_trans (by decide) hF)
      exact h
    · exact h
  · exact h

theorem pauseDue_leaves {F : Foot} {a₀ : State} {s : State} {t : Tick} (h : F.leaves a₀ s) (hF : Foot.le ⟨0x10000, [0x2500], [.mc]⟩ F = true) :
    F.leaves a₀ (pauseDue s t) := by
  unfold pauseDue
  refine Foot.ite_leaves ?_ ?_
  · refine mcKick_leaves ?_ (Foot.le_trans (by decide) hF)
    refine modMc_leaves ?_ (Foot.le_trans (by decide) hF)
    exact h
  · exact h

theorem execSupervisionDue_leaves {F : Foot} {t : Tick} {i : McInput} {alt : Bool} {s : State} (hF : Foot.le ⟨0x10000, [0x2500], [.mc]⟩ F = true) :
    ∃ u, execSupervisionDue t i alt s = .next u.settle ∧ F.leaves (s.advance t) u := by
  refine ⟨_, rfl, ?_⟩
  have h0 : F.leaves (s.advance t) (s.advance t) := .refl
  generalize s.advance t = a₀ at *
  beta_reduce
  refine supervise_leaves ?_ (Foot.le_trans (by decide) hF)
  exact h0

theorem execMcReq_leaves {F : Foot} {t : Tick} {who : Principal} {v : Nat} {s : State} (hF : Foot.le ⟨0x10000, [0x2500, 0x8000, 0x2000], [.mc, .rcd, .resp]⟩ F = true) :
    ∃ u, execMcReq t who v s = .next u.settle ∧ F.leaves (s.advance t) u := by
  refine ⟨_, rfl, ?_⟩
  have h0 : F.leaves (s.advance t) (s.advance t) := .refl
  generalize s.advance t = a₀ at *
  beta_reduce
  refine mcReqWrite_leaves ?_ (Foot.le_trans (by decide) hF)
  exact h0

theorem execMcSamplingInstant_leaves {F : Foot} {t : Tick} {s : State} (hF : Foot.le ⟨0x10000, [], [.ports, .mc]⟩ F = true) :
    ∃ u, execMcSamplingInstant t s = .next u.settle ∧ F.leaves (s.advance t) u := by
  refine ⟨_, rfl, ?_⟩
  have h0 : F.leaves (s.advance t) (s.advance t) := .refl
  generalize s.advance t = a₀ at *
  beta_reduce
  refine sampleDue_leaves ?_ (Foot.le_trans (by decide) hF)
  exact h0

theorem execMcConversionDone_leaves {F : Foot} {t : Tick} {code : BitVec 16} {ovf : Bool} {s : State} (hF : Foot.le ⟨0x2500, [0x2000, 0x2001, 0x1220, 0x1221, 0x1222, 0x1223], [.blobs, .ports, .groups, .slices, .micro, .fab, .mc, .cal, .age, .net, .pcie, .rcd, .pwr, .nv, .tx]⟩ F = true) :
    ∃ u, execMcConversionDone t code ovf s = .next u.settle ∧ F.leaves (s.advance t) u := by
  refine ⟨_, rfl, ?_⟩
  have h0 : F.leaves (s.advance t) (s.advance t) := .refl
  generalize s.advance t = a₀ at *
  beta_reduce
  refine conversionDue_leaves ?_ (Foot.le_trans (by decide) hF)
  exact h0

theorem execMcPauseEnd_leaves {F : Foot} {t : Tick} {s : State} (hF : Foot.le ⟨0x10000, [0x2500], [.mc]⟩ F = true) :
    ∃ u, execMcPauseEnd t s = .next u.settle ∧ F.leaves (s.advance t) u := by
  refine ⟨_, rfl, ?_⟩
  have h0 : F.leaves (s.advance t) (s.advance t) := .refl
  generalize s.advance t = a₀ at *
  beta_reduce
  refine pauseDue_leaves ?_ (Foot.le_trans (by decide) hF)
  exact h0

theorem execMcQueueSpace_leaves {F : Foot} {t : Tick} {r : Fin 3} {s : State} (hF : Foot.le ⟨0x10000, [0x8000, 0x2500], [.mc, .rcd]⟩ F = true) :
    ∃ u, execMcQueueSpace t r s = .next u.settle ∧ F.leaves (s.advance t) u := by
  refine ⟨_, rfl, ?_⟩
  have h0 : F.leaves (s.advance t) (s.advance t) := .refl
  generalize s.advance t = a₀ at *
  beta_reduce
  refine mcKick_leaves ?_ (Foot.le_trans (by decide) hF)
  refine mcRead_leaves ?_ (Foot.le_trans (by decide) hF)
  exact h0

/-! ### CalCmd -/

theorem xferInterval_leaves {F : Foot} {a₀ : State} {s : State} {t : Tick} (h : F.leaves a₀ s) (hF : Foot.le ⟨0x10000, [0x2600], [.cal]⟩ F = true) :
    F.leaves a₀ (xferInterval s t) := by
  unfold xferInterval
  extract_lets +onlyGivenNames -merge -useContext -underBinder y0
  refine Foot.ite_leaves ?_ ?_
  · refine xferRequest_leaves ?_ (Foot.le_trans (by decide) hF)
    exact { h with cal := .inl (Foot.part hF (by decide)) }
  · exact h

theorem calRetry_leaves {F : Foot} {a₀ : State} {s : State} {t : Tick} (h : F.leaves a₀ s) (hF : Foot.le ⟨0x10000, [0x2600], [.cal]⟩ F = true) :
    F.leaves a₀ (calRetry s t) := by
  unfold calRetry
  split
  · refine Foot.ite_leaves ?_ ?_
    · extract_lets +onlyGivenNames -merge -useContext -underBinder u0_0 y0
      have h0 : F.leaves a₀ y0 := by
        exact { h with cal := .inl (Foot.part hF (by decide)) }
      try clear_value y0
      refine Foot.ite_leaves ?_ ?_
      · refine refxGone_leaves ?_ (Foot.le_trans (by decide) hF)
        exact h0
      · refine xferTry_leaves ?_ (Foot.le_trans (by decide) hF)
        exact h0
    · exact h
  · exact h

theorem xferDueStep_leaves {F : Foot} {a₀ : State} {s : State} {d : XferData} {t : Tick} (h : F.leaves a₀ s) (hF : Foot.le ⟨0x3000, [0x2600, 0x2000, 0x2001], [.ports, .groups, .slices, .micro, .cal, .rcd, .pwr, .nv, .tx]⟩ F = true) :
    F.leaves a₀ (xferDueStep s d t) := by
  unfold xferDueStep
  split
  · refine Foot.ite_leaves ?_ ?_
    · refine xferStep_leaves ?_ (Foot.le_trans (by decide) hF)
      exact h
    · exact h
  · exact h

theorem runDueStep_leaves {F : Foot} {a₀ : State} {s : State} {g : Nat} {d : CalData} {t : Tick} (h : F.leaves a₀ s) (hF : Foot.le ⟨0x3000, [0x2600, 0x2000, 0x2001], [.blobs, .ports, .groups, .slices, .micro, .cal, .rcd, .pwr, .nv, .tx]⟩ F = true) :
    F.leaves a₀ (runDueStep s g d t) := by
  unfold runDueStep
  split
  · refine Foot.ite_leaves ?_ ?_
    · refine runStep_leaves ?_ (Foot.le_trans (by decide) hF)
      exact h
    · exact h
  · exact h

theorem rotCondition_leaves {F : Foot} {a₀ : State} {s : State} {g : Nat} {t : Tick} (h : F.leaves a₀ s) (hF : Foot.le ⟨0x3000, [0x2000, 0x2001, 0x2600], [.ports, .groups, .slices, .micro, .cal, .rcd, .pwr, .nv, .tx]⟩ F = true) :
    F.leaves a₀ (rotCondition s g t) := by
  unfold rotCondition
  refine Foot.ite_leaves ?_ ?_
  · refine rotTrigger_leaves ?_ (Foot.le_trans (by decide) hF)
    exact h
  · exact h

theorem gapOver_leaves {F : Foot} {a₀ : State} {s : State} {g : Nat} {t : Tick} (h : F.leaves a₀ s) (hF : Foot.le ⟨0x3000, [0x2000, 0x2001, 0x2600], [.blobs, .ports, .groups, .slices, .micro, .cal, .rcd, .pwr, .nv, .tx]⟩ F = true) :
    F.leaves a₀ (gapOver s g t) := by
  unfold gapOver
  refine Foot.ite_leaves ?_ ?_
  · refine rotKick_leaves ?_ (Foot.le_trans (by decide) hF)
    refine rotBit_leaves ?_ (Foot.le_trans (by decide) hF) (Foot.rec_floor hF (by decide))
    exact h
  · exact h

theorem shadowDue_leaves {F : Foot} {a₀ : State} {s : State} {g : Nat} {t : Tick} (h : F.leaves a₀ s) (hF : Foot.le ⟨0x10000, [], [.cal]⟩ F = true) (r0 : F.covers (0x3000 + g)) :
    F.leaves a₀ (shadowDue s g t) := by
  unfold shadowDue
  refine Foot.ite_leaves ?_ ?_
  · refine syncRot_leaves ?_ (Foot.le_trans (by decide) hF) r0
    refine agreeSpan_leaves ?_ (Foot.le_trans (by decide) hF)
    refine modRot_leaves ?_ (Foot.le_trans (by decide) hF)
    exact h
  · exact h

theorem agreeDue_leaves {F : Foot} {a₀ : State} {s : State} {g : Nat} {dV : Int} {dI : Int} {trip : Bool} {t : Tick} (h : F.leaves a₀ s) (hF : Foot.le ⟨0x3000, [0x2000, 0x2001, 0x2600], [.ports, .groups, .slices, .micro, .cal, .rcd, .pwr, .nv, .tx]⟩ F = true) :
    F.leaves a₀ (agreeDue s g dV dI trip t) := by
  unfold agreeDue
  refine Foot.ite_leaves ?_ ?_
  · refine shadowRearm_leaves ?_ (Foot.le_trans (by decide) hF)
    refine agreeEnd_leaves ?_ (Foot.le_trans (by decide) hF)
    refine when_leaves ?_ fun z0 h0 => ?_
    · exact h
    · refine shadowSaw_leaves ?_ (Foot.le_trans (by decide) hF)
      exact h0
  · exact h

theorem swapDue_leaves {F : Foot} {a₀ : State} {s : State} {g : Nat} {t : Tick} (h : F.leaves a₀ s) (hF : Foot.le ⟨0x10000, [], [.cal]⟩ F = true) :
    F.leaves a₀ (swapDue s g t) := by
  unfold swapDue
  refine Foot.ite_leaves ?_ ?_
  · refine modRot_leaves ?_ (Foot.le_trans (by decide) hF)
    exact h
  · exact h

theorem releaseDue_leaves {F : Foot} {a₀ : State} {s : State} {g : Nat} {t : Tick} (h : F.leaves a₀ s) (hF : Foot.le ⟨0x3000, [], [.slices, .cal, .rcd]⟩ F = true) :
    F.leaves a₀ (releaseDue s g t) := by
  unfold releaseDue
  refine Foot.ite_leaves ?_ ?_
  · refine modRot_leaves ?_ (Foot.le_trans (by decide) hF)
    refine setRole_leaves ?_ (Foot.le_trans (by decide) hF) (Foot.rec_floor hF (by decide)) (Foot.rec_floor hF (by decide))
    exact h
  · exact h

theorem overlapDue_leaves {F : Foot} {a₀ : State} {s : State} {g : Nat} {t : Tick} (h : F.leaves a₀ s) (hF : Foot.le ⟨0x3000, [0x2000, 0x2001, 0x2600], [.blobs, .ports, .groups, .slices, .micro, .cal, .rcd, .pwr, .nv, .tx]⟩ F = true) :
    F.leaves a₀ (overlapDue s g t) := by
  unfold overlapDue
  refine Foot.ite_leaves ?_ ?_
  · refine transferOver_leaves ?_ (Foot.le_trans (by decide) hF)
    exact h
  · exact h

theorem execRefXferReq_leaves {F : Foot} {t : Tick} {who : Principal} {v : Nat} {s : State} (hF : Foot.le ⟨0x10000, [0x2600, 0x8000, 0x2000], [.cal, .rcd, .resp]⟩ F = true) :
    ∃ u, execRefXferReq t who v s = .next u.settle ∧ F.leaves (s.advance t) u := by
  refine ⟨_, rfl, ?_⟩
  have h0 : F.leaves (s.advance t) (s.advance t) := .refl
  generalize s.advance t = a₀ at *
  beta_reduce
  refine refXferWrite_leaves ?_ (Foot.le_trans (by decide) hF)
  exact h0

theorem execRefXferIntervalExpiry_leaves {F : Foot} {t : Tick} {s : State} (hF : Foot.le ⟨0x10000, [0x2600], [.cal]⟩ F = true) :
    ∃ u, execRefXferIntervalExpiry t s = .next u.settle ∧ F.leaves (s.advance t) u := by
  refine ⟨_, rfl, ?_⟩
  have h0 : F.leaves (s.advance t) (s.advance t) := .refl
  generalize s.advance t = a₀ at *
  beta_reduce
  refine xferInterval_leaves ?_ (Foot.le_trans (by decide) hF)
  exact h0

theorem execCalRetryExpiry_leaves {F : Foot} {t : Tick} {s : State} (hF : Foot.le ⟨0x10000, [0x2600], [.cal]⟩ F = true) :
    ∃ u, execCalRetryExpiry t s = .next u.settle ∧ F.leaves (s.advance t) u := by
  refine ⟨_, rfl, ?_⟩
  have h0 : F.leaves (s.advance t) (s.advance t) := .refl
  generalize s.advance t = a₀ at *
  beta_reduce
  refine calRetry_leaves ?_ (Foot.le_trans (by decide) hF)
  exact h0

theorem execXferStepEnd_leaves {F : Foot} {t : Tick} {d : XferData} {s : State} (hF : Foot.le ⟨0x3000, [0x2600, 0x2000, 0x2001], [.ports, .groups, .slices, .micro, .cal, .rcd, .pwr, .nv, .tx]⟩ F = true) :
    ∃ u, execXferStepEnd t d s = .next u.settle ∧ F.leaves (s.advance t) u := by
  refine ⟨_, rfl, ?_⟩
  have h0 : F.leaves (s.advance t) (s.advance t) := .refl
  generalize s.advance t = a₀ at *
  beta_reduce
  refine xferDueStep_leaves ?_ (Foot.le_trans (by decide) hF)
  exact h0

theorem execCalRunStepEnd_leaves {F : Foot} {t : Tick} {g : GroupId} {d : CalData} {s : State} (hF : Foot.le ⟨0x3000, [0x2600, 0x2000, 0x2001], [.blobs, .ports, .groups, .slices, .micro, .cal, .rcd, .pwr, .nv, .tx]⟩ F = true) :
    ∃ u, execCalRunStepEnd t g d s = .next u.settle ∧ F.leaves (s.advance t) u := by
  refine ⟨_, rfl, ?_⟩
  have h0 : F.leaves (s.advance t) (s.advance t) := .refl
  generalize s.advance t = a₀ at *
  beta_reduce
  refine runDueStep_leaves ?_ (Foot.le_trans (by decide) hF)
  exact h0

theorem execRecordCommitDone_leaves {F : Foot} {t : Tick} {ok : Bool} {s : State} (hF : Foot.le ⟨0x3000, [0x2000, 0x2001, 0x2600], [.blobs, .ports, .groups, .slices, .micro, .cal, .age, .rcd, .pwr, .nv, .tx]⟩ F = true) :
    ∃ u, execRecordCommitDone t ok s = .next u.settle ∧ F.leaves (s.advance t) u := by
  refine ⟨_, rfl, ?_⟩
  have h0 : F.leaves (s.advance t) (s.advance t) := .refl
  generalize s.advance t = a₀ at *
  beta_reduce
  refine commitEnd_leaves ?_ (Foot.le_trans (by decide) hF)
  exact h0

theorem execRotTrigger_leaves {F : Foot} {t : Tick} {g : GroupId} {s : State} (hF : Foot.le ⟨0x3000, [0x2000, 0x2001, 0x2600], [.ports, .groups, .slices, .micro, .cal, .rcd, .pwr, .nv, .tx]⟩ F = true) :
    ∃ u, execRotTrigger t g s = .next u.settle ∧ F.leaves (s.advance t) u := by
  refine ⟨_, rfl, ?_⟩
  have h0 : F.leaves (s.advance t) (s.advance t) := .refl
  generalize s.advance t = a₀ at *
  beta_reduce
  refine rotCondition_leaves ?_ (Foot.le_trans (by decide) hF)
  exact h0

theorem execRotRequest_leaves {F : Foot} {t : Tick} {who : Principal} {g : GroupId} {v : Nat} {s : State} (hF : Foot.le ⟨0x3000, [0x2000, 0x2001, 0x2600], [.ports, .groups, .slices, .micro, .cal, .rcd, .pwr, .nv, .tx, .resp]⟩ F = true) :
    ∃ u, execRotRequest t who g v s = .next u.settle ∧ F.leaves (s.advance t) u := by
  refine ⟨_, rfl, ?_⟩
  have h0 : F.leaves (s.advance t) (s.advance t) := .refl
  generalize s.advance t = a₀ at *
  beta_reduce
  refine rotRequestWrite_leaves ?_ (Foot.le_trans (by decide) hF)
  exact h0

theorem execRotMinGapEnd_leaves {F : Foot} {t : Tick} {g : GroupId} {s : State} (hF : Foot.le ⟨0x3000, [0x2000, 0x2001, 0x2600], [.blobs, .ports, .groups, .slices, .micro, .cal, .rcd, .pwr, .nv, .tx]⟩ F = true) :
    ∃ u, execRotMinGapEnd t g s = .next u.settle ∧ F.leaves (s.advance t) u := by
  refine ⟨_, rfl, ?_⟩
  have h0 : F.leaves (s.advance t) (s.advance t) := .refl
  generalize s.advance t = a₀ at *
  beta_reduce
  refine gapOver_leaves ?_ (Foot.le_trans (by decide) hF)
  exact h0

theorem execRotShadowEnd_leaves {F : Foot} {t : Tick} {g : GroupId} {s : State} (hF : Foot.le ⟨0x10000, [], [.cal]⟩ F = true) (r0 : F.covers (0x3000 + ↑g)) :
    ∃ u, execRotShadowEnd t g s = .next u.settle ∧ F.leaves (s.advance t) u := by
  refine ⟨_, rfl, ?_⟩
  have h0 : F.leaves (s.advance t) (s.advance t) := .refl
  generalize s.advance t = a₀ at *
  beta_reduce
  refine shadowDue_leaves ?_ (Foot.le_trans (by decide) hF) r0
  exact h0

theorem execAgreeTestEnd_leaves {F : Foot} {t : Tick} {g : GroupId} {dV : Int} {dI : Int} {trip : Bool} {s : State} (hF : Foot.le ⟨0x3000, [0x2000, 0x2001, 0x2600], [.ports, .groups, .slices, .micro, .cal, .rcd, .pwr, .nv, .tx]⟩ F = true) :
    ∃ u, execAgreeTestEnd t g dV dI trip s = .next u.settle ∧ F.leaves (s.advance t) u := by
  refine ⟨_, rfl, ?_⟩
  have h0 : F.leaves (s.advance t) (s.advance t) := .refl
  generalize s.advance t = a₀ at *
  beta_reduce
  refine agreeDue_leaves ?_ (Foot.le_trans (by decide) hF)
  exact h0

theorem execTransferSwap_leaves {F : Foot} {t : Tick} {g : GroupId} {s : State} (hF : Foot.le ⟨0x10000, [], [.cal]⟩ F = true) :
    ∃ u, execTransferSwap t g s = .next u.settle ∧ F.leaves (s.advance t) u := by
  refine ⟨_, rfl, ?_⟩
  have h0 : F.leaves (s.advance t) (s.advance t) := .refl
  generalize s.advance t = a₀ at *
  beta_reduce
  refine swapDue_leaves ?_ (Foot.le_trans (by decide) hF)
  exact h0

theorem execTransferRelease_leaves {F : Foot} {t : Tick} {g : GroupId} {s : State} (hF : Foot.le ⟨0x3000, [], [.slices, .cal, .rcd]⟩ F = true) :
    ∃ u, execTransferRelease t g s = .next u.settle ∧ F.leaves (s.advance t) u := by
  refine ⟨_, rfl, ?_⟩
  have h0 : F.leaves (s.advance t) (s.advance t) := .refl
  generalize s.advance t = a₀ at *
  beta_reduce
  refine releaseDue_leaves ?_ (Foot.le_trans (by decide) hF)
  exact h0

theorem execTransferEnd_leaves {F : Foot} {t : Tick} {g : GroupId} {s : State} (hF : Foot.le ⟨0x3000, [0x2000, 0x2001, 0x2600], [.blobs, .ports, .groups, .slices, .micro, .cal, .rcd, .pwr, .nv, .tx]⟩ F = true) :
    ∃ u, execTransferEnd t g s = .next u.settle ∧ F.leaves (s.advance t) u := by
  refine ⟨_, rfl, ?_⟩
  have h0 : F.leaves (s.advance t) (s.advance t) := .refl
  generalize s.advance t = a₀ at *
  beta_reduce
  refine overlapDue_leaves ?_ (Foot.le_trans (by decide) hF)
  exact h0

/-! ### AgeCmd -/

theorem stressDue_leaves {F : Foot} {a₀ : State} {s : State} {t : Tick} (h : F.leaves a₀ s) (hF : Foot.le ⟨0x4100, [], [.slices, .age]⟩ F = true) :
    F.leaves a₀ (stressDue s t) := by
  have key : ∀ y, F.leaves a₀ y → F.leaves a₀ (({ y with age := { y.age with stressAt := y.age.stressAt + Sys2Proof.sec } } : State).lifeUsed) :=
    fun y hy => lifeUsed_leaves { hy with age := .inl (Foot.part hF (by decide)) } (Foot.le_trans (by decide) hF)
  have h0 : F.leaves a₀ ((List.range 144).foldl stressSlice s) :=
    Foot.foldl_leaves h fun z i hz => stressSlice_leaves hz (Foot.le_trans (by decide) hF) (Foot.rec_floor hF (by decide))
  unfold stressDue
  generalize (List.range 144).foldl stressSlice s = y0 at *
  exact Foot.ite_leaves (key _ h0) h

theorem ringOsc_leaves {F : Foot} {a₀ : State} {s : State} {i : Nat} {ro : Nat} (h : F.leaves a₀ s) (hF : Foot.le ⟨0x10000, [], [.slices]⟩ F = true) (r0 : F.covers (0x4100 + i)) :
    F.leaves a₀ (ringOsc s i ro) := by
  unfold ringOsc
  extract_lets +onlyGivenNames -merge -useContext -underBinder y0
  try clear_value y0
  extract_lets +onlyGivenNames -merge -useContext -underBinder y1
  have h1 : F.leaves a₀ y1 := by
    refine modSx_leaves ?_ (Foot.le_trans (by decide) hF)
    exact h
  try clear_value y1
  refine Foot.ite_leaves ?_ ?_
  · refine setQ_leaves ?_ (Foot.rec_key r0)
    exact h1
  · exact h1

theorem healthDue_leaves {F : Foot} {a₀ : State} {s : State} {ro : List Nat} {t : Tick} (h : F.leaves a₀ s) (hF : Foot.le ⟨0x3000, [], [.slices, .age, .rcd]⟩ F = true) :
    F.leaves a₀ (healthDue s ro t) := by
  have h0 : F.leaves a₀ ((List.range 144).foldl (fun (s : State) i => if s.roleOf i = 4 then s else (match ro[i]? with | some r => s.ringOsc i r | none => s).evaluate i) s) :=
    Foot.foldl_leaves h fun z i hz => Foot.ite_leaves hz
      (evaluate_leaves (by
          split
          · exact ringOsc_leaves hz (Foot.le_trans (by decide) hF) (Foot.rec_floor hF (by decide))
          · exact hz)
        (Foot.le_trans (by decide) hF) (Foot.rec_floor hF (by decide)))
  have h2 : ∀ y, F.leaves a₀ y → F.leaves a₀ ((List.range 16).foldl (fun (s : State) g => s.groupPlan g) y) := fun y hy =>
    Foot.foldl_leaves hy fun z i hz => groupPlan_leaves hz (Foot.le_trans (by decide) hF) (Foot.rec_floor hF (by decide))
  have key : ∀ y, F.leaves a₀ y → F.leaves a₀ { y with age := { y.age with evalAt := t } } :=
    fun y hy => { hy with age := .inl (Foot.part hF (by decide)) }
  unfold healthDue
  generalize (List.range 144).foldl (fun (s : State) i => if s.roleOf i = 4 then s else (match ro[i]? with | some r => s.ringOsc i r | none => s).evaluate i) s = y0 at *
  have h2 := h2 y0 h0
  dsimp only
  generalize (List.range 16).foldl (fun (s : State) g => s.groupPlan g) y0 = y1 at *
  exact Foot.ite_leaves (key _ h2) h

theorem healthCommit_leaves {F : Foot} {a₀ : State} {s : State} {i : Nat} {t : Tick} (h : F.leaves a₀ s) (hF : Foot.le ⟨0x10000, [], [.nv]⟩ F = true) :
    F.leaves a₀ (healthCommit s i t) := by
  unfold healthCommit
  refine Foot.ite_leaves ?_ ?_
  · refine requestCommit_leaves ?_ (Foot.le_trans (by decide) hF)
    exact h
  · exact h

theorem noticeDue_leaves {F : Foot} {a₀ : State} {s : State} {g : Nat} {t : Tick} (h : F.leaves a₀ s) (hF : Foot.le ⟨0x3000, [], [.ports, .groups, .slices, .micro, .cal, .rcd, .tx]⟩ F = true) :
    F.leaves a₀ (noticeDue s g t) := by
  unfold noticeDue
  extract_lets +onlyGivenNames -merge -useContext -underBinder y0
  try clear_value y0
  refine Foot.ite_leaves ?_ ?_
  · extract_lets +onlyGivenNames -merge -useContext -underBinder y1
    have h1 : F.leaves a₀ y1 := by
      refine set_leaves ?_ (Foot.rec_key (Foot.rec_floor hF (by decide)))
      exact h
    try clear_value y1
    refine Foot.ite_leaves ?_ ?_
    · refine winAlign_leaves ?_ (Foot.le_trans (by decide) hF)
      exact h1
    · exact h1
  · exact h

theorem voteDue_leaves {F : Foot} {a₀ : State} {s : State} {d0 : Int} {d1 : Int} {t : Tick} (h : F.leaves a₀ s) (hF : Foot.le ⟨0x3000, [0x2600, 0x2000, 0x2001], [.blobs, .ports, .groups, .slices, .micro, .cal, .age, .rcd, .pwr, .nv, .tx]⟩ F = true) :
    F.leaves a₀ (voteDue s d0 d1 t) := by
  unfold voteDue
  split
  · refine Foot.ite_leaves ?_ ?_
    · refine voteEnd_leaves ?_ (Foot.le_trans (by decide) hF)
      exact h
    · exact h
  · exact h

theorem coreLost_leaves {F : Foot} {a₀ : State} {s : State} {c : Nat} {t : Tick} (h : F.leaves a₀ s) (hF : Foot.le ⟨0x0, [], [.now, .blobs, .ports, .groups, .slices, .micro, .fab, .scan, .tb, .spad, .mem, .mc, .cal, .age, .od, .net, .pcie, .rcd, .pwr, .fwx, .rail, .sec, .nv, .tx, .resp]⟩ F = true) :
    F.leaves a₀ (coreLost s c t) := by
  unfold coreLost
  refine Foot.ite_leaves ?_ ?_
  · refine when_leaves ?_ fun z0 h0 => ?_
    · refine coreFailed_leaves ?_ (Foot.le_trans (by decide) hF)
      exact h
    · refine heldAbort_leaves ?_ (Foot.le_trans (by decide) hF)
      exact h0
  · exact h

theorem takeoverDone_leaves {F : Foot} {a₀ : State} {s : State} {t : Tick} (h : F.leaves a₀ s) (hF : Foot.le ⟨0x10000, [0x9000], [.blobs, .age, .nv]⟩ F = true) :
    F.leaves a₀ (takeoverDone s t) := by
  unfold takeoverDone
  split
  · refine coreTaken_leaves ?_ (Foot.le_trans (by decide) hF)
    exact h
  · exact h

theorem execStressAccrue_leaves {F : Foot} {t : Tick} {s : State} (hF : Foot.le ⟨0x4100, [], [.slices, .age]⟩ F = true) :
    ∃ u, execStressAccrue t s = .next u.settle ∧ F.leaves (s.advance t) u := by
  refine ⟨_, rfl, ?_⟩
  have h0 : F.leaves (s.advance t) (s.advance t) := .refl
  generalize s.advance t = a₀ at *
  beta_reduce
  refine stressDue_leaves ?_ (Foot.le_trans (by decide) hF)
  exact h0

theorem execHealthEval_leaves {F : Foot} {t : Tick} {ro : List Nat} {s : State} (hF : Foot.le ⟨0x3000, [], [.slices, .age, .rcd]⟩ F = true) :
    ∃ u, execHealthEval t ro s = .next u.settle ∧ F.leaves (s.advance t) u := by
  refine ⟨_, rfl, ?_⟩
  have h0 : F.leaves (s.advance t) (s.advance t) := .refl
  generalize s.advance t = a₀ at *
  beta_reduce
  refine healthDue_leaves ?_ (Foot.le_trans (by decide) hF)
  exact h0

theorem execHealthCommitDue_leaves {F : Foot} {t : Tick} {i : SliceId} {s : State} (hF : Foot.le ⟨0x10000, [], [.nv]⟩ F = true) :
    ∃ u, execHealthCommitDue t i s = .next u.settle ∧ F.leaves (s.advance t) u := by
  refine ⟨_, rfl, ?_⟩
  have h0 : F.leaves (s.advance t) (s.advance t) := .refl
  generalize s.advance t = a₀ at *
  beta_reduce
  refine healthCommit_leaves ?_ (Foot.le_trans (by decide) hF)
  exact h0

theorem execWornReq_leaves {F : Foot} {t : Tick} {who : Principal} {i : SliceId} {v : Nat} {s : State} (hF : Foot.le ⟨0x10000, [0x8000, 0x2000], [.slices, .rcd, .resp]⟩ F = true) :
    ∃ u, execWornReq t who i v s = .next u.settle ∧ F.leaves (s.advance t) u := by
  refine ⟨_, rfl, ?_⟩
  have h0 : F.leaves (s.advance t) (s.advance t) := .refl
  generalize s.advance t = a₀ at *
  beta_reduce
  refine wornReqWrite_leaves ?_ (Foot.le_trans (by decide) hF)
  exact h0

theorem execWinNoticeEnd_leaves {F : Foot} {t : Tick} {g : GroupId} {s : State} (hF : Foot.le ⟨0x3000, [], [.ports, .groups, .slices, .micro, .cal, .rcd, .tx]⟩ F = true) :
    ∃ u, execWinNoticeEnd t g s = .next u.settle ∧ F.leaves (s.advance t) u := by
  refine ⟨_, rfl, ?_⟩
  have h0 : F.leaves (s.advance t) (s.advance t) := .refl
  generalize s.advance t = a₀ at *
  beta_reduce
  refine noticeDue_leaves ?_ (Foot.le_trans (by decide) hF)
  exact h0

theorem execGo_leaves {F : Foot} {t : Tick} {who : Principal} {p : PortId} {s : State} (hF : Foot.le ⟨0x2380, [0x1220, 0x1221, 0x1222, 0x1223, 0x2000, 0x2001], [.blobs, .ports, .groups, .slices, .micro, .fab, .scan, .spad, .mem, .mc, .cal, .od, .net, .pcie, .rcd, .pwr, .nv, .tx, .resp]⟩ F = true) :
    ∃ u, execGo t who p s = .next u.settle ∧ F.leaves (s.advance t) u := by
  refine ⟨_, rfl, ?_⟩
  have h0 : F.leaves (s.advance t) (s.advance t) := .refl
  generalize s.advance t = a₀ at *
  beta_reduce
  refine winCtrl_leaves ?_ (Foot.le_trans (by decide) hF)
  exact h0

theorem execWinAbort_leaves {F : Foot} {t : Tick} {who : Principal} {p : PortId} {s : State} (hF : Foot.le ⟨0x2380, [0x1220, 0x1221, 0x1222, 0x1223, 0x2000, 0x2001], [.blobs, .ports, .groups, .slices, .micro, .fab, .scan, .spad, .mem, .mc, .cal, .od, .net, .pcie, .rcd, .pwr, .nv, .tx, .resp]⟩ F = true) :
    ∃ u, execWinAbort t who p s = .next u.settle ∧ F.leaves (s.advance t) u := by
  refine ⟨_, rfl, ?_⟩
  have h0 : F.leaves (s.advance t) (s.advance t) := .refl
  generalize s.advance t = a₀ at *
  beta_reduce
  refine winCtrl_leaves ?_ (Foot.le_trans (by decide) hF)
  exact h0

theorem execVoteWarmupEnd_leaves {F : Foot} {t : Tick} {d0 : Int} {d1 : Int} {s : State} (hF : Foot.le ⟨0x3000, [0x2600, 0x2000, 0x2001], [.blobs, .ports, .groups, .slices, .micro, .cal, .age, .rcd, .pwr, .nv, .tx]⟩ F = true) :
    ∃ u, execVoteWarmupEnd t d0 d1 s = .next u.settle ∧ F.leaves (s.advance t) u := by
  refine ⟨_, rfl, ?_⟩
  have h0 : F.leaves (s.advance t) (s.advance t) := .refl
  generalize s.advance t = a₀ at *
  beta_reduce
  refine voteDue_leaves ?_ (Foot.le_trans (by decide) hF)
  exact h0

theorem execHeartbeatMiss_leaves {F : Foot} {t : Tick} {c : Fin 6} {s : State} (hF : Foot.le ⟨0x0, [], [.now, .blobs, .ports, .groups, .slices, .micro, .fab, .scan, .tb, .spad, .mem, .mc, .cal, .age, .od, .net, .pcie, .rcd, .pwr, .fwx, .rail, .sec, .nv, .tx, .resp]⟩ F = true) :
    ∃ u, execHeartbeatMiss t c s = .next u.settle ∧ F.leaves (s.advance t) u := by
  refine ⟨_, rfl, ?_⟩
  have h0 : F.leaves (s.advance t) (s.advance t) := .refl
  generalize s.advance t = a₀ at *
  beta_reduce
  refine coreLost_leaves ?_ (Foot.le_trans (by decide) hF)
  exact h0

theorem execCoreFault_leaves {F : Foot} {t : Tick} {c : Fin 6} {s : State} (hF : Foot.le ⟨0x0, [], [.now, .blobs, .ports, .groups, .slices, .micro, .fab, .scan, .tb, .spad, .mem, .mc, .cal, .age, .od, .net, .pcie, .rcd, .pwr, .fwx, .rail, .sec, .nv, .tx, .resp]⟩ F = true) :
    ∃ u, execCoreFault t c s = .next u.settle ∧ F.leaves (s.advance t) u := by
  refine ⟨_, rfl, ?_⟩
  have h0 : F.leaves (s.advance t) (s.advance t) := .refl
  generalize s.advance t = a₀ at *
  beta_reduce
  refine coreLost_leaves ?_ (Foot.le_trans (by decide) hF)
  exact h0

theorem execCoreTakeoverDone_leaves {F : Foot} {t : Tick} {s : State} (hF : Foot.le ⟨0x10000, [0x9000], [.blobs, .age, .nv]⟩ F = true) :
    ∃ u, execCoreTakeoverDone t s = .next u.settle ∧ F.leaves (s.advance t) u := by
  refine ⟨_, rfl, ?_⟩
  have h0 : F.leaves (s.advance t) (s.advance t) := .refl
  generalize s.advance t = a₀ at *
  beta_reduce
  refine takeoverDone_leaves ?_ (Foot.le_trans (by decide) hF)
  exact h0

/-! ### PcieCmd -/

theorem fnFlr_leaves {F : Foot} {a₀ : State} {s : State} {f : Nat} {t : Tick} (h : F.leaves a₀ s) (hF : Foot.le ⟨0x1110, [0x1100], [.groups, .mem, .pcie, .tx]⟩ F = true) :
    F.leaves a₀ (fnFlr s f t) := by
  unfold fnFlr
  refine Foot.ite_leaves ?_ ?_
  · refine fnReset_leaves ?_ (Foot.le_trans (by decide) hF)
    refine vfOff_leaves ?_ (Foot.le_trans (by decide) hF)
    exact h
  · refine Foot.ite_leaves ?_ ?_
    · refine fnReset_leaves ?_ (Foot.le_trans (by decide) hF)
      exact h
    · exact h

theorem fnDown_leaves {F : Foot} {a₀ : State} {s : State} {f : Nat} {t : Tick} (h : F.leaves a₀ s) (hF : Foot.le ⟨0x1110, [], [.pcie, .tx]⟩ F = true) :
    F.leaves a₀ (fnDown s f t) := by
  unfold fnDown
  refine Foot.ite_leaves ?_ ?_
  · refine fnSleep_leaves ?_ (Foot.le_trans (by decide) hF)
    exact h
  · exact h

theorem fnWake_leaves {F : Foot} {a₀ : State} {s : State} {f : Nat} (h : F.leaves a₀ s) (hF : Foot.le ⟨0x10000, [], [.pcie]⟩ F = true) :
    F.leaves a₀ (fnWake s f) := by
  unfold fnWake
  refine Foot.ite_leaves ?_ ?_
  · refine modFn_leaves ?_ (Foot.le_trans (by decide) hF)
    exact h
  · exact h

theorem linkUp_leaves {F : Foot} {a₀ : State} {s : State} {speed : Nat} {width : Nat} (h : F.leaves a₀ s) (hF : Foot.le ⟨0x10000, [0x1100], []⟩ F = true) :
    F.leaves a₀ (linkUp s speed width) := by
  unfold linkUp
  refine Foot.ite_leaves ?_ ?_
  · refine set_leaves ?_ (Foot.rec_const hF (by decide))
    refine set_leaves ?_ (Foot.rec_const hF (by decide))
    exact h
  · exact h

theorem vfSet_leaves {F : Foot} {a₀ : State} {s : State} {n : Nat} {t : Tick} (h : F.leaves a₀ s) (hF : Foot.le ⟨0x1110, [0x1100], [.groups, .mem, .pcie, .tx]⟩ F = true) :
    F.leaves a₀ (vfSet s n t) := by
  unfold vfSet
  refine Foot.ite_leaves ?_ ?_
  · exact h
  · refine Foot.ite_leaves ?_ ?_
    · refine vfOff_leaves ?_ (Foot.le_trans (by decide) hF)
      exact h
    · refine set_leaves ?_ (Foot.rec_const hF (by decide))
      refine Foot.ite_leaves ?_ ?_
      · exact h
      · refine vfOff_leaves ?_ (Foot.le_trans (by decide) hF)
        exact h

theorem execWinLoRead_leaves {F : Foot} {t : Tick} {f : FnId} {spad : Bool} {off : Nat} {k : RdKind} {s : State} (hF : Foot.le ⟨0x10000, [0x1100, 0x2300], [.mem, .pcie, .tx]⟩ F = true) :
    ∃ u, execWinLoRead t f spad off k s = .next u.settle ∧ F.leaves (s.advance t) u := by
  refine ⟨_, rfl, ?_⟩
  have h0 : F.leaves (s.advance t) (s.advance t) := .refl
  generalize s.advance t = a₀ at *
  beta_reduce
  refine winRead_leaves ?_ (Foot.le_trans (by decide) hF)
  exact h0

theorem execWinLoWrite_leaves {F : Foot} {t : Tick} {f : FnId} {spad : Bool} {off : Nat} {v : BitVec 32} {s : State} (hF : Foot.le ⟨0x0, [], [.now, .blobs, .ports, .groups, .slices, .micro, .fab, .scan, .tb, .spad, .mem, .mc, .cal, .od, .net, .pcie, .rcd, .pwr, .fwx, .rail, .sec, .nv, .tx, .resp]⟩ F = true) :
    ∃ u, execWinLoWrite t f spad off v s = .next u.settle ∧ F.leaves (s.advance t) u := by
  refine ⟨_, rfl, ?_⟩
  have h0 : F.leaves (s.advance t) (s.advance t) := .refl
  generalize s.advance t = a₀ at *
  beta_reduce
  refine winLoWriteReq_leaves ?_ (Foot.le_trans (by decide) hF)
  exact h0

theorem execWinHiWrite_leaves {F : Foot} {t : Tick} {f : FnId} {spad : Bool} {off : Nat} {v : BitVec 32} {s : State} (hF : Foot.le ⟨0x0, [], [.now, .blobs, .ports, .groups, .slices, .micro, .fab, .scan, .tb, .spad, .mem, .mc, .cal, .od, .net, .pcie, .rcd, .pwr, .fwx, .rail, .sec, .nv, .tx, .resp]⟩ F = true) :
    ∃ u, execWinHiWrite t f spad off v s = .next u.settle ∧ F.leaves (s.advance t) u := by
  refine ⟨_, rfl, ?_⟩
  have h0 : F.leaves (s.advance t) (s.advance t) := .refl
  generalize s.advance t = a₀ at *
  beta_reduce
  refine winHiWriteReq_leaves ?_ (Foot.le_trans (by decide) hF)
  exact h0

theorem execWinSpadWrite_leaves {F : Foot} {t : Tick} {f : FnId} {a : Nat} {v : W64} {s : State} (hF : Foot.le ⟨0x10000, [0x1100, 0x2300], [.spad, .mem, .tx]⟩ F = true) :
    ∃ u, execWinSpadWrite t f a v s = .next u.settle ∧ F.leaves (s.advance t) u := by
  refine ⟨_, rfl, ?_⟩
  have h0 : F.leaves (s.advance t) (s.advance t) := .refl
  generalize s.advance t = a₀ at *
  beta_reduce
  refine hostRun_leaves ?_ (Foot.le_trans (by decide) hF) fun z1 h1 => ?_
  · exact h0
  · refine spadPosted_leaves ?_ (Foot.le_trans (by decide) hF)
    exact h1

theorem execDirectWrite_leaves {F : Foot} {t : Tick} {f : FnId} {off : Nat} {k : WrKind} {v : W64} {s : State} (hF : Foot.le ⟨0x0, [], [.now, .blobs, .ports, .groups, .slices, .micro, .fab, .scan, .tb, .spad, .mem, .mc, .cal, .od, .net, .pcie, .rcd, .pwr, .fwx, .rail, .sec, .nv, .tx, .resp]⟩ F = true) :
    ∃ u, execDirectWrite t f off k v s = .next u.settle ∧ F.leaves (s.advance t) u := by
  refine ⟨_, rfl, ?_⟩
  have h0 : F.leaves (s.advance t) (s.advance t) := .refl
  generalize s.advance t = a₀ at *
  beta_reduce
  refine directWriteReq_leaves ?_ (Foot.le_trans (by decide) hF)
  exact h0

theorem execFetchadd_leaves {F : Foot} {t : Tick} {f : FnId} {spad : Bool} {off : Nat} {x : W64} {s : State} (hF : Foot.le ⟨0x10000, [0x1100, 0x2300], [.spad, .mem, .tx]⟩ F = true) :
    ∃ u, execFetchadd t f spad off x s = .next u.settle ∧ F.leaves (s.advance t) u := by
  refine ⟨_, rfl, ?_⟩
  have h0 : F.leaves (s.advance t) (s.advance t) := .refl
  generalize s.advance t = a₀ at *
  beta_reduce
  refine atomicReq_leaves ?_ (Foot.le_trans (by decide) hF)
  exact h0

theorem execSwap_leaves {F : Foot} {t : Tick} {f : FnId} {spad : Bool} {off : Nat} {x : W64} {s : State} (hF : Foot.le ⟨0x10000, [0x1100, 0x2300], [.spad, .mem, .tx]⟩ F = true) :
    ∃ u, execSwap t f spad off x s = .next u.settle ∧ F.leaves (s.advance t) u := by
  refine ⟨_, rfl, ?_⟩
  have h0 : F.leaves (s.advance t) (s.advance t) := .refl
  generalize s.advance t = a₀ at *
  beta_reduce
  refine atomicReq_leaves ?_ (Foot.le_trans (by decide) hF)
  exact h0

theorem execPcieReset_leaves {F : Foot} {t : Tick} {s : State} (hF : Foot.le ⟨0x1110, [0x1100], [.groups, .mem, .pcie, .tx]⟩ F = true) :
    ∃ u, execPcieReset t s = .next u.settle ∧ F.leaves (s.advance t) u := by
  refine ⟨_, rfl, ?_⟩
  have h0 : F.leaves (s.advance t) (s.advance t) := .refl
  generalize s.advance t = a₀ at *
  beta_reduce
  refine pcieDown_leaves ?_ (Foot.le_trans (by decide) hF)
  exact h0

theorem execFlr_leaves {F : Foot} {t : Tick} {f : FnId} {s : State} (hF : Foot.le ⟨0x1110, [0x1100], [.groups, .mem, .pcie, .tx]⟩ F = true) :
    ∃ u, execFlr t f s = .next u.settle ∧ F.leaves (s.advance t) u := by
  refine ⟨_, rfl, ?_⟩
  have h0 : F.leaves (s.advance t) (s.advance t) := .refl
  generalize s.advance t = a₀ at *
  beta_reduce
  refine fnFlr_leaves ?_ (Foot.le_trans (by decide) hF)
  exact h0

theorem execD3hot_leaves {F : Foot} {t : Tick} {f : FnId} {s : State} (hF : Foot.le ⟨0x1110, [], [.pcie, .tx]⟩ F = true) :
    ∃ u, execD3hot t f s = .next u.settle ∧ F.leaves (s.advance t) u := by
  refine ⟨_, rfl, ?_⟩
  have h0 : F.leaves (s.advance t) (s.advance t) := .refl
  generalize s.advance t = a₀ at *
  beta_reduce
  refine fnDown_leaves ?_ (Foot.le_trans (by decide) hF)
  exact h0

theorem execD0Entry_leaves {F : Foot} {t : Tick} {f : FnId} {s : State} (hF : Foot.le ⟨0x10000, [], [.pcie]⟩ F = true) :
    ∃ u, execD0Entry t f s = .next u.settle ∧ F.leaves (s.advance t) u := by
  refine ⟨_, rfl, ?_⟩
  have h0 : F.leaves (s.advance t) (s.advance t) := .refl
  generalize s.advance t = a₀ at *
  beta_reduce
  refine fnWake_leaves ?_ (Foot.le_trans (by decide) hF)
  exact h0

theorem execPcieLinkUp_leaves {F : Foot} {t : Tick} {speed : Fin 4} {width : Nat} {s : State} (hF : Foot.le ⟨0x10000, [0x1100], []⟩ F = true) :
    ∃ u, execPcieLinkUp t speed width s = .next u.settle ∧ F.leaves (s.advance t) u := by
  refine ⟨_, rfl, ?_⟩
  have h0 : F.leaves (s.advance t) (s.advance t) := .refl
  generalize s.advance t = a₀ at *
  beta_reduce
  refine linkUp_leaves ?_ (Foot.le_trans (by decide) hF)
  exact h0

theorem execVfEnable_leaves {F : Foot} {t : Tick} {n : Fin 17} {s : State} (hF : Foot.le ⟨0x1110, [0x1100], [.groups, .mem, .pcie, .tx]⟩ F = true) :
    ∃ u, execVfEnable t n s = .next u.settle ∧ F.leaves (s.advance t) u := by
  refine ⟨_, rfl, ?_⟩
  have h0 : F.leaves (s.advance t) (s.advance t) := .refl
  generalize s.advance t = a₀ at *
  beta_reduce
  refine vfSet_leaves ?_ (Foot.le_trans (by decide) hF)
  exact h0

theorem execMbRead_leaves {F : Foot} {t : Tick} {f : FnId} {id : Nat} {body : List Byte} {s : State} (hF : Foot.le ⟨0x0, [], [.now, .blobs, .ports, .groups, .slices, .micro, .fab, .scan, .tb, .spad, .mem, .mc, .cal, .od, .net, .pcie, .rcd, .pwr, .fwx, .rail, .sec, .nv, .tx, .resp]⟩ F = true) :
    ∃ u, execMbRead t f id body s = .next u.settle ∧ F.leaves (s.advance t) u := by
  refine ⟨_, rfl, ?_⟩
  have h0 : F.leaves (s.advance t) (s.advance t) := .refl
  generalize s.advance t = a₀ at *
  beta_reduce
  refine mbSubmit_leaves ?_ (Foot.le_trans (by decide) hF)
  exact h0

theorem execMbWrite_leaves {F : Foot} {t : Tick} {f : FnId} {id : Nat} {body : List Byte} {s : State} (hF : Foot.le ⟨0x0, [], [.now, .blobs, .ports, .groups, .slices, .micro, .fab, .scan, .tb, .spad, .mem, .mc, .cal, .od, .net, .pcie, .rcd, .pwr, .fwx, .rail, .sec, .nv, .tx, .resp]⟩ F = true) :
    ∃ u, execMbWrite t f id body s = .next u.settle ∧ F.leaves (s.advance t) u := by
  refine ⟨_, rfl, ?_⟩
  have h0 : F.leaves (s.advance t) (s.advance t) := .refl
  generalize s.advance t = a₀ at *
  beta_reduce
  refine mbSubmit_leaves ?_ (Foot.le_trans (by decide) hF)
  exact h0

theorem execMbReadBlock_leaves {F : Foot} {t : Tick} {f : FnId} {id : Nat} {body : List Byte} {s : State} (hF : Foot.le ⟨0x0, [], [.now, .blobs, .ports, .groups, .slices, .micro, .fab, .scan, .tb, .spad, .mem, .mc, .cal, .od, .net, .pcie, .rcd, .pwr, .fwx, .rail, .sec, .nv, .tx, .resp]⟩ F = true) :
    ∃ u, execMbReadBlock t f id body s = .next u.settle ∧ F.leaves (s.advance t) u := by
  refine ⟨_, rfl, ?_⟩
  have h0 : F.leaves (s.advance t) (s.advance t) := .refl
  generalize s.advance t = a₀ at *
  beta_reduce
  refine mbSubmit_leaves ?_ (Foot.le_trans (by decide) hF)
  exact h0

theorem execMbWriteBlock_leaves {F : Foot} {t : Tick} {f : FnId} {id : Nat} {body : List Byte} {s : State} (hF : Foot.le ⟨0x0, [], [.now, .blobs, .ports, .groups, .slices, .micro, .fab, .scan, .tb, .spad, .mem, .mc, .cal, .od, .net, .pcie, .rcd, .pwr, .fwx, .rail, .sec, .nv, .tx, .resp]⟩ F = true) :
    ∃ u, execMbWriteBlock t f id body s = .next u.settle ∧ F.leaves (s.advance t) u := by
  refine ⟨_, rfl, ?_⟩
  have h0 : F.leaves (s.advance t) (s.advance t) := .refl
  generalize s.advance t = a₀ at *
  beta_reduce
  refine mbSubmit_leaves ?_ (Foot.le_trans (by decide) hF)
  exact h0

theorem execMbAbort_leaves {F : Foot} {t : Tick} {f : FnId} {id : Nat} {body : List Byte} {s : State} (hF : Foot.le ⟨0x0, [], [.now, .blobs, .ports, .groups, .slices, .micro, .fab, .scan, .tb, .spad, .mem, .mc, .cal, .od, .net, .pcie, .rcd, .pwr, .fwx, .rail, .sec, .nv, .tx, .resp]⟩ F = true) :
    ∃ u, execMbAbort t f id body s = .next u.settle ∧ F.leaves (s.advance t) u := by
  refine ⟨_, rfl, ?_⟩
  have h0 : F.leaves (s.advance t) (s.advance t) := .refl
  generalize s.advance t = a₀ at *
  beta_reduce
  refine mbSubmit_leaves ?_ (Foot.le_trans (by decide) hF)
  exact h0

theorem execSpadCopy_leaves {F : Foot} {t : Tick} {f : FnId} {id : Nat} {body : List Byte} {host : Option (List Byte)} {s : State} (hF : Foot.le ⟨0x0, [], [.now, .blobs, .ports, .groups, .slices, .micro, .fab, .scan, .tb, .spad, .mem, .mc, .cal, .od, .net, .pcie, .rcd, .pwr, .fwx, .rail, .sec, .nv, .tx, .resp]⟩ F = true) :
    ∃ u, execSpadCopy t f id body host s = .next u.settle ∧ F.leaves (s.advance t) u := by
  refine ⟨_, rfl, ?_⟩
  have h0 : F.leaves (s.advance t) (s.advance t) := .refl
  generalize s.advance t = a₀ at *
  beta_reduce
  refine mbSubmit_leaves ?_ (Foot.le_trans (by decide) hF)
  exact h0

theorem execMbResponse_leaves {F : Foot} {t : Tick} {f : FnId} {s : State} (hF : Foot.le ⟨0x10000, [], [.pcie, .tx]⟩ F = true) :
    ∃ u, execMbResponse t f s = .next u.settle ∧ F.leaves (s.advance t) u := by
  refine ⟨_, rfl, ?_⟩
  have h0 : F.leaves (s.advance t) (s.advance t) := .refl
  generalize s.advance t = a₀ at *
  beta_reduce
  refine mbRespond_leaves ?_ (Foot.le_trans (by decide) hF)
  exact h0

theorem execDmaEn_leaves {F : Foot} {t : Tick} {who : Principal} {r : RingId} {v : Nat} {s : State} (hF : Foot.le ⟨0x10000, [0x2000, 0x8000], [.pcie, .rcd, .tx, .resp]⟩ F = true) (r0 : F.covers (0x1110 + ↑r)) :
    ∃ u, execDmaEn t who r v s = .next u.settle ∧ F.leaves (s.advance t) u := by
  refine ⟨_, rfl, ?_⟩
  have h0 : F.leaves (s.advance t) (s.advance t) := .refl
  generalize s.advance t = a₀ at *
  beta_reduce
  refine dmaEnWrite_leaves ?_ (Foot.le_trans (by decide) hF) r0
  exact h0

theorem execDescTail_leaves {F : Foot} {t : Tick} {who : Principal} {r : RingId} {v : Nat} {s : State} (hF : Foot.le ⟨0x10000, [0x2000, 0x8000], [.rcd, .resp]⟩ F = true) (r0 : F.covers (0x1110 + ↑r)) :
    ∃ u, execDescTail t who r v s = .next u.settle ∧ F.leaves (s.advance t) u := by
  refine ⟨_, rfl, ?_⟩
  have h0 : F.leaves (s.advance t) (s.advance t) := .refl
  generalize s.advance t = a₀ at *
  beta_reduce
  refine descTailWrite_leaves ?_ (Foot.le_trans (by decide) hF) r0
  exact h0

theorem execDmaBlockTransfer_leaves {F : Foot} {t : Tick} {r : RingId} {d : Desc} {s : State} (hF : Foot.le ⟨0x10000, [0x2300, 0x1100], [.mem, .pcie, .tx]⟩ F = true) (r0 : F.covers (0x1110 + ↑r)) :
    ∃ u, execDmaBlockTransfer t r d s = .next u.settle ∧ F.leaves (s.advance t) u := by
  refine ⟨_, rfl, ?_⟩
  have h0 : F.leaves (s.advance t) (s.advance t) := .refl
  generalize s.advance t = a₀ at *
  beta_reduce
  refine dmaNext_leaves ?_ (Foot.le_trans (by decide) hF) r0
  exact h0

theorem execDmaBlockAcked_leaves {F : Foot} {t : Tick} {r : RingId} {s : State} (hF : Foot.le ⟨0x10000, [], [.spad, .mem, .pcie]⟩ F = true) (r0 : F.covers (0x2380 + ↑r)) (r1 : F.covers (0x1110 + ↑r)) :
    ∃ u, execDmaBlockAcked t r s = .next u.settle ∧ F.leaves (s.advance t) u := by
  refine ⟨_, rfl, ?_⟩
  have h0 : F.leaves (s.advance t) (s.advance t) := .refl
  generalize s.advance t = a₀ at *
  beta_reduce
  refine dmaAcked_leaves ?_ (Foot.le_trans (by decide) hF) r0 r1
  exact h0

theorem execDmaFlushExpiry_leaves {F : Foot} {t : Tick} {r : RingId} {s : State} (hF : Foot.le ⟨0x10000, [], [.pcie, .tx]⟩ F = true) (r0 : F.covers (0x1110 + ↑r)) :
    ∃ u, execDmaFlushExpiry t r s = .next u.settle ∧ F.leaves (s.advance t) u := by
  refine ⟨_, rfl, ?_⟩
  have h0 : F.leaves (s.advance t) (s.advance t) := .refl
  generalize s.advance t = a₀ at *
  beta_reduce
  refine dmaFlush_leaves ?_ (Foot.le_trans (by decide) hF) r0
  exact h0

theorem execDescFetchError_leaves {F : Foot} {t : Tick} {r : RingId} {s : State} (hF : Foot.le ⟨0x10000, [], [.pcie, .tx]⟩ F = true) (r0 : F.covers (0x1110 + ↑r)) :
    ∃ u, execDescFetchError t r s = .next u.settle ∧ F.leaves (s.advance t) u := by
  refine ⟨_, rfl, ?_⟩
  have h0 : F.leaves (s.advance t) (s.advance t) := .refl
  generalize s.advance t = a₀ at *
  beta_reduce
  refine descFail_leaves ?_ (Foot.le_trans (by decide) hF) r0
  exact h0

theorem execNqEntryWrite_leaves {F : Foot} {t : Tick} {f : FnId} {s : State} (hF : Foot.le ⟨0x10000, [], [.pcie, .tx]⟩ F = true) (r0 : F.covers (0x1140 + ↑f)) :
    ∃ u, execNqEntryWrite t f s = .next u.settle ∧ F.leaves (s.advance t) u := by
  refine ⟨_, rfl, ?_⟩
  have h0 : F.leaves (s.advance t) (s.advance t) := .refl
  generalize s.advance t = a₀ at *
  beta_reduce
  refine nqWrite_leaves ?_ (Foot.le_trans (by decide) hF) r0
  exact h0

theorem execIrqHoldoffEnd_leaves {F : Foot} {t : Tick} {f : FnId} {vec : Nat} {s : State} (hF : Foot.le ⟨0x10000, [], [.pcie, .tx]⟩ F = true) :
    ∃ u, execIrqHoldoffEnd t f vec s = .next u.settle ∧ F.leaves (s.advance t) u := by
  refine ⟨_, rfl, ?_⟩
  have h0 : F.leaves (s.advance t) (s.advance t) := .refl
  generalize s.advance t = a₀ at *
  beta_reduce
  refine holdoffEnd_leaves ?_ (Foot.le_trans (by decide) hF)
  exact h0

theorem execVectorUnmask_leaves {F : Foot} {t : Tick} {f : FnId} {vec : Nat} {s : State} (hF : Foot.le ⟨0x10000, [], [.pcie, .tx]⟩ F = true) :
    ∃ u, execVectorUnmask t f vec s = .next u.settle ∧ F.leaves (s.advance t) u := by
  refine ⟨_, rfl, ?_⟩
  have h0 : F.leaves (s.advance t) (s.advance t) := .refl
  generalize s.advance t = a₀ at *
  beta_reduce
  refine unmask_leaves ?_ (Foot.le_trans (by decide) hF)
  exact h0

/-! ### FieldCmd -/

theorem linkAt_leaves {F : Foot} {a₀ : State} {s : State} {port : Nat} {up : Bool} (h : F.leaves a₀ s) (hF : Foot.le ⟨0x10000, [0x1200], [.net]⟩ F = true) :
    F.leaves a₀ (linkAt s port up) := by
  unfold linkAt
  refine Foot.ite_leaves ?_ ?_
  · refine linkChange_leaves ?_ (Foot.le_trans (by decide) hF)
    exact h
  · exact h

theorem canQuiet_leaves {F : Foot} {a₀ : State} {s : State} {t : Tick} (h : F.leaves a₀ s) (hF : Foot.le ⟨0x10000, [0x1210], [.net]⟩ F = true) :
    F.leaves a₀ (canQuiet s t) := by
  unfold canQuiet
  split
  · refine Foot.ite_leaves ?_ ?_
    · refine canDrop_leaves ?_ (Foot.le_trans (by decide) hF)
      exact h
    · exact h
  · exact h

theorem busOff_leaves {F : Foot} {a₀ : State} {s : State} {recovered : Bool} (h : F.leaves a₀ s) (hF : Foot.le ⟨0x10000, [0x1210], []⟩ F = true) :
    F.leaves a₀ (busOff s recovered) := by
  unfold busOff
  refine Foot.ite_leaves ?_ ?_
  · exact h
  · refine Foot.ite_leaves ?_ ?_
    · refine Foot.ite_leaves ?_ ?_
      · refine set_leaves ?_ (Foot.rec_const hF (by decide))
        exact h
      · exact h
    · refine Foot.ite_leaves ?_ ?_
      · exact h
      · refine satInc_leaves ?_ (Foot.rec_const hF (by decide))
        refine set_leaves ?_ (Foot.rec_const hF (by decide))
        exact h

theorem blockQuiet_leaves {F : Foot} {a₀ : State} {s : State} {mb : Bool} {n : Nat} {t : Tick} (h : F.leaves a₀ s) (hF : Foot.le ⟨0x10000, [], [.net, .pcie]⟩ F = true) :
    F.leaves a₀ (blockQuiet s mb n t) := by
  unfold blockQuiet
  refine Foot.ite_leaves ?_ ?_
  · refine Foot.ite_leaves ?_ ?_
    · refine modMb_leaves ?_ (Foot.le_trans (by decide) hF)
      exact h
    · exact h
  · split
    · refine Foot.ite_leaves ?_ ?_
      · refine setBlock_leaves ?_ (Foot.le_trans (by decide) hF)
        exact h
      · exact h
    · exact h

theorem sessQuiet_leaves {F : Foot} {a₀ : State} {s : State} {k : Nat} {t : Tick} (h : F.leaves a₀ s) (hF : Foot.le ⟨0x10000, [], [.groups, .net, .tx]⟩ F = true) (r0 : F.covers (0x1220 + k)) :
    F.leaves a₀ (sessQuiet s k t) := by
  unfold sessQuiet
  split
  · refine Foot.ite_leaves ?_ ?_
    · refine sessClose_leaves ?_ (Foot.le_trans (by decide) hF) r0
      exact h
    · exact h
  · exact h

theorem notifyDue_leaves {F : Foot} {a₀ : State} {s : State} {k : Nat} {t : Tick} (h : F.leaves a₀ s) (hF : Foot.le ⟨0x10000, [], [.net, .tx]⟩ F = true) :
    F.leaves a₀ (notifyDue s k t) := by
  unfold notifyDue
  split
  · refine Foot.ite_leaves ?_ ?_
    · refine notifySend_leaves ?_ (Foot.le_trans (by decide) hF)
      exact h
    · exact h
  · exact h

theorem legRow_leaves {F : Foot} {a₀ : State} {wr : Bool} {frame : List Byte} {t : Tick} {s : State} (h : F.leaves a₀ s) (hF : Foot.le ⟨0x0, [], [.now, .blobs, .ports, .groups, .slices, .micro, .fab, .scan, .tb, .spad, .mem, .mc, .cal, .od, .net, .pcie, .rcd, .pwr, .fwx, .rail, .sec, .nv, .tx, .resp]⟩ F = true) :
    F.leaves a₀ (legRow wr frame t s) := by
  unfold legRow
  refine Foot.ite_leaves ?_ ?_
  · refine legRx_leaves ?_ (Foot.le_trans (by decide) hF)
    exact h
  · exact h

theorem execEthFrameRx_leaves {F : Foot} {t : Tick} {port : Fin 2} {f : EthFrame} {s : State} (hF : Foot.le ⟨0x0, [], [.now, .blobs, .ports, .groups, .slices, .micro, .fab, .scan, .tb, .spad, .mem, .mc, .cal, .od, .net, .pcie, .rcd, .pwr, .fwx, .rail, .sec, .nv, .tx, .resp, .fresh]⟩ F = true) :
    ∃ u, execEthFrameRx t port f s = .next u.settle ∧ F.leaves (s.advance t) u := by
  refine ⟨_, rfl, ?_⟩
  have h0 : F.leaves (s.advance t) (s.advance t) := .refl
  generalize s.advance t = a₀ at *
  beta_reduce
  refine ethRx_leaves ?_ (Foot.le_trans (by decide) hF)
  exact h0

theorem execBridgeBufferedSend_leaves {F : Foot} {t : Tick} {port : Fin 2} {s : State} (hF : Foot.le ⟨0x10000, [0x1201], [.net, .tx, .fresh]⟩ F = true) :
    ∃ u, execBridgeBufferedSend t port s = .next u.settle ∧ F.leaves (s.advance t) u := by
  refine ⟨_, rfl, ?_⟩
  have h0 : F.leaves (s.advance t) (s.advance t) := .refl
  generalize s.advance t = a₀ at *
  beta_reduce
  refine bridgeSend_leaves ?_ (Foot.le_trans (by decide) hF)
  exact h0

theorem execT1lLinkChange_leaves {F : Foot} {t : Tick} {port : Fin 2} {up : Bool} {s : State} (hF : Foot.le ⟨0x10000, [0x1200], [.net]⟩ F = true) :
    ∃ u, execT1lLinkChange t port up s = .next u.settle ∧ F.leaves (s.advance t) u := by
  refine ⟨_, rfl, ?_⟩
  have h0 : F.leaves (s.advance t) (s.advance t) := .refl
  generalize s.advance t = a₀ at *
  beta_reduce
  refine linkAt_leaves ?_ (Foot.le_trans (by decide) hF)
  exact h0

theorem execCanSegmentRx_leaves {F : Foot} {t : Tick} {id : Nat} {data : List Byte} {s : State} (hF : Foot.le ⟨0x0, [], [.now, .blobs, .ports, .groups, .slices, .micro, .fab, .scan, .tb, .spad, .mem, .mc, .cal, .od, .net, .pcie, .rcd, .pwr, .fwx, .rail, .sec, .nv, .tx, .resp, .fresh]⟩ F = true) :
    ∃ u, execCanSegmentRx t id data s = .next u.settle ∧ F.leaves (s.advance t) u := by
  refine ⟨_, rfl, ?_⟩
  have h0 : F.leaves (s.advance t) (s.advance t) := .refl
  generalize s.advance t = a₀ at *
  beta_reduce
  refine canRx_leaves ?_ (Foot.le_trans (by decide) hF)
  exact h0

theorem execCanSegmentTimeout_leaves {F : Foot} {t : Tick} {s : State} (hF : Foot.le ⟨0x10000, [0x1210], [.net]⟩ F = true) :
    ∃ u, execCanSegmentTimeout t s = .next u.settle ∧ F.leaves (s.advance t) u := by
  refine ⟨_, rfl, ?_⟩
  have h0 : F.leaves (s.advance t) (s.advance t) := .refl
  generalize s.advance t = a₀ at *
  beta_reduce
  refine canQuiet_leaves ?_ (Foot.le_trans (by decide) hF)
  exact h0

theorem execCanBusoff_leaves {F : Foot} {t : Tick} {recovered : Bool} {s : State} (hF : Foot.le ⟨0x10000, [0x1210], []⟩ F = true) :
    ∃ u, execCanBusoff t recovered s = .next u.settle ∧ F.leaves (s.advance t) u := by
  refine ⟨_, rfl, ?_⟩
  have h0 : F.leaves (s.advance t) (s.advance t) := .refl
  generalize s.advance t = a₀ at *
  beta_reduce
  refine busOff_leaves ?_ (Foot.le_trans (by decide) hF)
  exact h0

theorem execSessionOpen_leaves {F : Foot} {t : Tick} {peer : Peer} {msg : List Byte} {s : State} (hF : Foot.le ⟨0x0, [], [.now, .blobs, .ports, .groups, .slices, .micro, .fab, .scan, .tb, .spad, .mem, .mc, .cal, .od, .net, .pcie, .rcd, .pwr, .fwx, .rail, .sec, .nv, .tx, .resp, .fresh]⟩ F = true) :
    ∃ u, execSessionOpen t peer msg s = .next u.settle ∧ F.leaves (s.advance t) u := by
  refine ⟨_, rfl, ?_⟩
  have h0 : F.leaves (s.advance t) (s.advance t) := .refl
  generalize s.advance t = a₀ at *
  beta_reduce
  refine copRow_leaves ?_ (Foot.le_trans (by decide) hF)
  exact h0

theorem execCopRead_leaves {F : Foot} {t : Tick} {peer : Peer} {msg : List Byte} {s : State} (hF : Foot.le ⟨0x0, [], [.now, .blobs, .ports, .groups, .slices, .micro, .fab, .scan, .tb, .spad, .mem, .mc, .cal, .od, .net, .pcie, .rcd, .pwr, .fwx, .rail, .sec, .nv, .tx, .resp, .fresh]⟩ F = true) :
    ∃ u, execCopRead t peer msg s = .next u.settle ∧ F.leaves (s.advance t) u := by
  refine ⟨_, rfl, ?_⟩
  have h0 : F.leaves (s.advance t) (s.advance t) := .refl
  generalize s.advance t = a₀ at *
  beta_reduce
  refine copRow_leaves ?_ (Foot.le_trans (by decide) hF)
  exact h0

theorem execCopWrite_leaves {F : Foot} {t : Tick} {peer : Peer} {msg : List Byte} {s : State} (hF : Foot.le ⟨0x0, [], [.now, .blobs, .ports, .groups, .slices, .micro, .fab, .scan, .tb, .spad, .mem, .mc, .cal, .od, .net, .pcie, .rcd, .pwr, .fwx, .rail, .sec, .nv, .tx, .resp, .fresh]⟩ F = true) :
    ∃ u, execCopWrite t peer msg s = .next u.settle ∧ F.leaves (s.advance t) u := by
  refine ⟨_, rfl, ?_⟩
  have h0 : F.leaves (s.advance t) (s.advance t) := .refl
  generalize s.advance t = a₀ at *
  beta_reduce
  refine copRow_leaves ?_ (Foot.le_trans (by decide) hF)
  exact h0

theorem execCopReadBlock_leaves {F : Foot} {t : Tick} {peer : Peer} {msg : List Byte} {s : State} (hF : Foot.le ⟨0x0, [], [.now, .blobs, .ports, .groups, .slices, .micro, .fab, .scan, .tb, .spad, .mem, .mc, .cal, .od, .net, .pcie, .rcd, .pwr, .fwx, .rail, .sec, .nv, .tx, .resp, .fresh]⟩ F = true) :
    ∃ u, execCopReadBlock t peer msg s = .next u.settle ∧ F.leaves (s.advance t) u := by
  refine ⟨_, rfl, ?_⟩
  have h0 : F.leaves (s.advance t) (s.advance t) := .refl
  generalize s.advance t = a₀ at *
  beta_reduce
  refine copRow_leaves ?_ (Foot.le_trans (by decide) hF)
  exact h0

theorem execCopWriteBlock_leaves {F : Foot} {t : Tick} {peer : Peer} {msg : List Byte} {s : State} (hF : Foot.le ⟨0x0, [], [.now, .blobs, .ports, .groups, .slices, .micro, .fab, .scan, .tb, .spad, .mem, .mc, .cal, .od, .net, .pcie, .rcd, .pwr, .fwx, .rail, .sec, .nv, .tx, .resp, .fresh]⟩ F = true) :
    ∃ u, execCopWriteBlock t peer msg s = .next u.settle ∧ F.leaves (s.advance t) u := by
  refine ⟨_, rfl, ?_⟩
  have h0 : F.leaves (s.advance t) (s.advance t) := .refl
  generalize s.advance t = a₀ at *
  beta_reduce
  refine copRow_leaves ?_ (Foot.le_trans (by decide) hF)
  exact h0

theorem execSubscribe_leaves {F : Foot} {t : Tick} {peer : Peer} {msg : List Byte} {s : State} (hF : Foot.le ⟨0x0, [], [.now, .blobs, .ports, .groups, .slices, .micro, .fab, .scan, .tb, .spad, .mem, .mc, .cal, .od, .net, .pcie, .rcd, .pwr, .fwx, .rail, .sec, .nv, .tx, .resp, .fresh]⟩ F = true) :
    ∃ u, execSubscribe t peer msg s = .next u.settle ∧ F.leaves (s.advance t) u := by
  refine ⟨_, rfl, ?_⟩
  have h0 : F.leaves (s.advance t) (s.advance t) := .refl
  generalize s.advance t = a₀ at *
  beta_reduce
  refine copRow_leaves ?_ (Foot.le_trans (by decide) hF)
  exact h0

theorem execCopAbort_leaves {F : Foot} {t : Tick} {peer : Peer} {msg : List Byte} {s : State} (hF : Foot.le ⟨0x0, [], [.now, .blobs, .ports, .groups, .slices, .micro, .fab, .scan, .tb, .spad, .mem, .mc, .cal, .od, .net, .pcie, .rcd, .pwr, .fwx, .rail, .sec, .nv, .tx, .resp, .fresh]⟩ F = true) :
    ∃ u, execCopAbort t peer msg s = .next u.settle ∧ F.leaves (s.advance t) u := by
  refine ⟨_, rfl, ?_⟩
  have h0 : F.leaves (s.advance t) (s.advance t) := .refl
  generalize s.advance t = a₀ at *
  beta_reduce
  refine copRow_leaves ?_ (Foot.le_trans (by decide) hF)
  exact h0

theorem execBlockTransferTimeout_leaves {F : Foot} {t : Tick} {mb : Bool} {n : FnId} {s : State} (hF : Foot.le ⟨0x10000, [], [.net, .pcie]⟩ F = true) :
    ∃ u, execBlockTransferTimeout t mb n s = .next u.settle ∧ F.leaves (s.advance t) u := by
  refine ⟨_, rfl, ?_⟩
  have h0 : F.leaves (s.advance t) (s.advance t) := .refl
  generalize s.advance t = a₀ at *
  beta_reduce
  refine blockQuiet_leaves ?_ (Foot.le_trans (by decide) hF)
  exact h0

theorem execSessionTimeout_leaves {F : Foot} {t : Tick} {k : SessionId} {s : State} (hF : Foot.le ⟨0x10000, [], [.groups, .net, .tx]⟩ F = true) (r0 : F.covers (0x1220 + ↑k)) :
    ∃ u, execSessionTimeout t k s = .next u.settle ∧ F.leaves (s.advance t) u := by
  refine ⟨_, rfl, ?_⟩
  have h0 : F.leaves (s.advance t) (s.advance t) := .refl
  generalize s.advance t = a₀ at *
  beta_reduce
  refine sessQuiet_leaves ?_ (Foot.le_trans (by decide) hF) r0
  exact h0

theorem execClose_leaves {F : Foot} {t : Tick} {who : Principal} {k : SessionId} {v : Nat} {s : State} (hF : Foot.le ⟨0x10000, [0x8000, 0x2000], [.groups, .net, .rcd, .tx, .resp]⟩ F = true) (r0 : F.covers (0x1220 + ↑k)) :
    ∃ u, execClose t who k v s = .next u.settle ∧ F.leaves (s.advance t) u := by
  refine ⟨_, rfl, ?_⟩
  have h0 : F.leaves (s.advance t) (s.advance t) := .refl
  generalize s.advance t = a₀ at *
  beta_reduce
  refine closeWrite_leaves ?_ (Foot.le_trans (by decide) hF) r0
  exact h0

theorem execSubscriptionRead_leaves {F : Foot} {t : Tick} {k : SessionId} {num : Nat} {s : State} (hF : Foot.le ⟨0x10000, [0x2000, 0x2300], [.mem, .net, .resp]⟩ F = true) (r0 : F.covers (0x1220 + ↑k)) :
    ∃ u, execSubscriptionRead t k num s = .next u.settle ∧ F.leaves (s.advance t) u := by
  refine ⟨_, rfl, ?_⟩
  have h0 : F.leaves (s.advance t) (s.advance t) := .refl
  generalize s.advance t = a₀ at *
  beta_reduce
  refine subRead_leaves ?_ (Foot.le_trans (by decide) hF) r0
  exact h0

theorem execNotify_leaves {F : Foot} {t : Tick} {k : SessionId} {s : State} (hF : Foot.le ⟨0x10000, [], [.net, .tx]⟩ F = true) :
    ∃ u, execNotify t k s = .next u.settle ∧ F.leaves (s.advance t) u := by
  refine ⟨_, rfl, ?_⟩
  have h0 : F.leaves (s.advance t) (s.advance t) := .refl
  generalize s.advance t = a₀ at *
  beta_reduce
  refine notifyDue_leaves ?_ (Foot.le_trans (by decide) hF)
  exact h0

theorem execLegRead_leaves {F : Foot} {t : Tick} {frame : List Byte} {s : State} (hF : Foot.le ⟨0x0, [], [.now, .blobs, .ports, .groups, .slices, .micro, .fab, .scan, .tb, .spad, .mem, .mc, .cal, .od, .net, .pcie, .rcd, .pwr, .fwx, .rail, .sec, .nv, .tx, .resp]⟩ F = true) :
    ∃ u, execLegRead t frame s = .next u.settle ∧ F.leaves (s.advance t) u := by
  refine ⟨_, rfl, ?_⟩
  have h0 : F.leaves (s.advance t) (s.advance t) := .refl
  generalize s.advance t = a₀ at *
  beta_reduce
  refine legRow_leaves ?_ (Foot.le_trans (by decide) hF)
  exact h0

theorem execLegWrite_leaves {F : Foot} {t : Tick} {frame : List Byte} {s : State} (hF : Foot.le ⟨0x0, [], [.now, .blobs, .ports, .groups, .slices, .micro, .fab, .scan, .tb, .spad, .mem, .mc, .cal, .od, .net, .pcie, .rcd, .pwr, .fwx, .rail, .sec, .nv, .tx, .resp]⟩ F = true) :
    ∃ u, execLegWrite t frame s = .next u.settle ∧ F.leaves (s.advance t) u := by
  refine ⟨_, rfl, ?_⟩
  have h0 : F.leaves (s.advance t) (s.advance t) := .refl
  generalize s.advance t = a₀ at *
  beta_reduce
  refine legRow_leaves ?_ (Foot.le_trans (by decide) hF)
  exact h0

/-! ### OdService -/

theorem execHeldCommandEnqueue_leaves {F : Foot} {t : Tick} {g : GroupId} {s : State} (hF : Foot.le ⟨0x0, [], [.now, .blobs, .ports, .groups, .slices, .micro, .fab, .scan, .tb, .spad, .mem, .mc, .cal, .od, .net, .pcie, .rcd, .pwr, .fwx, .rail, .sec, .nv, .tx, .resp]⟩ F = true) :
    ∃ u, execHeldCommandEnqueue t g s = .next u.settle ∧ F.leaves (s.advance t) u := by
  refine ⟨_, rfl, ?_⟩
  have h0 : F.leaves (s.advance t) (s.advance t) := .refl
  generalize s.advance t = a₀ at *
  beta_reduce
  refine heldEnter_leaves ?_ (Foot.le_trans (by decide) hF)
  exact h0

theorem execOdWrite_leaves {F : Foot} {t : Tick} {who : Principal} {key : Nat} {data : List Byte} {s : State} (hF : Foot.le ⟨0x0, [], [.now, .blobs, .ports, .groups, .slices, .micro, .fab, .scan, .tb, .spad, .mem, .mc, .cal, .od, .net, .pcie, .rcd, .pwr, .fwx, .rail, .sec, .nv, .tx, .resp]⟩ F = true) :
    ∃ u, execOdWrite t who key data s = .next u.settle ∧ F.leaves (s.advance t) u := by
  refine ⟨_, rfl, ?_⟩
  have h0 : F.leaves (s.advance t) (s.advance t) := .refl
  generalize s.advance t = a₀ at *
  beta_reduce
  refine odWrite_leaves ?_ (Foot.le_trans (by decide) hF)
  exact h0

theorem execCfgSave_leaves {F : Foot} {t : Tick} {who : Principal} {v : Nat} {s : State} (hF : Foot.le ⟨0x10000, [0x2000, 0x8000], [.rcd, .nv, .resp]⟩ F = true) :
    ∃ u, execCfgSave t who v s = .next u.settle ∧ F.leaves (s.advance t) u := by
  refine ⟨_, rfl, ?_⟩
  have h0 : F.leaves (s.advance t) (s.advance t) := .refl
  generalize s.advance t = a₀ at *
  beta_reduce
  refine cfgSaveWrite_leaves ?_ (Foot.le_trans (by decide) hF)
  exact h0

/-! ### PortCmd -/

theorem enableHoldEnd_leaves {F : Foot} {a₀ : State} {s : State} {p : Nat} {t : Tick} (h : F.leaves a₀ s) (hF : Foot.le ⟨0x10000, [0x8000], [.ports, .micro, .rcd, .tx]⟩ F = true) (r0 : F.covers (0x4000 + p)) :
    F.leaves a₀ (enableHoldEnd s p t) := by
  unfold enableHoldEnd
  split
  · refine Foot.ite_leaves ?_ ?_
    · refine syncPort_leaves ?_ (Foot.le_trans (by decide) hF) r0
      refine enableStep2_leaves ?_ (Foot.le_trans (by decide) hF)
      refine spanSwitch_leaves ?_ (Foot.le_trans (by decide) hF) r0
      exact h
    · exact h
  · exact h

theorem gatePermitAt_leaves {F : Foot} {a₀ : State} {s : State} {p : Nat} {t : Tick} (h : F.leaves a₀ s) (hF : Foot.le ⟨0x3000, [0x2000, 0x2001], [.ports, .groups, .slices, .micro, .cal, .rcd, .pwr, .nv, .tx]⟩ F = true) :
    F.leaves a₀ (gatePermitAt s p t) := by
  unfold gatePermitAt
  split
  · refine Foot.ite_leaves ?_ ?_
    · extract_lets +onlyGivenNames -merge -useContext -underBinder y0
      have h0 : F.leaves a₀ y0 := by
        refine modPx_leaves ?_ (Foot.le_trans (by decide) hF)
        exact h
      try clear_value y0
      extract_lets +onlyGivenNames -merge -useContext -underBinder y1
      have h1 : F.leaves a₀ y1 := by
        refine syncPort_leaves ?_ (Foot.le_trans (by decide) hF) (Foot.rec_floor hF (by decide))
        refine coldStart_leaves ?_ (Foot.le_trans (by decide) hF) (Foot.rec_floor hF (by decide))
        exact h0
      try clear_value y1
      refine Foot.ite_leaves ?_ ?_
      · refine rampFrom_leaves ?_ (Foot.le_trans (by decide) hF)
        exact h1
      · refine rampStart_leaves ?_ (Foot.le_trans (by decide) hF)
        exact h1
    · exact h
  · exact h

theorem dischargeDue_leaves {F : Foot} {a₀ : State} {s : State} {p : Nat} {t : Tick} (h : F.leaves a₀ s) (hF : Foot.le ⟨0x3000, [0x2000, 0x2001], [.ports, .groups, .slices, .micro, .cal, .rcd, .pwr, .nv, .tx]⟩ F = true) :
    F.leaves a₀ (dischargeDue s p t) := by
  unfold dischargeDue
  split
  · refine Foot.ite_leaves ?_ ?_
    · refine dischargeEnd_leaves ?_ (Foot.le_trans (by decide) hF)
      exact h
    · exact h
  · exact h

theorem spanHoldDue_leaves {F : Foot} {a₀ : State} {s : State} {p : Nat} {t : Tick} (h : F.leaves a₀ s) (hF : Foot.le ⟨0x3000, [0x2000, 0x2001], [.ports, .groups, .slices, .micro, .cal, .rcd, .pwr, .nv, .tx]⟩ F = true) :
    F.leaves a₀ (spanHoldDue s p t) := by
  unfold spanHoldDue
  split
  · refine Foot.ite_leaves ?_ ?_
    · extract_lets +onlyGivenNames -merge -useContext -underBinder y0
      have h0 : F.leaves a₀ y0 := by
        refine spanSwitch_leaves ?_ (Foot.le_trans (by decide) hF) (Foot.rec_floor hF (by decide))
        refine modPx_leaves ?_ (Foot.le_trans (by decide) hF)
        exact h
      try clear_value y0
      refine offSpan_leaves ?_ (Foot.le_trans (by decide) hF) (Foot.rec_floor hF (by decide))
      refine syncPort_leaves ?_ (Foot.le_trans (by decide) hF) (Foot.rec_floor hF (by decide))
      refine setFld_leaves ?_ (Foot.rec_key (Foot.rec_floor hF (by decide)))
      exact h0
    · exact h
  · refine Foot.ite_leaves ?_ ?_
    · refine spanRelease_leaves ?_ (Foot.le_trans (by decide) hF)
      exact h
    · exact h

theorem clrFall_leaves {F : Foot} {a₀ : State} {s : State} {t : Tick} (h : F.leaves a₀ s) (hF : Foot.le ⟨0x3000, [0x2000, 0x2001], [.ports, .groups, .slices, .micro, .cal, .rcd, .pwr, .nv, .tx]⟩ F = true) :
    F.leaves a₀ (clrFall s t) := by
  unfold clrFall
  refine Foot.ite_leaves ?_ ?_
  · exact h
  · refine forAll_leaves ?_ fun i0 z0 h0 => ?_
    · refine jEdge_leaves ?_ (Foot.le_trans (by decide) hF)
      refine modPwr_leaves ?_ (Foot.le_trans (by decide) hF)
      exact h
    · refine clearPort_leaves ?_ (Foot.le_trans (by decide) hF)
      exact h0

theorem clrRise_leaves {F : Foot} {a₀ : State} {s : State} {t : Tick} (h : F.leaves a₀ s) (hF : Foot.le ⟨0x4000, [], [.ports, .rcd, .pwr, .tx]⟩ F = true) :
    F.leaves a₀ (clrRise s t) := by
  unfold clrRise
  refine Foot.ite_leaves ?_ ?_
  · refine forAll_leaves ?_ fun i0 z0 h0 => ?_
    · refine jEdge_leaves ?_ (Foot.le_trans (by decide) hF)
      refine modPwr_leaves ?_ (Foot.le_trans (by decide) hF)
      exact h
    · refine clearEnds_leaves ?_ (Foot.le_trans (by decide) hF) (Foot.rec_floor hF (by decide))
      exact h0
  · exact h

theorem fltRise_leaves {F : Foot} {a₀ : State} {s : State} {p : Nat} {t : Tick} (h : F.leaves a₀ s) (hF : Foot.le ⟨0x3000, [0x1220, 0x1221, 0x1222, 0x1223, 0x2000, 0x2001], [.ports, .groups, .slices, .micro, .fab, .cal, .net, .pcie, .rcd, .pwr, .nv, .tx]⟩ F = true) :
    F.leaves a₀ (fltRise s p t) := by
  unfold fltRise
  refine Foot.ite_leaves ?_ ?_
  · exact h
  · refine fltActs_leaves ?_ (Foot.le_trans (by decide) hF)
    refine jEdge_leaves ?_ (Foot.le_trans (by decide) hF)
    refine modPx_leaves ?_ (Foot.le_trans (by decide) hF)
    exact h

theorem fltFall_leaves {F : Foot} {a₀ : State} {s : State} {p : Nat} {t : Tick} (h : F.leaves a₀ s) (hF : Foot.le ⟨0x10000, [0x8000], [.ports, .rcd, .tx]⟩ F = true) (r0 : F.covers (0x4000 + p)) :
    F.leaves a₀ (fltFall s p t) := by
  unfold fltFall
  refine Foot.ite_leaves ?_ ?_
  · refine clearEnds_leaves ?_ (Foot.le_trans (by decide) hF) r0
    refine jEdge_leaves ?_ (Foot.le_trans (by decide) hF)
    refine modPx_leaves ?_ (Foot.le_trans (by decide) hF)
    exact h
  · exact h

theorem readbackExpiry_leaves {F : Foot} {a₀ : State} {s : State} {p : Nat} {t : Tick} (h : F.leaves a₀ s) (hF : Foot.le ⟨0x10000, [0x2500], [.ports, .mc]⟩ F = true) :
    F.leaves a₀ (readbackExpiry s p t) := by
  unfold readbackExpiry
  refine Foot.ite_leaves ?_ ?_
  · extract_lets +onlyGivenNames -merge -useContext -underBinder y0
    have h0 : F.leaves a₀ y0 := by
      refine modForce_leaves ?_ (Foot.le_trans (by decide) hF)
      exact h
    try clear_value y0
    refine rbRequest_leaves ?_ (Foot.le_trans (by decide) hF)
    exact h0
  · exact h

theorem readbackDeferred_leaves {F : Foot} {a₀ : State} {s : State} {p : Nat} {t : Tick} (h : F.leaves a₀ s) (hF : Foot.le ⟨0x10000, [0x2500], [.ports, .mc]⟩ F = true) :
    F.leaves a₀ (readbackDeferred s p t) := by
  unfold readbackDeferred
  refine Foot.ite_leaves ?_ ?_
  · exact h
  · extract_lets +onlyGivenNames -merge -useContext -underBinder y0
    try clear_value y0
    extract_lets +onlyGivenNames -merge -useContext -underBinder y1
    have h1 : F.leaves a₀ y1 := by
      refine modForce_leaves ?_ (Foot.le_trans (by decide) hF)
      exact h
    try clear_value y1
    extract_lets +onlyGivenNames -merge -useContext -underBinder y2
    have h2 : F.leaves a₀ y2 := by
      refine Foot.ite_leaves ?_ ?_
      · refine readbackNow_leaves ?_ (Foot.le_trans (by decide) hF)
        exact h1
      · exact h1
    try clear_value y2
    refine Foot.ite_leaves ?_ ?_
    · refine rbRequest_leaves ?_ (Foot.le_trans (by decide) hF)
      exact h2
    · exact h2

theorem timerStrikeAt_leaves {F : Foot} {a₀ : State} {s : State} {p : Nat} {t : Tick} (h : F.leaves a₀ s) (hF : Foot.le ⟨0x5000, [0x1220, 0x1221, 0x1222, 0x1223], [.ports, .fab, .net, .pcie, .rcd]⟩ F = true) (r0 : F.covers (0x4000 + p)) :
    F.leaves a₀ (timerStrikeAt s p t) := by
  unfold timerStrikeAt
  refine Foot.ite_leaves ?_ ?_
  · refine strike_leaves ?_ (Foot.le_trans (by decide) hF) r0
    exact h
  · exact h

theorem execEnable_leaves {F : Foot} {t : Tick} {who : Principal} {p : PortId} {s : State} (hF : Foot.le ⟨0x2380, [0x1220, 0x1221, 0x1222, 0x1223, 0x2000, 0x2001], [.blobs, .ports, .groups, .slices, .micro, .fab, .scan, .spad, .mem, .mc, .cal, .od, .net, .pcie, .rcd, .pwr, .nv, .tx, .resp]⟩ F = true) :
    ∃ u, execEnable t who p s = .next u.settle ∧ F.leaves (s.advance t) u := by
  refine ⟨_, rfl, ?_⟩
  have h0 : F.leaves (s.advance t) (s.advance t) := .refl
  generalize s.advance t = a₀ at *
  beta_reduce
  refine portCtrl_leaves ?_ (Foot.le_trans (by decide) hF)
  exact h0

theorem execEnableSpanHoldEnd_leaves {F : Foot} {t : Tick} {p : PortId} {s : State} (hF : Foot.le ⟨0x10000, [0x8000], [.ports, .micro, .rcd, .tx]⟩ F = true) (r0 : F.covers (0x4000 + ↑p)) :
    ∃ u, execEnableSpanHoldEnd t p s = .next u.settle ∧ F.leaves (s.advance t) u := by
  refine ⟨_, rfl, ?_⟩
  have h0 : F.leaves (s.advance t) (s.advance t) := .refl
  generalize s.advance t = a₀ at *
  beta_reduce
  refine enableHoldEnd_leaves ?_ (Foot.le_trans (by decide) hF) r0
  exact h0

theorem execGatePermit_leaves {F : Foot} {t : Tick} {p : PortId} {s : State} (hF : Foot.le ⟨0x3000, [0x2000, 0x2001], [.ports, .groups, .slices, .micro, .cal, .rcd, .pwr, .nv, .tx]⟩ F = true) :
    ∃ u, execGatePermit t p s = .next u.settle ∧ F.leaves (s.advance t) u := by
  refine ⟨_, rfl, ?_⟩
  have h0 : F.leaves (s.advance t) (s.advance t) := .refl
  generalize s.advance t = a₀ at *
  beta_reduce
  refine gatePermitAt_leaves ?_ (Foot.le_trans (by decide) hF)
  exact h0

theorem execDisable_leaves {F : Foot} {t : Tick} {who : Principal} {p : PortId} {s : State} (hF : Foot.le ⟨0x2380, [0x1220, 0x1221, 0x1222, 0x1223, 0x2000, 0x2001], [.blobs, .ports, .groups, .slices, .micro, .fab, .scan, .spad, .mem, .mc, .cal, .od, .net, .pcie, .rcd, .pwr, .nv, .tx, .resp]⟩ F = true) :
    ∃ u, execDisable t who p s = .next u.settle ∧ F.leaves (s.advance t) u := by
  refine ⟨_, rfl, ?_⟩
  have h0 : F.leaves (s.advance t) (s.advance t) := .refl
  generalize s.advance t = a₀ at *
  beta_reduce
  refine portCtrl_leaves ?_ (Foot.le_trans (by decide) hF)
  exact h0

theorem execDischargeEnd_leaves {F : Foot} {t : Tick} {p : PortId} {s : State} (hF : Foot.le ⟨0x3000, [0x2000, 0x2001], [.ports, .groups, .slices, .micro, .cal, .rcd, .pwr, .nv, .tx]⟩ F = true) :
    ∃ u, execDischargeEnd t p s = .next u.settle ∧ F.leaves (s.advance t) u := by
  refine ⟨_, rfl, ?_⟩
  have h0 : F.leaves (s.advance t) (s.advance t) := .refl
  generalize s.advance t = a₀ at *
  beta_reduce
  refine dischargeDue_leaves ?_ (Foot.le_trans (by decide) hF)
  exact h0

theorem execRampDone_leaves {F : Foot} {t : Tick} {p : PortId} {s : State} (hF : Foot.le ⟨0x3000, [0x2000, 0x2001], [.ports, .groups, .slices, .micro, .cal, .rcd, .pwr, .nv, .tx]⟩ F = true) :
    ∃ u, execRampDone t p s = .next u.settle ∧ F.leaves (s.advance t) u := by
  refine ⟨_, rfl, ?_⟩
  have h0 : F.leaves (s.advance t) (s.advance t) := .refl
  generalize s.advance t = a₀ at *
  beta_reduce
  refine rampFinish_leaves ?_ (Foot.le_trans (by decide) hF)
  exact h0

theorem execSpan_leaves {F : Foot} {t : Tick} {who : Principal} {p : PortId} {v : Nat} {s : State} (hF : Foot.le ⟨0x2380, [0x1220, 0x1221, 0x1222, 0x1223, 0x2000, 0x2001], [.blobs, .ports, .groups, .slices, .micro, .fab, .scan, .spad, .mem, .mc, .cal, .od, .net, .pcie, .rcd, .pwr, .nv, .tx, .resp]⟩ F = true) :
    ∃ u, execSpan t who p v s = .next u.settle ∧ F.leaves (s.advance t) u := by
  refine ⟨_, rfl, ?_⟩
  have h0 : F.leaves (s.advance t) (s.advance t) := .refl
  generalize s.advance t = a₀ at *
  beta_reduce
  refine spanWrite_leaves ?_ (Foot.le_trans (by decide) hF)
  exact h0

theorem execSpanHoldEnd_leaves {F : Foot} {t : Tick} {p : PortId} {s : State} (hF : Foot.le ⟨0x3000, [0x2000, 0x2001], [.ports, .groups, .slices, .micro, .cal, .rcd, .pwr, .nv, .tx]⟩ F = true) :
    ∃ u, execSpanHoldEnd t p s = .next u.settle ∧ F.leaves (s.advance t) u := by
  refine ⟨_, rfl, ?_⟩
  have h0 : F.leaves (s.advance t) (s.advance t) := .refl
  generalize s.advance t = a₀ at *
  beta_reduce
  refine spanHoldDue_leaves ?_ (Foot.le_trans (by decide) hF)
  exact h0

theorem execClrNFall_leaves {F : Foot} {t : Tick} {s : State} (hF : Foot.le ⟨0x3000, [0x2000, 0x2001], [.ports, .groups, .slices, .micro, .cal, .rcd, .pwr, .nv, .tx]⟩ F = true) :
    ∃ u, execClrNFall t s = .next u.settle ∧ F.leaves (s.advance t) u := by
  refine ⟨_, rfl, ?_⟩
  have h0 : F.leaves (s.advance t) (s.advance t) := .refl
  generalize s.advance t = a₀ at *
  beta_reduce
  refine clrFall_leaves ?_ (Foot.le_trans (by decide) hF)
  exact h0

theorem execClrNRise_leaves {F : Foot} {t : Tick} {s : State} (hF : Foot.le ⟨0x4000, [], [.ports, .rcd, .pwr, .tx]⟩ F = true) :
    ∃ u, execClrNRise t s = .next u.settle ∧ F.leaves (s.advance t) u := by
  refine ⟨_, rfl, ?_⟩
  have h0 : F.leaves (s.advance t) (s.advance t) := .refl
  generalize s.advance t = a₀ at *
  beta_reduce
  refine clrRise_leaves ?_ (Foot.le_trans (by decide) hF)
  exact h0

theorem execFltInRise_leaves {F : Foot} {t : Tick} {p : PortId} {s : State} (hF : Foot.le ⟨0x3000, [0x1220, 0x1221, 0x1222, 0x1223, 0x2000, 0x2001], [.ports, .groups, .slices, .micro, .fab, .cal, .net, .pcie, .rcd, .pwr, .nv, .tx]⟩ F = true) :
    ∃ u, execFltInRise t p s = .next u.settle ∧ F.leaves (s.advance t) u := by
  refine ⟨_, rfl, ?_⟩
  have h0 : F.leaves (s.advance t) (s.advance t) := .refl
  generalize s.advance t = a₀ at *
  beta_reduce
  refine fltRise_leaves ?_ (Foot.le_trans (by decide) hF)
  exact h0

theorem execFltInFall_leaves {F : Foot} {t : Tick} {p : PortId} {s : State} (hF : Foot.le ⟨0x10000, [0x8000], [.ports, .rcd, .tx]⟩ F = true) (r0 : F.covers (0x4000 + ↑p)) :
    ∃ u, execFltInFall t p s = .next u.settle ∧ F.leaves (s.advance t) u := by
  refine ⟨_, rfl, ?_⟩
  have h0 : F.leaves (s.advance t) (s.advance t) := .refl
  generalize s.advance t = a₀ at *
  beta_reduce
  refine fltFall_leaves ?_ (Foot.le_trans (by decide) hF) r0
  exact h0

theorem execClearRelease_leaves {F : Foot} {t : Tick} {who : Principal} {p : PortId} {s : State} (hF : Foot.le ⟨0x2380, [0x1220, 0x1221, 0x1222, 0x1223, 0x2000, 0x2001], [.blobs, .ports, .groups, .slices, .micro, .fab, .scan, .spad, .mem, .mc, .cal, .od, .net, .pcie, .rcd, .pwr, .nv, .tx, .resp]⟩ F = true) :
    ∃ u, execClearRelease t who p s = .next u.settle ∧ F.leaves (s.advance t) u := by
  refine ⟨_, rfl, ?_⟩
  have h0 : F.leaves (s.advance t) (s.advance t) := .refl
  generalize s.advance t = a₀ at *
  beta_reduce
  refine forceCtrl_leaves ?_ (Foot.le_trans (by decide) hF)
  exact h0

theorem execReadbackNow_leaves {F : Foot} {t : Tick} {who : Principal} {p : PortId} {s : State} (hF : Foot.le ⟨0x2380, [0x1220, 0x1221, 0x1222, 0x1223, 0x2000, 0x2001], [.blobs, .ports, .groups, .slices, .micro, .fab, .scan, .spad, .mem, .mc, .cal, .od, .net, .pcie, .rcd, .pwr, .nv, .tx, .resp]⟩ F = true) :
    ∃ u, execReadbackNow t who p s = .next u.settle ∧ F.leaves (s.advance t) u := by
  refine ⟨_, rfl, ?_⟩
  have h0 : F.leaves (s.advance t) (s.advance t) := .refl
  generalize s.advance t = a₀ at *
  beta_reduce
  refine forceCtrl_leaves ?_ (Foot.le_trans (by decide) hF)
  exact h0

theorem execReadbackDue_leaves {F : Foot} {t : Tick} {p : PortId} {s : State} (hF : Foot.le ⟨0x10000, [0x2500], [.ports, .mc]⟩ F = true) :
    ∃ u, execReadbackDue t p s = .next u.settle ∧ F.leaves (s.advance t) u := by
  refine ⟨_, rfl, ?_⟩
  have h0 : F.leaves (s.advance t) (s.advance t) := .refl
  generalize s.advance t = a₀ at *
  beta_reduce
  refine readbackExpiry_leaves ?_ (Foot.le_trans (by decide) hF)
  exact h0

theorem execDeferredReadback_leaves {F : Foot} {t : Tick} {p : PortId} {s : State} (hF : Foot.le ⟨0x10000, [0x2500], [.ports, .mc]⟩ F = true) :
    ∃ u, execDeferredReadback t p s = .next u.settle ∧ F.leaves (s.advance t) u := by
  refine ⟨_, rfl, ?_⟩
  have h0 : F.leaves (s.advance t) (s.advance t) := .refl
  generalize s.advance t = a₀ at *
  beta_reduce
  refine readbackDeferred_leaves ?_ (Foot.le_trans (by decide) hF)
  exact h0

theorem execTimerStrike_leaves {F : Foot} {t : Tick} {p : PortId} {s : State} (hF : Foot.le ⟨0x5000, [0x1220, 0x1221, 0x1222, 0x1223], [.ports, .fab, .net, .pcie, .rcd]⟩ F = true) (r0 : F.covers (0x4000 + ↑p)) :
    ∃ u, execTimerStrike t p s = .next u.settle ∧ F.leaves (s.advance t) u := by
  refine ⟨_, rfl, ?_⟩
  have h0 : F.leaves (s.advance t) (s.advance t) := .refl
  generalize s.advance t = a₀ at *
  beta_reduce
  refine timerStrikeAt_leaves ?_ (Foot.le_trans (by decide) hF) r0
  exact h0

/-! ### Replay -/

theorem rpRun_leaves {F : Foot} {a₀ : State} {s : State} {b : Sandbox} (h : F.leaves a₀ s) (hF : Foot.le ⟨0x10000, [0x8001], [.rcd]⟩ F = true) :
    F.leaves a₀ (rpRun s b) := by
  unfold rpRun
  extract_lets +onlyGivenNames -merge -useContext -underBinder y0
  extract_lets +onlyGivenNames -merge -useContext -underBinder y1
  extract_lets +onlyGivenNames -merge -useContext -underBinder y2
  extract_lets +onlyGivenNames -merge -useContext -underBinder y3
  try clear_value y3
  extract_lets +onlyGivenNames -merge -useContext -underBinder y4
  try clear_value y4
  extract_lets +onlyGivenNames -merge -useContext -underBinder y5
  try clear_value y5
  extract_lets +onlyGivenNames -merge -useContext -underBinder y6
  try clear_value y6
  extract_lets +onlyGivenNames -merge -useContext -underBinder y7
  have h7 : F.leaves a₀ y7 := by
    refine set_leaves ?_ (Foot.rec_const hF (by decide))
    refine modRec_leaves ?_ (Foot.le_trans (by decide) hF)
    exact h
  try clear_value y7
  refine Foot.ite_leaves ?_ ?_
  · refine rpEnd_leaves ?_ (Foot.le_trans (by decide) hF)
    exact h7
  · refine Foot.ite_leaves ?_ ?_
    · refine rpEnd_leaves ?_ (Foot.le_trans (by decide) hF)
      exact h7
    · exact h7

theorem rpChunk_leaves {F : Foot} {a₀ : State} {s : State} {c : RpChunk} (h : F.leaves a₀ s) (hF : Foot.le ⟨0x10000, [0x8001], [.rcd]⟩ F = true) :
    F.leaves a₀ (rpChunk s c) := by
  unfold rpChunk
  extract_lets +onlyGivenNames -merge -useContext -underBinder y0
  try clear_value y0
  refine Foot.ite_leaves ?_ ?_
  · refine rpEnd_leaves ?_ (Foot.le_trans (by decide) hF)
    exact h
  · refine Foot.ite_leaves ?_ ?_
    · refine rpRun_leaves ?_ (Foot.le_trans (by decide) hF)
      exact h
    · refine rpRun_leaves ?_ (Foot.le_trans (by decide) hF)
      exact h

/-! ### RecorderCmd -/

theorem flushDue_leaves {F : Foot} {a₀ : State} {s : State} {t : Tick} (h : F.leaves a₀ s) (hF : Foot.le ⟨0x10000, [0x8000], [.rcd, .tx]⟩ F = true) :
    F.leaves a₀ (flushDue s t) := by
  unfold flushDue
  refine Foot.ite_leaves ?_ ?_
  · refine recKick_leaves ?_ (Foot.le_trans (by decide) hF)
    refine closeChunk_leaves ?_ (Foot.le_trans (by decide) hF)
    exact h
  · exact h

theorem nvEnd_leaves {F : Foot} {a₀ : State} {s : State} {ok : Bool} {t : Tick} (h : F.leaves a₀ s) (hF : Foot.le ⟨0x10000, [0x8000], [.rcd, .tx]⟩ F = true) :
    F.leaves a₀ (nvEnd s ok t) := by
  unfold nvEnd
  split
  · refine Foot.ite_leaves ?_ ?_
    · exact h
    · refine Foot.ite_leaves ?_ ?_
      · refine cmdOk_leaves ?_ (Foot.le_trans (by decide) hF)
        exact h
      · refine cmdBad_leaves ?_ (Foot.le_trans (by decide) hF)
        exact h
  · exact h

theorem nvLate_leaves {F : Foot} {a₀ : State} {s : State} {t : Tick} (h : F.leaves a₀ s) (hF : Foot.le ⟨0x10000, [0x8000], [.rcd]⟩ F = true) :
    F.leaves a₀ (nvLate s t) := by
  unfold nvLate
  split
  · refine Foot.ite_leaves ?_ ?_
    · refine cmdBad_leaves ?_ (Foot.le_trans (by decide) hF)
      exact h
    · exact h
  · exact h

theorem nvRetry_leaves {F : Foot} {a₀ : State} {s : State} {t : Tick} (h : F.leaves a₀ s) (hF : Foot.le ⟨0x10000, [], [.rcd, .tx]⟩ F = true) :
    F.leaves a₀ (nvRetry s t) := by
  unfold nvRetry
  split
  · split
    · refine Foot.ite_leaves ?_ ?_
      · refine issue_leaves ?_ (Foot.le_trans (by decide) hF)
        exact h
      · exact h
    · exact h
  · exact h

theorem headerAtDue_leaves {F : Foot} {a₀ : State} {s : State} {t : Tick} (h : F.leaves a₀ s) (hF : Foot.le ⟨0x10000, [0x8000], [.rcd, .tx]⟩ F = true) :
    F.leaves a₀ (headerAtDue s t) := by
  unfold headerAtDue
  refine Foot.ite_leaves ?_ ?_
  · refine recKick_leaves ?_ (Foot.le_trans (by decide) hF)
    refine headerDue_leaves ?_ (Foot.le_trans (by decide) hF)
    exact h
  · exact h

theorem scanDone_leaves {F : Foot} {a₀ : State} {s : State} {d : DriveInfo} {next : Nat} {t : Tick} (h : F.leaves a₀ s) (hF : Foot.le ⟨0x10000, [0x8000], [.rcd, .tx]⟩ F = true) :
    F.leaves a₀ (scanDone s d next t) := by
  unfold scanDone
  refine Foot.ite_leaves ?_ ?_
  · extract_lets +onlyGivenNames -merge -useContext -underBinder y0
    have h0 : F.leaves a₀ y0 := by
      refine setBit_leaves ?_ (Foot.rec_const hF (by decide))
      refine driveSeen_leaves ?_ (Foot.le_trans (by decide) hF)
      exact h
    try clear_value y0
    extract_lets +onlyGivenNames -merge -useContext -underBinder y1
    have h1 : F.leaves a₀ y1 := by
      refine Foot.ite_leaves ?_ ?_
      · exact h0
      · refine storeOpen_leaves ?_ (Foot.le_trans (by decide) hF)
        exact h0
    try clear_value y1
    extract_lets +onlyGivenNames -merge -useContext -underBinder y2
    have h2 : F.leaves a₀ y2 := by
      refine when_leaves ?_ fun z3 h3 => ?_
      · exact h1
      · refine setBit_leaves ?_ (Foot.rec_const hF (by decide))
        exact h3
    try clear_value y2
    extract_lets +onlyGivenNames -merge -useContext -underBinder y4
    have h4 : F.leaves a₀ y4 := by
      refine Foot.ite_leaves ?_ ?_
      · exact h2
      · refine shedEnd_leaves ?_ (Foot.le_trans (by decide) hF)
        exact h2
    try clear_value y4
    refine recKick_leaves ?_ (Foot.le_trans (by decide) hF)
    exact h4
  · exact h

theorem ckptDue_leaves {F : Foot} {a₀ : State} {s : State} {t : Tick} (h : F.leaves a₀ s) (hF : Foot.le ⟨0x10000, [0x8000], [.rcd]⟩ F = true) :
    F.leaves a₀ (ckptDue s t) := by
  unfold ckptDue
  refine Foot.ite_leaves ?_ ?_
  · refine checkpoint_leaves ?_ (Foot.le_trans (by decide) hF)
    exact h
  · exact h

theorem snapDueAll_leaves {F : Foot} {a₀ : State} {s : State} {t : Tick} (h : F.leaves a₀ s) (hF : Foot.le ⟨0x10000, [], [.rcd]⟩ F = true) :
    F.leaves a₀ (snapDueAll s t) := by
  unfold snapDueAll
  refine Foot.ite_leaves ?_ ?_
  · refine modRec_leaves ?_ (Foot.le_trans (by decide) hF)
    refine Foot.foldl_leaves ?_ fun z0 i0 h0 => ?_
    · exact h
    · refine snapWant_leaves ?_ (Foot.le_trans (by decide) hF)
      exact h0
  · exact h

theorem seekDone_leaves {F : Foot} {a₀ : State} {s : State} {found : Bool} (h : F.leaves a₀ s) (hF : Foot.le ⟨0x10000, [0x8001], []⟩ F = true) :
    F.leaves a₀ (seekDone s found) := by
  unfold seekDone
  refine Foot.ite_leaves ?_ ?_
  · refine Foot.ite_leaves ?_ ?_
    · refine set_leaves ?_ (Foot.rec_const hF (by decide))
      exact h
    · refine rpEnd_leaves ?_ (Foot.le_trans (by decide) hF)
      exact h
  · exact h

theorem rpNext_leaves {F : Foot} {a₀ : State} {s : State} {c : RpChunk} (h : F.leaves a₀ s) (hF : Foot.le ⟨0x10000, [0x8001], [.rcd]⟩ F = true) :
    F.leaves a₀ (rpNext s c) := by
  unfold rpNext
  refine Foot.ite_leaves ?_ ?_
  · refine rpChunk_leaves ?_ (Foot.le_trans (by decide) hF)
    exact h
  · exact h

theorem execJEn_leaves {F : Foot} {t : Tick} {who : Principal} {v : Nat} {d : DriveInfo} {s : State} (hF : Foot.le ⟨0x10000, [0x8000, 0x2000], [.tb, .rcd, .tx, .resp]⟩ F = true) :
    ∃ u, execJEn t who v d s = .next u.settle ∧ F.leaves (s.advance t) u := by
  refine ⟨_, rfl, ?_⟩
  have h0 : F.leaves (s.advance t) (s.advance t) := .refl
  generalize s.advance t = a₀ at *
  beta_reduce
  refine jEnWrite_leaves ?_ (Foot.le_trans (by decide) hF)
  exact h0

theorem execStoreInit_leaves {F : Foot} {t : Tick} {who : Principal} {v : Nat} {d : DriveInfo} {s : State} (hF : Foot.le ⟨0x10000, [0x8000, 0x2000], [.tb, .rcd, .tx, .resp]⟩ F = true) :
    ∃ u, execStoreInit t who v d s = .next u.settle ∧ F.leaves (s.advance t) u := by
  refine ⟨_, rfl, ?_⟩
  have h0 : F.leaves (s.advance t) (s.advance t) := .refl
  generalize s.advance t = a₀ at *
  beta_reduce
  refine storeInitWrite_leaves ?_ (Foot.le_trans (by decide) hF)
  exact h0

theorem execJFlushExpiry_leaves {F : Foot} {t : Tick} {s : State} (hF : Foot.le ⟨0x10000, [0x8000], [.rcd, .tx]⟩ F = true) :
    ∃ u, execJFlushExpiry t s = .next u.settle ∧ F.leaves (s.advance t) u := by
  refine ⟨_, rfl, ?_⟩
  have h0 : F.leaves (s.advance t) (s.advance t) := .refl
  generalize s.advance t = a₀ at *
  beta_reduce
  refine flushDue_leaves ?_ (Foot.le_trans (by decide) hF)
  exact h0

theorem execNvmeCmdComplete_leaves {F : Foot} {t : Tick} {ok : Bool} {s : State} (hF : Foot.le ⟨0x10000, [0x8000], [.rcd, .tx]⟩ F = true) :
    ∃ u, execNvmeCmdComplete t ok s = .next u.settle ∧ F.leaves (s.advance t) u := by
  refine ⟨_, rfl, ?_⟩
  have h0 : F.leaves (s.advance t) (s.advance t) := .refl
  generalize s.advance t = a₀ at *
  beta_reduce
  refine nvEnd_leaves ?_ (Foot.le_trans (by decide) hF)
  exact h0

theorem execNvmeCmdTimeout_leaves {F : Foot} {t : Tick} {s : State} (hF : Foot.le ⟨0x10000, [0x8000], [.rcd]⟩ F = true) :
    ∃ u, execNvmeCmdTimeout t s = .next u.settle ∧ F.leaves (s.advance t) u := by
  refine ⟨_, rfl, ?_⟩
  have h0 : F.leaves (s.advance t) (s.advance t) := .refl
  generalize s.advance t = a₀ at *
  beta_reduce
  refine nvLate_leaves ?_ (Foot.le_trans (by decide) hF)
  exact h0

theorem execNvmeRetry_leaves {F : Foot} {t : Tick} {s : State} (hF : Foot.le ⟨0x10000, [], [.rcd, .tx]⟩ F = true) :
    ∃ u, execNvmeRetry t s = .next u.settle ∧ F.leaves (s.advance t) u := by
  refine ⟨_, rfl, ?_⟩
  have h0 : F.leaves (s.advance t) (s.advance t) := .refl
  generalize s.advance t = a₀ at *
  beta_reduce
  refine nvRetry_leaves ?_ (Foot.le_trans (by decide) hF)
  exact h0

theorem execHeaderCommitDue_leaves {F : Foot} {t : Tick} {s : State} (hF : Foot.le ⟨0x10000, [0x8000], [.rcd, .tx]⟩ F = true) :
    ∃ u, execHeaderCommitDue t s = .next u.settle ∧ F.leaves (s.advance t) u := by
  refine ⟨_, rfl, ?_⟩
  have h0 : F.leaves (s.advance t) (s.advance t) := .refl
  generalize s.advance t = a₀ at *
  beta_reduce
  refine headerAtDue_leaves ?_ (Foot.le_trans (by decide) hF)
  exact h0

theorem execJournalScanDone_leaves {F : Foot} {t : Tick} {d : DriveInfo} {next : Nat} {s : State} (hF : Foot.le ⟨0x10000, [0x8000], [.rcd, .tx]⟩ F = true) :
    ∃ u, execJournalScanDone t d next s = .next u.settle ∧ F.leaves (s.advance t) u := by
  refine ⟨_, rfl, ?_⟩
  have h0 : F.leaves (s.advance t) (s.advance t) := .refl
  generalize s.advance t = a₀ at *
  beta_reduce
  refine scanDone_leaves ?_ (Foot.le_trans (by decide) hF)
  exact h0

theorem execCheckpointDue_leaves {F : Foot} {t : Tick} {s : State} (hF : Foot.le ⟨0x10000, [0x8000], [.rcd]⟩ F = true) :
    ∃ u, execCheckpointDue t s = .next u.settle ∧ F.leaves (s.advance t) u := by
  refine ⟨_, rfl, ?_⟩
  have h0 : F.leaves (s.advance t) (s.advance t) := .refl
  generalize s.advance t = a₀ at *
  beta_reduce
  refine ckptDue_leaves ?_ (Foot.le_trans (by decide) hF)
  exact h0

theorem execJ2SnapDue_leaves {F : Foot} {t : Tick} {s : State} (hF : Foot.le ⟨0x10000, [], [.rcd]⟩ F = true) :
    ∃ u, execJ2SnapDue t s = .next u.settle ∧ F.leaves (s.advance t) u := by
  refine ⟨_, rfl, ?_⟩
  have h0 : F.leaves (s.advance t) (s.advance t) := .refl
  generalize s.advance t = a₀ at *
  beta_reduce
  refine snapDueAll_leaves ?_ (Foot.le_trans (by decide) hF)
  exact h0

theorem execOffloaded_leaves {F : Foot} {t : Tick} {who : Principal} {v : Nat} {s : State} (hF : Foot.le ⟨0x10000, [0x8000, 0x2000], [.rcd, .tx, .resp]⟩ F = true) :
    ∃ u, execOffloaded t who v s = .next u.settle ∧ F.leaves (s.advance t) u := by
  refine ⟨_, rfl, ?_⟩
  have h0 : F.leaves (s.advance t) (s.advance t) := .refl
  generalize s.advance t = a₀ at *
  beta_reduce
  refine offloadedWrite_leaves ?_ (Foot.le_trans (by decide) hF)
  exact h0

theorem execRpCtrlStart_leaves {F : Foot} {t : Tick} {who : Principal} {s : State} (hF : Foot.le ⟨0x10000, [0x8001, 0x8000, 0x2000], [.rcd, .resp]⟩ F = true) :
    ∃ u, execRpCtrlStart t who s = .next u.settle ∧ F.leaves (s.advance t) u := by
  refine ⟨_, rfl, ?_⟩
  have h0 : F.leaves (s.advance t) (s.advance t) := .refl
  generalize s.advance t = a₀ at *
  beta_reduce
  refine rpCtrlWrite_leaves ?_ (Foot.le_trans (by decide) hF)
  exact h0

theorem execRpCtrlStop_leaves {F : Foot} {t : Tick} {who : Principal} {s : State} (hF : Foot.le ⟨0x10000, [0x8001, 0x8000, 0x2000], [.rcd, .resp]⟩ F = true) :
    ∃ u, execRpCtrlStop t who s = .next u.settle ∧ F.leaves (s.advance t) u := by
  refine ⟨_, rfl, ?_⟩
  have h0 : F.leaves (s.advance t) (s.advance t) := .refl
  generalize s.advance t = a₀ at *
  beta_reduce
  refine rpCtrlWrite_leaves ?_ (Foot.le_trans (by decide) hF)
  exact h0

theorem execReplaySeekDone_leaves {F : Foot} {t : Tick} {found : Bool} {s : State} (hF : Foot.le ⟨0x10000, [0x8001], []⟩ F = true) :
    ∃ u, execReplaySeekDone t found s = .next u.settle ∧ F.leaves (s.advance t) u := by
  refine ⟨_, rfl, ?_⟩
  have h0 : F.leaves (s.advance t) (s.advance t) := .refl
  generalize s.advance t = a₀ at *
  beta_reduce
  refine seekDone_leaves ?_ (Foot.le_trans (by decide) hF)
  exact h0

theorem execReplayChunkAvailable_leaves {F : Foot} {t : Tick} {c : RpChunk} {s : State} (hF : Foot.le ⟨0x10000, [0x8001], [.rcd]⟩ F = true) :
    ∃ u, execReplayChunkAvailable t c s = .next u.settle ∧ F.leaves (s.advance t) u := by
  refine ⟨_, rfl, ?_⟩
  have h0 : F.leaves (s.advance t) (s.advance t) := .refl
  generalize s.advance t = a₀ at *
  beta_reduce
  refine rpNext_leaves ?_ (Foot.le_trans (by decide) hF)
  exact h0

/-! ### RailsCmd -/

theorem pollDue_leaves {F : Foot} {a₀ : State} {s : State} {t : Tick} (h : F.leaves a₀ s) (hF : Foot.le ⟨0x10000, [], [.rail, .tx]⟩ F = true) :
    F.leaves a₀ (pollDue s t) := by
  unfold pollDue
  refine Foot.ite_leaves ?_ ?_
  · refine pmbPoll_leaves ?_ (Foot.le_trans (by decide) hF)
    exact h
  · exact h

theorem alertAt_leaves {F : Foot} {a₀ : State} {s : State} (h : F.leaves a₀ s) (hF : Foot.le ⟨0x10000, [], [.rail, .tx]⟩ F = true) :
    F.leaves a₀ (alertAt s) := by
  unfold alertAt
  refine Foot.ite_leaves ?_ ?_
  · refine pmbAlert_leaves ?_ (Foot.le_trans (by decide) hF)
    exact h
  · exact h

theorem execPmbPoll_leaves {F : Foot} {t : Tick} {s : State} (hF : Foot.le ⟨0x10000, [], [.rail, .tx]⟩ F = true) :
    ∃ u, execPmbPoll t s = .next u.settle ∧ F.leaves (s.advance t) u := by
  refine ⟨_, rfl, ?_⟩
  have h0 : F.leaves (s.advance t) (s.advance t) := .refl
  generalize s.advance t = a₀ at *
  beta_reduce
  refine pollDue_leaves ?_ (Foot.le_trans (by decide) hF)
  exact h0

theorem execPmbAlert_leaves {F : Foot} {t : Tick} {s : State} (hF : Foot.le ⟨0x10000, [], [.rail, .tx]⟩ F = true) :
    ∃ u, execPmbAlert t s = .next u.settle ∧ F.leaves (s.advance t) u := by
  refine ⟨_, rfl, ?_⟩
  have h0 : F.leaves (s.advance t) (s.advance t) := .refl
  generalize s.advance t = a₀ at *
  beta_reduce
  refine alertAt_leaves ?_ (Foot.le_trans (by decide) hF)
  exact h0

theorem execPmbTransactionDone_leaves {F : Foot} {t : Tick} {ok : Bool} {data : Nat} {s : State} (hF : Foot.le ⟨0x2010, [0x2001], [.groups, .rail, .tx]⟩ F = true) :
    ∃ u, execPmbTransactionDone t ok data s = .next u.settle ∧ F.leaves (s.advance t) u := by
  refine ⟨_, rfl, ?_⟩
  have h0 : F.leaves (s.advance t) (s.advance t) := .refl
  generalize s.advance t = a₀ at *
  beta_reduce
  refine pmbDone_leaves ?_ (Foot.le_trans (by decide) hF)
  exact h0

theorem execRailOn_leaves {F : Foot} {t : Tick} {who : Principal} {n : RailId} {v : Nat} {s : State} (hF : Foot.le ⟨0x10000, [0x8000, 0x2000], [.rcd, .rail, .tx, .resp]⟩ F = true) (r0 : F.covers (0x2010 + ↑n)) :
    ∃ u, execRailOn t who n v s = .next u.settle ∧ F.leaves (s.advance t) u := by
  refine ⟨_, rfl, ?_⟩
  have h0 : F.leaves (s.advance t) (s.advance t) := .refl
  generalize s.advance t = a₀ at *
  beta_reduce
  refine railOnWrite_leaves ?_ (Foot.le_trans (by decide) hF) r0
  exact h0

theorem execRailPgTimeout_leaves {F : Foot} {t : Tick} {n : RailId} {s : State} (hF : Foot.le ⟨0x2010, [0x2001], [.groups, .rail, .tx]⟩ F = true) :
    ∃ u, execRailPgTimeout t n s = .next u.settle ∧ F.leaves (s.advance t) u := by
  refine ⟨_, rfl, ?_⟩
  have h0 : F.leaves (s.advance t) (s.advance t) := .refl
  generalize s.advance t = a₀ at *
  beta_reduce
  refine railTimeout_leaves ?_ (Foot.le_trans (by decide) hF)
  exact h0

theorem execRailDelayEnd_leaves {F : Foot} {t : Tick} {n : RailId} {s : State} (hF : Foot.le ⟨0x2010, [], [.rail, .tx]⟩ F = true) :
    ∃ u, execRailDelayEnd t n s = .next u.settle ∧ F.leaves (s.advance t) u := by
  refine ⟨_, rfl, ?_⟩
  have h0 : F.leaves (s.advance t) (s.advance t) := .refl
  generalize s.advance t = a₀ at *
  beta_reduce
  refine seqDelayEnd_leaves ?_ (Foot.le_trans (by decide) hF)
  exact h0

/-! ### FirmwareCmd -/

theorem coreRestarted_leaves {F : Foot} {a₀ : State} {s : State} {t : Tick} (h : F.leaves a₀ s) (hF : Foot.le ⟨0x1000, [], [.age, .fwx]⟩ F = true) :
    F.leaves a₀ (coreRestarted s t) := by
  unfold coreRestarted
  refine Foot.ite_leaves ?_ ?_
  · refine fwCoreDone_leaves ?_ (Foot.le_trans (by decide) hF)
    exact h
  · exact h

theorem execFwImage_leaves {F : Foot} {t : Tick} {who : Principal} {img : FwImage} {s : State} (hF : Foot.le ⟨0x10000, [0x2002, 0x2000], [.fwx, .resp]⟩ F = true) :
    ∃ u, execFwImage t who img s = .next u.settle ∧ F.leaves (s.advance t) u := by
  refine ⟨_, rfl, ?_⟩
  have h0 : F.leaves (s.advance t) (s.advance t) := .refl
  generalize s.advance t = a₀ at *
  beta_reduce
  refine fwImageWrite_leaves ?_ (Foot.le_trans (by decide) hF)
  exact h0

theorem execFwStoreDone_leaves {F : Foot} {t : Tick} {ok : Bool} {s : State} (hF : Foot.le ⟨0x10000, [0x2002, 0x2700], [.micro, .fwx, .tx]⟩ F = true) :
    ∃ u, execFwStoreDone t ok s = .next u.settle ∧ F.leaves (s.advance t) u := by
  refine ⟨_, rfl, ?_⟩
  have h0 : F.leaves (s.advance t) (s.advance t) := .refl
  generalize s.advance t = a₀ at *
  beta_reduce
  refine fwStored_leaves ?_ (Foot.le_trans (by decide) hF)
  exact h0

theorem execActivate_leaves {F : Foot} {t : Tick} {who : Principal} {s : State} (hF : Foot.le ⟨0x10000, [0x2002, 0x8000, 0x2000], [.micro, .rcd, .fwx, .resp]⟩ F = true) :
    ∃ u, execActivate t who s = .next u.settle ∧ F.leaves (s.advance t) u := by
  refine ⟨_, rfl, ?_⟩
  have h0 : F.leaves (s.advance t) (s.advance t) := .refl
  generalize s.advance t = a₀ at *
  beta_reduce
  refine fwCtrlWrite_leaves ?_ (Foot.le_trans (by decide) hF)
  exact h0

theorem execResetActivate_leaves {F : Foot} {t : Tick} {who : Principal} {s : State} (hF : Foot.le ⟨0x10000, [0x2002, 0x8000, 0x2000], [.micro, .rcd, .fwx, .resp]⟩ F = true) :
    ∃ u, execResetActivate t who s = .next u.settle ∧ F.leaves (s.advance t) u := by
  refine ⟨_, rfl, ?_⟩
  have h0 : F.leaves (s.advance t) (s.advance t) := .refl
  generalize s.advance t = a₀ at *
  beta_reduce
  refine fwCtrlWrite_leaves ?_ (Foot.le_trans (by decide) hF)
  exact h0

theorem execCoreRestartDone_leaves {F : Foot} {t : Tick} {s : State} (hF : Foot.le ⟨0x1000, [], [.age, .fwx]⟩ F = true) :
    ∃ u, execCoreRestartDone t s = .next u.settle ∧ F.leaves (s.advance t) u := by
  refine ⟨_, rfl, ?_⟩
  have h0 : F.leaves (s.advance t) (s.advance t) := .refl
  generalize s.advance t = a₀ at *
  beta_reduce
  refine coreRestarted_leaves ?_ (Foot.le_trans (by decide) hF)
  exact h0

/-! ### LoopCmd -/

theorem loopFlush_leaves {F : Foot} {a₀ : State} {s : State} {p : Nat} {t : Tick} (h : F.leaves a₀ s) (hF : Foot.le ⟨0x2380, [], [.ports, .groups, .spad, .mem]⟩ F = true) :
    F.leaves a₀ (loopFlush s p t) := by
  unfold loopFlush
  extract_lets +onlyGivenNames -merge -useContext -underBinder y0
  try clear_value y0
  refine Foot.ite_leaves ?_ ?_
  · refine closeLoop_leaves ?_ (Foot.le_trans (by decide) hF)
    exact h
  · exact h

theorem execLoopTick_leaves {F : Foot} {t : Tick} {p : PortId} {s : State} (hF : Foot.le ⟨0x2380, [0x1220, 0x1221, 0x1222, 0x1223, 0x2000, 0x2001], [.blobs, .ports, .groups, .slices, .micro, .fab, .scan, .spad, .mem, .mc, .cal, .od, .net, .pcie, .rcd, .pwr, .nv, .tx]⟩ F = true) :
    ∃ u, execLoopTick t p s = .next u.settle ∧ F.leaves (s.advance t) u := by
  refine ⟨_, rfl, ?_⟩
  have h0 : F.leaves (s.advance t) (s.advance t) := .refl
  generalize s.advance t = a₀ at *
  beta_reduce
  refine loopTick_leaves ?_ (Foot.le_trans (by decide) hF)
  exact h0

theorem execLoopFlushExpiry_leaves {F : Foot} {t : Tick} {p : PortId} {s : State} (hF : Foot.le ⟨0x2380, [], [.ports, .groups, .spad, .mem]⟩ F = true) :
    ∃ u, execLoopFlushExpiry t p s = .next u.settle ∧ F.leaves (s.advance t) u := by
  refine ⟨_, rfl, ?_⟩
  have h0 : F.leaves (s.advance t) (s.advance t) := .refl
  generalize s.advance t = a₀ at *
  beta_reduce
  refine loopFlush_leaves ?_ (Foot.le_trans (by decide) hF)
  exact h0

theorem execLmVisit_leaves {F : Foot} {t : Tick} {pipe : Fin 4} {s : State} (hF : Foot.le ⟨0x4000, [], [.ports, .lm]⟩ F = true) :
    ∃ u, execLmVisit t pipe s = .next u.settle ∧ F.leaves (s.advance t) u := by
  refine ⟨_, rfl, ?_⟩
  have h0 : F.leaves (s.advance t) (s.advance t) := .refl
  generalize s.advance t = a₀ at *
  beta_reduce
  refine lmVisitAt_leaves ?_ (Foot.le_trans (by decide) hF)
  exact h0

/-! ### Power -/

theorem supplyRise_leaves {F : Foot} {a₀ : State} {s : State} {t : Tick} (h : F.leaves a₀ s) (hF : Foot.le ⟨0x0, [], [.now, .blobs, .ports, .groups, .slices, .micro, .fab, .scan, .tb, .spad, .mem, .mc, .cal, .age, .od, .net, .pcie, .rcd, .pwr, .fwx, .rail, .lm, .sec, .nv, .tx, .resp]⟩ F = true) :
    F.leaves a₀ (supplyRise s t) := by
  unfold supplyRise
  extract_lets +onlyGivenNames -merge -useContext -underBinder u0_0 y0
  have h0 : F.leaves a₀ y0 := by
    exact { h with pwr := .inl (Foot.part hF (by decide)) }
  try clear_value y0
  refine deviceReset_leaves ?_ (Foot.le_trans (by decide) hF)
  exact h0

theorem resetPulse_leaves {F : Foot} {a₀ : State} {s : State} {width : Nat} {t : Tick} (h : F.leaves a₀ s) (hF : Foot.le ⟨0x0, [], [.now, .blobs, .ports, .groups, .slices, .micro, .fab, .scan, .tb, .spad, .mem, .mc, .cal, .age, .od, .net, .pcie, .rcd, .pwr, .fwx, .rail, .lm, .sec, .nv, .tx, .resp]⟩ F = true) :
    F.leaves a₀ (resetPulse s width t) := by
  unfold resetPulse
  refine Foot.ite_leaves ?_ ?_
  · exact h
  · refine Foot.ite_leaves ?_ ?_
    · refine standbyWake_leaves ?_ (Foot.le_trans (by decide) hF)
      exact h
    · refine deviceReset_leaves ?_ (Foot.le_trans (by decide) hF)
      exact h

theorem brownOutReset_leaves {F : Foot} {a₀ : State} {s : State} {t : Tick} (h : F.leaves a₀ s) (hF : Foot.le ⟨0x0, [], [.now, .blobs, .ports, .groups, .slices, .micro, .fab, .scan, .tb, .spad, .mem, .mc, .cal, .age, .od, .net, .pcie, .rcd, .pwr, .fwx, .rail, .lm, .sec, .nv, .tx, .resp]⟩ F = true) :
    F.leaves a₀ (brownOutReset s t) := by
  unfold brownOutReset
  refine Foot.ite_leaves ?_ ?_
  · exact h
  · refine deviceReset_leaves ?_ (Foot.le_trans (by decide) hF)
    exact h

theorem analogValid_leaves {F : Foot} {a₀ : State} {s : State} {t : Tick} (h : F.leaves a₀ s) (hF : Foot.le ⟨0x10000, [], [.pwr]⟩ F = true) :
    F.leaves a₀ (analogValid s t) := by
  unfold analogValid
  refine Foot.ite_leaves ?_ ?_
  · refine modPwr_leaves ?_ (Foot.le_trans (by decide) hF)
    exact h
  · exact h

theorem stageWaitEnd_leaves {F : Foot} {a₀ : State} {s : State} {t : Tick} (h : F.leaves a₀ s) (hF : Foot.le ⟨0x4000, [], [.ports, .rcd, .pwr, .tx]⟩ F = true) :
    F.leaves a₀ (stageWaitEnd s t) := by
  unfold stageWaitEnd
  split
  · refine Foot.ite_leaves ?_ ?_
    · refine analogOn_leaves ?_ (Foot.le_trans (by decide) hF)
      exact h
    · exact h
  · exact h

theorem resetRise_leaves {F : Foot} {a₀ : State} {s : State} {sel : Bool} {t : Tick} (h : F.leaves a₀ s) (hF : Foot.le ⟨0x10000, [0x2001], [.pwr]⟩ F = true) :
    F.leaves a₀ (resetRise s sel t) := by
  unfold resetRise
  refine Foot.ite_leaves ?_ ?_
  · refine bootStart_leaves ?_ (Foot.le_trans (by decide) hF)
    refine modPwr_leaves ?_ (Foot.le_trans (by decide) hF)
    exact h
  · exact h

theorem innerRelease_leaves {F : Foot} {a₀ : State} {s : State} {t : Tick} (h : F.leaves a₀ s) (hF : Foot.le ⟨0x10000, [0x2001], [.pwr]⟩ F = true) :
    F.leaves a₀ (innerRelease s t) := by
  unfold innerRelease
  refine Foot.ite_leaves ?_ ?_
  · refine bootStart_leaves ?_ (Foot.le_trans (by decide) hF)
    exact h
  · refine Foot.ite_leaves ?_ ?_
    · refine bootStart_leaves ?_ (Foot.le_trans (by decide) hF)
      exact h
    · exact h

theorem lockNow_leaves {F : Foot} {a₀ : State} {s : State} {t : Tick} (h : F.leaves a₀ s) (hF : Foot.le ⟨0x10000, [0x2100, 0x8000], [.now, .tb, .rcd, .pwr]⟩ F = true) :
    F.leaves a₀ (lockNow s t) := by
  unfold lockNow
  refine Foot.ite_leaves ?_ ?_
  · refine bootLock_leaves ?_ (Foot.le_trans (by decide) hF)
    exact h
  · exact h

theorem clearNow_leaves {F : Foot} {a₀ : State} {s : State} {t : Tick} (h : F.leaves a₀ s) (hF : Foot.le ⟨0x0, [], [.blobs, .ports, .slices, .micro, .scan, .tb, .spad, .mem, .mc, .cal, .od, .rcd, .pwr, .sec, .nv, .tx]⟩ F = true) :
    F.leaves a₀ (clearNow s t) := by
  unfold clearNow
  refine Foot.ite_leaves ?_ ?_
  · refine clearEnd_leaves ?_ (Foot.le_trans (by decide) hF)
    exact h
  · exact h

theorem wakeUp_leaves {F : Foot} {a₀ : State} {s : State} {t : Tick} (h : F.leaves a₀ s) (hF : Foot.le ⟨0x3000, [0x2001, 0x2000], [.ports, .groups, .slices, .micro, .rcd, .pwr, .nv, .tx]⟩ F = true) :
    F.leaves a₀ (wakeUp s t) := by
  unfold wakeUp
  refine Foot.ite_leaves ?_ ?_
  · refine standbyWake_leaves ?_ (Foot.le_trans (by decide) hF)
    exact h
  · refine Foot.ite_leaves ?_ ?_
    · refine idleWake_leaves ?_ (Foot.le_trans (by decide) hF)
      exact h
    · exact h

theorem pfwFall_leaves {F : Foot} {a₀ : State} {s : State} {t : Tick} (h : F.leaves a₀ s) (hF : Foot.le ⟨0x3000, [0x2001, 0x2000], [.ports, .groups, .slices, .micro, .cal, .rcd, .pwr, .nv, .tx]⟩ F = true) :
    F.leaves a₀ (pfwFall s t) := by
  unfold pfwFall
  refine Foot.ite_leaves ?_ ?_
  · exact h
  · extract_lets +onlyGivenNames -merge -useContext -underBinder y0
    have h0 : F.leaves a₀ y0 := by
      refine setBit_leaves ?_ (Foot.rec_const hF (by decide))
      refine modPwr_leaves ?_ (Foot.le_trans (by decide) hF)
      exact h
    try clear_value y0
    refine Foot.ite_leaves ?_ ?_
    · refine pfwActions_leaves ?_ (Foot.le_trans (by decide) hF)
      exact h0
    · exact h0

theorem pfwRise_leaves {F : Foot} {a₀ : State} {s : State} {t : Tick} (h : F.leaves a₀ s) (hF : Foot.le ⟨0x4000, [0x2001], [.ports, .rcd, .pwr, .tx]⟩ F = true) :
    F.leaves a₀ (pfwRise s t) := by
  unfold pfwRise
  refine Foot.ite_leaves ?_ ?_
  · refine pfwOver_leaves ?_ (Foot.le_trans (by decide) hF)
    refine setBit_leaves ?_ (Foot.rec_const hF (by decide))
    refine modPwr_leaves ?_ (Foot.le_trans (by decide) hF)
    exact h
  · exact h

theorem gateStepDue_leaves {F : Foot} {a₀ : State} {s : State} {g : Nat} {bad : Bool} {t : Tick} (h : F.leaves a₀ s) (hF : Foot.le ⟨0x2010, [0x2000, 0x2001], [.ports, .groups, .slices, .micro, .cal, .rcd, .pwr, .rail, .nv, .tx]⟩ F = true) :
    F.leaves a₀ (gateStepDue s g bad t) := by
  unfold gateStepDue
  refine Foot.ite_leaves ?_ ?_
  · refine gateStepEnd_leaves ?_ (Foot.le_trans (by decide) hF)
    exact h
  · exact h

theorem execPowerOn_leaves {F : Foot} {t : Tick} {s : State} (hF : Foot.le ⟨0x0, [], [.now, .blobs, .ports, .groups, .slices, .micro, .fab, .scan, .tb, .spad, .mem, .mc, .cal, .age, .od, .net, .pcie, .rcd, .pwr, .fwx, .rail, .lm, .sec, .nv, .tx, .resp]⟩ F = true) :
    ∃ u, execPowerOn t s = .next u.settle ∧ F.leaves (s.advance t) u := by
  refine ⟨_, rfl, ?_⟩
  have h0 : F.leaves (s.advance t) (s.advance t) := .refl
  generalize s.advance t = a₀ at *
  beta_reduce
  refine supplyRise_leaves ?_ (Foot.le_trans (by decide) hF)
  exact h0

theorem execResetNLow_leaves {F : Foot} {t : Tick} {width : Nat} {s : State} (hF : Foot.le ⟨0x0, [], [.now, .blobs, .ports, .groups, .slices, .micro, .fab, .scan, .tb, .spad, .mem, .mc, .cal, .age, .od, .net, .pcie, .rcd, .pwr, .fwx, .rail, .lm, .sec, .nv, .tx, .resp]⟩ F = true) :
    ∃ u, execResetNLow t width s = .next u.settle ∧ F.leaves (s.advance t) u := by
  refine ⟨_, rfl, ?_⟩
  have h0 : F.leaves (s.advance t) (s.advance t) := .refl
  generalize s.advance t = a₀ at *
  beta_reduce
  refine resetPulse_leaves ?_ (Foot.le_trans (by decide) hF)
  exact h0

theorem execBrownOut_leaves {F : Foot} {t : Tick} {s : State} (hF : Foot.le ⟨0x0, [], [.now, .blobs, .ports, .groups, .slices, .micro, .fab, .scan, .tb, .spad, .mem, .mc, .cal, .age, .od, .net, .pcie, .rcd, .pwr, .fwx, .rail, .lm, .sec, .nv, .tx, .resp]⟩ F = true) :
    ∃ u, execBrownOut t s = .next u.settle ∧ F.leaves (s.advance t) u := by
  refine ⟨_, rfl, ?_⟩
  have h0 : F.leaves (s.advance t) (s.advance t) := .refl
  generalize s.advance t = a₀ at *
  beta_reduce
  refine brownOutReset_leaves ?_ (Foot.le_trans (by decide) hF)
  exact h0

theorem execAnalogSupplyLoss_leaves {F : Foot} {t : Tick} {s : State} (hF : Foot.le ⟨0x3000, [0x2000, 0x2001], [.ports, .groups, .slices, .micro, .cal, .rcd, .pwr, .nv, .tx]⟩ F = true) :
    ∃ u, execAnalogSupplyLoss t s = .next u.settle ∧ F.leaves (s.advance t) u := by
  refine ⟨_, rfl, ?_⟩
  have h0 : F.leaves (s.advance t) (s.advance t) := .refl
  generalize s.advance t = a₀ at *
  beta_reduce
  refine analogLoss_leaves ?_ (Foot.le_trans (by decide) hF)
  exact h0

theorem execAnalogSupplyValid_leaves {F : Foot} {t : Tick} {s : State} (hF : Foot.le ⟨0x10000, [], [.pwr]⟩ F = true) :
    ∃ u, execAnalogSupplyValid t s = .next u.settle ∧ F.leaves (s.advance t) u := by
  refine ⟨_, rfl, ?_⟩
  have h0 : F.leaves (s.advance t) (s.advance t) := .refl
  generalize s.advance t = a₀ at *
  beta_reduce
  refine analogValid_leaves ?_ (Foot.le_trans (by decide) hF)
  exact h0

theorem execOutputStageOn_leaves {F : Foot} {t : Tick} {s : State} (hF : Foot.le ⟨0x4000, [], [.ports, .rcd, .pwr, .tx]⟩ F = true) :
    ∃ u, execOutputStageOn t s = .next u.settle ∧ F.leaves (s.advance t) u := by
  refine ⟨_, rfl, ?_⟩
  have h0 : F.leaves (s.advance t) (s.advance t) := .refl
  generalize s.advance t = a₀ at *
  beta_reduce
  refine stageWaitEnd_leaves ?_ (Foot.le_trans (by decide) hF)
  exact h0

theorem execBootStepComplete_leaves {F : Foot} {t : Tick} {bad : List SliceId} {s : State} (hF : Foot.le ⟨0x0, [], [.blobs, .ports, .groups, .slices, .micro, .fab, .tb, .spad, .mem, .cal, .age, .net, .pcie, .rcd, .pwr, .fwx, .rail, .sec, .nv, .tx]⟩ F = true) :
    ∃ u, execBootStepComplete t bad s = .next u.settle ∧ F.leaves (s.advance t) u := by
  refine ⟨_, rfl, ?_⟩
  have h0 : F.leaves (s.advance t) (s.advance t) := .refl
  generalize s.advance t = a₀ at *
  beta_reduce
  refine bootStep_leaves ?_ (Foot.le_trans (by decide) hF)
  exact h0

theorem execPllLock_leaves {F : Foot} {t : Tick} {s : State} (hF : Foot.le ⟨0x10000, [0x2100, 0x8000], [.now, .tb, .rcd, .pwr]⟩ F = true) :
    ∃ u, execPllLock t s = .next u.settle ∧ F.leaves (s.advance t) u := by
  refine ⟨_, rfl, ?_⟩
  have h0 : F.leaves (s.advance t) (s.advance t) := .refl
  generalize s.advance t = a₀ at *
  beta_reduce
  refine lockNow_leaves ?_ (Foot.le_trans (by decide) hF)
  exact h0

theorem execScratchpadClearEnd_leaves {F : Foot} {t : Tick} {s : State} (hF : Foot.le ⟨0x0, [], [.blobs, .ports, .slices, .micro, .scan, .tb, .spad, .mem, .mc, .cal, .od, .rcd, .pwr, .sec, .nv, .tx]⟩ F = true) :
    ∃ u, execScratchpadClearEnd t s = .next u.settle ∧ F.leaves (s.advance t) u := by
  refine ⟨_, rfl, ?_⟩
  have h0 : F.leaves (s.advance t) (s.advance t) := .refl
  generalize s.advance t = a₀ at *
  beta_reduce
  refine clearNow_leaves ?_ (Foot.le_trans (by decide) hF)
  exact h0

theorem execPowerReqRun_leaves {F : Foot} {t : Tick} {who : Principal} {s : State} (hF : Foot.le ⟨0x3000, [0x2001, 0x2000, 0x2600], [.blobs, .ports, .groups, .slices, .micro, .scan, .cal, .rcd, .pwr, .nv, .tx, .resp]⟩ F = true) :
    ∃ u, execPowerReqRun t who s = .next u.settle ∧ F.leaves (s.advance t) u := by
  refine ⟨_, rfl, ?_⟩
  have h0 : F.leaves (s.advance t) (s.advance t) := .refl
  generalize s.advance t = a₀ at *
  beta_reduce
  refine powerReq_leaves ?_ (Foot.le_trans (by decide) hF)
  exact h0

theorem execPowerReqIdle_leaves {F : Foot} {t : Tick} {who : Principal} {s : State} (hF : Foot.le ⟨0x3000, [0x2001, 0x2000, 0x2600], [.blobs, .ports, .groups, .slices, .micro, .scan, .cal, .rcd, .pwr, .nv, .tx, .resp]⟩ F = true) :
    ∃ u, execPowerReqIdle t who s = .next u.settle ∧ F.leaves (s.advance t) u := by
  refine ⟨_, rfl, ?_⟩
  have h0 : F.leaves (s.advance t) (s.advance t) := .refl
  generalize s.advance t = a₀ at *
  beta_reduce
  refine powerReq_leaves ?_ (Foot.le_trans (by decide) hF)
  exact h0

theorem execPowerReqStandby_leaves {F : Foot} {t : Tick} {who : Principal} {s : State} (hF : Foot.le ⟨0x3000, [0x2001, 0x2000, 0x2600], [.blobs, .ports, .groups, .slices, .micro, .scan, .cal, .rcd, .pwr, .nv, .tx, .resp]⟩ F = true) :
    ∃ u, execPowerReqStandby t who s = .next u.settle ∧ F.leaves (s.advance t) u := by
  refine ⟨_, rfl, ?_⟩
  have h0 : F.leaves (s.advance t) (s.advance t) := .refl
  generalize s.advance t = a₀ at *
  beta_reduce
  refine powerReq_leaves ?_ (Foot.le_trans (by decide) hF)
  exact h0

theorem execPowerReqReset_leaves {F : Foot} {t : Tick} {who : Principal} {s : State} (hF : Foot.le ⟨0x3000, [0x2001, 0x2000, 0x2600], [.blobs, .ports, .groups, .slices, .micro, .scan, .cal, .rcd, .pwr, .nv, .tx, .resp]⟩ F = true) :
    ∃ u, execPowerReqReset t who s = .next u.settle ∧ F.leaves (s.advance t) u := by
  refine ⟨_, rfl, ?_⟩
  have h0 : F.leaves (s.advance t) (s.advance t) := .refl
  generalize s.advance t = a₀ at *
  beta_reduce
  refine powerReq_leaves ?_ (Foot.le_trans (by decide) hF)
  exact h0

theorem execWake_leaves {F : Foot} {t : Tick} {s : State} (hF : Foot.le ⟨0x3000, [0x2001, 0x2000], [.ports, .groups, .slices, .micro, .rcd, .pwr, .nv, .tx]⟩ F = true) :
    ∃ u, execWake t s = .next u.settle ∧ F.leaves (s.advance t) u := by
  refine ⟨_, rfl, ?_⟩
  have h0 : F.leaves (s.advance t) (s.advance t) := .refl
  generalize s.advance t = a₀ at *
  beta_reduce
  refine wakeUp_leaves ?_ (Foot.le_trans (by decide) hF)
  exact h0

theorem execPfwNFall_leaves {F : Foot} {t : Tick} {s : State} (hF : Foot.le ⟨0x3000, [0x2001, 0x2000], [.ports, .groups, .slices, .micro, .cal, .rcd, .pwr, .nv, .tx]⟩ F = true) :
    ∃ u, execPfwNFall t s = .next u.settle ∧ F.leaves (s.advance t) u := by
  refine ⟨_, rfl, ?_⟩
  have h0 : F.leaves (s.advance t) (s.advance t) := .refl
  generalize s.advance t = a₀ at *
  beta_reduce
  refine pfwFall_leaves ?_ (Foot.le_trans (by decide) hF)
  exact h0

theorem execPfwNRise_leaves {F : Foot} {t : Tick} {s : State} (hF : Foot.le ⟨0x4000, [0x2001], [.ports, .rcd, .pwr, .tx]⟩ F = true) :
    ∃ u, execPfwNRise t s = .next u.settle ∧ F.leaves (s.advance t) u := by
  refine ⟨_, rfl, ?_⟩
  have h0 : F.leaves (s.advance t) (s.advance t) := .refl
  generalize s.advance t = a₀ at *
  beta_reduce
  refine pfwRise_leaves ?_ (Foot.le_trans (by decide) hF)
  exact h0

theorem execResetNRise_leaves {F : Foot} {t : Tick} {refclkSel : Bool} {s : State} (hF : Foot.le ⟨0x10000, [0x2001], [.pwr]⟩ F = true) :
    ∃ u, execResetNRise t refclkSel s = .next u.settle ∧ F.leaves (s.advance t) u := by
  refine ⟨_, rfl, ?_⟩
  have h0 : F.leaves (s.advance t) (s.advance t) := .refl
  generalize s.advance t = a₀ at *
  beta_reduce
  refine resetRise_leaves ?_ (Foot.le_trans (by decide) hF)
  exact h0

theorem execInternalResetRelease_leaves {F : Foot} {t : Tick} {s : State} (hF : Foot.le ⟨0x10000, [0x2001], [.pwr]⟩ F = true) :
    ∃ u, execInternalResetRelease t s = .next u.settle ∧ F.leaves (s.advance t) u := by
  refine ⟨_, rfl, ?_⟩
  have h0 : F.leaves (s.advance t) (s.advance t) := .refl
  generalize s.advance t = a₀ at *
  beta_reduce
  refine innerRelease_leaves ?_ (Foot.le_trans (by decide) hF)
  exact h0

theorem execQuiesce_leaves {F : Foot} {t : Tick} {who : Principal} {g : GroupId} {s : State} (hF : Foot.le ⟨0x2010, [0x2000, 0x2001], [.blobs, .ports, .groups, .slices, .micro, .scan, .cal, .rcd, .pwr, .rail, .nv, .tx, .resp]⟩ F = true) :
    ∃ u, execQuiesce t who g s = .next u.settle ∧ F.leaves (s.advance t) u := by
  refine ⟨_, rfl, ?_⟩
  have h0 : F.leaves (s.advance t) (s.advance t) := .refl
  generalize s.advance t = a₀ at *
  beta_reduce
  refine groupCtrl_leaves ?_ (Foot.le_trans (by decide) hF)
  exact h0

theorem execRelease_leaves {F : Foot} {t : Tick} {who : Principal} {g : GroupId} {s : State} (hF : Foot.le ⟨0x2010, [0x2000, 0x2001], [.blobs, .ports, .groups, .slices, .micro, .scan, .cal, .rcd, .pwr, .rail, .nv, .tx, .resp]⟩ F = true) :
    ∃ u, execRelease t who g s = .next u.settle ∧ F.leaves (s.advance t) u := by
  refine ⟨_, rfl, ?_⟩
  have h0 : F.leaves (s.advance t) (s.advance t) := .refl
  generalize s.advance t = a₀ at *
  beta_reduce
  refine groupCtrl_leaves ?_ (Foot.le_trans (by decide) hF)
  exact h0

theorem execGate_leaves {F : Foot} {t : Tick} {who : Principal} {g : GroupId} {s : State} (hF : Foot.le ⟨0x2010, [0x2000, 0x2001], [.blobs, .ports, .groups, .slices, .micro, .scan, .cal, .rcd, .pwr, .rail, .nv, .tx, .resp]⟩ F = true) :
    ∃ u, execGate t who g s = .next u.settle ∧ F.leaves (s.advance t) u := by
  refine ⟨_, rfl, ?_⟩
  have h0 : F.leaves (s.advance t) (s.advance t) := .refl
  generalize s.advance t = a₀ at *
  beta_reduce
  refine groupCtrl_leaves ?_ (Foot.le_trans (by decide) hF)
  exact h0

theorem execUngate_leaves {F : Foot} {t : Tick} {who : Principal} {g : GroupId} {s : State} (hF : Foot.le ⟨0x2010, [0x2000, 0x2001], [.blobs, .ports, .groups, .slices, .micro, .scan, .cal, .rcd, .pwr, .rail, .nv, .tx, .resp]⟩ F = true) :
    ∃ u, execUngate t who g s = .next u.settle ∧ F.leaves (s.advance t) u := by
  refine ⟨_, rfl, ?_⟩
  have h0 : F.leaves (s.advance t) (s.advance t) := .refl
  generalize s.advance t = a₀ at *
  beta_reduce
  refine groupCtrl_leaves ?_ (Foot.le_trans (by decide) hF)
  exact h0

theorem execGateStepEnd_leaves {F : Foot} {t : Tick} {g : GroupId} {bad : Bool} {s : State} (hF : Foot.le ⟨0x2010, [0x2000, 0x2001], [.ports, .groups, .slices, .micro, .cal, .rcd, .pwr, .rail, .nv, .tx]⟩ F = true) :
    ∃ u, execGateStepEnd t g bad s = .next u.settle ∧ F.leaves (s.advance t) u := by
  refine ⟨_, rfl, ?_⟩
  have h0 : F.leaves (s.advance t) (s.advance t) := .refl
  generalize s.advance t = a₀ at *
  beta_reduce
  refine gateStepDue_leaves ?_ (Foot.le_trans (by decide) hF)
  exact h0

/-! ### SecurityCmd -/

theorem rngFail_leaves {F : Foot} {a₀ : State} {s : State} (h : F.leaves a₀ s) (hF : Foot.le ⟨0x10000, [0x2700], []⟩ F = true) :
    F.leaves a₀ (rngFail s) := by
  unfold rngFail
  refine Foot.ite_leaves ?_ ?_
  · refine setBit_leaves ?_ (Foot.rec_const hF (by decide))
    exact h
  · exact h

theorem tamperAt_leaves {F : Foot} {a₀ : State} {s : State} {src : Nat} {t : Tick} (h : F.leaves a₀ s) (hF : Foot.le ⟨0x2710, [0x2700], [.micro, .rcd, .sec]⟩ F = true) :
    F.leaves a₀ (tamperAt s src t) := by
  unfold tamperAt
  extract_lets +onlyGivenNames -merge -useContext -underBinder y0
  try clear_value y0
  refine Foot.ite_leaves ?_ ?_
  · exact h
  · refine Foot.ite_leaves ?_ ?_
    · refine Foot.ite_leaves ?_ ?_
      · exact { h with sec := .inl (Foot.part hF (by decide)) }
      · exact h
    · refine Foot.ite_leaves ?_ ?_
      · refine tamper_leaves ?_ (Foot.le_trans (by decide) hF)
        exact h
      · exact h

theorem lcReqLate_leaves {F : Foot} {a₀ : State} {s : State} {t : Tick} (h : F.leaves a₀ s) (hF : Foot.le ⟨0x10000, [0x2700], [.sec]⟩ F = true) :
    F.leaves a₀ (lcReqLate s t) := by
  unfold lcReqLate
  split
  · refine Foot.ite_leaves ?_ ?_
    · refine lcCancel_leaves ?_ (Foot.le_trans (by decide) hF)
      exact h
    · exact h
  · exact h

theorem lcStepAt_leaves {F : Foot} {a₀ : State} {s : State} {t : Tick} (h : F.leaves a₀ s) (hF : Foot.le ⟨0x0, [], [.slices, .micro, .sec, .nv]⟩ F = true) :
    F.leaves a₀ (lcStepAt s t) := by
  unfold lcStepAt
  refine Foot.ite_leaves ?_ ?_
  · exact h
  · refine lcStepEnd_leaves ?_ (Foot.le_trans (by decide) hF)
    exact h

theorem execSecHolders_leaves {F : Foot} {t : Tick} {who : Principal} {v : Nat} {s : State} (hF : Foot.le ⟨0x10000, [0x2700, 0x2000, 0x8000], [.rcd, .resp]⟩ F = true) :
    ∃ u, execSecHolders t who v s = .next u.settle ∧ F.leaves (s.advance t) u := by
  refine ⟨_, rfl, ?_⟩
  have h0 : F.leaves (s.advance t) (s.advance t) := .refl
  generalize s.advance t = a₀ at *
  beta_reduce
  refine secHoldersWrite_leaves ?_ (Foot.le_trans (by decide) hF)
  exact h0

theorem execOwnAssign_leaves {F : Foot} {t : Tick} {who : Principal} {v : Nat} {s : State} (hF : Foot.le ⟨0x0, [], [.ports, .groups, .spad, .mem, .pcie, .rcd, .sec, .tx, .resp]⟩ F = true) :
    ∃ u, execOwnAssign t who v s = .next u.settle ∧ F.leaves (s.advance t) u := by
  refine ⟨_, rfl, ?_⟩
  have h0 : F.leaves (s.advance t) (s.advance t) := .refl
  generalize s.advance t = a₀ at *
  beta_reduce
  refine ownAssignWrite_leaves ?_ (Foot.le_trans (by decide) hF)
  exact h0

theorem execDeviceClaim_leaves {F : Foot} {t : Tick} {who : Principal} {v : Nat} {s : State} (hF : Foot.le ⟨0x0, [], [.ports, .spad, .mem, .pcie, .rcd, .sec, .tx, .resp]⟩ F = true) :
    ∃ u, execDeviceClaim t who v s = .next u.settle ∧ F.leaves (s.advance t) u := by
  refine ⟨_, rfl, ?_⟩
  have h0 : F.leaves (s.advance t) (s.advance t) := .refl
  generalize s.advance t = a₀ at *
  beta_reduce
  refine claimWrite_leaves ?_ (Foot.le_trans (by decide) hF)
  exact h0

theorem execSvnLock_leaves {F : Foot} {t : Tick} {who : Principal} {v : Nat} {s : State} (hF : Foot.le ⟨0x10000, [0x2700, 0x8000, 0x2000], [.rcd, .resp]⟩ F = true) :
    ∃ u, execSvnLock t who v s = .next u.settle ∧ F.leaves (s.advance t) u := by
  refine ⟨_, rfl, ?_⟩
  have h0 : F.leaves (s.advance t) (s.advance t) := .refl
  generalize s.advance t = a₀ at *
  beta_reduce
  refine svnLockWrite_leaves ?_ (Foot.le_trans (by decide) hF)
  exact h0

theorem execKey_leaves {F : Foot} {t : Tick} {who : Principal} {k : KeyId} {key : List Byte} {s : State} (hF : Foot.le ⟨0x10000, [0x2000], [.sec, .resp]⟩ F = true) (r0 : F.covers (0x2710 + ↑k)) :
    ∃ u, execKey t who k key s = .next u.settle ∧ F.leaves (s.advance t) u := by
  refine ⟨_, rfl, ?_⟩
  have h0 : F.leaves (s.advance t) (s.advance t) := .refl
  generalize s.advance t = a₀ at *
  beta_reduce
  refine keyWriteReq_leaves ?_ (Foot.le_trans (by decide) hF) r0
  exact h0

theorem execKeyRevoke_leaves {F : Foot} {t : Tick} {who : Principal} {k : KeyId} {v : Nat} {s : State} (hF : Foot.le ⟨0x10000, [0x8000, 0x2000], [.rcd, .sec, .resp]⟩ F = true) (r0 : F.covers (0x2710 + ↑k)) :
    ∃ u, execKeyRevoke t who k v s = .next u.settle ∧ F.leaves (s.advance t) u := by
  refine ⟨_, rfl, ?_⟩
  have h0 : F.leaves (s.advance t) (s.advance t) := .refl
  generalize s.advance t = a₀ at *
  beta_reduce
  refine keyRevokeWrite_leaves ?_ (Foot.le_trans (by decide) hF) r0
  exact h0

theorem execRngHealthFail_leaves {F : Foot} {t : Tick} {s : State} (hF : Foot.le ⟨0x10000, [0x2700], []⟩ F = true) :
    ∃ u, execRngHealthFail t s = .next u.settle ∧ F.leaves (s.advance t) u := by
  refine ⟨_, rfl, ?_⟩
  have h0 : F.leaves (s.advance t) (s.advance t) := .refl
  generalize s.advance t = a₀ at *
  beta_reduce
  refine rngFail_leaves ?_ (Foot.le_trans (by decide) hF)
  exact h0

theorem execTamper_leaves {F : Foot} {t : Tick} {src : TamperSrc} {s : State} (hF : Foot.le ⟨0x2710, [0x2700], [.micro, .rcd, .sec]⟩ F = true) :
    ∃ u, execTamper t src s = .next u.settle ∧ F.leaves (s.advance t) u := by
  refine ⟨_, rfl, ?_⟩
  have h0 : F.leaves (s.advance t) (s.advance t) := .refl
  generalize s.advance t = a₀ at *
  beta_reduce
  refine tamperAt_leaves ?_ (Foot.le_trans (by decide) hF)
  exact h0

theorem execLcReq_leaves {F : Foot} {t : Tick} {who : Principal} {v : Nat} {s : State} (hF : Foot.le ⟨0x10000, [0x2700, 0x8000, 0x2000], [.rcd, .sec, .resp]⟩ F = true) :
    ∃ u, execLcReq t who v s = .next u.settle ∧ F.leaves (s.advance t) u := by
  refine ⟨_, rfl, ?_⟩
  have h0 : F.leaves (s.advance t) (s.advance t) := .refl
  generalize s.advance t = a₀ at *
  beta_reduce
  refine lcReqWrite_leaves ?_ (Foot.le_trans (by decide) hF)
  exact h0

theorem execLcConfirm_leaves {F : Foot} {t : Tick} {who : Principal} {v : Nat} {s : State} (hF : Foot.le ⟨0x1220, [], [.groups, .net, .rcd, .sec, .tx, .resp]⟩ F = true) :
    ∃ u, execLcConfirm t who v s = .next u.settle ∧ F.leaves (s.advance t) u := by
  refine ⟨_, rfl, ?_⟩
  have h0 : F.leaves (s.advance t) (s.advance t) := .refl
  generalize s.advance t = a₀ at *
  beta_reduce
  refine lcConfirmWrite_leaves ?_ (Foot.le_trans (by decide) hF)
  exact h0

theorem execLcReqTimeout_leaves {F : Foot} {t : Tick} {s : State} (hF : Foot.le ⟨0x10000, [0x2700], [.sec]⟩ F = true) :
    ∃ u, execLcReqTimeout t s = .next u.settle ∧ F.leaves (s.advance t) u := by
  refine ⟨_, rfl, ?_⟩
  have h0 : F.leaves (s.advance t) (s.advance t) := .refl
  generalize s.advance t = a₀ at *
  beta_reduce
  refine lcReqLate_leaves ?_ (Foot.le_trans (by decide) hF)
  exact h0

theorem execLcStepEnd_leaves {F : Foot} {t : Tick} {s : State} (hF : Foot.le ⟨0x0, [], [.slices, .micro, .sec, .nv]⟩ F = true) :
    ∃ u, execLcStepEnd t s = .next u.settle ∧ F.leaves (s.advance t) u := by
  refine ⟨_, rfl, ?_⟩
  have h0 : F.leaves (s.advance t) (s.advance t) := .refl
  generalize s.advance t = a₀ at *
  beta_reduce
  refine lcStepAt_leaves ?_ (Foot.le_trans (by decide) hF)
  exact h0

end Sys2Proof.Machine.State

end
end

