-- ==== Sys2Proof/WellFormed.lean ====
section
/-!
DEFINITION. Well-formed commands: the widths and ranges that the spec gives to what a command carries. A meaning is defined on ill-formed
commands too.
-/

namespace Sys2Proof

/-- `n` fits in `bits` bits. -/
def fits (bits n : Nat) : Bool := decide (n < 2 ^ bits)

/-- A request of the fabric: one of the 32 masters of R245 (M31 is reserved), and a word address of R243. -/
def FabReq.wf (r : FabReq) : Bool := decide (r.master ≤ 30) && decide (r.addr < 4194304)

/-- An Ethernet frame: 48-bit addresses, and at most 1,522 bytes (R356). -/
def EthFrame.wf (f : EthFrame) : Bool := fits 48 f.dst && fits 48 f.src && decide (f.len ≤ 1522)

/-- A command whose operands have the widths of their entries (R341) and lie in the ranges the spec gives them. -/
def Instr.wf (i : Instr) : Bool :=
  match i with
  -- a pulse of RESET_N of 1 us or more (R420)
  | .resetNLow _ width => decide (us ≤ width)
  -- values of entries of one byte
  | .span _ _ _ v => fits 8 v
  | .resync _ _ v => fits 8 v
  | .btRequest _ _ v => fits 8 v
  | .refXferReq _ _ v => fits 8 v
  | .rotRequest _ _ _ v => fits 8 v
  | .wornReq _ _ _ v => fits 8 v
  | .cfgSave _ _ v => fits 8 v
  | .close _ _ _ v => fits 8 v
  | .storeInit _ _ v _ => fits 8 v
  | .railOn _ _ _ v => fits 8 v
  | .deviceClaim _ _ v => fits 8 v
  | .svnLock _ _ v => fits 8 v
  | .keyRevoke _ _ _ v => fits 8 v
  | .lcReq _ _ v => fits 8 v
  | .lcConfirm _ _ v => fits 8 v
  | .seqHold _ _ _ v => fits 8 v
  | .chEn _ _ _ v => fits 8 v
  | .regionEn _ _ _ v => fits 8 v
  | .ringEn _ _ _ v => fits 8 v
  | .dmaEn _ _ _ v => fits 8 v
  | .jEn _ _ v _ => fits 8 v
  -- wider entries
  | .mcReq _ _ v => fits 16 v
  | .descTail _ _ _ v => fits 32 v
  | .secHolders _ _ v => fits 32 v
  | .ownAssign _ _ v => fits 32 v
  | .taiSet _ _ v => fits 64 v
  | .consHost _ _ _ v => fits 64 v
  | .offloaded _ _ v => fits 64 v
  | .odWrite _ _ k _ => fits 24 k
  -- the scratchpad and its masters
  | .fabricAccess _ rs => rs.reqs.all FabReq.wf && rs.hits.all fun h => decide (h.1 < 4194304)
  | .eccWriteback _ a => decide (a < 4194304)
  | .winSpadWrite _ _ a _ => decide (a < 4194304)
  -- offsets in the windows: 64 MiB of WIN_REGS, 32 MiB of WIN_SPAD (R375)
  | .winLoRead _ _ spad off _ => fits (if spad then 25 else 26) off
  | .winLoWrite _ _ spad off _ => fits (if spad then 25 else 26) off
  | .winHiWrite _ _ spad off _ => fits (if spad then 25 else 26) off
  | .directWrite _ _ off _ _ => fits 26 off
  | .fetchadd _ _ spad off _ => fits (if spad then 25 else 26) off
  | .swap _ _ spad off _ => fits (if spad then 25 else 26) off
  -- the mailbox (R383): identifiers of 32 bits, a request buffer of 4 KiB
  | .mbRead _ _ id body => fits 32 id && decide (body.length ≤ 4088)
  | .mbWrite _ _ id body => fits 32 id && decide (body.length ≤ 4088)
  | .mbReadBlock _ _ id body => fits 32 id && decide (body.length ≤ 4088)
  | .mbWriteBlock _ _ id body => fits 32 id && decide (body.length ≤ 4088)
  | .mbAbort _ _ id body => fits 32 id && decide (body.length ≤ 4088)
  | .spadCopy _ _ id body _ => fits 32 id && decide (body.length ≤ 4088)
  -- the link (R377) and the vectors of a function (R392)
  | .pcieLinkUp _ _ width => decide (width ∈ [1, 2, 4, 8, 16])
  | .irqHoldoffEnd _ f vec => decide (vec < if f.val = 0 then 2048 else 64)
  | .vectorUnmask _ f vec => decide (vec < if f.val = 0 then 2048 else 64)
  -- the field ports (R356, R360)
  | .ethFrameRx _ _ f => f.wf
  | .canSegmentRx _ id data => fits 11 id && decide (data.length ≤ 64)
  -- the time a SYNC frame announces, and the seconds and nanoseconds of a PTP time (R212, R213)
  | .syncFrameRx _ T t0 n0 rate _ _ => fits 64 T && fits 64 t0 && fits 64 n0 && fits 64 rate
  | .syncReacquire _ T => fits 64 T
  | .ptpSync _ _ _ domain origin _ => fits 8 domain && fits 80 origin
  | .ptpDelayResp _ _ domain recv _ => fits 8 domain && fits 80 recv
  -- a PMBus word (R438)
  | .pmbTransactionDone _ _ data => fits 16 data
  | _ => true

end Sys2Proof
end

