-- ==== Sys2Proof/Tests/Slice0.lean ====
section
/-!
SUPPORT. Tests: an ill-formed term for each check of `Instr.wf`; for each statement of the obligations a state and operands that meet the hypotheses
of each of its clauses; and a few steps whose results come from the spec's worked examples.
-/

namespace Sys2Proof.Tests

open Sys2Proof Sys2Proof.Machine Sys2Proof.Machine.State

/-! ### Ill-formed commands -/

theorem test_wf_refuses_values :
    ([.resetNLow 0 639,
      .span 0 0 0 256,
      .resync 0 0 256,
      .btRequest 0 0 256,
      .refXferReq 0 0 256,
      .rotRequest 0 0 0 256,
      .wornReq 0 0 0 256,
      .cfgSave 0 0 256,
      .close 0 0 0 256,
      .storeInit 0 0 256 {},
      .railOn 0 0 0 256,
      .deviceClaim 0 0 256] : List Instr).all (fun i => !i.wf) = true := by decide +kernel

theorem test_wf_refuses_requests :
    ([.svnLock 0 0 256,
      .keyRevoke 0 0 0 256,
      .lcReq 0 0 256,
      .lcConfirm 0 0 256,
      .seqHold 0 0 0 256,
      .chEn 0 0 0 256,
      .regionEn 0 0 0 256,
      .ringEn 0 0 0 256,
      .dmaEn 0 0 0 256,
      .jEn 0 0 256 {},
      .mcReq 0 0 65536,
      .descTail 0 0 0 4294967296] : List Instr).all (fun i => !i.wf) = true := by decide +kernel

theorem test_wf_refuses_wide_values :
    ([.secHolders 0 0 4294967296,
      .ownAssign 0 0 4294967296,
      .taiSet 0 0 18446744073709551616,
      .consHost 0 0 0 18446744073709551616,
      .offloaded 0 0 18446744073709551616,
      .odWrite 0 0 16777216 [],
      .fabricAccess 0 { reqs := [{ master := 31, addr := 0, op := .read }] },
      .fabricAccess 0 { reqs := [{ master := 0, addr := 4194304, op := .read }] },
      .fabricAccess 0 { reqs := [], hits := [(4194304, .one)] },
      .eccWriteback 0 4194304,
      .winSpadWrite 0 0 4194304 0,
      .winLoRead 0 0 true 33554432 .lo] : List Instr).all (fun i => !i.wf) = true := by decide +kernel

theorem test_wf_refuses_windows :
    ([.winLoRead 0 0 false 67108864 .lo,
      .winLoWrite 0 0 true 33554432 0,
      .winLoWrite 0 0 false 67108864 0,
      .winHiWrite 0 0 true 33554432 0,
      .winHiWrite 0 0 false 67108864 0,
      .directWrite 0 0 67108864 .whole 0,
      .fetchadd 0 0 true 33554432 0,
      .fetchadd 0 0 false 67108864 0,
      .swap 0 0 true 33554432 0,
      .swap 0 0 false 67108864 0,
      .mbRead 0 0 4294967296 [],
      .mbRead 0 0 0 (List.replicate 4089 0),
      .mbWrite 0 0 4294967296 [],
      .mbWrite 0 0 0 (List.replicate 4089 0),
      .mbReadBlock 0 0 4294967296 [],
      .mbReadBlock 0 0 0 (List.replicate 4089 0)] : List Instr).all (fun i => !i.wf) = true := by decide +kernel

theorem test_wf_refuses_messages :
    ([.mbWriteBlock 0 0 4294967296 [],
      .mbWriteBlock 0 0 0 (List.replicate 4089 0),
      .mbAbort 0 0 4294967296 [],
      .mbAbort 0 0 0 (List.replicate 4089 0),
      .spadCopy 0 0 4294967296 [] none,
      .spadCopy 0 0 0 (List.replicate 4089 0) none,
      .pcieLinkUp 0 0 3,
      .irqHoldoffEnd 0 0 2048,
      .irqHoldoffEnd 0 1 64,
      .vectorUnmask 0 0 2048,
      .vectorUnmask 0 1 64,
      .ethFrameRx 0 0 { dst := 281474976710656, src := 0, len := 60, load := .other },
      .ethFrameRx 0 0 { dst := 0, src := 281474976710656, len := 60, load := .other },
      .ethFrameRx 0 0 { dst := 0, src := 0, len := 1523, load := .other },
      .canSegmentRx 0 2048 [],
      .canSegmentRx 0 0 (List.replicate 65 0),
      .syncFrameRx 0 18446744073709551616 0 0 0 true true,
      .syncFrameRx 0 0 18446744073709551616 0 0 true true,
      .syncFrameRx 0 0 0 18446744073709551616 0 true true,
      .syncFrameRx 0 0 0 0 18446744073709551616 true true,
      .syncReacquire 0 18446744073709551616,
      .ptpSync 0 ⟨0, 0⟩ true 256 0 0,
      .ptpSync 0 ⟨0, 0⟩ true 0 1208925819614629174706176 0,
      .ptpDelayResp 0 ⟨0, 0⟩ 256 0 0,
      .ptpDelayResp 0 ⟨0, 0⟩ 0 1208925819614629174706176 0,
      .pmbTransactionDone 0 true 65536] : List Instr).all (fun i => !i.wf) = true := by decide +kernel

/-! ### Witnesses of the hypotheses of the statements -/

section Witnesses

set_option Elab.async false

/-- The block in normal service, with every port and sequencer idle. -/
def up : State := { State.reset.set Pw.POWER_STATE 2 with pwr := { boot := 11 } }
def boot (p : PwrX) : State := { up with pwr := p }
def port (x : PortX) : State := up.setPx 0 x
def group (x : GroupX) : State := up.modGx 0 fun _ => x
def point (q : Point) : State := port { seq := { run := some q } }
def timebase (x : TbX) : State := { up with tb := x }
def flight (c : Nat) (s : State) : State := s.modFab fun f => { f with flights := [{ due := 0, chan := c, gen := 0, done := [] }] }
def ranging (st : RStep) : State := port { range := { step := some st } }

theorem witness_StepRunsFrontCommand :
    let c : Instr := .powerOn 0;
     let s : State := { up with pending := [.powerOn 0, .resetNLow 0 640] };
     let rest : List Instr := ([.resetNLow 0 640] : List Instr);
     (s.pending = c :: rest) := by
  decide +kernel

theorem witness_EmptyQueueIdles :
    let s : State := up;
     (s.pending = []) := by
  decide +kernel

theorem witness_RefusalChangesOnlyTheAbortRecord :
    (let who : Nat := 22;
     let key : Nat := 0x300504;
     let e : Nat := 0x06010586;
     let k := (0 : Nat);
     (who < 256) ∧ (key < 16777216) ∧ (e < 4294967296) ∧ (k ≠ Dv.LAST_ABORT) ∧ (k ≠ Dv.LAST_ABORT_ENTRY) ∧ (k ≠ Dv.OD_STATUS) ∧
     (k ≠ Dv.OD_ACCESSES)) ∧
    (let who : Nat := 22;
     let key : Nat := 0x300504;
     let e : Nat := 0x06010586;
     (who < 256) ∧ (key < 16777216) ∧ (e < 4294967296)) ∧
    (let who : Nat := 22;
     let key : Nat := 0x300504;
     let e : Nat := 0x06010586;
     let i := (31 : Nat);
     (who < 256) ∧ (key < 16777216) ∧ (e < 4294967296) ∧ (i ≠ OdStatus.ABORT_SEEN)) := by
  refine ⟨?_, ?_, ?_⟩ <;> decide +kernel

theorem witness_OnlyTheOwnerCommands :
    let c : Instr := .close 0 3 0 1;
     let s : State := up;
     let t : Tick := 0;
     let who : Nat := 3;
     let key : Nat := Ss.CLOSE 0;
     let a := s.advance t;
     let e := (0x04010000 : Nat);
     (c.request = some (t, who, key)) ∧ (a.reaches who key = true) ∧ (a.ownerAbort who key = some e) := by
  decide +kernel

theorem witness_UnservedCommandsDoNothing :
    let c : Instr := .close 0 3 0 1;
     let s : State := State.reset;
     let t : Tick := 0;
     let who : Nat := 3;
     let key : Nat := Ss.CLOSE 0;
     let a := s.advance t;
     (c.request = some (t, who, key)) ∧ (a.reaches who key = false) := by
  decide +kernel

theorem witness_DeviceClaimRule :
    (let s : State := up;
     let t : Tick := 0;
     let who : Principal := 1;
     let a := s.advance t;
     let key := Se.DEVICE_CLAIM;
     let may := who.val = 1 ∨ (18 ≤ who.val ∧ who.val ≤ 21 ∧ (a.session (who.val - 18)).isSome = true);
     (a.reaches who key = true) ∧ (a.inUse key = false) ∧ (a.idleKey key = false) ∧ (a.rN Id.LIFE_CYCLE ≠ 4) ∧ (a.rN Dv.OWNER = 0) ∧
     (may)) ∧
    (let s : State := up;
     let t : Tick := 0;
     let who : Principal := 2;
     let a := s.advance t;
     let key := Se.DEVICE_CLAIM;
     let may := who.val = 1 ∨ (18 ≤ who.val ∧ who.val ≤ 21 ∧ (a.session (who.val - 18)).isSome = true);
     (a.reaches who key = true) ∧ (a.inUse key = false) ∧ (a.idleKey key = false) ∧ (a.rN Id.LIFE_CYCLE ≠ 4) ∧ (a.rN Dv.OWNER = 0) ∧
     (¬may) ∧ (who.val ≠ 0)) ∧
    (let s : State := up.set Dv.OWNER 2;
     let t : Tick := 0;
     let who : Principal := 1;
     let a := s.advance t;
     let key := Se.DEVICE_CLAIM;
     (a.reaches who key = true) ∧ (a.inUse key = false) ∧ (a.idleKey key = false) ∧ (a.rN Id.LIFE_CYCLE ≠ 4) ∧ (a.rN Dv.OWNER ≠ 0)) ∧
    (let s : State := up.set Id.LIFE_CYCLE 4;
     let t : Tick := 0;
     let who : Principal := 1;
     let a := s.advance t;
     let key := Se.DEVICE_CLAIM;
     (a.reaches who key = true) ∧ (a.inUse key = false) ∧ (a.idleKey key = false) ∧ (a.rN Id.LIFE_CYCLE = 4)) := by
  refine ⟨?_, ?_, ?_, ?_⟩ <;> decide +kernel

theorem witness_SecHoldersRule :
    (let s : State := up;
     let t : Tick := 0;
     let who : Principal := 1;
     let a := s.advance t;
     let key := Se.SEC_HOLDERS;
     (a.reaches who key = true) ∧ (a.bit Fw.FW_STATUS FwStatus.RECOVERY = false) ∧ (a.ownerOf key ≠ who)) ∧
    (let s : State := up.set Id.LIFE_CYCLE 2;
     let t : Tick := 0;
     let who : Principal := 0;
     let a := s.advance t;
     let key := Se.SEC_HOLDERS;
     (a.reaches who key = true) ∧ (a.inUse key = false) ∧ (a.ownerOf key = who) ∧ (a.rN Id.LIFE_CYCLE = 2 ∨ a.rN Id.LIFE_CYCLE = 4)) := by
  refine ⟨?_, ?_⟩ <;> decide +kernel

theorem witness_PortsAndSlicesNumbered :
    let p : Nat := 0;
     let q : Nat := 0;
     (p < 128) ∧ (q < 128) ∧ (homeSlice p = homeSlice q) := by
  decide +kernel

theorem witness_TimeOfATick :
    (let g : Seg := ({ t0 := 5, n0 := 7 } : Seg);
     let t : Tick := 5;
     (g.t0 ≤ t) ∧ (g.n0 + ((t - g.t0) * g.rate + 2147483648) / 4294967296 < 18446744073709551616)) ∧
    (let g : Seg := ({ t0 := 5, n0 := 7 } : Seg);
     let t : Tick := 4;
     (t < g.t0)) ∧
    (let s : State := { up with now := 1 };
     let t : Tick := 1;
     ((s.advance t).now % 640000 ≠ 0)) := by
  refine ⟨?_, ?_, ?_⟩ <;> decide +kernel

theorem witness_LoopProductsRoundToNearest :
    (let a : Int := 0;
     let k : Int := 0;
     (-549755813888 ≤ mulQ a k) ∧ (mulQ a k ≤ 549755813887)) ∧
    (let a : Int := -549755813888;
     let k : Int := 8589934592;
     (mulQ a k < -549755813888)) ∧
    (let a : Int := 549755813887;
     let k : Int := 8589934592;
     (549755813887 < mulQ a k)) := by
  refine ⟨?_, ?_, ?_⟩ <;> decide +kernel

theorem witness_ForceCodes :
    (let span : Nat := 3;
     let u : Int := 0;
     let d := if span ≤ 1 then 8388608 + (u + 8192) / 16384 else (u + 4096) / 8192;
     (span < 4) ∧ (0 ≤ d) ∧ (d ≤ 16777200)) ∧
    (let span : Nat := 3;
     let u : Int := -4097;
     let d := if span ≤ 1 then 8388608 + (u + 8192) / 16384 else (u + 4096) / 8192;
     (span < 4) ∧ (d < 0)) ∧
    (let span : Nat := 2;
     let u : Int := 137438953472;
     let d := if span ≤ 1 then 8388608 + (u + 8192) / 16384 else (u + 4096) / 8192;
     (span < 4) ∧ (16777200 < d)) ∧
    (let span : Nat := 0;
     (span < 4)) := by
  refine ⟨?_, ?_, ?_, ?_⟩ <;> decide +kernel

theorem witness_ScratchpadReadsWhatWasWritten :
    (let a : Nat := 0xBFF;
     (reservedWord a = false)) ∧
    (let a : Nat := 0;
     let b : Nat := 1;
     (b ≠ a)) ∧
    (let a : Nat := 0xC00;
     (reservedWord a = true)) ∧
    (let s : State := (((up.set (Rg.FIRST_PAGE 0) 1).set (Rg.PAGE_COUNT 0) 1).set (Rg.REGION_EN 0) 1).set (Rg.OWNER 0) 1;
     let a : Nat := 4096;
     let t : Tick := 0;
     let f : FnId := 0;
     let x := s.advance t;
     (x.winUp f = true) ∧ (x.wiping = false) ∧ (a < 4194304) ∧ (reservedWord a = false) ∧
     (x.memWriteAbort (f + 1) a (x.secHolder (f + 1)) = none)) := by
  refine ⟨?_, ?_, ?_, ?_⟩ <;> decide +kernel

theorem witness_EventsTakeNineTicks :
    (let s : State := up.modFab fun f => { f with eventAt := [(0, some 0)] };
     let t : Tick := 0;
     let e : ChanId := 0;
     let taken := Tab.get (fun _ => none) s.fab.eventAt (e : Nat) = some t;
     (taken)) ∧
    (let s : State := up.set (Ch.GEN_LIMIT 0) 15;
     let t : Tick := 0;
     let gen : Nat := 15;
     let e : ChanId := 0;
     let g := min gen 15;
     let taken := Tab.get (fun _ => none) s.fab.eventAt (e : Nat) = some t;
     (¬taken) ∧ (s.rN (Ch.GEN_LIMIT e) ≤ g)) ∧
    (let s : State := up;
     let t : Tick := 0;
     let gen : Nat := 0;
     let e : ChanId := 0;
     let g := min gen 15;
     let taken := Tab.get (fun _ => none) s.fab.eventAt (e : Nat) = some t;
     (¬taken) ∧ (g < s.rN (Ch.GEN_LIMIT e)) ∧ (t < 18446744073709551616)) := by
  refine ⟨?_, ?_, ?_⟩ <;> decide +kernel

theorem witness_PowerRequestsComplete :
    (let s : State := up.set Pw.POWER_STATE 4;
     let t : Tick := 0;
     let who : Principal := 0;
     let a := s.advance t;
     let key := Pw.POWER_REQ;
     (a.grants who key = true) ∧ (a.rN Pw.POWER_STATE = 4)) ∧
    (let s : State := up.set Pw.POWER_STATE 3;
     let t : Tick := 0;
     let who : Principal := 0;
     let a := s.advance t;
     let key := Pw.POWER_REQ;
     (a.grants who key = true) ∧ (a.rN Pw.POWER_STATE = 3)) ∧
    (let s : State := up;
     let t : Tick := 0;
     let who : Principal := 0;
     let a := s.advance t;
     let key := Pw.POWER_REQ;
     (a.grants who key = true) ∧ (a.rN Pw.POWER_STATE ∉ [3, 4])) ∧
    (let s : State := up;
     let t : Tick := 0;
     let who : Principal := 0;
     let a := s.advance t;
     let key := Pw.POWER_REQ;
     (a.grants who key = true) ∧ (a.rN Pw.POWER_STATE ∈ [2, 3])) ∧
    (let s : State := up.set Pw.POWER_STATE 4;
     let t : Tick := 0;
     let who : Principal := 0;
     let a := s.advance t;
     let key := Pw.POWER_REQ;
     (a.grants who key = true) ∧ (a.rN Pw.POWER_STATE ∉ [2, 3])) ∧
    (let s : State := up;
     let t : Tick := 0;
     let who : Principal := 0;
     let a := s.advance t;
     let key := Pw.POWER_REQ;
     (a.grants who key = true) ∧ (a.rN Pw.POWER_STATE ∈ [2, 3, 4])) ∧
    (let s : State := up.set Pw.POWER_STATE 1;
     let t : Tick := 0;
     let who : Principal := 0;
     let a := s.advance t;
     let key := Pw.POWER_REQ;
     (a.grants who key = true) ∧ (a.rN Pw.POWER_STATE ∉ [2, 3, 4])) := by
  refine ⟨?_, ?_, ?_, ?_, ?_, ?_, ?_⟩ <;> decide +kernel

theorem witness_ResetsComplete :
    (let width : Nat := 0;
     (width < us)) ∧
    (let s : State := up;
     let t : Tick := 0;
     let width : Nat := 640;
     let a := s.advance t;
     (us ≤ width) ∧ (a.pwr.standby = false)) ∧
    (let s : State := boot { boot := 11, standby := true };
     let t : Tick := 0;
     let width : Nat := 640;
     let a := s.advance t;
     (us ≤ width) ∧ (a.pwr.standby = true)) ∧
    (let s : State := up;
     let t : Tick := 0;
     let a := s.advance t;
     (a.pwr.standby = false)) ∧
    (let s : State := State.reset;
     let t : Tick := 0;
     let a := s.advance t;
     (a.pwr.boot = 0) ∧ (a.pwr.standby = false) ∧ (a.pwr.wakeWait = false) ∧ (a.pwr.cause < 9)) ∧
    (let s : State := boot { wakeWait := true };
     let t : Tick := 0;
     let a := s.advance t;
     (a.pwr.wakeWait = true)) := by
  refine ⟨?_, ?_, ?_, ?_, ?_, ?_⟩ <;> decide +kernel

theorem witness_BootCommandsComplete :
    (let s : State := boot { boot := 2 };
     let t : Tick := 0;
     let a := s.advance t;
     (a.pwr.boot = 2)) ∧
    (let s : State := up.setBit Fb.FAB_STATUS FabStatus.CLEARING true;
     let t : Tick := 0;
     let a := s.advance t;
     (a.bit Fb.FAB_STATUS FabStatus.CLEARING = true) ∧ (a.pwr.clearDue ≤ a.now)) ∧
    (let s : State := boot { boot := 3 };
     let t : Tick := 0;
     let a := s.advance t;
     (a.pwr.boot = 3)) ∧
    (let s : State := boot { boot := 5 };
     let t : Tick := 0;
     let a := s.advance t;
     (a.pwr.boot = 5) ∧ (a.bit Fw.FW_STATUS FwStatus.RECOVERY = false)) ∧
    (let s : State := boot { boot := 6 };
     let t : Tick := 0;
     let a := s.advance t;
     (a.pwr.boot = 6)) ∧
    (let s : State := boot { boot := 7 };
     let t : Tick := 0;
     let a := s.advance t;
     (a.pwr.boot = 7)) ∧
    (let s : State := boot { boot := 10 };
     let t : Tick := 0;
     let a := s.advance t;
     (a.pwr.boot = 10)) ∧
    (let s : State := boot { boot := 11, anaLost := true };
     let t : Tick := 0;
     let a := s.advance t;
     (a.pwr.anaLost = true)) ∧
    (let s : State := boot { boot := 11, anaWait := some 0 };
     let t : Tick := 6400;
     let a := s.advance t;
     let w := 0;
     (a.pwr.anaWait = some w) ∧ (w + 10 * us ≤ a.now)) := by
  refine ⟨?_, ?_, ?_, ?_, ?_, ?_, ?_, ?_, ?_⟩ <;> decide +kernel

theorem witness_WakeAndPowerFailComplete :
    (let s : State := boot { boot := 11, standby := true };
     let t : Tick := 0;
     let a := s.advance t;
     (a.pwr.standby = true)) ∧
    (let s : State := up.set Pw.POWER_STATE 4;
     let t : Tick := 0;
     let a := s.advance t;
     (a.pwr.standby = false) ∧ (a.rN Pw.POWER_STATE = 4)) ∧
    (let s : State := up;
     let t : Tick := 0;
     let a := s.advance t;
     (a.pwr.pfwLow = false) ∧ (a.pwr.boot ≠ 0)) ∧
    (let s : State := boot { boot := 11, pfwLow := true };
     let t : Tick := 0;
     let a := s.advance t;
     (a.pwr.pfwLow = true)) := by
  refine ⟨?_, ?_, ?_, ?_⟩ <;> decide +kernel

theorem witness_GroupRequestsComplete :
    (let s : State := up;
     let t : Tick := 0;
     let who : Principal := 0;
     let g : GroupId := 0;
     let a := s.advance t;
     let key := Gr.GROUP_CTRL g;
     (a.grants who key = true)) ∧
    (let s : State := up.set (Gr.GROUP_STATE 0) 2;
     let t : Tick := 0;
     let who : Principal := 0;
     let g : GroupId := 0;
     let a := s.advance t;
     let key := Gr.GROUP_CTRL g;
     (a.grants who key = true) ∧ (a.groupState g = 2) ∧ (a.groupCheck g = none)) ∧
    (let s : State := (up.set (Gr.GROUP_STATE 0) 2).set (Pt.VRNG_FS_0 0) 0;
     let t : Tick := 0;
     let who : Principal := 0;
     let g : GroupId := 0;
     let a := s.advance t;
     let key := Gr.GROUP_CTRL g;
     let e := 0x0601008A;
     (a.grants who key = true) ∧ (a.groupState g = 2) ∧ (a.groupCheck g = some e) ∧ (e / 2 ^ 16 = 0x0601)) ∧
    (let s : State := up.set (Gr.GROUP_STATE 0) 1;
     let t : Tick := 0;
     let who : Principal := 0;
     let g : GroupId := 0;
     let a := s.advance t;
     let key := Gr.GROUP_CTRL g;
     (a.grants who key = true) ∧ (a.groupState g = 1)) ∧
    (let s : State := up.set (Gr.GROUP_STATE 0) 3;
     let t : Tick := 0;
     let who : Principal := 0;
     let g : GroupId := 0;
     let a := s.advance t;
     let key := Gr.GROUP_CTRL g;
     (a.grants who key = true) ∧ (a.groupState g = 3) ∧ ((a.gx g).gateStep = 0)) ∧
    (let s : State := (group { gateStep := 1 }).set (Gr.GROUP_STATE 0) 3;
     let t : Tick := 0;
     let who : Principal := 0;
     let g : GroupId := 0;
     let a := s.advance t;
     let key := Gr.GROUP_CTRL g;
     (a.grants who key = true) ∧ (a.groupState g = 3) ∧ (1 ≤ (a.gx g).gateStep) ∧ ((a.gx g).gateStep ≤ 3)) ∧
    (let s : State := group { gateStep := 1 };
     let t : Tick := 0;
     let who : Principal := 0;
     let g : GroupId := 0;
     let a := s.advance t;
     let key := Gr.GROUP_CTRL g;
     (a.grants who key = true) ∧ (a.served = true) ∧ ((a.gx g).gateStep ≠ 0) ∧ ((a.gx g).gateDue ≤ a.now)) := by
  refine ⟨?_, ?_, ?_, ?_, ?_, ?_, ?_⟩ <;> decide +kernel

theorem witness_EnableAndDisableComplete :
    (let s : State := up;
     let t : Tick := 0;
     let who : Principal := 0;
     let p : PortId := 0;
     let a := s.advance t;
     let key := Pt.PORT_CTRL p;
     (a.grants who key = true) ∧ (a.groupState (groupOf p) = 0) ∧
     ((a.portState p = 0 → a.winHolds p = false → a.enableReason p = none)) ∧ (a.queueFree p = true)) ∧
    (let s : State := group { queue := [{ port := 0, op := .disable, since := 0 }] };
     let t : Tick := 0;
     let who : Principal := 0;
     let p : PortId := 0;
     let a := s.advance t;
     let key := Pt.PORT_CTRL p;
     (a.grants who key = true) ∧ (a.groupState (groupOf p) = 0) ∧
     ((a.portState p = 0 → a.winHolds p = false → a.enableReason p = none)) ∧ (a.queueFree p = false)) ∧
    (let s : State := up.setPx 0 { flt := true };
     let t : Tick := 0;
     let who : Principal := 0;
     let p : PortId := 0;
     let a := s.advance t;
     let key := Pt.PORT_CTRL p;
     let r := 1;
     (a.grants who key = true) ∧ (a.groupState (groupOf p) = 0) ∧ (a.portState p = 0) ∧ (a.winHolds p = false) ∧
     (a.enableReason p = some r) ∧ (r < 13)) ∧
    (let s : State := up;
     let t : Tick := 0;
     let who : Principal := 0;
     let p : PortId := 0;
     let a := s.advance t;
     let key := Pt.PORT_CTRL p;
     let x : State := up;
     (a.grants who key = true) ∧ (x.groupState (groupOf p) = 0) ∧ (x.portState p = 0) ∧ (x.winHolds p = false) ∧
     (x.enableReason p = none)) ∧
    (let s : State := up;
     let t : Tick := 0;
     let who : Principal := 0;
     let p : PortId := 0;
     let a := s.advance t;
     let key := Pt.PORT_CTRL p;
     let x : State := up.set (Pt.PORT_STATE 0) 3;
     (a.grants who key = true) ∧ (x.groupState (groupOf p) = 0) ∧ (x.portState p = 3)) ∧
    (let s : State := up;
     let t : Tick := 0;
     let who : Principal := 0;
     let p : PortId := 0;
     let a := s.advance t;
     let key := Pt.PORT_CTRL p;
     let x : State := up.set (Pt.PORT_STATE 0) 2;
     (a.grants who key = true) ∧ (x.groupState (groupOf p) = 0) ∧ (x.portState p = 1 ∨ x.portState p = 2)) ∧
    (let s : State := up.set (Pt.PORT_STATE 0) 2;
     let t : Tick := 0;
     let who : Principal := 0;
     let p : PortId := 0;
     let a := s.advance t;
     let key := Pt.PORT_CTRL p;
     let b := a.rotDisable p a.now;
     (a.grants who key = true) ∧ (b.portState p = 1 ∨ b.portState p = 2)) ∧
    (let s : State := up.set (Pt.PORT_STATE 0) 3;
     let t : Tick := 0;
     let who : Principal := 0;
     let p : PortId := 0;
     let a := s.advance t;
     let key := Pt.PORT_CTRL p;
     let b := a.rotDisable p a.now;
     (a.grants who key = true) ∧ (b.queueFree p = true) ∧ (b.portState p = 3)) ∧
    (let s : State := up;
     let t : Tick := 0;
     let who : Principal := 0;
     let p : PortId := 0;
     let a := s.advance t;
     let key := Pt.PORT_CTRL p;
     let b := a.rotDisable p a.now;
     (a.grants who key = true) ∧ (b.queueFree p = true) ∧ (b.portState p = 0)) ∧
    (let s : State := group { queue := [{ port := 0, op := .disable, since := 0 }] };
     let t : Tick := 0;
     let who : Principal := 0;
     let p : PortId := 0;
     let a := s.advance t;
     let key := Pt.PORT_CTRL p;
     let b := a.rotDisable p a.now;
     (a.grants who key = true) ∧ (b.queueFree p = false)) := by
  refine ⟨?_, ?_, ?_, ?_, ?_, ?_, ?_, ?_, ?_, ?_⟩ <;> decide +kernel

theorem witness_SpanAndForceRequestsComplete :
    (let s : State := port { force := { everEnabled := true } };
     let t : Tick := 0;
     let who : Principal := 0;
     let p : PortId := 0;
     let v : Nat := 0;
     let a := s.advance t;
     (a.grants who (Pt.SPAN p) = true) ∧ (v ≤ 3) ∧ (a.spanSafe p v = true) ∧ ((a.px p).force.everEnabled = true)) ∧
    (let s : State := up;
     let t : Tick := 0;
     let who : Principal := 0;
     let p : PortId := 0;
     let v : Nat := 0;
     let a := s.advance t;
     (a.grants who (Pt.SPAN p) = true) ∧ (v ≤ 3) ∧ (a.spanSafe p v = true) ∧ ((a.px p).force.everEnabled = false)) ∧
    (let s : State := up;
     let t : Tick := 0;
     let who : Principal := 0;
     let p : PortId := 0;
     let v : Nat := 4;
     let a := s.advance t;
     (a.grants who (Pt.SPAN p) = true) ∧ (3 < v)) ∧
    (let s : State := up.set (Pt.SAFE_VALUE 0) 0xBF800000;
     let t : Tick := 0;
     let who : Principal := 0;
     let p : PortId := 0;
     let v : Nat := 3;
     let a := s.advance t;
     (a.grants who (Pt.SPAN p) = true) ∧ (v ≤ 3) ∧ (a.spanSafe p v = false)) ∧
    (let s : State := up;
     let t : Tick := 0;
     let who : Principal := 0;
     let p : PortId := 0;
     let a := s.advance t;
     let e := 0x05020006;
     (a.grants who (Pt.FORCE_CTRL p) = true) ∧ (a.releaseCheck p = some e)) ∧
    (let s : State := (up.set (Pt.PORT_STATE 0) 2).setBit (Pt.FORCE_STATUS 0) ForceStatus.CLEARED true;
     let t : Tick := 0;
     let who : Principal := 0;
     let p : PortId := 0;
     let a := s.advance t;
     (a.grants who (Pt.FORCE_CTRL p) = true) ∧ (a.ticking p = true ∨ a.queueFree p = false) ∧ (a.releaseCheck p = none)) ∧
    (let s : State := up.set (Pt.PORT_STATE 0) 2;
     let t : Tick := 0;
     let who : Principal := 0;
     let p : PortId := 0;
     let a := s.advance t;
     (a.grants who (Pt.FORCE_CTRL p) = true) ∧ (a.ticking p = true ∨ a.queueFree p = false)) ∧
    (let s : State := up.setBit (Pt.FORCE_STATUS 0) ForceStatus.CLEARED true;
     let t : Tick := 0;
     let who : Principal := 0;
     let p : PortId := 0;
     let a := s.advance t;
     (a.grants who (Pt.FORCE_CTRL p) = true) ∧ (a.ticking p = false) ∧ (a.queueFree p = true) ∧ (a.releaseCheck p = none)) ∧
    (let s : State := up;
     let t : Tick := 0;
     let who : Principal := 0;
     let p : PortId := 0;
     let a := s.advance t;
     (a.grants who (Pt.FORCE_CTRL p) = true) ∧ (a.ticking p = false) ∧ (a.queueFree p = true)) := by
  refine ⟨?_, ?_, ?_, ?_, ?_, ?_, ?_, ?_, ?_⟩ <;> decide +kernel

theorem witness_PortStepsComplete :
    (let s : State := port { seqn := .enSpanHold 0 };
     let t : Tick := 0;
     let p : PortId := 0;
     let a := s.advance t;
     let x := a.px p;
     let e := 0;
     (x.seqn = .enSpanHold e) ∧ (e ≤ a.now)) ∧
    (let s : State := port { seqn := .enGate 0 };
     let t : Tick := 0;
     let p : PortId := 0;
     let a := s.advance t;
     let x := a.px p;
     let e := 0;
     (x.seqn = .enGate e) ∧ (e ≤ a.now)) ∧
    (let s : State := port { seqn := .discharge 0 };
     let t : Tick := 0;
     let p : PortId := 0;
     let a := s.advance t;
     let x := a.px p;
     let e := 0;
     (x.seqn = .discharge e) ∧ (e ≤ a.now)) ∧
    (let s : State := port { force := { ramp := some { kind := .release, fromCode := 0, toCode := 0, start := 0, finish := 0 } } };
     let t : Tick := 0;
     let p : PortId := 0;
     let a := s.advance t;
     let x := a.px p;
     let r := { kind := .release, fromCode := 0, toCode := 0, start := 0, finish := 0 };
     (x.force.ramp = some r) ∧ (r.finish ≤ a.now)) ∧
    (let s : State := port { seqn := .offSpan 0 };
     let t : Tick := 0;
     let p : PortId := 0;
     let a := s.advance t;
     let x := a.px p;
     let e := 0;
     (x.seqn = .offSpan e) ∧ (e ≤ a.now)) ∧
    (let s : State := up.setFld (Pt.FORCE_STATUS 0) ForceStatus.SPAN_STEP 2 2;
     let t : Tick := 0;
     let p : PortId := 0;
     let a := s.advance t;
     let x := a.px p;
     (x.seqn = .idle) ∧ (a.spanStep p = 2) ∧ (x.force.holdEnd ≤ a.now)) ∧
    (let s : State := up;
     let t : Tick := 0;
     let p : PortId := 0;
     let a := s.advance t;
     let x := a.px p;
     (a.served = true) ∧ (a.live p (Pt.READBACK_INTERVAL p) ≠ 0) ∧ (x.force.rbDue ≤ a.now)) ∧
    (let s : State := (port { force := { rbDeferred := true } }).setBit (Pt.FORCE_STATUS 0) ForceStatus.OE true;
     let t : Tick := 0;
     let p : PortId := 0;
     let a := s.advance t;
     let x := a.px p;
     (a.rbBlocked p a.now = false) ∧ (x.force.rbUrgent = false) ∧ (x.force.rbDeferred = true) ∧ (a.live p (Pt.READBACK_INTERVAL p) ≠ 0)) ∧
    (let s : State := (port { force := { rbUrgent := true } }).setBit (Pt.FORCE_STATUS 0) ForceStatus.OE true;
     let t : Tick := 0;
     let p : PortId := 0;
     let a := s.advance t;
     let x := a.px p;
     (a.rbBlocked p a.now = false) ∧ (x.force.rbUrgent = true) ∧ (x.force.rbDeferred = false)) ∧
    (let s : State := ((((up.set (Pt.PORT_STATE 0) 2).set (Pt.UPD_PERIOD 0) 1).setBit (Pt.FORCE_STATUS 0) ForceStatus.OE true).setBit (Pt.FORCE_STATUS 0) 0 true);
     let t : Tick := 0;
     let p : PortId := 0;
     let a := s.advance t;
     (a.timerEdge p a.now = true)) := by
  refine ⟨?_, ?_, ?_, ?_, ?_, ?_, ?_, ?_, ?_, ?_⟩ <;> decide +kernel

theorem witness_ClearsAndFaultsComplete :
    (let s : State := up;
     let t : Tick := 0;
     let a := s.advance t;
     (a.pwr.clrLow = false)) ∧
    (let s : State := boot { boot := 11, clrLow := true };
     let t : Tick := 0;
     let a := s.advance t;
     (a.pwr.clrLow = true)) ∧
    (let s : State := up;
     let t : Tick := 0;
     let p : PortId := 0;
     let a := s.advance t;
     ((a.px p).flt = false) ∧ (a.gated p = false)) ∧
    (let s : State := up.set (Gr.GROUP_STATE 0) 3;
     let t : Tick := 0;
     let p : PortId := 0;
     let a := s.advance t;
     ((a.px p).flt = false) ∧ (a.gated p = true)) ∧
    (let s : State := port { flt := true };
     let t : Tick := 0;
     let p : PortId := 0;
     let a := s.advance t;
     ((a.px p).flt = true)) := by
  refine ⟨?_, ?_, ?_, ?_, ?_⟩ <;> decide +kernel

theorem witness_LoopAndMeasureComplete :
    (let s : State := up;
     let t : Tick := 0;
     let p : PortId := 0;
     let a := s.advance t;
     let b := a.stepTwo p a.now;
     let q := b.live p (Pt.LINK_PORT p);
     let d := if q < 128 then b.stepTwo q a.now else b;
     (a.served = true) ∧ (a.gated p = false) ∧ (a.isBoundary p a.now = true ∨ (a.px p).loop.stepTwo = some a.now) ∧
     (d.ticking p = false)) ∧
    (let s : State := (up.set (Pt.PORT_STATE 0) 2);
     let t : Tick := 0;
     let p : PortId := 0;
     let a := s.advance t;
     let b := a.stepTwo p a.now;
     let q := b.live p (Pt.LINK_PORT p);
     let d := if q < 128 then b.stepTwo q a.now else b;
     (a.served = true) ∧ (a.gated p = false) ∧ (a.isBoundary p a.now = true ∨ (a.px p).loop.stepTwo = some a.now) ∧ (d.ticking p = true)) ∧
    (let p : PortId := 0;
     let x : State := up;
     let e : Tick := 1;
     (x.stepTwoDue p e = false)) ∧
    (let p : PortId := 0;
     let x : State := up;
     let e : Tick := 0;
     let b := [(p : Nat), x.live p (Pt.LINK_PORT p), x.rN (Pt.LINK_PORT p)].foldl (fun x q => if q < 128 then x.rangesFirst q e else x) x;
     let c := (b.modLoop p fun l => { l with stepTwo := some e }).tickConfig p e;
     (x.stepTwoDue p e = true) ∧ (c.ticking p = false)) ∧
    (let p : PortId := 0;
     let x : State := (up.set (Pt.PORT_STATE 0) 2);
     let e : Tick := 0;
     let b := [(p : Nat), x.live p (Pt.LINK_PORT p), x.rN (Pt.LINK_PORT p)].foldl (fun x q => if q < 128 then x.rangesFirst q e else x) x;
     let c := (b.modLoop p fun l => { l with stepTwo := some e }).tickConfig p e;
     let d := (c.tickRanges p e).rotBoundary p e;
     (x.stepTwoDue p e = true) ∧ (c.ticking p = true) ∧ (d.ticking p = true)) ∧
    (let s : State := (({ up.set (Pt.PORT_STATE 0) 2 with now := 320 }).setPx 0 { loopY := { tickDone := true }, loop := { lastTick := 0 } }).set (Pt.LM_EN 0) 1;
     let t : Tick := 320;
     let pipe : Fin 4 := 0;
     let a := s.advance t;
     let q := 0;
     (a.served = true) ∧ (a.now % 320 = 0) ∧ (nextVisit (a.visitPorts pipe) (Tab.get (fun _ => 0) a.lm pipe) = some q) ∧
     ((a.px q).loopY.tickDone = true) ∧ ((a.px q).loop.lastTick < a.now)) ∧
    (let s : State := up;
     let t : Tick := 0;
     let p : PortId := 0;
     let a := s.advance t;
     (a.converts p = true) ∧ (a.now % 32 = 0)) ∧
    (let s : State := port { meas := { win := some { spec := 0, n := 0, open_ := 0, ctx := 0, prov := false, counted := false, complSeen := false } } };
     let t : Tick := 0;
     let p : PortId := 0;
     let a := s.advance t;
     let w := ({ spec := 0, n := 0, open_ := 0, ctx := 0, prov := false, counted := false, complSeen := false } : PrecWin);
     let xv := ([] : List W40);
     let xi := ([] : List W40);
     ((a.px p).meas.win = some w) ∧ (a.now = w.open_ + 625 * w.n) ∧ (xv.length = w.n) ∧ (xi.length = w.n)) ∧
    (let s : State := (port { meas := { prec := some {} } }).set (Pt.PREC_FLUSH 0) 0;
     let t : Tick := 0;
     let p : PortId := 0;
     let a := s.advance t;
     let b := ({} : Blk);
     ((a.px p).meas.prec = some b) ∧ (b.firstIn + a.live p (Pt.PREC_FLUSH p) * us ≤ a.now)) ∧
    (let s : State := (port { loopY := { recBlock := [0] } }).set (Pt.PREC_FLUSH 0) 0;
     let t : Tick := 0;
     let p : PortId := 0;
     let a := s.advance t;
     ((a.px p).loopY.recBlock ≠ []) ∧ ((a.px p).loopY.recStart + a.live p (Pt.PREC_FLUSH p) * us ≤ a.now)) ∧
    (let s : State := port { meas := { ovrV := [{ ts := 0, tr := none, neg := false }] } };
     let t : Tick := 0;
     let p : PortId := 0;
     let a := s.advance t;
     (a.ovrOn p true = true)) ∧
    (let s : State := port { meas := { ovrI := [{ ts := 0, tr := none, neg := false }] } };
     let t : Tick := 0;
     let p : PortId := 0;
     let a := s.advance t;
     (a.ovrOn p false = true)) := by
  refine ⟨?_, ?_, ?_, ?_, ?_, ?_, ?_, ?_, ?_, ?_, ?_, ?_⟩ <;> decide +kernel

theorem witness_RangePhasesComplete :
    (let s : State := ranging { qv := false, a := 0, b := 1, t0 := 0, t1 := 0, t2 := 0, t3 := 0, guardEnd := 0, phase := 1, rescale := true };
     let t : Tick := 0;
     let p : PortId := 0;
     let st : RStep := { qv := false, a := 0, b := 1, t0 := 0, t1 := 0, t2 := 0, t3 := 0, guardEnd := 0, phase := 1, rescale := true };
     let a := s.advance t;
     ((a.px p).range.step = some st) ∧ (st.phase = 1) ∧ (st.t1 ≤ a.now)) ∧
    (let s : State := ranging { qv := false, a := 0, b := 1, t0 := 0, t1 := 0, t2 := 0, t3 := 0, guardEnd := 0, phase := 2, rescale := true };
     let t : Tick := 0;
     let p : PortId := 0;
     let st : RStep := { qv := false, a := 0, b := 1, t0 := 0, t1 := 0, t2 := 0, t3 := 0, guardEnd := 0, phase := 2, rescale := true };
     let a := s.advance t;
     ((a.px p).range.step = some st) ∧ (st.phase ≠ 1 ∨ a.now < st.t1)) ∧
    (let s : State := ranging { qv := false, a := 0, b := 1, t0 := 0, t1 := 0, t2 := 0, t3 := 0, guardEnd := 0, phase := 2, rescale := true };
     let t : Tick := 0;
     let p : PortId := 0;
     let st : RStep := { qv := false, a := 0, b := 1, t0 := 0, t1 := 0, t2 := 0, t3 := 0, guardEnd := 0, phase := 2, rescale := true };
     let a := s.advance t;
     ((a.px p).range.step = some st) ∧ (st.phase = 2) ∧ (st.t2 ≤ a.now)) ∧
    (let s : State := ranging { qv := false, a := 0, b := 1, t0 := 0, t1 := 0, t2 := 0, t3 := 0, guardEnd := 0, phase := 1, rescale := true };
     let t : Tick := 0;
     let p : PortId := 0;
     let st : RStep := { qv := false, a := 0, b := 1, t0 := 0, t1 := 0, t2 := 0, t3 := 0, guardEnd := 0, phase := 1, rescale := true };
     let a := s.advance t;
     ((a.px p).range.step = some st) ∧ (st.phase ≠ 2 ∨ a.now < st.t2)) ∧
    (let s : State := ranging { qv := false, a := 0, b := 1, t0 := 0, t1 := 0, t2 := 0, t3 := 0, guardEnd := 0, phase := 3, rescale := true };
     let t : Tick := 0;
     let p : PortId := 0;
     let st : RStep := { qv := false, a := 0, b := 1, t0 := 0, t1 := 0, t2 := 0, t3 := 0, guardEnd := 0, phase := 3, rescale := true };
     let a := s.advance t;
     ((a.px p).range.step = some st) ∧ (st.phase = 3) ∧ (st.t3 ≤ a.now)) ∧
    (let s : State := ranging { qv := false, a := 0, b := 1, t0 := 0, t1 := 0, t2 := 0, t3 := 0, guardEnd := 0, phase := 4, rescale := true };
     let t : Tick := 0;
     let p : PortId := 0;
     let st : RStep := { qv := false, a := 0, b := 1, t0 := 0, t1 := 0, t2 := 0, t3 := 0, guardEnd := 0, phase := 4, rescale := true };
     let a := s.advance t;
     ((a.px p).range.step = some st) ∧ (st.phase = 4) ∧ (st.guardEnd ≤ a.now)) := by
  refine ⟨?_, ?_, ?_, ?_, ?_, ?_⟩ <;> decide +kernel

theorem witness_ComparatorsComplete :
    (let x : Int := 1;
     let lo : Int := 0;
     let hi : Int := 0;
     let h : Int := 0;
     (lo ≤ hi) ∧ (0 ≤ h) ∧ (hi < x)) ∧
    (let x : Int := -1;
     let lo : Int := 0;
     let hi : Int := 0;
     let h : Int := 0;
     (lo ≤ hi) ∧ (0 ≤ h) ∧ (x < lo)) ∧
    (let x : Int := 0;
     let lo : Int := 0;
     let hi : Int := 0;
     let h : Int := 0;
     (lo ≤ hi) ∧ (0 ≤ h) ∧ (lo ≤ x) ∧ (x ≤ hi)) ∧
    (let x : Int := 0;
     let lo : Int := 0;
     let hi : Int := 0;
     let h : Int := 0;
     (lo ≤ hi) ∧ (0 ≤ h) ∧ (hi - h ≤ x)) ∧
    (let x : Int := 0;
     let lo : Int := 0;
     let hi : Int := 1;
     let h : Int := 0;
     (lo ≤ hi) ∧ (0 ≤ h) ∧ (lo ≤ x) ∧ (x < hi - h)) ∧
    (let x : Int := 0;
     let lo : Int := 0;
     let hi : Int := 0;
     let h : Int := 0;
     (lo ≤ hi) ∧ (0 ≤ h) ∧ (x ≤ lo + h)) ∧
    (let x : Int := 1;
     let lo : Int := 0;
     let hi : Int := 1;
     let h : Int := 0;
     (lo ≤ hi) ∧ (0 ≤ h) ∧ (lo + h < x) ∧ (x ≤ hi)) ∧
    (let s : State := (port { cmpI := { state := 0, decided := true }, cmpV := { state := 0, decided := true } }).set (Pt.PORT_STATE 0) 2;
     let t : Tick := 0;
     let p : PortId := 0;
     let q : Qty := .v;
     let a := s.advance t;
     let v := isV q;
     (a.cmpLive p v a.now = true)) ∧
    (let s : State := up;
     let t : Tick := 0;
     let p : PortId := 0;
     let q : Qty := .v;
     let a := s.advance t;
     let v := isV q;
     (a.cmpLive p v a.now = false)) ∧
    (let s : State := port { cmpI := { state := 0, startEnd := some 0 }, cmpV := { state := 0, startEnd := some 0 } };
     let t : Tick := 0;
     let p : PortId := 0;
     let q : Qty := .v;
     let x : Int := 0;
     let a := s.advance t;
     let v := isV q;
     let b := a.otherDecide p v false x a.now;
     let e := (0 : Tick);
     ((b.cmpOf p v).startEnd = some e) ∧ (b.cmpActive p v ≠ 5) ∧ (e ≤ a.now)) ∧
    (let s : State := ((((port { cmpV := { state := 0 } }).set (Pt.PORT_STATE 0) 2).set (Pt.CMP_V_MODE_ACTIVE 0) 5).set (Pt.CMP_I_MODE_ACTIVE 0) 5).set (Pt.SM_TICK 0) 1;
     let t : Tick := 0;
     let p : PortId := 0;
     let q : Qty := .v;
     let a := s.advance t;
     let v := isV q;
     let b := (a.smEnd p v a.now).otherStrobe p v a.now;
     (a.enabled p = true) ∧ (a.smTickAt p a.now = true) ∧ (b.cmpActive p v = 5)) ∧
    (let k : Cmp := ({} : Cmp);
     (k.strobe = none)) ∧
    (let s : State := { port { cmpV := { state := 0, strobe := some 0, startEnd := some 384 }, cmpI := { state := 0, strobe := some 0, startEnd := some 384 } } with now := 384 };
     let t : Tick := 384;
     let p : PortId := 0;
     let q : Qty := .v;
     let x : Int := 0;
     let a := s.advance t;
     let v := isV q;
     let b := a.otherDecide p v true x a.now;
     let n := (0 : Tick);
     let e := (384 : Tick);
     ((b.cmpOf p v).strobe = some n) ∧ ((b.cmpOf p v).startEnd = some e) ∧ (n + 384 ≤ a.now)) ∧
    (let s : State := (port { cmpV := { state := 0, strobe := some 0 }, cmpI := { state := 0, strobe := some 0 } });
     let t : Tick := 0;
     let p : PortId := 0;
     let q : Qty := .v;
     let a := s.advance t;
     let v := isV q;
     let b := a.otherEnd p v a.now;
     let d := b.cmpOf p v;
     let n := (0 : Tick);
     (d.strobe = some n) ∧ (d.startEnd = none) ∧ (d.strobeEnd ≤ a.now)) := by
  refine ⟨?_, ?_, ?_, ?_, ?_, ?_, ?_, ?_, ?_, ?_, ?_, ?_, ?_, ?_⟩ <;> decide +kernel

theorem witness_PgenRequestsComplete :
    (let s : State := (up.set (Pt.PORT_STATE 0) 2);
     let t : Tick := 0;
     let who : Principal := 0;
     let p : PortId := 0;
     let a := s.advance t;
     let key := Pt.PGEN_CTRL p;
     (a.grants who key = true) ∧ (a.startSrc p = 0) ∧ (a.startReason p a.now = none)) ∧
    (let s : State := up;
     let t : Tick := 0;
     let who : Principal := 0;
     let p : PortId := 0;
     let a := s.advance t;
     let key := Pt.PGEN_CTRL p;
     let r := 12;
     (a.grants who key = true) ∧ (a.startSrc p = 0) ∧ (a.startReason p a.now = some r)) ∧
    (let s : State := up.setFld (Pt.PGEN_CFG 0) PgenCfg.START_SRC 2 1;
     let t : Tick := 0;
     let who : Principal := 0;
     let p : PortId := 0;
     let a := s.advance t;
     let key := Pt.PGEN_CTRL p;
     (a.grants who key = true) ∧ (a.startSrc p ≠ 0)) ∧
    (let s : State := up.setBit (Pt.PGEN_STATUS 0) PgenStatus.TRIPPED true;
     let t : Tick := 0;
     let who : Principal := 0;
     let p : PortId := 0;
     let a := s.advance t;
     let key := Pt.PGEN_CTRL p;
     (a.grants who key = true) ∧ (a.tripped p = true) ∧ (a.rearmReason p a.now = none)) ∧
    (let s : State := (port { flt := true }).setBit (Pt.PGEN_STATUS 0) PgenStatus.TRIPPED true;
     let t : Tick := 0;
     let who : Principal := 0;
     let p : PortId := 0;
     let a := s.advance t;
     let key := Pt.PGEN_CTRL p;
     let r := 1;
     (a.grants who key = true) ∧ (a.tripped p = true) ∧ (a.rearmReason p a.now = some r)) ∧
    (let s : State := up;
     let t : Tick := 0;
     let who : Principal := 0;
     let p : PortId := 0;
     let a := s.advance t;
     let key := Pt.PGEN_CTRL p;
     (a.grants who key = true) ∧ (a.tripped p = false)) := by
  refine ⟨?_, ?_, ?_, ?_, ?_, ?_⟩ <;> decide +kernel

theorem witness_PgenEdgesComplete :
    (let s : State := port { pgen := { train := some { e0 := 0, w := 1, p := 2, n := 1, d := 0 } } };
     let t : Tick := 0;
     let p : PortId := 0;
     let a := s.advance t;
     let tr := ({ e0 := 0, w := 1, p := 2, n := 1, d := 0 } : Train);
     let e := (0 : Tick);
     (a.riseDue p a.now = some (tr, e))) ∧
    (let s : State := port { pgen := { train := some { e0 := 0, w := 0, p := 2, n := 1, d := 0, rose := 1 } } };
     let t : Tick := 0;
     let p : PortId := 0;
     let a := s.advance t;
     let tr := ({ e0 := 0, w := 0, p := 2, n := 1, d := 0, rose := 1 } : Train);
     let e := (0 : Tick);
     (a.fallDue p a.now = some (tr, e))) ∧
    (let s : State := port { pgen := { gateQ := [(0, true)] } };
     let t : Tick := 0;
     let p : PortId := 0;
     let a := s.advance t;
     let e := (0 : Tick);
     let b := true;
     let r := ([] : List (Tick × Bool));
     ((a.px p).pgen.gateQ = (e, b) :: r) ∧ (e ≤ a.now)) := by
  refine ⟨?_, ?_, ?_⟩ <;> decide +kernel

theorem witness_PortTasksComplete :
    (let s : State := up;
     let t : Tick := 0;
     let p : PortId := 0;
     let a := s.advance t;
     let got := fun (k : Nat) => (a.takePort p k a.now).1;
     (got Task.start = [])) ∧
    (let s : State := flight 1 (up.set (Pt.START_EVENT 0) 1);
     let t : Tick := 0;
     let p : PortId := 0;
     let a := s.advance t;
     let got := fun (k : Nat) => (a.takePort p k a.now).1;
     (got Task.start ≠ [])) ∧
    (let s : State := flight 1 (up.set (Pt.STOP_EVENT 0) 1);
     let t : Tick := 0;
     let p : PortId := 0;
     let a := s.advance t;
     let got := fun (k : Nat) => (a.takePort p k a.now).1;
     (got Task.stop ≠ [])) ∧
    (let s : State := flight 1 (up.set (Pt.REARM_EVENT 0) 1);
     let t : Tick := 0;
     let p : PortId := 0;
     let a := s.advance t;
     let got := fun (k : Nat) => (a.takePort p k a.now).1;
     (got Task.rearm ≠ [])) ∧
    (let s : State := flight 1 (up.set (Pt.TRIP_EVENT 0) 1);
     let t : Tick := 0;
     let p : PortId := 0;
     let a := s.advance t;
     let got := fun (k : Nat) => (a.takePort p k a.now).1;
     (got Task.trip ≠ [])) ∧
    (let s : State := flight 1 (up.set (Pt.UPD_EVENT 0) 1);
     let t : Tick := 0;
     let p : PortId := 0;
     let a := s.advance t;
     let got := fun (k : Nat) => (a.takePort p k a.now).1;
     (got Task.strike ≠ [])) ∧
    (let s : State := flight 1 ((point { ctx := 0, pt := 0, selTick := 0, tps := 0, phase := 3 }).set (Cx.ARM_EVENT 0) 1);
     let t : Tick := 0;
     let p : PortId := 0;
     let a := s.advance t;
     let got := fun (k : Nat) => (a.takePort p k a.now).1;
     (got Task.arm ≠ [])) := by
  refine ⟨?_, ?_, ?_, ?_, ?_, ?_, ?_⟩ <;> decide +kernel

theorem witness_SequencerRequestsComplete :
    (let s : State := up;
     let t : Tick := 0;
     let who : Principal := 0;
     let c : CtxId := 0;
     let a := s.advance t;
     let key := Cx.RUN_STATE c;
     (a.grants who key = true) ∧ (a.startCheck c who = none)) ∧
    (let s : State := up.set (Cx.RUN_STATE 0) 1;
     let t : Tick := 0;
     let who : Principal := 0;
     let c : CtxId := 0;
     let a := s.advance t;
     let key := Cx.RUN_STATE c;
     let e := 0x05020006;
     (a.grants who key = true) ∧ (a.startCheck c who = some e)) ∧
    (let s : State := up.set (Cx.RUN_STATE 0) 1;
     let t : Tick := 0;
     let who : Principal := 0;
     let c : CtxId := 0;
     let a := s.advance t;
     let key := Cx.RUN_STATE c;
     (a.grants who key = true) ∧ (a.rs c = 1) ∧ (a.abortWaits c = false)) ∧
    (let s : State := up.set (Cx.RUN_STATE 0) 2;
     let t : Tick := 0;
     let who : Principal := 0;
     let c : CtxId := 0;
     let a := s.advance t;
     let key := Cx.RUN_STATE c;
     (a.grants who key = true) ∧ (a.rs c = 2) ∧ (a.abortWaits c = false)) ∧
    (let s : State := up.set (Cx.RUN_STATE 0) 6;
     let t : Tick := 0;
     let who : Principal := 0;
     let c : CtxId := 0;
     let a := s.advance t;
     let key := Cx.RUN_STATE c;
     (a.grants who key = true) ∧ (a.rs c ∈ [1, 2, 6])) ∧
    (let s : State := up;
     let t : Tick := 0;
     let who : Principal := 0;
     let c : CtxId := 0;
     let a := s.advance t;
     let key := Cx.RUN_STATE c;
     (a.grants who key = true) ∧ (a.rs c ∉ [1, 2, 6])) ∧
    (let s : State := up.set (Pt.PORT_STATE 0) 2;
     let t : Tick := 0;
     let who : Principal := 0;
     let p : PortId := 0;
     let v : Nat := 0;
     let a := s.advance t;
     (a.grants who (Pt.SEQ_HOLD p) = true) ∧ (v ≤ 1) ∧ (a.ticking p = true ∨ a.queueFree p = false)) ∧
    (let s : State := up;
     let t : Tick := 0;
     let who : Principal := 0;
     let p : PortId := 0;
     let v : Nat := 0;
     let a := s.advance t;
     (a.grants who (Pt.SEQ_HOLD p) = true) ∧ (v ≤ 1) ∧ (a.ticking p = false) ∧ (a.queueFree p = true)) ∧
    (let s : State := up;
     let t : Tick := 0;
     let who : Principal := 0;
     let p : PortId := 0;
     let v : Nat := 2;
     let a := s.advance t;
     (a.grants who (Pt.SEQ_HOLD p) = true) ∧ (1 < v)) ∧
    (let s : State := up.set (Ls.COUNT 0) 1;
     let t : Tick := 0;
     let who : Principal := 0;
     let l : ListId := 0;
     let a := s.advance t;
     (a.grants who (Ls.COMMIT l) = true) ∧ (a.commitCheck l 1 = none)) ∧
    (let s : State := up.set (Ls.KIND 0) 3;
     let t : Tick := 0;
     let who : Principal := 0;
     let l : ListId := 0;
     let a := s.advance t;
     let e := 0x06010002;
     (a.grants who (Ls.COMMIT l) = true) ∧ (a.commitCheck l 1 = some e)) := by
  refine ⟨?_, ?_, ?_, ?_, ?_, ?_, ?_, ?_, ?_, ?_, ?_⟩ <;> decide +kernel

theorem witness_SequencerEventsComplete :
    (let p : PortId := 0;
     let x : State := (up.set (Pt.SEQ_HOLD 0) 1);
     ((x.px p).seq.run.isSome = true ∨ x.live p (Pt.SEQ_HOLD p) = 1)) ∧
    (let p : PortId := 0;
     let x : State := (port { seq := { queue := [{ ctx := 0, release := 0 }] } });
     let e : Tick := 0;
     let q := ({ ctx := 0, release := 0 } : QEntry);
     ((x.px p).seq.run = none) ∧ (x.live p (Pt.SEQ_HOLD p) ≠ 1) ∧
     (x.bestOf ((x.px p).seq.queue.filter fun q => decide (q.release ≤ e)) = some q)) ∧
    (let s : State := point { ctx := 0, pt := 0, selTick := 0, tps := 0, phase := Ph.arm, tset := some 0 };
     let t : Tick := 0;
     let p : PortId := 0;
     let a := s.advance t;
     let q := ({ ctx := 0, pt := 0, selTick := 0, tps := 0, phase := Ph.arm, tset := some 0 } : Point);
     let e := (0 : Tick);
     (a.runOf p = some q) ∧ (a.instantAt p = some e) ∧ (e ≤ a.now)) ∧
    (let s : State := { point { ctx := 0, pt := 0, selTick := 0, tps := 0, phase := Ph.finish, tp := some 0 } with now := 5625 };
     let t : Tick := 5625;
     let p : PortId := 0;
     let a := s.advance t;
     let q := ({ ctx := 0, pt := 0, selTick := 0, tps := 0, phase := Ph.finish, tp := some 0 } : Point);
     let e := (5625 : Tick);
     (a.runOf p = some q) ∧ (a.doneAt p = some e) ∧ (e ≤ a.now)) ∧
    (let s : State := up;
     let t : Tick := 0;
     let a := s.advance t;
     (a.now % 640000 = 0)) ∧
    (let s : State := { up with now := 1 };
     let t : Tick := 1;
     let a := s.advance t;
     (a.now % 640000 ≠ 0)) ∧
    (let s : State := { up with scan := { queue := [{ op := 0xC1, port := 0, sel := 0, route := 0, req := 0, ctx := 0 }] } };
     let t : Tick := 0;
     let a := s.advance t;
     let f := ({ op := 0xC1, port := 0, sel := 0, route := 0, req := 0, ctx := 0 } : SFrame);
     let r := ([] : List SFrame);
     (a.scan.busy = none) ∧ (a.scan.queue = f :: r) ∧ (a.scan.freeAt ≤ a.now)) ∧
    (let s : State := { up with scan := { busy := some ({ op := 0xC1, port := 0, sel := 0, route := 0, req := 0, ctx := 0 }, 0) } };
     let t : Tick := 0;
     let a := s.advance t;
     let f := ({ op := 0xC1, port := 0, sel := 0, route := 0, req := 0, ctx := 0 } : SFrame);
     let e := (0 : Tick);
     (a.scan.busy = some (f, e)) ∧ (e ≤ a.now)) ∧
    (let s : State := { point { ctx := 0, pt := 0, selTick := 0, tps := 0, phase := Ph.scan } with scan := { retries := [(0, some (0, { op := 0xC1, port := 0, sel := 0, route := 0, req := 0, ctx := 0 }))] } };
     let t : Tick := 0;
     let p : PortId := 0;
     let a := s.advance t;
     let e := (0 : Tick);
     let f := ({ op := 0xC1, port := 0, sel := 0, route := 0, req := 0, ctx := 0 } : SFrame);
     let b : State := { a with scan := { a.scan with retries := Tab.set (fun _ => none) a.scan.retries p none } };
     (Tab.get (fun _ => none) a.scan.retries p = some (e, f)) ∧ (e ≤ a.now) ∧ (b.askedBy f = true)) ∧
    (let s : State := { up with scan := { retries := [(0, some (0, { op := 0xC1, port := 0, sel := 0, route := 0, req := 0, ctx := 0 }))] } };
     let t : Tick := 0;
     let p : PortId := 0;
     let a := s.advance t;
     let e := (0 : Tick);
     let f := ({ op := 0xC1, port := 0, sel := 0, route := 0, req := 0, ctx := 0 } : SFrame);
     let b : State := { a with scan := { a.scan with retries := Tab.set (fun _ => none) a.scan.retries p none } };
     (Tab.get (fun _ => none) a.scan.retries p = some (e, f)) ∧ (e ≤ a.now) ∧ (b.askedBy f = false)) ∧
    (let s : State := point { ctx := 0, pt := 0, selTick := 0, tps := 0, phase := Ph.scan, scanOk := true, scanDue := some 0 };
     let t : Tick := 0;
     let p : PortId := 0;
     let a := s.advance t;
     let q := ({ ctx := 0, pt := 0, selTick := 0, tps := 0, phase := Ph.scan, scanOk := true, scanDue := some 0 } : Point);
     let d := (0 : Tick);
     (a.runOf p = some q) ∧ (q.phase = Ph.scan) ∧ (q.scanOk = true) ∧ (q.scanDue = some d) ∧ (d ≤ a.now)) := by
  refine ⟨?_, ?_, ?_, ?_, ?_, ?_, ?_, ?_, ?_, ?_, ?_⟩ <;> decide +kernel

theorem witness_SegmentsComplete :
    (let s : State := { up with now := 1 };
     let t : Tick := 1;
     let a := s.advance t;
     (a.now % 640000 ≠ 0)) ∧
    (let s : State := { timebase { taiSet := some (5, 0) } with now := 640000 };
     let t : Tick := 640000;
     let a := s.advance t;
     let v := (5 : Nat);
     let w := (0 : Tick);
     (a.now % 640000 = 0) ∧ (a.follows = false) ∧ (a.tb.taiSet = some (v, w)) ∧ (a.srcPps = false) ∧ (w < a.now)) ∧
    (let s : State := ({ up with tb := { role := 2, nextSeg := some {} } });
     let t : Tick := 0;
     let a := s.advance t;
     let l := ({} : Seg);
     (a.now % 640000 = 0) ∧ (a.follows = true) ∧ (a.tb.nextSeg = some l) ∧ (l.t0 ≤ a.now)) ∧
    (let s : State := timebase { theta := some { ns := 1, force := true } };
     let t : Tick := 0;
     let a := s.advance t;
     let th := ({ ns := 1, force := true } : Theta);
     (a.now % 640000 = 0) ∧ (a.follows = false) ∧ (a.taiDue a.now = none) ∧ (a.tb.theta = some th) ∧
     (th.force = true ∨ (a.rN Tb.STEP_NS : Int) ≤ absI th.ns)) ∧
    (let s : State := timebase { theta := some { ns := 1, force := false } };
     let t : Tick := 0;
     let a := s.advance t;
     let th := ({ ns := 1, force := false } : Theta);
     (a.now % 640000 = 0) ∧ (a.follows = false) ∧ (a.taiDue a.now = none) ∧ (a.tb.theta = some th) ∧ (th.force = false) ∧
     (absI th.ns < a.rN Tb.STEP_NS)) ∧
    (let s : State := timebase { segs := [{ rate := 1 }] };
     let t : Tick := 0;
     let a := s.advance t;
     let g := a.segNow;
     (a.now % 640000 = 0) ∧ (a.follows = false) ∧ (a.taiDue a.now = none) ∧ (a.tb.theta = none) ∧ (a.rN Tb.TIME_SRC = 0) ∧
     (g.rate ≠ nomRate)) := by
  refine ⟨?_, ?_, ?_, ?_, ?_, ?_⟩ <;> decide +kernel

theorem witness_TimeSourcesComplete :
    (let s : State := up;
     let t : Tick := 0;
     let a := s.advance t;
     (a.srcPps = false)) ∧
    (let s : State := (timebase { ppsTick := some 0 }).set Tb.TIME_SRC 1;
     let t : Tick := 0;
     let a := s.advance t;
     let off := fun (x : State) => (nearSecond (x.timeNs a.now) : Int) - x.timeNs a.now;
     let b := a.jEdge 0x500 11 0 a.now;
     (b.srcPps = true) ∧ (b.tb.taiSet = none) ∧ (b.tb.ppsFirst = false) ∧ (lockedAt b.tb.ppsTick a.now = true) ∧
     (absI (off b) ≤ b.rN Tb.PPS_WINDOW * 1000)) ∧
    (let s : State := ({ timebase { taiSet := some (5, 0) } with now := 1 }).set Tb.TIME_SRC 1;
     let t : Tick := 1;
     let a := s.advance t;
     let b := a.jEdge 0x500 11 0 a.now;
     let v := (5 : Nat);
     let w := (0 : Tick);
     (b.srcPps = true) ∧ (b.tb.taiSet = some (v, w)) ∧ (w < a.now)) ∧
    (let s : State := ((timebase { ppsTick := some 0, segs := [{ n0 := 500000000 }] }).set Tb.TIME_SRC 1).set Tb.PPS_WINDOW 1;
     let t : Tick := 0;
     let a := s.advance t;
     let off := fun (x : State) => (nearSecond (x.timeNs a.now) : Int) - x.timeNs a.now;
     let b := a.jEdge 0x500 11 0 a.now;
     (b.srcPps = true) ∧ (b.tb.taiSet = none) ∧ (b.tb.ppsFirst = false) ∧ (lockedAt b.tb.ppsTick a.now = true) ∧
     ((b.rN Tb.PPS_WINDOW * 1000 : Int) < absI (off b))) ∧
    (let s : State := ({ timebase { segs := [{ n0 := 999999999 }] } with now := 1 }).setBit Tb.TB_STATUS TbStatus.TAI_VALID true;
     let t : Tick := 1;
     let a := s.advance t;
     let sec := a.timeNs a.now / 1000000000;
     (a.secondAt a.now = true) ∧ (a.tb.ppsOutLast ≠ sec)) ∧
    (let s : State := (timebase { ppsOutHigh := some 0 }).set Tb.PPS_OUT_WIDTH 0;
     let t : Tick := 0;
     let a := s.advance t;
     let r := (0 : Tick);
     (a.tb.ppsOutHigh = some r) ∧ (r + 640 * a.rN Tb.PPS_OUT_WIDTH ≤ a.now)) ∧
    (let s : State := up;
     let t : Tick := 0;
     let port : Fin 2 := 0;
     let via : Fin 3 := 0;
     let domain : Nat := 0;
     let a := s.advance t;
     (a.rN Tb.PTP_PORT ≠ port ∨ a.rN Tb.PTP_TRANSPORT ≠ via ∨ a.rN Tb.PTP_DOMAIN ≠ domain ∨ a.srcPtp = false)) ∧
    (let s : State := up.set Tb.TIME_SRC 2;
     let t : Tick := 0;
     let port : Fin 2 := 0;
     let via : Fin 3 := 0;
     let two : Bool := true;
     let domain : Nat := 0;
     let a := s.advance t;
     (a.rN Tb.PTP_PORT = port) ∧ (a.rN Tb.PTP_TRANSPORT = via) ∧ (a.rN Tb.PTP_DOMAIN = domain) ∧ (a.srcPtp = true) ∧ (two = true)) ∧
    (let s : State := up.set Tb.TIME_SRC 2;
     let t : Tick := 0;
     let port : Fin 2 := 0;
     let via : Fin 3 := 0;
     let two : Bool := false;
     let domain : Nat := 0;
     let a := s.advance t;
     (a.rN Tb.PTP_PORT = port) ∧ (a.rN Tb.PTP_TRANSPORT = via) ∧ (a.rN Tb.PTP_DOMAIN = domain) ∧ (a.srcPtp = true) ∧ (two = false)) ∧
    (let s : State := (timebase { ptpSync := some (0, 0, 0) }).set Tb.TIME_SRC 2;
     let t : Tick := 0;
     let port : Fin 2 := 0;
     let via : Fin 3 := 0;
     let domain : Nat := 0;
     let a := s.advance t;
     let rx := (0 : Tick);
     let o := (0 : Nat);
     let c := (0 : Int);
     (a.tb.ptpSync = some (rx, o, c)) ∧ (a.rN Tb.PTP_PORT = port) ∧ (a.rN Tb.PTP_TRANSPORT = via) ∧ (a.rN Tb.PTP_DOMAIN = domain) ∧
     (a.srcPtp = true)) ∧
    (let s : State := ({ up with now := 1280000000 }).set Tb.TIME_SRC 1;
     let t : Tick := 1280000000;
     let a := s.advance t;
     (a.srcPps = true ∨ a.srcPtp = true) ∧ (a.tb.lastMeas.getD 0 + 1280000000 ≤ a.now)) := by
  refine ⟨?_, ?_, ?_, ?_, ?_, ?_, ?_, ?_, ?_, ?_, ?_⟩ <;> decide +kernel

theorem witness_ClocksAndSyncComplete :
    (let s : State := up;
     let t : Tick := 0;
     let who : Principal := 0;
     let a := s.advance t;
     (a.grants who Tb.TAI_SET = true)) ∧
    (let s : State := timebase { pll1 := true };
     let t : Tick := 0;
     let a := s.advance t;
     (a.rN Tb.PLL_ACTIVE = 0) ∧ (a.tb.pll1 = true)) ∧
    (let s : State := up;
     let t : Tick := 0;
     let a := s.advance t;
     (a.rN Tb.PLL_ACTIVE = 1 ∨ a.tb.pll1 = false)) ∧
    (let s : State := timebase { role := 1 };
     let t : Tick := 0;
     let a := s.advance t;
     (a.tb.role = 1) ∧ (a.now % 1048576 = 0)) ∧
    (let s : State := timebase { role := 2 };
     let t : Tick := 0;
     let crc : Bool := true;
     let a := s.advance t;
     (a.follows = true) ∧ (crc = true)) ∧
    (let s : State := up;
     let t : Tick := 0;
     let crc : Bool := false;
     let a := s.advance t;
     (a.follows = false ∨ crc = false)) ∧
    (let s : State := timebase { role := 2, acquired := true };
     let t : Tick := 0;
     let a := s.advance t;
     (a.follows = true) ∧ (a.tb.acquired = true)) ∧
    (let s : State := timebase { role := 2, acquired := true };
     let t : Tick := 0;
     let T : Nat := 0;
     let a := s.advance t;
     let b := (a.modTb fun b => { b with announced := some (T, a.now), syncHold := false }).syncTb;
     (a.follows = true) ∧ (a.tb.acquired = true) ∧ (a.bit Tb.TB_STATUS TbStatus.SYNC_LOCK = false) ∧ (b.agrees T a.now = true)) ∧
    (let s : State := (timebase { role := 2, acquired := true }).set (Pt.PORT_STATE 0) 2;
     let t : Tick := 0;
     let T : Nat := 5000;
     let a := s.advance t;
     let b := (a.modTb fun b => { b with announced := some (T, a.now), syncHold := false }).syncTb;
     (a.follows = true) ∧ (a.tb.acquired = true) ∧ (a.bit Tb.TB_STATUS TbStatus.SYNC_LOCK = false) ∧ (b.agrees T a.now = false) ∧
     (a.anyEnabled = true)) ∧
    (let s : State := timebase { role := 2, acquired := true };
     let t : Tick := 0;
     let T : Nat := 5000;
     let a := s.advance t;
     let b := (a.modTb fun b => { b with announced := some (T, a.now), syncHold := false }).syncTb;
     (a.follows = true) ∧ (a.tb.acquired = true) ∧ (a.bit Tb.TB_STATUS TbStatus.SYNC_LOCK = false) ∧ (b.agrees T a.now = false) ∧
     (a.anyEnabled = false)) ∧
    (let s : State := (List.range 16).foldl (fun (x : State) g => x.set (Gr.GROUP_STATE g) 2) up;
     let t : Tick := 0;
     let who : Principal := 0;
     let a := s.advance t;
     (a.grants who Tb.RESYNC = true) ∧ (a.allQuiet = true)) ∧
    (let s : State := (up.set (Pt.PORT_STATE 0) 2);
     let t : Tick := 0;
     let who : Principal := 0;
     let a := s.advance t;
     (a.grants who Tb.RESYNC = true) ∧ (a.allQuiet = false) ∧ (a.anyEnabled = true)) := by
  refine ⟨?_, ?_, ?_, ?_, ?_, ?_, ?_, ?_, ?_, ?_, ?_, ?_⟩ <;> decide +kernel

theorem witness_CarillonSourcesComplete :
    (let s : State := up.set Ev.TRIG_CFG_0 1;
     let t : Tick := 0;
     let n : PinId := 0;
     let a := s.advance t;
     (a.trigDir n = 1)) ∧
    (let s : State := up;
     let t : Tick := 0;
     let n : PinId := 0;
     let a := s.advance t;
     (a.trigDir n ≠ 1) ∧ (a.trigDir n ≠ 2)) ∧
    (let s : State := up.set Ev.TRIG_CFG_0 2;
     let t : Tick := 0;
     let n : PinId := 0;
     let a := s.advance t;
     (a.trigDir n = 2)) ∧
    (let s : State := up.set (Tm.TMR_PERIOD 0) 1;
     let t : Tick := 0;
     let k : TimerId := 0;
     let a := s.advance t;
     (a.timerDue k a.now = true)) ∧
    (let s : State := (up.set (Ch.CH_EN 0) 1).set (Ch.PRODUCER 0) 0x30000;
     let t : Tick := 0;
     let who : Principal := 0;
     let e : ChanId := 0;
     let a := s.advance t;
     (a.grants who (Ch.FIRE e) = true) ∧ (a.bit (Ch.CH_EN e) 0 = true) ∧ (a.rN (Ch.PRODUCER e) / 65536 = 3)) ∧
    (let s : State := up;
     let t : Tick := 0;
     let who : Principal := 0;
     let e : ChanId := 0;
     let a := s.advance t;
     (a.grants who (Ch.FIRE e) = true) ∧ (a.bit (Ch.CH_EN e) 0 = false ∨ a.rN (Ch.PRODUCER e) / 65536 ≠ 3)) ∧
    (let s : State := up;
     let t : Tick := 0;
     let who : Principal := 0;
     let e : ChanId := 0;
     let a := s.advance t;
     (a.grants who (Ch.CH_EN e) = true) ∧ (a.bit (Ch.CH_EN e) 0 = false) ∧ ((a.set (Ch.CH_EN e) 1).zeroCycle e = false)) ∧
    (let s : State := ((up.set (Ch.PRODUCER 0) (prodCode 6 0)).set (Dl.FIRE_EVENT 0) 0).set (Dl.DELAY 0) 0;
     let t : Tick := 0;
     let who : Principal := 0;
     let e : ChanId := 0;
     let a := s.advance t;
     (a.grants who (Ch.CH_EN e) = true) ∧ (a.bit (Ch.CH_EN e) 0 = false) ∧ ((a.set (Ch.CH_EN e) 1).zeroCycle e = true)) := by
  refine ⟨?_, ?_, ?_, ?_, ?_, ?_, ?_, ?_⟩ <;> decide +kernel

theorem witness_CarillonUnitsComplete :
    (let s : State := up.setDly 0 (some { due := 0, gen := 0 });
     let t : Tick := 0;
     let k : DelayId := 0;
     let a := s.advance t;
     let r := ({ due := 0, gen := 0 } : DlyRun);
     (a.dlyRun k = some r) ∧ (r.due ≤ a.now)) ∧
    (let s : State := flight 1 (up.set (Dl.FIRE_EVENT 0) 1);
     let t : Tick := 0;
     let k : DelayId := 0;
     let a := s.advance t;
     let l := a.dueFrom a.now (a.rN (Dl.FIRE_EVENT k)) (prodCode Task.dly k);
     (a.dlyRun k = none) ∧ (l ≠ [])) ∧
    (let s : State := flight 1 ((up.set (Dl.FIRE_EVENT 0) 1).setDly 0 (some { due := 1, gen := 0 }));
     let t : Tick := 0;
     let k : DelayId := 0;
     let a := s.advance t;
     let l := a.dueFrom a.now (a.rN (Dl.FIRE_EVENT k)) (prodCode Task.dly k);
     let b := a.markFrom a.now (a.rN (Dl.FIRE_EVENT k)) (prodCode Task.dly k);
     let r := ({ due := 1, gen := 0 } : DlyRun);
     (a.dlyRun k = some r) ∧ (a.now < r.due) ∧ (b.dlyRun k = some r) ∧ (l ≠ [])) ∧
    (let s : State := flight 1 (up.set (Ec.CLR_EVENT 0) 1);
     let t : Tick := 0;
     let c : CounterId := 0;
     let a := s.advance t;
     let ch := a.rN (Ec.CLR_EVENT c);
     (a.dueFrom a.now ch (prodCode Task.ecClr c) ≠ [])) ∧
    (let s : State := flight 1 (up.set (Ec.INC_EVENT_0 0) 1);
     let t : Tick := 0;
     let c : CounterId := 0;
     let a := s.advance t;
     let x := a.ecClear c a.now;
     let l := (x.incChannels c).flatMap fun ch => x.dueFrom a.now ch (prodCode Task.ecInc c);
     let b := (x.incChannels c).foldl (fun (y : State) ch => y.markFrom a.now ch (prodCode Task.ecInc c)) x;
     (l ≠ []) ∧ (b.rN (Ec.EC_MODE c) = 0)) ∧
    (let s : State := (up.set (Ec.INC_EVENT_0 0) 1).set (Ec.EC_MODE 0) 1 |>.modFab fun f => { f with flights := [{ due := 0, chan := 1, gen := 0, done := [] }, { due := 0, chan := 1, gen := 1, done := [] }] };
     let t : Tick := 0;
     let c : CounterId := 0;
     let a := s.advance t;
     let x := a.ecClear c a.now;
     let l := (x.incChannels c).flatMap fun ch => x.dueFrom a.now ch (prodCode Task.ecInc c);
     let b := (x.incChannels c).foldl (fun (y : State) ch => y.markFrom a.now ch (prodCode Task.ecInc c)) x;
     (2 ≤ l.length) ∧ (b.rN (Ec.EC_MODE c) ≠ 0)) ∧
    (let s : State := flight 1 (up.set Ev.TRIG_CFG_0 0x10002);
     let t : Tick := 0;
     let n : PinId := 0;
     let a := s.advance t;
     let cfg := a.trigCfg n;
     let l := a.dueFrom a.now (field cfg 16 16) (prodCode Task.trig n);
     let b := a.markFrom a.now (field cfg 16 16) (prodCode Task.trig n);
     (l ≠ []) ∧ (b.trigDir n = 2) ∧ (bitOf cfg 2 = false) ∧ (Tab.get (fun _ => 0) b.fab.trigBusy n ≤ a.now)) ∧
    (let s : State := flight 1 (up.set Ev.TRIG_CFG_0 0x10006);
     let t : Tick := 0;
     let n : PinId := 0;
     let a := s.advance t;
     let cfg := a.trigCfg n;
     let l := a.dueFrom a.now (field cfg 16 16) (prodCode Task.trig n);
     let b := a.markFrom a.now (field cfg 16 16) (prodCode Task.trig n);
     (l ≠ []) ∧ (b.trigDir n = 2) ∧ (bitOf cfg 2 = true)) ∧
    (let s : State := (up.set Ev.TRIG_CFG_0 2).modFab fun f => { f with trigOut := [(0, true)] };
     let t : Tick := 0;
     let n : PinId := 0;
     let a := s.advance t;
     (a.trigDir n = 2) ∧ (bitOf (a.trigCfg n) 2 = false) ∧ (Tab.get (fun _ => false) a.fab.trigOut n = true) ∧
     (Tab.get (fun _ => 0) a.fab.trigBusy n ≤ a.now)) ∧
    (let s : State := flight 1 (up.set Ev.GONG_SRC 1);
     let t : Tick := 0;
     let a := s.advance t;
     let l := a.dueFrom a.now (a.rN Ev.GONG_SRC) gongCounted;
     (l ≠ [])) := by
  refine ⟨?_, ?_, ?_, ?_, ?_, ?_, ?_, ?_, ?_, ?_⟩ <;> decide +kernel

theorem witness_FabricAccessesComplete :
    (let s : State := up;
     let t : Tick := 0;
     let rs : List FabReq := [];
     let hits : List (Nat × Upset) := [];
     let a := s.advance t;
     let b := (hits.foldl (fun x h => x.upset h.1 h.2) a).fabRequest rs;
     (b.micro.any (fun m => decide (m.2 = Micro.fabCycle)) = false) ∧ (a.now % 2 = 0)) ∧
    (let s : State := { up with now := 1 };
     let t : Tick := 1;
     let rs : List FabReq := [];
     let hits : List (Nat × Upset) := [];
     let a := s.advance t;
     let b := (hits.foldl (fun x h => x.upset h.1 h.2) a).fabRequest rs;
     (b.micro.any (fun m => decide (m.2 = Micro.fabCycle)) = false) ∧ (a.now % 2 = 1)) ∧
    (let s : State := { up with micro := [(2, .fabCycle)] };
     let t : Tick := 0;
     let rs : List FabReq := [];
     let hits : List (Nat × Upset) := [];
     let a := s.advance t;
     let b := (hits.foldl (fun x h => x.upset h.1 h.2) a).fabRequest rs;
     (b.micro.any (fun m => decide (m.2 = Micro.fabCycle)) = true)) ∧
    (let s : State := up.modMem fun m => { m with fix := [0] };
     let t : Tick := 0;
     let addr : Nat := 0;
     let a := s.advance t;
     (a.banksFree = true) ∧ (addr ∈ a.mem.fix)) ∧
    (let s : State := up;
     let t : Tick := 0;
     let addr : Nat := 0;
     let a := s.advance t;
     (a.banksFree = false ∨ addr ∉ a.mem.fix)) ∧
    (let s : State := up.setBit Fb.FAB_STATUS FabStatus.WIPING true;
     let t : Tick := 0;
     let a := s.advance t;
     (a.wiping = true) ∧ (a.mem.wipeEnd ≤ a.now)) ∧
    (let s : State := up;
     let t : Tick := 0;
     let a := s.advance t;
     (a.wiping = false ∨ a.now < a.mem.wipeEnd)) := by
  refine ⟨?_, ?_, ?_, ?_, ?_, ?_, ?_⟩ <;> decide +kernel

theorem witness_RegionsAndRingsComplete :
    (let s : State := (up.set (Rg.FIRST_PAGE 0) 1).set (Rg.PAGE_COUNT 0) 1;
     let t : Tick := 0;
     let who : Principal := 0;
     let r : RegionId := 0;
     let a := s.advance t;
     (a.grants who (Rg.REGION_EN r) = true) ∧ (a.bit (Rg.REGION_EN r) 0 = false) ∧ (a.regionGeometryOk r = true)) ∧
    (let s : State := up;
     let t : Tick := 0;
     let who : Principal := 0;
     let r : RegionId := 0;
     let a := s.advance t;
     (a.grants who (Rg.REGION_EN r) = true) ∧ (a.bit (Rg.REGION_EN r) 0 = false) ∧ (a.regionGeometryOk r = false)) ∧
    (let s : State := up.set (Rg.REGION_EN 0) 1;
     let t : Tick := 0;
     let who : Principal := 0;
     let r : RegionId := 0;
     let a := s.advance t;
     (a.grants who (Rg.REGION_EN r) = true) ∧ (a.bit (Rg.REGION_EN r) 0 = true) ∧ (a.ringIn r = false)) ∧
    (let s : State := (((((up.set (Rg.FIRST_PAGE 0) 1).set (Rg.PAGE_COUNT 0) 1).set (Rg.REGION_EN 0) 1).set (Rn.BASE_PAGE 0) 1).set (Rn.SIZE_LOG2 0) 6).set (Rn.RING_EN 0) 1;
     let t : Tick := 0;
     let who : Principal := 0;
     let r : RegionId := 0;
     let a := s.advance t;
     (a.grants who (Rg.REGION_EN r) = true) ∧ (a.bit (Rg.REGION_EN r) 0 = true) ∧ (a.ringIn r = true)) ∧
    (let s : State := up.set (Rg.REGION_STATE 0) 1;
     let t : Tick := 0;
     let r : RegionId := 0;
     let a := s.advance t;
     (a.banksFree = true) ∧ (a.rN (Rg.REGION_STATE r) = 1)) ∧
    (let s : State := ((((up.set (Rg.FIRST_PAGE 0) 1).set (Rg.PAGE_COUNT 0) 1).set (Rg.REGION_EN 0) 1).set (Rn.BASE_PAGE 0) 1).set (Rn.SIZE_LOG2 0) 6;
     let t : Tick := 0;
     let who : Principal := 0;
     let q : RingId := 0;
     let a := s.advance t;
     (a.grants who (Rn.RING_EN q) = true) ∧ (a.bit (Rn.RING_EN q) 0 = false) ∧ (a.ringPlaced q = true)) ∧
    (let s : State := up.set (Rn.RING_EN 0) 1;
     let t : Tick := 0;
     let who : Principal := 0;
     let q : RingId := 0;
     let a := s.advance t;
     (a.grants who (Rn.RING_EN q) = true) ∧ (a.bit (Rn.RING_EN q) 0 = true)) ∧
    (let s : State := up.setRingQ 0 [(0, [])];
     let t : Tick := 0;
     let q : RingId := 0;
     let a := s.advance t;
     let b := ((0, []) : Tick × List Nat);
     let l := ([] : List (Tick × List Nat));
     (a.banksFree = true) ∧ (a.ringQ q = b :: l) ∧ ((a.setRingQ q l).ringFull q = false) ∧ (a.rN (Rn.RING_MODE q) = 0)) ∧
    (let s : State := (up.setRingQ 0 [(0, [])]).set (Rn.WR_COUNT 0) 64;
     let t : Tick := 0;
     let q : RingId := 0;
     let a := s.advance t;
     let b := ((0, []) : Tick × List Nat);
     let l := ([] : List (Tick × List Nat));
     (a.banksFree = true) ∧ (a.ringQ q = b :: l) ∧ ((a.setRingQ q l).ringFull q = true) ∧ (a.rN (Rn.RING_MODE q) = 0)) ∧
    (let s : State := up;
     let t : Tick := 0;
     let who : Principal := 0;
     let q : RingId := 0;
     let v : Nat := 0;
     let a := s.advance t;
     (a.grants who (Rn.CONS_HOST q) = true) ∧ (a.dmaOn q = false) ∧ (a.consOk q v = true)) ∧
    (let s : State := up.set (Dm.DMA_EN 0) 1;
     let t : Tick := 0;
     let who : Principal := 0;
     let q : RingId := 0;
     let a := s.advance t;
     (a.grants who (Rn.CONS_HOST q) = true) ∧ (a.dmaOn q = true)) ∧
    (let s : State := up;
     let t : Tick := 0;
     let who : Principal := 0;
     let v : Nat := 0;
     let a := s.advance t;
     (a.grants who Fb.BT_REQUEST = true) ∧ (v ≤ 63)) ∧
    (let s : State := up;
     let t : Tick := 0;
     let a := s.advance t;
     (a.served = true)) ∧
    (let s : State := up.set Fb.BT_STATE 1;
     let t : Tick := 0;
     let a := s.advance t;
     (a.rN Fb.BT_STATE = 1) ∧ (a.mem.btDue ≤ a.now)) ∧
    (let s : State := up.set Fb.BT_STATE 2;
     let t : Tick := 0;
     let a := s.advance t;
     (a.rN Fb.BT_STATE = 2) ∧ (a.mem.btDue ≤ a.now)) ∧
    (let s : State := up.set Fb.BT_STATE 3;
     let t : Tick := 0;
     let a := s.advance t;
     (a.rN Fb.BT_STATE = 3) ∧ (a.mem.btDue ≤ a.now)) := by
  refine ⟨?_, ?_, ?_, ?_, ?_, ?_, ?_, ?_, ?_, ?_, ?_, ?_, ?_, ?_, ?_, ?_⟩ <;> decide +kernel

theorem witness_MonitorConverterComplete :
    (let s : State := up;
     let t : Tick := 0;
     let who : Principal := 0;
     let v : Nat := 0;
     let a := s.advance t;
     (a.grants who Mc.MC_REQ = true) ∧ (a.mcReqCheck v = none) ∧ (bitOf v 15 = false)) ∧
    (let s : State := up;
     let t : Tick := 0;
     let who : Principal := 0;
     let v : Nat := 32768;
     let a := s.advance t;
     (a.grants who Mc.MC_REQ = true) ∧ (a.mcReqCheck v = none) ∧ (bitOf v 15 = true)) ∧
    (let s : State := up.modMc fun m => { m with softBusy := true };
     let t : Tick := 0;
     let who : Principal := 0;
     let v : Nat := 0;
     let a := s.advance t;
     let e := 0x05020005;
     (a.grants who Mc.MC_REQ = true) ∧ (a.mcReqCheck v = some e)) ∧
    (let s : State := up.modMc fun m => { m with cyc := { phase := 1, req := some ({ input := 0, alt := false, cls := 0, due := 0 } : McReq) } };
     let t : Tick := 0;
     let a := s.advance t;
     let q := ({ input := 0, alt := false, cls := 0, due := 0 } : McReq);
     (a.mc.cyc.phase = 1) ∧ (a.mc.cyc.req = some q) ∧ (a.mc.cyc.due ≤ a.now)) ∧
    (let s : State := up.modMc fun m => { m with cyc := { phase := 2, req := some ({ input := 0, alt := false, cls := 0, due := 0 } : McReq) } };
     let t : Tick := 0;
     let a := s.advance t;
     let q := ({ input := 0, alt := false, cls := 0, due := 0 } : McReq);
     (a.mc.cyc.phase = 2) ∧ (a.mc.cyc.req = some q) ∧ (a.mc.cyc.due ≤ a.now)) ∧
    (let s : State := up.modMc fun m => { m with cyc := { phase := 3, req := some ({ input := 0, alt := false, cls := 0, due := 0 } : McReq) } };
     let t : Tick := 0;
     let a := s.advance t;
     (a.mc.cyc.phase = 3) ∧ (a.mc.cyc.due ≤ a.now)) ∧
    (let s : State := up.modMc fun m => { m with queue := [{ word := 0, tick := 0 }] };
     let t : Tick := 0;
     let r : Fin 3 := 0;
     let a := s.advance t;
     let e := ({ word := 0, tick := 0 } : McEntry);
     (a.mcReads r = true) ∧ (a.mc.queue[a.mcPtr r - a.mc.base]? = some e)) ∧
    (let s : State := up;
     let t : Tick := 0;
     let i : McInput := 1008;
     let alt : Bool := false;
     let a := s.advance t;
     let due := Tab.get (fun _ => 0) a.mc.next (mcKey i alt);
     let gap := a.mcInterval i alt;
     (a.served = true) ∧ (a.supvOn = true) ∧ (i.val < 1023) ∧ ((alt = true → mcHasAlt i = true)) ∧ (mcClass i alt ≠ 1) ∧
     (a.mcActive i alt = true) ∧ (due ≤ a.now) ∧ (a.now < due + gap)) := by
  refine ⟨?_, ?_, ?_, ?_, ?_, ?_, ?_, ?_⟩ <;> decide +kernel

theorem witness_CalibrationRunsComplete :
    (let s : State := up;
     let t : Tick := 0;
     let who : Principal := 0;
     let a := s.advance t;
     (a.grants who Ca.REF_XFER_REQ = true)) ∧
    (let s : State := ({ up with now := 64000000000 }).set Ca.REF_XFER_INTERVAL 1;
     let t : Tick := 64000000000;
     let a := s.advance t;
     (a.served = true) ∧ (a.rN Ca.REF_XFER_INTERVAL ≠ 0) ∧ (a.cal.lastXfer + a.rN Ca.REF_XFER_INTERVAL * 640000000 ≤ a.now)) ∧
    (let s : State := { up with cal := { retryAt := some 0, cellWant := some 0 } };
     let t : Tick := 0;
     let a := s.advance t;
     let r := (0 : Tick);
     (a.cal.retryAt = some r) ∧ (r ≤ a.now) ∧ (a.cal.cellWant.isSome = true ∨ a.rQ Ca.REFX_VALUE ≠ 0)) ∧
    (let s : State := { up with cal := { xfer := some ({ step := 1, due := 0, group := 0, cell := none } : Xfer) } };
     let t : Tick := 0;
     let a := s.advance t;
     let x := ({ step := 1, due := 0, group := 0, cell := none } : Xfer);
     (a.cal.xfer = some x) ∧ (x.step ≤ 3) ∧ (x.due ≤ a.now)) ∧
    (let s : State := up.modRot 0 fun r => { r with run := some ({ slice := 0, step := 1, due := 0, npc := 1, purpose := 0, role := 0, temp0 := 0, gainSel := 0, offSel := 0, segMap := [] } : CalRun) };
     let t : Tick := 0;
     let g : GroupId := 0;
     let a := s.advance t;
     let r := ({ slice := 0, step := 1, due := 0, npc := 1, purpose := 0, role := 0, temp0 := 0, gainSel := 0, offSel := 0, segMap := [] } : CalRun);
     ((a.rot g).run = some r) ∧ (r.step ≤ 7) ∧ (r.due ≤ a.now)) ∧
    (let s : State := { up with nv := { started := true, cmds := [({ pair := 0, data := {}, job := .image } : Commit)] } };
     let t : Tick := 0;
     let a := s.advance t;
     let c := ({ pair := 0, data := {}, job := .image } : Commit);
     let r := ([] : List Commit);
     (a.nv.started = true) ∧ (a.nv.cmds = c :: r)) := by
  refine ⟨?_, ?_, ?_, ?_, ?_, ?_⟩ <;> decide +kernel

theorem witness_RotationComplete :
    (let s : State := up;
     let t : Tick := 0;
     let who : Principal := 0;
     let g : GroupId := 0;
     let a := s.advance t;
     (a.grants who (Gr.ROT_REQUEST g) = true)) ∧
    (let s : State := (up.set (Gr.GROUP_TEMP 0) 0x42C80000).setBit Pw.PWR_STATUS PwrStatus.FULL true;
     let t : Tick := 0;
     let g : GroupId := 0;
     let a := s.advance t;
     (a.full = true) ∧ (a.rQ (Gr.DT_CAL_EFF g) < absR (a.rQ (Gr.GROUP_TEMP g) - a.rQ (Gr.CAL_LAST_TEMP g)))) ∧
    (let s : State := (({ up with now := 640000000 }).set (Gr.ROT_INTERVAL 0) 1).setBit Pw.PWR_STATUS PwrStatus.FULL true;
     let t : Tick := 640000000;
     let g : GroupId := 0;
     let a := s.advance t;
     (a.full = true) ∧ (a.rN (Gr.ROT_INTERVAL g) ≠ 0) ∧
     (a.rN (Gr.ROT_LAST_START g) + a.rN (Gr.ROT_INTERVAL g) * 1000000000 ≤ a.timeNs a.now)) ∧
    (let s : State := up.setBit (Gr.ROT_STATUS 0) RotStatus.ROT_PENDING true;
     let t : Tick := 0;
     let g : GroupId := 0;
     let a := s.advance t;
     (a.bit (Gr.ROT_STATUS g) RotStatus.ROT_PENDING = true) ∧ (a.inGap g a.now = false)) ∧
    (let s : State := up.modRot 0 fun r => { r with st := 2, step := 5 };
     let t : Tick := 0;
     let g : GroupId := 0;
     let a := s.advance t;
     (a.rotTimed g 1 5 a.now = true)) ∧
    (let s : State := up.modRot 0 fun r => { r with st := 2, step := 6 };
     let t : Tick := 0;
     let g : GroupId := 0;
     let a := s.advance t;
     (a.rotTimed g 2 6 a.now = true)) ∧
    (let s : State := up;
     let t : Tick := 0;
     let g : GroupId := 0;
     let a := s.advance t;
     (a.rotTimed g 2 6 a.now = false)) ∧
    (let s : State := { (up.modGx 0 fun x => { x with overlap := some 0 }).modRot 0 fun r => { r with done := 0 } with now := 640 };
     let t : Tick := 640;
     let g : GroupId := 0;
     let a := s.advance t;
     ((a.gx g).overlap.isSome = true) ∧ ((a.rot g).done = 0) ∧ ((a.rot g).tx + 640 ≤ a.now)) ∧
    (let s : State := { (up.modGx 0 fun x => { x with overlap := some 0 }).modRot 0 fun r => { r with done := 1 } with now := 1280 };
     let t : Tick := 1280;
     let g : GroupId := 0;
     let a := s.advance t;
     ((a.gx g).overlap.isSome = true) ∧ ((a.rot g).done = 1) ∧ ((a.rot g).tx + 1280 ≤ a.now)) ∧
    (let s : State := { (up.modGx 0 fun x => { x with overlap := some 0 }).modRot 0 fun r => { r with done := 2 } with now := 1344 };
     let t : Tick := 1344;
     let g : GroupId := 0;
     let a := s.advance t;
     ((a.gx g).overlap.isSome = true) ∧ ((a.rot g).done = 2) ∧ ((a.rot g).tx + 1344 ≤ a.now)) := by
  refine ⟨?_, ?_, ?_, ?_, ?_, ?_, ?_, ?_, ?_, ?_⟩ <;> decide +kernel

theorem witness_HealthComplete :
    (let s : State := { up with now := 640000000 };
     let t : Tick := 640000000;
     let a := s.advance t;
     (a.served = true) ∧ (a.age.stressAt + 640000000 ≤ a.now)) ∧
    (let s : State := up;
     let t : Tick := 0;
     let a := s.advance t;
     (a.served = false ∨ a.now < a.age.stressAt + 640000000)) ∧
    (let s : State := { up with now := 55296000000000 };
     let t : Tick := 55296000000000;
     let a := s.advance t;
     (a.served = true) ∧ (a.age.evalAt + a.rN Ag.EVAL_INTERVAL * 640000000 ≤ a.now)) ∧
    (let s : State := up;
     let t : Tick := 0;
     let a := s.advance t;
     (a.served = false ∨ a.now < a.age.evalAt + a.rN Ag.EVAL_INTERVAL * 640000000)) ∧
    (let s : State := { up with now := 55296000000000 };
     let t : Tick := 55296000000000;
     let i : SliceId := 0;
     let a := s.advance t;
     (a.served = true) ∧ ((a.sx i).lastCommit + 55296000000000 ≤ a.now) ∧ (a.committing (.health i) = false)) ∧
    (let s : State := up;
     let t : Tick := 0;
     let i : SliceId := 0;
     let a := s.advance t;
     (a.served = false ∨ a.now < (a.sx i).lastCommit + 55296000000000 ∨ a.committing (.health i) = true)) ∧
    (let s : State := up;
     let t : Tick := 0;
     let who : Principal := 0;
     let i : SliceId := 0;
     let a := s.advance t;
     (a.grants who (Sl.WORN_REQ i) = true)) ∧
    (let s : State := up;
     let t : Tick := 0;
     let who : Principal := 0;
     let i : SliceId := 0;
     let a := s.advance t;
     let v := (0 : Nat);
     (a.grants who (Sl.WORN_REQ i) = true) ∧ (v ≠ 1)) := by
  refine ⟨?_, ?_, ?_, ?_, ?_, ?_, ?_, ?_⟩ <;> decide +kernel

theorem witness_WindowsAndFailuresComplete :
    (let s : State := up.set (Gr.WIN_STATE 0) 1;
     let t : Tick := 0;
     let g : GroupId := 0;
     let a := s.advance t;
     (a.rN (Gr.WIN_STATE g) = 1) ∧ ((a.rot g).winDue ≤ a.now)) ∧
    (let s : State := up;
     let t : Tick := 0;
     let who : Principal := 0;
     let p : PortId := 0;
     let a := s.advance t;
     let key := Pt.WIN_CTRL p;
     (a.grants who key = true) ∧ (a.ticking p = false) ∧ (a.queueFree p = true)) ∧
    (let s : State := up.set (Pt.PORT_STATE 0) 2;
     let t : Tick := 0;
     let who : Principal := 0;
     let p : PortId := 0;
     let a := s.advance t;
     let key := Pt.WIN_CTRL p;
     (a.grants who key = true) ∧ (a.ticking p = true ∨ a.queueFree p = false)) ∧
    (let s : State := ({ up with age := { vote := some (0, 0) } }).set (Sl.SLICE_ROLE 8) 2;
     let t : Tick := 0;
     let a := s.advance t;
     let k := (0 : Nat);
     let e := (0 : Tick);
     (a.age.vote = some (k, e)) ∧ (e ≤ a.now) ∧ (a.voteReady = true)) ∧
    (let s : State := up;
     let t : Tick := 0;
     let a := s.advance t;
     (a.served = true)) ∧
    (let s : State := { up with age := { takeover := some (0, 0) } };
     let t : Tick := 0;
     let a := s.advance t;
     let r := (0 : Nat);
     let d := (0 : Tick);
     (a.age.takeover = some (r, d))) := by
  refine ⟨?_, ?_, ?_, ?_, ?_, ?_⟩ <;> decide +kernel

theorem witness_OdServiceComplete :
    (let s : State := group { held := [(0, 0, ({ port := 0, op := .disable, since := 0 } : GcCmd))] };
     let t : Tick := 0;
     let g : GroupId := 0;
     let a := s.advance t;
     let w := (0 : Nat);
     let k := (0 : Nat);
     let c := ({ port := 0, op := .disable, since := 0 } : GcCmd);
     let l := ([] : List (Nat × Nat × GcCmd));
     ((a.gx g).held = (w, k, c) :: l) ∧ ((a.gx g).queue.length < 64)) ∧
    (let s : State := up;
     let t : Tick := 0;
     let who : Principal := 0;
     let key : Nat := Pt.SPAN 0;
     let data : List Byte := [0];
     let a := s.advance t;
     (a.reaches who key = true) ∧ (a.writeFirst key data.length = none) ∧ (((entryRow key).bind fun r => tyBytes r.ty).isSome = true)) ∧
    (let s : State := up;
     let t : Tick := 0;
     let who : Principal := 0;
     let key : Nat := Pt.RANGE_MAP 0;
     let data : List Byte := List.replicate 19 0;
     let a := s.advance t;
     (a.reaches who key = true) ∧ (a.writeFirst key data.length = none) ∧ (((entryRow key).bind fun r => tyBytes r.ty) = none)) ∧
    (let s : State := up;
     let t : Tick := 0;
     let who : Principal := 0;
     let key : Nat := 0;
     let data : List Byte := [];
     let a := s.advance t;
     let e := 16842752;
     (a.reaches who key = true) ∧ (a.writeFirst key data.length = some e)) ∧
    (let s : State := up;
     let t : Tick := 0;
     let who : Principal := 0;
     let a := s.advance t;
     (a.grants who Dv.CFG_SAVE = true)) := by
  refine ⟨?_, ?_, ?_, ?_, ?_⟩ <;> decide +kernel

theorem witness_RecorderComplete :
    (let s : State := up;
     let t : Tick := 0;
     let who : Principal := 0;
     let v : Nat := 0;
     let a := s.advance t;
     (a.grants who Rc.J_EN = true) ∧ (v ≤ 1)) ∧
    (let s : State := up;
     let t : Tick := 0;
     let who : Principal := 0;
     let a := s.advance t;
     (a.grants who Rc.STORE_INIT = true)) ∧
    (let s : State := up;
     let t : Tick := 0;
     let who : Principal := 0;
     let v : Nat := 0;
     let a := s.advance t;
     (a.grants who Rc.OFFLOADED = true) ∧ (a.rN Rc.OFFLOADED ≤ v) ∧ (v ≤ a.rN Rc.CHUNK_NEXT)) ∧
    (let s : State := up;
     let t : Tick := 0;
     let who : Principal := 0;
     let v : Nat := 1;
     let a := s.advance t;
     (a.grants who Rc.OFFLOADED = true) ∧ (v < a.rN Rc.OFFLOADED ∨ a.rN Rc.CHUNK_NEXT < v)) ∧
    (let s : State := { up with rcd := { recs := [{ rtype := 0, src := 0, tick := 0, words := [] }] }, now := 6400000000 };
     let t : Tick := 6400000000;
     let a := s.advance t;
     (a.rcd.recs ≠ []) ∧ (a.rcd.openSince + a.rN Rc.J_FLUSH * 640000 ≤ a.now)) ∧
    (let s : State := { up with rcd := { cmd := some ({ kind := 2, issued := 0 } : NvCmd) } };
     let t : Tick := 0;
     let a := s.advance t;
     let c := ({ kind := 2, issued := 0 } : NvCmd);
     (a.rcd.cmd = some c) ∧ (c.retryAt = none)) ∧
    (let s : State := { up with rcd := { cmd := some ({ kind := 2, issued := 0 } : NvCmd) }, now := 640000000 };
     let t : Tick := 640000000;
     let a := s.advance t;
     let c := ({ kind := 2, issued := 0 } : NvCmd);
     (a.rcd.cmd = some c) ∧ (c.retryAt = none) ∧ (c.issued + 640000000 ≤ a.now)) ∧
    (let s : State := { up with rcd := { cmd := some { kind := 2, issued := 0, retryAt := some 0 } } };
     let t : Tick := 0;
     let a := s.advance t;
     let c := ({ kind := 2, issued := 0, retryAt := some 0 } : NvCmd);
     let r := (0 : Tick);
     (a.rcd.cmd = some c) ∧ (c.retryAt = some r) ∧ (r ≤ a.now)) ∧
    (let s : State := { up with rcd := { sinceHeader := 1024 } };
     let t : Tick := 0;
     let a := s.advance t;
     (0 < a.rcd.sinceHeader) ∧ (a.rcd.headerAt + 6400000000 ≤ a.now ∨ 1024 ≤ a.rcd.sinceHeader)) ∧
    (let s : State := up.setBit Rc.J_STATUS JStatus.RUN true;
     let t : Tick := 0;
     let a := s.advance t;
     (a.recRun = true) ∧ (a.rcd.ckptAt ≤ a.now)) ∧
    (let s : State := up.setBit Rc.J_STATUS JStatus.RUN true;
     let t : Tick := 0;
     let a := s.advance t;
     (a.recRun = true) ∧ (a.rcd.snapAt ≤ a.now)) ∧
    (let s : State := up.setBit Rc.J_STATUS JStatus.SCAN true;
     let t : Tick := 0;
     let a := s.advance t;
     (a.bit Rc.J_STATUS JStatus.SCAN = true)) := by
  refine ⟨?_, ?_, ?_, ?_, ?_, ?_, ?_, ?_, ?_, ?_, ?_, ?_⟩ <;> decide +kernel

theorem witness_ReplayComplete :
    (let s : State := ((up.set Pw.PWR_STATUS 0).set Rp.RP_PORTS_LO 1).set Rp.RP_END 1;
     let t : Tick := 0;
     let who : Principal := 0;
     let a := s.advance t;
     (a.grants who Rp.RP_CTRL = true) ∧ (a.provisional = false) ∧ (a.rN Rp.RP_STATE = 0 ∨ a.rN Rp.RP_STATE = 3) ∧
     (1 ≤ a.rpPorts.length) ∧ (a.rpPorts.length ≤ 8) ∧ (a.rN Rp.RP_START < a.rN Rp.RP_END)) ∧
    (let s : State := up.set Rp.RP_STATE 1;
     let t : Tick := 0;
     let who : Principal := 0;
     let a := s.advance t;
     (a.grants who Rp.RP_CTRL = true) ∧ (a.rN Rp.RP_STATE = 1 ∨ a.rN Rp.RP_STATE = 2)) ∧
    (let s : State := up.set Rp.RP_STATE 2;
     let t : Tick := 0;
     let who : Principal := 0;
     let a := s.advance t;
     (a.grants who Rp.RP_CTRL = true) ∧ (a.rN Rp.RP_STATE = 1 ∨ a.rN Rp.RP_STATE = 2)) ∧
    (let s : State := up;
     let t : Tick := 0;
     let who : Principal := 0;
     let a := s.advance t;
     (a.grants who Rp.RP_CTRL = true) ∧ (a.rN Rp.RP_STATE = 0 ∨ a.rN Rp.RP_STATE = 3)) ∧
    (let s : State := up.set Rp.RP_STATE 1;
     let t : Tick := 0;
     let a := s.advance t;
     (a.rN Rp.RP_STATE = 1)) ∧
    (let s : State := (up.set Rp.RP_STATE 2).set Rc.CHUNK_OLDEST 1;
     let t : Tick := 0;
     let c : RpChunk := { no := 0, base := 0, epoch := 0, data := [] };
     let a := s.advance t;
     (a.rN Rp.RP_STATE = 2) ∧ (c.no < a.rN Rc.CHUNK_OLDEST)) ∧
    (let s : State := up;
     let t : Tick := 0;
     let a := s.advance t;
     (a.rN Rp.RP_STATE ≠ 2)) := by
  refine ⟨?_, ?_, ?_, ?_, ?_, ?_, ?_⟩ <;> decide +kernel

theorem witness_RailsComplete :
    (let s : State := up;
     let t : Tick := 0;
     let a := s.advance t;
     (a.railsServed = true) ∧ (a.rail.pollAt ≤ a.now)) ∧
    (let s : State := { up with rail := { bus := [({ rail := 0, code := 0 } : PmbReq)] } };
     let t : Tick := 0;
     let a := s.advance t;
     let q := ({ rail := 0, code := 0 } : PmbReq);
     let l := ([] : List PmbReq);
     (a.rail.bus = q :: l) ∧ (q.tries < 2)) ∧
    (let s : State := up;
     let t : Tick := 0;
     let who : Principal := 0;
     let n : RailId := 0;
     let v : Nat := 1;
     let a := s.advance t;
     (a.grants who (Rl.RAIL_ON n) = true) ∧ (a.rN (Rl.RAIL_ROLE n) = 0) ∧ (1 ≤ v) ∧ (v ≤ 2)) ∧
    (let s : State := up.set (Rl.RAIL_EN 0) 1;
     let t : Tick := 0;
     let n : RailId := 0;
     let a := s.advance t;
     (a.bit (Rl.RAIL_EN n) 0 = true)) ∧
    (let s : State := up;
     let t : Tick := 0;
     let n : RailId := 0;
     let a := s.advance t;
     (a.bit (Rl.RAIL_EN n) 0 = false)) ∧
    (let s : State := (up.setPgBy 0 (some 0)).set (Rl.RAIL_STATE 0) 1;
     let t : Tick := 0;
     let n : RailId := 0;
     let a := s.advance t;
     let b := (0 : Tick);
     (a.railPgBy n = some b) ∧ (b ≤ a.now) ∧ (a.railState n = 1)) ∧
    (let s : State := { up with rail := { seqs := [{ job := .boot, rail := 0, due := some 0, left := [] }] } };
     let t : Tick := 0;
     let n : RailId := 0;
     let a := s.advance t;
     let q := ({ job := .boot, rail := 0, due := some 0, left := [] } : RailSeq);
     let e := (0 : Tick);
     (a.rail.seqs = [q]) ∧ (q.rail = n) ∧ (q.due = some e) ∧ (e ≤ a.now)) := by
  refine ⟨?_, ?_, ?_, ?_, ?_, ?_, ?_⟩ <;> decide +kernel

theorem witness_FirmwareComplete :
    (let s : State := up;
     let t : Tick := 0;
     let who : Principal := 0;
     let a := s.advance t;
     (a.grants who Fw.FW_IMAGE = true) ∧ (a.rN Fw.FW_STATE = 0 ∨ a.rN Fw.FW_STATE = 2) ∧
     (a.rN Pw.POWER_STATE = 2 ∨ a.bit Fw.FW_STATUS FwStatus.RECOVERY = true)) ∧
    (let s : State := up.set Fw.FW_STATE 1;
     let t : Tick := 0;
     let who : Principal := 0;
     let a := s.advance t;
     (a.grants who Fw.FW_IMAGE = true) ∧ (a.rN Fw.FW_STATE = 1 ∨ a.rN Fw.FW_STATE = 3)) ∧
    (let s : State := { up with fwx := { storing := some {} } };
     let t : Tick := 0;
     let a := s.advance t;
     let i := ({} : FwImage);
     (a.fwx.storing = some i) ∧ (a.bit Fw.FW_STATUS FwStatus.RECOVERY = false)) ∧
    (let s : State := ({ up with fwx := { ready := some {}, running := some {} } }).set Fw.FW_STATE 2 |>.set Pw.PWR_STATUS 0;
     let t : Tick := 0;
     let who : Principal := 0;
     let a := s.advance t;
     let x := ({} : FwImage);
     let y := ({} : FwImage);
     (a.grants who Fw.FW_CTRL = true) ∧ (a.provisional = false) ∧ (a.rN Fw.FW_STATE = 2) ∧ (a.fwx.ready = some x) ∧
     (a.fwx.running = some y) ∧ (x.compat = y.compat)) ∧
    (let s : State := up;
     let t : Tick := 0;
     let who : Principal := 0;
     let a := s.advance t;
     (a.grants who Fw.FW_CTRL = true) ∧ (a.rN Fw.FW_STATE ≠ 2)) ∧
    (let s : State := (up.set Fw.FW_STATE 2).set Pw.PWR_STATUS 0;
     let t : Tick := 0;
     let who : Principal := 0;
     let a := s.advance t;
     (a.grants who Fw.FW_CTRL = true) ∧ (a.provisional = false) ∧ (a.rN Fw.FW_STATE = 2)) ∧
    (let s : State := ({ up with fwx := { restarting := some 0 } }).set Fw.FW_STATE 3;
     let t : Tick := 0;
     let a := s.advance t;
     (a.rN Fw.FW_STATE = 3) ∧ (a.fwx.restarting.isSome = true)) ∧
    (let s : State := up;
     let t : Tick := 0;
     let a := s.advance t;
     (a.rN Fw.FW_STATE ≠ 3 ∨ a.fwx.restarting = none)) := by
  refine ⟨?_, ?_, ?_, ?_, ?_, ?_, ?_, ?_⟩ <;> decide +kernel

theorem witness_SecurityComplete :
    (let s : State := up;
     let t : Tick := 0;
     let who : Principal := 0;
     let v : Nat := 0;
     let a := s.advance t;
     (a.grants who Se.SEC_HOLDERS = true) ∧ (a.holdersAbort v = none)) ∧
    (let s : State := up;
     let t : Tick := 0;
     let who : Principal := 0;
     let v : Nat := 0x50000000;
     let a := s.advance t;
     (a.grants who Se.OWN_ASSIGN = true) ∧ (a.assignAbort v = none)) ∧
    (let s : State := up;
     let t : Tick := 0;
     let who : Principal := 0;
     let v : Nat := 0;
     let a := s.advance t;
     let e := 0x06010002;
     (a.grants who Se.OWN_ASSIGN = true) ∧ (a.assignAbort v = some e)) ∧
    (let s : State := up;
     let t : Tick := 0;
     let who : Principal := 1;
     let a := s.advance t;
     (a.reaches who Se.DEVICE_CLAIM = true) ∧ (a.inUse Se.DEVICE_CLAIM = false) ∧ (a.lcLocked who Se.DEVICE_CLAIM = false) ∧
     (a.idleKey Se.DEVICE_CLAIM = false) ∧ (a.rN Id.LIFE_CYCLE ≠ 4) ∧
     (who.val = 1 ∨ (18 ≤ who.val ∧ who.val ≤ 21 ∧ (a.session (who.val - 18)).isSome = true)) ∧ (a.rN Dv.OWNER = 0)) ∧
    (let s : State := up;
     let t : Tick := 0;
     let who : Principal := 0;
     let a := s.advance t;
     (a.grants who Se.SVN_LOCK = true) ∧ (a.rN Fw.FW_STATE = 0) ∧ (a.bit Fw.FW_STATUS FwStatus.MIXED = false)) ∧
    (let s : State := up;
     let t : Tick := 0;
     let who : Principal := 0;
     let k : KeyId := 0;
     let key : List Byte := List.replicate 32 0;
     let a := s.advance t;
     (a.grants who (Ky.KEY k) = true) ∧ (key.length = 32) ∧ (a.rN (Ky.KEY_ROWS_LEFT k) ≠ 0)) ∧
    (let s : State := up.set (Ky.KEY_ROWS_LEFT 0) 0;
     let t : Tick := 0;
     let who : Principal := 0;
     let k : KeyId := 0;
     let key : List Byte := List.replicate 32 0;
     let a := s.advance t;
     (a.grants who (Ky.KEY k) = true) ∧ (key.length = 32) ∧ (a.rN (Ky.KEY_ROWS_LEFT k) = 0)) ∧
    (let s : State := up;
     let t : Tick := 0;
     let who : Principal := 0;
     let k : KeyId := 0;
     let a := s.advance t;
     (a.grants who (Ky.KEY_REVOKE k) = true)) ∧
    (let s : State := up;
     let t : Tick := 0;
     let a := s.advance t;
     (a.pwr.boot ≠ 0)) := by
  refine ⟨?_, ?_, ?_, ?_, ?_, ?_, ?_, ?_, ?_⟩ <;> decide +kernel

theorem witness_TamperAndLifeCycleComplete :
    (let s : State := up;
     let t : Tick := 0;
     let src : TamperSrc := 2;
     let a := s.advance t;
     (2 ≤ src.val ∨ a.bit Se.TAMP_EN src = true) ∧ (a.pwr.standby = false) ∧ (a.pwr.boot ≠ 0)) ∧
    (let s : State := (boot { boot := 11, standby := true }).set Se.TAMP_EN 1;
     let t : Tick := 0;
     let src : TamperSrc := 0;
     let a := s.advance t;
     (src.val < 2) ∧ (a.bit Se.TAMP_EN src = true) ∧ (a.pwr.standby = true)) ∧
    (let s : State := up;
     let t : Tick := 0;
     let src : TamperSrc := 0;
     let a := s.advance t;
     (src.val < 2) ∧ (a.bit Se.TAMP_EN src = false)) ∧
    (let s : State := up;
     let t : Tick := 0;
     let who : Principal := 0;
     let v : Nat := 2;
     let a := s.advance t;
     (a.grants who Se.LC_REQ = true) ∧ (a.lcAllowed v = true)) ∧
    (let s : State := up;
     let t : Tick := 0;
     let who : Principal := 0;
     let v : Nat := 0;
     let a := s.advance t;
     (a.grants who Se.LC_REQ = true) ∧ (a.lcAllowed v = false)) ∧
    (let s : State := { up with sec := { lcReq := some (2, 1) } };
     let t : Tick := 0;
     let who : Principal := 0;
     let v : Nat := 3;
     let a := s.advance t;
     let w := (2 : Nat);
     let d := (1 : Tick);
     (a.grants who Se.LC_CONFIRM = true) ∧ (a.sec.lcReq = some (w, d)) ∧ (a.now < d) ∧ (v ≠ w)) ∧
    (let s : State := { (List.range 16).foldl (fun (x : State) g => x.set (Gr.GROUP_STATE g) 2) up with sec := { lcReq := some (2, 1) } };
     let t : Tick := 0;
     let who : Principal := 0;
     let v : Nat := 2;
     let a := s.advance t;
     let d := (1 : Tick);
     (a.grants who Se.LC_CONFIRM = true) ∧ (a.sec.lcReq = some (v, d)) ∧ (a.now < d) ∧ (a.allQuiet = true) ∧ (a.rN Fw.FW_STATE ≠ 1) ∧
     (a.rN Fw.FW_STATE ≠ 3)) ∧
    (let s : State := { up with sec := { lcReq := some (2, 1) } };
     let t : Tick := 0;
     let who : Principal := 0;
     let v : Nat := 2;
     let a := s.advance t;
     let d := (1 : Tick);
     (a.grants who Se.LC_CONFIRM = true) ∧ (a.sec.lcReq = some (v, d)) ∧ (a.now < d) ∧ (a.allQuiet = false)) ∧
    (let s : State := { up with sec := { lcReq := some (2, 0) } };
     let t : Tick := 0;
     let a := s.advance t;
     let w := (2 : Nat);
     let d := (0 : Tick);
     (a.sec.lcReq = some (w, d)) ∧ (d ≤ a.now)) ∧
    (let s : State := { up with sec := { lcStep := 1 } };
     let t : Tick := 0;
     let a := s.advance t;
     (a.sec.lcStep = 1)) ∧
    (let s : State := { up with sec := { lcStep := 3 } };
     let t : Tick := 0;
     let a := s.advance t;
     (a.sec.lcStep = 3)) ∧
    (let s : State := { up with sec := { lcStep := 4 } };
     let t : Tick := 0;
     let a := s.advance t;
     (a.sec.lcStep = 4)) := by
  refine ⟨?_, ?_, ?_, ?_, ?_, ?_, ?_, ?_, ?_, ?_, ?_, ?_⟩ <;> decide +kernel

theorem witness_WindowAccessesComplete :
    (let s : State := up;
     let t : Tick := 0;
     let f : FnId := 0;
     let a := s.advance t;
     (a.winUp f = true) ∧ ((a.fnx f).wr = none)) ∧
    (let s : State := up.modFn 0 fun x => { x with wr := some (false, 0, 0) };
     let t : Tick := 0;
     let f : FnId := 0;
     let off : Nat := 0;
     let a := s.advance t;
     let slot := off / 8 * 8;
     let b := false;
     let o := (0 : Nat);
     let lo := (0 : Nat);
     (a.winUp f = true) ∧ ((a.fnx f).wr = some (b, o, lo)) ∧ (b = false ∨ o ≠ slot)) ∧
    (let s : State := up.modFn 0 fun x => { x with wr := some (true, 0, 0) };
     let t : Tick := 0;
     let f : FnId := 0;
     let off : Nat := 0;
     let a := s.advance t;
     let slot := off / 8 * 8;
     let lo := (0 : Nat);
     (a.winUp f = true) ∧ ((a.fnx f).wr = some (true, slot, lo))) ∧
    (let s : State := up.modFn 0 fun x => { x with wr := some (true, 8, 0) };
     let t : Tick := 0;
     let f : FnId := 0;
     let off : Nat := 0;
     let a := s.advance t;
     let slot := off / 8 * 8;
     let b := true;
     let o := (8 : Nat);
     let lo := (0 : Nat);
     (a.winUp f = true) ∧ ((a.fnx f).wr = some (b, o, lo)) ∧ (b = false ∨ o ≠ slot)) ∧
    (let s : State := (((up.set (Rg.FIRST_PAGE 0) 1).set (Rg.PAGE_COUNT 0) 1).set (Rg.REGION_EN 0) 1).set (Rg.OWNER 0) 1;
     let t : Tick := 0;
     let f : FnId := 0;
     let addr : Nat := 4096;
     let a := s.advance t;
     (a.winUp f = true) ∧ (a.wiping = false) ∧ (addr < 4194304) ∧ (a.memWriteAbort (f + 1) addr (a.secHolder (f + 1)) = none)) ∧
    (let s : State := up;
     let t : Tick := 0;
     let f : FnId := 0;
     let addr : Nat := 0;
     let a := s.advance t;
     let e := (0x04010000 : Nat);
     (a.winUp f = true) ∧ (a.wiping = false) ∧ (addr < 4194304) ∧ (sapphire addr = false) ∧
     (a.memWriteAbort (f + 1) addr (a.secHolder (f + 1)) = some e)) ∧
    (let s : State := up;
     let t : Tick := 0;
     let f : FnId := 0;
     let a := s.advance t;
     (a.winUp f = true) ∧ (a.wiping = false)) ∧
    (let s : State := up.setBit Fb.FAB_STATUS FabStatus.WIPING true;
     let t : Tick := 0;
     let f : FnId := 0;
     let a := s.advance t;
     (a.winUp f = true) ∧ (a.wiping = true)) ∧
    (let s : State := up.setBit Fb.FAB_STATUS FabStatus.WIPING true;
     let t : Tick := 0;
     let f : FnId := 0;
     let off : Nat := 0;
     let a := s.advance t;
     (a.winUp f = true) ∧ (a.wiping = true) ∧ (off % 8 = 0)) ∧
    (let s : State := up;
     let t : Tick := 0;
     let f : FnId := 0;
     let off : Nat := 0;
     let a := s.advance t;
     (a.winUp f = true) ∧ (a.wiping = false) ∧ (off % 8 = 0)) ∧
    (let s : State := up.modFn 0 fun x => { x with d3 := true };
     let t : Tick := 0;
     let f : FnId := 0;
     let a := s.advance t;
     (a.winUp f = false) ∧ (a.fnLive f = true) ∧ (a.served = true)) := by
  refine ⟨?_, ?_, ?_, ?_, ?_, ?_, ?_, ?_, ?_, ?_, ?_⟩ <;> decide +kernel

theorem witness_PcieFunctionsComplete :
    (let f : FnId := 0;
     (f.val = 0)) ∧
    (let s : State := up.set Pe.NUM_VF 1;
     let t : Tick := 0;
     let f : FnId := 1;
     let a := s.advance t;
     (f.val ≠ 0) ∧ (a.fnLive f = true)) ∧
    (let s : State := up;
     let t : Tick := 0;
     let f : FnId := 0;
     let a := s.advance t;
     (a.fnLive f = true) ∧ ((a.fnx f).d3 = false)) ∧
    (let s : State := up;
     let t : Tick := 0;
     let width : Nat := 1;
     let a := s.advance t;
     (a.pwr.boot ≠ 0) ∧ (width = 1 ∨ width = 2 ∨ width = 4 ∨ width = 8 ∨ width = 16)) ∧
    (let s : State := up.set Pe.LINK_SPEED 1;
     let t : Tick := 0;
     let n : Fin 17 := 1;
     let a := s.advance t;
     (a.rN Pe.LINK_SPEED ≠ 0) ∧ (a.rN Pe.NUM_VF = 0) ∧ (0 < n.val)) ∧
    (let s : State := up.set Pe.LINK_SPEED 1;
     let t : Tick := 0;
     let n : Fin 17 := 0;
     let a := s.advance t;
     (a.rN Pe.LINK_SPEED ≠ 0) ∧ (n.val = 0)) ∧
    (let s : State := up.modFn 0 fun x => { x with owed := [(0, true)] };
     let t : Tick := 0;
     let f : FnId := 0;
     let vec : Nat := 0;
     let a := s.advance t;
     (Tab.get (fun _ => false) (a.fnx f).owed vec = true) ∧ (Tab.get (fun _ => 0) (a.fnx f).hold vec ≤ a.now)) ∧
    (let s : State := up.modFn 0 fun x => { x with pend := [(0, true)] };
     let t : Tick := 0;
     let f : FnId := 0;
     let vec : Nat := 0;
     let a := s.advance t;
     (vec < vectorsOf f) ∧ (a.fnLive f = true) ∧ (Tab.get (fun _ => false) (a.fnx f).pend vec = true)) := by
  refine ⟨?_, ?_, ?_, ?_, ?_, ?_, ?_, ?_⟩ <;> decide +kernel

theorem witness_MailboxComplete :
    (let s : State := up;
     let t : Tick := 0;
     let f : FnId := 0;
     let id : Nat := 1;
     let a := s.advance t;
     (a.mbServes f = true) ∧ (id ≠ 0) ∧ ((a.fnx f).mb.st ≠ 1)) ∧
    (let s : State := up;
     let t : Tick := 0;
     let f : FnId := 0;
     let id : Nat := 0;
     let a := s.advance t;
     (a.mbServes f = true) ∧ (id = 0)) ∧
    (let s : State := up.modMb 0 fun m => { m with st := 1 };
     let t : Tick := 0;
     let f : FnId := 0;
     let id : Nat := 1;
     let a := s.advance t;
     (a.mbServes f = true) ∧ (id ≠ 0) ∧ ((a.fnx f).mb.st = 1)) ∧
    (let s : State := up.modMb 0 fun m => { m with ready := some [] };
     let t : Tick := 0;
     let f : FnId := 0;
     let a := s.advance t;
     let b := ([] : List Byte);
     ((a.fnx f).mb.ready = some b)) := by
  refine ⟨?_, ?_, ?_, ?_⟩ <;> decide +kernel

theorem witness_DmaAndNotificationsComplete :
    (let s : State := ((up.set (Rn.OWNER 0) 1).set (Rn.CONSUMERS 0) 1);
     let t : Tick := 0;
     let who : Principal := 1;
     let r : RingId := 0;
     let a := s.advance t;
     (a.grants who (Dm.DMA_EN r) = true) ∧ ((a.dmaFn r).isSome = true) ∧ (a.bit (Rn.CONSUMERS r) 0 = true) ∧ (a.dmaOn r = false)) ∧
    (let s : State := (up.set (Rn.OWNER 0) 1);
     let t : Tick := 0;
     let who : Principal := 1;
     let r : RingId := 0;
     let v : Nat := 1;
     let a := s.advance t;
     (a.grants who (Dm.DESC_TAIL r) = true) ∧ ((a.dmaFn r).isSome = true) ∧ (a.descTailOk r v = true)) ∧
    (let s : State := ((((up.set (Rn.OWNER 0) 1).set (Dm.DMA_EN 0) 1).set (Rn.RING_EN 0) 1).set (Rn.WR_COUNT 0) 2).modDm 0 fun x => { x with open_ := true, cap := 2 };
     let t : Tick := 0;
     let r : RingId := 0;
     let a := s.advance t;
     let g := (0 : Nat);
     (a.dmaFn r = some g) ∧ (a.dmaOn r = true) ∧ (a.winUp g = true) ∧ (a.bit (Rn.RING_EN r) 0 = true) ∧ (a.dmaWaiting r = true) ∧
     (a.wiping = false) ∧ ((a.dmx r).open_ = true) ∧ ((a.dmx r).filled < (a.dmx r).cap)) ∧
    (let s : State := ((((up.set (Rn.OWNER 0) 1).set (Dm.DMA_EN 0) 1).set (Rn.RING_EN 0) 1).set (Rn.WR_COUNT 0) 2).set (Dm.DESC_TAIL 0) 1;
     let t : Tick := 0;
     let r : RingId := 0;
     let d : Desc := { addr := 64, cap := 1 };
     let a := s.advance t;
     let g := (0 : Nat);
     (a.dmaFn r = some g) ∧ (a.dmaOn r = true) ∧ (a.winUp g = true) ∧ (a.bit (Rn.RING_EN r) 0 = true) ∧ (a.dmaWaiting r = true) ∧
     (a.wiping = false) ∧ ((a.dmx r).open_ = false) ∧ (a.descPosted r = true) ∧ (descOk d = true)) ∧
    (let s : State := up.setBit Fb.FAB_STATUS FabStatus.WIPING true;
     let t : Tick := 0;
     let a := s.advance t;
     (a.wiping = true)) ∧
    (let s : State := ((((up.set (Rn.OWNER 0) 1).set (Dm.DMA_EN 0) 1).set (Rn.RING_EN 0) 1).set (Rn.WR_COUNT 0) 2).modDm 0 fun x => { x with flying := 2 };
     let t : Tick := 0;
     let r : RingId := 0;
     let a := s.advance t;
     ((a.dmx r).flying ≠ 0) ∧ ((a.dmx r).flying ≠ 1) ∧ (diff40 (a.rN (Rn.WR_COUNT r)) (a.rN (Rn.CONS_HOST r)) ≠ 0)) ∧
    (let s : State := { ((((up.set (Rn.OWNER 0) 1).set (Dm.DMA_EN 0) 1).set (Rn.RING_EN 0) 1).set (Rn.WR_COUNT 0) 2) with now := 640000000 }.modDm 0 fun x => { x with open_ := true, cap := 2, filled := 1 };
     let t : Tick := 640000000;
     let r : RingId := 0;
     let a := s.advance t;
     let g := (0 : Nat);
     (a.dmaFn r = some g) ∧ (a.dmaOn r = true) ∧ ((a.dmx r).open_ = true) ∧ (0 < (a.dmx r).filled) ∧
     ((a.dmx r).filled < (a.dmx r).cap) ∧ ((a.dmx r).first + a.rN (Dm.DMA_FLUSH r) * 640 ≤ a.now)) ∧
    (let s : State := ((((up.set (Rn.OWNER 0) 1).set (Dm.DMA_EN 0) 1).set (Rn.RING_EN 0) 1).set (Rn.WR_COUNT 0) 2).set (Dm.DESC_TAIL 0) 1;
     let t : Tick := 0;
     let r : RingId := 0;
     let a := s.advance t;
     let g := (0 : Nat);
     (a.dmaFn r = some g) ∧ (a.dmaOn r = true) ∧ ((a.dmx r).open_ = false) ∧ (a.descPosted r = true)) ∧
    (let s : State := ({ up with pcie := { intake := [{ fn := 0, chan := 0, gen := 0, tick := 0 }] } }).set (Fn.NQ_EN 0) 1;
     let t : Tick := 0;
     let f : FnId := 0;
     let a := s.advance t;
     let i := ({ fn := 0, chan := 0, gen := 0, tick := 0 } : Intake);
     let b : State := { a with pcie := { a.pcie with intake := a.pcie.intake.erase i } };
     let size := 2 ^ b.rN (Fn.NQ_LOG2 f);
     (a.pcie.intake.find? (fun i => decide (i.fn = f.val)) = some i) ∧ (b.bit (Fn.NQ_EN f) 0 = true) ∧ (b.fnUp f = true) ∧
     ((b.rN (Fn.NQ_TAIL f) + 4294967296 - b.rN (Fn.NQ_HEAD f)) % 4294967296 < size)) := by
  refine ⟨?_, ?_, ?_, ?_, ?_, ?_, ?_, ?_, ?_⟩ <;> decide +kernel

theorem witness_CopRequestsComplete :
    (let s : State := up;
     let t : Tick := 0;
     let m : List Byte := copMessage [] Cop.open_ 0 0 0 1 [];
     let a := s.advance t;
     (a.served = true) ∧ (32 ≤ m.length) ∧ (copSid m = 0) ∧ (copTyp m = Cop.open_)) ∧
    (let s : State := up.setSession 0 (some ({ id := 1, ks := [], peer := .can, lastMsg := 0 } : Session));
     let t : Tick := 0;
     let peer : Peer := .can;
     let m : List Byte := (copMessage [] Cop.read 1 1 0 1 (List.replicate 4 0));
     let k : Nat := 0;
     let x : Session := ({ id := 1, ks := [], peer := .can, lastMsg := 0 } : Session);
     let a := s.advance t;
     let b := (a.setSession k (some { x with rx := copSeq m, peer := peer, lastMsg := a.now })).set (Ss.SESSION_STATE k) (peerState peer);
     (a.served = true) ∧ (32 ≤ m.length) ∧ (copSid m ≠ 0) ∧ (a.sessionOf (copSid m) = some k) ∧ (a.session k = some x) ∧
     (copTagOk x.ks m = true) ∧ (x.rx < copSeq m) ∧
     ((b.session k).bind (fun y => y.kept.find? fun e => decide (e.1 = copReq m)) = none) ∧ (transportAbort (peerMax peer) m = none) ∧
     (copTyp m = Cop.read)) ∧
    (let s : State := up.setSession 0 (some ({ id := 1, ks := [], peer := .can, lastMsg := 0 } : Session));
     let t : Tick := 0;
     let peer : Peer := .can;
     let m : List Byte := (copMessage [] Cop.write 1 1 0 1 (List.replicate 8 0));
     let k : Nat := 0;
     let x : Session := ({ id := 1, ks := [], peer := .can, lastMsg := 0 } : Session);
     let a := s.advance t;
     let b := (a.setSession k (some { x with rx := copSeq m, peer := peer, lastMsg := a.now })).set (Ss.SESSION_STATE k) (peerState peer);
     (a.served = true) ∧ (32 ≤ m.length) ∧ (copSid m ≠ 0) ∧ (a.sessionOf (copSid m) = some k) ∧ (a.session k = some x) ∧
     (copTagOk x.ks m = true) ∧ (x.rx < copSeq m) ∧
     ((b.session k).bind (fun y => y.kept.find? fun e => decide (e.1 = copReq m)) = none) ∧ (transportAbort (peerMax peer) m = none) ∧
     (copTyp m = Cop.write)) ∧
    (let s : State := up.setSession 0 (some ({ id := 1, ks := [], peer := .can, lastMsg := 0 } : Session));
     let t : Tick := 0;
     let peer : Peer := .can;
     let m : List Byte := (copMessage [] Cop.readBlock 1 1 0 1 (List.replicate 10 0));
     let k : Nat := 0;
     let x : Session := ({ id := 1, ks := [], peer := .can, lastMsg := 0 } : Session);
     let a := s.advance t;
     let b := (a.setSession k (some { x with rx := copSeq m, peer := peer, lastMsg := a.now })).set (Ss.SESSION_STATE k) (peerState peer);
     (a.served = true) ∧ (32 ≤ m.length) ∧ (copSid m ≠ 0) ∧ (a.sessionOf (copSid m) = some k) ∧ (a.session k = some x) ∧
     (copTagOk x.ks m = true) ∧ (x.rx < copSeq m) ∧
     ((b.session k).bind (fun y => y.kept.find? fun e => decide (e.1 = copReq m)) = none) ∧ (transportAbort (peerMax peer) m = none) ∧
     (copTyp m = Cop.readBlock)) ∧
    (let s : State := up.setSession 0 (some ({ id := 1, ks := [], peer := .can, lastMsg := 0 } : Session));
     let t : Tick := 0;
     let peer : Peer := .can;
     let m : List Byte := (copMessage [] Cop.writeBlock 1 1 0 1 (List.replicate 16 0));
     let k : Nat := 0;
     let x : Session := ({ id := 1, ks := [], peer := .can, lastMsg := 0 } : Session);
     let a := s.advance t;
     let b := (a.setSession k (some { x with rx := copSeq m, peer := peer, lastMsg := a.now })).set (Ss.SESSION_STATE k) (peerState peer);
     (a.served = true) ∧ (32 ≤ m.length) ∧ (copSid m ≠ 0) ∧ (a.sessionOf (copSid m) = some k) ∧ (a.session k = some x) ∧
     (copTagOk x.ks m = true) ∧ (x.rx < copSeq m) ∧
     ((b.session k).bind (fun y => y.kept.find? fun e => decide (e.1 = copReq m)) = none) ∧ (transportAbort (peerMax peer) m = none) ∧
     (copTyp m = Cop.writeBlock)) ∧
    (let s : State := up.setSession 0 (some ({ id := 1, ks := [], peer := .can, lastMsg := 0 } : Session));
     let t : Tick := 0;
     let peer : Peer := .can;
     let m : List Byte := (copMessage [] Cop.subscribe 1 1 0 1 (List.replicate 8 0));
     let k : Nat := 0;
     let x : Session := ({ id := 1, ks := [], peer := .can, lastMsg := 0 } : Session);
     let a := s.advance t;
     let b := (a.setSession k (some { x with rx := copSeq m, peer := peer, lastMsg := a.now })).set (Ss.SESSION_STATE k) (peerState peer);
     (a.served = true) ∧ (32 ≤ m.length) ∧ (copSid m ≠ 0) ∧ (a.sessionOf (copSid m) = some k) ∧ (a.session k = some x) ∧
     (copTagOk x.ks m = true) ∧ (x.rx < copSeq m) ∧
     ((b.session k).bind (fun y => y.kept.find? fun e => decide (e.1 = copReq m)) = none) ∧ (transportAbort (peerMax peer) m = none) ∧
     (copTyp m = Cop.subscribe)) ∧
    (let s : State := up.setSession 0 (some ({ id := 1, ks := [], peer := .can, lastMsg := 0 } : Session));
     let t : Tick := 0;
     let peer : Peer := .can;
     let m : List Byte := (copMessage [] Cop.abort 1 1 0 1 (List.replicate 4 0));
     let k : Nat := 0;
     let x : Session := ({ id := 1, ks := [], peer := .can, lastMsg := 0 } : Session);
     let a := s.advance t;
     let b := (a.setSession k (some { x with rx := copSeq m, peer := peer, lastMsg := a.now })).set (Ss.SESSION_STATE k) (peerState peer);
     (a.served = true) ∧ (32 ≤ m.length) ∧ (copSid m ≠ 0) ∧ (a.sessionOf (copSid m) = some k) ∧ (a.session k = some x) ∧
     (copTagOk x.ks m = true) ∧ (x.rx < copSeq m) ∧
     ((b.session k).bind (fun y => y.kept.find? fun e => decide (e.1 = copReq m)) = none) ∧ (transportAbort (peerMax peer) m = none) ∧
     (copTyp m = Cop.abort)) ∧
    (let s : State := up.setSession 0 (some ({ id := 1, ks := [], peer := .can, lastMsg := 0 } : Session));
     let t : Tick := 0;
     let m : List Byte := (copMessage [] Cop.read 1 0 0 1 (List.replicate 4 0));
     let k : Nat := 0;
     let x : Session := ({ id := 1, ks := [], peer := .can, lastMsg := 0 } : Session);
     let a := s.advance t;
     (a.served = true) ∧ (32 ≤ m.length) ∧ (copSid m ≠ 0) ∧ (a.sessionOf (copSid m) = some k) ∧ (a.session k = some x) ∧
     (copTagOk x.ks m = true) ∧ (copSeq m ≤ x.rx) ∧ (copTyp m = Cop.read)) ∧
    (let s : State := up.setSession 0 (some ({ id := 1, ks := [], peer := .can, lastMsg := 0 } : Session));
     let t : Tick := 0;
     let m : List Byte := (copMessage [1] Cop.read 1 1 0 1 (List.replicate 4 0));
     let k : Nat := 0;
     let x : Session := ({ id := 1, ks := [], peer := .can, lastMsg := 0 } : Session);
     let a := s.advance t;
     (a.served = true) ∧ (32 ≤ m.length) ∧ (copSid m ≠ 0) ∧ (a.sessionOf (copSid m) = some k) ∧ (a.session k = some x) ∧
     (copTagOk x.ks m = false) ∧ (copTyp m = Cop.read)) := by
  refine ⟨?_, ?_, ?_, ?_, ?_, ?_, ?_, ?_, ?_⟩ <;> decide +kernel

theorem witness_SessionTimingComplete :
    (let s : State := ({ up with now := 6400000000 }).setSession 0 (some ({ id := 1, ks := [], peer := .can, lastMsg := 0, block := some ({ key := 0, wr := false, total := 0, data := [], since := 0, reqId := 0 } : BlockXfer) } : Session));
     let t : Tick := 6400000000;
     let k : SessionId := 0;
     let x : Session := ({ id := 1, ks := [], peer := .can, lastMsg := 0, block := some ({ key := 0, wr := false, total := 0, data := [], since := 0, reqId := 0 } : BlockXfer) } : Session);
     let a := s.advance t;
     let b := ({ key := 0, wr := false, total := 0, data := [], since := 0, reqId := 0 } : BlockXfer);
     (a.session k = some x) ∧ (x.block = some b) ∧ (b.since + 6400000000 ≤ a.now)) ∧
    (let s : State := ({ up with now := 6400000000 }).modMb 0 fun m => { m with block := some ({ key := 0, wr := false, total := 0, data := [], since := 0, reqId := 0 } : BlockXfer) };
     let t : Tick := 6400000000;
     let f : FnId := 0;
     let a := s.advance t;
     let b := ({ key := 0, wr := false, total := 0, data := [], since := 0, reqId := 0 } : BlockXfer);
     ((a.fnx f).mb.block = some b) ∧ (b.since + 6400000000 ≤ a.now)) ∧
    (let s : State := ({ up with now := 6400000000000 }).setSession 0 (some ({ id := 1, ks := [], peer := .can, lastMsg := 0 } : Session));
     let t : Tick := 6400000000000;
     let k : SessionId := 0;
     let x : Session := ({ id := 1, ks := [], peer := .can, lastMsg := 0 } : Session);
     let a := s.advance t;
     (a.session k = some x) ∧ (x.lastMsg + a.rN (Ss.SESSION_TIMEOUT k) * 640000000 ≤ a.now)) ∧
    (let s : State := up;
     let t : Tick := 0;
     let who : Principal := 0;
     let k : SessionId := 0;
     let a := s.advance t;
     (a.grants who (Ss.CLOSE k) = true)) ∧
    (let s : State := (({ up with now := 0 }).setSession 0 (some ({ id := 1, ks := [], peer := .can, lastMsg := 0, subs := [{ num := 0, key := Id.LIFE_CYCLE, mode := 0, period := 0, last := none, next := 0 }] } : Session))).setBit Fw.FW_STATUS FwStatus.RECOVERY true;
     let t : Tick := 0;
     let who : Principal := 0;
     let k : SessionId := 0;
     let x : Session := ({ id := 1, ks := [], peer := .can, lastMsg := 0, subs := [{ num := 0, key := Id.LIFE_CYCLE, mode := 0, period := 0, last := none, next := 0 }] } : Session);
     let a := s.advance t;
     let u := ({ num := 0, key := Id.LIFE_CYCLE, mode := 0, period := 0, last := none, next := 0 } : Sub);
     let who := 18 + k.val;
     let b : State := { a with resp := none };
     (a.session k = some x) ∧ (x.subs.find? (fun v => decide (v.num = u.num) && decide (v.next ≤ a.now)) = some u) ∧
     (b.reaches who u.key = false)) ∧
    (let s : State := (({ up with now := 0 }).setSession 0 (some ({ id := 1, ks := [], peer := .can, lastMsg := 0, subs := [{ num := 0, key := Pt.SPAN 0, mode := 0, period := 0, last := none, next := 0 }] } : Session))).setBit (Pt.SEC 0) 0 true;
     let t : Tick := 0;
     let who : Principal := 0;
     let k : SessionId := 0;
     let x : Session := ({ id := 1, ks := [], peer := .can, lastMsg := 0, subs := [{ num := 0, key := Pt.SPAN 0, mode := 0, period := 0, last := none, next := 0 }] } : Session);
     let a := s.advance t;
     let u := ({ num := 0, key := Pt.SPAN 0, mode := 0, period := 0, last := none, next := 0 } : Sub);
     let who := 18 + k.val;
     let b : State := { a with resp := none };
     let e := (0x04010000 : Nat);
     (a.session k = some x) ∧ (x.subs.find? (fun v => decide (v.num = u.num) && decide (v.next ≤ a.now)) = some u) ∧
     (b.reaches who u.key = true) ∧ (b.readAbort who u.key = some e) ∧ (e / 65536 = 0x0401)) ∧
    (let s : State := (({ up with now := 0 }).setSession 0 (some ({ id := 1, ks := [], peer := .can, lastMsg := 0, subs := [{ num := 0, key := Fw.FW_IMAGE, mode := 0, period := 0, last := none, next := 0 }] } : Session)));
     let t : Tick := 0;
     let who : Principal := 0;
     let k : SessionId := 0;
     let x : Session := ({ id := 1, ks := [], peer := .can, lastMsg := 0, subs := [{ num := 0, key := Fw.FW_IMAGE, mode := 0, period := 0, last := none, next := 0 }] } : Session);
     let a := s.advance t;
     let u := ({ num := 0, key := Fw.FW_IMAGE, mode := 0, period := 0, last := none, next := 0 } : Sub);
     let who := 18 + k.val;
     let b : State := { a with resp := none };
     let e := (0x03010000 : Nat);
     (a.session k = some x) ∧ (x.subs.find? (fun v => decide (v.num = u.num) && decide (v.next ≤ a.now)) = some u) ∧
     (b.reaches who u.key = true) ∧ (b.readAbort who u.key = some e) ∧ (e / 65536 ≠ 0x0401) ∧ (e ≠ 0)) ∧
    (let s : State := ({ (({ up with now := 0 }).setSession 0 (some ({ id := 1, ks := [], peer := .can, lastMsg := 0, subs := [{ num := 0, key := Pt.LAST_V 0, mode := 0, period := 0, last := none, next := 0 }] } : Session))) with mem := { poison := [(cellAddr 0 true, true)] } });
     let t : Tick := 0;
     let who : Principal := 0;
     let k : SessionId := 0;
     let x : Session := ({ id := 1, ks := [], peer := .can, lastMsg := 0, subs := [{ num := 0, key := Pt.LAST_V 0, mode := 0, period := 0, last := none, next := 0 }] } : Session);
     let a := s.advance t;
     let u := ({ num := 0, key := Pt.LAST_V 0, mode := 0, period := 0, last := none, next := 0 } : Sub);
     let who := 18 + k.val;
     let b : State := { a with resp := none };
     (a.session k = some x) ∧ (x.subs.find? (fun v => decide (v.num = u.num) && decide (v.next ≤ a.now)) = some u) ∧
     (b.reaches who u.key = true) ∧ (b.readAbort who u.key = none) ∧ ((b.readEntry u.key).2 = none)) ∧
    (let s : State := (({ up with now := 0 }).setSession 0 (some ({ id := 1, ks := [], peer := .can, lastMsg := 0, subs := [{ num := 0, key := Id.LIFE_CYCLE, mode := 0, period := 0, last := some [1], next := 0 }] } : Session)));
     let t : Tick := 0;
     let who : Principal := 0;
     let k : SessionId := 0;
     let x : Session := ({ id := 1, ks := [], peer := .can, lastMsg := 0, subs := [{ num := 0, key := Id.LIFE_CYCLE, mode := 0, period := 0, last := some [1], next := 0 }] } : Session);
     let a := s.advance t;
     let u := ({ num := 0, key := Id.LIFE_CYCLE, mode := 0, period := 0, last := some [1], next := 0 } : Sub);
     let who := 18 + k.val;
     let b : State := { a with resp := none };
     let data := ([1] : List Byte);
     (a.session k = some x) ∧ (x.subs.find? (fun v => decide (v.num = u.num) && decide (v.next ≤ a.now)) = some u) ∧
     (b.reaches who u.key = true) ∧ (b.readAbort who u.key = none) ∧ ((b.readEntry u.key).2 = some data) ∧ (u.mode ≠ 2) ∧
     (u.last = some data)) ∧
    (let s : State := (({ up with now := 0 }).setSession 0 (some ({ id := 1, ks := [], peer := .can, lastMsg := 0, subs := [{ num := 0, key := Id.LIFE_CYCLE, mode := 0, period := 0, last := none, next := 0 }] } : Session)));
     let t : Tick := 0;
     let who : Principal := 0;
     let k : SessionId := 0;
     let x : Session := ({ id := 1, ks := [], peer := .can, lastMsg := 0, subs := [{ num := 0, key := Id.LIFE_CYCLE, mode := 0, period := 0, last := none, next := 0 }] } : Session);
     let a := s.advance t;
     let u := ({ num := 0, key := Id.LIFE_CYCLE, mode := 0, period := 0, last := none, next := 0 } : Sub);
     let who := 18 + k.val;
     let b : State := { a with resp := none };
     let data := ([1] : List Byte);
     (a.session k = some x) ∧ (x.subs.find? (fun v => decide (v.num = u.num) && decide (v.next ≤ a.now)) = some u) ∧
     (b.reaches who u.key = true) ∧ (b.readAbort who u.key = none) ∧ ((b.readEntry u.key).2 = some data) ∧
     (u.mode = 2 ∨ u.last ≠ some data)) ∧
    (let s : State := up;
     let t : Tick := 0;
     let k : SessionId := 0;
     let a := s.advance t;
     (a.session k = none)) ∧
    (let s : State := ({ up with now := 640000000 }).setSession 0 (some ({ id := 1, ks := [], peer := .can, lastMsg := 0, items := [.cancelled 0 0] } : Session));
     let t : Tick := 640000000;
     let k : SessionId := 0;
     let x : Session := ({ id := 1, ks := [], peer := .can, lastMsg := 0, items := [.cancelled 0 0] } : Session);
     let a := s.advance t;
     (a.session k = some x) ∧ (x.items ≠ []) ∧ (x.itemAt + a.rN (Ss.NOTIFY_HOLDOFF k) * 640000 ≤ a.now)) := by
  refine ⟨?_, ?_, ?_, ?_, ?_, ?_, ?_, ?_, ?_, ?_, ?_, ?_⟩ <;> decide +kernel

theorem witness_FieldPortsComplete :
    (let s : State := up.setBit Ne.LINK 0 true;
     let t : Tick := 0;
     let port : Fin 2 := 0;
     let g : EthFrame := ({ dst := 2, src := 2, len := 60, load := .other } : EthFrame);
     let a := s.advance t;
     let b := a.learn g.src port;
     (a.served = true) ∧ (a.bit Ne.LINK port = true) ∧ (g.dst ≠ b.macAddr) ∧ (groupAddr g.dst = false)) ∧
    (let s : State := up.setBit Ne.LINK 0 true;
     let t : Tick := 0;
     let port : Fin 2 := 0;
     let g : EthFrame := ({ dst := 0, src := 2, len := 60, load := .other } : EthFrame);
     let a := s.advance t;
     let b := a.learn g.src port;
     (a.served = true) ∧ (a.bit Ne.LINK port = true) ∧ (g.dst = b.macAddr) ∧ (g.fcsOk = true)) ∧
    (let s : State := { up with net := { stored := [(0, ({ dst := 2, src := 2, len := 60, load := .other } : EthFrame))] } };
     let t : Tick := 0;
     let port : Fin 2 := 0;
     let a := s.advance t;
     let q := ({ dst := 2, src := 2, len := 60, load := .other } : EthFrame);
     (a.net.stored.find? (fun e => decide (e.1 = port.val)) = some (port.val, q)) ∧ (a.localEnd port ≤ a.now) ∧ (a.fwdEnd port ≤ a.now)) ∧
    (let s : State := up;
     let t : Tick := 0;
     let a := s.advance t;
     (a.pwr.boot ≠ 0)) ∧
    (let s : State := up.set Cn.CAN_EN 1;
     let t : Tick := 0;
     let id : Nat := 0x500 + up.rN Cn.CAN_NODE;
     let a := s.advance t;
     (a.served = true) ∧ (a.bit Cn.CAN_EN 0 = true) ∧ (a.rN Cn.CAN_STATE ≠ 2) ∧ (id = 0x500 + a.rN Cn.CAN_NODE)) ∧
    (let s : State := { up with now := 64000000, net := { can := some ({ data := [], next := 0, since := 0 } : CanMsg) } };
     let t : Tick := 64000000;
     let a := s.advance t;
     let x := ({ data := [], next := 0, since := 0 } : CanMsg);
     (a.net.can = some x) ∧ (x.since + 64000000 ≤ a.now)) ∧
    (let s : State := up.set Cn.CAN_EN 1;
     let t : Tick := 0;
     let a := s.advance t;
     (a.bit Cn.CAN_EN 0 = true) ∧ (a.rN Cn.CAN_STATE ≠ 2)) ∧
    (let s : State := (up.set Cn.CAN_EN 1).set Cn.CAN_STATE 2;
     let t : Tick := 0;
     let a := s.advance t;
     (a.bit Cn.CAN_EN 0 = true) ∧ (a.rN Cn.CAN_STATE = 2)) ∧
    (let frame : List Byte := [];
     (legFunc frame ≠ 2)) ∧
    (let frame : List Byte := [0, 0, 2];
     (legFunc frame = 2)) := by
  refine ⟨?_, ?_, ?_, ?_, ?_, ?_, ?_, ?_, ?_, ?_⟩ <;> decide +kernel

theorem witness_EveryStepKeepsTheTables : ∃ u : State,
    ({ up with pending := [.fire 0 0 0] } : State).tablesOk = true ∧ step { up with pending := [.fire 0 0 0] } = .next u := by
  exact ⟨_, by decide +kernel, rfl⟩

theorem witness_StepTakesOneCommand : ∃ u : State, step { up with pending := [.fire 0 0 0, .powerOn 0] } = .next u ∧ u.pending = [.powerOn 0] :=
  ⟨_, rfl, by decide +kernel⟩

/-- The first clause of SecHoldersRule: no other principal owns a scope with SEC 1. -/
theorem witness_SecHoldersRule_stores : let a := up.advance 0; let key := Se.SEC_HOLDERS;
    let takes := fun (k : Nat) => 0 < k ∧ k < 22 ∧ bitOf (a.rN key) k = true ∧ bitOf 8 k = false ∧ a.ownsSecure k = true;
    a.grants 0 key = true ∧ 8 < 4194304 ∧ ∀ k, ¬takes k := by
  refine ⟨by decide +kernel, by decide, ?_⟩
  rintro k ⟨h, h1, h2, -, -⟩
  have : ∀ k < 22, 0 < k → bitOf ((up.advance 0).rN Se.SEC_HOLDERS) k = false := by decide +kernel
  simp [this k h1 h] at h2

/-- Its second clause. -/
theorem witness_SecHoldersRule_range : let a := up.advance 0; let key := Se.SEC_HOLDERS;
    let takes := fun (k : Nat) => 0 < k ∧ k < 22 ∧ bitOf (a.rN key) k = true ∧ bitOf 4194304 k = false ∧ a.ownsSecure k = true;
    a.grants 0 key = true ∧ (∀ k, ¬takes k) ∧ 4194304 < 4294967296 ∧ bitOf 4194304 22 = true := by
  refine ⟨by decide +kernel, ?_, by decide, by decide⟩
  rintro k ⟨h, h1, h2, -, -⟩
  have : ∀ k < 22, 0 < k → bitOf ((up.advance 0).rN Se.SEC_HOLDERS) k = false := by decide +kernel
  simp [this k h1 h] at h2

/-- Its third clause: principal 3 owns port P0 with SEC 1. -/
theorem witness_SecHoldersRule_inUse : let a := (((up.set Se.SEC_HOLDERS 9).set (Pt.OWNER 0) 3).set (Pt.SEC 0) 1).advance 0; let key := Se.SEC_HOLDERS;
    let takes := fun (k : Nat) => 0 < k ∧ k < 22 ∧ bitOf (a.rN key) k = true ∧ bitOf 1 k = false ∧ a.ownsSecure k = true;
    a.grants 0 key = true ∧ ∃ k, takes k :=
  ⟨by decide +kernel, 3, by decide +kernel⟩

/-- SegmentsComplete, a follower that has no segment of the leader to begin. -/
theorem witness_SegmentsComplete_follower : let a := (timebase { role := 2 }).advance 0;
    a.follows = true ∧ ∀ l, a.tb.nextSeg = some l → a.now < l.t0 := by
  refine ⟨by decide +kernel, fun l h => ?_⟩
  have e : ((timebase { role := 2 }).advance 0).tb.nextSeg = none := by decide +kernel
  simp [e] at h

/-- ReplayComplete, the chunk that the session waits for. -/
theorem witness_ReplayComplete_chunk : let a := (up.set Rp.RP_STATE 2).advance 0; let c : RpChunk := { no := 0, base := 0, epoch := 0, data := [] };
    a.rN Rp.RP_STATE = 2 ∧ (∀ n, a.rcd.box.next = some n → n = c.no) ∧ a.rN Rc.CHUNK_OLDEST ≤ c.no := by
  refine ⟨by decide +kernel, fun n h => ?_, by decide +kernel⟩
  have e : ((up.set Rp.RP_STATE 2).advance 0).rcd.box.next = none := by decide +kernel
  simp [e] at h

/-- ReplayComplete, a chunk after one that was lost. -/
theorem witness_ReplayComplete_gap : let a := ({ up with rcd := { box := { next := some 1 } } }.set Rp.RP_STATE 2).advance 0;
    a.rN Rp.RP_STATE = 2 ∧ ∃ n, a.rcd.box.next = some n ∧ n ≠ 2 :=
  ⟨by decide +kernel, 1, by decide +kernel⟩

/-- TamperAndLifeCycleComplete, a confirmation of nothing. -/
theorem witness_TamperAndLifeCycleComplete_none : let a := up.advance 0;
    a.grants 0 Se.LC_CONFIRM = true ∧ ∀ w d, a.sec.lcReq = some (w, d) → d ≤ a.now := by
  refine ⟨by decide +kernel, fun w d h => ?_⟩
  have e : (up.advance 0).sec.lcReq = none := by decide +kernel
  simp [e] at h

/-- A strike on port P3 has a footprint, and the entries of port P4 lie outside it. -/
theorem witness_FrameOfPorts : ∃ F, (Instr.timerStrike 0 3).portFoot = some (0, F) ∧ ¬F.covers (Pt.PORT_STATE 4 / 256) ∧ ¬F.has .spad :=
  ⟨_, rfl, by unfold Foot.covers; decide, by unfold Foot.has; decide⟩

theorem witness_FrameOfUnits : ∃ F, (Instr.ecClr 0 5).unitFoot = some (0, F) ∧ ¬F.covers (Ec.EC_COUNT 4 / 256) ∧ ¬F.has .ports :=
  ⟨_, rfl, by unfold Foot.covers; decide, by unfold Foot.has; decide⟩

theorem witness_FrameOfStores : ∃ F, (Instr.eccWriteback 0 7).storeFoot = some (0, F) ∧ ¬F.covers (Fb.FAB_STATUS / 256) ∧ ¬F.has .spad :=
  ⟨_, rfl, by unfold Foot.covers; decide, by unfold Foot.has; decide⟩

theorem witness_FrameOfLinks : ∃ F, (Instr.winSpadWrite 0 1 8 9).linkFoot = some (0, F) ∧ ¬F.covers (Pt.PORT_STATE 0 / 256) ∧ ¬F.has .ports :=
  ⟨_, rfl, by unfold Foot.covers; decide, by unfold Foot.has; decide⟩

theorem witness_FrameOfPowerAndSecurity :
    ∃ F, (Instr.rngHealthFail 0).guardFoot = some (0, F) ∧ ¬F.covers (Pt.PORT_STATE 0 / 256) ∧ ¬F.has .sec :=
  ⟨_, rfl, by unfold Foot.covers; decide, by unfold Foot.has; decide⟩

end Witnesses

/-! ### Worked examples of the spec -/

/-- R209: T0 = 640,000,000, RATE raised by 0.5 ppm, T = 1,280,000,000. -/
theorem test_time_of_the_example :
    segTime { t0 := 640000000, n0 := 1800000000000000000, rate := 6710889755 } 1280000000 = 1800000001000000500 := by decide +kernel

/-- R62: +1.25 V is 0xA0_0000 in S_1 and 0x20_0000 in S_3; 0 V is 0x80_0000 in S_1 and 0 in S_3. -/
theorem test_codes_of_the_span_example :
    codeOf 1 34359738368 = (0xA00000, false) ∧ codeOf 3 17179869184 = (0x200000, false) ∧ codeOf 1 0 = (0x800000, false) ∧ codeOf 3 0 = (0, false) := by
  decide +kernel

/-- R148: one code step is 20,971,520 FSQ, rounded to nearest with ties upward; 1.20 FS on either side is 328 and 16,056. -/
theorem test_threshold_codes :
    thCode 0 = 8192 ∧ thCode 20971520 = 8193 ∧ thCode 10485760 = 8193 ∧ thCode 10485759 = 8192 ∧ thCode (-10485760) = 8192 ∧
      thCode 164926744166 = 16056 ∧ thCode (-164926744166) = 328 := by decide +kernel

/-- The outcome is a next state with the property. -/
def answers (o : Host.Outcome State Fault Refusal) (p : State → Bool) : Bool :=
  match o with | .next u => p u | .fault _ => false | .refused _ => false

/-- Chapter 15, "a range ladder refused at release": G5 in CONFIG with the five current ranges of P45 and its IRNG_FS_4 at 0.0008. -/
theorem test_release_refuses_the_ladder :
    answers (exec (.release 0 1 5) ((((up.set (Gr.OWNER 5) 1).set (Gr.GROUP_STATE 5) 2).set (Pt.IRNG_COUNT 45) 5).set (Pt.IRNG_FS_4 45) 0x3A51B717))
      (fun u =>
      decide (u.resp = some { who := 1, key := 0x300504, abort := 0x06010586, data := [] }) && decide (u.rN Dv.LAST_ABORT_ENTRY = 0x30050401) &&
        u.bit (Gr.GROUP_STATUS 5) GroupStatus.COMMIT_FAIL && decide (u.rN (Gr.GROUP_STATE 5) = 2)) = true := by decide +kernel

/-- Chapter 20, commissioning, step 3: 0x402D_0400 gives P45 to VF3, NS. -/
theorem test_own_assign_of_the_procedure :
    answers (exec (.ownAssign 0 1 0x402D0400) (up.set Dv.OWNER 1)) (fun u =>
      decide (u.rN (Pt.OWNER 45) = 4) && decide (u.rN (Pt.SEC 45) = 0) &&
        decide (u.resp = some { who := 1, key := Se.OWN_ASSIGN, abort := 0, data := [] })) = true := by decide +kernel

/-- R421: before it serves its interfaces the block answers no write. -/
theorem test_no_answer_before_service :
    answers (exec (.odWrite 0 0 (Pt.SPAN 0) [0]) State.reset) (fun u => decide (u.resp = none)) = true := by decide +kernel


end Sys2Proof.Tests
end

section
/-!
The writes that act as commands on groups and ports, and the OD service (R13, R22, R59-R66, R345-R348, R431-R434): O25, O26, O27, O48.
Each write is one lemma about its own function of the model, on the state in which it acts; an obligation's proof puts them behind the
advance of time.
-/

namespace Sys2Proof.Machine

/-! ### A command and its effect -/

/-- A command's outcome from what its effect comes to in the state that time has reached. -/
theorem run_eq_of_effect {t : Tick} {eff : Tick → State → State} {s u : State} (h : eff (s.advance t).now (s.advance t) = u) :
    run t eff s = .next u.settle := by
  rw [run, h]

namespace State

variable {s : State} {who key g p v r e : Nat} {t : Tick}

/-- Two effects that agree on the journalled state complete a write alike. -/
theorem completes_congr {eff eff' : State → State} (h : eff (s.jConfig key who v) = eff' (s.jConfig key who v)) :
    s.completes who key v eff = s.completes who key v eff' := by
  rw [completes, h, completes]

/-! ### What a journalled write and CFG_STATE leave alone -/

theorem rN_jConfig {j : Nat} (h1 : j ≠ Rc.GAP_COUNT) (h2 : j ≠ Rc.J_STATUS) : (s.jConfig key who v).rN j = s.rN j :=
  rN_journal s _ _ _ _ _ h1 h2

@[simp] theorem gx_jConfig : (s.jConfig key who v).gx g = s.gx g := journal_gx s _ _ _ _ _ g

@[simp] theorem groupState_jConfig : (s.jConfig key who v).groupState g = s.groupState g :=
  rN_jConfig (by unfold Gr.GROUP_STATE Rc.GAP_COUNT; omega) (by unfold Gr.GROUP_STATE Rc.J_STATUS; omega)

@[simp] theorem portState_jConfig : (s.jConfig key who v).portState p = s.portState p :=
  rN_jConfig (by unfold Pt.PORT_STATE Rc.GAP_COUNT; omega) (by unfold Pt.PORT_STATE Rc.J_STATUS; omega)

@[simp] theorem gx_markDirty : s.markDirty.gx g = s.gx g := by
  unfold markDirty when
  split <;> rfl

@[simp] theorem queueFree_markDirty : s.markDirty.queueFree p = s.queueFree p := by simp [queueFree, gcOf]

/-! ### GROUP_CTRL (R22, R347, R433, R434) -/

/-- A granted GROUP_CTRL write whose conditions hold completes with its effect. -/
theorem groupCtrl_done (h : s.grants who (Gr.GROUP_CTRL g) = true) (hc : s.groupCtrlCheck g v = none) :
    groupCtrl who g v t s = s.completes who (Gr.GROUP_CTRL g) v fun x => x.groupCtrlDo g v t :=
  cmdWrite_done h hc

theorem groupCtrl_quiesces (h : s.grants who (Gr.GROUP_CTRL g) = true) :
    groupCtrl who g 1 t s = s.completes who (Gr.GROUP_CTRL g) 1 fun x => x.groupQuiesce g t :=
  groupCtrl_done h (by simp [groupCtrlCheck])

theorem groupCtrl_release_leaves_config (h : s.grants who (Gr.GROUP_CTRL g) = true) (hs : s.groupState g = 2) (hc : s.groupCheck g = none) :
    groupCtrl who g 2 t s = s.completes who (Gr.GROUP_CTRL g) 2 fun x => x.groupLeave g t := by
  rw [groupCtrl_done h (by simp [groupCtrlCheck, hs, hc])]
  exact completes_congr (by simp [groupCtrlDo, hs])

/-- A failed check of R346 sets COMMIT_FAIL. -/
theorem groupCtrl_release_fails_check (h : s.grants who (Gr.GROUP_CTRL g) = true) (hs : s.groupState g = 2) (hc : s.groupCheck g = some e)
    (he : e / 2 ^ 16 = 0x0601) :
    groupCtrl who g 2 t s = (s.setBit (Gr.GROUP_STATUS g) GroupStatus.COMMIT_FAIL true).refuse who (Gr.GROUP_CTRL g) e := by
  rw [groupCtrl, cmdWrite_refused h (a := e) (by simp [groupCtrlCheck, hs, hc]), decide_eq_true he]
  rfl

theorem groupCtrl_release_remembered (h : s.grants who (Gr.GROUP_CTRL g) = true) (hs : s.groupState g = 1) :
    groupCtrl who g 2 t s =
      s.completes who (Gr.GROUP_CTRL g) 2 fun x => x.setBit (Gr.GROUP_STATUS g) GroupStatus.RELEASE_PENDING true := by
  rw [groupCtrl_done h (by simp [groupCtrlCheck, hs])]
  exact completes_congr (by simp [groupCtrlDo, hs])

/-- In GATED no check of R346 runs, so COMMIT_FAIL stays as it is. -/
theorem groupCtrl_release_refused_gated (h : s.grants who (Gr.GROUP_CTRL g) = true) (hs : s.groupState g = 3) :
    groupCtrl who g 2 t s = s.refuse who (Gr.GROUP_CTRL g) 0x05020004 := by
  rw [groupCtrl, cmdWrite_refused h (a := 0x05020004) (by simp [groupCtrlCheck, hs, Abort.deviceState])]
  simp [when]

theorem groupCtrl_gate_begins (h : s.grants who (Gr.GROUP_CTRL g) = true) (hs : s.groupState g = 2) :
    groupCtrl who g 4 t s = s.completes who (Gr.GROUP_CTRL g) 4 fun x => (x.gateStart g t).quietCheck t := by
  rw [groupCtrl_done h (by simp [groupCtrlCheck, hs])]
  exact completes_congr (by simp [groupCtrlDo, hs])

theorem groupCtrl_ungate_begins (h : s.grants who (Gr.GROUP_CTRL g) = true) (hs : s.groupState g = 3) (hstep : (s.gx g).gateStep = 0) :
    groupCtrl who g 8 t s = s.completes who (Gr.GROUP_CTRL g) 8 fun x => x.ungateStart g t := by
  rw [groupCtrl_done h (by simp [groupCtrlCheck])]
  exact completes_congr (by simp [groupCtrlDo, hs, hstep])

theorem groupCtrl_ungate_remembered (h : s.grants who (Gr.GROUP_CTRL g) = true) (hs : s.groupState g = 3) (hlo : 1 ≤ (s.gx g).gateStep)
    (hhi : (s.gx g).gateStep ≤ 3) :
    groupCtrl who g 8 t s =
      s.completes who (Gr.GROUP_CTRL g) 8 fun x => x.setBit (Gr.GROUP_STATUS g) GroupStatus.UNGATE_PENDING true := by
  have hne : (s.gx g).gateStep ≠ 0 := Nat.one_le_iff_ne_zero.1 hlo
  rw [groupCtrl_done h (by simp [groupCtrlCheck])]
  exact completes_congr (by simp [groupCtrlDo, hs, hne, hhi])

theorem gateStepDue_ends {bad : Bool} (hserved : s.served = true) (hstep : (s.gx g).gateStep ≠ 0) (hdue : (s.gx g).gateDue ≤ t) :
    s.gateStepDue g bad t = s.gateStepEnd g bad :=
  if_pos ⟨hserved, hstep, hdue⟩

/-! ### A command that a group controller applies at once (R13) -/

/-- A queued command that carries no entry is not journalled again when it is applied. -/
theorem gcApply_enable {c : GcCmd} (ho : c.op = .enable) (hk : c.key = 0) : s.gcApply c t = s.enableReq c.port t := by
  simp [gcApply, ho, hk]

theorem gcApply_disable {c : GcCmd} (ho : c.op = .disable) (hk : c.key = 0) :
    s.gcApply c t = if s.portState c.port = 3 then s.setBit (Pt.PORT_STATUS c.port) PortStatus.ENABLE_PENDING false
      else s.disableNow c.port t := by
  simp [gcApply, ho, hk]

theorem gcApply_forceCtrl {c : GcCmd} (ho : c.op = .forceCtrl v) (hk : c.key = 0) : s.gcApply c t = s.forceCtrlDo c.port v t := by
  simp [gcApply, ho, hk]

/-- A written entry that waits for no tick boundary stands at once, and takes effect behind its journal record. -/
theorem gcSend_entry_now {x : Nat} {since : Tick} (h : s.queueFree p = true) (hk : key ≠ 0) :
    s.gcSend who key v { port := p, op := .setEntry key x v, since := since } false t =
      (s.set key v).completes who key v fun y => y.applyEntry p key t := by
  simp [gcSend, h, gcApply, hk, completes]

/-! ### PORT_CTRL (R348, R431, R432) -/

/-- An enable is checked at once where the group runs and no window holds the OFF port. -/
theorem portCtrlCheck_enable (hg : s.groupState (groupOf p) = 0) :
    s.portCtrlCheck p 1 = if s.portState p = 0 ∧ s.winHolds p = false then (s.enableReason p).map Abort.deviceState else none := by
  simp [portCtrlCheck, hg]

theorem portCtrlCheck_enable_passes (hg : s.groupState (groupOf p) = 0)
    (hoff : s.portState p = 0 → s.winHolds p = false → s.enableReason p = none) : s.portCtrlCheck p 1 = none := by
  rw [portCtrlCheck_enable hg]
  split
  next h => rw [hoff h.1 h.2, Option.map_none]
  next => rfl

theorem portCtrl_enable_sends (h : s.grants who (Pt.PORT_CTRL p) = true) (hc : s.portCtrlCheck p 1 = none) :
    portCtrl who p 1 t s = s.gcSend who (Pt.PORT_CTRL p) 1 { port := p, op := .enable, since := t } false t :=
  cmdSubmit_done h hc

theorem portCtrl_enable_now (h : s.grants who (Pt.PORT_CTRL p) = true) (hc : s.portCtrlCheck p 1 = none) (hq : s.queueFree p = true) :
    portCtrl who p 1 t s = s.completes who (Pt.PORT_CTRL p) 1 fun x => x.enableReq p t := by
  rw [portCtrl_enable_sends h hc, gcSend_now hq (by simp) (by simp)]
  exact completes_congr (gcApply_enable rfl rfl)

theorem portCtrl_enable_queued (h : s.grants who (Pt.PORT_CTRL p) = true) (hc : s.portCtrlCheck p 1 = none) (hq : s.queueFree p = false) :
    portCtrl who p 1 t s = s.gcSubmit who (Pt.PORT_CTRL p) 1 { port := p, op := .enable, since := t } := by
  rw [portCtrl_enable_sends h hc, gcSend_behind hq]

/-- A device-state reason below 2^16 is told from a value-range abort by its high half. -/
theorem isDeviceState_deviceState (hr : r < 2 ^ 16) : isDeviceState (Abort.deviceState r) = true := by
  have h : Abort.deviceState r / 2 ^ 16 = 0x0502 := by
    unfold Abort.deviceState
    omega
  exact decide_eq_true h

theorem portCtrl_enable_refused (h : s.grants who (Pt.PORT_CTRL p) = true) (hg : s.groupState (groupOf p) = 0) (hoff : s.portState p = 0)
    (hw : s.winHolds p = false) (hreason : s.enableReason p = some r) (hr : r < 2 ^ 16) :
    portCtrl who p 1 t s =
      (s.setBit (Pt.PORT_STATUS p) PortStatus.REFUSED true).refuse who (Pt.PORT_CTRL p) (Abort.deviceState r) := by
  have hc : s.portCtrlCheck p 1 = some (Abort.deviceState r) := by
    rw [portCtrlCheck_enable hg, if_pos ⟨hoff, hw⟩, hreason, Option.map_some]
  rw [portCtrl, cmdSubmit_refused h hc]
  simp [when, isDeviceState_deviceState hr]

theorem enableReq_of_off (hg : s.groupState (groupOf p) = 0) (hoff : s.portState p = 0) (hw : s.winHolds p = false)
    (hreason : s.enableReason p = none) : s.enableReq p t = (s.rotPreempt p t).enableNow p t := by
  simp [enableReq, hg, hoff, hw, hreason]

theorem enableReq_of_disabling (hg : s.groupState (groupOf p) = 0) (hp : s.portState p = 3) :
    s.enableReq p t = s.setBit (Pt.PORT_STATUS p) PortStatus.ENABLE_PENDING true := by
  simp [enableReq, hg, hp]

theorem enableReq_of_enabled (hg : s.groupState (groupOf p) = 0) (hp : s.portState p = 1 ∨ s.portState p = 2) : s.enableReq p t = s := by
  rcases hp with hp | hp <;> simp [enableReq, hg, hp]

/-- A disable meets the rotation first, then goes to the group controller; on a port that is enabled it waits for the tick boundary. -/
theorem portCtrl_disable_sends (h : s.grants who (Pt.PORT_CTRL p) = true) :
    portCtrl who p 2 t s = (s.rotDisable p t).gcSend who (Pt.PORT_CTRL p) 2 { port := p, op := .disable, since := t }
      (decide ((s.rotDisable p t).portState p = 1 ∨ (s.rotDisable p t).portState p = 2)) t :=
  cmdSubmit_done h (by simp [portCtrlCheck])

theorem portCtrl_disable_waits (h : s.grants who (Pt.PORT_CTRL p) = true)
    (hp : (s.rotDisable p t).portState p = 1 ∨ (s.rotDisable p t).portState p = 2) :
    portCtrl who p 2 t s = (s.rotDisable p t).gcSubmit who (Pt.PORT_CTRL p) 2 { port := p, op := .disable, since := t } := by
  rw [portCtrl_disable_sends h, decide_eq_true hp, gcSend_waits]

theorem portCtrl_disable_queued (h : s.grants who (Pt.PORT_CTRL p) = true) (hq : (s.rotDisable p t).queueFree p = false) :
    portCtrl who p 2 t s = (s.rotDisable p t).gcSubmit who (Pt.PORT_CTRL p) 2 { port := p, op := .disable, since := t } := by
  rw [portCtrl_disable_sends h, gcSend_behind hq]

/-- A disable of a port that is not enabled is applied and answered at once. -/
theorem portCtrl_disable_now (h : s.grants who (Pt.PORT_CTRL p) = true) (hq : (s.rotDisable p t).queueFree p = true)
    (hp : ¬((s.rotDisable p t).portState p = 1 ∨ (s.rotDisable p t).portState p = 2)) :
    portCtrl who p 2 t s = (s.rotDisable p t).completes who (Pt.PORT_CTRL p) 2 fun x =>
      if x.portState p = 3 then x.setBit (Pt.PORT_STATUS p) PortStatus.ENABLE_PENDING false else x.disableNow p t := by
  rw [portCtrl_disable_sends h, decide_eq_false hp, gcSend_now hq (by simp) (by simp)]
  exact completes_congr (gcApply_disable rfl rfl)

theorem disableNow_of_off (h : s.portState p = 0) : s.disableNow p t = s := if_pos (.inl h)

theorem portCtrl_disable_of_disabling (h : s.grants who (Pt.PORT_CTRL p) = true) (hq : (s.rotDisable p t).queueFree p = true)
    (hp : (s.rotDisable p t).portState p = 3) :
    portCtrl who p 2 t s = (s.rotDisable p t).completes who (Pt.PORT_CTRL p) 2 fun x =>
      x.setBit (Pt.PORT_STATUS p) PortStatus.ENABLE_PENDING false := by
  rw [portCtrl_disable_now h hq (by simp [hp])]
  exact completes_congr (if_pos (by simpa using hp))

theorem portCtrl_disable_of_off (h : s.grants who (Pt.PORT_CTRL p) = true) (hq : (s.rotDisable p t).queueFree p = true)
    (hp : (s.rotDisable p t).portState p = 0) :
    portCtrl who p 2 t s = (s.rotDisable p t).completes who (Pt.PORT_CTRL p) 2 fun x => x := by
  rw [portCtrl_disable_now h hq (by simp [hp])]
  exact completes_congr (by simp [hp, disableNow_of_off])

/-! ### SPAN (R59-R62) -/

theorem spanWrite_accepted (h : s.grants who (Pt.SPAN p) = true) (hv : v ≤ 3) (hsafe : s.spanSafe p v = true) :
    spanWrite who p v t s =
      (s.portSubmit who p (Pt.SPAN p) v (s.px p).force.everEnabled t).when (s.px p).force.everEnabled fun x => x.spanAwaits p v :=
  cmdSubmit_done h (by simp [Nat.not_lt.2 hv, hsafe])

theorem spanWrite_of_everEnabled (h : s.grants who (Pt.SPAN p) = true) (hv : v ≤ 3) (hsafe : s.spanSafe p v = true)
    (hen : (s.px p).force.everEnabled = true) :
    spanWrite who p v t s =
      (s.markDirty.gcSubmit who (Pt.SPAN p) v { port := p, op := .setEntry (Pt.SPAN p) 0 v, since := t }).spanAwaits p v := by
  rw [spanWrite_accepted h hv hsafe, hen, portSubmit, gcSend_waits]
  rfl

/-- Before the first enable a span waits for no tick boundary; only an earlier command of the port or a full queue holds it back. -/
theorem spanWrite_of_not_everEnabled (h : s.grants who (Pt.SPAN p) = true) (hv : v ≤ 3) (hsafe : s.spanSafe p v = true)
    (hen : (s.px p).force.everEnabled = false) :
    spanWrite who p v t s =
      if s.queueFree p then (s.markDirty.set (Pt.SPAN p) v).completes who (Pt.SPAN p) v fun x => x.applyEntry p (Pt.SPAN p) t
      else s.markDirty.gcSubmit who (Pt.SPAN p) v { port := p, op := .setEntry (Pt.SPAN p) 0 v, since := t } := by
  have hsend : spanWrite who p v t s =
      s.markDirty.gcSend who (Pt.SPAN p) v { port := p, op := .setEntry (Pt.SPAN p) 0 v, since := t } false t := by
    rw [spanWrite_accepted h hv hsafe, hen]
    rfl
  rw [hsend]
  split
  next hq => exact gcSend_entry_now (by simpa using hq) (by simp)
  next hq => exact gcSend_behind (by simpa using hq)

theorem spanWrite_refused_no_span (h : s.grants who (Pt.SPAN p) = true) (hv : 3 < v) :
    spanWrite who p v t s = s.refuse who (Pt.SPAN p) 0x06010030 :=
  cmdSubmit_refused h (by simp [hv, Abort.valueRange])

theorem spanWrite_refused_unsafe (h : s.grants who (Pt.SPAN p) = true) (hv : v ≤ 3) (hsafe : s.spanSafe p v = false) :
    spanWrite who p v t s = s.refuse who (Pt.SPAN p) 0x06010032 :=
  cmdSubmit_refused h (by simp [Nat.not_lt.2 hv, hsafe, Abort.valueRange])

/-! ### FORCE_CTRL (R66, R75) -/

theorem forceCtrl_release_refused (h : s.grants who (Pt.FORCE_CTRL p) = true) (hc : s.releaseCheck p = some e) :
    forceCtrl who p 1 t s = s.refuse who (Pt.FORCE_CTRL p) e :=
  cmdSubmit_refused h (by simp [bitOf, hc])

theorem forceCtrl_release_sends (h : s.grants who (Pt.FORCE_CTRL p) = true) (hc : s.releaseCheck p = none) :
    forceCtrl who p 1 t s = s.gcSend who (Pt.FORCE_CTRL p) 1 { port := p, op := .forceCtrl 1, since := t } (s.ticking p) t :=
  cmdSubmit_done h (by simp [bitOf, hc])

theorem forceCtrl_readback_sends (h : s.grants who (Pt.FORCE_CTRL p) = true) :
    forceCtrl who p 2 t s = s.gcSend who (Pt.FORCE_CTRL p) 2 { port := p, op := .forceCtrl 2, since := t } (s.ticking p) t :=
  cmdSubmit_done h (by simp [bitOf])

/-- A command goes to the queue if it waits for a tick boundary, or for an earlier command, or for room. -/
theorem gcSend_queued {c : GcCmd} {w : Bool} (hw : w = true ∨ s.queueFree c.port = false) :
    s.gcSend who key v c w t = s.gcSubmit who key v c := by
  rcases hw with rfl | hq
  · exact gcSend_waits s who key v c t
  · exact gcSend_behind hq

theorem gcSend_forceCtrl_now (hq : s.queueFree p = true) :
    s.gcSend who (Pt.FORCE_CTRL p) v { port := p, op := .forceCtrl v, since := t } false t =
      s.completes who (Pt.FORCE_CTRL p) v fun x => x.forceCtrlDo p v t := by
  rw [gcSend_now hq (by simp) (by simp)]
  exact completes_congr (gcApply_forceCtrl rfl rfl)

theorem forceCtrlDo_release : s.forceCtrlDo p 1 t = s.releaseApply p t := by simp [forceCtrlDo, bitOf, Nat.testBit]

theorem forceCtrlDo_readback : s.forceCtrlDo p 2 t = s.readbackNow p t := by simp [forceCtrlDo, bitOf, Nat.testBit]

theorem forceCtrl_release_queued (h : s.grants who (Pt.FORCE_CTRL p) = true) (hw : s.ticking p = true ∨ s.queueFree p = false)
    (hc : s.releaseCheck p = none) :
    forceCtrl who p 1 t s = s.gcSubmit who (Pt.FORCE_CTRL p) 1 { port := p, op := .forceCtrl 1, since := t } := by
  rw [forceCtrl_release_sends h hc, gcSend_queued hw]

theorem forceCtrl_readback_queued (h : s.grants who (Pt.FORCE_CTRL p) = true) (hw : s.ticking p = true ∨ s.queueFree p = false) :
    forceCtrl who p 2 t s = s.gcSubmit who (Pt.FORCE_CTRL p) 2 { port := p, op := .forceCtrl 2, since := t } := by
  rw [forceCtrl_readback_sends h, gcSend_queued hw]

theorem forceCtrl_release_now (h : s.grants who (Pt.FORCE_CTRL p) = true) (hoff : s.ticking p = false) (hq : s.queueFree p = true)
    (hc : s.releaseCheck p = none) :
    forceCtrl who p 1 t s = s.completes who (Pt.FORCE_CTRL p) 1 fun x => x.releaseApply p t := by
  rw [forceCtrl_release_sends h hc, hoff, gcSend_forceCtrl_now hq]
  exact completes_congr forceCtrlDo_release

theorem forceCtrl_readback_now (h : s.grants who (Pt.FORCE_CTRL p) = true) (hoff : s.ticking p = false) (hq : s.queueFree p = true) :
    forceCtrl who p 2 t s = s.completes who (Pt.FORCE_CTRL p) 2 fun x => x.readbackNow p t := by
  rw [forceCtrl_readback_sends h, hoff, gcSend_forceCtrl_now hq]
  exact completes_congr forceCtrlDo_readback

/-! ### The OD service (R13, R345, R352) -/

theorem heldEnter_of_room {c : GcCmd} {l : List (Nat × Nat × GcCmd)} (hheld : (s.gx g).held = (who, key, c) :: l)
    (hroom : (s.gx g).queue.length < gcDepth) :
    s.heldEnter g = (((s.modGx g fun x => { x with held := l }).gcPush c).answerHeld c 0).ownsEnter g := by
  simp only [heldEnter, hheld, if_pos hroom]

/-- A write that fails check 1, 2 or 4 is refused before the entry's own conditions are looked at. -/
theorem odWrite_refused_first {data : List Byte} (hr : s.reaches who key = true) (hf : s.writeFirst key data.length = some e) :
    odWrite who key data t s = s.refuse who key e := by
  simp only [odWrite, hr, hf, if_true]

theorem odWrite_numeric {data : List Byte} (hr : s.reaches who key = true) (hf : s.writeFirst key data.length = none)
    (hty : ((entryRow key).bind fun r => tyBytes r.ty).isSome = true) :
    odWrite who key data t s = numWrite who key (leNat data) t s := by
  obtain ⟨n, hn⟩ := Option.isSome_iff_exists.1 hty
  simp only [odWrite, hr, hf, hn, if_true]

theorem odWrite_bytes {data : List Byte} (hr : s.reaches who key = true) (hf : s.writeFirst key data.length = none)
    (hty : ((entryRow key).bind fun r => tyBytes r.ty) = none) : odWrite who key data t s = blobWrite who key data s := by
  simp only [odWrite, hr, hf, hty, if_true]

theorem cfgSaveWrite_requests (h : s.grants who Dv.CFG_SAVE = true) :
    cfgSaveWrite who 1 s = s.completes who Dv.CFG_SAVE 1 fun x => x.requestSave :=
  cmdWrite_done h (by simp [oneOnly, rangeIf])

end State
end Sys2Proof.Machine

namespace Sys2Proof

open Machine State

/-- Settles O25: the conditions and the effect of GROUP_CTRL in each state of the group. -/
theorem groupRequestsComplete : Obligations.GroupRequestsComplete := by
  intro s t who g a key hg
  refine ⟨?quiesce, ?leave, ?fails, ?pending, ?gated, ?gate, ?ungate, ?ungatePending, ?stepEnd⟩
  case quiesce => exact run_eq_of_effect (groupCtrl_quiesces hg)
  case leave => exact fun hs hc => run_eq_of_effect (groupCtrl_release_leaves_config hg hs hc)
  case fails => exact fun e hs hc he => run_eq_of_effect (groupCtrl_release_fails_check hg hs hc he)
  case pending => exact fun hs => run_eq_of_effect (groupCtrl_release_remembered hg hs)
  case gated => exact fun hs => run_eq_of_effect (groupCtrl_release_refused_gated hg hs)
  case gate => exact fun hs => run_eq_of_effect (groupCtrl_gate_begins hg hs)
  case ungate => exact fun hs hstep => run_eq_of_effect (groupCtrl_ungate_begins hg hs hstep)
  case ungatePending => exact fun hs hlo hhi => run_eq_of_effect (groupCtrl_ungate_remembered hg hs hlo hhi)
  case stepEnd => exact fun bad hserved hstep hdue => run_eq_of_effect (eff := fun n x => x.gateStepDue g bad n) (gateStepDue_ends hserved hstep hdue)

/-- Settles O26: an enable and a disable through the group controller, by the state of the port and of its queue. -/
theorem enableAndDisableComplete : Obligations.EnableAndDisableComplete := by
  intro s t who p a key hg
  refine ⟨?enable, ?refused, ?request, ?disable⟩
  case enable =>
    intro hrun hoff
    have hc := portCtrlCheck_enable_passes hrun hoff
    exact ⟨fun hq => run_eq_of_effect (portCtrl_enable_now hg hc hq), fun hq => run_eq_of_effect (portCtrl_enable_queued hg hc hq)⟩
  case refused =>
    intro r hrun hoff hw hreason hr
    exact run_eq_of_effect (portCtrl_enable_refused hg hrun hoff hw hreason (hr.trans (by decide)))
  case request =>
    exact fun x e hrun => ⟨enableReq_of_off hrun, enableReq_of_disabling hrun, enableReq_of_enabled hrun⟩
  case disable =>
    exact ⟨fun hp => run_eq_of_effect (portCtrl_disable_waits hg hp),
      fun hq hp => run_eq_of_effect (portCtrl_disable_of_disabling hg hq hp),
      fun hq hp => run_eq_of_effect (portCtrl_disable_of_off hg hq hp),
      fun hq => run_eq_of_effect (portCtrl_disable_queued hg hq)⟩

/-- Settles O27: SPAN by the port's past and the span's limits, FORCE_CTRL by whether the port ticks. -/
theorem spanAndForceRequestsComplete : Obligations.SpanAndForceRequestsComplete := by
  intro s t who p v a
  refine ⟨fun hg => ⟨?awaits, ?atOnce, ?noSpan, ?unsafeSpan⟩, fun hg => ⟨?refused, ?queued, ?applied⟩⟩
  case awaits => exact fun hv hsafe hen => run_eq_of_effect (spanWrite_of_everEnabled hg hv hsafe hen)
  case atOnce => exact fun hv hsafe hen => run_eq_of_effect (spanWrite_of_not_everEnabled hg hv hsafe hen)
  case noSpan => exact fun hv => run_eq_of_effect (spanWrite_refused_no_span hg hv)
  case unsafeSpan => exact fun hv hsafe => run_eq_of_effect (spanWrite_refused_unsafe hg hv hsafe)
  case refused => exact fun e hc => run_eq_of_effect (forceCtrl_release_refused hg hc)
  case queued =>
    exact fun hw => ⟨fun hc => run_eq_of_effect (forceCtrl_release_queued hg hw hc), run_eq_of_effect (forceCtrl_readback_queued hg hw)⟩
  case applied =>
    exact fun hoff hq => ⟨fun hc => run_eq_of_effect (forceCtrl_release_now hg hoff hq hc), run_eq_of_effect (forceCtrl_readback_now hg hoff hq)⟩

/-- Settles O48: a held command with room, the first checks of a write, and CFG_SAVE. -/
theorem odServiceComplete : Obligations.OdServiceComplete := by
  intro s t who g key data a
  refine ⟨?held, ?numeric, ?bytes, ?refused, ?save⟩
  case held => exact fun w k c l hheld hroom => run_eq_of_effect (eff := fun _ x => x.heldEnter g) (heldEnter_of_room hheld hroom)
  case numeric => exact fun hr hf hty => run_eq_of_effect (odWrite_numeric hr hf hty)
  case bytes => exact fun hr hf hty => run_eq_of_effect (odWrite_bytes hr hf hty)
  case refused => exact fun e hr hf => run_eq_of_effect (odWrite_refused_first hr hf)
  case save => exact fun hg => run_eq_of_effect (eff := fun _ x => cfgSaveWrite who 1 x) (cfgSaveWrite_requests hg)

end Sys2Proof
end

section
/-!
The numbering of ports and slices (R25) and the edges of the clear pin and of the fault pins (R45, R65-R67): O11, O29.
-/

namespace Sys2Proof.Machine

/-! ### Numbering of the slices (R25) -/

/-- A group has nine slices, so a home slice gives back its port's group as the quotient by 9. -/
theorem homeSlice_div (p : Nat) : homeSlice p / 9 = groupOf p := by
  unfold homeSlice groupOf
  omega

/-- It gives back the local index, which is below 8, as the remainder. -/
theorem homeSlice_mod (p : Nat) : homeSlice p % 9 = localOf p := by
  unfold homeSlice localOf
  omega

theorem reliefSlice_mod (g : Nat) : reliefSlice g % 9 = 8 := Nat.mul_add_mod 9 g 8

theorem homeSlice_injective : Function.Injective homeSlice := by
  intro p q h
  have hg : groupOf p = groupOf q := by rw [← homeSlice_div, h, homeSlice_div]
  have hk : localOf p = localOf q := by rw [← homeSlice_mod, h, homeSlice_mod]
  calc
    p = 8 * groupOf p + localOf p := (Nat.div_add_mod p 8).symm
    _ = 8 * groupOf q + localOf q := by rw [hg, hk]
    _ = q := Nat.div_add_mod q 8

theorem homeSlice_ne_reliefSlice (p g : Nat) : homeSlice p ≠ reliefSlice g := by
  intro h
  have h8 : localOf p = 8 := by rw [← homeSlice_mod, h, reliefSlice_mod]
  exact (Nat.mod_lt p (by decide)).ne h8

/-- The 128 ports lie in 16 groups. -/
theorem groupOf_lt {p : Nat} (hp : p < 128) : groupOf p < 16 := Nat.div_lt_of_lt_mul hp

theorem homeSlice_lt {p : Nat} (hp : p < 128) : homeSlice p < 144 :=
  (Nat.div_lt_iff_lt_mul (by decide)).1 (homeSlice_div p ▸ groupOf_lt hp : homeSlice p / 9 < 16)

theorem reliefSlice_lt {g : Nat} (hg : g < 16) : reliefSlice g < 144 := by
  unfold reliefSlice
  omega

namespace State

variable {s : State} {p src kind n : Nat} {t : Tick}

/-! ### GATED, across what the pin edge writes -/

@[simp] theorem gated_modPx (f : PortX → PortX) : (s.modPx p f).gated p = s.gated p := rfl

@[simp] theorem gated_jEdge : (s.jEdge src kind n t).gated p = s.gated p := by
  unfold gated groupState jEdge
  rw [rN_journal _ _ _ _ _ _ (by unfold Gr.GROUP_STATE Rc.GAP_COUNT; omega) (by unfold Gr.GROUP_STATE Rc.J_STATUS; omega)]

/-! ### CLR_N and FLT_IN (R45, R65-R67) -/

theorem clrFall_of_high (h : s.pwr.clrLow = false) :
    s.clrFall t = ((s.modPwr fun w => { w with clrLow := true }).jEdge 0x500 7 0 t).forAll 128 fun q x => x.clearPort q t := by
  simp [clrFall, h]

theorem clrRise_of_low (h : s.pwr.clrLow = true) :
    s.clrRise t = ((s.modPwr fun w => { w with clrLow := false }).jEdge 0x500 8 0 t).forAll 128 fun q x => x.clearEnds q t :=
  if_pos h

theorem fltActs_of_not_gated (h : s.gated p = false) : s.fltActs p t = (s.trip p Cause.flt t 0).clearPort p t := by
  simp [fltActs, h]

theorem fltActs_of_gated (h : s.gated p = true) : s.fltActs p t = s.syncPort p := if_pos h

theorem fltRise_of_low (h : (s.px p).flt = false) :
    s.fltRise p t = ((s.modPx p fun x => { x with flt := true }).jEdge p 5 0 t).fltActs p t := by
  simp [fltRise, h]

theorem fltRise_of_not_gated (h : (s.px p).flt = false) (hg : s.gated p = false) :
    s.fltRise p t = (((s.modPx p fun x => { x with flt := true }).jEdge p 5 0 t).trip p Cause.flt t 0).clearPort p t := by
  rw [fltRise_of_low h, fltActs_of_not_gated (by simpa using hg)]

theorem fltRise_of_gated (h : (s.px p).flt = false) (hg : s.gated p = true) :
    s.fltRise p t = ((s.modPx p fun x => { x with flt := true }).jEdge p 5 0 t).syncPort p := by
  rw [fltRise_of_low h, fltActs_of_gated (by simpa using hg)]

theorem fltFall_of_high (h : (s.px p).flt = true) :
    s.fltFall p t = ((s.modPx p fun x => { x with flt := false }).jEdge p 6 0 t).clearEnds p t :=
  if_pos h

end State
end Sys2Proof.Machine

namespace Sys2Proof

open Machine State

/-- Settles O11: the quotient and the remainder by 9 tell a slice's group and its place in the group. -/
theorem portsAndSlicesNumbered : Obligations.PortsAndSlicesNumbered := by
  intro p q hp _
  exact ⟨rfl, rfl, rfl, rfl, homeSlice_lt hp, reliefSlice_lt (groupOf_lt hp), fun h => homeSlice_injective h,
    homeSlice_ne_reliefSlice p (groupOf q)⟩

/-- Settles O29: the edges of CLR_N, and those of FLT_IN by whether the group is GATED. -/
theorem clearsAndFaultsComplete : Obligations.ClearsAndFaultsComplete := by
  intro s t p a
  refine ⟨?clrFall, ?clrRise, ?fault, ?faultGated, ?faultEnd⟩
  case clrFall => exact fun h => run_eq_of_effect (eff := fun n x => x.clrFall n) (clrFall_of_high h)
  case clrRise => exact fun h => run_eq_of_effect (eff := fun n x => x.clrRise n) (clrRise_of_low h)
  case fault => exact fun h hg => run_eq_of_effect (eff := fun n x => x.fltRise p n) (fltRise_of_not_gated h hg)
  case faultGated => exact fun h hg => run_eq_of_effect (eff := fun n x => x.fltRise p n) (fltRise_of_gated h hg)
  case faultEnd => exact fun h => run_eq_of_effect (eff := fun n x => x.fltFall p n) (fltFall_of_high h)

end Sys2Proof
end

section
/-!
The codes of a force output (R52), the boot sequence and the output stages (R63, R258, R421), the timed steps of a port's sequences
(R55-R69, R431) and the deliveries to a port's tasks (R220-R224): O14, O24, O28, O34.
-/

namespace Sys2Proof.Machine

/-! ### Codes of a force output (R52) -/

section ClipCode

variable {d : Int}

theorem clipCode_of_neg (h : d < 0) : clipCode d = (0, true) := if_pos h

theorem clipCode_of_topCode_lt (h : topCode < d) : clipCode d = (topCode, true) := by
  have h0 : ¬d < 0 := not_lt.2 ((Int.natCast_nonneg topCode).trans h.le)
  rw [clipCode, if_neg h0, if_pos h]

theorem clipCode_of_le (h0 : 0 ≤ d) (h : d ≤ topCode) : clipCode d = (d.toNat, false) := by
  rw [clipCode, if_neg (not_lt.2 h0), if_neg (not_lt.2 h)]

/-- No code lies above the top code, so the shaper's carry stays within the core. -/
theorem clipCode_le_topCode (d : Int) : (clipCode d).1 ≤ topCode := by
  rcases lt_or_ge d 0 with hneg | h0
  · rw [clipCode_of_neg hneg]
    exact Nat.zero_le topCode
  · rcases lt_or_ge (topCode : Int) d with hover | htop
    · rw [clipCode_of_topCode_lt hover]
    · rw [clipCode_of_le h0 htop]
      exact Int.toNat_le.2 htop

end ClipCode

/-- A bipolar span has twice the width of a unipolar one of the same full scale, hence half the codes per FSQ, around 2^23. -/
theorem codeOf_eq_clipCode (span : Nat) (u : Int) :
    codeOf span u = clipCode (if span ≤ 1 then 8388608 + (u + 8192) / 16384 else (u + 4096) / 8192) := by
  by_cases h : span ≤ 1 <;> simp [codeOf, spanBipolar, h]

namespace State

variable {s : State} {p kind e : Nat} {t : Tick}

/-! ### The boot sequence (R258, R421) -/

/-- A new epoch is a matter of the time base, its entries and the journal. -/
theorem epochStart_leaves_rest (s : State) : Foot.leaves ⟨0x10000, [0x2100, 0x8000], [.tb, .rcd]⟩ s s.epochStart :=
  epochStart_leaves .refl (Foot.le_refl _)

@[simp] theorem epochStart_now (s : State) : s.epochStart.now = s.now :=
  (epochStart_leaves_rest s).now.resolve_left (by simp [Foot.has])

@[simp] theorem epochStart_pwr (s : State) : s.epochStart.pwr = s.pwr :=
  (epochStart_leaves_rest s).pwr.resolve_left (by simp [Foot.has])

/-- The counter counts from the lock. -/
theorem bootLock_now (s : State) (t : Tick) : (s.bootLock t).now = 0 := epochStart_now _

theorem bootLock_boot (s : State) (t : Tick) : (s.bootLock t).pwr.boot = 3 := congrArg PwrX.boot (epochStart_pwr _)

theorem lockNow_of_boot_two (h : s.pwr.boot = 2) : s.lockNow t = s.bootLock t := if_pos h

theorem clearNow_of_due (hc : s.bit Fb.FAB_STATUS FabStatus.CLEARING = true) (hd : s.pwr.clearDue ≤ t) : s.clearNow t = s.clearEnd t := by
  simp [clearNow, hc, hd]

section BootStep

variable {bad : List Nat}

theorem bootStep_three (h : s.pwr.boot = 3) : s.bootStep bad t = s.bootThree t := by simp only [bootStep, h]

/-- In RECOVERY the boot stays at its step 5. -/
theorem bootStep_five (h : s.pwr.boot = 5) :
    s.bootStep bad t = if s.bit Fw.FW_STATUS FwStatus.RECOVERY then s else s.bootFive t := by simp only [bootStep, h]

theorem bootStep_six (h : s.pwr.boot = 6) : s.bootStep bad t = s.bootSix t := by simp only [bootStep, h]

theorem bootStep_seven (h : s.pwr.boot = 7) : s.bootStep bad t = s.bootSeven t := by simp only [bootStep, h]

theorem bootStep_ten (h : s.pwr.boot = 10) : s.bootStep bad t = s.bootEleven bad t := by simp only [bootStep, h]

end BootStep

/-! ### The output stages (R63) -/

theorem analogValid_of_lost (h : s.pwr.anaLost = true) : s.analogValid t = s.modPwr fun x => { x with anaWait := some t } := if_pos h

theorem stageWaitEnd_of_due (h : s.pwr.anaWait = some e) (hd : e + 10 * us ≤ t) : s.stageWaitEnd t = s.analogOn t := by
  simp only [stageWaitEnd, h, if_pos hd]

/-! ### The timed steps of a port's sequences (R55-R69, R431) -/

theorem enableHoldEnd_of_due (h : (s.px p).seqn = .enSpanHold e) (hd : e ≤ t) :
    s.enableHoldEnd p t = ((s.spanSwitch p e).enableStep2 p e).syncPort p := by
  simp only [enableHoldEnd, h, if_pos hd]

/-- A port whose gate permission has taken effect, before the ramp of its enable: the gate is permitted and the loop has started cold. -/
def gatePermitted (s : State) (p : Nat) : State :=
  ((s.modPx p fun x => { x with seqn := .enRamp, pgen := { x.pgen with permit := true } }).coldStart p).syncPort p

theorem gatePermitAt_of_due (h : (s.px p).seqn = .enGate e) (hd : e ≤ t) :
    s.gatePermitAt p t =
      let u := s.gatePermitted p
      if (u.px p).force.clearCore.isSome then u.rampFrom p .enable (u.safeCode p (u.rN (Pt.SPAN_ACTIVE p))) (u.nextCode p) e
      else u.rampStart p .enable (u.nextCode p) e := by
  simp only [gatePermitAt, h, if_pos hd]
  rw [gatePermitted]

/-- The core follows the ramp of the enable where no clear holds it. -/
theorem gatePermitAt_ramps (h : (s.px p).seqn = .enGate e) (hd : e ≤ t) (hc : ((s.gatePermitted p).px p).force.clearCore = none) :
    s.gatePermitAt p t = (s.gatePermitted p).rampStart p .enable ((s.gatePermitted p).nextCode p) e := by
  rw [gatePermitAt_of_due h hd]
  exact if_neg (by simp [hc])

/-- A clear holds the core, and the ramp counts from SAFE_VALUE (R64). -/
theorem gatePermitAt_cleared (h : (s.px p).seqn = .enGate e) (hd : e ≤ t) (hc : ((s.gatePermitted p).px p).force.clearCore.isSome = true) :
    s.gatePermitAt p t =
      let u := s.gatePermitted p
      u.rampFrom p .enable (u.safeCode p (u.rN (Pt.SPAN_ACTIVE p))) (u.nextCode p) e := by
  rw [gatePermitAt_of_due h hd]
  exact if_pos hc

theorem dischargeDue_of_due (h : (s.px p).seqn = .discharge e) (hd : e ≤ t) : s.dischargeDue p t = s.dischargeEnd p e := by
  simp only [dischargeDue, h, if_pos hd]

theorem rampFinish_of_due {r : Ramp} (h : (s.px p).force.ramp = some r) (hd : r.finish ≤ t) :
    s.rampFinish p t = ((s.rampStop p r.finish).rampEnd p r.kind r.finish).jHold p t := by
  simp only [rampFinish, h, if_pos hd]

/-- An OFF port goes on from its track-and-hold at once. -/
theorem spanHoldDue_of_offSpan (h : (s.px p).seqn = .offSpan e) (hd : e ≤ t) :
    s.spanHoldDue p t =
      ((((s.modPx p fun x => { x with seqn := .idle }).spanSwitch p e).setFld (Pt.FORCE_STATUS p) ForceStatus.SPAN_STEP 2 0).syncPort
        p).offSpan p e := by
  simp only [spanHoldDue, h, if_pos hd]

/-- An enabled port is in step 2 of its span change. -/
theorem spanHoldDue_of_idle (h : (s.px p).seqn = .idle) (hstep : s.spanStep p = 2) (hd : (s.px p).force.holdEnd ≤ t) :
    s.spanHoldDue p t = s.spanRelease p (s.px p).force.holdEnd := by
  simp only [spanHoldDue, h, if_pos (And.intro hstep hd)]

theorem readbackExpiry_of_due (hs : s.served = true) (hi : s.live p (Pt.READBACK_INTERVAL p) ≠ 0) (hd : (s.px p).force.rbDue ≤ t) :
    s.readbackExpiry p t =
      (s.modForce p fun f => { f with rbDue := t + s.live p (Pt.READBACK_INTERVAL p) * us }).rbRequest p t :=
  if_pos ⟨hs, hi, hd⟩

/-- The value in force of an entry is told by the entries and the group controllers' queues. -/
@[simp] theorem live_modForce (f : ForceX → ForceX) (q k : Nat) : (s.modForce p f).live q k = s.live q k := rfl

/-- The port's read-back is no longer put off. -/
def readbackTaken (s : State) (p : Nat) : State := s.modForce p fun f => { f with rbDeferred := false, rbUrgent := false }

theorem readbackDeferred_requests (hb : s.rbBlocked p t = false) (hu : (s.px p).force.rbUrgent = false)
    (hd : (s.px p).force.rbDeferred = true) (hi : s.live p (Pt.READBACK_INTERVAL p) ≠ 0) :
    s.readbackDeferred p t = (s.readbackTaken p).rbRequest p t := by
  simp [readbackDeferred, readbackTaken, hb, hu, hd, hi]

/-- An urgent read-back does not wait its turn. -/
theorem readbackDeferred_urgent (hb : s.rbBlocked p t = false) (hu : (s.px p).force.rbUrgent = true)
    (hd : (s.px p).force.rbDeferred = false) : s.readbackDeferred p t = (s.readbackTaken p).readbackNow p t := by
  simp [readbackDeferred, readbackTaken, hb, hu, hd]

theorem timerStrikeAt_of_edge (h : s.timerEdge p t = true) : s.timerStrikeAt p t = s.strike p t := if_pos h

/-! ### Deliveries to a port's tasks (R220-R224) -/

theorem portTask_of_no_delivery (h : (s.takePort p kind t).1 = []) : s.portTask p kind t = (s.takePort p kind t).2 := if_pos h

theorem portTask_of_delivery (h : (s.takePort p kind t).1 ≠ []) :
    s.portTask p kind t = (s.takePort p kind t).2.portTaskDo p kind (s.takePort p kind t).1 t := if_neg h

section PortTaskDo

variable {l : List (Nat × Nat)}

@[simp] theorem portTaskDo_start : s.portTaskDo p Task.start l t = s.startTask p l t := rfl

@[simp] theorem portTaskDo_stop : s.portTaskDo p Task.stop l t = (s.trainStop p (s.stopMode p) t).syncPort p := rfl

@[simp] theorem portTaskDo_rearm : s.portTaskDo p Task.rearm l t = s.rearmTask p t := rfl

@[simp] theorem portTaskDo_trip : s.portTaskDo p Task.trip l t = s.trip p Cause.event t (topGen l + 1) := rfl

@[simp] theorem portTaskDo_arm : s.portTaskDo p Task.arm l t = s.armPoint p t (topGen l) := rfl

@[simp] theorem portTaskDo_strike : s.portTaskDo p Task.strike l t = s.strikeTask p t := rfl

end PortTaskDo

end State
end Sys2Proof.Machine

namespace Sys2Proof

open Machine State

/-- Settles O14: a code is the rounded value as `clipCode` clamps it. -/
theorem forceCodes : Obligations.ForceCodes := by
  intro span u _ d
  rw [codeOf_eq_clipCode span u]
  exact ⟨clipCode_of_le, clipCode_of_neg, clipCode_of_topCode_lt, clipCode_le_topCode d⟩

/-- Settles O24: the lock of the PLLs, the steps by the value of BOOT, and the analog supplies. -/
theorem bootCommandsComplete : Obligations.BootCommandsComplete := by
  intro s t bad a
  refine ⟨?lock, ?clearEnds, ?three, ?five, ?six, ?seven, ?ten, ?loss, ?valid, ?stageOn⟩
  case lock =>
    intro h
    exact ⟨a.bootLock a.now, run_eq_of_effect (eff := fun n x => x.lockNow n) (lockNow_of_boot_two h), rfl, bootLock_now a a.now,
      bootLock_boot a a.now⟩
  case clearEnds => exact fun hc hd => run_eq_of_effect (eff := fun n x => x.clearNow n) (clearNow_of_due hc hd)
  case three => exact fun h => run_eq_of_effect (eff := fun n x => x.bootStep _ n) (bootStep_three h)
  case five =>
    exact fun h hr => run_eq_of_effect (eff := fun n x => x.bootStep _ n) ((bootStep_five h).trans (if_neg (Bool.eq_false_iff.1 hr)))
  case six => exact fun h => run_eq_of_effect (eff := fun n x => x.bootStep _ n) (bootStep_six h)
  case seven => exact fun h => run_eq_of_effect (eff := fun n x => x.bootStep _ n) (bootStep_seven h)
  case ten => exact fun h => run_eq_of_effect (eff := fun n x => x.bootStep _ n) (bootStep_ten h)
  case loss => exact run_eq_of_effect (eff := fun n x => x.analogLoss n) rfl
  case valid => exact fun h => run_eq_of_effect (eff := fun n x => x.analogValid n) (analogValid_of_lost h)
  case stageOn => exact fun w h hd => run_eq_of_effect (eff := fun n x => x.stageWaitEnd n) (stageWaitEnd_of_due h hd)

/-- Settles O28: each step by the state of the port in which it falls due. -/
theorem portStepsComplete : Obligations.PortStepsComplete := by
  intro s t p a x
  refine ⟨?enableHold, ?gate, ?discharge, ?ramp, ?offSpan, ?span, ?readback, ?deferred, ?timer⟩
  case enableHold => exact fun e h hd => run_eq_of_effect (eff := fun n x => x.enableHoldEnd p n) (enableHoldEnd_of_due h hd)
  case gate =>
    intro e h hd
    exact ⟨a.gatePermitted p, rfl,
      fun hc => run_eq_of_effect (eff := fun n x => x.gatePermitAt p n) (gatePermitAt_ramps (s := a) h hd hc),
      fun hc => run_eq_of_effect (eff := fun n x => x.gatePermitAt p n) (gatePermitAt_cleared (s := a) h hd hc)⟩
  case discharge => exact fun e h hd => run_eq_of_effect (eff := fun n x => x.dischargeDue p n) (dischargeDue_of_due h hd)
  case ramp => exact fun r h hd => run_eq_of_effect (eff := fun n x => x.rampFinish p n) (rampFinish_of_due h hd)
  case offSpan => exact fun e h hd => run_eq_of_effect (eff := fun n x => x.spanHoldDue p n) (spanHoldDue_of_offSpan h hd)
  case span => exact fun h hstep hd => run_eq_of_effect (eff := fun n x => x.spanHoldDue p n) (spanHoldDue_of_idle h hstep hd)
  case readback => exact fun hs hi hd => run_eq_of_effect (eff := fun n x => x.readbackExpiry p n) (readbackExpiry_of_due hs hi hd)
  case deferred =>
    intro hb
    exact ⟨fun hu hd hi => run_eq_of_effect (eff := fun n x => x.readbackDeferred p n) (readbackDeferred_requests hb hu hd hi),
      fun hu hd => run_eq_of_effect (eff := fun n x => x.readbackDeferred p n) (readbackDeferred_urgent hb hu hd)⟩
  case timer => exact fun h => run_eq_of_effect (eff := fun n x => x.timerStrikeAt p n) (timerStrikeAt_of_edge h)

/-- A command of a port's task with deliveries of its tick has the task's effect on the state in which they are taken. -/
theorem run_portTask_of_delivery {s u : State} {t : Tick} {p kind : Nat}
    (h : ((s.advance t).takePort p kind (s.advance t).now).1 ≠ [])
    (hu : ((s.advance t).takePort p kind (s.advance t).now).2.portTaskDo p kind ((s.advance t).takePort p kind (s.advance t).now).1
      (s.advance t).now = u) :
    run t (fun n x => x.portTask p kind n) s = .next u.settle :=
  run_eq_of_effect ((portTask_of_delivery h).trans hu)

/-- Settles O34: without deliveries the marks alone change, with some the task acts by its kind. -/
theorem portTasksComplete : Obligations.PortTasksComplete := by
  intro s t p a got b
  refine ⟨?none, ?start, ?stop, ?rearm, ?trip, ?strike, ?arm⟩
  case none => exact fun h => run_eq_of_effect (eff := fun n x => x.portTask p Task.start n) (portTask_of_no_delivery h)
  case start => exact fun h => run_portTask_of_delivery h portTaskDo_start
  case stop => exact fun h => run_portTask_of_delivery h portTaskDo_stop
  case rearm => exact fun h => run_portTask_of_delivery h portTaskDo_rearm
  case trip => exact fun h => run_portTask_of_delivery h portTaskDo_trip
  case strike => exact fun h => run_portTask_of_delivery h portTaskDo_strike
  case arm => exact fun h => run_portTask_of_delivery h portTaskDo_arm

end Sys2Proof
end

section
/-!
The tick boundary of a port with its step 2, the estimator's visits, conversions, windows, block flushes and detectors (R83-R97, R106, R107,
R118-R123): O30.
-/

namespace Sys2Proof.Machine
namespace State

variable {s : State} {p q : Nat} {t : Tick}

/-! ### Step 2 of a tick boundary (R105, R107, R129) -/

theorem stepTwo_of_not_due (h : s.stepTwoDue p t = false) : s.stepTwo p t = s := if_neg (Bool.eq_false_iff.1 h)

/-- Step 2 as far as the configuration that takes effect in it: the ranges in force of the port and of its partners come first (R129, R139). -/
def stepTwoConfig (s : State) (p : Nat) (t : Tick) : State :=
  (([p, s.live p (Pt.LINK_PORT p), s.rN (Pt.LINK_PORT p)].foldl (fun x q => if q < 128 then x.rangesFirst q t else x) s).modLoop p
    fun l => { l with stepTwo := some t }).tickConfig p t

theorem stepTwo_of_due (h : s.stepTwoDue p t = true) :
    s.stepTwo p t =
      if !(s.stepTwoConfig p t).ticking p then ((s.stepTwoConfig p t).planApply p).divApply p t
      else
        let d := ((s.stepTwoConfig p t).tickRanges p t).rotBoundary p t
        if d.ticking p then d.tickPattern p else d :=
  if_pos h

/-- On an OFF port configuration and the divisor take effect alone. -/
theorem stepTwo_of_off (h : s.stepTwoDue p t = true) (hoff : (s.stepTwoConfig p t).ticking p = false) :
    s.stepTwo p t = ((s.stepTwoConfig p t).planApply p).divApply p t := by
  have hidle : (!(s.stepTwoConfig p t).ticking p) = true := by simp [hoff]
  exact (stepTwo_of_due h).trans (if_pos hidle)

/-- A port that the range steps leave enabled drives the pattern of the tick. -/
theorem stepTwo_of_ticking (h : s.stepTwoDue p t = true) (hon : (s.stepTwoConfig p t).ticking p = true)
    (hstill : (((s.stepTwoConfig p t).tickRanges p t).rotBoundary p t).ticking p = true) :
    s.stepTwo p t = (((s.stepTwoConfig p t).tickRanges p t).rotBoundary p t).tickPattern p := by
  have hrun : ¬(!(s.stepTwoConfig p t).ticking p) = true := by simp [hon]
  exact ((stepTwo_of_due h).trans (if_neg hrun)).trans (if_pos hstill)

/-! ### The tick (R107, R118, R121) -/

theorem when_decide (c : Prop) [Decidable c] (f : State → State) : s.when (decide c) f = if c then f s else s := by
  simp only [when, decide_eq_true_eq]

/-- Step 2 of the port, and then of the port that it links to, both at the same tick. -/
def stepTwoLinked (s : State) (p : Nat) (t : Tick) : State :=
  let b := s.stepTwo p t
  let q := b.live p (Pt.LINK_PORT p)
  if q < 128 then b.stepTwo q t else b

theorem loopTick_of_boundary (hs : s.served = true) (hg : s.gated p = false)
    (hb : s.isBoundary p t = true ∨ (s.px p).loop.stepTwo = some t) :
    loopTick p t s =
      if (s.stepTwoLinked p t).ticking p then (s.stepTwoLinked p t).tickUpdate p t else (s.stepTwoLinked p t).tickIdle p t := by
  have hguard : (!s.served || !(s.isBoundary p t || decide ((s.px p).loop.stepTwo = some t))) = false := by
    rcases hb with hb | hb <;> simp [hs, hb]
  rw [loopTick, if_neg (Bool.eq_false_iff.1 hguard), if_neg (Bool.eq_false_iff.1 hg)]
  dsimp only
  rw [when_decide, stepTwoLinked]

theorem loopTick_idles (hs : s.served = true) (hg : s.gated p = false) (hb : s.isBoundary p t = true ∨ (s.px p).loop.stepTwo = some t)
    (hoff : (s.stepTwoLinked p t).ticking p = false) : loopTick p t s = (s.stepTwoLinked p t).tickIdle p t := by
  rw [loopTick_of_boundary hs hg hb, if_neg (Bool.eq_false_iff.1 hoff)]

theorem loopTick_updates (hs : s.served = true) (hg : s.gated p = false) (hb : s.isBoundary p t = true ∨ (s.px p).loop.stepTwo = some t)
    (hon : (s.stepTwoLinked p t).ticking p = true) : loopTick p t s = (s.stepTwoLinked p t).tickUpdate p t := by
  rw [loopTick_of_boundary hs hg hb, if_pos hon]

/-! ### The estimator's visit (R106, R119, R123) -/

/-- The round of pipeline `k` has come to the port `q`, and the visit takes up the tick that completed there. -/
def visitTaken (s : State) (k q : Nat) : State :=
  ({ s with lm := Tab.set (fun _ => 0) s.lm k (q + 1) } : State).modLoopY q fun y => { y with tickDone := false }

theorem lmVisitAt_of_tickDone {k : Nat} (hs : s.served = true) (ht : t % 320 = 0)
    (hq : nextVisit (s.visitPorts k) (Tab.get (fun _ => 0) s.lm k) = some q) (hdone : (s.px q).loopY.tickDone = true)
    (hlast : (s.px q).loop.lastTick < t) : lmVisitAt k t s = ((s.visitTaken k q).modelUpdate q).markUpdated q := by
  have hguard : (!s.served || decide (t % 320 ≠ 0)) = false := by simp [hs, ht]
  have hfresh : ((s.px q).loopY.tickDone && decide ((s.px q).loop.lastTick < t)) = true := by simp [hdone, hlast]
  simp only [lmVisitAt, if_neg (Bool.eq_false_iff.1 hguard), hq]
  exact if_pos hfresh

/-! ### Conversions, windows and blocks (R79, R83, R97, R123) -/

theorem conversion_of_edge {cv ci : Int} (hc : s.converts p = true) (ht : t % 32 = 0) :
    s.conversion p cv ci t = s.fastConv p cv ci t :=
  if_pos (by simp [hc, ht])

theorem windowDue_of_last {w : PrecWin} {xv xi : List W40} (h : (s.px p).meas.win = some w) (ht : t = w.open_ + 625 * w.n)
    (hv : xv.length = w.n) (hi : xi.length = w.n) : s.windowDue p xv xi t = s.closeWindow p w xv xi t := by
  simp only [windowDue, h]
  exact if_pos ⟨ht, hv, hi⟩

theorem precFlush_of_due {b : Blk} (h : (s.px p).meas.prec = some b) (hd : b.firstIn + s.live p (Pt.PREC_FLUSH p) * us ≤ t) :
    s.precFlush p t = s.closePrec p := by
  simp only [precFlush, h, if_pos hd]

theorem loopFlush_of_due (h : (s.px p).loopY.recBlock ≠ []) (hd : (s.px p).loopY.recStart + s.live p (Pt.PREC_FLUSH p) * us ≤ t) :
    s.loopFlush p t = s.closeLoop p :=
  if_pos ⟨h, hd⟩

/-! ### Detectors (R89, R90) -/

section Detectors

variable {v neg common : Bool}

theorem ovrAssertAt_of_converts (h : s.converts p = true) :
    s.ovrAssertAt p v neg common t = (s.ovrStart p v neg t).when common fun x => x.ovrStart p (!v) neg t :=
  if_pos h

/-- The open interval of an asserted detector ends at the tick. -/
theorem ovrEnd_of_ovrOn (h : s.ovrOn p v = true) :
    s.ovrEnd p v t =
      (s.modOvr p v fun l => l.map fun o => if o.tr.isNone then { o with tr := some t } else o).jEdge p (if v then 2 else 4) 0 t :=
  if_pos h

theorem ovrReleaseAt_of_ovrOn (h : s.ovrOn p v = true) :
    s.ovrReleaseAt p v common t =
      ((s.modOvr p v fun l => l.map fun o => if o.tr.isNone then { o with tr := some t } else o).jEdge p (if v then 2 else 4) 0 t).when
        common fun x => x.ovrEnd p (!v) t := by
  rw [ovrReleaseAt, ovrEnd_of_ovrOn h]

end Detectors

end State
end Sys2Proof.Machine

namespace Sys2Proof

open Machine State

/-- Settles O30: step 2 and the tick by whether the loop runs, and each of the other commands where its condition holds. -/
theorem loopAndMeasureComplete : Obligations.LoopAndMeasureComplete := by
  intro s t p pipe cv ci neg common a
  refine ⟨?tick, ?stepTaken, ?stepDue, ?visit, ?conversion, ?window, ?precFlush, ?loopFlush, ?ovrAssert, ?ovrReleaseV, ?ovrReleaseI⟩
  case tick =>
    intro b q d hs hg hb
    exact ⟨fun hoff => run_eq_of_effect (eff := fun n x => loopTick p n x) (loopTick_idles hs hg hb hoff),
      fun hon => run_eq_of_effect (eff := fun n x => loopTick p n x) (loopTick_updates hs hg hb hon)⟩
  case stepTaken => exact fun x e h => stepTwo_of_not_due h
  case stepDue => exact fun x e h => ⟨fun hoff => stepTwo_of_off h hoff, fun hon hstill => stepTwo_of_ticking h hon hstill⟩
  case visit =>
    exact fun q hs ht hq hdone hlast =>
      run_eq_of_effect (eff := fun n x => lmVisitAt pipe n x) (lmVisitAt_of_tickDone hs ht hq hdone hlast)
  case conversion =>
    exact fun hc ht => run_eq_of_effect (eff := fun n x => x.conversion p cv.toInt ci.toInt n) (conversion_of_edge hc ht)
  case window =>
    exact fun w xv xi h ht hv hi => run_eq_of_effect (eff := fun n x => x.windowDue p xv xi n) (windowDue_of_last h ht hv hi)
  case precFlush => exact fun b h hd => run_eq_of_effect (eff := fun n x => x.precFlush p n) (precFlush_of_due h hd)
  case loopFlush => exact fun h hd => run_eq_of_effect (eff := fun n x => x.loopFlush p n) (loopFlush_of_due h hd)
  case ovrAssert =>
    exact fun h => ⟨run_eq_of_effect (eff := fun n x => x.ovrAssertAt p _ neg _ n) (ovrAssertAt_of_converts h),
      run_eq_of_effect (eff := fun n x => x.ovrAssertAt p _ neg _ n) (ovrAssertAt_of_converts h)⟩
  case ovrReleaseV => exact fun h => run_eq_of_effect (eff := fun n x => x.ovrReleaseAt p _ false n) (ovrReleaseAt_of_ovrOn h)
  case ovrReleaseI => exact fun h => run_eq_of_effect (eff := fun n x => x.ovrReleaseAt p _ common n) (ovrReleaseAt_of_ovrOn h)

end Sys2Proof
end

section
/-!
The arithmetic of the force loop (R112): limits, the INTEGER40 range and products in Q7.32: O13.
-/

namespace Sys2Proof.Machine

/-! ### Limits (R112) -/

section SatTo

variable {v lo hi : Int}

theorem satTo_of_lt (h : v < lo) : satTo v lo hi = lo := if_pos h

theorem satTo_of_gt (hle : lo ≤ hi) (h : hi < v) : satTo v lo hi = hi := by
  rw [satTo, if_neg (not_lt.2 (hle.trans h.le)), if_pos h]

theorem satTo_of_mem (h : v ∈ Set.Icc lo hi) : satTo v lo hi = v := by
  rw [satTo, if_neg (not_lt.2 h.1), if_neg (not_lt.2 h.2)]

theorem satTo_mem (hle : lo ≤ hi) (v : Int) : satTo v lo hi ∈ Set.Icc lo hi := by
  rcases lt_or_ge v lo with hlow | hlo
  · rw [satTo_of_lt hlow]
    exact Set.left_mem_Icc.2 hle
  · rcases lt_or_ge hi v with hover | hhi
    · rw [satTo_of_gt hle hover]
      exact Set.right_mem_Icc.2 hle
    · rw [satTo_of_mem ⟨hlo, hhi⟩]
      exact ⟨hlo, hhi⟩

end SatTo

theorem min40_le_max40 : min40 ≤ max40 := by decide

/-! ### Products in Q7.32 (R112) -/

/-- Half a unit of Q7.32 is added before the floor, so a product falls short of the exact one by less than half a unit; a tie goes up. -/
theorem lt_mulQ_mul (a k : Int) : a * k - 2 ^ 31 < mulQ a k * 2 ^ 32 := by
  have hfloor : a * k + 2 ^ 31 < (mulQ a k + 1) * 2 ^ 32 := Int.lt_ediv_add_one_mul_self _ (by decide)
  omega

/-- A product exceeds the exact one by at most half a unit of Q7.32. -/
theorem mulQ_mul_le (a k : Int) : mulQ a k * 2 ^ 32 ≤ a * k + 2 ^ 31 :=
  Int.ediv_mul_le _ (by decide)

end Sys2Proof.Machine

namespace Sys2Proof

open Machine

/-- Settles O13: the floor of the product with half a unit added is the nearest integer, and the limit to INTEGER40 acts outside its range only. -/
theorem loopProductsRoundToNearest : Obligations.LoopProductsRoundToNearest := by
  intro a k
  have hbelow := lt_mulQ_mul a k
  have habove := mulQ_mul_le a k
  obtain ⟨hmin, hmax⟩ : mul40 a k ∈ Set.Icc min40 max40 := satTo_mem min40_le_max40 (mulQ a k)
  refine ⟨?notShort, ?notOver, hmin, hmax, ?inRange, ?underflow, ?overflow⟩
  case notShort => omega
  case notOver => omega
  case inRange => exact fun hlo hhi => satTo_of_mem ⟨hlo, hhi⟩
  case underflow => exact fun hlow => satTo_of_lt hlow
  case overflow => exact fun hover => satTo_of_gt min40_le_max40 hover

end Sys2Proof
end

section
/-!
The ends of the phases of a make-before-break step (R132-R134, R142, R143): O31.
-/

namespace Sys2Proof.Machine
namespace State

variable {s : State} {p : Nat} {t : Tick} {st : RStep}

/-! ### The ends of MAKE and PARALLEL (R132, R134, R137) -/

theorem stepMakeEnd_of_due (h : (s.px p).range.step = some st) (hp : st.phase = 1) (hd : st.t1 ≤ t) :
    s.stepMakeEnd p t =
      ((((s.modRange p fun r => { r with step := some { st with phase := 2 } }).setFld (Pt.RNG_STATUS p) RngStatus.PHASE 2 2).loadThresholds p
        st.t1).jPort p 8 (2 + 4 * st.qv.toNat + 16 * st.a + 256 * st.b) st.t1) := by
  simp only [stepMakeEnd, h, if_pos (And.intro hp hd)]

/-- A step that is not in MAKE, or whose MAKE has not elapsed, is left as it is. -/
theorem stepMakeEnd_of_not_due (h : (s.px p).range.step = some st) (hn : st.phase ≠ 1 ∨ t < st.t1) : s.stepMakeEnd p t = s := by
  have hdue : ¬(st.phase = 1 ∧ st.t1 ≤ t) := fun ⟨hp, hd⟩ => hn.elim (· hp) (Nat.not_lt.2 hd)
  simp only [stepMakeEnd, h, if_neg hdue]

/-- A step that is not in PARALLEL, or whose PARALLEL has not elapsed, is left as it is. -/
theorem stepParEnd_of_not_due (h : (s.px p).range.step = some st) (hn : st.phase ≠ 2 ∨ t < st.t2) : s.stepParEnd p t = s := by
  have hdue : ¬(st.phase = 2 ∧ st.t2 ≤ t) := fun ⟨hp, hd⟩ => hn.elim (· hp) (Nat.not_lt.2 hd)
  simp only [stepParEnd, h, if_neg hdue]

/-! ### The ends of BREAK and GUARD (R132, R142, R143) -/

/-- A disable chain ends in OFF with the BREAK that brings the last of the OFF ranges. -/
theorem breakEnd_of_due (h : (s.px p).range.step = some st) (hp : st.phase = 3) (hd : st.t3 ≤ t) :
    s.breakEnd p t =
      if ((s.stepBreakEnd p t).px p).range.toOff && (s.stepBreakEnd p t).atOffRange p then (s.stepBreakEnd p t).portOff p t
      else s.stepBreakEnd p t := by
  simp [breakEnd, h, hp, hd]

/-- After GUARD a disable chain goes on at once, any other chain at a tick boundary. -/
theorem guardDue_of_due (h : (s.px p).range.step = some st) (hp : st.phase = 4) (hd : st.guardEnd ≤ t) :
    s.guardDue p t =
      let b := (s.stepGuardEnd p t).divApply p t
      if (b.px p).seqn = .disRange then b.rangeToOff p t else if b.isBoundary p t then b.seekStart p t else b := by
  simp only [guardDue, h, if_pos (And.intro hp hd)]

end State
end Sys2Proof.Machine

namespace Sys2Proof

open Machine State

/-- Settles O31: each of the four commands by the phase of the step and whether that phase has elapsed. -/
theorem rangePhasesComplete : Obligations.RangePhasesComplete := by
  intro s t p st a h
  refine ⟨?makeEnds, ?makeStays, ?parallelEnds, ?parallelStays, ?breakEnds, ?guardEnds⟩
  case makeEnds => exact fun hp hd => run_eq_of_effect (eff := fun n x => x.stepMakeEnd p n) (stepMakeEnd_of_due h hp hd)
  case makeStays => exact fun hn => run_eq_of_effect (eff := fun n x => x.stepMakeEnd p n) (stepMakeEnd_of_not_due h hn)
  case parallelEnds => exact fun _ _ => run_eq_of_effect (eff := fun n x => x.stepParEnd p n) rfl
  case parallelStays => exact fun hn => run_eq_of_effect (eff := fun n x => x.stepParEnd p n) (stepParEnd_of_not_due h hn)
  case breakEnds => exact fun hp hd => run_eq_of_effect (eff := fun n x => x.breakEnd p n) (breakEnd_of_due h hp hd)
  case guardEnds => exact fun hp hd => run_eq_of_effect (eff := fun n x => x.guardDue p n) (guardDue_of_due h hp hd)

end Sys2Proof
end

section
/-!
The comparators of a port, in their continuous modes and in the sampled one (R147, R154, R157): O32.
-/

namespace Sys2Proof.Machine

/-! ### The transitions of one comparator (R147) -/

section CmpNext

variable {x lo hi h : Int}

theorem cmpNext_inside_of_gt (hx : hi < x) : cmpNext 0 x lo hi h = 1 := if_pos hx

theorem cmpNext_inside_of_lt (hle : lo ≤ hi) (hx : x < lo) : cmpNext 0 x lo hi h = 2 :=
  (if_neg (by omega)).trans (if_pos hx)

theorem cmpNext_inside_of_mem (hx : x ∈ Set.Icc lo hi) : cmpNext 0 x lo hi h = 0 :=
  (if_neg hx.2.not_gt).trans (if_neg hx.1.not_gt)

/-- An input that has come back by more than the hysteresis is decided on as from INSIDE. -/
theorem cmpNext_above : cmpNext 1 x lo hi h = if x < hi - h then cmpNext 0 x lo hi h else 1 := rfl

theorem cmpNext_below : cmpNext 2 x lo hi h = if lo + h < x then cmpNext 0 x lo hi h else 2 := rfl

theorem cmpNext_above_stays (hx : hi - h ≤ x) : cmpNext 1 x lo hi h = 1 := if_neg hx.not_gt

theorem cmpNext_below_stays (hx : x ≤ lo + h) : cmpNext 2 x lo hi h = 2 := if_neg hx.not_gt

theorem cmpNext_above_returns (hh : 0 ≤ h) (hlo : lo ≤ x) (hx : x < hi - h) : cmpNext 1 x lo hi h = 0 := by
  rw [cmpNext_above, if_pos hx, cmpNext_inside_of_mem ⟨hlo, by omega⟩]

theorem cmpNext_below_returns (hh : 0 ≤ h) (hx : lo + h < x) (hhi : x ≤ hi) : cmpNext 2 x lo hi h = 0 := by
  rw [cmpNext_below, if_pos hx, cmpNext_inside_of_mem ⟨by omega, hhi⟩]

end CmpNext

/-- A strobe begins anew where none is in progress. -/
theorem strobeAt_of_none {k : Cmp} {grid : Nat × Nat} {t : Tick} (h : k.strobe = none) :
    k.strobeAt grid t = { k with strobe := some t, strobeEnd := t + 768, grid := grid, state := 0, startEnd := some (t + 384) } := by
  simp [Cmp.strobeAt, h]

namespace State

variable {s : State} {p : Nat} {v : Bool} {x : Int} {t e n : Tick}

/-! ### Input changes and first decisions (R147, R154) -/

theorem cmpChange_of_live (h : s.cmpLive p v t = true) :
    s.cmpChange p v x t =
      (s.otherChange p v x t).cmpMove p v (s.cmpEval p (s.rN (Pt.DRIVE_SLICE p)) v (s.cmpOf p v).state x false t) t := if_pos h

theorem cmpChange_of_not_live (h : s.cmpLive p v t = false) : s.cmpChange p v x t = s.otherChange p v x t :=
  if_neg (Bool.eq_false_iff.1 h)

theorem cmpFirst_of_due {b : State} (hb : s.otherDecide p v false x t = b) (hstart : (b.cmpOf p v).startEnd = some e)
    (hmode : b.cmpActive p v ≠ 5) (hdue : e ≤ t) :
    s.cmpFirst p v x t =
      ((b.cmpDecide p v (b.cmpEval p (b.rN (Pt.DRIVE_SLICE p)) v 0 x true e) false e).armWaitDone p e).cmpPending p v e := by
  simp only [cmpFirst, hb, hstart, if_pos (And.intro hmode hdue)]

/-! ### Strobes (R157) -/

theorem smStart_of_tick {b : State} (hb : (s.smEnd p v t).otherStrobe p v t = b) (hen : s.enabled p = true)
    (htick : s.smTickAt p t = true) (hmode : b.cmpActive p v = 5) :
    s.smStart p v t = (b.modCmp p v fun c => c.strobeAt (b.smGrid p) t).syncPort p := by
  simp [smStart, hen, htick, hb, hmode]

theorem smDecide_of_due {b : State} (hb : s.otherDecide p v true x t = b) (hstrobe : (b.cmpOf p v).strobe = some n)
    (hstart : (b.cmpOf p v).startEnd = some e) (hdue : n + 384 ≤ t) :
    s.smDecide p v x t =
      ((b.cmpDecide p v (b.cmpEval p (b.rN (Pt.DRIVE_SLICE p)) v 0 x true (n + 384)) true (n + 384)).armWaitDone p
        (n + 384)).cmpPending p v (n + 384) := by
  simp only [smDecide, hb, hstrobe, hstart, if_pos hdue]

theorem smEnd_of_due {b : State} (hb : s.otherEnd p v t = b) (hstrobe : (b.cmpOf p v).strobe = some n)
    (hstart : (b.cmpOf p v).startEnd = none) (hdue : (b.cmpOf p v).strobeEnd ≤ t) :
    s.smEnd p v t =
      ((b.cmpMove p v 0 (b.cmpOf p v).strobeEnd).modCmp p v fun c => { c with strobe := none }).syncPort p := by
  simp [smEnd, hb, hstrobe, hstart, hdue]

end State
end Sys2Proof.Machine

namespace Sys2Proof

open Machine State

/-- Settles O32: the transitions by where the input stands, the commands by whether the output is live, its start is over or its strobe has run. -/
theorem comparatorsComplete : Obligations.ComparatorsComplete := by
  refine ⟨?transitions, ?commands⟩
  case transitions =>
    intro x lo hi h hle hh
    exact ⟨cmpNext_inside_of_gt, cmpNext_inside_of_lt hle, fun hlo hhi => cmpNext_inside_of_mem ⟨hlo, hhi⟩, cmpNext_above_stays,
      cmpNext_above_returns hh, cmpNext_below_stays, cmpNext_below_returns hh⟩
  case commands =>
    intro s t p q x a v c i
    refine ⟨?live, ?idle, ?first, ?strobe, ?fresh, ?decision, ?strobeEnd⟩
    case live => exact fun h => run_eq_of_effect (eff := fun n y => y.cmpChange p v x n) (cmpChange_of_live h)
    case idle => exact fun h => run_eq_of_effect (eff := fun n y => y.cmpChange p v x n) (cmpChange_of_not_live h)
    case first =>
      exact fun e hstart hmode hdue => run_eq_of_effect (eff := fun n y => y.cmpFirst p v x n) (cmpFirst_of_due rfl hstart hmode hdue)
    case strobe =>
      exact fun hen htick hmode => run_eq_of_effect (eff := fun n y => y.smStart p v n) (smStart_of_tick rfl hen htick hmode)
    case fresh => exact fun k grid e h => strobeAt_of_none h
    case decision =>
      exact fun n e hstrobe hstart hdue =>
        run_eq_of_effect (eff := fun n y => y.smDecide p v x n) (smDecide_of_due rfl hstrobe hstart hdue)
    case strobeEnd =>
      exact fun n hstrobe hstart hdue => run_eq_of_effect (eff := fun n y => y.smEnd p v n) (smEnd_of_due rfl hstrobe hstart hdue)

end Sys2Proof
end

section
/-!
The requests on a pulse generator and the scheduled edges of its train (R159, R162, R164, R166, R168, R172): O33.
-/

namespace Sys2Proof.Machine.State

variable {s : State} {who p v r : Nat} {t e : Tick}

/-! ### PGEN_CTRL (R162, R168, R172) -/

/-- START alone is checked where START_SRC leaves the start to it. -/
theorem pgenCtrlCheck_start :
    s.pgenCtrlCheck p 1 = if s.startSrc p = 0 then (s.startReason p s.now).map Abort.deviceState else none := by
  by_cases hsrc : s.startSrc p = 0
  · cases hr : s.startReason p s.now <;> simp [pgenCtrlCheck, bitOf, Nat.testBit, hsrc, hr]
  · simp [pgenCtrlCheck, bitOf, Nat.testBit, hsrc]

theorem pgenCtrlCheck_stop : s.pgenCtrlCheck p 2 = none := by simp [pgenCtrlCheck, bitOf, Nat.testBit]

/-- REARM is checked where the trip latch is set. -/
theorem pgenCtrlCheck_rearm :
    s.pgenCtrlCheck p 4 = if s.tripped p = true then (s.rearmReason p s.now).map Abort.deviceState else none := by
  by_cases htrip : s.tripped p = true
  · cases hr : s.rearmReason p s.now <;> simp [pgenCtrlCheck, bitOf, Nat.testBit, htrip, hr]
  · simp [pgenCtrlCheck, bitOf, htrip]

theorem pgenCtrlCheck_trip : s.pgenCtrlCheck p 8 = none := by simp [pgenCtrlCheck, bitOf, Nat.testBit]

/-- Bit 0 of an accepted write is dropped where START_SRC gives the start to another source (log entry 55). -/
theorem pgenCtrl_accepted (h : s.grants who (Pt.PGEN_CTRL p) = true) (hc : s.pgenCtrlCheck p v = none) :
    pgenCtrl who p v t s = s.gcSubmit who (Pt.PGEN_CTRL p) v
      { port := p, op := .pgen (if s.startSrc p = 0 then v else v - v % 2), since := t } := cmdSubmit_done h hc

theorem pgenCtrl_refused (h : s.grants who (Pt.PGEN_CTRL p) = true) (hc : s.pgenCtrlCheck p v = some e) :
    pgenCtrl who p v t s = s.refuse who (Pt.PGEN_CTRL p) e := cmdSubmit_refused h hc

/-- A write without START loses no bit to START_SRC. -/
theorem pgenCtrl_accepted_even (h : s.grants who (Pt.PGEN_CTRL p) = true) (hc : s.pgenCtrlCheck p v = none) (hv : v % 2 = 0) :
    pgenCtrl who p v t s = s.gcSubmit who (Pt.PGEN_CTRL p) v { port := p, op := .pgen v, since := t } := by
  rw [pgenCtrl_accepted h hc, hv, Nat.sub_zero, ite_self]

theorem pgenCtrl_start_accepted (h : s.grants who (Pt.PGEN_CTRL p) = true) (hsrc : s.startSrc p = 0)
    (hr : s.startReason p s.now = none) :
    pgenCtrl who p 1 t s = s.gcSubmit who (Pt.PGEN_CTRL p) 1 { port := p, op := .pgen 1, since := t } := by
  rw [pgenCtrl_accepted h (by rw [pgenCtrlCheck_start, if_pos hsrc, hr, Option.map_none]), if_pos hsrc]

theorem pgenCtrl_start_refused (h : s.grants who (Pt.PGEN_CTRL p) = true) (hsrc : s.startSrc p = 0)
    (hr : s.startReason p s.now = some r) :
    pgenCtrl who p 1 t s = s.refuse who (Pt.PGEN_CTRL p) (Abort.deviceState r) :=
  pgenCtrl_refused h (by rw [pgenCtrlCheck_start, if_pos hsrc, hr, Option.map_some])

theorem pgenCtrl_start_ignored (h : s.grants who (Pt.PGEN_CTRL p) = true) (hsrc : s.startSrc p ≠ 0) :
    pgenCtrl who p 1 t s = s.gcSubmit who (Pt.PGEN_CTRL p) 1 { port := p, op := .pgen 0, since := t } := by
  rw [pgenCtrl_accepted h (by rw [pgenCtrlCheck_start, if_neg hsrc]), if_neg hsrc]

theorem pgenCtrl_rearm_accepted (h : s.grants who (Pt.PGEN_CTRL p) = true)
    (hr : s.tripped p = true → s.rearmReason p s.now = none) :
    pgenCtrl who p 4 t s = s.gcSubmit who (Pt.PGEN_CTRL p) 4 { port := p, op := .pgen 4, since := t } := by
  refine pgenCtrl_accepted_even h ?_ rfl
  rw [pgenCtrlCheck_rearm]
  split
  next htrip => rw [hr htrip, Option.map_none]
  next => rfl

theorem pgenCtrl_rearm_refused (h : s.grants who (Pt.PGEN_CTRL p) = true) (htrip : s.tripped p = true)
    (hr : s.rearmReason p s.now = some r) :
    pgenCtrl who p 4 t s = s.refuse who (Pt.PGEN_CTRL p) (Abort.deviceState r) :=
  pgenCtrl_refused h (by rw [pgenCtrlCheck_rearm, if_pos htrip, hr, Option.map_some])

/-! ### The edges of a train (R164, R166) -/

section Edges

variable {tr : Train}

theorem riseAt_of_due (h : s.riseDue p t = some (tr, e)) : s.riseAt p t = s.pulseRise p tr e := by
  simp only [riseAt, h]

theorem fallAt_of_due (h : s.fallDue p t = some (tr, e)) : s.fallAt p t = s.pulseFall p tr e := by
  simp only [fallAt, h]

end Edges

theorem gateEdge_of_due {b : Bool} {l : List (Tick × Bool)} (h : (s.px p).pgen.gateQ = (e, b) :: l) (hdue : e ≤ t) :
    s.gateEdge p t = (s.modPgen p fun x => { x with gateLvl := b, gateQ := l }).syncPort p := by
  simp only [gateEdge, h, if_pos hdue]

end Sys2Proof.Machine.State

namespace Sys2Proof

open Machine State

/-- Settles O33: each request by its condition and the reason it fails with, and each edge where it is due. -/
theorem pgenRequestsComplete : Obligations.PgenRequestsComplete := by
  refine ⟨?requests, ?edges⟩
  case requests =>
    intro s t who p a key at_ hg
    refine ⟨?start, ?startRefused, ?startIgnored, ?stop, ?rearm, ?rearmRefused, ?rearmIdle, ?trip⟩
    case start => exact fun hsrc hr => run_eq_of_effect (pgenCtrl_start_accepted hg hsrc hr)
    case startRefused => exact fun r hsrc hr => run_eq_of_effect (pgenCtrl_start_refused hg hsrc hr)
    case startIgnored => exact fun hsrc => run_eq_of_effect (pgenCtrl_start_ignored hg hsrc)
    case stop => exact run_eq_of_effect (pgenCtrl_accepted_even hg pgenCtrlCheck_stop rfl)
    case rearm => exact fun _ hr => run_eq_of_effect (pgenCtrl_rearm_accepted hg fun _ => hr)
    case rearmRefused => exact fun r htrip hr => run_eq_of_effect (pgenCtrl_rearm_refused hg htrip hr)
    case rearmIdle =>
      exact fun hclear => run_eq_of_effect (pgenCtrl_rearm_accepted hg fun htrip => absurd htrip (Bool.eq_false_iff.1 hclear))
    case trip => exact run_eq_of_effect (pgenCtrl_accepted_even hg pgenCtrlCheck_trip rfl)
  case edges =>
    intro s t p a
    refine ⟨?rise, ?fall, ?gate⟩
    case rise => exact fun tr e h => run_eq_of_effect (eff := fun n x => x.riseAt p n) (riseAt_of_due h)
    case fall => exact fun tr e h => run_eq_of_effect (eff := fun n x => x.fallAt p n) (fallAt_of_due h)
    case gate => exact fun e b l h hdue => run_eq_of_effect (eff := fun n x => x.gateEdge p n) (gateEdge_of_due h hdue)

end Sys2Proof
end

section
/-!
The sequencer's requests and its own events: contexts, sweep lists and the scanner bus (R180-R182, R186-R200): O35, O36.
-/

namespace Sys2Proof.Machine.State

variable {s : State} {who c p l v e : Nat} {t : Tick}

/-! ### RUN_STATE (R180, R181, R200) -/

theorem ownerAbort_of_grants {key : Nat} (h : s.grants who key = true) : s.ownerAbort who key = none := by
  simp only [grants, Bool.and_eq_true, Option.isNone_iff_eq_none] at h
  obtain ⟨⟨⟨⟨-, hown⟩, -⟩, -⟩, -⟩ := h
  exact hown

/-- To the context's owner it makes no difference that others may ABORT too. -/
theorem runOwner_of_grants (h : s.grants who (Cx.RUN_STATE c) = true) : s.runOwner who c v = s.ownerAbort who (Cx.RUN_STATE c) := by
  unfold runOwner
  split
  · exact (ownerAbort_of_grants h).symm
  · rfl

/-- A write of RUN_STATE by the context's owner passes the checks of R345 where its own conditions hold. -/
theorem writeAbort_runState (h : s.grants who (Cx.RUN_STATE c) = true) (hc : s.runStateCheck who c v = none) :
    s.writeAbort who (Cx.RUN_STATE c) (s.runOwner who c v) (s.runStateCheck who c v) = none := by
  rw [runOwner_of_grants h, hc]
  exact (writeAbort_of_grants h).2

theorem runStateWrite_refused (h : s.grants who (Cx.RUN_STATE c) = true) (hc : s.runStateCheck who c v = some e) :
    runStateWrite who c v t s = s.refuse who (Cx.RUN_STATE c) e := by
  have habort : s.writeAbort who (Cx.RUN_STATE c) (s.runOwner who c v) (s.runStateCheck who c v) = some e := by
    rw [runOwner_of_grants h, hc]
    exact writeAbort_of_check h
  rw [runStateWrite]
  exact cmdRun_refused (writeAbort_of_grants h).1 habort

/-- START and STOP take effect and are answered at once. -/
theorem runStateWrite_completes (h : s.grants who (Cx.RUN_STATE c) = true) (hc : s.runStateCheck who c v = none) (hv : v ≠ 3) :
    runStateWrite who c v t s = s.completes who (Cx.RUN_STATE c) v fun x =>
      if v = 1 then (x.enqueue c t).selectAt (s.ctxPort c) t
      else if x.rs c = 1 then x.leaveQueue (s.ctxPort c) c 4
      else x.set (Cx.RUN_STATE c) 6 := by
  rw [runStateWrite]
  exact (cmdRun_done (writeAbort_of_grants h).1 (writeAbort_runState h hc)).trans (if_neg hv)

theorem runStateWrite_start (h : s.grants who (Cx.RUN_STATE c) = true) (hc : s.startCheck c who = none) :
    runStateWrite who c 1 t s =
      s.completes who (Cx.RUN_STATE c) 1 fun x => (x.enqueue c t).selectAt (s.ctxPort c) t :=
  runStateWrite_completes h (v := 1) hc (by decide)

theorem rs_jConfig {key : Nat} : (s.jConfig key who v).rs c = s.rs c :=
  rN_jConfig (by unfold Cx.RUN_STATE Rc.GAP_COUNT; omega) (by unfold Cx.RUN_STATE Rc.J_STATUS; omega)

/-- STOP needs a context that is queued or runs, and no ABORT that waits. -/
theorem runStateCheck_stop (hrs : s.rs c = 1 ∨ s.rs c = 2) (hw : s.abortWaits c = false) : s.runStateCheck who c 2 = none :=
  if_pos ⟨hrs, hw⟩

theorem runStateWrite_stop_queued (h : s.grants who (Cx.RUN_STATE c) = true) (hrs : s.rs c = 1) (hw : s.abortWaits c = false) :
    runStateWrite who c 2 t s = s.completes who (Cx.RUN_STATE c) 2 fun x => x.leaveQueue (s.ctxPort c) c 4 := by
  rw [runStateWrite_completes h (runStateCheck_stop (.inl hrs) hw) (by decide)]
  exact completes_congr (if_pos (rs_jConfig.trans hrs))

theorem runStateWrite_stop_running (h : s.grants who (Cx.RUN_STATE c) = true) (hrs : s.rs c = 2) (hw : s.abortWaits c = false) :
    runStateWrite who c 2 t s = s.completes who (Cx.RUN_STATE c) 2 fun x => x.set (Cx.RUN_STATE c) 6 := by
  rw [runStateWrite_completes h (runStateCheck_stop (.inr hrs) hw) (by decide)]
  have hrun : (s.jConfig (Cx.RUN_STATE c) who 2).rs c ≠ 1 := by simp [rs_jConfig, hrs]
  exact completes_congr (if_neg hrun)

/-- ABORT needs a context that is queued, runs or stops. -/
theorem runStateCheck_abort : s.runStateCheck who c 3 = if s.rs c ∈ [1, 2, 6] then none else some 0x05020006 := by
  simp [runStateCheck, Abort.deviceState]

theorem runStateWrite_abort (h : s.grants who (Cx.RUN_STATE c) = true) (hrs : s.rs c ∈ [1, 2, 6]) :
    runStateWrite who c 3 t s =
      s.gcSubmit who (Cx.RUN_STATE c) 3 { port := s.ctxPort c, op := .abortCtx c, since := t } := by
  rw [runStateWrite]
  exact cmdRun_done (writeAbort_of_grants h).1 (writeAbort_runState h (runStateCheck_abort.trans (if_pos hrs)))

theorem runStateWrite_abort_refused (h : s.grants who (Cx.RUN_STATE c) = true) (hrs : s.rs c ∉ [1, 2, 6]) :
    runStateWrite who c 3 t s = s.refuse who (Cx.RUN_STATE c) 0x05020006 :=
  runStateWrite_refused h (runStateCheck_abort.trans (if_neg hrs))

/-! ### SEQ_HOLD (R198, log entry 138) -/

theorem seqHoldWrite_sends (h : s.grants who (Pt.SEQ_HOLD p) = true) (hv : v ≤ 1) :
    seqHoldWrite who p v t s =
      s.gcSend who (Pt.SEQ_HOLD p) v { port := p, op := .setEntry (Pt.SEQ_HOLD p) 0 v, since := t } (s.ticking p) t :=
  cmdSubmit_done h (if_neg (Nat.not_lt.2 hv))

theorem seqHoldWrite_queued (h : s.grants who (Pt.SEQ_HOLD p) = true) (hv : v ≤ 1) (hw : s.ticking p = true ∨ s.queueFree p = false) :
    seqHoldWrite who p v t s =
      s.gcSubmit who (Pt.SEQ_HOLD p) v { port := p, op := .setEntry (Pt.SEQ_HOLD p) 0 v, since := t } := by
  rw [seqHoldWrite_sends h hv, gcSend_queued hw]

theorem seqHoldWrite_now (h : s.grants who (Pt.SEQ_HOLD p) = true) (hv : v ≤ 1) (hoff : s.ticking p = false) (hq : s.queueFree p = true) :
    seqHoldWrite who p v t s =
      (s.set (Pt.SEQ_HOLD p) v).completes who (Pt.SEQ_HOLD p) v fun x => x.applyEntry p (Pt.SEQ_HOLD p) t := by
  rw [seqHoldWrite_sends h hv, hoff, gcSend_entry_now hq (by simp)]

theorem seqHoldWrite_refused (h : s.grants who (Pt.SEQ_HOLD p) = true) (hv : 1 < v) :
    seqHoldWrite who p v t s = s.refuse who (Pt.SEQ_HOLD p) 0x060100E4 :=
  cmdSubmit_refused h (if_pos hv)

/-! ### COMMIT (R182) -/

theorem commitWrite_valid (h : s.grants who (Ls.COMMIT l) = true) (hc : s.commitCheck l 1 = none) :
    commitWrite who l 1 s = s.completes who (Ls.COMMIT l) 1 fun x => x.commitDo l := cmdWrite_done h hc

theorem commitWrite_refused (h : s.grants who (Ls.COMMIT l) = true) (hc : s.commitCheck l 1 = some e) :
    commitWrite who l 1 s = s.refuse who (Ls.COMMIT l) e := cmdWrite_refused h hc

/-! ### The selection (R188, R198, log entry 107) -/

/-- A port that runs a context, or is held, selects nothing. -/
theorem select_of_busy (h : (s.px p).seq.run.isSome = true ∨ s.live p (Pt.SEQ_HOLD p) = 1) : s.select p t = s := if_pos (by simpa using h)

/-- The point at which a context's pass begins: its start index in the first pass over a list, else 0. -/
def passStart (s : State) (c : Nat) : Nat := if s.rN (Cx.PASS_COUNT c) = 0 ∧ s.ctxList c < 1024 then s.fld (Cx.SWEEP c) 0 16 else 0

/-- A context has left the port's queue to run. -/
def dequeued (s : State) (p c : Nat) : State :=
  s.modSeq p fun y => { y with queue := y.queue.filter fun f => decide (f.ctx ≠ c), backDue := false }

theorem select_of_best {q : QEntry} (hrun : (s.px p).seq.run = none) (hhold : s.live p (Pt.SEQ_HOLD p) ≠ 1)
    (hbest : s.bestOf ((s.px p).seq.queue.filter fun q => decide (q.release ≤ t)) = some q) :
    s.select p t =
      (((s.dequeued p q.ctx).set (Cx.RUN_STATE q.ctx) 2).pointBegin p q.ctx (s.passStart q.ctx) t t true).syncQueue p := by
  have hfree : ¬(((s.px p).seq.run.isSome || decide (s.live p (Pt.SEQ_HOLD p) = 1)) = true) := by simp [hrun, hhold]
  simp only [select, if_neg hfree, hbest]
  rfl

/-! ### The running point (R186, R193) -/

section RunningPoint

variable {q : Point} {d : Tick}

theorem instantDue_of_due (h : s.runOf p = some q) (hat : s.instantAt p = some d) (hd : d ≤ t) :
    s.instantDue p t = (s.pointInstant p q d).syncPort p := by
  simp only [instantDue, h, hat, if_pos hd]

theorem doneDue_of_due (h : s.runOf p = some q) (hat : s.doneAt p = some d) (hd : d ≤ t) :
    s.doneDue p t = ((s.pointDone p q d).selectAt p d).syncPort p := by
  simp only [doneDue, h, hat, if_pos hd]

theorem stallAll_of_boundary (h : t % 640000 = 0) : s.stallAll t = s.forAll 128 (stallPort t) := if_pos h

theorem stallAll_between (h : t % 640000 ≠ 0) : s.stallAll t = s := if_neg h

theorem scanEnds_of_due (h : s.runOf p = some q) (hphase : q.phase = Ph.scan) (hok : q.scanOk = true) (hdue : q.scanDue = some d)
    (hd : d ≤ t) :
    s.scanEnds p t = (s.modPoint p fun q => { q with loadWait := true, from_ := t }).setPhase p Ph.load := by
  simp only [scanEnds, h, hphase, decide_true, hok, hdue, if_pos hd]

end RunningPoint

/-! ### The scanner bus (R194-R196) -/

section ScannerBus

variable {f : SFrame} {r : List SFrame} {d : Tick}

/-- The frame `f` has gone out at `t` with the next number of its select, and `r` waits behind it. A QUERY stands on the bus with the number of the
ROUTE frame that it verifies (log entry 44). -/
def frameSent (s : State) (f : SFrame) (r : List SFrame) (t : Tick) : State :=
  let n := Tab.get (fun _ => 0) s.scan.seqs f.sel
  ({ s with scan := { s.scan with
      queue := r, busy := some (if f.op = 0xC2 then f else { f with seqn := n }, t + s.frameTicks),
      seqs := Tab.set (fun _ => 0) s.scan.seqs f.sel ((n + 1) % 256) } } : State).out (.scanFrame f.sel (frameWord { f with seqn := n }) 64)

theorem frameStart_of_free (hbusy : s.scan.busy = none) (hqueue : s.scan.queue = f :: r) (hfree : s.scan.freeAt ≤ t) :
    s.frameStart t = s.frameSent f r t := by
  simp only [frameStart, hbusy, hqueue, if_pos hfree]
  rfl

/-- The next frame of the select takes the next number. -/
theorem frameSent_seqs : Tab.get (fun _ => 0) (s.frameSent f r t).scan.seqs f.sel = (Tab.get (fun _ => 0) s.scan.seqs f.sel + 1) % 256 :=
  Tab.get_set_same _ _ _ _

theorem frameDue_of_due {miso : Nat} (h : s.scan.busy = some (f, d)) (hd : d ≤ t) : s.frameDue miso t = s.frameEnd f miso d := by
  simp only [frameDue, h, if_pos hd]

/-- No frame of the port waits to be sent again. -/
def retryTaken (s : State) (p : Nat) : State :=
  { s with scan := { s.scan with retries := Tab.set (fun _ => none) s.scan.retries p none } }

theorem retryDue_of_due (h : Tab.get (fun _ => none) s.scan.retries p = some (d, f)) (hd : d ≤ t) :
    s.retryDue p t =
      if (s.retryTaken p).askedBy f then (s.retryTaken p).requestFrame { f with op := 0xC1, req := d } else s.retryTaken p := by
  simp only [retryDue, h, if_pos hd]
  rfl

theorem retryDue_of_asked (h : Tab.get (fun _ => none) s.scan.retries p = some (d, f)) (hd : d ≤ t)
    (hask : (s.retryTaken p).askedBy f = true) : s.retryDue p t = (s.retryTaken p).requestFrame { f with op := 0xC1, req := d } := by
  rw [retryDue_of_due h hd, if_pos hask]

/-- The point that asked for the frame no longer waits for it. -/
theorem retryDue_of_not_asked (h : Tab.get (fun _ => none) s.scan.retries p = some (d, f)) (hd : d ≤ t)
    (hask : (s.retryTaken p).askedBy f = false) : s.retryDue p t = s.retryTaken p := by
  rw [retryDue_of_due h hd, if_neg (Bool.eq_false_iff.1 hask)]

end ScannerBus

end Sys2Proof.Machine.State

namespace Sys2Proof

open Machine State

/-- Settles O35: RUN_STATE by its value and the state of the context, SEQ_HOLD by whether the port ticks, COMMIT by its checks. -/
theorem sequencerRequestsComplete : Obligations.SequencerRequestsComplete := by
  intro s t who c p l v a key
  refine ⟨?start, ?startRefused, ?stopQueued, ?stopRunning, ?abort, ?abortRefused, ?holdQueued, ?holdNow, ?holdRefused, ?commit,
    ?commitRefused⟩
  case start => exact fun hg hc => run_eq_of_effect (runStateWrite_start hg hc)
  case startRefused => exact fun e hg hc => run_eq_of_effect (runStateWrite_refused hg hc)
  case stopQueued => exact fun hg hrs hw => run_eq_of_effect (runStateWrite_stop_queued hg hrs hw)
  case stopRunning => exact fun hg hrs hw => run_eq_of_effect (runStateWrite_stop_running hg hrs hw)
  case abort => exact fun hg hrs => run_eq_of_effect (runStateWrite_abort hg hrs)
  case abortRefused => exact fun hg hrs => run_eq_of_effect (runStateWrite_abort_refused hg hrs)
  case holdQueued => exact fun hg hv hw => run_eq_of_effect (seqHoldWrite_queued hg hv hw)
  case holdNow => exact fun hg hv hoff hq => run_eq_of_effect (seqHoldWrite_now hg hv hoff hq)
  case holdRefused => exact fun hg hv => run_eq_of_effect (seqHoldWrite_refused hg hv)
  case commit => exact fun hg hc => run_eq_of_effect (eff := fun _ x => commitWrite who l 1 x) (commitWrite_valid hg hc)
  case commitRefused => exact fun e hg hc => run_eq_of_effect (eff := fun _ x => commitWrite who l 1 x) (commitWrite_refused hg hc)

/-- Settles O36: the selection by what the port runs and holds, each event of the point and of the scanner bus where it is due. -/
theorem sequencerEventsComplete : Obligations.SequencerEventsComplete := by
  intro s t p miso a
  refine ⟨?queued, ?busy, ?best, ?instant, ?done, ?boundary, ?between, ?frameStart, ?frameEnd, ?retry, ?settled⟩
  case queued => exact run_eq_of_effect (eff := fun n x => x.selectAt p n) rfl
  case busy => exact fun x e h => select_of_busy h
  case best => exact fun x e q hrun hhold hbest => select_of_best hrun hhold hbest
  case instant => exact fun q e h hat hd => run_eq_of_effect (eff := fun n x => x.instantDue p n) (instantDue_of_due h hat hd)
  case done => exact fun q e h hat hd => run_eq_of_effect (eff := fun n x => x.doneDue p n) (doneDue_of_due h hat hd)
  case boundary => exact fun h => run_eq_of_effect (eff := fun n x => x.stallAll n) (stallAll_of_boundary h)
  case between => exact fun h => run_eq_of_effect (eff := fun n x => x.stallAll n) (stallAll_between h)
  case frameStart =>
    exact fun f r hbusy hqueue hfree =>
      ⟨a.frameSent f r a.now, run_eq_of_effect (eff := fun n x => x.frameStart n) (frameStart_of_free hbusy hqueue hfree), rfl, rfl, rfl,
        frameSent_seqs, rfl, rfl⟩
  case frameEnd => exact fun f e h hd => run_eq_of_effect (eff := fun n x => x.frameDue miso.toNat n) (frameDue_of_due h hd)
  case retry =>
    exact fun e f h hd =>
      ⟨fun hask => run_eq_of_effect (eff := fun n x => x.retryDue p n) (retryDue_of_asked h hd hask),
        fun hask => run_eq_of_effect (eff := fun n x => x.retryDue p n) (retryDue_of_not_asked h hd hask)⟩
  case settled =>
    exact fun q d h hphase hok hdue hd =>
      run_eq_of_effect (eff := fun n x => x.scanEnds p n) (scanEnds_of_due h hphase hok hdue hd)

end Sys2Proof
end

section
/-!
The time base: the time of a tick and its segments, the sources of time, the clocks and the synchronisation stream (R203-R214): O12,
O37, O38, O39.
-/

namespace Sys2Proof.Machine.State

variable {s b : State} {who v w : Nat} {t e : Tick}

/-! ### The time of a tick (R206, R208) -/

section Segments

variable {g h : Seg} {r : List Seg}

/-- From its T0 on the time of a segment is that of the formula, in 64 bits. -/
theorem segTime_of_le (ht : g.t0 ≤ t) : segTime g t = (g.n0 + ((t - g.t0) * g.rate + 2 ^ 31) / 2 ^ 32) % 2 ^ 64 := by
  have hcast : ((g.n0 : Int) + (((t : Int) - g.t0) * g.rate + 2 ^ 31) / 2 ^ 32) % 2 ^ 64 =
      (((g.n0 + ((t - g.t0) * g.rate + 2 ^ 31) / 2 ^ 32) % 2 ^ 64 : Nat) : Int) := by
    push_cast [Nat.cast_sub ht]
    rfl
  rw [segTime, hcast, Int.toNat_natCast]

theorem segOf_cons_of_le (ht : g.t0 ≤ t) : segOf (g :: h :: r) t = g := if_pos ht

theorem segOf_cons_of_lt (ht : t < g.t0) : segOf (g :: h :: r) t = segOf (h :: r) t := if_neg (Nat.not_le.2 ht)

end Segments

/-! ### The segment that is due (R206, R207, R209, R210, R213) -/

theorem segmentBoundary_of_boundary (h : t % 640000 = 0) : s.segmentBoundary t = s.segmentDue t := if_pos h

theorem segmentBoundary_between (h : t % 640000 ≠ 0) : s.segmentBoundary t = s := if_neg h

theorem segmentDue_of_nextSeg {l : Seg} (hf : s.follows = true) (hn : s.tb.nextSeg = some l) (hl : l.t0 ≤ t) :
    s.segmentDue t = (s.modTb fun x => { x with nextSeg := none }).pushSeg l := by
  simp only [segmentDue, if_pos hf, hn, if_pos hl]

/-- A follower begins no segment of its own (R213, log entry 112). -/
theorem segmentDue_follower_waits (hf : s.follows = true) (hn : ∀ l, s.tb.nextSeg = some l → t < l.t0) : s.segmentDue t = s := by
  rw [segmentDue, if_pos hf]
  cases hl : s.tb.nextSeg with
  | none => rfl
  | some l => exact if_neg (Nat.not_le.2 (hn l hl))

theorem taiDue_of_taiSet (hset : s.tb.taiSet = some (v, w)) (hp : s.srcPps = false) (hw : w < t) : s.taiDue t = some v := by
  simp only [taiDue, hset, if_pos (And.intro hp hw)]

theorem segmentDue_of_taiDue (hf : s.follows = false) (hv : s.taiDue t = some v) :
    s.segmentDue t =
      ((s.modTb fun x => { x with taiSet := none, theta := none, ppsFirst := true }).pushSeg
        { t0 := t, n0 := v, rate := s.segNow.rate }).stepped true t := by
  simp only [segmentDue, if_neg (Bool.eq_false_iff.1 hf), hv]

theorem segmentDue_of_theta {th : Theta} (hf : s.follows = false) (hv : s.taiDue t = none) (hth : s.tb.theta = some th) :
    s.segmentDue t = s.thetaSeg th t := by
  simp only [segmentDue, if_neg (Bool.eq_false_iff.1 hf), hv, hth]

/-- With no source selected the rate returns to the nominal one. -/
theorem segmentDue_returns (hf : s.follows = false) (hv : s.taiDue t = none) (hth : s.tb.theta = none) (hsrc : s.rN Tb.TIME_SRC = 0)
    (hr : s.segNow.rate ≠ nomRate) :
    s.segmentDue t = s.pushSeg { t0 := t, n0 := segTime s.segNow t, rate := nomRate } := by
  simp only [segmentDue, if_neg (Bool.eq_false_iff.1 hf), hv, hth, if_pos (And.intro hsrc hr)]

section Measurement

variable {th : Theta}

theorem thetaSeg_steps (h : th.force = true ∨ (s.rN Tb.STEP_NS : Int) ≤ absI th.ns) :
    s.thetaSeg th t =
      ((s.modTb fun x => { x with theta := none }).pushSeg
        { t0 := t, n0 := (((segTime s.segNow t : Int) + th.ns) % 2 ^ 64).toNat, rate := s.segNow.rate }).stepped th.force t :=
  if_pos (Bool.or_eq_true_iff.2 (h.imp_right decide_eq_true))

/-- A small offset is slewed by the servo (log entry 12), and the mapping stays continuous. -/
theorem thetaSeg_slews (hforce : th.force = false) (hsmall : absI th.ns < s.rN Tb.STEP_NS) :
    s.thetaSeg th t =
      { (s.modTb fun x => { x with theta := none }).pushSeg
          { t0 := t, n0 := segTime s.segNow t
            rate := s.rateLimit (Config.servoRate s.segNow.rate th.ns (s.rN Tb.TB_TAU) s.fresh) } with fresh := s.fresh + 1 } :=
  if_neg (by rw [hforce, Bool.false_or, decide_eq_true_eq]; exact not_le.2 hsmall)

end Measurement

/-! ### PPS (R209-R211) -/

/-- The distance of the nearest whole second from the time of a tick. -/
def ppsOffset (s : State) (t : Tick) : Int := (nearSecond (s.timeNs t) : Int) - s.timeNs t

@[simp] theorem srcPps_jEdge {src kind n : Nat} : (s.jEdge src kind n t).srcPps = s.srcPps := by
  simp only [srcPps, follows, jEdge, journal_tb, rN_journal s _ _ _ _ _ (j := Tb.TIME_SRC) (by decide) (by decide)]

/-- An edge that no source selects is journalled only. -/
theorem ppsEdge_of_not_selected (h : s.srcPps = false) : s.ppsEdge t = s.jEdge 0x500 11 0 t := by
  simp [ppsEdge, h]

section SelectedEdge

variable (hb : s.jEdge 0x500 11 0 t = b) (hs : b.srcPps = true)
include hb hs

theorem ppsEdge_of_taiSet (hset : b.tb.taiSet = some (v, w)) (hw : w < t) :
    s.ppsEdge t = (b.modTb fun x => { x with taiSet := none, ppsFirst := false }).measured 1 ((v : Int) - b.timeNs t) true true t := by
  simp [ppsEdge, hb, hs, hset, hw]

/-- With no TAI_SET waiting, an edge within the window measures; the window binds only a locked source. -/
theorem ppsEdge_in_window (hset : b.tb.taiSet = none) (hwin : absI (b.ppsOffset t) ≤ b.rN Tb.PPS_WINDOW * 1000) :
    s.ppsEdge t = (b.modTb fun x => { x with ppsFirst := false }).measured 1 (b.ppsOffset t) false true t := by
  unfold ppsOffset at hwin ⊢
  simp [ppsEdge, hb, hs, hset, hwin]

theorem ppsEdge_outside_window (hset : b.tb.taiSet = none) (hfirst : b.tb.ppsFirst = false) (hlock : lockedAt b.tb.ppsTick t = true)
    (hwin : (b.rN Tb.PPS_WINDOW * 1000 : Int) < absI (b.ppsOffset t)) :
    s.ppsEdge t = (b.satInc Tb.PPS_REJECT 32 1).setBit Tb.TB_STATUS TbStatus.PPS_REJ true := by
  unfold ppsOffset at hwin
  simp [ppsEdge, hb, hs, hset, hfirst, hlock, not_le.2 hwin]

end SelectedEdge

theorem ppsRise_of_secondAt (h : s.secondAt t = true) (hlast : s.tb.ppsOutLast ≠ s.timeNs t / 1000000000) :
    s.ppsRise t =
      ((s.modTb fun x => { x with ppsOutHigh := some t, ppsOutLast := s.timeNs t / 1000000000 }).out (.pin "PPS_OUT" true)).produce 0x07 0 t
        0 :=
  if_pos (by simp [h, hlast])

theorem ppsFall_of_due (h : s.tb.ppsOutHigh = some e) (hd : e + 640 * s.rN Tb.PPS_OUT_WIDTH ≤ t) :
    s.ppsFall t = (s.modTb fun x => { x with ppsOutHigh := none }).out (.pin "PPS_OUT" false) := by
  simp only [ppsFall, h, if_pos hd]

/-! ### PTP (R209, R212) -/

section Ptp

variable {port via domain origin recv : Nat} {corr c : Int} {two : Bool}

theorem ptpIgnores_eq_true_iff :
    s.ptpIgnores port via domain = true ↔
      s.rN Tb.PTP_PORT ≠ port ∨ s.rN Tb.PTP_TRANSPORT ≠ via ∨ s.rN Tb.PTP_DOMAIN ≠ domain ∨ s.srcPtp = false := by
  simp only [ptpIgnores, Bool.or_eq_true, decide_eq_true_eq, Bool.not_eq_true', or_assoc, ne_comm (a := port), ne_comm (a := via),
    ne_comm (a := domain)]

theorem ptpIgnores_eq_false (hp : s.rN Tb.PTP_PORT = port) (hv : s.rN Tb.PTP_TRANSPORT = via) (hd : s.rN Tb.PTP_DOMAIN = domain)
    (hs : s.srcPtp = true) : s.ptpIgnores port via domain = false :=
  Bool.eq_false_iff.2 fun h => by simp [ptpIgnores_eq_true_iff, hp, hv, hd, hs] at h

theorem ptpSyncRx_ignored (h : s.ptpIgnores port via domain = true) : s.ptpSyncRx port via two domain origin corr t = s := if_pos h

theorem ptpSyncRx_of_twoStep (h : s.ptpIgnores port via domain = false) :
    s.ptpSyncRx port via true domain origin corr t = s.satInc Tb.PTP_TWOSTEP_DROP 32 1 :=
  if_neg (Bool.eq_false_iff.1 h)

theorem ptpSyncRx_of_oneStep (h : s.ptpIgnores port via domain = false) :
    s.ptpSyncRx port via false domain origin corr t =
      (s.modTb fun x => { x with ptpSync := some (t, origin, corr) }).out (.ptpDelayReq port via) :=
  if_neg (Bool.eq_false_iff.1 h)

theorem ptpDelayRx_ignored (h : s.ptpIgnores port via domain = true) : s.ptpDelayRx port via domain recv corr = s := by
  unfold ptpDelayRx
  split
  · exact if_pos h
  · rfl

theorem ptpDelayRx_of_ptpSync (h : s.ptpIgnores port via domain = false) (hsync : s.tb.ptpSync = some (e, origin, c)) :
    s.ptpDelayRx port via domain recv corr = (s.modTb fun x => { x with ptpSync := none }).ptpMeasured e origin c recv corr := by
  simp only [ptpDelayRx, hsync, if_neg (Bool.eq_false_iff.1 h)]

end Ptp

/-- Where nothing was measured, the two seconds count from the start of the counter (log entry 42). -/
theorem disciplineLost_of_due (hs : s.srcPps = true ∨ s.srcPtp = true) (hd : s.tb.lastMeas.getD 0 + 2 * Sys2Proof.sec ≤ t) :
    s.disciplineLost t = (s.modTb fun x => { x with rateHold := true }).syncTb :=
  if_pos (by simpa [hd] using hs)

/-! ### TAI_SET and the clocks (R203, R204, R210) -/

theorem taiSetWrite_done (h : s.grants who Tb.TAI_SET = true) :
    taiSetWrite who v t s = s.completes who Tb.TAI_SET v fun x => x.modTb fun y => { y with taiSet := some (v, t) } :=
  cmdWrite_done h rfl

theorem pllLost_switches (hact : s.rN Tb.PLL_ACTIVE = 0) (hspare : s.tb.pll1 = true) :
    s.pllLost t =
      ((((s.set Tb.PLL_ACTIVE 1).setBit Tb.TB_STATUS TbStatus.PLL_SWITCHED true).modTb fun x => { x with pll0 := false }).garnet 8 Gk.pll
        1 0 t).syncTb :=
  if_pos ⟨hact, hspare⟩

/-- Without a spare PLL the device resets with cause CLK_LOSS. -/
theorem pllLost_resets (h : s.rN Tb.PLL_ACTIVE = 1 ∨ s.tb.pll1 = false) : s.pllLost t = s.later t (.reset 4) :=
  if_neg (by rcases h with h | h <;> simp [h])

/-! ### The stream's frames (R213, R214) -/

theorem syncSend_of_leader (hrole : s.tb.role = 1) (ht : t % 2 ^ 20 = 0) :
    s.syncSend t =
      s.out (.syncFrame [t, s.segNow.t0, s.segNow.n0, s.segNow.rate, (s.bit Tb.TB_STATUS TbStatus.TAI_VALID).toNat]) :=
  if_pos ⟨hrole, ht⟩

section Follower

variable {T : Tick} {g : Seg} {tai crc : Bool}

theorem syncReceive_taken (hf : s.follows = true) (hc : crc = true) : s.syncReceive T g tai crc t = s.syncFrame T g tai t :=
  if_pos (by simp [hf, hc])

theorem syncReceive_ignored (h : s.follows = false ∨ crc = false) : s.syncReceive T g tai crc t = s :=
  if_neg (by simpa [or_iff_not_imp_left] using h)

theorem syncGone_of_acquired (hf : s.follows = true) (hacq : s.tb.acquired = true) :
    s.syncGone =
      ((s.setBit Tb.TB_STATUS TbStatus.SYNC_LOCK false).modTb fun x => { x with syncHold := true, announced := none }).syncTb :=
  (if_pos hf).trans (if_pos hacq)

theorem syncFound_of_unlocked (hf : s.follows = true) (hacq : s.tb.acquired = true)
    (hlock : s.bit Tb.TB_STATUS TbStatus.SYNC_LOCK = false) : s.syncFound T t = s.syncMarker T t :=
  if_pos (by simp [hf, hacq, hlock])

/-! ### A marker of the stream (R214) -/

@[simp] theorem tb_modTb (f : TbX → TbX) : (s.modTb f).tb = f s.tb := rfl

@[simp] theorem tb_syncTb : s.syncTb.tb = s.tb :=
  ((syncTb_leaves (F := ⟨0x10000, [0x2100], []⟩) .refl (Foot.le_refl _)).tb).resolve_left (by simp [Foot.has])

/-- Whether a port is enabled is told by the ports' states. -/
theorem anyEnabled_congr (h : ∀ p, b.portState p = s.portState p) : b.anyEnabled = s.anyEnabled := by
  simp only [anyEnabled, enabled, h]

@[simp] theorem anyEnabled_modTb (f : TbX → TbX) : (s.modTb f).anyEnabled = s.anyEnabled := rfl

theorem portState_ne_tbStatus (p : Nat) : Pt.PORT_STATE p ≠ Tb.TB_STATUS := by
  unfold Pt.PORT_STATE Tb.TB_STATUS
  omega

@[simp] theorem anyEnabled_setBit_tbStatus (i : Nat) (f : Bool) : (s.setBit Tb.TB_STATUS i f).anyEnabled = s.anyEnabled :=
  anyEnabled_congr fun p => rN_setBit_ne s i f (portState_ne_tbStatus p)

@[simp] theorem anyEnabled_syncTb : s.syncTb.anyEnabled = s.anyEnabled :=
  anyEnabled_congr fun p => rN_setBits_ne _ (portState_ne_tbStatus p) s

/-- The stream is there again: its marker `T` came at `t`. -/
def markerSeen (s : State) (T t : Tick) : State :=
  (s.modTb fun x => { x with announced := some (T, t), syncHold := false }).syncTb

theorem syncMarker_agrees (h : (s.markerSeen T t).agrees T t = true) : s.syncMarker T t = (s.markerSeen T t).syncLocked := if_pos h

/-- A marker that disagrees after the first acquisition is reported with SLIP, and is loaded while no port is enabled. -/
theorem syncMarker_slips (h : (s.markerSeen T t).agrees T t = false) (hacq : s.tb.acquired = true) :
    s.syncMarker T t =
      let u := (s.markerSeen T t).setBit Tb.TB_STATUS TbStatus.SLIP true
      if s.anyEnabled then u else u.syncLoad := by
  unfold markerSeen at h ⊢
  simp [syncMarker, h, hacq]

end Follower

/-! ### RESYNC (R213) -/

theorem resyncWrite_loads (h : s.grants who Tb.RESYNC = true) (hq : s.allQuiet = true) :
    resyncWrite who 1 s = s.completes who Tb.RESYNC 1 fun x => x.syncLoad :=
  cmdWrite_done h (if_pos hq)

theorem resyncWrite_refused (h : s.grants who Tb.RESYNC = true) (hq : s.allQuiet = false) (hen : s.anyEnabled = true) :
    resyncWrite who v s = s.refuse who Tb.RESYNC 0x05020008 :=
  cmdWrite_refused h (by simp [hq, hen, Abort.deviceState])

end Sys2Proof.Machine.State

namespace Sys2Proof

open Machine State

/-- Settles O12: the formula below 2^64, the segment by its T0, and the boundary that a segment waits for. -/
theorem timeOfATick : Obligations.TimeOfATick := by
  refine ⟨?formula, rfl, fun g h r t => ⟨segOf_cons_of_le, segOf_cons_of_lt⟩, fun s t => rfl, ?between⟩
  case formula =>
    intro g t ht hlt
    rw [segTime_of_le ht]
    exact Nat.mod_eq_of_lt hlt
  case between =>
    exact fun s t h => run_eq_of_effect (eff := fun n x => x.segmentBoundary n) (segmentBoundary_between h)

/-- A command at a millisecond boundary begins the segment that is due. -/
theorem exec_segmentBegin_of_due {s u : State} {t : Tick} (h : (s.advance t).now % 640000 = 0)
    (hu : (s.advance t).segmentDue (s.advance t).now = u) : exec (.segmentBegin t) s = .next u.settle :=
  run_eq_of_effect (eff := fun n x => x.segmentBoundary n) ((segmentBoundary_of_boundary h).trans hu)

/-- Settles O37: the follower by the leader's segment, every other device by what is due first. -/
theorem segmentsComplete : Obligations.SegmentsComplete := by
  intro s t a g n
  refine ⟨?between, ?tai, ?leader, ?waits, ?step, ?slew, ?nominal⟩
  case between => exact fun h => run_eq_of_effect (eff := fun n x => x.segmentBoundary n) (segmentBoundary_between h)
  case tai => exact fun v w h hf hset hp hw => exec_segmentBegin_of_due h (segmentDue_of_taiDue hf (taiDue_of_taiSet hset hp hw))
  case leader => exact fun l h hf hn hl => exec_segmentBegin_of_due h (segmentDue_of_nextSeg hf hn hl)
  case waits =>
    intro hf hn
    by_cases h : a.now % 640000 = 0
    · exact exec_segmentBegin_of_due h (segmentDue_follower_waits hf hn)
    · exact run_eq_of_effect (eff := fun n x => x.segmentBoundary n) (segmentBoundary_between h)
  case step =>
    exact fun th h hf hv hth hbig => exec_segmentBegin_of_due h ((segmentDue_of_theta hf hv hth).trans (thetaSeg_steps hbig))
  case slew =>
    exact fun th h hf hv hth hforce hsmall =>
      exec_segmentBegin_of_due h ((segmentDue_of_theta hf hv hth).trans (thetaSeg_slews hforce hsmall))
  case nominal => exact fun h hf hv hth hsrc hr => exec_segmentBegin_of_due h (segmentDue_returns hf hv hth hsrc hr)

/-- Settles O38: a PPS edge by what waits for it and by the window, a PTP message by whether it is the client's. -/
theorem timeSourcesComplete : Obligations.TimeSourcesComplete := by
  intro s t port via two domain origin recv corr a off
  refine ⟨?unselected, ?window, ?tai, ?rejected, ?rise, ?fall, ?ignored, ?twoStep, ?oneStep, ?delayResp, ?timeout⟩
  case unselected => exact fun h => run_eq_of_effect (eff := fun n x => x.ppsEdge n) (ppsEdge_of_not_selected h)
  case window =>
    exact fun hs hset _ _ hwin => run_eq_of_effect (eff := fun n x => x.ppsEdge n) (ppsEdge_in_window rfl hs hset hwin)
  case tai => exact fun v w hs hset hw => run_eq_of_effect (eff := fun n x => x.ppsEdge n) (ppsEdge_of_taiSet rfl hs hset hw)
  case rejected =>
    exact fun hs hset hfirst hlock hwin =>
      run_eq_of_effect (eff := fun n x => x.ppsEdge n) (ppsEdge_outside_window rfl hs hset hfirst hlock hwin)
  case rise => exact fun h hlast => run_eq_of_effect (eff := fun n x => x.ppsRise n) (ppsRise_of_secondAt h hlast)
  case fall => exact fun r h hd => run_eq_of_effect (eff := fun n x => x.ppsFall n) (ppsFall_of_due h hd)
  case ignored =>
    intro h
    have hign : a.ptpIgnores port via domain = true := ptpIgnores_eq_true_iff.2 h
    exact ⟨run_eq_of_effect (eff := fun n x => x.ptpSyncRx port via two domain origin corr n) (ptpSyncRx_ignored hign),
      run_eq_of_effect (eff := fun _ x => x.ptpDelayRx port via domain recv corr) (ptpDelayRx_ignored hign)⟩
  case twoStep =>
    rintro hp hv hd hs rfl
    exact run_eq_of_effect (eff := fun n x => x.ptpSyncRx port via true domain origin corr n)
      (ptpSyncRx_of_twoStep (ptpIgnores_eq_false hp hv hd hs))
  case oneStep =>
    rintro hp hv hd hs rfl
    exact run_eq_of_effect (eff := fun n x => x.ptpSyncRx port via false domain origin corr n)
      (ptpSyncRx_of_oneStep (ptpIgnores_eq_false hp hv hd hs))
  case delayResp =>
    exact fun rx o c hsync hp hv hd hs => run_eq_of_effect (eff := fun _ x => x.ptpDelayRx port via domain recv corr)
      (ptpDelayRx_of_ptpSync (ptpIgnores_eq_false hp hv hd hs) hsync)
  case timeout => exact fun hs hd => run_eq_of_effect (eff := fun n x => x.disciplineLost n) (disciplineLost_of_due hs hd)

/-- Settles O39: the clocks by whether a spare is left, the stream by the device's role, and a marker by whether
the counter agrees with it. -/
theorem clocksAndSyncComplete : Obligations.ClocksAndSyncComplete := by
  intro s t who v T t0 n0 rate tai crc a
  refine ⟨?taiSet, ?switch, ?clkLoss, rfl, rfl, ?sent, ?taken, ?ignored, ?lost, ?found, ?load, ?refused⟩
  case taiSet => exact fun hg => run_eq_of_effect (taiSetWrite_done hg)
  case switch => exact fun hact hspare => run_eq_of_effect (eff := fun n x => x.pllLost n) (pllLost_switches hact hspare)
  case clkLoss => exact fun h => run_eq_of_effect (eff := fun n x => x.pllLost n) (pllLost_resets h)
  case sent => exact fun hrole ht => run_eq_of_effect (eff := fun n x => x.syncSend n) (syncSend_of_leader hrole ht)
  case taken => exact fun hf hc => run_eq_of_effect (eff := fun n x => x.syncReceive T _ tai crc n) (syncReceive_taken hf hc)
  case ignored => exact fun h => run_eq_of_effect (eff := fun n x => x.syncReceive T _ tai crc n) (syncReceive_ignored h)
  case lost => exact fun hf hacq => run_eq_of_effect (eff := fun _ x => x.syncGone) (syncGone_of_acquired hf hacq)
  case found =>
    intro b hf hacq hlock
    have hmarker := syncFound_of_unlocked (T := T) (t := a.now) hf hacq hlock
    refine ⟨fun hag => ?_, fun hag hen => ?_, fun hag hen => ?_⟩ <;>
      refine run_eq_of_effect (eff := fun n x => x.syncFound T n) (hmarker.trans ?_)
    · exact syncMarker_agrees hag
    · exact (syncMarker_slips hag hacq).trans (if_pos hen)
    · exact (syncMarker_slips hag hacq).trans (if_neg (Bool.eq_false_iff.1 hen))
  case load => exact fun hg hq => run_eq_of_effect (eff := fun _ x => resyncWrite who 1 x) (resyncWrite_loads hg hq)
  case refused => exact fun hg hq hen => run_eq_of_effect (eff := fun _ x => resyncWrite who v x) (resyncWrite_refused hg hq hen)

end Sys2Proof
end

section
/-!
Carillon: the events of the channels, their sources, and the deliveries to the units of the event fabric (R218-R230, R233): O16, O40, O41.
-/

namespace Sys2Proof.Machine.State

variable {s : State} {who e k n gen : Nat} {t : Tick}

/-! ### An event of a channel (R218, R222, R225) -/

/-- Two entries of one record differ by their subindex. -/
theorem key_ne {r i j : Nat} (h : i ≠ j) : r * 256 + i ≠ r * 256 + j := fun hk => h (Nat.add_left_cancel hk)

/-- What the notice of an event and its journal record may change (R369, R391, R404). -/
def noticeFoot : Foot := ⟨0x10000, 0x8000 :: Foot.sessions, [.net, .pcie, .rcd]⟩

section Notice

variable {b u : State} (h : noticeFoot.leaves b u)
include h

theorem reg_channel_of_notice {i : Nat} (he : e < 1024) (hi : i < 256) : u.reg ((0x5000 + e) * 256 + i) = b.reg ((0x5000 + e) * 256 + i) :=
  h.regs _ (by simp only [Foot.covers, noticeFoot, Foot.sessions, List.mem_cons, List.not_mem_nil, or_false]; omega)

theorem rN_channel_of_notice {i : Nat} (he : e < 1024) (hi : i < 256) : u.rN ((0x5000 + e) * 256 + i) = b.rN ((0x5000 + e) * 256 + i) := by
  simp only [rN, reg_channel_of_notice h he hi]

theorem bit_channel_of_notice {i j : Nat} (he : e < 1024) (hi : i < 256) :
    u.bit ((0x5000 + e) * 256 + i) j = b.bit ((0x5000 + e) * 256 + i) j := by
  simp only [bit, reg_channel_of_notice h he hi]

theorem fab_of_notice : u.fab = b.fab := h.fab.resolve_left (by simp [Foot.has, noticeFoot])

end Notice

/-- The channel has its event of the tick. -/
def eventSeen (s : State) (t : Tick) (e : Nat) : State :=
  s.modFab fun f => { f with eventAt := Tab.set (fun _ => none) f.eventAt e (some t) }

/-- A second event of a tick is none (log entry 109). -/
theorem channelEvent_again (h : Tab.get (fun _ => none) s.fab.eventAt e = some t) : channelEvent t gen e s = s := if_pos h

theorem channelEvent_first (h : Tab.get (fun _ => none) s.fab.eventAt e ≠ some t) :
    channelEvent t gen e s = channelTake t gen e (s.eventSeen t e) := if_neg h

/-- An event at GEN_LIMIT is counted as a loop. -/
def eventDropped (s : State) (e : Nat) : State := (s.setBit (Ch.CH_STATUS e) ChStatus.LOOP true).satInc (Ch.LOOP_COUNT e) 32 1

/-- An event below GEN_LIMIT is counted and timed. -/
def eventCounted (s : State) (t : Tick) (g e : Nat) : State :=
  let b := (s.setBit (Ch.CH_STATUS e) ChStatus.FIRED true).wrapInc (Ch.FIRE_COUNT e) 32 1
  ((b.set (Ch.LAST_TICK e) t).set (Ch.LAST_TIME e) (b.timeNs t)).set (Ch.LAST_GEN e) g

/-- It is on its way, to arrive nine ticks later. -/
def eventSent (s : State) (t : Tick) (g e : Nat) : State :=
  s.modFab fun f => { f with flights := f.flights ++ [{ due := t + 9, chan := e, gen := g, done := [] }] }

@[simp] theorem rN_eventSeen (j : Nat) : (s.eventSeen t e).rN j = s.rN j := rfl

@[simp] theorem rN_eventSent (g j : Nat) : (s.eventSent t g e).rN j = s.rN j := rfl

@[simp] theorem bit_eventSent (g j i : Nat) : (s.eventSent t g e).bit j i = s.bit j i := rfl

/-- A dropped event is journalled, and no more. -/
theorem channelTake_drops (h : s.rN (Ch.GEN_LIMIT e) ≤ min gen 15) : noticeFoot.leaves (s.eventDropped e) (channelTake t gen e s) := by
  rw [channelTake, if_pos h]
  exact journal_leaves .refl (by decide)

/-- An event that is sent is told to the channel's owner and journalled, and no more. -/
theorem channelTake_sends (h : min gen 15 < s.rN (Ch.GEN_LIMIT e)) :
    noticeFoot.leaves ((s.eventCounted t (min gen 15) e).eventSent t (min gen 15) e) (channelTake t gen e s) := by
  rw [channelTake, if_neg (Nat.not_le.2 h)]
  exact journal_leaves (notifyEvent_leaves .refl (by decide)) (by decide)

theorem bit_loop_eventDropped : (s.eventDropped e).bit (Ch.CH_STATUS e) ChStatus.LOOP = true :=
  (bit_set_ne _ _ _ (key_ne (by decide))).trans (bit_setBit_same _ _ _ (by decide))

theorem loopCount_eventDropped : (s.eventDropped e).rN (Ch.LOOP_COUNT e) = min (s.rN (Ch.LOOP_COUNT e) + 1) 4294967295 := by
  rw [eventDropped, satInc, rN_setBit_ne _ _ _ (key_ne (by decide)), rN_set_same _ (by unfold satAdd; omega)]
  rfl

theorem fireCount_eventDropped : (s.eventDropped e).rN (Ch.FIRE_COUNT e) = s.rN (Ch.FIRE_COUNT e) :=
  (rN_set_ne _ _ (key_ne (by decide))).trans (rN_setBit_ne _ _ _ (key_ne (by decide)))

section Counted

variable {g : Nat}

theorem bit_fired_eventCounted : (s.eventCounted t g e).bit (Ch.CH_STATUS e) ChStatus.FIRED = true := by
  rw [eventCounted, bit_set_ne _ _ _ (key_ne (by decide)), bit_set_ne _ _ _ (key_ne (by decide)), bit_set_ne _ _ _ (key_ne (by decide)),
    wrapInc, bit_set_ne _ _ _ (key_ne (by decide)), bit_setBit_same _ _ _ (by decide)]

theorem fireCount_eventCounted : (s.eventCounted t g e).rN (Ch.FIRE_COUNT e) = (s.rN (Ch.FIRE_COUNT e) + 1) % 4294967296 := by
  rw [eventCounted, rN_set_ne _ _ (key_ne (by decide)), rN_set_ne _ _ (key_ne (by decide)), rN_set_ne _ _ (key_ne (by decide)), wrapInc,
    rN_setBit_ne _ _ _ (key_ne (by decide)), rN_set_same _ (by unfold wrapAdd; omega)]
  rfl

theorem lastTick_eventCounted (ht : t < 2 ^ 64) : (s.eventCounted t g e).rN (Ch.LAST_TICK e) = t := by
  rw [eventCounted, rN_set_ne _ _ (key_ne (by decide)), rN_set_ne _ _ (key_ne (by decide)), rN_set_same _ ht]

theorem lastGen_eventCounted (hg : g < 2 ^ 64) : (s.eventCounted t g e).rN (Ch.LAST_GEN e) = g := rN_set_same _ hg

end Counted

/-! ### Trigger pins as sources (R228, R238) -/

section Edge

variable {rise : Bool}

/-- The level of a pin after an edge, past INV. -/
def trigLevel (s : State) (n : Nat) (rise : Bool) : State :=
  s.modFab fun f => { f with trigIn := Tab.set (fun _ => false) f.trigIn n (rise != bitOf (s.trigCfg n) 3) }

theorem trigEdge_of_output (h : s.trigDir n = 2) : s.trigEdge n rise t = s := if_pos h

theorem trigEdge_of_input (h : s.trigDir n = 1) :
    s.trigEdge n rise t = ((s.trigLevel n rise).jEdge 0x500 (if rise then 9 else 10) n t).produce (if rise then 0x01 else 0x02) n t 0 := by
  have hout : ¬s.trigDir n = 2 := by simp [h]
  exact (if_neg hout).trans (if_neg (not_not.2 h))

/-- The level follows the edges of an OFF pin too (log entry 39). -/
theorem trigEdge_of_off (hin : s.trigDir n ≠ 1) (hout : s.trigDir n ≠ 2) : s.trigEdge n rise t = s.trigLevel n rise :=
  (if_neg hout).trans (if_pos hin)

end Edge

theorem timerFire_of_due (h : s.timerDue k t = true) : s.timerFire k t = s.produce 0x04 k t 0 := if_pos h

/-! ### FIRE and CH_EN (R226, R233) -/

theorem fireWrite_fires (h : s.grants who (Ch.FIRE e) = true) (hen : s.bit (Ch.CH_EN e) 0 = true)
    (hsw : s.rN (Ch.PRODUCER e) / 65536 = 3) :
    fireWrite who e 1 t s = s.completes who (Ch.FIRE e) 1 fun x => channelEvent t 0 e x :=
  cmdWrite_done h (by simp [hen, hsw, oneOnly, rangeIf])

theorem fireWrite_refused {v : Nat} (h : s.grants who (Ch.FIRE e) = true)
    (hno : s.bit (Ch.CH_EN e) 0 = false ∨ s.rN (Ch.PRODUCER e) / 65536 ≠ 3) :
    fireWrite who e v t s = s.refuse who (Ch.FIRE e) 0x05020006 :=
  cmdWrite_refused h (if_pos (by simpa using hno))

theorem chEn_jConfig {key v : Nat} (he : e < 1024) : (s.jConfig key who v).bit (Ch.CH_EN e) 0 = s.bit (Ch.CH_EN e) 0 :=
  bit_channel_of_notice (jConfig_leaves .refl (by decide)) he (by decide)

theorem chEnWrite_enables (he : e < 1024) (h : s.grants who (Ch.CH_EN e) = true) (hoff : s.bit (Ch.CH_EN e) 0 = false)
    (hcyc : (s.set (Ch.CH_EN e) 1).zeroCycle e = false) :
    chEnWrite who e 1 s =
      s.completes who (Ch.CH_EN e) 1 fun x => ((x.set (Ch.CH_EN e) 1).markDirty).leaveConfig (0x5000 + e) := by
  rw [chEnWrite, cmdWrite_done h (by simp [rangeIf, hcyc])]
  exact completes_congr (if_pos ⟨rfl, (chEn_jConfig he).trans hoff⟩)

theorem chEnWrite_refused_cycle (h : s.grants who (Ch.CH_EN e) = true) (hoff : s.bit (Ch.CH_EN e) 0 = false)
    (hcyc : (s.set (Ch.CH_EN e) 1).zeroCycle e = true) : chEnWrite who e 1 s = s.refuse who (Ch.CH_EN e) 0x06010005 := by
  have hsub : Ch.CH_EN e % 256 = 5 := Nat.mul_add_mod' _ _ _
  exact cmdWrite_refused h (by simp [rangeIf, hoff, hcyc, Abort.valueRange, hsub])

theorem chEnWrite_disables (h : s.grants who (Ch.CH_EN e) = true) :
    chEnWrite who e 0 s = s.completes who (Ch.CH_EN e) 0 fun x => (x.set (Ch.CH_EN e) 0).markDirty := by
  rw [chEnWrite, cmdWrite_done h (by simp [rangeIf])]
  exact completes_congr (if_neg (by simp))

/-! ### Delay units (R220, R224, R230) -/

section Delay

variable {r : DlyRun}

/-- The deliveries of the tick on FIRE_EVENT. -/
def dlyDue (s : State) (k : Nat) (t : Tick) : List (Nat × Nat) := s.dueFrom t (s.rN (Dl.FIRE_EVENT k)) (prodCode Task.dly k)

/-- The state in which the unit has taken them. -/
def dlyMarked (s : State) (k : Nat) (t : Tick) : State := s.markFrom t (s.rN (Dl.FIRE_EVENT k)) (prodCode Task.dly k)

theorem dlyDone_of_due (h : s.dlyRun k = some r) (hd : r.due ≤ t) : s.dlyDone k t = (s.setDly k none).produce 0x06 k r.due r.gen := by
  simp only [dlyDone, h, if_pos hd]

theorem dlyDone_of_idle (h : s.dlyRun k = none) : s.dlyDone k t = s := by simp only [dlyDone, h]

theorem dlyDone_of_busy (h : s.dlyRun k = some r) (hd : t < r.due) : s.dlyDone k t = s := by
  simp only [dlyDone, h, if_neg (Nat.not_le.2 hd)]

/-- Where no delay ends at the tick, a delivery is dropped by a busy unit and accepted by an idle one. -/
theorem dlyFire_of_delivery (hdone : s.dlyDone k t = s) (h : s.dlyDue k t ≠ []) :
    s.dlyFire k t =
      let l := s.dlyDue k t
      let b := s.dlyMarked k t
      if (b.dlyRun k).isSome then (b.setBit (Dl.DLY_STATUS k) 1 true).flagChannels ChStatus.TARGET_OVR l
      else if b.rN (Dl.DELAY k) = 0 then b.produce 0x06 k t (topGen l + 1)
      else b.setDly k (some { due := t + b.rN (Dl.DELAY k), gen := topGen l + 1 }) := by
  rw [dlyFire, hdone]
  exact if_neg h

theorem dlyFire_of_idle (hrun : s.dlyRun k = none) (h : s.dlyDue k t ≠ []) :
    s.dlyFire k t =
      let b := s.dlyMarked k t
      if b.rN (Dl.DELAY k) = 0 then b.produce 0x06 k t (topGen (s.dlyDue k t) + 1)
      else b.setDly k (some { due := t + b.rN (Dl.DELAY k), gen := topGen (s.dlyDue k t) + 1 }) := by
  have hidle : ((s.dlyMarked k t).dlyRun k).isSome ≠ true := fun hb => by simp [show (s.dlyMarked k t).dlyRun k = none from hrun] at hb
  exact (dlyFire_of_delivery (dlyDone_of_idle hrun) h).trans (if_neg hidle)

theorem dlyFire_of_busy (hrun : s.dlyRun k = some r) (hd : t < r.due) (h : s.dlyDue k t ≠ []) :
    s.dlyFire k t = ((s.dlyMarked k t).setBit (Dl.DLY_STATUS k) 1 true).flagChannels ChStatus.TARGET_OVR (s.dlyDue k t) := by
  have hbusy : ((s.dlyMarked k t).dlyRun k).isSome = true := Option.isSome_iff_exists.2 ⟨r, hrun⟩
  exact (dlyFire_of_delivery (dlyDone_of_busy hrun hd) h).trans (if_pos hbusy)

end Delay

/-! ### Counters (R223, R229) -/

theorem ecClear_of_delivery (h : s.dueFrom t (s.rN (Ec.CLR_EVENT k)) (prodCode Task.ecClr k) ≠ []) :
    s.ecClear k t =
      ((s.markFrom t (s.rN (Ec.CLR_EVENT k)) (prodCode Task.ecClr k)).set (Ec.EC_COUNT k) 0).modFab fun f =>
        { f with ecDone := Tab.set (fun _ => false) f.ecDone k false } :=
  if_neg h

/-- The deliveries of the tick on the channels bound to EC_INC. -/
def incDue (s : State) (k : Nat) (t : Tick) : List (Nat × Nat) :=
  (s.incChannels k).flatMap fun ch => s.dueFrom t ch (prodCode Task.ecInc k)

/-- The state in which the counter has taken them. -/
def incMarked (s : State) (k : Nat) (t : Tick) : State :=
  (s.incChannels k).foldl (fun (y : State) ch => y.markFrom t ch (prodCode Task.ecInc k)) s

/-- A CLR of the tick comes before its INC deliveries. -/
theorem ecInc_counts_each (h : (s.ecClear k t).incDue k t ≠ []) (hmode : ((s.ecClear k t).incMarked k t).rN (Ec.EC_MODE k) = 0) :
    s.ecInc k t =
      ((s.ecClear k t).incMarked k t).ecAdd k ((s.ecClear k t).incDue k t).length (topGen ((s.ecClear k t).incDue k t)) t :=
  (if_neg h).trans (if_pos hmode)

/-- In EDGE mode the INC deliveries of a tick merge into one count. -/
theorem ecInc_merges (h : 2 ≤ ((s.ecClear k t).incDue k t).length) (hmode : ((s.ecClear k t).incMarked k t).rN (Ec.EC_MODE k) ≠ 0) :
    s.ecInc k t =
      ((((s.ecClear k t).incMarked k t).satInc (Ec.EC_COINCIDE k) 32 1).flagChannels ChStatus.MERGED ((s.ecClear k t).incDue k t)).ecAdd k 1
        (topGen ((s.ecClear k t).incDue k t)) t := by
  have hne : (s.ecClear k t).incDue k t ≠ [] := List.ne_nil_of_length_pos (by omega)
  refine ((if_neg hne).trans (if_neg hmode)).trans ?_
  exact congrArg (fun x : State => x.ecAdd k 1 (topGen ((s.ecClear k t).incDue k t)) t) (if_pos h)

/-! ### Output pins (R224, R228) -/

/-- The deliveries of the tick on a trigger pin. -/
def trigDue (s : State) (n : Nat) (t : Tick) : List (Nat × Nat) := s.dueFrom t (field (s.trigCfg n) 16 16) (prodCode Task.trig n)

/-- The state in which the pin has taken them. -/
def trigMarked (s : State) (n : Nat) (t : Tick) : State := s.markFrom t (field (s.trigCfg n) 16 16) (prodCode Task.trig n)

theorem trigFire_of_output (h : s.trigDue n t ≠ []) (hout : (s.trigMarked n t).trigDir n = 2) :
    s.trigFire n t =
      let b := s.trigMarked n t
      if bitOf (s.trigCfg n) 2 then (b.setTrigOut n (!Tab.get (fun _ => false) b.fab.trigOut n)).trigDrive n
      else if t < Tab.get (fun _ => 0) b.fab.trigBusy n then
        (b.setBit Ev.TRIG_OVR n true).flagChannels ChStatus.TARGET_OVR (s.trigDue n t)
      else ((b.setTrigOut n true).setTrigBusy n (t + 32 * field (s.trigCfg n) 8 8)).trigDrive n :=
  if_neg (not_or.2 ⟨h, not_not.2 hout⟩)

theorem trigFire_inverts (h : s.trigDue n t ≠ []) (hout : (s.trigMarked n t).trigDir n = 2) (hinv : bitOf (s.trigCfg n) 2 = true) :
    s.trigFire n t =
      ((s.trigMarked n t).setTrigOut n (!Tab.get (fun _ => false) (s.trigMarked n t).fab.trigOut n)).trigDrive n :=
  (trigFire_of_output h hout).trans (if_pos hinv)

theorem trigFire_pulses (h : s.trigDue n t ≠ []) (hout : (s.trigMarked n t).trigDir n = 2) (hpulse : bitOf (s.trigCfg n) 2 = false)
    (hfree : Tab.get (fun _ => 0) (s.trigMarked n t).fab.trigBusy n ≤ t) :
    s.trigFire n t = (((s.trigMarked n t).setTrigOut n true).setTrigBusy n (t + 32 * field (s.trigCfg n) 8 8)).trigDrive n :=
  ((trigFire_of_output h hout).trans (if_neg (Bool.eq_false_iff.1 hpulse))).trans (if_neg (Nat.not_lt.2 hfree))

theorem trigPulseDone_of_end (hout : s.trigDir n = 2) (hpulse : bitOf (s.trigCfg n) 2 = false)
    (hon : Tab.get (fun _ => false) s.fab.trigOut n = true) (hend : Tab.get (fun _ => 0) s.fab.trigBusy n ≤ t) :
    s.trigPulseDone n t = (s.setTrigOut n false).trigDrive n :=
  if_pos ⟨hout, hpulse, hon, hend⟩

/-! ### The Gong (R227) -/

/-- GONG_COUNT counts once per event, whatever the ports do with it (log entry 41). -/
theorem gongAll_of_delivery (h : s.dueFrom t (s.rN Ev.GONG_SRC) gongCounted ≠ []) :
    s.gongAll t =
      ((s.markFrom t (s.rN Ev.GONG_SRC) gongCounted).wrapInc Ev.GONG_COUNT 32 (s.dueFrom t (s.rN Ev.GONG_SRC) gongCounted).length).forAll 128
        (gongPort t) :=
  if_neg h

end Sys2Proof.Machine.State

namespace Sys2Proof

open Machine State

/-- Settles O16: the first event of a tick is dropped or sent by its generation, and what follows it touches neither the channel's
entries nor the flights. -/
theorem eventsTakeNineTicks : Obligations.EventsTakeNineTicks := by
  intro s t gen e u g taken
  have he : (e : Nat) < 1024 := e.isLt
  refine ⟨channelEvent_again, fun hfirst hlim => ?dropped, fun hfirst hlim ht => ?sent⟩
  case dropped =>
    have hu : noticeFoot.leaves ((s.eventSeen t e).eventDropped e) u := by
      rw [show u = _ from channelEvent_first hfirst]
      exact channelTake_drops hlim
    refine ⟨(congrArg FabX.flights (fab_of_notice hu) :), ?_, ?_, ?_⟩
    · exact (bit_channel_of_notice hu he (by decide)).trans bit_loop_eventDropped
    · exact (rN_channel_of_notice hu he (by decide)).trans loopCount_eventDropped
    · exact (rN_channel_of_notice hu he (by decide)).trans fireCount_eventDropped
  case sent =>
    have hg : g < 2 ^ 64 := lt_of_le_of_lt (Nat.min_le_right gen 15) (by decide)
    have hu : noticeFoot.leaves (((s.eventSeen t e).eventCounted t g e).eventSent t g e) u := by
      rw [show u = _ from channelEvent_first hfirst]
      exact channelTake_sends hlim
    refine ⟨(congrArg FabX.flights (fab_of_notice hu) :), ?_, ?_, ?_, ?_⟩
    · exact (rN_channel_of_notice hu he (by decide)).trans ((rN_eventSent _ _).trans fireCount_eventCounted)
    · exact (rN_channel_of_notice hu he (by decide)).trans ((rN_eventSent _ _).trans (lastTick_eventCounted ht))
    · exact (rN_channel_of_notice hu he (by decide)).trans ((rN_eventSent _ _).trans (lastGen_eventCounted hg))
    · exact (bit_channel_of_notice hu he (by decide)).trans ((bit_eventSent _ _ _).trans bit_fired_eventCounted)

/-- Settles O40: an edge by the pin's direction, FIRE by the channel's producer, CH_EN by the cycle that it would close. -/
theorem carillonSourcesComplete : Obligations.CarillonSourcesComplete := by
  intro s t who n k e a
  refine ⟨⟨?input, ?off, ?output⟩, ?timer, ?fire, ?fireRefused, ?enable, ?cycle, ?disable⟩
  case input =>
    exact fun h => ⟨run_eq_of_effect (eff := fun m x => x.trigEdge n true m) (trigEdge_of_input h),
      run_eq_of_effect (eff := fun m x => x.trigEdge n false m) (trigEdge_of_input h)⟩
  case off =>
    exact fun hin hout => ⟨run_eq_of_effect (eff := fun m x => x.trigEdge n true m) (trigEdge_of_off hin hout),
      run_eq_of_effect (eff := fun m x => x.trigEdge n false m) (trigEdge_of_off hin hout)⟩
  case output =>
    exact fun h => ⟨run_eq_of_effect (eff := fun m x => x.trigEdge n true m) (trigEdge_of_output h),
      run_eq_of_effect (eff := fun m x => x.trigEdge n false m) (trigEdge_of_output h)⟩
  case timer => exact fun h => run_eq_of_effect (eff := fun m x => x.timerFire k m) (timerFire_of_due h)
  case fire => exact fun hg hen hsw => run_eq_of_effect (fireWrite_fires hg hen hsw)
  case fireRefused => exact fun hg hno => run_eq_of_effect (fireWrite_refused hg hno)
  case enable =>
    exact fun hg hoff hcyc => run_eq_of_effect (eff := fun _ x => chEnWrite who e 1 x) (chEnWrite_enables e.isLt hg hoff hcyc)
  case cycle =>
    exact fun hg hoff hcyc => run_eq_of_effect (eff := fun _ x => chEnWrite who e 1 x) (chEnWrite_refused_cycle hg hoff hcyc)
  case disable => exact fun hg => run_eq_of_effect (eff := fun _ x => chEnWrite who e 0 x) (chEnWrite_disables hg)

/-- Settles O41: a delay unit by its run, a counter by its mode, a pin by its configuration and its pulse, the Gong by its deliveries. -/
theorem carillonUnitsComplete : Obligations.CarillonUnitsComplete := by
  intro s t k c n a
  refine ⟨?ends, ?starts, ?overrun, ?clears, ?counts, ?merges, ?pulses, ?inverts, ?pulseEnd, ?gong⟩
  case ends => exact fun r h hd => run_eq_of_effect (eff := fun m x => x.dlyDone k m) (dlyDone_of_due h hd)
  case starts => exact fun hrun h => run_eq_of_effect (eff := fun m x => x.dlyFire k m) (dlyFire_of_idle hrun h)
  case overrun => exact fun r hrun hd _ h => run_eq_of_effect (eff := fun m x => x.dlyFire k m) (dlyFire_of_busy hrun hd h)
  case clears => exact fun h => run_eq_of_effect (eff := fun m x => x.ecClear c m) (ecClear_of_delivery h)
  case counts => exact fun h hmode => run_eq_of_effect (eff := fun m x => x.ecInc c m) (ecInc_counts_each h hmode)
  case merges => exact fun h hmode => run_eq_of_effect (eff := fun m x => x.ecInc c m) (ecInc_merges h hmode)
  case pulses =>
    exact fun h hout hpulse hfree => run_eq_of_effect (eff := fun m x => x.trigFire n m) (trigFire_pulses h hout hpulse hfree)
  case inverts => exact fun h hout hinv => run_eq_of_effect (eff := fun m x => x.trigFire n m) (trigFire_inverts h hout hinv)
  case pulseEnd =>
    exact fun hout hpulse hon hend =>
      run_eq_of_effect (eff := fun m x => x.trigPulseDone n m) (trigPulseDone_of_end hout hpulse hon hend)
  case gong => exact fun h => run_eq_of_effect (eff := fun m x => x.gongAll m) (gongAll_of_delivery h)

end Sys2Proof
end

section
/-!
The scratchpad: its words, atomics and bank cycles, its regions, rings and background test (R241-R265), and the host's windows
(R254, R257, R266, R267, R379-R382): O15, O42, O43, O54.
-/

namespace Sys2Proof.Machine

/-! ### Values of the atomics (R112, R250) -/

theorem satTo_eq_max_min {lo hi : Int} (hle : lo ≤ hi) (v : Int) : satTo v lo hi = max lo (min hi v) := by
  unfold satTo
  split_ifs <;> omega

/-- A saturated sum fits its 40-bit word. -/
theorem toInt_toW40_sat40 (v : Int) : (toW40 (sat40 v)).toInt = sat40 v := by
  obtain ⟨hlo, hhi⟩ : sat40 v ∈ Set.Icc min40 max40 := satTo_mem min40_le_max40 v
  exact BitVec.toInt_ofInt_eq_self (by decide) hlo (Int.lt_of_le_sub_one hhi)

namespace State

variable {s : State} {who f a v k r : Nat} {t : Tick}

/-! ### What a store and an effect on the other parts leave alone -/

@[simp] theorem regs_spadPut {w : W40} : (s.spadPut a w).regs = s.regs := by
  unfold spadPut
  split <;> rfl

theorem spadPut_of_reserved {w : W40} (h : reservedWord a = true) : s.spadPut a w = s := if_pos h

theorem spadAt_spadPut_same {w : W40} (h : reservedWord a = false) : (s.spadPut a w).spadAt a = w := by
  rw [spadAt_spadPut, if_pos ⟨rfl, h⟩]

theorem spadAt_spadPut_ne {w : W40} {b : Nat} (h : b ≠ a) : (s.spadPut a w).spadAt b = s.spadAt b := by
  rw [spadAt_spadPut, if_neg fun hb => h hb.1]

theorem reservedWord_iff : reservedWord a = true ↔ 0xC00 ≤ a ∧ a < 0x1000 := decide_eq_true_iff

theorem rN_of_regs {b : State} {j : Nat} (h : b.regs = s.regs) : b.rN j = s.rN j := by simp only [rN, reg, h]

@[simp] theorem regs_spadPutAll (l : List Nat) : (s.spadPutAll a l).regs = s.regs := by
  induction l generalizing s a with
  | nil => rfl
  | cons w l ih => exact ih.trans regs_spadPut

@[simp] theorem regs_blockGone {words : List Nat} : (s.blockGone words).regs = s.regs := by
  simp only [blockGone]
  split <;> rfl

theorem bit_jConfig {key j i : Nat} (h1 : j ≠ Rc.GAP_COUNT) (h2 : j ≠ Rc.J_STATUS) : (s.jConfig key who v).bit j i = s.bit j i := by
  simp only [bit, jConfig, reg_journal _ _ _ _ _ _ h1 h2]

@[simp] theorem fnx_modFn_same (g : FnX → FnX) : (s.modFn f g).fnx f = g (s.fnx f) := by simp [fnx, modFn]

/-! ### Bank cycles and the write-back of corrected words (R242, R251) -/

/-- A bank cycle is set up for a later tick. -/
def cycleSetUp (s : State) : Bool := s.micro.any fun m => decide (m.2 = Micro.fabCycle)

section BankCycle

variable {rs : List FabReq} {T : Nat}

/-- Bank cycles begin at even ticks. -/
theorem fabAccess_cycles_now (hfree : (s.fabRequest rs).cycleSetUp = false) (hT : T % 2 = 0) :
    s.fabAccess rs T = (s.fabRequest rs).fabCycle T := by
  have hbegin : (T + 1) / 2 * 2 = T := by omega
  exact (if_neg (Bool.eq_false_iff.1 hfree)).trans (if_pos hbegin)

theorem fabAccess_cycles_next (hfree : (s.fabRequest rs).cycleSetUp = false) (hT : T % 2 = 1) :
    s.fabAccess rs T = (s.fabRequest rs).later (T + 1) .fabCycle := by
  have hbegin : (T + 1) / 2 * 2 = T + 1 := by omega
  simp only [fabAccess, hbegin]
  exact (if_neg (Bool.eq_false_iff.1 hfree)).trans (if_neg (Nat.succ_ne_self T))

theorem fabAccess_waits (hset : (s.fabRequest rs).cycleSetUp = true) : s.fabAccess rs T = s.fabRequest rs := if_pos hset

end BankCycle

theorem eccBack_writes (hfree : s.banksFree = true) (ha : a ∈ s.mem.fix) :
    s.eccBack a = s.modMem fun m => { m with fix := m.fix.erase a, soft := m.soft.erase a } := if_pos (by simp [hfree, ha])

theorem eccBack_drops (h : s.banksFree = false ∨ a ∉ s.mem.fix) : s.eccBack a = s := if_neg (by simpa [Decidable.imp_iff_not_or] using h)

/-! ### The end of a wipe (R257, log entry 119) -/

theorem wipeDue_ends (hw : s.wiping = true) (hd : s.mem.wipeEnd ≤ t) :
    s.wipeDue t = s.wipeOver.mem.late.foldl (fun x w => x.lateDo w t) (s.wipeOver.modMem fun m => { m with late := [] }) :=
  if_pos (by simp [hw, hd])

theorem wipeDue_waits (h : s.wiping = false ∨ t < s.mem.wipeEnd) : s.wipeDue t = s :=
  if_neg (by simpa [Decidable.imp_iff_not_or] using h)

/-! ### Regions (R252, R253) -/

/-- Journalling a write leaves every region's REGION_EN alone. -/
theorem regionEn_jConfig {key : Nat} (hr : r < 64) : (s.jConfig key who v).bit (Rg.REGION_EN r) 0 = s.bit (Rg.REGION_EN r) 0 :=
  bit_jConfig (by unfold Rg.REGION_EN Rc.GAP_COUNT; omega) (by unfold Rg.REGION_EN Rc.J_STATUS; omega)

theorem regionEnWrite_enables (hr : r < 64) (h : s.grants who (Rg.REGION_EN r) = true) (hoff : s.bit (Rg.REGION_EN r) 0 = false)
    (hok : s.regionGeometryOk r = true) :
    regionEnWrite who r 1 s =
      s.completes who (Rg.REGION_EN r) 1 fun x => (x.markDirty.regionOn r).leaveConfig (0x2340 + r) := by
  rw [regionEnWrite, cmdWrite_done h (by simp [hok])]
  exact completes_congr (if_pos ⟨rfl, (regionEn_jConfig hr).trans hoff⟩)

theorem regionEnWrite_refused_geometry (h : s.grants who (Rg.REGION_EN r) = true) (hoff : s.bit (Rg.REGION_EN r) 0 = false)
    (hbad : s.regionGeometryOk r = false) : regionEnWrite who r 1 s = s.refuse who (Rg.REGION_EN r) 0x06010003 :=
  cmdWrite_refused h (by simp [hoff, hbad, Abort.valueRange])

theorem regionEnWrite_disables (hr : r < 64) (h : s.grants who (Rg.REGION_EN r) = true) (hon : s.bit (Rg.REGION_EN r) 0 = true)
    (hin : s.ringIn r = false) :
    regionEnWrite who r 0 s = s.completes who (Rg.REGION_EN r) 0 fun x => x.markDirty.regionOff r := by
  rw [regionEnWrite, cmdWrite_done h (by simp [hin])]
  exact completes_congr ((if_neg (by simp)).trans (if_pos ⟨rfl, (regionEn_jConfig hr).trans hon⟩))

theorem regionEnWrite_refused_ring (h : s.grants who (Rg.REGION_EN r) = true) (hon : s.bit (Rg.REGION_EN r) 0 = true)
    (hin : s.ringIn r = true) : regionEnWrite who r 0 s = s.refuse who (Rg.REGION_EN r) 0x05010000 :=
  cmdWrite_refused h (if_pos ⟨rfl, hon, hin⟩)

theorem regionReady_of_zeroing (hfree : s.banksFree = true) (hz : s.rN (Rg.REGION_STATE r) = 1) :
    s.regionReady r = s.set (Rg.REGION_STATE r) 2 := if_pos (by simp [hfree, hz])

/-! ### Rings (R262-R265) -/

theorem ringEn_jConfig {key : Nat} (hr : r < 32) : (s.jConfig key who v).bit (Rn.RING_EN r) 0 = s.bit (Rn.RING_EN r) 0 :=
  bit_jConfig (by unfold Rn.RING_EN Rc.GAP_COUNT; omega) (by unfold Rn.RING_EN Rc.J_STATUS; omega)

theorem ringEnWrite_enables (hr : r < 32) (h : s.grants who (Rn.RING_EN r) = true) (hoff : s.bit (Rn.RING_EN r) 0 = false)
    (hplaced : s.ringPlaced r = true) :
    ringEnWrite who r 1 s = s.completes who (Rn.RING_EN r) 1 fun x => (x.markDirty.ringOn r).leaveConfig (0x2380 + r) := by
  rw [ringEnWrite, cmdWrite_done h (by simp [hplaced, rangeIf])]
  exact completes_congr (if_pos ⟨rfl, (ringEn_jConfig hr).trans hoff⟩)

theorem ringEnWrite_disables (hr : r < 32) (h : s.grants who (Rn.RING_EN r) = true) (hon : s.bit (Rn.RING_EN r) 0 = true) :
    ringEnWrite who r 0 s = s.completes who (Rn.RING_EN r) 0 fun x => x.markDirty.ringOff r := by
  rw [ringEnWrite, cmdWrite_done h (by simp [rangeIf])]
  exact completes_congr ((if_neg (by simp)).trans (if_pos ⟨rfl, (ringEn_jConfig hr).trans hon⟩))

/-- A committed block leaves its ring's mode alone. -/
theorem ringMode_ringPut {words : List Nat} : (s.ringPut r words).rN (Rn.RING_MODE r) = s.rN (Rn.RING_MODE r) := by
  simp only [ringPut, syncRing, ringMirror]
  rw [rN_of_regs (regs_spadPutAll _), rN_setBits_ne _ (key_ne (by decide)), rN_of_regs regs_blockGone, rN_set_ne _ _ (key_ne (by decide))]
  split
  · exact rN_of_regs (regs_spadPutAll _)
  · rfl

section Commit

variable {b : Tick × List Nat} {l : List (Tick × List Nat)}

theorem ringCommit_of_room (hq : s.ringQ r = b :: l) (hroom : (s.setRingQ r l).ringFull r = false) (hmode : s.rN (Rn.RING_MODE r) = 0) :
    s.ringCommit r = (s.setRingQ r l).ringPut r b.2 := by
  have hput : ((s.setRingQ r l).ringPut r b.2).rN (Rn.RING_MODE r) = 0 := ringMode_ringPut.trans hmode
  simp [ringCommit, hq, hroom, hput]

theorem ringCommit_of_full (hq : s.ringQ r = b :: l) (hfull : (s.setRingQ r l).ringFull r = true) (hmode : s.rN (Rn.RING_MODE r) = 0) :
    s.ringCommit r = (((s.setRingQ r l).dropBlock r b.2).setBit (Rn.RING_STATUS r) RingStatus.OVF true).syncRing r := by
  have hkept : (s.setRingQ r l).rN (Rn.RING_MODE r) = 0 := hmode
  simp [ringCommit, hq, hfull, hkept]

end Commit

theorem blockReady_of_banksFree (hfree : s.banksFree = true) : s.blockReady r = s.ringCommit r := if_pos hfree

theorem consHostWrite_takes (h : s.grants who (Rn.CONS_HOST r) = true) (hdma : s.dmaOn r = false) (hok : s.consOk r v = true) :
    consHostWrite who r v s = s.completes who (Rn.CONS_HOST r) v fun x => x.consSet r v :=
  cmdWrite_done h (by simp [hdma, hok, rangeIf])

theorem consHostWrite_refused (h : s.grants who (Rn.CONS_HOST r) = true) (hdma : s.dmaOn r = true) :
    consHostWrite who r v s = s.refuse who (Rn.CONS_HOST r) 0x05020006 := cmdWrite_refused h (if_pos hdma)

/-! ### Background test (R259-R261) -/

theorem btRequestWrite_remembers (h : s.grants who Fb.BT_REQUEST = true) (hv : v ≤ 63) :
    btRequestWrite who v s = s.completes who Fb.BT_REQUEST v fun x => x.modMem fun m => { m with btReq := some v } :=
  cmdWrite_done h (by simp [rangeIf, hv])

theorem btDueIn_of_due (hst : s.rN Fb.BT_STATE = k) (hd : s.mem.btDue ≤ t) : s.btDueIn k t = true := by simp [btDueIn, hst, hd]

/-! ### The windows (R254, R257, R266, R267, R379, R381, R382) -/

section Window

variable {off slot lo : Nat} {eff : State → State} {x : Late} {spad rd : Bool}

/-- The access of a function whose windows serve is made. -/
theorem hostRun_of_up (h : s.winUp f = true) : hostRun f rd eff s = eff s := if_pos h

theorem hostRun_read_below_d0 (hup : s.winUp f = false) (hlive : s.fnLive f = true) (hs : s.served = true) :
    hostRun f true eff s = s.answerUR f := by simp [hostRun, hup, hlive, hs]

theorem hostRun_write_below_d0 (hup : s.winUp f = false) (hlive : s.fnLive f = true) (hs : s.served = true) :
    hostRun f false eff s = s.urCount := by simp [hostRun, hup, hlive, hs]

theorem orLate_of_wiping (h : s.wiping = true) : s.orLate x eff = s.modMem fun m => { m with late := m.late ++ [x] } := if_pos h

theorem orLate_of_not_wiping (h : s.wiping = false) : s.orLate x eff = eff s := if_neg (Bool.eq_false_iff.1 h)

/-! #### The write latch -/

theorem wr_stageLo (hv : v < 2 ^ 32) : ((s.stageLo f spad slot v).fnx f).wr = some (spad, slot, v) := by
  simpa [stageLo] using hv

@[simp] theorem spad_when_winErr {c : Bool} : (s.when c winErr).spad = s.spad := by
  unfold when
  split <;> rfl

@[simp] theorem spad_stageLo : (s.stageLo f spad slot v).spad = s.spad := spad_when_winErr

theorem regs_stageLo_of_empty (h : (s.fnx f).wr = none) : (s.stageLo f spad slot v).regs = s.regs := by simp [stageLo, h, when]

/-- A LO write that replaces another word's sets WIN_ERR. -/
theorem regs_stageLo_of_other {b : Bool} {o : Nat} (h : (s.fnx f).wr = some (b, o, lo)) (hne : b ≠ spad ∨ o ≠ slot) :
    (s.stageLo f spad slot v).regs = s.winErr.regs := by
  have hlost : (decide (b ≠ spad) || decide (o ≠ slot)) = true := by simpa using hne
  simp only [stageLo, h, hlost, modFn_regs, when, if_true]

theorem commitHi_of_staged (h : (s.fnx f).wr = some (spad, slot, lo)) :
    s.commitHi f spad slot 40 v = (s.modFn f fun n => { n with wr := none }, some (v % 256 * 4294967296 + lo)) := by
  simp [commitHi, h]

theorem commitHi_of_not_staged (h : ∀ lo, (s.fnx f).wr ≠ some (spad, slot, lo)) : s.commitHi f spad slot k v = (s.winErr, none) := by
  match hw : (s.fnx f).wr with
  | none => simp only [commitHi, hw]
  | some (b, o, lo) =>
    have hne : ¬(b = spad ∧ o = slot) := fun ⟨hb, ho⟩ => h lo (by rw [hw, hb, ho])
    simp only [commitHi, hw, if_neg hne]

/-! #### Accesses of WIN_SPAD -/

theorem winLoWriteReq_stages (h : s.winUp f = true) : winLoWriteReq f true off v t s = s.stageLo f true (off / 8 * 8) v := hostRun_of_up h

theorem winHiWriteReq_commits (h : s.winUp f = true) (hw : (s.fnx f).wr = some (true, off / 8 * 8, lo)) :
    winHiWriteReq f true off v t s =
      (s.modFn f fun n => { n with wr := none }).spadPosted f (off / 8) (v % 256 * 4294967296 + lo) := by
  rw [winHiWriteReq, hostRun_of_up h, if_pos rfl, commitHi_of_staged hw]

theorem winHiWriteReq_of_not_staged (h : s.winUp f = true) (hw : ∀ lo, (s.fnx f).wr ≠ some (true, off / 8 * 8, lo)) :
    winHiWriteReq f true off v t s = s.winErr := by
  rw [winHiWriteReq, hostRun_of_up h, if_pos rfl, commitHi_of_not_staged hw]

/-- The owner of a page stores its words. -/
theorem spadWinWrite_stores (ha : a < 4194304) (h : s.memWriteAbort (f + 1) a (s.secHolder (f + 1)) = none) :
    s.spadWinWrite f a v = s.spadPut a (BitVec.ofNat 40 v) := by
  simp [spadWinWrite, Nat.not_le.2 ha, h]

theorem spadWinWrite_discards {e : Nat} (ha : a < 4194304) (hsap : sapphire a = false)
    (h : s.memWriteAbort (f + 1) a (s.secHolder (f + 1)) = some e) : s.spadWinWrite f a v = s.urCount := by
  simp [spadWinWrite, Nat.not_le.2 ha, h, hsap, when]

theorem hostRun_spadPosted (h : s.winUp f = true) (hw : s.wiping = false) :
    (s.hostRun f false fun y => y.spadPosted f a v) = s.spadWinWrite f a v := by
  rw [hostRun_of_up h, spadPosted, orLate_of_not_wiping hw]

theorem hostRun_spadPosted_waits (h : s.winUp f = true) (hw : s.wiping = true) :
    (s.hostRun f false fun y => y.spadPosted f a v) = s.modMem fun m => { m with late := m.late ++ [.write f a v] } := by
  rw [hostRun_of_up h, spadPosted, orLate_of_wiping hw]

theorem winRead_spad (h : s.winUp f = true) (hw : s.wiping = false) {kind : RdKind} :
    winRead f true off kind s = s.spadWinRead f (off / 8 * 8) kind := by
  rw [winRead, hostRun_of_up h, if_pos rfl, orLate_of_not_wiping hw]

theorem winRead_spad_waits (h : s.winUp f = true) (hw : s.wiping = true) {kind : RdKind} :
    winRead f true off kind s = s.modMem fun m => { m with late := m.late ++ [.read f (off / 8 * 8) kind] } := by
  rw [winRead, hostRun_of_up h, if_pos rfl, orLate_of_wiping hw]

/-- An atomic on a whole slot of WIN_SPAD is one on its word. -/
theorem atomicReq_spad (h : s.winUp f = true) (hoff : off % 8 = 0) {swp : Bool} :
    atomicReq f true off swp v s = s.atomicPosted f (off / 8) (if swp then .swap else .addWrap) (BitVec.ofNat 40 v) := by
  rw [atomicReq, hostRun_of_up h]
  exact (if_neg (not_not.2 hoff)).trans (if_pos rfl)

section Atomic

variable {op : FabOp} {y : W40}

theorem atomicPosted_acts (hw : s.wiping = false) : s.atomicPosted f a op y = s.spadAtomic f a op y := orLate_of_not_wiping hw

theorem atomicPosted_waits (hw : s.wiping = true) :
    s.atomicPosted f a op y = s.modMem fun m => { m with late := m.late ++ [.atomic f a op y] } := orLate_of_wiping hw

end Atomic

end Window

end State
end Sys2Proof.Machine

namespace Sys2Proof

open Machine State

/-! ### The outcome of an access, from what it comes to in the state that time has reached -/

section Outcome

variable {s u : State} {t : Tick} {f : FnId} {off addr : Nat} {v : BitVec 32} {w : W64}

theorem exec_fabricAccess_of {rs : List FabReq} {hits : List (Nat × Upset)}
    (h : (hits.foldl (fun x e => x.upset e.1 e.2) (s.advance t)).fabAccess rs (s.advance t).now = u) :
    exec (.fabricAccess t ⟨rs, hits⟩) s = .next u.settle := by
  rw [← h]
  rfl

theorem exec_winSpadWrite_of (h : (s.advance t).hostRun f false (fun x => x.spadPosted f addr w.toNat) = u) :
    exec (.winSpadWrite t f addr w) s = .next u.settle :=
  run_eq_of_effect (eff := fun _ x => x.hostRun f false fun y => y.spadPosted f addr w.toNat) h

theorem exec_winHiWrite_of (h : winHiWriteReq f true off v.toNat (s.advance t).now (s.advance t) = u) :
    exec (.winHiWrite t f true off v) s = .next u.settle :=
  run_eq_of_effect (eff := fun n x => winHiWriteReq f true off v.toNat n x) h

theorem exec_winLoRead_of {spad : Bool} {k : RdKind} (h : winRead f spad off k (s.advance t) = u) :
    exec (.winLoRead t f spad off k) s = .next u.settle :=
  run_eq_of_effect (eff := fun _ x => winRead f spad off k x) h

theorem exec_fetchadd_of (h : atomicReq f true off false w.toNat (s.advance t) = u) : exec (.fetchadd t f true off w) s = .next u.settle :=
  run_eq_of_effect (eff := fun _ x => atomicReq f true off false w.toNat x) h

theorem exec_swap_of (h : atomicReq f true off true w.toNat (s.advance t) = u) : exec (.swap t f true off w) s = .next u.settle :=
  run_eq_of_effect (eff := fun _ x => atomicReq f true off true w.toNat x) h

end Outcome

/-- Settles O15: a store is read back, by the owner through WIN_SPAD too, and each atomic computes its new value. -/
theorem scratchpadReadsWhatWasWritten : Obligations.ScratchpadReadsWhatWasWritten := by
  refine ⟨fun s a b v => ⟨spadAt_spadPut_same, spadAt_spadPut_ne, spadPut_of_reserved, reservedWord_iff, regs_spadPut, ?window⟩,
    fun v x => ⟨BitVec.toNat_add v x, ?saturated, rfl⟩⟩
  case window =>
    intro t f w x hup hwipe ha hres hown
    have hput := (hostRun_spadPosted hup hwipe).trans (spadWinWrite_stores (v := w.toNat) ha hown)
    exact ⟨_, exec_winSpadWrite_of hput, spadAt_spadPut_same hres, spadAt_spadPut_ne, regs_spadPut⟩
  case saturated => exact (toInt_toW40_sat40 _).trans (satTo_eq_max_min min40_le_max40 _)

/-- Settles O42: the bank cycle by the parity of the tick, the write-back by what holds the banks, and the end of a wipe with the accesses that
waited for it, in their order (log entry 119). -/
theorem fabricAccessesComplete : Obligations.FabricAccessesComplete := by
  intro s t rs hits addr a b
  refine ⟨?now, ?next, ?joins, ?writes, ?drops, ?ends, ?waits⟩
  case now => exact fun hfree ht => exec_fabricAccess_of (fabAccess_cycles_now hfree ht)
  case next => exact fun hfree ht => exec_fabricAccess_of (fabAccess_cycles_next hfree ht)
  case joins => exact fun hset => exec_fabricAccess_of (fabAccess_waits hset)
  case writes => exact fun hfree ha => run_eq_of_effect (eff := fun _ x => x.eccBack addr) (eccBack_writes hfree ha)
  case drops => exact fun h => run_eq_of_effect (eff := fun _ x => x.eccBack addr) (eccBack_drops h)
  case ends => exact fun hw hd => run_eq_of_effect (eff := fun n x => x.wipeDue n) (wipeDue_ends hw hd)
  case waits => exact fun h => run_eq_of_effect (eff := fun n x => x.wipeDue n) (wipeDue_waits h)

/-- Settles O43: each request by its conditions, and each timed step at its due tick. -/
theorem regionsAndRingsComplete : Obligations.RegionsAndRingsComplete := by
  intro s t who r q v a
  refine ⟨?enable, ?geometry, ?disable, ?inUse, ?zeroed, ?ringOn, ?ringOff, ?commit, ?full, ?consumed, ?byDma, ?request, ?borrow, ?copied,
    ?tested, ?returned⟩
  case enable =>
    exact fun hg hoff hok => run_eq_of_effect (eff := fun _ x => regionEnWrite who r 1 x) (regionEnWrite_enables r.isLt hg hoff hok)
  case geometry =>
    exact fun hg hoff hbad => run_eq_of_effect (eff := fun _ x => regionEnWrite who r 1 x) (regionEnWrite_refused_geometry hg hoff hbad)
  case disable =>
    exact fun hg hon hin => run_eq_of_effect (eff := fun _ x => regionEnWrite who r 0 x) (regionEnWrite_disables r.isLt hg hon hin)
  case inUse =>
    exact fun hg hon hin => run_eq_of_effect (eff := fun _ x => regionEnWrite who r 0 x) (regionEnWrite_refused_ring hg hon hin)
  case zeroed => exact fun hfree hz => run_eq_of_effect (eff := fun _ x => x.regionReady r) (regionReady_of_zeroing hfree hz)
  case ringOn =>
    exact fun hg hoff hplaced => run_eq_of_effect (eff := fun _ x => ringEnWrite who q 1 x) (ringEnWrite_enables q.isLt hg hoff hplaced)
  case ringOff => exact fun hg hon => run_eq_of_effect (eff := fun _ x => ringEnWrite who q 0 x) (ringEnWrite_disables q.isLt hg hon)
  case commit =>
    exact fun b l hfree hq hroom hmode => run_eq_of_effect (eff := fun _ x => x.blockReady q)
      ((blockReady_of_banksFree hfree).trans (ringCommit_of_room hq hroom hmode))
  case full =>
    exact fun b l hfree hq hfull hmode => run_eq_of_effect (eff := fun _ x => x.blockReady q)
      ((blockReady_of_banksFree hfree).trans (ringCommit_of_full hq hfull hmode))
  case consumed => exact fun hg hdma hok => run_eq_of_effect (eff := fun _ x => consHostWrite who q v x) (consHostWrite_takes hg hdma hok)
  case byDma => exact fun hg hdma => run_eq_of_effect (eff := fun _ x => consHostWrite who q v x) (consHostWrite_refused hg hdma)
  case request => exact fun hg hv => run_eq_of_effect (eff := fun _ x => btRequestWrite who v x) (btRequestWrite_remembers hg hv)
  case borrow => exact fun hs => run_eq_of_effect (eff := fun m x => x.borrowAt m) (if_pos hs)
  case copied => exact fun hst hd => run_eq_of_effect (eff := fun m x => x.copyAt m) (if_pos (btDueIn_of_due hst hd))
  case tested => exact fun pass hst hd => run_eq_of_effect (eff := fun m x => x.testAt pass m) (if_pos (btDueIn_of_due hst hd))
  case returned => exact fun hst hd => run_eq_of_effect (eff := fun m x => x.writebackAt m) (if_pos (btDueIn_of_due hst hd))

/-- Settles O54: writes by the write latch and the owner of the page, reads and atomics by the slot, all of them by the wipe and the function's
power state. -/
theorem windowAccessesComplete : Obligations.WindowAccessesComplete := by
  intro s t f off addr v w k a slot waits
  refine ⟨?stage, ?replace, ?commit, ?otherWord, ?noWord, ?store, ?discard, ?read, ?waiting, ?readRegs, ?direct, ?atomicWaits, ?atomic,
    ?down⟩
  case stage =>
    exact fun hup hwr => ⟨_, run_eq_of_effect (winLoWriteReq_stages hup), wr_stageLo v.isLt, spad_stageLo, regs_stageLo_of_empty hwr⟩
  case replace =>
    exact fun b o lo hup hwr hne => ⟨_, run_eq_of_effect (winLoWriteReq_stages hup), wr_stageLo v.isLt, spad_stageLo,
      regs_stageLo_of_other hwr (hne.imp_left fun hb => by simp [hb])⟩
  case commit => exact fun lo hup hwr => exec_winHiWrite_of (winHiWriteReq_commits hup hwr)
  case otherWord =>
    intro b o lo hup hwr hne
    refine exec_winHiWrite_of (winHiWriteReq_of_not_staged hup fun lo' hw => ?_)
    obtain ⟨rfl, rfl, -⟩ : b = true ∧ o = slot ∧ lo = lo' := by simpa using hwr.symm.trans hw
    simp at hne
  case noWord => exact fun hup hwr => exec_winHiWrite_of (winHiWriteReq_of_not_staged hup fun _ hw => Option.some_ne_none _ (hw.symm.trans hwr))
  case store =>
    exact fun hup hwipe ha hown => exec_winSpadWrite_of ((hostRun_spadPosted hup hwipe).trans (spadWinWrite_stores ha hown))
  case discard =>
    exact fun e hup hwipe ha hsap hown =>
      exec_winSpadWrite_of ((hostRun_spadPosted hup hwipe).trans (spadWinWrite_discards ha hsap hown))
  case read => exact fun hup hwipe => exec_winLoRead_of (winRead_spad hup hwipe)
  case waiting =>
    exact fun hup hwipe => ⟨exec_winLoRead_of (winRead_spad_waits hup hwipe), exec_winSpadWrite_of (hostRun_spadPosted_waits hup hwipe)⟩
  case readRegs => exact fun hup => exec_winLoRead_of (hostRun_of_up hup)
  case direct => exact fun hup => run_eq_of_effect (eff := fun n x => directWriteReq f off .whole w.toNat n x) (hostRun_of_up hup)
  case atomicWaits =>
    exact fun hup hwipe hoff =>
      ⟨exec_fetchadd_of ((atomicReq_spad hup hoff).trans (atomicPosted_waits hwipe)),
        exec_swap_of ((atomicReq_spad hup hoff).trans (atomicPosted_waits hwipe))⟩
  case atomic =>
    exact fun hup hwipe hoff =>
      ⟨exec_fetchadd_of ((atomicReq_spad hup hoff).trans (atomicPosted_acts hwipe)),
        exec_swap_of ((atomicReq_spad hup hoff).trans (atomicPosted_acts hwipe))⟩
  case down =>
    exact fun hup hlive hs => ⟨exec_winLoRead_of (hostRun_read_below_d0 hup hlive hs), exec_swap_of (hostRun_read_below_d0 hup hlive hs),
      exec_winSpadWrite_of (hostRun_write_below_d0 hup hlive hs)⟩

end Sys2Proof
end

section
/-!
The frames of every command, and what every step keeps: O1 to O5, O17 to O21.
-/

namespace Sys2Proof
open Machine State

/-- Settles O17: command by command, what its meaning can change lies within its footprint. -/
theorem frameOfPorts : Obligations.FrameOfPorts := by
  intro c t F s h
  cases c
  case enable => cases h; exact execEnable_leaves rfl
  case enableSpanHoldEnd => cases h; exact execEnableSpanHoldEnd_leaves rfl (.inr (by simp))
  case gatePermit => cases h; exact execGatePermit_leaves rfl
  case disable => cases h; exact execDisable_leaves rfl
  case dischargeEnd => cases h; exact execDischargeEnd_leaves rfl
  case rampDone => cases h; exact execRampDone_leaves rfl
  case span => cases h; exact execSpan_leaves rfl
  case spanHoldEnd => cases h; exact execSpanHoldEnd_leaves rfl
  case clrNFall => cases h; exact execClrNFall_leaves rfl
  case clrNRise => cases h; exact execClrNRise_leaves rfl
  case fltInRise => cases h; exact execFltInRise_leaves rfl
  case fltInFall => cases h; exact execFltInFall_leaves rfl (.inr (by simp))
  case clearRelease => cases h; exact execClearRelease_leaves rfl
  case readbackNow => cases h; exact execReadbackNow_leaves rfl
  case readbackDue => cases h; exact execReadbackDue_leaves rfl
  case deferredReadback => cases h; exact execDeferredReadback_leaves rfl
  case timerStrike => cases h; exact execTimerStrike_leaves rfl (.inr (by simp))
  case loopTick => cases h; exact execLoopTick_leaves rfl
  case loopFlushExpiry => cases h; exact execLoopFlushExpiry_leaves rfl
  case lmVisit => cases h; exact execLmVisit_leaves rfl
  case fastConversion => cases h; exact execFastConversion_leaves rfl
  case precWindowClose => cases h; exact execPrecWindowClose_leaves rfl (.inr (by simp))
  case precFlushExpiry => cases h; exact execPrecFlushExpiry_leaves rfl
  case ovrAssert => cases h; exact execOvrAssert_leaves rfl
  case ovrRelease => cases h; exact execOvrRelease_leaves rfl
  case rangeMakeEnd => cases h; exact execRangeMakeEnd_leaves rfl (.inr (by simp))
  case rangeParallelEnd => cases h; exact execRangeParallelEnd_leaves rfl
  case rangeBreakEnd => cases h; exact execRangeBreakEnd_leaves rfl
  case rangeGuardEnd => cases h; exact execRangeGuardEnd_leaves rfl
  case cmpTransition => cases h; exact execCmpTransition_leaves rfl (.inr (by simp))
  case cmpFirstDecision => cases h; exact execCmpFirstDecision_leaves rfl (.inr (by simp))
  case smStrobeStart => cases h; exact execSmStrobeStart_leaves rfl (.inr (by simp))
  case smStrobeDecision => cases h; exact execSmStrobeDecision_leaves rfl (.inr (by simp))
  case smStrobeEnd => cases h; exact execSmStrobeEnd_leaves rfl (.inr (by simp))
  case pgenCtrlStart => cases h; exact execPgenCtrlStart_leaves rfl
  case pgenCtrlStop => cases h; exact execPgenCtrlStop_leaves rfl
  case pgenCtrlRearm => cases h; exact execPgenCtrlRearm_leaves rfl
  case pgenCtrlTrip => cases h; exact execPgenCtrlTrip_leaves rfl
  case pgenRiseEdge => cases h; exact execPgenRiseEdge_leaves rfl (.inr (by simp))
  case pgenFallEdge => cases h; exact execPgenFallEdge_leaves rfl (.inr (by simp))
  case pgenGateEdge => cases h; exact execPgenGateEdge_leaves rfl (.inr (by simp))
  case pgenStart => cases h; exact execPgenStart_leaves rfl (.inr (by simp))
  case pgenStop => cases h; exact execPgenStop_leaves rfl (.inr (by simp))
  case pgenRearm => cases h; exact execPgenRearm_leaves rfl (.inr (by simp))
  case pgenTripIn => cases h; exact execPgenTripIn_leaves rfl (.inr (by simp))
  case dacStrike => cases h; exact execDacStrike_leaves rfl (.inr (by simp))
  case runStateStart => cases h; exact execRunStateStart_leaves rfl
  case runStateStop => cases h; exact execRunStateStop_leaves rfl
  case runStateAbort => cases h; exact execRunStateAbort_leaves rfl
  case queueSelection => cases h; exact execQueueSelection_leaves rfl
  case seqHold => cases h; exact execSeqHold_leaves rfl
  case seqArm => cases h; exact execSeqArm_leaves rfl (.inr (by simp))
  case pointInstant => cases h; exact execPointInstant_leaves rfl (.inr (by simp))
  case pointDone => cases h; exact execPointDone_leaves rfl
  case stallAgeUpdate => cases h; exact execStallAgeUpdate_leaves rfl
  case scanFrameStart => cases h; exact execScanFrameStart_leaves rfl
  case scanFrameEnd => cases h; exact execScanFrameEnd_leaves rfl
  case scnRetryExpiry => cases h; exact execScnRetryExpiry_leaves rfl
  case scanSettleEnd => cases h; exact execScanSettleEnd_leaves rfl
  case commit => cases h; exact execCommit_leaves rfl (.inr (by simp))
  all_goals cases h

/-- Settles O18: command by command, what its meaning can change lies within its footprint. -/
theorem frameOfUnits : Obligations.FrameOfUnits := by
  intro c t F s h
  cases c
  case pllLockLoss => cases h; exact execPllLockLoss_leaves rfl
  case refclkLost => cases h; exact execRefclkLost_leaves rfl
  case refclkReturn => cases h; exact execRefclkReturn_leaves rfl
  case taiSet => cases h; exact execTaiSet_leaves rfl
  case segmentBegin => cases h; exact execSegmentBegin_leaves rfl
  case ppsIn => cases h; exact execPpsIn_leaves rfl
  case ppsOutRise => cases h; exact execPpsOutRise_leaves rfl
  case ppsOutFall => cases h; exact execPpsOutFall_leaves rfl
  case ptpSync => cases h; exact execPtpSync_leaves rfl
  case ptpDelayResp => cases h; exact execPtpDelayResp_leaves rfl
  case disciplineTimeout => cases h; exact execDisciplineTimeout_leaves rfl
  case syncFrameTx => cases h; exact execSyncFrameTx_leaves rfl
  case syncFrameRx => cases h; exact execSyncFrameRx_leaves rfl
  case syncStreamLoss => cases h; exact execSyncStreamLoss_leaves rfl
  case syncReacquire => cases h; exact execSyncReacquire_leaves rfl
  case resync => cases h; exact execResync_leaves rfl
  case trigRise => cases h; exact execTrigRise_leaves rfl
  case trigFall => cases h; exact execTrigFall_leaves rfl
  case fire => cases h; exact execFire_leaves rfl (.inr (by simp))
  case tmr => cases h; exact execTmr_leaves rfl
  case dlyOut => cases h; exact execDlyOut_leaves rfl (.inr (by simp))
  case dlyFire => cases h; exact execDlyFire_leaves rfl (.inr (by simp))
  case ecInc => cases h; exact execEcInc_leaves rfl (.inr (by simp))
  case ecClr => cases h; exact execEcClr_leaves rfl (.inr (by simp))
  case trigOut => cases h; exact execTrigOut_leaves rfl
  case trigPulseEnd => cases h; exact execTrigPulseEnd_leaves rfl
  case gongDelivery => cases h; exact execGongDelivery_leaves rfl
  case chEn => cases h; exact execChEn_leaves rfl (.inr (by simp))
  case supervisionDue => cases h; exact execSupervisionDue_leaves rfl
  case mcReq => cases h; exact execMcReq_leaves rfl
  case mcSamplingInstant => cases h; exact execMcSamplingInstant_leaves rfl
  case mcConversionDone => cases h; exact execMcConversionDone_leaves rfl
  case mcPauseEnd => cases h; exact execMcPauseEnd_leaves rfl
  case mcQueueSpace => cases h; exact execMcQueueSpace_leaves rfl
  case pmbPoll => cases h; exact execPmbPoll_leaves rfl
  case pmbAlert => cases h; exact execPmbAlert_leaves rfl
  case pmbTransactionDone => cases h; exact execPmbTransactionDone_leaves rfl
  case railOn => cases h; exact execRailOn_leaves rfl (.inr (by simp))
  case railPgTimeout => cases h; exact execRailPgTimeout_leaves rfl
  case railDelayEnd => cases h; exact execRailDelayEnd_leaves rfl
  case fwImage => cases h; exact execFwImage_leaves rfl
  case fwStoreDone => cases h; exact execFwStoreDone_leaves rfl
  case activate => cases h; exact execActivate_leaves rfl
  case resetActivate => cases h; exact execResetActivate_leaves rfl
  case coreRestartDone => cases h; exact execCoreRestartDone_leaves rfl
  all_goals cases h

/-- Settles O19: command by command, what its meaning can change lies within its footprint. -/
theorem frameOfStores : Obligations.FrameOfStores := by
  intro c t F s h
  cases c
  case fabricAccess => cases h; exact execFabricAccess_leaves rfl
  case eccWriteback => cases h; exact execEccWriteback_leaves rfl
  case regionEn => cases h; exact execRegionEn_leaves rfl (.inr (by simp))
  case regionZeroDone => cases h; exact execRegionZeroDone_leaves rfl (.inr (by simp))
  case ringEn => cases h; exact execRingEn_leaves rfl (.inr (by simp))
  case ringBlockCommit => cases h; exact execRingBlockCommit_leaves rfl (.inr (by simp))
  case consHost => cases h; exact execConsHost_leaves rfl (.inr (by simp))
  case sapphireWipeEnd => cases h; exact execSapphireWipeEnd_leaves rfl
  case btBorrowStart => cases h; exact execBtBorrowStart_leaves rfl
  case btCopyEnd => cases h; exact execBtCopyEnd_leaves rfl
  case btTestEnd => cases h; exact execBtTestEnd_leaves rfl
  case btWritebackEnd => cases h; exact execBtWritebackEnd_leaves rfl
  case btRequest => cases h; exact execBtRequest_leaves rfl
  case jEn => cases h; exact execJEn_leaves rfl
  case storeInit => cases h; exact execStoreInit_leaves rfl
  case jFlushExpiry => cases h; exact execJFlushExpiry_leaves rfl
  case nvmeCmdComplete => cases h; exact execNvmeCmdComplete_leaves rfl
  case nvmeCmdTimeout => cases h; exact execNvmeCmdTimeout_leaves rfl
  case nvmeRetry => cases h; exact execNvmeRetry_leaves rfl
  case headerCommitDue => cases h; exact execHeaderCommitDue_leaves rfl
  case journalScanDone => cases h; exact execJournalScanDone_leaves rfl
  case checkpointDue => cases h; exact execCheckpointDue_leaves rfl
  case j2SnapDue => cases h; exact execJ2SnapDue_leaves rfl
  case offloaded => cases h; exact execOffloaded_leaves rfl
  case rpCtrlStart => cases h; exact execRpCtrlStart_leaves rfl
  case rpCtrlStop => cases h; exact execRpCtrlStop_leaves rfl
  case replaySeekDone => cases h; exact execReplaySeekDone_leaves rfl
  case replayChunkAvailable => cases h; exact execReplayChunkAvailable_leaves rfl
  case heldCommandEnqueue => cases h; exact execHeldCommandEnqueue_leaves rfl
  case odWrite => cases h; exact execOdWrite_leaves rfl
  case cfgSave => cases h; exact execCfgSave_leaves rfl
  case refXferReq => cases h; exact execRefXferReq_leaves rfl
  case refXferIntervalExpiry => cases h; exact execRefXferIntervalExpiry_leaves rfl
  case calRetryExpiry => cases h; exact execCalRetryExpiry_leaves rfl
  case xferStepEnd => cases h; exact execXferStepEnd_leaves rfl
  case calRunStepEnd => cases h; exact execCalRunStepEnd_leaves rfl
  case recordCommitDone => cases h; exact execRecordCommitDone_leaves rfl
  case rotTrigger => cases h; exact execRotTrigger_leaves rfl
  case rotRequest => cases h; exact execRotRequest_leaves rfl
  case rotMinGapEnd => cases h; exact execRotMinGapEnd_leaves rfl
  case rotShadowEnd => cases h; exact execRotShadowEnd_leaves rfl (.inr (by simp))
  case agreeTestEnd => cases h; exact execAgreeTestEnd_leaves rfl
  case transferSwap => cases h; exact execTransferSwap_leaves rfl
  case transferRelease => cases h; exact execTransferRelease_leaves rfl
  case transferEnd => cases h; exact execTransferEnd_leaves rfl
  case stressAccrue => cases h; exact execStressAccrue_leaves rfl
  case healthEval => cases h; exact execHealthEval_leaves rfl
  case healthCommitDue => cases h; exact execHealthCommitDue_leaves rfl
  case wornReq => cases h; exact execWornReq_leaves rfl
  case winNoticeEnd => cases h; exact execWinNoticeEnd_leaves rfl
  case go => cases h; exact execGo_leaves rfl
  case winAbort => cases h; exact execWinAbort_leaves rfl
  case voteWarmupEnd => cases h; exact execVoteWarmupEnd_leaves rfl
  case heartbeatMiss => cases h; exact execHeartbeatMiss_leaves rfl
  case coreFault => cases h; exact execCoreFault_leaves rfl
  case coreTakeoverDone => cases h; exact execCoreTakeoverDone_leaves rfl
  all_goals cases h

/-- Settles O20: command by command, what its meaning can change lies within its footprint. -/
theorem frameOfLinks : Obligations.FrameOfLinks := by
  intro c t F s h
  cases c
  case winLoRead => cases h; exact execWinLoRead_leaves rfl
  case winLoWrite => cases h; exact execWinLoWrite_leaves rfl
  case winHiWrite => cases h; exact execWinHiWrite_leaves rfl
  case winSpadWrite => cases h; exact execWinSpadWrite_leaves rfl
  case directWrite => cases h; exact execDirectWrite_leaves rfl
  case fetchadd => cases h; exact execFetchadd_leaves rfl
  case swap => cases h; exact execSwap_leaves rfl
  case pcieReset => cases h; exact execPcieReset_leaves rfl
  case flr => cases h; exact execFlr_leaves rfl
  case d3hot => cases h; exact execD3hot_leaves rfl
  case d0Entry => cases h; exact execD0Entry_leaves rfl
  case pcieLinkUp => cases h; exact execPcieLinkUp_leaves rfl
  case vfEnable => cases h; exact execVfEnable_leaves rfl
  case mbRead => cases h; exact execMbRead_leaves rfl
  case mbWrite => cases h; exact execMbWrite_leaves rfl
  case mbReadBlock => cases h; exact execMbReadBlock_leaves rfl
  case mbWriteBlock => cases h; exact execMbWriteBlock_leaves rfl
  case mbAbort => cases h; exact execMbAbort_leaves rfl
  case spadCopy => cases h; exact execSpadCopy_leaves rfl
  case mbResponse => cases h; exact execMbResponse_leaves rfl
  case dmaEn => cases h; exact execDmaEn_leaves rfl (.inr (by simp))
  case descTail => cases h; exact execDescTail_leaves rfl (.inr (by simp))
  case dmaBlockTransfer => cases h; exact execDmaBlockTransfer_leaves rfl (.inr (by simp))
  case dmaBlockAcked => cases h; exact execDmaBlockAcked_leaves rfl (.inr (by simp)) (.inr (by simp))
  case dmaFlushExpiry => cases h; exact execDmaFlushExpiry_leaves rfl (.inr (by simp))
  case descFetchError => cases h; exact execDescFetchError_leaves rfl (.inr (by simp))
  case nqEntryWrite => cases h; exact execNqEntryWrite_leaves rfl (.inr (by simp))
  case irqHoldoffEnd => cases h; exact execIrqHoldoffEnd_leaves rfl
  case vectorUnmask => cases h; exact execVectorUnmask_leaves rfl
  case ethFrameRx => cases h; exact execEthFrameRx_leaves rfl
  case bridgeBufferedSend => cases h; exact execBridgeBufferedSend_leaves rfl
  case t1lLinkChange => cases h; exact execT1lLinkChange_leaves rfl
  case canSegmentRx => cases h; exact execCanSegmentRx_leaves rfl
  case canSegmentTimeout => cases h; exact execCanSegmentTimeout_leaves rfl
  case canBusoff => cases h; exact execCanBusoff_leaves rfl
  case sessionOpen => cases h; exact execSessionOpen_leaves rfl
  case copRead => cases h; exact execCopRead_leaves rfl
  case copWrite => cases h; exact execCopWrite_leaves rfl
  case copReadBlock => cases h; exact execCopReadBlock_leaves rfl
  case copWriteBlock => cases h; exact execCopWriteBlock_leaves rfl
  case subscribe => cases h; exact execSubscribe_leaves rfl
  case copAbort => cases h; exact execCopAbort_leaves rfl
  case blockTransferTimeout => cases h; exact execBlockTransferTimeout_leaves rfl
  case sessionTimeout => cases h; exact execSessionTimeout_leaves rfl (.inr (by simp))
  case close => cases h; exact execClose_leaves rfl (.inr (by simp))
  case subscriptionRead => cases h; exact execSubscriptionRead_leaves rfl (.inr (by simp))
  case notify => cases h; exact execNotify_leaves rfl
  case legRead => cases h; exact execLegRead_leaves rfl
  case legWrite => cases h; exact execLegWrite_leaves rfl
  all_goals cases h

/-- Settles O21: command by command, what its meaning can change lies within its footprint. -/
theorem frameOfPowerAndSecurity : Obligations.FrameOfPowerAndSecurity := by
  intro c t F s h
  cases c
  case powerOn => cases h; exact execPowerOn_leaves rfl
  case resetNLow => cases h; exact execResetNLow_leaves rfl
  case brownOut => cases h; exact execBrownOut_leaves rfl
  case analogSupplyLoss => cases h; exact execAnalogSupplyLoss_leaves rfl
  case analogSupplyValid => cases h; exact execAnalogSupplyValid_leaves rfl
  case outputStageOn => cases h; exact execOutputStageOn_leaves rfl
  case bootStepComplete => cases h; exact execBootStepComplete_leaves rfl
  case pllLock => cases h; exact execPllLock_leaves rfl
  case scratchpadClearEnd => cases h; exact execScratchpadClearEnd_leaves rfl
  case powerReqRun => cases h; exact execPowerReqRun_leaves rfl
  case powerReqIdle => cases h; exact execPowerReqIdle_leaves rfl
  case powerReqStandby => cases h; exact execPowerReqStandby_leaves rfl
  case powerReqReset => cases h; exact execPowerReqReset_leaves rfl
  case wake => cases h; exact execWake_leaves rfl
  case pfwNFall => cases h; exact execPfwNFall_leaves rfl
  case pfwNRise => cases h; exact execPfwNRise_leaves rfl
  case resetNRise => cases h; exact execResetNRise_leaves rfl
  case internalResetRelease => cases h; exact execInternalResetRelease_leaves rfl
  case quiesce => cases h; exact execQuiesce_leaves rfl
  case release => cases h; exact execRelease_leaves rfl
  case gate => cases h; exact execGate_leaves rfl
  case ungate => cases h; exact execUngate_leaves rfl
  case gateStepEnd => cases h; exact execGateStepEnd_leaves rfl
  case secHolders => cases h; exact execSecHolders_leaves rfl
  case ownAssign => cases h; exact execOwnAssign_leaves rfl
  case deviceClaim => cases h; exact execDeviceClaim_leaves rfl
  case svnLock => cases h; exact execSvnLock_leaves rfl
  case key => cases h; exact execKey_leaves rfl (.inr (by simp))
  case keyRevoke => cases h; exact execKeyRevoke_leaves rfl (.inr (by simp))
  case rngHealthFail => cases h; exact execRngHealthFail_leaves rfl
  case tamper => cases h; exact execTamper_leaves rfl
  case lcReq => cases h; exact execLcReq_leaves rfl
  case lcConfirm => cases h; exact execLcConfirm_leaves rfl
  case lcReqTimeout => cases h; exact execLcReqTimeout_leaves rfl
  case lcStepEnd => cases h; exact execLcStepEnd_leaves rfl
  all_goals cases h

/-- The five frames divide the command table among themselves: every command has its footprint in one of them. -/
theorem hasFoot (c : Instr) :
    c.portFoot.isSome ∨ c.unitFoot.isSome ∨ c.storeFoot.isSome ∨ c.linkFoot.isSome ∨ c.guardFoot.isSome := by
  cases c <;> simp [Instr.portFoot, Instr.unitFoot, Instr.storeFoot, Instr.linkFoot, Instr.guardFoot]

/-- Every command completes, and what it changes before the block settles lies within some footprint. -/
theorem exec_leaves (c : Instr) (s : State) : ∃ (t : Tick) (F : Foot) (u : State), exec c s = .next u.settle ∧ F.leaves (s.advance t) u := by
  obtain h | h | h | h | h := hasFoot c <;> obtain ⟨⟨t, F⟩, h⟩ := Option.isSome_iff_exists.mp h
  · exact ⟨t, F, frameOfPorts c t F s h⟩
  · exact ⟨t, F, frameOfUnits c t F s h⟩
  · exact ⟨t, F, frameOfStores c t F s h⟩
  · exact ⟨t, F, frameOfLinks c t F s h⟩
  · exact ⟨t, F, frameOfPowerAndSecurity c t F s h⟩

/-- A command leaves the queue alone and keeps the tables in their canonical form: so do the passage of time before it, its own footprint, and the
settling after it. -/
theorem exec_keeps {c : Instr} {s u : State} (h : exec c s = .next u) : u.pending = s.pending ∧ (s.tablesOk = true → u.tablesOk = true) := by
  obtain ⟨t, F, v, hv, hleaves⟩ := exec_leaves c s
  obtain rfl : v.settle = u := by simpa [hv] using h
  have before : Foot.any.leaves s (s.advance t) := advance_leaves .refl (by decide)
  have after : Foot.any.leaves v v.settle := settle_leaves .refl (by decide)
  exact ⟨after.queue.trans (hleaves.queue.trans before.queue), fun ok => after.tables (hleaves.tables (before.tables ok))⟩

/-- A step with a command waiting is that command's. -/
theorem step_of_pending {c : Instr} {s : State} {rest : List Instr} (h : s.pending = c :: rest) : step s = exec c { s with pending := rest } := by
  simp [step, h]

/-- A step with no command waiting changes nothing. -/
theorem step_of_empty {s : State} (h : s.pending = []) : step s = .next s := by
  simp [step, h]

/-- Settles O1, by the definition of a step. -/
theorem stepRunsFrontCommand : Obligations.StepRunsFrontCommand := fun _ _ _ h => step_of_pending h

/-- Settles O2, by the definition of a step. -/
theorem emptyQueueIdles : Obligations.EmptyQueueIdles := fun _ h => step_of_empty h

/-- Settles O3: the reset state has empty tables, so every entry and every word reads its default. -/
theorem resetHoldsItsValues : Obligations.ResetHoldsItsValues :=
  ⟨fun _ => rfl, fun _ => rfl, rfl, rfl, rfl⟩

/-- Settles O4, from the frames: a step is idle or runs one command. -/
theorem everyStepKeepsTheTables : Obligations.EveryStepKeepsTheTables := by
  intro s u ok h
  cases hp : s.pending with
  | nil =>
    obtain rfl : s = u := by simpa [step_of_empty hp] using h
    exact ok
  | cons c rest => exact (exec_keeps ((step_of_pending hp).symm.trans h)).2 ok

/-- Settles O5, from the frames: no command touches the queue. -/
theorem stepTakesOneCommand : Obligations.StepTakesOneCommand := by
  intro s u h
  cases hp : s.pending with
  | nil =>
    obtain rfl : s = u := by simpa [step_of_empty hp] using h
    exact hp
  | cons c rest => exact (exec_keeps ((step_of_pending hp).symm.trans h)).1

end Sys2Proof
end

section
/-!
Refusals and ownership: O6, O7.
-/

namespace Sys2Proof.Machine
namespace State

variable {s : State} {who key e i v g p : Nat} {t : Tick}

/-! ### Refusals (R343, R345) -/

/-- A refusal writes four entries of the device record, and no other. -/
theorem reg_refuse {k : Nat} (h1 : k ≠ Dv.LAST_ABORT) (h2 : k ≠ Dv.LAST_ABORT_ENTRY) (h3 : k ≠ Dv.OD_STATUS) (h4 : k ≠ Dv.OD_ACCESSES) :
    (s.refuse who key e).reg k = s.reg k :=
  BitVec.eq_of_toNat_eq (rN_refuse s who key e h4 h1 h2 h3)

/-- The record of a refusal, before the access is counted and answered. -/
def abortRecorded (s : State) (who key e : Nat) : State :=
  ((s.set Dv.LAST_ABORT e).set Dv.LAST_ABORT_ENTRY (key / 256 * 65536 + key % 256 * 256 + who)).setBit Dv.OD_STATUS OdStatus.ABORT_SEEN true

theorem rN_refuse_recorded {k : Nat} (h : k ≠ Dv.OD_ACCESSES) : (s.refuse who key e).rN k = (s.abortRecorded who key e).rN k := rN_set_ne _ _ h

theorem bit_refuse_recorded {k : Nat} (h : k ≠ Dv.OD_ACCESSES) : (s.refuse who key e).bit k i = (s.abortRecorded who key e).bit k i :=
  bit_set_ne _ _ i h

theorem refuse_sets_abortSeen : (s.refuse who key e).bit Dv.OD_STATUS OdStatus.ABORT_SEEN = true :=
  (bit_refuse_recorded (by decide)).trans (bit_setBit_same _ _ _ (by decide))

theorem refuse_keeps_other_status (h : i ≠ OdStatus.ABORT_SEEN) : (s.refuse who key e).bit Dv.OD_STATUS i = s.bit Dv.OD_STATUS i := by
  rw [bit_refuse_recorded (by decide), abortRecorded, bit_setBit_other _ _ _ h, bit_set_ne _ _ _ (by decide), bit_set_ne _ _ _ (by decide)]

theorem rN_refuse_lastAbort (he : e < 2 ^ 64) : (s.refuse who key e).rN Dv.LAST_ABORT = e := by
  rw [rN_refuse_recorded (by decide), abortRecorded, rN_setBit_ne _ _ _ (by decide), rN_set_ne _ _ (by decide), rN_set_same _ he]

theorem rN_refuse_lastAbortEntry (hv : key / 256 * 65536 + key % 256 * 256 + who < 2 ^ 64) :
    (s.refuse who key e).rN Dv.LAST_ABORT_ENTRY = key / 256 * 65536 + key % 256 * 256 + who := by
  rw [rN_refuse_recorded (by decide), abortRecorded, rN_setBit_ne _ _ _ (by decide), rN_set_same _ hv]

/-- A count of 32 bits that wraps. -/
theorem rN_wrapInc_same {k : Nat} : (s.wrapInc k 32 1).rN k = (s.rN k + 1) % 4294967296 :=
  rN_set_same _ (by unfold wrapAdd; omega)

theorem rN_refuse_accesses : (s.refuse who key e).rN Dv.OD_ACCESSES = (s.rN Dv.OD_ACCESSES + 1) % 4294967296 := by
  have hkept : (s.abortRecorded who key e).rN Dv.OD_ACCESSES = s.rN Dv.OD_ACCESSES := by
    rw [abortRecorded, rN_setBit_ne _ _ _ (by decide), rN_set_ne _ _ (by decide), rN_set_ne _ _ (by decide)]
  exact (rN_wrapInc_same (s := s.abortRecorded who key e)).trans (by rw [hkept])

/-! ### The counterexample to O7 -/

/-- A device in normal service whose port 0 has an owner number that the entry cannot hold (R344 knows 23): with it the ownership abort of the port is
one of the device-state aborts. -/
def oversizedOwner : State := { (State.reset.set Pw.POWER_STATE 2).set (Pt.OWNER 0) 0x01010000 with pwr := { boot := 11 } }

/-- The outcome's state has REFUSED of port 0 set. -/
def refusedSeen : Out → Bool
  | .next u => u.bit (Pt.PORT_STATUS 0) PortStatus.REFUSED
  | _ => false

end State
end Sys2Proof.Machine
namespace Sys2Proof
open Machine State

/-- Settles O6, by the entries that a refusal writes. -/
theorem refusalChangesOnlyTheAbortRecord : Obligations.RefusalChangesOnlyTheAbortRecord := by
  intro s who key e hwho hkey he
  refine ⟨fun k h1 h2 h3 h4 => reg_refuse h1 h2 h3 h4, rN_refuse_lastAbort (by omega), rN_refuse_lastAbortEntry (by omega),
    refuse_sets_abortSeen, fun i h => refuse_keeps_other_status h, rN_refuse_accesses, refuse_resp s who key e, ?_⟩
  and_intros <;> rfl

/-- Refutes O7: the statement bounds no owner number, and 0x04010000 + 0x01010000 is the device-state abort 0x05020000. An ENABLE by another
principal is then refused with that code, and PORT_CTRL marks a refusal for a device-state reason in REFUSED of PORT_STATUS: the outcome is not the
bare refusal. -/
theorem not_onlyTheOwnerCommands : ¬ Obligations.OnlyTheOwnerCommands := by
  intro h
  have hout := (h (.enable 0 3 0) oversizedOwner 0 3 (Pt.PORT_CTRL 0) rfl (by decide +kernel) 0x05020000 (by decide +kernel)).2
  have hmarked : refusedSeen (exec (.enable 0 3 0) oversizedOwner) = true := by decide +kernel
  have hbare : refusedSeen (.next ((oversizedOwner.advance 0).refuse 3 (Pt.PORT_CTRL 0) 0x05020000).settle) = false := by decide +kernel
  rw [hout, hbare] at hmarked
  exact Bool.false_ne_true hmarked

end Sys2Proof
end

section
/-!
Commands of a device that does not serve: O8.
-/

namespace Sys2Proof
open Machine State

/-- A command entry's write passes the gate of `cmdRun`, with its own checks, mark and effect. -/
theorem exec_request {c : Instr} {s : State} {t : Tick} {who key : Nat} (h : c.request = some (t, who, key)) :
    ∃ (own chk : State → Option Nat) (mark : Nat → State → State) (eff : State → State),
      exec c s = .next (cmdRun who key own chk mark eff (s.advance t)).settle := by
  cases c <;> cases h <;> exact ⟨_, _, _, _, rfl⟩

/-- Settles O8: a write that does not reach a served entry stops at the gate (the model's choice, log 7). -/
theorem unservedCommandsDoNothing : Obligations.UnservedCommandsDoNothing := by
  intro c s t who key h a hr
  obtain ⟨own, chk, mark, eff, hexec⟩ := exec_request (s := s) h
  rw [hexec, cmdRun_unserved hr]

end Sys2Proof
end

section
/-!
The claim of the device and SEC_HOLDERS: O9, O10.
-/

namespace Sys2Proof.Machine
namespace State

variable {s : State} {who key v j k w lo n : Nat} {x : Nat × Nat × Nat} {sec was now_ : Bool} {t : Tick}

/-! ### A change of owner leaves the device record alone but for its own entries (R447, R231) -/

/-- No entry of the device record holds a link to a channel. -/
theorem linkBroken_device (h : recOf (key / 256) = some (.dv, 0)) : s.linkBroken key v = none := by
  simp [linkBroken, bindField, h]

theorem reg_strikeLost : (s.strikeLost w).reg j = s.reg j := by
  unfold strikeLost when
  split <;> rfl

/-- A key of the device record lies in no port's record. -/
theorem gongAction_ne (hj : j / 256 = 0x2000) : j ≠ Pt.GONG_ACTION n := by
  rintro rfl
  unfold Pt.GONG_ACTION at hj
  omega

theorem reg_forAll {f : Nat → State → State} (h : ∀ (i : Nat) (u : State), State.reg (f i u) j = u.reg j) : (s.forAll n f).reg j = s.reg j :=
  List.foldlRecOn (motive := fun u : State => u.reg j = s.reg j) _ _ rfl fun (u : State) hu i _ => (h i u).trans hu

theorem reg_releaseBindings_device (hj : j / 256 = 0x2000) : s.releaseBindings.reg j = s.reg j := by
  unfold releaseBindings
  refine (reg_forAll fun p u => ?_).trans ?_
  · split
    · rfl
    · exact reg_strikeLost.trans (reg_set_ne _ _ (gongAction_ne hj))
  · refine List.foldlRecOn (motive := fun u : State => u.reg j = s.reg j) _ _ rfl fun u hu e he => ?_
    have hne : j ≠ e.1 := by
      rintro rfl
      obtain ⟨b, -, hb⟩ := List.mem_filterMap.mp he
      obtain ⟨x, hx, rfl⟩ := Option.map_eq_some_iff.mp hb
      rw [linkBroken_device (by rw [hj]; rfl)] at hx
      cases hx
    have hset : (u.setFld e.1 e.2.1 e.2.2.1 e.2.2.2).reg j = u.reg j := reg_setFld_ne _ _ _ _ hne
    dsimp only
    split
    · exact reg_strikeLost.trans (hset.trans hu)
    · exact hset.trans hu

/-- The device is no region and no ring. -/
theorem ownZero_device : s.ownZero 0x2000 was now_ = s := by
  unfold ownZero
  split <;> rfl

theorem reg_dirty_device (hj : j / 256 = 0x2000) (hc : j ≠ Dv.CFG_STATE) : (s.dirty who key v).reg j = s.reg j := by
  have hgap : j ≠ Rc.GAP_COUNT := by rintro rfl; revert hj; decide
  have hstat : j ≠ Rc.J_STATUS := by rintro rfl; revert hj; decide
  refine (reg_journal _ _ _ _ _ _ hgap hstat).trans ?_
  unfold markDirty when
  split
  · exact reg_set_ne _ _ hc
  · rfl

theorem reg_lcCancel_ne (hj : j ≠ Se.SEC_STATUS) : s.lcCancel.reg j = s.reg j := reg_setBit_ne _ _ _ hj

/-- A new owner of the device: of its record only OWNER, SEC and CFG_STATE change. -/
theorem reg_ownSet_device (hj : j / 256 = 0x2000) (hc : j ≠ Dv.CFG_STATE) :
    (s.ownSet 0x2000 w sec t).reg j = ((s.set Dv.OWNER w).set Dv.SEC sec.toNat).reg j := by
  have hse : j ≠ Se.SEC_STATUS := by rintro rfl; revert hj; decide
  have hkeys : scopeKeys 0x2000 = some (Dv.OWNER, some Dv.SEC) := by decide
  have hrec : recOf 0x2000 = some (.dv, 0) := by decide
  simp only [ownSet, hkeys, hrec, setScopeSec]
  refine (reg_dirty_device hj hc).trans ((reg_setBit_ne _ _ _ hse).trans ?_)
  have hcancel : ∀ c : Prop, [Decidable c] → ∀ u : State, (if c then u.lcCancel else u).reg j = u.reg j := by
    intro c _ u
    split
    · exact reg_lcCancel_ne hse
    · rfl
  split
  · exact hcancel _ _
  · rw [ownZero_device, reg_releaseBindings_device hj]
    exact hcancel _ _

theorem rN_ownSet_device_owner (hw : w < 2 ^ 64) : (s.ownSet 0x2000 w sec t).rN Dv.OWNER = w := by
  rw [rN, reg_ownSet_device (by decide) (by decide)]
  exact (rN_set_ne _ _ (by decide)).trans (rN_set_same _ hw)

theorem rN_ownSet_device_sec : (s.ownSet 0x2000 w false t).rN Dv.SEC = 0 := by
  rw [rN, reg_ownSet_device (by decide) (by decide)]
  exact rN_set_same _ (by decide)

/-! ### A write by a principal that a rule names -/

theorem cmdWriteBy_refused {own chk : State → Option Nat} {mark : Nat → State → State} {eff : State → State} {e : Nat}
    (hr : s.reaches who key = true) (h : s.writeAbort who key (own s) (chk s) = some e) :
    cmdWriteBy who key v own chk mark eff s = (mark e s).refuse who key e :=
  cmdRun_refused hr h

theorem cmdWriteBy_done {own chk : State → Option Nat} {mark : Nat → State → State} {eff : State → State}
    (hr : s.reaches who key = true) (h : s.writeAbort who key (own s) (chk s) = none) :
    cmdWriteBy who key v own chk mark eff s = s.completes who key v eff :=
  cmdRun_done (eff := fun s => (eff (s.jConfig key who v)).accept who key []) hr h

/-! ### The claim of the device (R449) -/

theorem claimOwner_granted (hlc : s.rN Id.LIFE_CYCLE ≠ 4) (ho : s.rN Dv.OWNER = 0)
    (hmay : who = 1 ∨ (18 ≤ who ∧ who ≤ 21 ∧ (s.session (who - 18)).isSome = true)) : s.claimOwner who = none := by
  simp only [claimOwner, hlc, ho, if_false, ne_eq, not_true_eq_false]
  exact if_pos hmay

theorem claimOwner_refused (hlc : s.rN Id.LIFE_CYCLE ≠ 4)
    (hno : s.rN Dv.OWNER ≠ 0 ∨ ¬(who = 1 ∨ (18 ≤ who ∧ who ≤ 21 ∧ (s.session (who - 18)).isSome = true))) :
    s.claimOwner who = some (0x04010000 + s.rN Dv.OWNER) := by
  simp only [claimOwner, hlc, if_false]
  split
  · rfl
  next ho => rw [if_neg (hno.resolve_left ho)]; rfl

theorem claimOwner_decommissioned (hlc : s.rN Id.LIFE_CYCLE = 4) : s.claimOwner who = some 0x05030004 := by
  simp only [claimOwner, hlc, if_true]; rfl

/-- Only DECOMMISSIONED locks DEVICE_CLAIM (R458). -/
theorem lockAbort_claim (hlc : s.rN Id.LIFE_CYCLE ≠ 4) : s.lockAbort who Se.DEVICE_CLAIM = none := by
  have hrec : recOf (Se.DEVICE_CLAIM / 256) = some (.se, 0) := by decide
  simp [lockAbort, lcLocked, hlc, hrec]

theorem claimWrite_refused (hr : s.reaches who Se.DEVICE_CLAIM = true) {e : Nat} (he : s.claimOwner who = some e) :
    claimWrite who 1 t s = s.refuse who Se.DEVICE_CLAIM e := by
  have h : s.writeAbort who Se.DEVICE_CLAIM (s.claimOwner who) (oneOnly Se.DEVICE_CLAIM 1) = some e := by simp [writeAbort, orElse', he]
  unfold claimWrite
  exact cmdWriteBy_refused (own := fun s => s.claimOwner who) (chk := fun _ => oneOnly Se.DEVICE_CLAIM 1) (mark := noMark) hr h

theorem claimWrite_done (hr : s.reaches who Se.DEVICE_CLAIM = true) (hu : s.inUse Se.DEVICE_CLAIM = false)
    (hi : s.idleKey Se.DEVICE_CLAIM = false) (hlc : s.rN Id.LIFE_CYCLE ≠ 4) (he : s.claimOwner who = none) :
    claimWrite who 1 t s = s.completes who Se.DEVICE_CLAIM 1 fun x =>
      (x.ownSet 0x2000 who false t).setBit Se.SEC_STATUS SecStatus.CLAIMED true := by
  have h : s.writeAbort who Se.DEVICE_CLAIM (s.claimOwner who) (oneOnly Se.DEVICE_CLAIM 1) = none := by
    simp [writeAbort, orElse', he, useAbort, hu, lockAbort_claim hlc, stateAbort, hi, oneOnly, rangeIf]
  unfold claimWrite
  exact cmdWriteBy_done (own := fun s => s.claimOwner who) (chk := fun _ => oneOnly Se.DEVICE_CLAIM 1) (mark := noMark) hr h

/-! ### SEC_HOLDERS (R446) -/

theorem secHolder_eq_bit : s.secHolder k = s.bit Se.SEC_HOLDERS k := rfl

theorem holdersAbort_of_taken (h : ∃ k, 0 < k ∧ k < 22 ∧ bitOf (s.rN Se.SEC_HOLDERS) k = true ∧ bitOf v k = false ∧ s.ownsSecure k = true) :
    s.holdersAbort v = some 0x05010000 := by
  obtain ⟨k, h0, h22, hold, hnew, hown⟩ := h
  have hany : (List.range 22).any (fun k => decide (0 < k) && bitOf (s.rN Se.SEC_HOLDERS) k && !bitOf v k && s.ownsSecure k) = true :=
    List.any_eq_true.mpr ⟨k, List.mem_range.mpr h22, by simp [h0, hold, hnew, hown]⟩
  exact if_pos hany

theorem holdersAbort_of_not_taken
    (h : ∀ k, ¬(0 < k ∧ k < 22 ∧ bitOf (s.rN Se.SEC_HOLDERS) k = true ∧ bitOf v k = false ∧ s.ownsSecure k = true)) :
    s.holdersAbort v = if field v 22 10 ≠ 0 then some (Abort.valueRange 1) else none := by
  refine if_neg fun hany => ?_
  obtain ⟨k, hk, hc⟩ := List.any_eq_true.mp hany
  simp only [Bool.and_eq_true, decide_eq_true_eq, Bool.not_eq_true'] at hc
  obtain ⟨⟨⟨h0, hold⟩, hnew⟩, hown⟩ := hc
  exact h k ⟨h0, List.mem_range.mp hk, hold, hnew, hown⟩

theorem field_eq_zero_of_lt (hv : v < 2 ^ lo) : field v lo w = 0 := by
  rw [field, Nat.shiftRight_eq_div_pow, Nat.div_eq_of_lt hv, Nat.zero_mod]

/-- A value of bit 22 has a bit set where no principal is. -/
theorem field_ne_zero_of_bit (hb : bitOf v 22 = true) : field v 22 10 ≠ 0 := by
  intro h
  have : (field v 22 10).testBit 0 = true := by
    rw [field, Nat.testBit_mod_two_pow, Nat.testBit_shiftRight]
    simpa [bitOf] using hb
  simp [h] at this

theorem secHoldersWrite_done (h : s.grants who Se.SEC_HOLDERS = true) (hc : s.holdersAbort v = none) :
    secHoldersWrite who v s = s.completes who Se.SEC_HOLDERS v fun x => (x.set Se.SEC_HOLDERS (v ||| 1)).markDirty :=
  cmdWrite_done h hc

theorem secHoldersWrite_refused {e : Nat} (h : s.grants who Se.SEC_HOLDERS = true) (hc : s.holdersAbort v = some e) :
    secHoldersWrite who v s = s.refuse who Se.SEC_HOLDERS e :=
  cmdWrite_refused h hc

theorem rN_markDirty_ne (h : j ≠ Dv.CFG_STATE) : s.markDirty.rN j = s.rN j := by
  unfold markDirty when
  split
  · exact rN_set_ne _ _ h
  · rfl

/-- SEC_HOLDERS names no S channel, so its check 5 is the device owner's alone (R344). -/
theorem ownerAbort_secHolders (hrec : s.bit Fw.FW_STATUS FwStatus.RECOVERY = false) (ho : s.ownerOf Se.SEC_HOLDERS ≠ who) :
    s.ownerAbort who Se.SEC_HOLDERS = some (0x04010000 + s.ownerOf Se.SEC_HOLDERS) := by
  have hch : recOf (Se.SEC_HOLDERS / 256) = some (.se, 0) := by decide
  simp [ownerAbort, secChannel, hch, ho, hrec, Abort.ownership]

theorem secHoldersWrite_refused_owner (hr : s.reaches who Se.SEC_HOLDERS = true) (hrec : s.bit Fw.FW_STATUS FwStatus.RECOVERY = false)
    (ho : s.ownerOf Se.SEC_HOLDERS ≠ who) :
    secHoldersWrite who v s = s.refuse who Se.SEC_HOLDERS (0x04010000 + s.ownerOf Se.SEC_HOLDERS) := by
  have h : s.writeAbort who Se.SEC_HOLDERS (s.ownerAbort who Se.SEC_HOLDERS) (s.holdersAbort v) = some (0x04010000 + s.ownerOf Se.SEC_HOLDERS) := by
    simp [writeAbort, orElse', ownerAbort_secHolders hrec ho]
  unfold secHoldersWrite cmdWrite
  exact cmdWriteBy_refused (own := fun s => s.ownerAbort who Se.SEC_HOLDERS) (chk := fun s => s.holdersAbort v) (mark := noMark) hr h

theorem lockAbort_secHolders (hlc : s.rN Id.LIFE_CYCLE = 2 ∨ s.rN Id.LIFE_CYCLE = 4) :
    s.lockAbort who Se.SEC_HOLDERS = some (0x05030000 + s.rN Id.LIFE_CYCLE) := by
  rcases hlc with hlc | hlc <;> simp [lockAbort, lcLocked, hlc, Abort.lifeCycle]

theorem secHoldersWrite_refused_locked (hr : s.reaches who Se.SEC_HOLDERS = true) (hu : s.inUse Se.SEC_HOLDERS = false)
    (ho : s.ownerOf Se.SEC_HOLDERS = who) (hlc : s.rN Id.LIFE_CYCLE = 2 ∨ s.rN Id.LIFE_CYCLE = 4) :
    secHoldersWrite who v s = s.refuse who Se.SEC_HOLDERS (0x05030000 + s.rN Id.LIFE_CYCLE) := by
  have hch : recOf (Se.SEC_HOLDERS / 256) = some (.se, 0) := by decide
  have hown : s.ownerAbort who Se.SEC_HOLDERS = none := by simp [ownerAbort, secChannel, hch, ho]
  have h : s.writeAbort who Se.SEC_HOLDERS (s.ownerAbort who Se.SEC_HOLDERS) (s.holdersAbort v) = some (0x05030000 + s.rN Id.LIFE_CYCLE) := by
    simp [writeAbort, orElse', hown, useAbort, hu, lockAbort_secHolders hlc]
  unfold secHoldersWrite cmdWrite
  exact cmdWriteBy_refused (own := fun s => s.ownerAbort who Se.SEC_HOLDERS) (chk := fun s => s.holdersAbort v) (mark := noMark) hr h

end State
end Sys2Proof.Machine
namespace Sys2Proof
open Machine State

/-- Settles O9: check 5 of DEVICE_CLAIM, and the new owner, which the release of broken links leaves in place. -/
theorem deviceClaimRule : Obligations.DeviceClaimRule := by
  intro s t who a key may hreach huse hidle
  have hwho : who.val < 2 ^ 64 := Nat.lt_trans who.isLt (by decide)
  refine ⟨fun hlc ho hmay => ⟨_, run_eq_of_effect (claimWrite_done hreach huse hidle hlc (claimOwner_granted hlc ho hmay)), ?_, ?_, ?_⟩,
    fun hlc ho hmay _ => ?_, fun hlc ho => run_eq_of_effect (claimWrite_refused hreach (claimOwner_refused hlc (.inl ho))),
    fun hlc => run_eq_of_effect (claimWrite_refused hreach (claimOwner_decommissioned hlc))⟩
  · exact (rN_setBit_ne _ _ _ (by decide)).trans (rN_ownSet_device_owner hwho)
  · exact (rN_setBit_ne _ _ _ (by decide)).trans rN_ownSet_device_sec
  · exact bit_setBit_same _ _ _ (by decide)
  · have hown := claimOwner_refused (s := a) hlc (.inr hmay)
    rw [ho] at hown
    exact run_eq_of_effect (claimWrite_refused hreach hown)

/-- Settles O10, by the order of the checks of SEC_HOLDERS. -/
theorem secHoldersRule : Obligations.SecHoldersRule := by
  intro s t who v a key takes
  refine ⟨fun _ => secHolder_eq_bit, ?stores, ?noPrincipal, ?inUse, ?notOwner, ?locked⟩
  case stores =>
    intro hg hv hno
    have hc : a.holdersAbort v = none := by rw [holdersAbort_of_not_taken hno, field_eq_zero_of_lt (lo := 22) hv]; rfl
    have hlt : v ||| 1 < 2 ^ 22 := Nat.or_lt_two_pow hv (by decide)
    have hval : ((a.jConfig key who v).set key (v ||| 1)).markDirty.rN key = v ||| 1 :=
      (rN_markDirty_ne (by decide)).trans (rN_set_same _ (hlt.trans (Nat.pow_lt_pow_right (by decide) (by decide))))
    refine ⟨_, run_eq_of_effect (eff := fun _ x => secHoldersWrite who v x) (secHoldersWrite_done hg hc), hval, ?_, ?_⟩
    · rw [hval]
      simp [bitOf]
    · rw [hval]
      exact Nat.testBit_lt_two_pow hlt
  case noPrincipal =>
    intro hg hno _ hb
    exact run_eq_of_effect (eff := fun _ x => secHoldersWrite who v x)
      (secHoldersWrite_refused hg ((holdersAbort_of_not_taken hno).trans (if_pos (field_ne_zero_of_bit hb))))
  case inUse => exact fun hg ht => run_eq_of_effect (eff := fun _ x => secHoldersWrite who v x) (secHoldersWrite_refused hg (holdersAbort_of_taken ht))
  case notOwner => exact fun hr hrec ho => run_eq_of_effect (eff := fun _ x => secHoldersWrite who v x) (secHoldersWrite_refused_owner hr hrec ho)
  case locked => exact fun hr hu ho hlc => run_eq_of_effect (eff := fun _ x => secHoldersWrite who v x) (secHoldersWrite_refused_locked hr hu ho hlc)

end Sys2Proof
end

section
/-!
Power requests, the wake and power-fail inputs, resets: O22, O23.
-/

namespace Sys2Proof.Machine
namespace State

variable {s : State} {who v w n : Nat} {t : Tick}

/-! ### POWER_REQ (R417, R419) -/

theorem powerReq_done (h : s.grants who Pw.POWER_REQ = true) (hc : s.powerCheck v = none) :
    powerReq who v t s = s.completes who Pw.POWER_REQ v fun x => x.powerDo v t :=
  cmdWrite_done h hc

theorem powerReq_refused (h : s.grants who Pw.POWER_REQ = true) (hc : s.powerCheck v = some 0x05020006) :
    powerReq who v t s = s.refuse who Pw.POWER_REQ 0x05020006 :=
  cmdWrite_refused h hc

@[simp] theorem powerState_jConfig {key : Nat} : (s.jConfig key who v).rN Pw.POWER_STATE = s.rN Pw.POWER_STATE :=
  rN_jConfig (by decide) (by decide)

theorem powerReq_run_in_idle (h : s.grants who Pw.POWER_REQ = true) (hs : s.rN Pw.POWER_STATE = 4) :
    powerReq who 1 t s = s.completes who Pw.POWER_REQ 1 fun x => x.idleWake t := by
  rw [powerReq_done h (by simp [powerCheck, hs, rangeIf])]
  exact completes_congr (by simp [powerDo, hs])

theorem powerReq_run_in_toIdle (h : s.grants who Pw.POWER_REQ = true) (hs : s.rN Pw.POWER_STATE = 3) :
    powerReq who 1 t s = s.completes who Pw.POWER_REQ 1 fun x => x.setBit Pw.PWR_STATUS PwrStatus.WAKE_PENDING true := by
  rw [powerReq_done h (by simp [powerCheck, hs, rangeIf])]
  exact completes_congr (by simp [powerDo, hs])

theorem powerReq_run_refused (h : s.grants who Pw.POWER_REQ = true) (hs : s.rN Pw.POWER_STATE ∉ [3, 4]) :
    powerReq who 1 t s = s.refuse who Pw.POWER_REQ 0x05020006 :=
  powerReq_refused h (by simp_all [powerCheck, Abort.deviceState])

theorem powerReq_idle_lowers (h : s.grants who Pw.POWER_REQ = true) (hs : s.rN Pw.POWER_STATE ∈ [2, 3]) :
    powerReq who 2 t s = s.completes who Pw.POWER_REQ 2 fun x => x.powerLower 2 t :=
  powerReq_done h (by simp_all [powerCheck, rangeIf])

theorem powerReq_idle_refused (h : s.grants who Pw.POWER_REQ = true) (hs : s.rN Pw.POWER_STATE ∉ [2, 3]) :
    powerReq who 2 t s = s.refuse who Pw.POWER_REQ 0x05020006 :=
  powerReq_refused h (by simp_all [powerCheck, Abort.deviceState])

theorem powerReq_standby_lowers (h : s.grants who Pw.POWER_REQ = true) (hs : s.rN Pw.POWER_STATE ∈ [2, 3, 4]) :
    powerReq who 3 t s = s.completes who Pw.POWER_REQ 3 fun x => x.powerLower 3 t :=
  powerReq_done h (by simp_all [powerCheck, rangeIf])

theorem powerReq_standby_refused (h : s.grants who Pw.POWER_REQ = true) (hs : s.rN Pw.POWER_STATE ∉ [2, 3, 4]) :
    powerReq who 3 t s = s.refuse who Pw.POWER_REQ 0x05020006 :=
  powerReq_refused h (by simp_all [powerCheck, Abort.deviceState])

/-- RESET is taken in every power state. -/
theorem powerReq_resets (h : s.grants who Pw.POWER_REQ = true) :
    powerReq who 4 t s = s.completes who Pw.POWER_REQ 4 fun x => x.later t (.reset 3) :=
  powerReq_done h (by simp [powerCheck, rangeIf])

/-! ### WAKE and PFW_N (R418, R419, R440) -/

theorem wakeUp_of_standby (h : s.pwr.standby = true) : s.wakeUp t = s.standbyWake := if_pos h

theorem wakeUp_of_idle (h : s.pwr.standby = false) (hs : s.rN Pw.POWER_STATE = 4) : s.wakeUp t = s.idleWake t := by
  simp [wakeUp, h, hs]

/-- The warning acts in every state but the reset (the model's choice, log 135). -/
theorem pfwFall_acts (h : s.pwr.pfwLow = false) (hb : s.pwr.boot ≠ 0) :
    s.pfwFall t = ((s.modPwr fun p => { p with pfwLow := true }).setBit Pw.PWR_STATUS PwrStatus.PFW true).pfwActions t := by
  unfold pfwFall
  rw [if_neg (by simp [h])]
  exact if_pos hb

theorem pfwRise_ends (h : s.pwr.pfwLow = true) :
    s.pfwRise t = ((s.modPwr fun p => { p with pfwLow := false }).setBit Pw.PWR_STATUS PwrStatus.PFW false).pfwOver t := if_pos h

/-! ### RESET_N, brown-out and the internal reset (R420, R421, R436) -/

theorem resetPulse_short (h : w < us) : s.resetPulse w t = s := if_pos h

theorem resetPulse_resets (h : us ≤ w) (hs : s.pwr.standby = false) : s.resetPulse w t = s.deviceReset 1 t := by
  simp [resetPulse, Nat.not_lt.2 h, hs]

theorem resetPulse_wakes (h : us ≤ w) (hs : s.pwr.standby = true) : s.resetPulse w t = s.standbyWake := by
  simp [resetPulse, Nat.not_lt.2 h, hs]

theorem brownOutReset_resets (hs : s.pwr.standby = false) : s.brownOutReset t = s.deviceReset 6 t := by
  simp [brownOutReset, hs]

/-- The cause is latched as the boot begins. -/
theorem rN_bootStart_cause (h : n < 2 ^ 64) : (s.bootStart n t).rN Pw.RESET_CAUSE = n :=
  (rN_set_ne _ _ (by decide)).trans (rN_set_same _ h)

theorem rN_bootStart_powerState : (s.bootStart n t).rN Pw.POWER_STATE = 0 := rN_set_same _ (by decide)

theorem resetRise_boots (hb : s.pwr.boot = 0) (hs : s.pwr.standby = false) (hw : s.pwr.wakeWait = false) {sel : Bool} :
    s.resetRise sel t = (s.modPwr fun p => { p with refSel := sel }).bootStart s.pwr.cause t := if_pos ⟨hb, hs, hw⟩

theorem innerRelease_after_wake (hw : s.pwr.wakeWait = true) : s.innerRelease t = s.bootStart 2 t := if_pos hw

end State
end Sys2Proof.Machine
namespace Sys2Proof
open Machine State

/-- Settles O22: the power requests by the states that R417 lists, then the two inputs. -/
theorem powerRequestsComplete : Obligations.PowerRequestsComplete := by
  refine ⟨?requests, ?inputs⟩
  case requests =>
    intro s t who a key hg
    exact ⟨fun hs => run_eq_of_effect (eff := fun n x => powerReq who 1 n x) (powerReq_run_in_idle hg hs),
      fun hs => run_eq_of_effect (eff := fun n x => powerReq who 1 n x) (powerReq_run_in_toIdle hg hs),
      fun hs => run_eq_of_effect (eff := fun n x => powerReq who 1 n x) (powerReq_run_refused hg hs),
      fun hs => run_eq_of_effect (eff := fun n x => powerReq who 2 n x) (powerReq_idle_lowers hg hs),
      fun hs => run_eq_of_effect (eff := fun n x => powerReq who 2 n x) (powerReq_idle_refused hg hs),
      fun hs => run_eq_of_effect (eff := fun n x => powerReq who 3 n x) (powerReq_standby_lowers hg hs),
      fun hs => run_eq_of_effect (eff := fun n x => powerReq who 3 n x) (powerReq_standby_refused hg hs),
      run_eq_of_effect (eff := fun n x => powerReq who 4 n x) (powerReq_resets hg)⟩
  case inputs =>
    intro s t a
    exact ⟨fun hs => run_eq_of_effect (eff := fun n x => x.wakeUp n) (wakeUp_of_standby hs),
      fun hs hp => run_eq_of_effect (eff := fun n x => x.wakeUp n) (wakeUp_of_idle hs hp),
      fun hl hb => run_eq_of_effect (eff := fun n x => x.pfwFall n) (pfwFall_acts hl hb),
      fun hl => run_eq_of_effect (eff := fun n x => x.pfwRise n) (pfwRise_ends hl)⟩

/-- Settles O23, reset by reset; a boot that begins writes RESET_CAUSE and POWER_STATE. -/
theorem resetsComplete : Obligations.ResetsComplete := by
  intro s t width sel a
  refine ⟨?powerOn, ?short, ?resets, ?wakes, ?brownOut, ?rise, ?release⟩
  case powerOn => exact ⟨_, run_eq_of_effect (eff := fun n x => x.supplyRise n) rfl, rfl, rfl, rfl⟩
  case short => exact fun hw => run_eq_of_effect (eff := fun n x => x.resetPulse width n) (resetPulse_short hw)
  case resets => exact fun hw hs => run_eq_of_effect (eff := fun n x => x.resetPulse width n) (resetPulse_resets hw hs)
  case wakes =>
    exact fun hw hs => ⟨_, run_eq_of_effect (eff := fun n x => x.resetPulse width n) (resetPulse_wakes hw hs), rfl, rfl, rfl, rfl⟩
  case brownOut => exact fun hs => run_eq_of_effect (eff := fun n x => x.brownOutReset n) (brownOutReset_resets hs)
  case rise =>
    intro hb hs hw hc
    exact ⟨_, run_eq_of_effect (eff := fun n x => x.resetRise sel n) (resetRise_boots hb hs hw), rN_bootStart_cause (by omega),
      rN_bootStart_powerState, rfl, rfl, rfl, rfl⟩
  case release =>
    exact fun hw => ⟨_, run_eq_of_effect (eff := fun n x => x.innerRelease n) (innerRelease_after_wake hw), rN_bootStart_cause (by decide),
      rN_bootStart_powerState, rfl, rfl, rfl⟩

end Sys2Proof
end

section
/-!
The PMBus rails and the firmware images: O50, O51.
-/

namespace Sys2Proof.Machine
namespace State

variable {s : State} {who v n dat : Nat} {t b e : Tick} {q : PmbReq} {l : List PmbReq}

/-! ### PMBus rails (R438, R439) -/

theorem pollDue_polls (hs : s.railsServed = true) (hd : s.rail.pollAt ≤ t) : s.pollDue t = s.pmbPoll t := by
  simp [pollDue, hs, hd]

theorem alertAt_reads (hs : s.railsServed = true) : s.alertAt = s.railsOn.foldl (fun x n => x.pmbRead n [0x79]) s := if_pos hs

theorem pmbDone_succeeds (h : s.rail.bus = q :: l) :
    s.pmbDone true dat t = (s.pmbOk q dat t).pmbNext ((s.pmbOk q dat t).rail.bus.drop 1) := by
  simp [pmbDone, h]

theorem pmbDone_repeats (h : s.rail.bus = q :: l) (ht : q.tries < 2) :
    s.pmbDone false dat t = s.pmbNext ({ q with tries := q.tries + 1 } :: l) := by
  simp [pmbDone, h, ht]

theorem railOnWrite_done (h : s.grants who (Rl.RAIL_ON n) = true) (hr : s.rN (Rl.RAIL_ROLE n) = 0) (h1 : 1 ≤ v) (h2 : v ≤ 2) :
    railOnWrite who n v t s = s.completes who (Rl.RAIL_ON n) v fun x => x.railUser n v t :=
  cmdWrite_done h (by simp [hr, Nat.ne_of_gt h1, Nat.not_lt.2 h2])

theorem railUser_switches (h : s.bit (Rl.RAIL_EN n) 0 = true) : s.railUser n 1 t = s.railTurnOn n t ∧ s.railUser n 2 t = s.railTurnOff n := by
  simp [railUser, h]

/-- A rail that is not managed is not switched. -/
theorem railUser_of_not_managed (h : s.bit (Rl.RAIL_EN n) 0 = false) : s.railUser n v t = s := by
  simp [railUser, h]

theorem railTimeout_faults (h : s.railPgBy n = some b) (hb : b ≤ t) (hs : s.railState n = 1) : s.railTimeout n t = (s.pmbDrop n).railFault n b := by
  simp [railTimeout, h, hb, hs]

/-- The one sequence whose delay has ended goes on with its next rail. -/
theorem seqDelayEnd_goes_on {q : RailSeq} (h : s.rail.seqs = [q]) (hn : q.rail = n) (hq : q.due = some e) (he : e ≤ t) :
    s.seqDelayEnd n t = (s.modRail fun r => { r with seqs := [] }).seqNext q.job q.left e := by
  simp [seqDelayEnd, h, hn, hq, he, modRail]

/-! ### Firmware images (R423, R427) -/

theorem fwImageWrite_stores {i : FwImage} (h : s.grants who Fw.FW_IMAGE = true) (hf : s.rN Fw.FW_STATE = 0 ∨ s.rN Fw.FW_STATE = 2)
    (hp : s.rN Pw.POWER_STATE = 2 ∨ s.bit Fw.FW_STATUS FwStatus.RECOVERY = true) :
    fwImageWrite who i s = ((s.set Fw.FW_STATE 1).modFw fun x => { x with storing := some i, ready := none }).accept who Fw.FW_IMAGE [] := by
  have hc : s.fwImageCheck = none := by
    rcases hf with hf | hf <;> rcases hp with hp | hp <;> simp [fwImageCheck, hf, hp, reasonIf]
  obtain ⟨hr, hw⟩ := writeAbort_of_grants h
  unfold fwImageWrite
  exact cmdRun_done hr (by simpa only [hc] using hw)

theorem fwImageWrite_refused {i : FwImage} (h : s.grants who Fw.FW_IMAGE = true) (hf : s.rN Fw.FW_STATE = 1 ∨ s.rN Fw.FW_STATE = 3) :
    fwImageWrite who i s = s.refuse who Fw.FW_IMAGE 0x05020005 := by
  have hc : s.fwImageCheck = some 0x05020005 := if_pos hf
  obtain ⟨hr, -⟩ := writeAbort_of_grants h
  unfold fwImageWrite
  exact cmdRun_refused (mark := noMark) hr (by simpa only [hc] using writeAbort_of_check h)

/-- An image that could not be written leaves its slot invalid. -/
theorem fwStored_fails {i : FwImage} (h : s.fwx.storing = some i) (hr : s.bit Fw.FW_STATUS FwStatus.RECOVERY = false) :
    s.fwStored false t = (((((s.modFw fun x => { x with storing := none }).modFw fun x => { fwPut x none with ready := none }).fwSeqs).set
      Fw.FW_STATE 0).setBit Fw.FW_STATUS FwStatus.STORE_FAIL true) := by
  have hr' : (s.modFw fun x => { x with storing := none }).bit Fw.FW_STATUS FwStatus.RECOVERY = false := hr
  simp [fwStored, h, hr']

theorem fwCtrlWrite_done (h : s.grants who Fw.FW_CTRL = true) (hc : s.fwCtrlCheck v = none) :
    fwCtrlWrite who v t s = s.completes who Fw.FW_CTRL v fun x => if v = 1 then x.fwActivate else x.later t (.reset 7) :=
  cmdWrite_done h hc

theorem fwCtrlWrite_activates {x y : FwImage} (h : s.grants who Fw.FW_CTRL = true) (hp : s.provisional = false) (hf : s.rN Fw.FW_STATE = 2)
    (hx : s.fwx.ready = some x) (hy : s.fwx.running = some y) (hxy : x.compat = y.compat) :
    fwCtrlWrite who 1 t s = s.completes who Fw.FW_CTRL 1 fun x => x.fwActivate :=
  fwCtrlWrite_done h (by simp [fwCtrlCheck, hp, hf, hx, hy, hxy, reasonIf])

/-- A reset takes the new image whatever its compatibility. -/
theorem fwCtrlWrite_resets (h : s.grants who Fw.FW_CTRL = true) (hp : s.provisional = false) (hf : s.rN Fw.FW_STATE = 2) :
    fwCtrlWrite who 2 t s = s.completes who Fw.FW_CTRL 2 fun x => x.later t (.reset 7) :=
  fwCtrlWrite_done h (by simp [fwCtrlCheck, hp, hf, reasonIf])

theorem fwCtrlWrite_refused (h : s.grants who Fw.FW_CTRL = true) (hv : v = 1 ∨ v = 2) (hf : s.rN Fw.FW_STATE ≠ 2) :
    fwCtrlWrite who v t s = s.refuse who Fw.FW_CTRL 0x05020006 := by
  have hc : s.fwCtrlCheck v = some 0x05020006 := by
    rcases hv with rfl | rfl <;> simp [fwCtrlCheck, hf, reasonIf, Abort.deviceState]
  exact cmdWrite_refused h hc

theorem coreRestarted_goes_on (hf : s.rN Fw.FW_STATE = 3) (hr : s.fwx.restarting.isSome = true) : s.coreRestarted t = s.fwCoreDone t :=
  if_pos ⟨hf, hr⟩

theorem coreRestarted_idle (h : s.rN Fw.FW_STATE ≠ 3 ∨ s.fwx.restarting = none) : s.coreRestarted t = s :=
  if_neg fun ⟨hf, hr⟩ => h.elim (absurd hf) fun hn => by simp [hn] at hr

end State
end Sys2Proof.Machine
namespace Sys2Proof
open Machine State

/-- Settles O50, command by command of the rails. -/
theorem railsComplete : Obligations.RailsComplete := by
  intro s t who n v dat a
  refine ⟨?poll, ?alert, ?ok, ?again, ?railOn, ?managed, ?unmanaged, ?timeout, ?delay⟩
  case poll => exact fun hs hd => run_eq_of_effect (eff := fun n x => x.pollDue n) (pollDue_polls hs hd)
  case alert => exact fun hs => run_eq_of_effect (eff := fun _ x => x.alertAt) (alertAt_reads hs)
  case ok => exact fun q l h => run_eq_of_effect (eff := fun n x => x.pmbDone true dat n) (pmbDone_succeeds h)
  case again => exact fun q l h ht => run_eq_of_effect (eff := fun n x => x.pmbDone false dat n) (pmbDone_repeats h ht)
  case railOn => exact fun hg hr h1 h2 => run_eq_of_effect (eff := fun m x => railOnWrite who n v m x) (railOnWrite_done hg hr h1 h2)
  case managed => exact fun h => railUser_switches h
  case unmanaged => exact fun h => railUser_of_not_managed h
  case timeout => exact fun b h hb hs => run_eq_of_effect (eff := fun m x => x.railTimeout n m) (railTimeout_faults h hb hs)
  case delay =>
    exact fun q e h hn hq he => ⟨_, run_eq_of_effect (eff := fun m x => x.seqDelayEnd n m) (seqDelayEnd_goes_on h hn hq he), rfl, rfl⟩

/-- Settles O51, command by command of the firmware. -/
theorem firmwareComplete : Obligations.FirmwareComplete := by
  intro s t who img ok a
  refine ⟨?image, ?busy, ?fails, ?stored, ?activate, ?refused, ?reset, ?core, ?idle⟩
  case image => exact fun hg hf hp => run_eq_of_effect (eff := fun _ x => fwImageWrite who img x) (fwImageWrite_stores hg hf hp)
  case busy => exact fun hg hf => run_eq_of_effect (eff := fun _ x => fwImageWrite who img x) (fwImageWrite_refused hg hf)
  case fails => exact fun i h hr => run_eq_of_effect (eff := fun n x => x.fwStored false n) (fwStored_fails h hr)
  case stored => exact fun i h => run_eq_of_effect (eff := fun n x => x.fwStored ok n) rfl
  case activate =>
    exact fun x y hg hp hf hx hy hxy =>
      run_eq_of_effect (eff := fun n x => fwCtrlWrite who 1 n x) (fwCtrlWrite_activates hg hp hf hx hy hxy)
  case refused =>
    exact fun hg hf => ⟨run_eq_of_effect (eff := fun n x => fwCtrlWrite who 1 n x) (fwCtrlWrite_refused hg (.inl rfl) hf),
      run_eq_of_effect (eff := fun n x => fwCtrlWrite who 2 n x) (fwCtrlWrite_refused hg (.inr rfl) hf)⟩
  case reset => exact fun hg hp hf => run_eq_of_effect (eff := fun n x => fwCtrlWrite who 2 n x) (fwCtrlWrite_resets hg hp hf)
  case core => exact fun hf hr => run_eq_of_effect (eff := fun n x => x.coreRestarted n) (coreRestarted_goes_on hf hr)
  case idle => exact fun h => run_eq_of_effect (eff := fun n x => x.coreRestarted n) (coreRestarted_idle h)

end Sys2Proof
end

section
/-!
Security, tamper and the life cycle: O52, O53.
-/

namespace Sys2Proof.Machine
namespace State

variable {s : State} {who v w k n src e : Nat} {t d : Tick} {b : List Byte}

/-! ### Ownership, security versions and keys (R446-R453) -/

theorem ownAssignWrite_done (h : s.grants who Se.OWN_ASSIGN = true) (hc : s.assignAbort v = none) :
    ownAssignWrite who v t s = s.completes who Se.OWN_ASSIGN v fun x => x.assign' v who t :=
  cmdWrite_done h hc

theorem ownAssignWrite_refused (h : s.grants who Se.OWN_ASSIGN = true) (hc : s.assignAbort v = some e) :
    ownAssignWrite who v t s = s.refuse who Se.OWN_ASSIGN e :=
  cmdWrite_refused h hc

theorem svnLockWrite_done (h : s.grants who Se.SVN_LOCK = true) (hf : s.rN Fw.FW_STATE = 0) (hm : s.bit Fw.FW_STATUS FwStatus.MIXED = false) :
    svnLockWrite who 1 s = s.completes who Se.SVN_LOCK 1 fun x =>
      x.set Se.SVN_MIN (max (x.rN Se.SVN_MIN) ((x.fwx.running.map (·.svn)).getD 0)) :=
  cmdWrite_done h (by simp [hf, hm, oneOnly, rangeIf])

/-- A KEY of the right length stands or falls with the rows left; it is not journalled (R452). -/
theorem keyWriteReq_eq (hb : b.length = 32) :
    keyWriteReq who k b s = cmdRun who (Ky.KEY k) (fun s => s.ownerAbort who (Ky.KEY k))
      (fun s => reasonIf (decide (s.rN (Ky.KEY_ROWS_LEFT k) = 0)) 6) noMark (fun s => (s.keyWrite k b).accept who (Ky.KEY k) []) s := by
  simp [keyWriteReq, hb]

theorem keyWriteReq_programs (h : s.grants who (Ky.KEY k) = true) (hb : b.length = 32) (hl : s.rN (Ky.KEY_ROWS_LEFT k) ≠ 0) :
    keyWriteReq who k b s = (s.keyWrite k b).accept who (Ky.KEY k) [] := by
  obtain ⟨hr, hw⟩ := writeAbort_of_grants h
  have hc : reasonIf (decide (s.rN (Ky.KEY_ROWS_LEFT k) = 0)) 6 = none := by simp [reasonIf, hl]
  rw [keyWriteReq_eq hb]
  exact cmdRun_done hr (by simpa only [hc] using hw)

theorem keyWriteReq_refused (h : s.grants who (Ky.KEY k) = true) (hb : b.length = 32) (hl : s.rN (Ky.KEY_ROWS_LEFT k) = 0) :
    keyWriteReq who k b s = s.refuse who (Ky.KEY k) 0x05020006 := by
  obtain ⟨hr, -⟩ := writeAbort_of_grants h
  have hc : reasonIf (decide (s.rN (Ky.KEY_ROWS_LEFT k) = 0)) 6 = some 0x05020006 := by simp [reasonIf, hl, Abort.deviceState]
  rw [keyWriteReq_eq hb]
  exact cmdRun_refused (mark := noMark) hr (by simpa only [hc] using writeAbort_of_check h)

theorem keyRevokeWrite_done (h : s.grants who (Ky.KEY_REVOKE k) = true) :
    keyRevokeWrite who k 1 s = s.completes who (Ky.KEY_REVOKE k) 1 fun x => x.keyRevoke k :=
  cmdWrite_done h (by simp [oneOnly, rangeIf])

theorem rngFail_flags (h : s.pwr.boot ≠ 0) : s.rngFail = s.setBit Se.SEC_STATUS SecStatus.RNG_FAIL true := if_pos h

/-! ### Tamper (R454-R456) -/

theorem tamperAt_acts (harm : 2 ≤ src ∨ s.bit Se.TAMP_EN src = true) (hs : s.pwr.standby = false) (hb : s.pwr.boot ≠ 0) :
    s.tamperAt src t = s.tamper src t := by
  have harm' : (!(decide (2 ≤ src) || s.bit Se.TAMP_EN src)) = false := by rcases harm with h | h <;> simp [h]
  simp only [tamperAt, harm', Bool.false_eq_true, if_false, hs]
  exact if_pos hb

/-- In STANDBY the always-on domain latches an enabled pin. -/
theorem tamperAt_latches (hp : src < 2) (harm : s.bit Se.TAMP_EN src = true) (hs : s.pwr.standby = true) :
    s.tamperAt src t = { s with sec := { s.sec with tampLatch := s.sec.tampLatch ||| 2 ^ src } } := by
  simp [tamperAt, harm, hs, hp]

theorem tamperAt_disabled (hp : src < 2) (harm : s.bit Se.TAMP_EN src = false) : s.tamperAt src t = s := by
  simp [tamperAt, harm, Nat.not_le.2 hp]

/-! ### The life cycle (R457-R459) -/

theorem lcReqWrite_done (h : s.grants who Se.LC_REQ = true) (ha : s.lcAllowed v = true) :
    lcReqWrite who v t s = s.completes who Se.LC_REQ v fun x => x.lcRequest v t :=
  cmdWrite_done h (by simp [ha, rangeIf])

theorem lcReqWrite_refused (h : s.grants who Se.LC_REQ = true) (ha : s.lcAllowed v = false) :
    lcReqWrite who v t s = s.refuse who Se.LC_REQ (Abort.valueRange (Se.LC_REQ % 256)) :=
  cmdWrite_refused h (by simp [ha, rangeIf])

theorem lcStanding_of_due (h : s.sec.lcReq = some (w, d)) (hd : t < d) : s.lcStanding t = some w := by
  simp [lcStanding, h, hd]

/-- A request does not stand any more at the end of its 10 s. -/
theorem lcStanding_of_lapsed (h : ∀ w d, s.sec.lcReq = some (w, d) → d ≤ t) : s.lcStanding t = none := by
  unfold lcStanding
  cases hr : s.sec.lcReq with
  | none => rfl
  | some r => exact if_neg (Nat.not_lt.2 (h r.1 r.2 hr))

theorem lcConfirmWrite_done (h : s.grants who Se.LC_CONFIRM = true) (hc : s.confirmAbort v t = none) :
    lcConfirmWrite who v t s = s.completes who Se.LC_CONFIRM v fun x => x.lcConfirm v t :=
  cmdWrite_done h hc

theorem lcConfirmWrite_refused (h : s.grants who Se.LC_CONFIRM = true) (hc : s.confirmAbort v t = some e) :
    lcConfirmWrite who v t s = s.refuse who Se.LC_CONFIRM e :=
  cmdWrite_refused h hc

theorem confirmAbort_of_other_code (hst : s.lcStanding t = some w) (hv : v ≠ w) : s.confirmAbort v t = none := by
  simp [confirmAbort, hst, hv]

theorem confirmAbort_of_quiet (hst : s.lcStanding t = some v) (hq : s.allQuiet = true) (h1 : s.rN Fw.FW_STATE ≠ 1) (h3 : s.rN Fw.FW_STATE ≠ 3) :
    s.confirmAbort v t = none := by
  simp [confirmAbort, hst, hq, h1, h3]

theorem confirmAbort_of_not_quiet (hst : s.lcStanding t = some v) (hq : s.allQuiet = false) : s.confirmAbort v t = some 0x05020004 := by
  simp [confirmAbort, hst, hq, Abort.deviceState]

theorem confirmAbort_of_none (hst : s.lcStanding t = none) : s.confirmAbort v t = some 0x05020006 := by
  simp [confirmAbort, hst, Abort.deviceState]

theorem lcConfirm_cancels (hst : s.lcStanding t = some w) (hv : v ≠ w) : s.lcConfirm v t = s.lcCancel := by
  simp [lcConfirm, hst, hv]

theorem lcConfirm_starts (hst : s.lcStanding t = some v) : (s.lcConfirm v t).sec.lcStep = 1 ∧ (s.lcConfirm v t).sec.lcTo = v := by
  simp [lcConfirm, hst]

theorem lcReqLate_cancels (h : s.sec.lcReq = some (w, d)) (hd : d ≤ t) : s.lcReqLate t = s.lcCancel := by
  simp [lcReqLate, h, hd]

theorem lcStepAt_ends (h : s.sec.lcStep = n) (hn : n ≠ 2) : s.lcStepAt t = s.lcStepEnd t :=
  if_neg fun hw => hn (h.symm.trans hw.1)

theorem lcStepEnd_of_one (h : s.sec.lcStep = 1) :
    s.lcStepEnd t = { s.wipeTrigger t with sec := { (s.wipeTrigger t).sec with lcStep := 2, lcDue := t } } := by
  simp [lcStepEnd, h]

theorem lcStepEnd_of_three (h : s.sec.lcStep = 3) :
    s.lcStepEnd t = { s.lcFuse with sec := { s.lcFuse.sec with lcStep := 4, lcDue := t } } := by
  simp [lcStepEnd, h]

theorem lcStepEnd_of_four (h : s.sec.lcStep = 4) : s.lcStepEnd t = s.lcFinish t := by
  simp [lcStepEnd, h]

end State
end Sys2Proof.Machine
namespace Sys2Proof
open Machine State

/-- Settles O52, entry by entry. -/
theorem securityComplete : Obligations.SecurityComplete := by
  intro s t who k key v a
  refine ⟨?holders, ?assign, ?assignRefused, ?claim, ?svn, ?program, ?noRow, ?revoke, ?rng⟩
  case holders => exact fun hg hc => run_eq_of_effect (eff := fun _ x => secHoldersWrite who v x) (secHoldersWrite_done hg hc)
  case assign => exact fun hg hc => run_eq_of_effect (eff := fun n x => ownAssignWrite who v n x) (ownAssignWrite_done hg hc)
  case assignRefused => exact fun e hg hc => run_eq_of_effect (eff := fun n x => ownAssignWrite who v n x) (ownAssignWrite_refused hg hc)
  case claim =>
    exact fun hr hu _ hi hlc hmay ho =>
      run_eq_of_effect (eff := fun n x => claimWrite who 1 n x) (claimWrite_done hr hu hi hlc (claimOwner_granted hlc ho hmay))
  case svn => exact fun hg hf hm => run_eq_of_effect (eff := fun _ x => svnLockWrite who 1 x) (svnLockWrite_done hg hf hm)
  case program => exact fun hg hb hl => run_eq_of_effect (eff := fun _ x => keyWriteReq who k key x) (keyWriteReq_programs hg hb hl)
  case noRow => exact fun hg hb hl => run_eq_of_effect (eff := fun _ x => keyWriteReq who k key x) (keyWriteReq_refused hg hb hl)
  case revoke => exact fun hg => run_eq_of_effect (eff := fun _ x => keyRevokeWrite who k 1 x) (keyRevokeWrite_done hg)
  case rng => exact fun hb => run_eq_of_effect (eff := fun _ x => x.rngFail) (rngFail_flags hb)

/-- Settles O53: tamper sources, then the life of a life-cycle request, then the steps of its transition. -/
theorem tamperAndLifeCycleComplete : Obligations.TamperAndLifeCycleComplete := by
  intro s t who src v a
  refine ⟨?acts, ?latches, ?disabled, ?request, ?notListed, ?cancels, ?starts, ?notQuiet, ?nothing, ?lapses, ?one, ?three, ?four⟩
  case acts => exact fun harm hs hb => run_eq_of_effect (eff := fun n x => x.tamperAt src n) (tamperAt_acts harm hs hb)
  case latches => exact fun hp harm hs => run_eq_of_effect (eff := fun n x => x.tamperAt src n) (tamperAt_latches hp harm hs)
  case disabled => exact fun hp harm => run_eq_of_effect (eff := fun n x => x.tamperAt src n) (tamperAt_disabled hp harm)
  case request => exact fun hg ha => ⟨_, run_eq_of_effect (eff := fun n x => lcReqWrite who v n x) (lcReqWrite_done hg ha), rfl, rfl⟩
  case notListed =>
    exact fun hg ha => ⟨_, by decide, run_eq_of_effect (eff := fun n x => lcReqWrite who v n x) (lcReqWrite_refused hg ha)⟩
  case cancels =>
    intro w d hg hr hd hv
    have hst := lcStanding_of_due hr hd
    exact ⟨run_eq_of_effect (eff := fun n x => lcConfirmWrite who v n x) (lcConfirmWrite_done hg (confirmAbort_of_other_code hst hv)),
      lcConfirm_cancels hst hv⟩
  case starts =>
    intro d hg hr hd hq h1 h3
    have hst := lcStanding_of_due hr hd
    exact ⟨run_eq_of_effect (eff := fun n x => lcConfirmWrite who v n x) (lcConfirmWrite_done hg (confirmAbort_of_quiet hst hq h1 h3)),
      lcConfirm_starts hst⟩
  case notQuiet =>
    exact fun d hg hr hd hq => run_eq_of_effect (eff := fun n x => lcConfirmWrite who v n x)
      (lcConfirmWrite_refused hg (confirmAbort_of_not_quiet (lcStanding_of_due hr hd) hq))
  case nothing =>
    exact fun hg hr => run_eq_of_effect (eff := fun n x => lcConfirmWrite who v n x)
      (lcConfirmWrite_refused hg (confirmAbort_of_none (lcStanding_of_lapsed hr)))
  case lapses => exact fun w d hr hd => run_eq_of_effect (eff := fun n x => x.lcReqLate n) (lcReqLate_cancels hr hd)
  case one =>
    exact fun h => run_eq_of_effect (eff := fun n x => x.lcStepAt n) ((lcStepAt_ends h (by decide)).trans (lcStepEnd_of_one h))
  case three =>
    exact fun h => run_eq_of_effect (eff := fun n x => x.lcStepAt n) ((lcStepAt_ends h (by decide)).trans (lcStepEnd_of_three h))
  case four =>
    exact fun h => run_eq_of_effect (eff := fun n x => x.lcStepAt n) ((lcStepAt_ends h (by decide)).trans (lcStepEnd_of_four h))

end Sys2Proof
end

section
/-!
The monitor converter: O44.
-/

namespace Sys2Proof.Machine
namespace State

variable {s : State} {who v i r e : Nat} {alt ovf : Bool} {code : Int} {q : McReq} {t : Tick}

/-! ### The monitor converter (R274-R280) -/

/-- The request that a write of MC_REQ makes at `t`. -/
def softReq (v : Nat) (t : Tick) : McReq := { input := field v 0 10, alt := bitOf v 14, cls := 0, due := t, soft := true }

theorem mcReqWrite_done (h : s.grants who Mc.MC_REQ = true) (hc : s.mcReqCheck v = none) :
    mcReqWrite who v t s = s.completes who Mc.MC_REQ v fun x =>
      if bitOf v 15 then (x.modMc fun m => { m with softBusy := true }).mcUrgent (softReq v t) t
      else (x.modMc fun m => { m with softBusy := true }).mcSchedule (softReq v t) t :=
  cmdWrite_done h hc

theorem mcReqWrite_schedules (h : s.grants who Mc.MC_REQ = true) (hc : s.mcReqCheck v = none) (hu : bitOf v 15 = false) :
    mcReqWrite who v t s = s.completes who Mc.MC_REQ v fun x => (x.modMc fun m => { m with softBusy := true }).mcSchedule (softReq v t) t := by
  rw [mcReqWrite_done h hc]
  exact completes_congr (by simp [hu])

theorem mcReqWrite_urgent (h : s.grants who Mc.MC_REQ = true) (hc : s.mcReqCheck v = none) (hu : bitOf v 15 = true) :
    mcReqWrite who v t s = s.completes who Mc.MC_REQ v fun x => (x.modMc fun m => { m with softBusy := true }).mcUrgent (softReq v t) t := by
  rw [mcReqWrite_done h hc]
  exact completes_congr (if_pos hu)

theorem mcReqWrite_refused (h : s.grants who Mc.MC_REQ = true) (hc : s.mcReqCheck v = some e) : mcReqWrite who v t s = s.refuse who Mc.MC_REQ e :=
  cmdWrite_refused h hc

theorem sampleDue_samples (hp : s.mc.cyc.phase = 1) (hq : s.mc.cyc.req = some q) (hd : s.mc.cyc.due ≤ t) : s.sampleDue t = s.mcSample q := by
  simp [sampleDue, hp, hq, hd]

/-- What the sampling instant remembers for a late read-back is the port's own. -/
theorem regs_rbLate {p : Nat} : (s.rbLate q p t).regs = s.regs := by
  unfold rbLate when
  split <;> rfl

theorem regs_mcSample : (s.mcSample q).regs = s.regs := by
  have hlate : ∀ cls p, (if cls = 1 then s.rbLate q p s.mc.cyc.due else s).regs = s.regs := by
    intro cls p
    split
    · exact regs_rbLate
    · rfl
  exact hlate _ _

theorem conversionDue_ends (hp : s.mc.cyc.phase = 2) (hq : s.mc.cyc.req = some q) (hd : s.mc.cyc.due ≤ t) :
    s.conversionDue code ovf t = s.mcDone s.mc.cyc q (mcCode code ovf) ovf s.mc.cyc.due := by
  simp [conversionDue, hp, hq, hd]

theorem pauseDue_ends (hp : s.mc.cyc.phase = 3) (hd : s.mc.cyc.due ≤ t) :
    s.pauseDue t = (s.modMc fun m => { m with cyc := {} }).mcKick s.mc.cyc.due := if_pos ⟨hp, hd⟩

theorem mcRead_reads {x : McEntry} (hr : s.mcReads r = true) (hx : s.mc.queue[s.mcPtr r - s.mc.base]? = some x) :
    s.mcRead r = ((if r = 2 then s.mcJournal x else s).mcSetPtr r (s.mcPtr r + 1)).mcTrim := by
  simp [mcRead, hr, hx]

/-- An input that is supervised, due, and not a whole interval late schedules its request and its next due tick. -/
theorem supervise_schedules {due : Tick} (hdue : Tab.get (fun _ => 0) s.mc.next (mcKey i alt) = due) (hs : s.served = true) (ho : s.supvOn = true)
    (hi : i < 1023) (ha : alt = true → mcHasAlt i = true) (hc : mcClass i alt ≠ 1) (hact : s.mcActive i alt = true) (hd : due ≤ t)
    (hg : t < due + s.mcInterval i alt) :
    s.supervise i alt t = (s.modMc fun m => { m with next := Tab.set (fun _ => 0) m.next (mcKey i alt) (due + s.mcInterval i alt) }).mcSchedule
      { input := i, alt := alt, cls := mcClass i alt, due := due } t := by
  have halt : (alt && !mcHasAlt i) = false := by
    cases alt
    · rfl
    · simp [ha rfl]
  simp [supervise, hdue, hs, ho, Nat.not_le.2 hi, halt, hc, hact, Nat.not_lt.2 hd, Nat.not_le.2 hg]

end State
end Sys2Proof.Machine
namespace Sys2Proof
open Machine State

/-- Settles O44: the requests, then the phases of a cycle in their order, then the queue and the supervision. -/
theorem monitorConverterComplete : Obligations.MonitorConverterComplete := by
  intro s t who v i alt code ovf r a
  refine ⟨?schedules, ?urgent, ?refused, ?samples, ?converts, ?pause, ?reads, ?supervises⟩
  case schedules => exact fun hg hc hu => run_eq_of_effect (eff := fun n x => mcReqWrite who v n x) (mcReqWrite_schedules hg hc hu)
  case urgent => exact fun hg hc hu => run_eq_of_effect (eff := fun n x => mcReqWrite who v n x) (mcReqWrite_urgent hg hc hu)
  case refused => exact fun e hg hc => run_eq_of_effect (eff := fun n x => mcReqWrite who v n x) (mcReqWrite_refused hg hc)
  case samples =>
    exact fun q hp hq hd => ⟨_, run_eq_of_effect (eff := fun n x => x.sampleDue n) (sampleDue_samples hp hq hd), rfl, rfl, rfl, rfl,
      fun _ => regs_mcSample⟩
  case converts =>
    exact fun q hp hq hd => run_eq_of_effect (eff := fun n x => x.conversionDue code.toInt ovf n) (conversionDue_ends hp hq hd)
  case pause => exact fun hp hd => run_eq_of_effect (eff := fun n x => x.pauseDue n) (pauseDue_ends hp hd)
  case reads => exact fun e hr he => run_eq_of_effect (eff := fun n x => (x.mcRead r).mcKick n) (congrArg (·.mcKick a.now) (mcRead_reads hr he))
  case supervises =>
    exact fun hs ho hi ha hc hact hd hg =>
      run_eq_of_effect (eff := fun n x => x.supervise i alt n) (supervise_schedules rfl hs ho hi ha hc hact hd hg)

end Sys2Proof
end

section
/-!
Calibration and rotation: O45.
-/

namespace Sys2Proof.Machine
namespace State

variable {s : State} {who g : Nat} {trip ok : Bool} {dV dI : Int} {t : Tick}

/-! ### Reference transfers, slice runs and commits (R290-R299, R310) -/

theorem refXferWrite_done (h : s.grants who Ca.REF_XFER_REQ = true) :
    refXferWrite who 1 t s = s.completes who Ca.REF_XFER_REQ 1 fun x => x.xferRequest t :=
  cmdWrite_done h (by simp [oneOnly, rangeIf])

theorem xferInterval_requests (hs : s.served = true) (hn : s.rN Ca.REF_XFER_INTERVAL ≠ 0)
    (hd : s.cal.lastXfer + s.rN Ca.REF_XFER_INTERVAL * 640000000 ≤ t) :
    s.xferInterval t = State.xferRequest { s with cal := { s.cal with lastXfer := t } } t := by
  have hd' : s.cal.lastXfer + s.rN Ca.REF_XFER_INTERVAL * Sys2Proof.sec ≤ t := hd
  simp [xferInterval, hs, hn, hd']

theorem calRetry_tries {r : Tick} (h : s.cal.retryAt = some r) (hd : r ≤ t) (hw : s.cal.cellWant.isSome = true ∨ s.rQ Ca.REFX_VALUE ≠ 0) :
    s.calRetry t = xferTry { s with cal := { s.cal with retryAt := none } } t := by
  have hq : rQ { s with cal := { s.cal with retryAt := none } } Ca.REFX_VALUE = s.rQ Ca.REFX_VALUE := rfl
  simp only [calRetry, h, hd, if_true, hq]
  refine if_neg ?_
  rcases hw with hw | hw
  · simp [Option.isSome_iff_ne_none.mp hw]
  · simp [hw]

theorem xferDueStep_ends {x : Xfer} {d : XferData} (h : s.cal.xfer = some x) (hx : x.step ≤ 3) (hd : x.due ≤ t) :
    s.xferDueStep d t = s.xferStep d := by
  simp [xferDueStep, h, hx, hd]

theorem runDueStep_ends {r : CalRun} {d : CalData} (h : (s.rot g).run = some r) (hr : r.step ≤ 7) (hd : r.due ≤ t) :
    s.runDueStep g d t = s.runStep g d := by
  simp [runDueStep, h, hr, hd]

/-! ### Rotation (R302-R309) -/

theorem rotRequestWrite_done (h : s.grants who (Gr.ROT_REQUEST g) = true) :
    rotRequestWrite who g 1 t s = s.completes who (Gr.ROT_REQUEST g) 1 fun x => x.rotTrigger g t :=
  cmdWrite_done h (by simp [oneOnly, rangeIf])

theorem rotCondition_triggers (hf : s.full = true) (h : s.rotTriggered g t = true) : s.rotCondition g t = s.rotTrigger g t := by
  simp [rotCondition, hf, h]

theorem rotTriggered_by_temperature (h : s.rQ (Gr.DT_CAL_EFF g) < absR (s.rQ (Gr.GROUP_TEMP g) - s.rQ (Gr.CAL_LAST_TEMP g))) :
    s.rotTriggered g t = true := by
  simp [rotTriggered, h]

theorem rotTriggered_by_interval (hn : s.rN (Gr.ROT_INTERVAL g) ≠ 0)
    (h : s.rN (Gr.ROT_LAST_START g) + s.rN (Gr.ROT_INTERVAL g) * 1000000000 ≤ s.timeNs t) : s.rotTriggered g t = true := by
  simp [rotTriggered, hn, h]

theorem gapOver_kicks (hp : s.bit (Gr.ROT_STATUS g) RotStatus.ROT_PENDING = true) (hg : s.inGap g t = false) :
    s.gapOver g t = (s.rotBit g RotStatus.GAP_HOLD false).rotKick g t := by
  simp [gapOver, hp, hg]

theorem shadowDue_ends (h : s.rotTimed g 1 5 t = true) :
    s.shadowDue g t = ((s.modRot g fun r => { r with step := r.step + 1 }).agreeSpan g (s.rot g).due).syncRot g := if_pos h

/-- A trip that only the incoming slice saw sets its latch before the test, which is re-armed after it (log 52 and 101). -/
theorem agreeDue_ends (h : s.rotTimed g 2 6 t = true) :
    s.agreeDue g dV dI trip t = ((s.when trip fun x => x.shadowSaw g t).agreeEnd g dV dI).shadowRearm (s.rot g).port (s.incoming g) t := if_pos h

theorem agreeDue_early (h : s.rotTimed g 2 6 t = false) : s.agreeDue g dV dI trip t = s := if_neg (by simp [h])

theorem transferAt_of {n d : Nat} (ho : (s.gx g).overlap.isSome = true) (hn : (s.rot g).done = n) (hd : (s.rot g).tx + d ≤ t) :
    s.transferAt g n d t = true := by
  simp [transferAt, ho, hn, hd]

end State
end Sys2Proof.Machine
namespace Sys2Proof
open Machine State

/-- Settles O45: transfers, runs and commits, then rotation with the three moments of a force transfer. -/
theorem calibrationRunsComplete : Obligations.CalibrationRunsComplete := by
  refine ⟨?runs, ?rotation⟩
  case runs =>
    intro s t who g dx dc ok a
    refine ⟨?request, ?interval, ?retry, ?xferStep, ?runStep, ?commit⟩
    case request => exact fun hg => run_eq_of_effect (eff := fun n x => refXferWrite who 1 n x) (refXferWrite_done hg)
    case interval => exact fun hs hn hd => run_eq_of_effect (eff := fun n x => x.xferInterval n) (xferInterval_requests hs hn hd)
    case retry => exact fun r h hd hw => ⟨_, run_eq_of_effect (eff := fun n x => x.calRetry n) (calRetry_tries h hd hw), rfl, rfl⟩
    case xferStep => exact fun x h hx hd => run_eq_of_effect (eff := fun n x => x.xferDueStep dx n) (xferDueStep_ends h hx hd)
    case runStep => exact fun r h hr hd => run_eq_of_effect (eff := fun n x => x.runDueStep g dc n) (runDueStep_ends h hr hd)
    case commit =>
      intro c r hs hc
      exact run_eq_of_effect (eff := fun n x => x.commitEnd ok n) (by simp only [commitEnd]; rw [hs, hc])
  case rotation =>
    intro s t who g dV dI trip a
    refine ⟨?request, ?temperature, ?interval, ?gap, ?shadow, ?agree, ?agreeEarly, ?swap, ?release, ?ends⟩
    case request => exact fun hg => run_eq_of_effect (eff := fun n x => rotRequestWrite who g 1 n x) (rotRequestWrite_done hg)
    case temperature =>
      exact fun hf h => run_eq_of_effect (eff := fun n x => x.rotCondition g n) (rotCondition_triggers hf (rotTriggered_by_temperature h))
    case interval =>
      exact fun hf hn h => run_eq_of_effect (eff := fun n x => x.rotCondition g n) (rotCondition_triggers hf (rotTriggered_by_interval hn h))
    case gap => exact fun hp hg => run_eq_of_effect (eff := fun n x => x.gapOver g n) (gapOver_kicks hp hg)
    case shadow => exact fun h => run_eq_of_effect (eff := fun n x => x.shadowDue g n) (shadowDue_ends h)
    case agree => exact fun h => run_eq_of_effect (eff := fun n x => x.agreeDue g dV dI trip n) (agreeDue_ends h)
    case agreeEarly => exact fun h => run_eq_of_effect (eff := fun n x => x.agreeDue g dV dI trip n) (agreeDue_early h)
    case swap => exact fun ho hn hd => run_eq_of_effect (eff := fun n x => x.swapDue g n) (if_pos (transferAt_of ho hn hd))
    case release => exact fun ho hn hd => run_eq_of_effect (eff := fun n x => x.releaseDue g n) (if_pos (transferAt_of ho hn hd))
    case ends => exact fun ho hn hd => run_eq_of_effect (eff := fun n x => x.overlapDue g n) (if_pos (transferAt_of ho hn hd))

end Sys2Proof
end

section
/-!
Ageing, health and in-service repair: O46, O47.
-/

namespace Sys2Proof.Machine
namespace State

variable {s : State} {who i g p v : Nat} {ro : List Nat} {t e : Tick} {d0 d1 : Int}

/-! ### Stress and health (R318-R325) -/

/-- A second has ended since stress was last accrued. The whole second is accounted at once (log 49). -/
theorem stressDue_accrues (hs : s.served = true) (hd : s.age.stressAt + 640000000 ≤ t) :
    s.stressDue t = ({ (List.range 144).foldl (fun x k => x.stressSlice k) s with
      age := { ((List.range 144).foldl (fun x k => x.stressSlice k) s).age with
        stressAt := ((List.range 144).foldl (fun x k => x.stressSlice k) s).age.stressAt + 640000000 } } : State).lifeUsed := by
  have hd' : s.age.stressAt + Sys2Proof.sec ≤ t := hd
  unfold stressDue
  rw [if_pos (by simp [hs, hd'])]
  rfl

theorem stressDue_early (h : s.served = false ∨ t < s.age.stressAt + 640000000) : s.stressDue t = s := by
  refine if_neg ?_
  rcases h with h | h
  · simp [h]
  · simp [show t < s.age.stressAt + Sys2Proof.sec from h]

/-- A slice's part of an evaluation: its new ring-oscillator delay where one was measured, then its health. -/
def sliceEvaluated (ro : List Nat) (s : State) (k : Nat) : State :=
  if s.roleOf k = 4 then s else ((ro[k]?).elim s fun d => s.ringOsc k d).evaluate k

/-- The planning of the groups that closes an evaluation at `t`. -/
def groupsPlanned (t : Tick) (b : State) : State :=
  let c := (List.range 16).foldl (fun (x : State) g => x.groupPlan g) b
  { c with age := { c.age with evalAt := t } }

theorem healthDue_evaluates (hs : s.served = true) (hd : s.age.evalAt + s.rN Ag.EVAL_INTERVAL * 640000000 ≤ t) :
    s.healthDue ro t = groupsPlanned t ((List.range 144).foldl (sliceEvaluated ro) s) := by
  have hd' : s.age.evalAt + s.rN Ag.EVAL_INTERVAL * Sys2Proof.sec ≤ t := hd
  unfold healthDue
  rw [if_pos (by simp [hs, hd'])]
  refine congrArg (groupsPlanned t) (List.foldl_ext _ _ s fun x k _ => ?_)
  unfold sliceEvaluated
  split
  · rfl
  · cases ro[k]? <;> rfl

theorem healthDue_early (h : s.served = false ∨ t < s.age.evalAt + s.rN Ag.EVAL_INTERVAL * 640000000) : s.healthDue ro t = s := by
  refine if_neg ?_
  rcases h with h | h
  · simp [h]
  · simp [show t < s.age.evalAt + s.rN Ag.EVAL_INTERVAL * Sys2Proof.sec from h]

theorem healthCommit_commits (hs : s.served = true) (hd : (s.sx i).lastCommit + 55296000000000 ≤ t) (hc : s.committing (.health i) = false) :
    s.healthCommit i t = s.requestCommit i (.health i) := by
  have hd' : (s.sx i).lastCommit + 86400 * Sys2Proof.sec ≤ t := hd
  simp [healthCommit, hs, hd', hc]

theorem healthCommit_early (h : s.served = false ∨ t < (s.sx i).lastCommit + 55296000000000 ∨ s.committing (.health i) = true) :
    s.healthCommit i t = s := by
  refine if_neg ?_
  rcases h with h | h | h
  · simp [h]
  · simp [show t < (s.sx i).lastCommit + 86400 * Sys2Proof.sec from h]
  · simp [h]

theorem wornReqWrite_asks (h : s.grants who (Sl.WORN_REQ i) = true) :
    wornReqWrite who i 1 s = s.completes who (Sl.WORN_REQ i) 1 fun x => x.modSx i fun y => { y with wornWant := y.wornWant ||| 32 } :=
  cmdWrite_done h (by simp [oneOnly, rangeIf])

theorem wornReqWrite_refused (h : s.grants who (Sl.WORN_REQ i) = true) (hv : v ≠ 1) :
    wornReqWrite who i v s = s.refuse who (Sl.WORN_REQ i) 0x06010061 := by
  have hsub : Sl.WORN_REQ i % 256 = 0x61 := by unfold Sl.WORN_REQ; omega
  exact cmdWrite_refused h (by simp [oneOnly, rangeIf, hv, hsub, Abort.valueRange])

/-! ### Maintenance windows and failures of cores (R327-R331) -/

theorem noticeDue_opens (hw : s.rN (Gr.WIN_STATE g) = 1) (hd : (s.rot g).winDue ≤ t) :
    let b := s.set (Gr.WIN_STATE g) 2
    s.noticeDue g t = if b.live (s.rot g).port (Pt.WIN_POLICY (s.rot g).port) = 0 then b.winAlign g (s.rot g).winDue else b :=
  if_pos ⟨hw, hd⟩

/-- GO and ABORT go to the group controller of the port (R13). -/
theorem winCtrl_sends (h : s.grants who (Pt.WIN_CTRL p) = true) (hv : v ≤ 3) :
    winCtrl who p v t s = s.gcSend who (Pt.WIN_CTRL p) v { port := p, op := .winCtrl v, since := t } (s.ticking p) t :=
  cmdSubmit_done h (by simp [Nat.not_lt.2 hv])

theorem gcApply_winCtrl {c : GcCmd} (ho : c.op = .winCtrl v) (hk : c.key = 0) : s.gcApply c t = s.winCtrlDo c.port v t := by
  simp [gcApply, ho, hk]

theorem winCtrl_now (h : s.grants who (Pt.WIN_CTRL p) = true) (hv : v ≤ 3) (hoff : s.ticking p = false) (hq : s.queueFree p = true) :
    winCtrl who p v t s = s.completes who (Pt.WIN_CTRL p) v fun x => x.winCtrlDo p v t := by
  rw [winCtrl_sends h hv, hoff, gcSend_now hq (by simp) (by simp)]
  exact completes_congr (gcApply_winCtrl rfl rfl)

theorem winCtrl_queued (h : s.grants who (Pt.WIN_CTRL p) = true) (hv : v ≤ 3) (hw : s.ticking p = true ∨ s.queueFree p = false) :
    winCtrl who p v t s = s.gcSubmit who (Pt.WIN_CTRL p) v { port := p, op := .winCtrl v, since := t } := by
  rw [winCtrl_sends h hv, gcSend_queued hw]

theorem winCtrlDo_go : s.winCtrlDo p 1 t = s.winGo p t := by simp [winCtrlDo, bitOf, Nat.testBit]

theorem winCtrlDo_abort : s.winCtrlDo p 2 t = s.winAbortReq p t := by simp [winCtrlDo, bitOf, Nat.testBit]

theorem voteDue_decides {k : Nat} (h : s.age.vote = some (k, e)) (hd : e ≤ t) (hr : s.voteReady = true) :
    s.voteDue d0 d1 t = s.voteEnd d0 d1 t := by
  simp [voteDue, h, hd, hr]

/-- Where the core served the object dictionary and a spare takes its role, the held accesses end (R331). -/
theorem coreLost_fails {c : Nat} (hs : s.served = true) :
    s.coreLost c t =
      if 0 ∈ s.rolesOf c ∧ c ∉ s.age.deadCores ∧ s.coreSpare = true then (s.coreFailed c t).heldAbort else s.coreFailed c t := by
  simp [coreLost, hs, when, and_assoc]

theorem takeoverDone_takes {r : Nat} {d : Tick} (h : s.age.takeover = some (r, d)) : s.takeoverDone t = s.coreTaken r t := by
  simp [takeoverDone, h]

end State
end Sys2Proof.Machine
namespace Sys2Proof
open Machine State

/-- Settles O46: the four clocked commands when due and before, and WORN_REQ. -/
theorem healthComplete : Obligations.HealthComplete := by
  intro s t who i ro a
  refine ⟨?stress, ?stressEarly, ?eval, ?evalEarly, ?commit, ?commitEarly, ?worn, ?wornValue⟩
  case stress => exact fun hs hd => run_eq_of_effect (eff := fun n x => x.stressDue n) (stressDue_accrues hs hd)
  case stressEarly => exact fun h => run_eq_of_effect (eff := fun n x => x.stressDue n) (stressDue_early h)
  case eval =>
    intro hs hd
    have h : exec (.healthEval t ro) s = _ := run_eq_of_effect (eff := fun n x => x.healthDue ro n) (healthDue_evaluates hs hd)
    rw [h]
    unfold groupsPlanned sliceEvaluated
    dsimp only
  case evalEarly => exact fun h => run_eq_of_effect (eff := fun n x => x.healthDue ro n) (healthDue_early h)
  case commit => exact fun hs hd hc => run_eq_of_effect (eff := fun n x => x.healthCommit i n) (healthCommit_commits hs hd hc)
  case commitEarly => exact fun h => run_eq_of_effect (eff := fun n x => x.healthCommit i n) (healthCommit_early h)
  case worn => exact fun hg => run_eq_of_effect (eff := fun _ x => wornReqWrite who i 1 x) (wornReqWrite_asks hg)
  case wornValue => exact fun v hg hv => run_eq_of_effect (eff := fun _ x => wornReqWrite who i v x) (wornReqWrite_refused hg hv)

/-- Settles O47: the window, GO and ABORT at once and in the queue, the vote, and the cores. -/
theorem windowsAndFailuresComplete : Obligations.WindowsAndFailuresComplete := by
  intro s t who p g d0 d1 c a
  refine ⟨?notice, ?now, ?queued, ?vote, ?lost, ?taken⟩
  case notice => exact fun hw hd => run_eq_of_effect (eff := fun n x => x.noticeDue g n) (noticeDue_opens hw hd)
  case now =>
    intro key hg hoff hq
    refine ⟨run_eq_of_effect (eff := fun n x => winCtrl who p 1 n x) ?_, run_eq_of_effect (eff := fun n x => winCtrl who p 2 n x) ?_⟩
    · exact (winCtrl_now hg (by decide) hoff hq).trans (completes_congr winCtrlDo_go)
    · exact (winCtrl_now hg (by decide) hoff hq).trans (completes_congr winCtrlDo_abort)
  case queued =>
    exact fun hg hw => ⟨run_eq_of_effect (eff := fun n x => winCtrl who p 1 n x) (winCtrl_queued hg (by decide) hw),
      run_eq_of_effect (eff := fun n x => winCtrl who p 2 n x) (winCtrl_queued hg (by decide) hw)⟩
  case vote => exact fun k e h hd hr => run_eq_of_effect (eff := fun n x => x.voteDue d0 d1 n) (voteDue_decides h hd hr)
  case lost =>
    exact fun hs => ⟨run_eq_of_effect (eff := fun n x => x.coreLost c n) (coreLost_fails hs),
      run_eq_of_effect (eff := fun n x => x.coreLost c n) (coreLost_fails hs)⟩
  case taken => exact fun r d h => run_eq_of_effect (eff := fun n x => x.takeoverDone n) (takeoverDone_takes h)

end Sys2Proof
end

section
/-!
The recorder and replay: O49.
-/

namespace Sys2Proof.Machine
namespace State

variable {s : State} {who v k w e next : Nat} {d : DriveInfo} {ok : Bool} {c : NvCmd} {t r : Tick}

/-! ### The recorder (R399-R407) -/

theorem jEnWrite_done (h : s.grants who Rc.J_EN = true) (hv : v ≤ 1) :
    jEnWrite who v (some d) t s = s.completes who Rc.J_EN v fun x => x.jEnDo v (some d) t :=
  cmdWrite_done h (by simp [rangeIf, Nat.not_lt.2 hv])

theorem storeInitWrite_done (h : s.grants who Rc.STORE_INIT = true) :
    storeInitWrite who 1 (some d) t s = s.completes who Rc.STORE_INIT 1 fun x => x.storeInitDo (some d) t :=
  cmdWrite_done h (by simp [oneOnly, rangeIf])

theorem offloadedWrite_done (h : s.grants who Rc.OFFLOADED = true) (hlo : s.rN Rc.OFFLOADED ≤ v) (hhi : v ≤ s.rN Rc.CHUNK_NEXT) :
    offloadedWrite who v t s = s.completes who Rc.OFFLOADED v fun x => x.offloadedDo v t :=
  cmdWrite_done h (by simp [rangeIf, Nat.not_lt.2 hlo, Nat.not_lt.2 hhi])

theorem offloadedWrite_refused (h : s.grants who Rc.OFFLOADED = true) (hv : v < s.rN Rc.OFFLOADED ∨ s.rN Rc.CHUNK_NEXT < v) :
    offloadedWrite who v t s = s.refuse who Rc.OFFLOADED (Abort.valueRange (Rc.OFFLOADED % 256)) := by
  have hc : (decide (v < s.rN Rc.OFFLOADED) || decide (s.rN Rc.CHUNK_NEXT < v)) = true := by simpa using hv
  exact cmdWrite_refused h (if_pos hc)

theorem flushDue_closes (hr : s.rcd.recs ≠ []) (hd : s.rcd.openSince + s.rN Rc.J_FLUSH * 640000 ≤ t) : s.flushDue t = s.closeChunk.recKick t :=
  if_pos ⟨hr, hd⟩

theorem nvEnd_ends (hc : s.rcd.cmd = some c) (hr : c.retryAt = none) : s.nvEnd ok t = if ok then s.cmdOk c t else s.cmdBad c t := by
  simp [nvEnd, hc, hr]

theorem nvLate_fails (hc : s.rcd.cmd = some c) (hr : c.retryAt = none) (hd : c.issued + 640000000 ≤ t) : s.nvLate t = s.cmdBad c t := by
  have hd' : c.issued + Sys2Proof.sec ≤ t := hd
  simp [nvLate, hc, hr, hd']

theorem nvRetry_issues (hc : s.rcd.cmd = some c) (hr : c.retryAt = some r) (hd : r ≤ t) :
    s.nvRetry t = s.issue { c with issued := r, retryAt := none } := by
  simp [nvRetry, hc, hr, hd]

theorem headerAtDue_commits (h0 : 0 < s.rcd.sinceHeader) (hd : s.rcd.headerAt + 6400000000 ≤ t ∨ 1024 ≤ s.rcd.sinceHeader) :
    s.headerAtDue t = s.headerDue.recKick t := if_pos ⟨h0, hd⟩

theorem ckptDue_takes (hr : s.recRun = true) (hd : s.rcd.ckptAt ≤ t) : s.ckptDue t = s.checkpoint t := by
  simp [ckptDue, hr, hd]

theorem snapDueAll_asks (hr : s.recRun = true) (hd : s.rcd.snapAt ≤ t) :
    s.snapDueAll t = (s.j2Ports.foldl (fun x p => x.snapWant p) s).modRec fun r =>
      { r with snapAt := r.snapAt + s.rN Rc.J2_SNAP_INTERVAL * 640000 } := by
  unfold snapDueAll
  rw [if_pos (by simp [hr, hd])]
  rfl

/-! ### Replay sessions (R408-R413) -/

theorem rpCtrlWrite_done (h : s.grants who Rp.RP_CTRL = true) (hc : s.rpCtrlCheck v = none) :
    rpCtrlWrite who v t s = s.completes who Rp.RP_CTRL v fun x => x.rpCtrlDo v t :=
  cmdWrite_done h hc

theorem rpCtrlWrite_refused (h : s.grants who Rp.RP_CTRL = true) (hc : s.rpCtrlCheck v = some e) :
    rpCtrlWrite who v t s = s.refuse who Rp.RP_CTRL e :=
  cmdWrite_refused h hc

/-- With its ports and its range in order, START stands or falls with the epoch. -/
theorem rpCtrlCheck_start (hp : s.provisional = false) (hst : s.rN Rp.RP_STATE = 0 ∨ s.rN Rp.RP_STATE = 3) (h1 : 1 ≤ s.rpPorts.length)
    (h8 : s.rpPorts.length ≤ 8) (hr : s.rN Rp.RP_START < s.rN Rp.RP_END) :
    s.rpCtrlCheck 1 = if s.epochHeld then none else some 0x06010003 := by
  have hlen : s.rpPorts ≠ [] := List.ne_nil_of_length_pos h1
  rcases hst with hst | hst <;> simp [rpCtrlCheck, hp, hst, hlen, h8, Nat.not_le.2 hr, Abort.valueRange]

theorem rpCtrlWrite_start (h : s.grants who Rp.RP_CTRL = true) (hc : s.rpCtrlCheck 1 = if s.epochHeld then none else some 0x06010003) :
    rpCtrlWrite who 1 t s = if s.epochHeld then s.completes who Rp.RP_CTRL 1 fun x => x.rpCtrlDo 1 t else s.refuse who Rp.RP_CTRL 0x06010003 := by
  split
  next he => exact rpCtrlWrite_done h (hc.trans (if_pos he))
  next he => exact rpCtrlWrite_refused h (hc.trans (if_neg he))

/-- A session under way takes no second START. -/
theorem rpCtrlCheck_start_busy (hst : s.rN Rp.RP_STATE = 1 ∨ s.rN Rp.RP_STATE = 2) : s.rpCtrlCheck 1 = some 0x05020006 := by
  rcases hst with hst | hst <;> simp [rpCtrlCheck, hst, Abort.deviceState]

theorem rpCtrlCheck_stop (hst : s.rN Rp.RP_STATE = 1 ∨ s.rN Rp.RP_STATE = 2) : s.rpCtrlCheck 2 = none := by
  rcases hst with hst | hst <;> simp [rpCtrlCheck, hst, reasonIf]

theorem rpCtrlCheck_stop_idle (hst : s.rN Rp.RP_STATE = 0 ∨ s.rN Rp.RP_STATE = 3) : s.rpCtrlCheck 2 = some 0x05020006 := by
  rcases hst with hst | hst <;> simp [rpCtrlCheck, hst, reasonIf, Abort.deviceState]

/-- The selection of ports lies in two entries of its own. -/
theorem rpPorts_set (hlo : k ≠ Rp.RP_PORTS_LO) (hhi : k ≠ Rp.RP_PORTS_HI) : (s.set k w).rpPorts = s.rpPorts := by
  unfold rpPorts
  congr 1
  funext p
  split
  · exact bit_set_ne _ _ _ hlo.symm
  · exact bit_set_ne _ _ _ hhi.symm

theorem rN_rpCtrlDo_start : (s.rpCtrlDo 1 t).rN Rp.RP_STATE = 1 :=
  (rN_set_ne _ _ (by decide)).trans (rN_set_same _ (by decide))

theorem ports_rpCtrlDo_start : (s.rpCtrlDo 1 t).rcd.rp.map (·.port) = s.rpPorts := by
  have hports : ((s.set Rp.RP_STATE 1).set Rp.RP_TICK (s.rN Rp.RP_START)).rpPorts = s.rpPorts := by
    rw [rpPorts_set (by decide) (by decide), rpPorts_set (by decide) (by decide)]
  simp [rpCtrlDo, modRec, hports, Function.comp_def]

theorem seekDone_found (h : s.rN Rp.RP_STATE = 1) : s.seekDone true = s.set Rp.RP_STATE 2 := by simp [seekDone, h]

theorem seekDone_not_found (h : s.rN Rp.RP_STATE = 1) : s.seekDone false = s.rpEnd 4 := by simp [seekDone, h]

theorem rpNext_runs {c : RpChunk} (h : s.rN Rp.RP_STATE = 2) : s.rpNext c = s.rpChunk c := if_pos h

theorem rpNext_idle {c : RpChunk} (h : s.rN Rp.RP_STATE ≠ 2) : s.rpNext c = s := if_neg h

theorem rpChunk_overwritten {c : RpChunk} (h : (∃ n, s.rcd.box.next = some n ∧ n ≠ c.no) ∨ c.no < s.rN Rc.CHUNK_OLDEST) :
    s.rpChunk c = s.rpEnd 3 := by
  refine if_pos ?_
  rcases h with ⟨n, hn, hne⟩ | h
  · simp [hn, hne]
  · simp [h]

/-- The chunk needed next is taken; one of another epoch stops the session where the journal of its own epoch ends. -/
theorem rpChunk_advances {c : RpChunk} (hn : ∀ n, s.rcd.box.next = some n → n = c.no) (ho : s.rN Rc.CHUNK_OLDEST ≤ c.no) :
    s.rpChunk c = s.rpRun (if c.epoch = s.rN Rp.RP_EPOCH then s.rcd.box.take c (s.rN Rp.RP_START)
      else { s.rcd.box with stop := some (s.rcd.box.stop.getD (s.rcd.box.top + 1)) }) := by
  have hgo : ¬((s.rcd.box.next.isSome && decide (s.rcd.box.next ≠ some c.no)) || decide (c.no < s.rN Rc.CHUNK_OLDEST)) = true := by
    cases hb : s.rcd.box.next with
    | none => simp [Nat.not_lt.2 ho]
    | some n => simp [hn n hb, Nat.not_lt.2 ho]
  refine (if_neg hgo).trans ?_
  by_cases he : c.epoch = s.rN Rp.RP_EPOCH <;> simp [he]

end State
end Sys2Proof.Machine
namespace Sys2Proof
open Machine State

/-- Settles O49: the recorder's requests and events, then a replay session from START to STOP. -/
theorem recorderComplete : Obligations.RecorderComplete := by
  refine ⟨?recorder, ?replay⟩
  case recorder =>
    intro s t who v next d ok a
    refine ⟨?enable, ?init, ?offload, ?offloadRange, ?flush, ?ends, ?late, ?retry, ?header, ?checkpoint, ?snap, ?scan⟩
    case enable => exact fun hg hv => run_eq_of_effect (eff := fun n x => jEnWrite who v (some d) n x) (jEnWrite_done hg hv)
    case init => exact fun hg => run_eq_of_effect (eff := fun n x => storeInitWrite who 1 (some d) n x) (storeInitWrite_done hg)
    case offload => exact fun hg hlo hhi => run_eq_of_effect (eff := fun n x => offloadedWrite who v n x) (offloadedWrite_done hg hlo hhi)
    case offloadRange =>
      exact fun hg hv => ⟨_, by decide, run_eq_of_effect (eff := fun n x => offloadedWrite who v n x) (offloadedWrite_refused hg hv)⟩
    case flush => exact fun hr hd => run_eq_of_effect (eff := fun n x => x.flushDue n) (flushDue_closes hr hd)
    case ends => exact fun c hc hr => run_eq_of_effect (eff := fun n x => x.nvEnd ok n) (nvEnd_ends hc hr)
    case late => exact fun c hc hr hd => run_eq_of_effect (eff := fun n x => x.nvLate n) (nvLate_fails hc hr hd)
    case retry => exact fun c r hc hr hd => run_eq_of_effect (eff := fun n x => x.nvRetry n) (nvRetry_issues hc hr hd)
    case header => exact fun h0 hd => run_eq_of_effect (eff := fun n x => x.headerAtDue n) (headerAtDue_commits h0 hd)
    case checkpoint => exact fun hr hd => run_eq_of_effect (eff := fun n x => x.ckptDue n) (ckptDue_takes hr hd)
    case snap => exact fun hr hd => run_eq_of_effect (eff := fun n x => x.snapDueAll n) (snapDueAll_asks hr hd)
    case scan => exact fun _ => run_eq_of_effect (eff := fun n x => x.scanDone d next n) rfl
  case replay =>
    intro s t who c a
    refine ⟨?start, ?busy, ?stopIdle, ?seek, ?overwritten, ?advances, ?idle⟩
    case start =>
      exact fun hg hp hst h1 h8 hr =>
        ⟨run_eq_of_effect (eff := fun n x => rpCtrlWrite who 1 n x) (rpCtrlWrite_start hg (rpCtrlCheck_start hp hst h1 h8 hr)),
          _, rfl, rN_rpCtrlDo_start, ports_rpCtrlDo_start, rfl⟩
    case busy =>
      exact fun hg hst => ⟨run_eq_of_effect (eff := fun n x => rpCtrlWrite who 1 n x) (rpCtrlWrite_refused hg (rpCtrlCheck_start_busy hst)),
        run_eq_of_effect (eff := fun n x => rpCtrlWrite who 2 n x) (rpCtrlWrite_done hg (rpCtrlCheck_stop hst))⟩
    case stopIdle =>
      exact fun hg hst => run_eq_of_effect (eff := fun n x => rpCtrlWrite who 2 n x) (rpCtrlWrite_refused hg (rpCtrlCheck_stop_idle hst))
    case seek =>
      exact fun hst => ⟨run_eq_of_effect (eff := fun _ x => x.seekDone true) (seekDone_found hst),
        run_eq_of_effect (eff := fun _ x => x.seekDone false) (seekDone_not_found hst)⟩
    case overwritten =>
      exact fun hst h => run_eq_of_effect (eff := fun _ x => x.rpNext c) ((rpNext_runs hst).trans (rpChunk_overwritten h))
    case advances =>
      exact fun hst hn ho => run_eq_of_effect (eff := fun _ x => x.rpNext c) ((rpNext_runs hst).trans (rpChunk_advances hn ho))
    case idle => exact fun hst => run_eq_of_effect (eff := fun _ x => x.rpNext c) (rpNext_idle hst)

end Sys2Proof
end

section
/-!
The host over PCIe: O55, O56, O57.
-/

namespace Sys2Proof.Machine
namespace State

variable {s : State} {who v f r id typ g : Nat} {body b : List Byte} {host : Option (List Byte)} {d : Desc} {t : Tick}

/-! ### The functions and the link (R374-R377, R392) -/

theorem fnFlr_pf0 (hf : f = 0) : s.fnFlr f t = (s.vfOff t).fnReset 0 t := if_pos hf

theorem fnFlr_vf (hf : f ≠ 0) (hl : s.fnLive f = true) : s.fnFlr f t = s.fnReset f t := by simp [fnFlr, hf, hl]

theorem fnDown_sleeps (hl : s.fnLive f = true) (hd : (s.fnx f).d3 = false) : s.fnDown f t = s.fnSleep f t := by simp [fnDown, hl, hd]

theorem fnWake_wakes (hl : s.fnLive f = true) : s.fnWake f = s.modFn f fun x => { x with d3 := false } := if_pos hl

theorem linkUp_trains {speed width : Nat} (hb : s.pwr.boot ≠ 0) (hw : width = 1 ∨ width = 2 ∨ width = 4 ∨ width = 8 ∨ width = 16) :
    s.linkUp speed width = (s.set Pe.LINK_SPEED (min (speed + 1) (s.rN Pe.TARGET_SPEED))).set Pe.LINK_WIDTH width := by
  have hmem : width ∈ [1, 2, 4, 8, 16] := by simpa using hw
  exact if_pos (by rw [decide_eq_true hb, decide_eq_true hmem]; rfl)

theorem vfSet_enables {n : Nat} (hl : s.rN Pe.LINK_SPEED ≠ 0) (h0 : s.rN Pe.NUM_VF = 0) (hn : 0 < n) : s.vfSet n t = s.set Pe.NUM_VF n := by
  simp [vfSet, hl, h0, Nat.ne_of_gt hn]

theorem vfSet_clears {n : Nat} (hl : s.rN Pe.LINK_SPEED ≠ 0) (hn : n = 0) : s.vfSet n t = s.vfOff t := by simp [vfSet, hl, hn]

theorem holdoffEnd_sends (ho : Tab.get (fun _ => false) (s.fnx f).owed v = true) (hh : Tab.get (fun _ => 0) (s.fnx f).hold v ≤ t) :
    holdoffEnd f v t s = (s.modFn f fun x => { x with owed := Tab.set (fun _ => false) x.owed v false }).vecSend f v t := by
  simp [holdoffEnd, ho, hh]

theorem unmask_sends (hv : v < vectorsOf f) (hl : s.fnLive f = true) (hp : Tab.get (fun _ => false) (s.fnx f).pend v = true) :
    unmask f v t s = (s.modFn f fun x =>
      { x with unmasked := Tab.set (fun _ => false) x.unmasked v true, pend := Tab.set (fun _ => false) x.pend v false }).vecSend f v t := by
  simp [unmask, hv, hl, hp]

/-! ### The mailbox (R383-R385) -/

theorem mbSubmit_accepts (hs : s.mbServes f = true) (hid : id ≠ 0) (hst : (s.fnx f).mb.st ≠ 1) :
    mbSubmit f id typ body host t s =
      (s.modMb f fun m => { m with st := 1, cur := id, curTyp := typ, ready := none }).mbRequest f id typ body host t := by
  simp [mbSubmit, hs, hid, hst]

theorem mbSubmit_discards (hs : s.mbServes f = true) (hid : id = 0) :
    mbSubmit f id typ body host t s = s.modMb f fun m => { m with discarded := true } := by
  simp [mbSubmit, hs, hid]

theorem mbSubmit_overruns (hs : s.mbServes f = true) (hid : id ≠ 0) (hst : (s.fnx f).mb.st = 1) :
    mbSubmit f id typ body host t s = s.modMb f fun m => { m with overrun := true } := by
  simp [mbSubmit, hs, hid, hst]

theorem mbRespond_answers (h : (s.fnx f).mb.ready = some b) :
    let m := (s.fnx f).mb
    let rsp := leBytes 1 (m.curTyp + 0x80) ++ leBytes 3 0 ++ leBytes 2 b.length ++ leBytes 2 0 ++ b
    mbRespond f t s = (s.modMb f fun x => { x with rsp := rsp, doneId := m.cur, st := 2, ready := none }).raise f (s.rN (Fn.MB_VECTOR f)) t := by
  simp only [mbRespond, h]
  rfl

/-! ### DMA channels (R386-R390) -/

theorem bit_markDirty_ne {k i : Nat} (h : k ≠ Dv.CFG_STATE) : s.markDirty.bit k i = s.bit k i := by
  unfold markDirty when
  split
  · exact bit_set_ne _ _ _ h
  · rfl

theorem dmaOn_markDirty_jConfig {key : Nat} (hr : r < 32) : ((s.jConfig key who v).markDirty).dmaOn r = s.dmaOn r := by
  unfold dmaOn
  rw [bit_markDirty_ne (by unfold Dm.DMA_EN Dv.CFG_STATE; omega),
    bit_jConfig (by unfold Dm.DMA_EN Rc.GAP_COUNT; omega) (by unfold Dm.DMA_EN Rc.J_STATUS; omega)]

/-- For a ring that a function owns, check 5 is the ring's owner alone. -/
theorem dmaOwner_of_function {key : Nat} (hf : (s.dmaFn r).isSome = true) : s.dmaOwner who r key = s.ownerAbort who key := by
  unfold dmaOwner
  split
  next h => exact h.symm
  next h => rw [if_pos hf, h]

theorem dmaEnWrite_enables (h : s.grants who (Dm.DMA_EN r) = true) (hr : r < 32) (hf : (s.dmaFn r).isSome = true)
    (hc : s.bit (Rn.CONSUMERS r) 0 = true) (hoff : s.dmaOn r = false) :
    dmaEnWrite who r 1 t s = s.completes who (Dm.DMA_EN r) 1 fun x => (x.markDirty.set (Dm.DMA_EN r) 1).syncDma r := by
  obtain ⟨hreach, hw⟩ := writeAbort_of_grants h
  have hchk : s.writeAbort who (Dm.DMA_EN r) (s.dmaOwner who r (Dm.DMA_EN r))
      (if 1 < 1 then some (Abort.valueRange 1) else if 1 = 1 ∧ s.bit (Rn.CONSUMERS r) 0 = false then some (Abort.valueRange 6) else none) = none := by
    simpa [dmaOwner_of_function hf, hc] using hw
  unfold dmaEnWrite
  refine (cmdWriteBy_done (own := fun s => s.dmaOwner who r (Dm.DMA_EN r)) (chk := fun s => if 1 < 1 then some (Abort.valueRange 1)
    else if 1 = 1 ∧ s.bit (Rn.CONSUMERS r) 0 = false then some (Abort.valueRange 6) else none) hreach hchk).trans ?_
  refine completes_congr ?_
  simp [dmaOn_markDirty_jConfig hr, hoff]

theorem descTailWrite_advances (h : s.grants who (Dm.DESC_TAIL r) = true) (hf : (s.dmaFn r).isSome = true) (hv : s.descTailOk r v = true) :
    descTailWrite who r v s = s.completes who (Dm.DESC_TAIL r) v fun x => (x.set (Dm.DESC_TAIL r) v).markDirty.syncDma r := by
  obtain ⟨hreach, hw⟩ := writeAbort_of_grants h
  have hchk : s.writeAbort who (Dm.DESC_TAIL r) (s.dmaOwner who r (Dm.DESC_TAIL r)) (rangeIf (!s.descTailOk r v) (Dm.DESC_TAIL r)) = none := by
    simpa [dmaOwner_of_function hf, hv, rangeIf] using hw
  unfold descTailWrite
  exact cmdWriteBy_done (own := fun s => s.dmaOwner who r (Dm.DESC_TAIL r)) (chk := fun s => rangeIf (!s.descTailOk r v) (Dm.DESC_TAIL r)) hreach hchk

theorem dmaTransfer_puts (hf : s.dmaFn r = some g) (ho : s.dmaOn r = true) (hu : s.winUp g = true) (hr : s.bit (Rn.RING_EN r) 0 = true)
    (hw : s.dmaWaiting r = true) (hop : (s.dmx r).open_ = true) (hroom : (s.dmx r).filled < (s.dmx r).cap) :
    dmaTransfer r d t s = s.dmaPut r g t := by
  simp [dmaTransfer, hf, ho, hu, hr, hw, hop, hroom]

theorem dmaTransfer_opens (hf : s.dmaFn r = some g) (ho : s.dmaOn r = true) (hu : s.winUp g = true) (hr : s.bit (Rn.RING_EN r) 0 = true)
    (hw : s.dmaWaiting r = true) (hop : (s.dmx r).open_ = false) (hp : s.descPosted r = true) (hd : descOk d = true) :
    dmaTransfer r d t s = (s.descOpen r g d t).dmaPut r g t := by
  simp [dmaTransfer, hf, ho, hu, hr, hw, hop, hp, hd]

theorem pcie_syncRing : (s.syncRing r).pcie = s.pcie :=
  (syncRing_leaves (F := ⟨0x2380, [], [.spad, .mem]⟩) .refl (by decide) (.inl (Nat.le_add_right _ _))).pcie.resolve_left (by simp [Foot.has])

/-- The count of a block that is acknowledged while another one is on its way. -/
theorem flying_acked {c n : Nat} :
    ((((s.modDm r fun x => { x with flying := x.flying - 1 }).set c n).syncRing r).dmx r).flying = (s.dmx r).flying - 1 := by
  unfold dmx
  rw [pcie_syncRing]
  simp [modDm, dmx, set]

/-- An acknowledged block is consumed and counted. -/
theorem dmaAcked_consumes (h0 : (s.dmx r).flying ≠ 0) (hd : diff40 (s.rN (Rn.WR_COUNT r)) (s.rN (Rn.CONS_HOST r)) ≠ 0) :
    let b := s.modDm r fun x => { x with flying := x.flying - 1 }
    dmaAcked r s =
      (((b.set (Rn.CONS_HOST r) ((b.rN (Rn.CONS_HOST r) + 1) % 1099511627776)).syncRing r).wrapInc (Dm.BLOCKS_SENT r) 40 1).syncDma r := by
  refine (if_neg h0).trans ?_
  exact congrArg (fun u : State => (u.wrapInc (Dm.BLOCKS_SENT r) 40 1).syncDma r) (if_neg hd)

theorem dmaFlush_flushes (hf : s.dmaFn r = some g) (ho : s.dmaOn r = true) (hop : (s.dmx r).open_ = true) (h0 : 0 < (s.dmx r).filled)
    (hc : (s.dmx r).filled < (s.dmx r).cap) (hd : (s.dmx r).first + s.rN (Dm.DMA_FLUSH r) * 640 ≤ t) :
    dmaFlush r t s = (s.descBack r true false g t).syncDma r := by
  have hd' : (s.dmx r).first + s.rN (Dm.DMA_FLUSH r) * us ≤ t := hd
  simp [dmaFlush, hf, ho, hop, h0, hc, hd']

theorem descFail_stops (hf : s.dmaFn r = some g) (ho : s.dmaOn r = true) (hop : (s.dmx r).open_ = false) (hp : s.descPosted r = true) :
    descFail r t s = s.dmaStop r g .error t := by
  simp [descFail, hf, ho, hop, hp]

/-! ### Notification queues (R391) -/

/-- The oldest event of a function leaves the intake. -/
def taken (s : State) (i : Intake) : State := { s with pcie := { s.pcie with intake := s.pcie.intake.erase i } }

theorem nqWrite_writes {i : Intake} (hi : s.pcie.intake.find? (fun i => decide (i.fn = f)) = some i)
    (hen : (s.taken i).bit (Fn.NQ_EN f) 0 = true) (hup : (s.taken i).fnUp f = true)
    (hroom : ((s.taken i).rN (Fn.NQ_TAIL f) + 4294967296 - (s.taken i).rN (Fn.NQ_HEAD f)) % 4294967296 < 2 ^ (s.taken i).rN (Fn.NQ_LOG2 f)) :
    let b := s.taken i
    nqWrite f t s = (((b.out (.hostWrite f (b.rN (Fn.NQ_BASE f) + 32 * (b.rN (Fn.NQ_TAIL f) % 2 ^ b.rN (Fn.NQ_LOG2 f)))
      (b.nqEntry i (b.fnx f).nqLost) false)).modFn f fun x => { x with nqLost := false }).set (Fn.NQ_TAIL f)
        ((b.rN (Fn.NQ_TAIL f) + 1) % 4294967296)).raise f (b.rN (Fn.NQ_VECTOR f)) t := by
  have hgo : (!(s.taken i).bit (Fn.NQ_EN f) 0 || !(s.taken i).fnUp f) = false := by simp [hen, hup]
  unfold nqWrite
  rw [hi]
  refine (if_neg (Bool.eq_false_iff.mp hgo)).trans ?_
  exact if_pos hroom

end State
end Sys2Proof.Machine
namespace Sys2Proof
open Machine State

/-- Settles O55, event by event. -/
theorem pcieFunctionsComplete : Obligations.PcieFunctionsComplete := by
  intro s t f speed width vec n a
  refine ⟨?down, ?flr0, ?flr, ?sleep, ?wake, ?train, ?vf, ?vfOff, ?holdoff, ?unmask⟩
  case down => exact run_eq_of_effect (eff := fun n x => x.pcieDown n) rfl
  case flr0 => exact fun hf => run_eq_of_effect (eff := fun n x => x.fnFlr f n) (fnFlr_pf0 hf)
  case flr => exact fun hf hl => run_eq_of_effect (eff := fun n x => x.fnFlr f n) (fnFlr_vf hf hl)
  case sleep => exact fun hl hd => run_eq_of_effect (eff := fun n x => x.fnDown f n) (fnDown_sleeps hl hd)
  case wake => exact fun hl => run_eq_of_effect (eff := fun _ x => x.fnWake f) (fnWake_wakes hl)
  case train => exact fun hb hw => run_eq_of_effect (eff := fun _ x => x.linkUp speed width) (linkUp_trains hb hw)
  case vf => exact fun hl h0 hn => run_eq_of_effect (eff := fun m x => x.vfSet n m) (vfSet_enables hl h0 hn)
  case vfOff => exact fun hl hn => run_eq_of_effect (eff := fun m x => x.vfSet n m) (vfSet_clears hl hn)
  case holdoff => exact fun ho hh => run_eq_of_effect (eff := fun n x => holdoffEnd f vec n x) (holdoffEnd_sends ho hh)
  case unmask => exact fun hv hl hp => run_eq_of_effect (eff := fun n x => unmask f vec n x) (unmask_sends hv hl hp)

/-- Settles O56: the six requests, the two that are not taken, and the response. -/
theorem mailboxComplete : Obligations.MailboxComplete := by
  intro s t f id body host a busy
  refine ⟨?requests, ?discarded, ?overrun, ?response⟩
  case requests =>
    exact fun hs hid hst =>
      ⟨run_eq_of_effect (eff := fun n x => mbSubmit f id 2 body none n x) (mbSubmit_accepts hs hid hst),
        run_eq_of_effect (eff := fun n x => mbSubmit f id 3 body none n x) (mbSubmit_accepts hs hid hst),
        run_eq_of_effect (eff := fun n x => mbSubmit f id 4 body none n x) (mbSubmit_accepts hs hid hst),
        run_eq_of_effect (eff := fun n x => mbSubmit f id 5 body none n x) (mbSubmit_accepts hs hid hst),
        run_eq_of_effect (eff := fun n x => mbSubmit f id 8 body none n x) (mbSubmit_accepts hs hid hst),
        run_eq_of_effect (eff := fun n x => mbSubmit f id 9 body host n x) (mbSubmit_accepts hs hid hst)⟩
  case discarded => exact fun hs hid => run_eq_of_effect (eff := fun n x => mbSubmit f id 2 body none n x) (mbSubmit_discards hs hid)
  case overrun =>
    exact fun hs hid hst => run_eq_of_effect (eff := fun n x => mbSubmit f id 3 body none n x) (mbSubmit_overruns hs hid hst)
  case response => exact fun b h => run_eq_of_effect (eff := fun n x => mbRespond f n x) (mbRespond_answers h)

/-- Settles O57: the two entries, the life of a block in a channel, and the notification queue. -/
theorem dmaAndNotificationsComplete : Obligations.DmaAndNotificationsComplete := by
  intro s t who r f v d a
  refine ⟨?enable, ?tail, ?puts, ?opens, ?waits, ?acked, ?flush, ?fetch, ?event⟩
  case enable =>
    exact fun hg hf hc hoff => run_eq_of_effect (eff := fun n x => dmaEnWrite who r 1 n x) (dmaEnWrite_enables hg r.isLt hf hc hoff)
  case tail => exact fun hg hf hv => run_eq_of_effect (eff := fun _ x => descTailWrite who r v x) (descTailWrite_advances hg hf hv)
  case puts =>
    exact fun g hf ho hu hr hw hwipe hop hroom => run_eq_of_effect (eff := fun n x => dmaNext r d n x)
      ((orLate_of_not_wiping hwipe).trans (dmaTransfer_puts hf ho hu hr hw hop hroom))
  case opens =>
    exact fun g hf ho hu hr hw hwipe hop hp hd => run_eq_of_effect (eff := fun n x => dmaNext r d n x)
      ((orLate_of_not_wiping hwipe).trans (dmaTransfer_opens hf ho hu hr hw hop hp hd))
  case waits => exact fun hwipe => run_eq_of_effect (eff := fun n x => dmaNext r d n x) (orLate_of_wiping hwipe)
  case acked =>
    intro h0 h1 hd b
    refine ⟨_, rfl, ?_⟩
    have hfly : ((((b.set (Rn.CONS_HOST r) ((b.rN (Rn.CONS_HOST r) + 1) % 1099511627776)).syncRing r).wrapInc (Dm.BLOCKS_SENT r) 40 1).dmx
        r).flying ≠ 0 := by
      have : (a.dmx r).flying - 1 ≠ 0 := by omega
      exact fun h => this (flying_acked.symm.trans h)
    have hkept : ∀ x y : State, (x.dmx r).flying ≠ 0 →
        (if (x.dmx r).open_ && decide ((x.dmx r).filled = (x.dmx r).cap) && decide ((x.dmx r).flying = 0) then y else x) = x :=
      fun x y h => if_neg (by simp [h])
    refine run_eq_of_effect (eff := fun _ x => dmaAcked r x) ((dmaAcked_consumes h0 hd).trans ?_)
    exact congrArg (·.syncDma r) (hkept _ _ hfly).symm
  case flush =>
    exact fun g hf ho hop h0 hc hd => run_eq_of_effect (eff := fun n x => dmaFlush r n x) (dmaFlush_flushes hf ho hop h0 hc hd)
  case fetch => exact fun g hf ho hop hp => run_eq_of_effect (eff := fun n x => descFail r n x) (descFail_stops hf ho hop hp)
  case event =>
    exact fun i hi hen hup hroom => run_eq_of_effect (eff := fun n x => nqWrite f n x) (nqWrite_writes hi hen hup hroom)

end Sys2Proof
end

section
/-!
COP requests of a session: O58.
-/

namespace Sys2Proof.Machine
namespace State

variable {s : State} {peer : Peer} {m : List Byte} {k typ : Nat} {x : Session} {t : Tick}

/-! ### COP messages (R361-R368) -/

/-- A message of the row's own TYPE is received. -/
theorem copRow_receives (h : copTyp m = typ) : copRow typ peer m t s = s.copRx peer m t := by
  simp [copRow, when, h]

theorem copRx_opens (hs : s.served = true) (hm : 32 ≤ m.length) (h0 : copSid m = 0) (ht : copTyp m = Cop.open_) :
    s.copRx peer m t = s.sessionOpenRx peer m t := by
  have hlong : ¬m.length < 32 := Nat.not_lt.2 hm
  unfold copRx
  rw [hs, if_neg (by simp), if_neg hlong, if_pos ⟨h0, ht⟩]

/-- The session after an accepted message: it has the message's SEQ and peer, and its time. -/
def heard (s : State) (k : Nat) (x : Session) (peer : Peer) (m : List Byte) (t : Tick) : State :=
  (s.setSession k (some { x with rx := copSeq m, peer := peer, lastMsg := t })).set (Ss.SESSION_STATE k) (peerState peer)

/-- A message that names a session is judged by its tag, then by its SEQ. -/
theorem copRx_of_session (hs : s.served = true) (hm : 32 ≤ m.length) (h0 : copSid m ≠ 0) (hk : s.sessionOf (copSid m) = some k)
    (hx : s.session k = some x) :
    s.copRx peer m t = if !copTagOk x.ks m then s.authFail k else if copSeq m ≤ x.rx then s.satInc (Ss.REPLAY_DROP k) 32 1
      else (s.heard k x peer m t).sessionRequest k peer m t := by
  have hlong : ¬m.length < 32 := Nat.not_lt.2 hm
  simp only [copRx, hs, hlong, h0, hk, hx, Bool.not_true, Bool.false_eq_true, if_false, false_and]
  rfl

theorem copRx_accepts (hs : s.served = true) (hm : 32 ≤ m.length) (h0 : copSid m ≠ 0) (hk : s.sessionOf (copSid m) = some k)
    (hx : s.session k = some x) (htag : copTagOk x.ks m = true) (hseq : x.rx < copSeq m) :
    s.copRx peer m t = (s.heard k x peer m t).sessionRequest k peer m t := by
  rw [copRx_of_session hs hm h0 hk hx, htag, if_neg (by simp), if_neg (Nat.not_le.2 hseq)]

theorem copRx_replay (hs : s.served = true) (hm : 32 ≤ m.length) (h0 : copSid m ≠ 0) (hk : s.sessionOf (copSid m) = some k)
    (hx : s.session k = some x) (htag : copTagOk x.ks m = true) (hseq : copSeq m ≤ x.rx) :
    s.copRx peer m t = s.satInc (Ss.REPLAY_DROP k) 32 1 := by
  rw [copRx_of_session hs hm h0 hk hx, htag, if_neg (by simp), if_pos hseq]

theorem copRx_wrongTag (hs : s.served = true) (hm : 32 ≤ m.length) (h0 : copSid m ≠ 0) (hk : s.sessionOf (copSid m) = some k)
    (hx : s.session k = some x) (htag : copTagOk x.ks m = false) : s.copRx peer m t = s.satInc (Ss.AUTH_FAIL k) 32 1 := by
  rw [copRx_of_session hs hm h0 hk hx, htag]
  rfl

/-- A request that is new and well formed is carried out by its TYPE. -/
theorem sessionRequest_by_type (hnew : (s.session k).bind (fun y => y.kept.find? fun e => decide (e.1 = copReq m)) = none)
    (hform : transportAbort (peerMax peer) m = none) :
    s.sessionRequest k peer m t =
      if copTyp m = Cop.read then s.readReq k (copReq m) (copBody m)
      else if copTyp m = Cop.write then s.writeReq k (copReq m) (copBody m) t
      else if copTyp m = Cop.readBlock then s.readBlockReq k (copReq m) peer (copBody m) t
      else if copTyp m = Cop.writeBlock then s.writeBlockReq k (copReq m) (copBody m) t
      else if copTyp m = Cop.subscribe then s.subscribeReq k (copReq m) (copBody m) t
      else s.abortReq k (copReq m) (copBody m) := by
  simp only [sessionRequest, hnew, hform]

end State
end Sys2Proof.Machine
namespace Sys2Proof
open Machine State

/-- Settles O58: the opening of a session, then a message by its tag, its SEQ and its TYPE. -/
theorem copRequestsComplete : Obligations.CopRequestsComplete := by
  intro s t peer m k x a b hs hm
  refine ⟨?opens, ?carriedOut, ?replay, ?wrongTag⟩
  case opens =>
    exact fun h0 ht => run_eq_of_effect (eff := fun n y => copRow Cop.open_ peer m n y) ((copRow_receives ht).trans (copRx_opens hs hm h0 ht))
  case carriedOut =>
    intro h0 hk hx htag hseq hnew hform
    have hrow : ∀ typ u, copTyp m = typ → b.sessionRequest k peer m a.now = u →
        run t (fun n y => copRow typ peer m n y) s = .next u.settle := fun typ u ht hu =>
      run_eq_of_effect (eff := fun n y => copRow typ peer m n y)
        ((copRow_receives ht).trans ((copRx_accepts hs hm h0 hk hx htag hseq).trans hu))
    have hreq := sessionRequest_by_type (t := a.now) hnew hform
    exact ⟨fun ht => hrow _ _ ht (hreq.trans (by simp [ht])), fun ht => hrow _ _ ht (hreq.trans (by simp [ht])),
      fun ht => hrow _ _ ht (hreq.trans (by simp [ht])), fun ht => hrow _ _ ht (hreq.trans (by simp [ht])),
      fun ht => hrow _ _ ht (hreq.trans (by simp [ht])), fun ht => hrow _ _ ht (hreq.trans (by simp [ht]))⟩
  case replay =>
    exact fun h0 hk hx htag hseq ht => run_eq_of_effect (eff := fun n y => copRow Cop.read peer m n y)
      ((copRow_receives ht).trans (copRx_replay hs hm h0 hk hx htag hseq))
  case wrongTag =>
    exact fun h0 hk hx htag ht => run_eq_of_effect (eff := fun n y => copRow Cop.read peer m n y)
      ((copRow_receives ht).trans (copRx_wrongTag hs hm h0 hk hx htag))

end Sys2Proof
end

section
/-!
A session in time: O59.
-/

namespace Sys2Proof.Machine
namespace State

variable {s z : State} {who k f key e : Nat} {x : Session} {b : BlockXfer} {u : Sub} {r : Resp} {data : List Byte} {t : Tick}

/-! ### Transfers, timeouts and the closing of a session (R363, R367) -/

theorem blockStale_of_due (hd : b.since + 6400000000 ≤ t) : blockStale (some b) t = true := decide_eq_true hd

theorem blockQuiet_of_session (hx : s.session k = some x) (hb : x.block = some b) (hd : b.since + 6400000000 ≤ t) :
    s.blockQuiet false k t = s.setSession k (some { x with block := none }) := by
  simp [blockQuiet, hx, hb, blockStale_of_due hd, setBlock]

theorem blockQuiet_of_mailbox (hb : (s.fnx f).mb.block = some b) (hd : b.since + 6400000000 ≤ t) :
    s.blockQuiet true f t = s.modMb f fun m => { m with block := none } := by
  simp [blockQuiet, hb, blockStale_of_due hd]

theorem sessQuiet_closes (hx : s.session k = some x) (hd : x.lastMsg + s.rN (Ss.SESSION_TIMEOUT k) * 640000000 ≤ t) :
    s.sessQuiet k t = s.sessClose k := by
  have hd' : x.lastMsg + s.rN (Ss.SESSION_TIMEOUT k) * Sys2Proof.sec ≤ t := hd
  simp [sessQuiet, hx, hd']

theorem closeWrite_closes (h : s.grants who (Ss.CLOSE k) = true) :
    closeWrite who k 1 s = s.completes who (Ss.CLOSE k) 1 fun y => y.sessClose k :=
  cmdWrite_done h (by simp [oneOnly, rangeIf])

theorem notifyDue_sends (hx : s.session k = some x) (hi : x.items ≠ []) (hd : x.itemAt + s.rN (Ss.NOTIFY_HOLDOFF k) * 640000 ≤ t) :
    s.notifyDue k t = s.notifySend k t := by
  have hd' : x.itemAt + s.rN (Ss.NOTIFY_HOLDOFF k) * ms ≤ t := hd
  simp [notifyDue, hx, hi, hd']

/-! ### A read of the dictionary (R343, R345) -/

theorem odRead_unserved (hr : s.reaches who key = false) : odRead who key s = s := by simp [odRead, hr]

theorem odRead_refused (hr : s.reaches who key = true) (he : s.readAbort who key = some e) : odRead who key s = s.refuse who key e := by
  simp [odRead, hr, he]

theorem odRead_hardware (hr : s.reaches who key = true) (he : s.readAbort who key = none) (hd : (s.readEntry key).2 = none) :
    odRead who key s = (s.readEntry key).1.refuse who key 0x07010000 := by
  obtain ⟨y, hy⟩ : ∃ y, s.readEntry key = (y, none) := ⟨_, Prod.ext rfl hd⟩
  simp [odRead, hr, he, hy, Abort.hardware]

theorem odRead_answers (hr : s.reaches who key = true) (he : s.readAbort who key = none) (hd : (s.readEntry key).2 = some data) :
    odRead who key s = (s.readEntry key).1.accept who key data := by
  obtain ⟨y, hy⟩ : ∃ y, s.readEntry key = (y, some data) := ⟨_, Prod.ext rfl hd⟩
  simp [odRead, hr, he, hy]

/-! ### Subscriptions (R368) -/

/-- The session's subscriptions once `u` has been read: its next due tick, and the data that it gathered, if it did. -/
def subsRead (x : Session) (u : Sub) (data : Option (List Byte)) : List Sub :=
  x.subs.map fun v => if v.num = u.num then { v with next := u.next + u.period * 640000, last := if data.isSome then data else v.last } else v

theorem subRead_of_no_session (hx : s.session k = none) {n : Nat} : s.subRead k n t = s := by simp [subRead, hx]

section DueSubscription

variable (hx : s.session k = some x) (hu : x.subs.find? (fun v => decide (v.num = u.num) && decide (v.next ≤ t)) = some u)
  (hz : odRead (18 + k) u.key { s with resp := none } = z)
include hx hu hz

/-- A read that the device does not serve leaves the subscription as it is. -/
theorem subRead_unserved (hr : z.resp = none) : s.subRead k u.num t = z := by
  simp [subRead, hx, hu, hz, hr]

/-- A read refused for ownership cancels the subscription. -/
theorem subRead_cancels (hr : z.resp = some r) (ho : r.abort / 65536 = 0x0401) :
    s.subRead k u.num t =
      (z.setSubs k (x.subs.filter fun v => decide (v.num ≠ u.num))).addItem k (.cancelled u.num r.abort) u.next := by
  simp [subRead, hx, hu, hz, hr, ho]

/-- A read refused otherwise is skipped, and the subscription stands (the model's choice, log 67). -/
theorem subRead_skips (hr : z.resp = some r) (ho : r.abort / 65536 ≠ 0x0401) (h0 : r.abort ≠ 0) :
    s.subRead k u.num t = z.setSubs k (subsRead x u none) := by
  simp [subRead, hx, hu, hz, hr, ho, h0, when, subsRead, ms]

/-- Data that did not change are not gathered, but for mode PERIODIC. -/
theorem subRead_unchanged (hr : z.resp = some r) (h0 : r.abort = 0) (hm : u.mode ≠ 2) (hl : u.last = some r.data) :
    s.subRead k u.num t = z.setSubs k (subsRead x u none) := by
  simp [subRead, hx, hu, hz, hr, h0, hm, hl, when, subsRead, ms]

theorem subRead_gathers (hr : z.resp = some r) (h0 : r.abort = 0) (hm : u.mode = 2 ∨ u.last ≠ some r.data) :
    s.subRead k u.num t =
      let w := z.setSubs k (subsRead x u (if x.items.length < 64 then some r.data else none))
      w.addItem k (.value u.num (w.timeNs u.next) r.data) u.next := by
  rcases hm with hm | hm <;> by_cases hroom : x.items.length < 64 <;>
    simp [subRead, hx, hu, hz, hr, h0, when, subsRead, ms, hm, hroom]

end DueSubscription

end State
end Sys2Proof.Machine
namespace Sys2Proof
open Machine State

/-- Settles O59: the timeouts, CLOSE, and a subscription's read by what the access answers. -/
theorem sessionTimingComplete : Obligations.SessionTimingComplete := by
  intro s t who k f x a
  refine ⟨?block, ?mailbox, ?timeout, ?close, ?subscription, ?noSession, ?notify⟩
  case block => exact fun b hx hb hd => run_eq_of_effect (eff := fun n y => y.blockQuiet false k n) (blockQuiet_of_session hx hb hd)
  case mailbox => exact fun b hb hd => run_eq_of_effect (eff := fun n y => y.blockQuiet true f n) (blockQuiet_of_mailbox hb hd)
  case timeout => exact fun hx hd => run_eq_of_effect (eff := fun n y => y.sessQuiet k n) (sessQuiet_closes hx hd)
  case close => exact fun hg => run_eq_of_effect (eff := fun _ y => closeWrite who k 1 y) (closeWrite_closes hg)
  case subscription =>
    intro u hx hu who b taken
    refine ⟨?unserved, ?ownership, ?refused, ?hardware, ?data⟩
    case unserved =>
      exact fun hr => run_eq_of_effect (eff := fun n y => y.subRead k u.num n) (subRead_unserved hx hu (odRead_unserved hr) rfl)
    case ownership =>
      exact fun e hr he ho => run_eq_of_effect (eff := fun n y => y.subRead k u.num n) (subRead_cancels hx hu (odRead_refused hr he) rfl ho)
    case refused =>
      exact fun e hr he ho h0 => run_eq_of_effect (eff := fun n y => y.subRead k u.num n) (subRead_skips hx hu (odRead_refused hr he) rfl ho h0)
    case hardware =>
      have hskip : 0x07010000 / 65536 ≠ 0x0401 := by decide
      exact fun hr he hd => run_eq_of_effect (eff := fun n y => y.subRead k u.num n)
        (subRead_skips hx hu (odRead_hardware hr he hd) rfl hskip (Nat.succ_ne_zero _))
    case data =>
      intro data hr he hd z
      have hz := odRead_answers hr he hd
      refine ⟨fun hm hl => run_eq_of_effect (eff := fun n y => y.subRead k u.num n) (subRead_unchanged hx hu hz rfl rfl hm hl), fun hm => ?_⟩
      have h := subRead_gathers hx hu hz (accept_resp _ _ _ _) rfl hm
      exact run_eq_of_effect (eff := fun n y => y.subRead k u.num n) h
  case noSession => exact fun hx n => run_eq_of_effect (eff := fun m y => y.subRead k n m) (subRead_of_no_session hx)
  case notify => exact fun hx hi hd => run_eq_of_effect (eff := fun n y => y.notifyDue k n) (notifyDue_sends hx hi hd)

end Sys2Proof
end

section
/-!
The field ports: O60.
-/

namespace Sys2Proof.Machine
namespace State

variable {s : State} {port id : Nat} {g q : EthFrame} {h : Byte} {seg frame : List Byte} {x : CanMsg} {t : Tick}

/-! ### The bridge (R356-R358) -/

/-- A frame on a port with a link is learned; then it is forwarded unless it is for the device, and taken if it is for the device or a group. -/
theorem ethRx_of_link (hs : s.served = true) (hl : s.bit Ne.LINK port = true) :
    s.ethRx port g t =
      let b := s.learn g.src port
      let c := if decide (g.dst = b.macAddr) then b else b.forward (1 - port) g t
      if (decide (g.dst = b.macAddr) || groupAddr g.dst) && g.fcsOk then c.takeFrame g t else c := by
  simp only [ethRx, hs, hl, Bool.not_true, Bool.or_false, Bool.false_eq_true, if_false]

theorem ethRx_forwards (hs : s.served = true) (hl : s.bit Ne.LINK port = true) (hd : g.dst ≠ (s.learn g.src port).macAddr)
    (hg : groupAddr g.dst = false) : s.ethRx port g t = (s.learn g.src port).forward (1 - port) g t := by
  simp [ethRx_of_link hs hl, hd, hg]

theorem ethRx_takes (hs : s.served = true) (hl : s.bit Ne.LINK port = true) (hd : g.dst = (s.learn g.src port).macAddr) (hf : g.fcsOk = true) :
    s.ethRx port g t = (s.learn g.src port).takeFrame g t := by
  rw [ethRx_of_link hs hl]
  simp only [← hd, hf, decide_true, Bool.true_or, Bool.true_and, if_true]

theorem bridgeSend_sends (hq : s.net.stored.find? (fun e => decide (e.1 = port)) = some (port, q)) (hloc : s.localEnd port ≤ t)
    (hfwd : s.fwdEnd port ≤ t) :
    s.bridgeSend port t = State.sendForward { s with net := { s.net with stored := s.net.stored.erase (port, q) } } port q t := by
  simp [bridgeSend, hq, hloc, hfwd]

theorem linkAt_changes {up : Bool} (hb : s.pwr.boot ≠ 0) : s.linkAt port up = s.linkChange port up := if_pos hb

theorem linkChange_drops_stored : ∀ e ∈ (s.linkChange port false).net.stored, e.1 ≠ port := by
  intro e he
  have he' : e ∈ s.net.stored.filter fun e => decide (e.1 ≠ port) := he
  simpa using (List.mem_filter.mp he').2

/-! ### CAN (R359, R360) -/

theorem canRx_takes (hs : s.served = true) (hen : s.bit Cn.CAN_EN 0 = true) (hst : s.rN Cn.CAN_STATE ≠ 2) (hid : id = 0x500 + s.rN Cn.CAN_NODE) :
    s.canRx id (h :: seg) t = s.canSegment h.toNat seg t := if_pos ⟨hs, hen, hst, hid⟩

theorem canQuiet_drops (hx : s.net.can = some x) (hd : x.since + 64000000 ≤ t) : s.canQuiet t = s.canDrop := by
  have hd' : x.since + 100 * ms ≤ t := hd
  simp [canQuiet, hx, hd']

theorem busOff_enters (hen : s.bit Cn.CAN_EN 0 = true) (hst : s.rN Cn.CAN_STATE ≠ 2) :
    s.busOff false = (s.set Cn.CAN_STATE 2).satInc Cn.CAN_BUSOFF 32 1 := by
  simp [busOff, hen, hst]

theorem busOff_recovers (hen : s.bit Cn.CAN_EN 0 = true) (hst : s.rN Cn.CAN_STATE = 2) : s.busOff true = s.set Cn.CAN_STATE 0 := by
  simp [busOff, hen, hst]

/-! ### The legacy port (R371, R372) -/

/-- Every FUNC but WRITE belongs to the READ row (log 69). -/
theorem legRow_read (hf : legFunc frame ≠ 2) : legRow false frame t s = s.legRx frame t := by simp [legRow, hf]

theorem legRow_write (hf : legFunc frame = 2) : legRow true frame t s = s.legRx frame t := by simp [legRow, hf]

end State
end Sys2Proof.Machine
namespace Sys2Proof
open Machine State

/-- Settles O60: the bridge, the links, CAN and the legacy port. -/
theorem fieldPortsComplete : Obligations.FieldPortsComplete := by
  intro s t port g id h seg frame a
  refine ⟨?forwards, ?takes, ?stored, ?link, ?segment, ?silence, ?enters, ?recovers, ?legRead, ?legWrite⟩
  case forwards => exact fun hs hl hd hg => run_eq_of_effect (eff := fun n x => x.ethRx port g n) (ethRx_forwards hs hl hd hg)
  case takes => exact fun hs hl hd hf => run_eq_of_effect (eff := fun n x => x.ethRx port g n) (ethRx_takes hs hl hd hf)
  case stored =>
    intro q hq hloc hfwd
    exact ⟨{ a with net := { a.net with stored := a.net.stored.erase (port.val, q) } },
      run_eq_of_effect (eff := fun n x => x.bridgeSend port n) (bridgeSend_sends hq hloc hfwd), rfl, rfl⟩
  case link =>
    exact fun hb => ⟨run_eq_of_effect (eff := fun _ x => x.linkAt port true) (linkAt_changes hb),
      _, run_eq_of_effect (eff := fun _ x => x.linkAt port false) (linkAt_changes hb), rfl, linkChange_drops_stored⟩
  case segment => exact fun hs hen hst hid => run_eq_of_effect (eff := fun n x => x.canRx id (h :: seg) n) (canRx_takes hs hen hst hid)
  case silence => exact fun x hx hd => run_eq_of_effect (eff := fun n x => x.canQuiet n) (canQuiet_drops hx hd)
  case enters => exact fun hen hst => run_eq_of_effect (eff := fun _ x => x.busOff false) (busOff_enters hen hst)
  case recovers => exact fun hen hst => run_eq_of_effect (eff := fun _ x => x.busOff true) (busOff_recovers hen hst)
  case legRead => exact fun hf => run_eq_of_effect (eff := fun n x => legRow false frame n x) (legRow_read hf)
  case legWrite => exact fun hf => run_eq_of_effect (eff := fun n x => legRow true frame n x) (legRow_write hf)

end Sys2Proof
end
